-- ==== Sys2Proof/Word.lean ====
section
/-!
DEFINITION. Bytes and the plainest arithmetic on them: little-endian layout (spec/00_scope.md R10), saturation and
serial order modulo a power of two.
-/
namespace Sys2Proof

/-- One byte of a payload or of a structure laid out in bytes. -/
abbrev Byte := BitVec 8

/-- The `n` bytes of `v`, little-endian (R10); bits of `v` above them are dropped. -/
def le : Nat → Nat → List Byte
  | 0, _ => []
  | n + 1, v => BitVec.ofNat 8 v :: le n (v / 256)

/-- The number that a little-endian byte list spells. -/
def fromLe : List Byte → Nat
  | [] => 0
  | b :: r => b.toNat + 256 * fromLe r

/-- `n` zero bytes, a RSVD field (R11). -/
def zeros (n : Nat) : List Byte := List.replicate n 0

/-- A structure given as (size, value) fields in order, as bytes. -/
def layout : List (Nat × Nat) → List Byte
  | [] => []
  | (n, v) :: r => le n v ++ layout r

/-- `n` bytes of `l` from offset `o`, zeros beyond its end. -/
def slice (l : List Byte) (o n : Nat) : List Byte :=
  let t := (l.drop o).take n
  t ++ zeros (n - t.length)

/-- The little-endian number in `n` bytes of `l` at offset `o`. -/
def field (l : List Byte) (o n : Nat) : Nat := fromLe (slice l o n)

/-- Bits `hi:lo` of `v`. -/
def bits (v hi lo : Nat) : Nat := (v / 2 ^ lo) % 2 ^ (hi + 1 - lo)

/-- Bit `i` of `v`. -/
def bit (v i : Nat) : Bool := (v / 2 ^ i) % 2 = 1

/-- 1 for true, 0 for false. -/
def b2n (b : Bool) : Nat := if b then 1 else 0

/-- `v` with bit `i` set to `b`. -/
def setBit (v i : Nat) (b : Bool) : Nat :=
  if bit v i = b then v else if b then v + 2 ^ i else v - 2 ^ i

/-- `v`, not above `m`: a saturating counter's value. -/
def sat (m v : Nat) : Nat := if v ≤ m then v else m

/-- `⌈a ÷ b⌉`; 0 when `b` is 0. -/
def ceilDiv (a b : Nat) : Nat := (a + b - 1) / b

/-- `a` is below `b` in serial order modulo 2^32 (spec/03_persistence.md R46). -/
def below32 (a b : Nat) : Bool :=
  let d := (b + 4294967296 - a % 4294967296) % 4294967296
  1 ≤ d && d ≤ 2147483647

/-- A signed 8-bit field. -/
def signed8 (v : Nat) : Int := if v % 256 < 128 then (v % 256 : Int) else (v % 256 : Int) - 256

/-- A signed 32-bit value in 32 bits. -/
def toU32 (v : Int) : Nat := (v % 4294967296).toNat

/-- The signed value of 32 bits. -/
def signed32 (v : Nat) : Int :=
  if v % 4294967296 < 2147483648 then (v % 4294967296 : Int) else (v % 4294967296 : Int) - 4294967296

/-- The integer base-2 logarithm, rounded down, of a width or a count up to 8 bits. -/
def log2w (v : Nat) : Nat := if v ≥ 8 then 3 else if v ≥ 4 then 2 else if v ≥ 2 then 1 else 0

end Sys2Proof
end

