-- ==== Sys2Proof/Syntax.lean ====
section
/-!
DEFINITION. The commands of the block: one constructor of `Instr` for each row of spec/opcode_table.json, in its order.
Each names the row's rule; its operands are what the world outside brings with the event (a message's fields, a
register's new value, the level of a ball, the measurement of an analogue part).
-/
namespace Sys2Proof

/-- The access paths of the Lexicon (spec/18_lexicon.md Table 18.2). -/
inductive Path
  | hostPf
  | hostVf (i : Fin 256)
  | field (node : Fin 128)
  | firmware
deriving DecidableEq, Repr

/-- Requests and link errors that Table 7.8 of spec/07_host_port.md answers outside the image windows. -/
inductive BadTlp
  | malformed | flowControlProtocol | receiverOverflow | dataLinkProtocol   -- row 2
  | receiverError | badTlp | badDllp | replayTimer | replayRollover         -- row 3
  | unsupported                                                             -- row 4
  | decodeDisabled                                                          -- row 5
  | poisonedWrite                                                           -- row 6
  | bar0Shape                                                               -- row 7
  | bufferEcc                       -- row 11 for a read's buffered data, row 13 outside a write's payload
  | unexpectedCompletion                                                    -- row 15
  | correctedEcc                                                            -- row 16
deriving DecidableEq, Repr

/-- The BARs of a function (spec/07_host_port.md Table 7.5). -/
inductive Bar | bar0 | bar2 | bar4
deriving DecidableEq, Repr

/-- How a request of the device fails (row 14 of Table 7.8). -/
inductive CplFail | timeout | ur | ca | poisoned
deriving DecidableEq, Repr

/-- What an MSI-X mask or unmask concerns (R270). -/
inductive MaskWhat | vector (v : Fin 256) | functionMask | msixEnable
deriving DecidableEq, Repr

/-- How a channel is reached: by its block of local number j, or by its Lexicon objects (R298). -/
inductive ChanVia | block (i : Fin 256) (j size : Nat) | lexicon (p : Path) (k : Fin 64)
deriving DecidableEq, Repr

/-- The holder of a segmented transfer (R455): a host port, or a field source node. -/
inductive PortId | host (i : Fin 256) | node (n : Fin 128)
deriving DecidableEq, Repr

/-- The key that a statement's SIGNER names (R427, Table 17.1). -/
inductive SignerKey | owner (key : List Byte) | manufacturing | other
deriving DecidableEq, Repr

/-- A statement of Table 17.2. `formOk`: MAGIC, VERSION and LENGTH are as the table gives; `sigOk`: the signature
verifies under the key that SIGNER names. -/
structure Statement where
  kind : Nat
  formOk : Bool
  serialOk : Bool
  counter : Nat
  signer : SignerKey
  body : List Byte
  sigOk : Bool
deriving DecidableEq, Repr

/-- A firmware package (R429): whether its CERT, its header and its code digest verify, and the header's fields. -/
structure FwPackage where
  certOk : Bool
  headerOk : Bool
  digestOk : Bool
  version : Nat
  step : Nat
  codeDigest : Nat
deriving DecidableEq, Repr

/-- The address of a memory request and the BAR that decodes it (R164). -/
structure BusAddr where
  bar : Bar
  addr : Nat
deriving DecidableEq, Repr

/-- Where and when a grant falls: the port, and the cycle of the clause (R227). -/
structure GrantAt where
  port : Fin 10
  cyc : Fin 128
deriving DecidableEq, Repr

/-- The commands of the block, in the order of spec/opcode_table.json. -/
inductive Instr
  /-- CLAUSE_BOUNDARY (R40): the core cycles that items 1 to 13 take in the clause (Table 2.2), then the carried passes. -/
  | clauseBoundary (cycles : List Nat)
  /-- TIMEBASE_LOCK_LOSS (R38): the timebase PLL has been out of lock for more than 2 µs. -/
  | timebaseLockLoss
  /-- TIMEBASE_RELOCK (R39): `steady` false: the PLL has just locked; true: it is still locked. -/
  | timebaseRelock (steady : Bool)
  /-- REFCLK_LOSS (R181): bit number of REFCLK_STATUS. -/
  | refclkLoss (ref : Fin 3)
  /-- POWER_ON_RESET (R36): the release of POR_N. -/
  | powerOnReset (bootSel : Fin 4) (perstHigh : Bool)
  /-- POR_N_ASSERT (R482): POR_N low for its filter time. -/
  | porNAssert
  /-- PERST_N_ASSERT (R178): PERST_N low for its filter time. -/
  | perstNAssert
  /-- HOT_RESET (R181): a hot reset, or DL_Down. -/
  | hotReset (dlDown : Bool)
  /-- PFAIL_N_INPUT (R412): the new level, and the timebase cycle of the clause. -/
  | pfailNInput (high : Bool) (cyc : Fin 128)
  /-- POWER_FAIL_DETECT (R61): the input that detects. -/
  | powerFailDetect (vsense : Bool) (cyc : Fin 128)
  /-- CUT (R64): the clause boundary after the detection. -/
  | cut
  /-- SAVE_RESEND (R66): 10 µs have passed without an acknowledgement of SAVE. -/
  | saveResend (c : Fin 8)
  /-- WARM_RESTART (R414): the return path of R414. -/
  | warmRestart (bootSel : Fin 4)
  /-- FORMAT (R78): IMAGE_COMMAND 1. -/
  | format (p : Path)
  /-- COMMIT (R16): IMAGE_COMMAND 2. -/
  | commit (p : Path)
  /-- RETRY (R82): IMAGE_COMMAND 3. -/
  | retry (p : Path)
  /-- ABANDON (R18): IMAGE_COMMAND 4. -/
  | abandon (p : Path)
  /-- SEMICOLON (R59): IMAGE_COMMAND 5. -/
  | semicolon (p : Path)
  /-- SEMICOLON_INTERVAL_ELAPSED (R58): the periodic trigger of R58. -/
  | semicolonIntervalElapsed
  /-- SEMICOLON_START (R58): a held trigger at a boundary. -/
  | semicolonStart
  /-- CKPT_STATUS (R320): a received message (Table 13.3). -/
  | ckptStatus (c : Fin 8) (l : Fin 2) (done error : Bool) (epoch count front : Nat)
  /-- CKPT_STATUS_TIMEOUT (R59): 1.25 ms without a status. -/
  | ckptStatusTimeout (c : Fin 8)
  /-- STUCK_CKPT_RESEND (R59): 1,000 ms while stuck. -/
  | stuckCkptResend (c : Fin 8)
  /-- SEAL_COMPLETE (R68): the bank write in progress ends; `failed`: a word failed its second write (R73). -/
  | sealComplete (corrected rewrites : Nat) (failed : Bool)
  /-- HOLDUP_REPORT (R50): a received message (Table 13.3). -/
  | holdupReport (c : Fin 8) (l : Fin 2) (energy rate cost : Nat)
  /-- HOLDUP_STALE (R52): GOV_REPORT_MAX_AGE has passed. -/
  | holdupStale (c : Fin 8)
  /-- GOVERNOR_ADMIT (R54): the head of the posted path is tried again. -/
  | governorAdmit
  /-- CARRIER_WAIT_EXPIRY (R82): the presence limit of check 3. -/
  | carrierWaitExpiry
  /-- READY_TIMEOUT (R82): 500 ms from the sweep PROMOTE. -/
  | readyTimeout (c : Fin 8)
  /-- RESTORE_STATUS (R85): a received message (Table 13.3). -/
  | restoreStatus (c : Fin 8) (l : Fin 2) (ready touch sweep done error : Bool) (epoch val : Nat)
  /-- TOUCH_TIMEOUT (R91): the held read of that number has waited RESTORE_TOUCH_LIMIT. -/
  | touchTimeout (id : Nat)
  /-- HOST_READ (R170): a memory read of the BAR that decodes its address. -/
  | hostRead (i : Fin 256) (a : BusAddr) (len tag : Nat)
  /-- HOST_WRITE (R54): a memory write of the BAR that decodes its address; `none` is a byte not enabled. -/
  | hostWrite (i : Fin 256) (a : BusAddr) (data : List (Option Byte)) (ep eccBad : Bool)
  /-- MALFORMED_REQUEST (R174): a request or link error of rows 2 to 7, 13, 15 and 16 of Table 7.8. -/
  | malformedRequest (k : BadTlp) (i : Fin 256) (posted : Bool) (tag : Nat)
  /-- HOST_COMPLETION (R169): a completion for a request of the device. -/
  | hostCompletion (tag : Nat) (data : List Byte)
  /-- HOST_COMPLETION_TIMEOUT (R174): how that request failed. -/
  | hostCompletionTimeout (tag : Nat) (k : CplFail)
  /-- VF_ENABLE_SET (R212): a write of the SR-IOV Control register with VF Enable 1 and VF Memory Space Enable `mse`. -/
  | vfEnableSet (mse : Bool)
  /-- VF_ENABLE_CLEAR (R162): a configuration write of the SR-IOV capability. -/
  | vfEnableClear
  /-- NUMVFS_WRITE (R212): a configuration write of NumVFs. -/
  | numvfsWrite (n : Fin 256)
  /-- PF_FLR (R213): Initiate FLR in the PF. -/
  | pfFlr
  /-- VF_FLR (R213): Initiate FLR in VF i. -/
  | vfFlr (i : Fin 256)
  /-- BAR_RESIZE (R166): a write of a BAR Size field; `decode` is Memory Space Enable of the PF (for a VF BAR, VF Memory
  Space Enable) at the write. -/
  | barResize (vf : Bool) (enc : Nat) (decode : Bool)
  /-- PF_D3HOT_ENTRY (R182): a write of the power management control register, with its PME_En. -/
  | pfD3hotEntry (pmeEn : Bool)
  /-- PF_D0_RETURN (R403): a power management write. -/
  | pfD0Return
  /-- MSIX_MASK (R270): what is masked. -/
  | msixMask (i : Fin 256) (what : MaskWhat)
  /-- MSIX_UNMASK (R268): what is unmasked. -/
  | msixUnmask (i : Fin 256) (what : MaskWhat)
  /-- BUS_MASTER_CHANGE (R182): the new Bus Master Enable. -/
  | busMasterChange (i : Fin 256) (on : Bool)
  /-- APPEND_PUBLISH (R108): a BAR4 write whose value has bit 63 clear. -/
  | appendPublish (i : Fin 256) (off len : Nat) (allBytes : Bool) (value : Nat)
  /-- APPEND_TRIM (R108): a BAR4 write whose value has bit 63 set; `value` is bits 62:0. -/
  | appendTrim (i : Fin 256) (off len : Nat) (allBytes : Bool) (value : Nat)
  /-- PENDING_ENTRY_FREE (R113): the waiting publish is tried again. -/
  | pendingEntryFree
  /-- APPEND_COAL_TIMEOUT (R115): the context. -/
  | appendCoalTimeout (n : Nat)
  /-- CTX_OPEN (R121): CTX_COMMAND 1 of context n. -/
  | ctxOpen (p : Path) (n : Nat)
  /-- CTX_CLOSE (R121): CTX_COMMAND 2. -/
  | ctxClose (p : Path) (n : Nat)
  /-- CTX_ABORT (R121): CTX_COMMAND 3. -/
  | ctxAbort (p : Path) (n : Nat)
  /-- CTX_RESUME (R121): CTX_COMMAND 4. -/
  | ctxResume (p : Path) (n : Nat)
  /-- DWORD_ENABLE (R116): a write of DWORD_ENABLE. -/
  | dwordEnable (p : Path) (i : Fin 256) (on : Bool)
  /-- PAIR (R128): MIRROR_COMMAND 1. -/
  | pair (p : Path)
  /-- UNPAIR (R130): MIRROR_COMMAND 2. -/
  | unpair (p : Path)
  /-- TAKEOVER (R148): MIRROR_COMMAND 3. -/
  | takeover (p : Path)
  /-- HANDOVER (R133): RANGE_COMMAND 1. -/
  | handover (p : Path) (r : Fin 16)
  /-- HANDOVER_TIMEOUT (R133): 100 ms without the confirming MSTATE. -/
  | handoverTimeout
  /-- FORCE_TAKEOVER (R149): RANGE_COMMAND 2. -/
  | forceTakeover (p : Path) (r : Fin 16)
  /-- ADOPT_PARTNER (R149): RANGE_COMMAND 3. -/
  | adoptPartner (p : Path) (r : Fin 16)
  /-- MCOPY (R136): a received copy of `data.length` bytes. -/
  | mcopy (pl : Fin 2) (resend : Bool) (seq ia : Nat) (data : List Byte)
  /-- MACK (R137): a received acknowledgement. -/
  | mack (pl : Fin 2) (seq : Nat)
  /-- MNAK (R137): a received refusal. -/
  | mnak (pl : Fin 2) (reason seq ia : Nat)
  /-- RCOPY (R140): a received resync copy. -/
  | rcopy (pl : Fin 2) (last : Bool) (seq ia : Nat) (data : List Byte)
  /-- RACK (R140): a received acknowledgement. -/
  | rack (pl : Fin 2) (seq : Nat)
  /-- PAIR_HELLO (R129): 128 bytes (Table 6.1). -/
  | pairHello (pl : Fin 2) (body : List Byte)
  /-- MSTATE (R133): a received message. -/
  | mstate (pl : Fin 2) (confirm : Bool) (row : Fin 16) (generation : Nat) (owner : Fin 2)
  /-- CUT_NOTICE (R151): a received message. -/
  | cutNotice (pl : Fin 2) (epoch : Nat)
  /-- RMAP (R140): 512 bits of the map from segment `first`. -/
  | rmap (pl : Fin 2) (first : Nat) (block : List Byte)
  /-- HOLD_NOTICE (R151): a received message. -/
  | holdNotice (pl : Fin 2) (entering : Bool)
  /-- RANGE_DESC (R129): a received message. -/
  | rangeDesc (pl : Fin 2) (row : Fin 16) (base segments : Nat)
  /-- MIRROR_ACK_TIMEOUT (R137): the oldest copies are tested. -/
  | mirrorAckTimeout
  /-- SPLIT_DECLARED (R142): SPLIT_TIME has passed. -/
  | splitDeclared
  /-- LEASE_REQUEST_DUE (R144): LEASE_TERM ÷ 4 has passed. -/
  | leaseRequestDue
  /-- LEASE_GRANT (R144): a received frame (Table 6.5). -/
  | leaseGrant (side : Fin 2) (pairId req result term : Nat)
  /-- TAKEOVER_GRANT (R148): a received frame (Table 6.5). -/
  | takeoverGrant (side : Fin 2) (pairId req result : Nat)
  /-- LEASE_LAPSE (R144): the validity ends. -/
  | leaseLapse
  /-- LEASE_NO_GRANT (R144): 50 ms without a grant. -/
  | leaseNoGrant
  /-- TAKEOVER_RETRY (R148): TAKEOVER_RETRY has passed. -/
  | takeoverRetry
  /-- WITNESS_NODE_WRITE (R147): a write of WITNESS_NODE. -/
  | witnessNodeWrite (p : Path) (node : Nat)
  /-- EXTENT_COMMIT (R195): VALID = 1, or a write of EXT_RECORD. -/
  | extentCommit (p : Path) (row : Nat) (record : Option (List Byte))
  /-- EXTENT_WITHDRAW (R197): VALID = 0. -/
  | extentWithdraw (p : Path) (row : Nat)
  /-- INST_RESET (R213): INST_COMMAND 1. -/
  | instReset (p : Path) (i : Fin 256)
  /-- INST_RESET_DRAIN (R213): INST_COMMAND 2. -/
  | instResetDrain (p : Path) (i : Fin 256)
  /-- INST_RESET_SQUASH (R213): INST_COMMAND 3. -/
  | instResetSquash (p : Path) (i : Fin 256)
  /-- RESET_BEGIN (R214): the boundary b of R214. -/
  | resetBegin (i : Fin 256)
  /-- DRAIN_ESCALATION (R217): the boundary of R217. -/
  | drainEscalation (i : Fin 256)
  /-- RESET_COMPLETE (R218): the boundary of R218. -/
  | resetComplete (i : Fin 256)
  /-- SCHEDULER_GRANT (R227): the port's downstream can take an entry. -/
  | schedulerGrant (g : GrantAt)
  /-- RED_HOLD_EXPIRY (R241): the leaf of the red head. -/
  | redHoldExpiry (port : Fin 10) (svc : Fin 8) (i : Fin 256)
  /-- GATE_COMMIT (R238): GATE_COMMAND 1. -/
  | gateCommit (p : Path) (port : Fin 10)
  /-- SAMPLE (R245): the sampler. -/
  | sample (j : Fin 16)
  /-- QUEUE_DOORBELL (R254): a write to the doorbell of local queue j. -/
  | queueDoorbell (i : Fin 256) (j : Nat) (size value : Nat)
  /-- QUEUE_ENABLE (R252): QUEUE_ENABLE = 1 of pool queue j. -/
  | queueEnable (p : Path) (j : Fin 4096)
  /-- QUEUE_DISABLE (R257): QUEUE_ENABLE = 0 of pool queue j. -/
  | queueDisable (p : Path) (j : Fin 4096)
  /-- QUEUE_COAL_TIMEOUT (R259): the pool queue. -/
  | queueCoalTimeout (j : Fin 4096)
  /-- CLAIM (R265): a read of the CLAIM word. -/
  | claim (i : Fin 256) (size : Nat)
  /-- COMPLETE (R266): a write of the COMPLETE word. -/
  | complete (i : Fin 256) (size value : Nat)
  /-- SELF_HOLD_WRITE (R271): a write of the HOLD word. -/
  | selfHoldWrite (i : Fin 256) (value : Nat)
  /-- HOLD_PF_WRITE (R271): a write of HOLD_PF. -/
  | holdPfWrite (p : Path) (i : Fin 256) (on : Bool)
  /-- INFLIGHT_EXPIRY (R270): the vector. -/
  | inflightExpiry (i : Fin 256) (vec : Fin 256)
  /-- WAKE_LATCH (R273): the event of Table 11.9 happens. -/
  | wakeLatch (src : Fin 32)
  /-- WAKE_STATUS_CLEAR (R273): a write of WAKE_STATUS. -/
  | wakeStatusClear (p : Path) (value : Nat)
  /-- WAKE_TIMER_EXPIRY (R273): CLAUSE_COUNT reaches WAKE_TIMER. -/
  | wakeTimerExpiry
  /-- GPIO_INPUT (R273): the level has been stable for 320 ns. -/
  | gpioInput (n : Fin 8) (level : Bool)
  /-- DMA_DOORBELL (R279): a write of DOORBELL of local channel j. -/
  | dmaDoorbell (i : Fin 256) (j size value : Nat)
  /-- DMA_ENABLE (R298): channel command 1. -/
  | dmaEnable (v : ChanVia)
  /-- DMA_DISABLE (R298): channel command 2. -/
  | dmaDisable (v : ChanVia)
  /-- DMA_RESUME (R298): channel command 3. -/
  | dmaResume (v : ChanVia)
  /-- DMA_SKIP (R298): channel command 4. -/
  | dmaSkip (v : ChanVia)
  /-- DMA_ABORT (R298): channel command 5. -/
  | dmaAbort (v : ChanVia)
  /-- SOFT_PULSE (R295): a write of SOFT_PULSE in the block of local channel j. -/
  | softPulse (i : Fin 256) (j value : Nat)
  /-- SHADOW_WRITE (R289): a write of SHADOW_RING, or of SHADOW_CTRL. -/
  | shadowWrite (v : ChanVia) (ctrl : Bool) (value : Nat)
  /-- EVENT_FABRIC_PULSE (R287): a pulse on the line. -/
  | eventFabricPulse (line : Fin 256)
  /-- DMA_BURST_ISSUE (R286): a free burst place. -/
  | dmaBurstIssue
  /-- CARRIER_CPL (R310): `poison` is the block mask, 0 for CPL. -/
  | carrierCpl (c : Fin 8) (l : Fin 2) (tag poison : Nat) (data : List Byte)
  /-- CARRIER_ACK (R310): a tagged ACK. -/
  | carrierAck (c : Fin 8) (l : Fin 2) (tag bitmap : Nat)
  /-- CONTROL_ACK (R321): an ACK with CONTROL set. -/
  | controlAck (c : Fin 8) (l : Fin 2) (op epoch : Nat)
  /-- CARRIER_NAK (R311): a received message. -/
  | carrierNak (c : Fin 8) (l : Fin 2) (tag reason : Nat)
  /-- RETRY_ROUND (R312): the slice whose round is due. -/
  | retryRound (c : Fin 8) (seg : Nat)
  /-- TAG_TIMEOUT (R317): a tag of the link has waited TAG_TIMEOUT. -/
  | tagTimeout (c : Fin 8) (l : Fin 2)
  /-- IDENT (R325): 128 bytes (Table 13.5). -/
  | ident (c : Fin 8) (l : Fin 2) (body : List Byte)
  /-- HEALTH (R327): 64 bytes (Table 13.6). -/
  | health (c : Fin 8) (l : Fin 2) (urgent : Bool) (body : List Byte)
  /-- HEALTH_STALE (R327): 5,000 ms without HEALTH. -/
  | healthStale (c : Fin 8)
  /-- WAKE_RESEND (R408): 10 ms without an acknowledgement. -/
  | wakeResend (c : Fin 8)
  /-- WAKE_TIMEOUT (R408): 50 ms without an acknowledgement. -/
  | wakeTimeout (c : Fin 8)
  /-- FU_RECEIVE (R341): 72 bytes of a flow unit of any type but NAK. -/
  | fuReceive (u : Fin 18) (fu : List Byte) (codeError : Bool)
  /-- NAK_FU (R345): 72 bytes of a NAK. -/
  | nakFu (u : Fin 18) (fu : List Byte) (codeError : Bool)
  /-- REPLAY_MARKER (R347): an accepted marker carrying M. -/
  | replayMarker (u : Fin 18) (m : Nat)
  /-- NAK_REPEAT (R344): 4 clause boundaries since the last NAK. -/
  | nakRepeat (u : Fin 18)
  /-- ACK_TIMEOUT (R348): the effective ACK timeout has passed. -/
  | ackTimeout (u : Fin 18)
  /-- CREDIT_TIMEOUT (R355): CREDIT_TIMEOUT has passed. -/
  | creditTimeout (u : Fin 18) (vc : Fin 8)
  /-- INIT (R358): a received set (Table 14.7). -/
  | init (u : Fin 18) (role vcs idx token version : Nat)
  /-- INIT_ECHO (R358): a received set. -/
  | initEcho (u : Fin 18) (token : Nat) (cyc : Fin 128)
  /-- INIT_TIMEOUT (R358): 1 ms after step 1. -/
  | initTimeout (u : Fin 18)
  /-- PAUSE_START (R359): a planned pause starts. -/
  | pauseStart (u : Fin 18) (reason width rate : Nat)
  /-- PAUSE_REQ (R359): a received set. -/
  | pauseReq (u : Fin 18) (reason width rate : Nat)
  /-- PAUSE_ACK (R359): a received set. -/
  | pauseAck (u : Fin 18)
  /-- RESUME (R361): a received set. -/
  | resume (u : Fin 18) (e : Nat) (onOff : Bool) (token width rate : Nat)
  /-- RESUME_ECHO (R359): a received set. -/
  | resumeEcho (u : Fin 18) (token : Nat) (cyc : Fin 128)
  /-- DOWN_SET (R363): a received set. -/
  | downSet (u : Fin 18) (cause : Nat)
  /-- PAUSE_LIMIT_EXPIRY (R360): PAUSE_LIMIT has passed. -/
  | pauseLimitExpiry (u : Fin 18)
  /-- LANE_LOCK_LOSS (R362): loss of symbol lock, alignment or deskew, with the raw detectors of the lane (R389). -/
  | laneLockLoss (lane : Fin 80) (los lol : Bool) (cyc : Fin 128)
  /-- LANES_READY (R362): the lanes report ready. -/
  | lanesReady (u : Fin 18)
  /-- LINK_DOWN_TIME_EXPIRY (R362): LINK_DOWN_TIME after the loss. -/
  | linkDownTimeExpiry (u : Fin 18)
  /-- RETRAIN (R386): LINK_COMMAND 1. -/
  | retrain (p : Path) (u : Fin 18)
  /-- LINK_COMMAND_DOWN (R363): LINK_COMMAND 2. -/
  | linkCommandDown (p : Path) (u : Fin 18)
  /-- LINK_ENABLE_WRITE (R363): a write of LINK_ENABLE. -/
  | linkEnableWrite (p : Path) (u : Fin 18) (on : Bool)
  /-- TRAINING_START (R380): step 1 of Table 15.5. -/
  | trainingStart (u : Fin 18)
  /-- TS_CAP (R380): 8 sets accepted on the lane. -/
  | tsCap (lane : Fin 80) (rates laneNo : Nat) (numbering : Bool) (mask : Nat) (eqFull : Bool)
  /-- TS_RATE (R381): 8 sets accepted. -/
  | tsRate (u : Fin 18) (rate token : Nat)
  /-- TS_READY (R383): 8 sets accepted on the lane. -/
  | tsReady (lane : Fin 80) (rate mask token : Nat)
  /-- EQ_REQ (R385): a received set. -/
  | eqReq (lane : Fin 80) (cm1 cp1 preset iteration : Nat)
  /-- EQ_ACK (R385): a received set, and the eye then measured. -/
  | eqAck (lane : Fin 80) (cm1 cp1 c0 : Nat) (clipped : Bool) (width height : Nat)
  /-- EQ_DONE (R385): a received set. -/
  | eqDone (lane : Fin 80) (cm1 cp1 width height : Nat)
  /-- TRAINING_TIMEOUT (R380): 20 ms since step 1. -/
  | trainingTimeout (u : Fin 18)
  /-- TRAINING_RETRY (R381): 10 ms after a failure at rate code 1. -/
  | trainingRetry (u : Fin 18)
  /-- EQ_UPDATE (R386): LANE_COMMAND 1. -/
  | eqUpdate (p : Path) (u : Fin 18)
  /-- EYE_SCAN (R392): the openings measured. -/
  | eyeScan (lane : Fin 80) (width height : Nat)
  /-- PRBS_START (R390): PRBS_COMMAND 1. -/
  | prbsStart (p : Path) (u : Fin 18)
  /-- PRBS_STOP (R390): PRBS_COMMAND 2. -/
  | prbsStop (p : Path) (u : Fin 18)
  /-- POWER_REQUEST (R403): a write of POWER_REQUEST. -/
  | powerRequest (p : Path) (target : Fin 4)
  /-- STEP_TIMEOUT (R404): the step has waited its STEP_TIMEOUT. -/
  | stepTimeout
  /-- PATROL_PASS (R410): the readings that a SENSE row finds, rows 0 to 32. -/
  | patrolPass (sensors : List Nat)
  /-- SENSOR_SAMPLE (R416): the readings of rows 0 to 16, and whether an alarm condition has lasted 10 µs. -/
  | sensorSample (sensors : List Nat) (alarm10us : Bool)
  /-- REPLAN (R418): the readings of rows 17 to 32. -/
  | replan (oscillators : List Nat)
  /-- RESTORE_CAPS (R418): REPLAN_COMMAND 1. -/
  | restoreCaps (p : Path)
  /-- AVS_STEP (R419): whether the transaction succeeds. -/
  | avsStep (ok : Bool)
  /-- AVS_RETRY (R419): whether the transaction succeeds. -/
  | avsRetry (ok : Bool)
  /-- TEST_MODE_INPUT (R445): the level of TEST_MODE. -/
  | testModeInput (high : Bool)
  /-- FW_PACKAGE (R433): the last segment arrives. -/
  | fwPackage (p : Path) (pkg : FwPackage)
  /-- ACTIVATE (R434): FW_COMMAND 1. -/
  | activate (p : Path)
  /-- CONFIRM (R438): FW_COMMAND 2; the fuse that does not read back blown. -/
  | confirm (p : Path) (failsAt : Option Nat)
  /-- INVALIDATE (R434): FW_COMMAND 3. -/
  | invalidate (p : Path)
  /-- FW_RESTART (R434): FW_COMMAND 4. -/
  | fwRestart (p : Path) (bootSel : Fin 4)
  /-- OWNER_KEY_ENROL (R435): a write of OWNER_KEY. -/
  | ownerKeyEnrol (p : Path) (key : List Byte)
  /-- OWNER_REPLACE (R435): KIND 3. -/
  | ownerReplace (p : Path) (st : Statement)
  /-- OWNER_RELEASE (R435): KIND 4. -/
  | ownerRelease (p : Path) (st : Statement)
  /-- SIGNED_CONFIG (R440): KIND 5. -/
  | signedConfig (p : Path) (st : Statement)
  /-- DEBUG_UNLOCK (R444): KIND 6. -/
  | debugUnlock (p : Path) (st : Statement)
  /-- CONFIG_LOCK_WRITE (R439): a write of CONFIG_LOCK. -/
  | configLockWrite (p : Path) (on : Bool)
  /-- ATTEST_NONCE (R443): 32 bytes. -/
  | attestNonce (p : Path) (nonce : List Byte)
  /-- ATTEST_SIGNED (R443): the signature ends. -/
  | attestSigned
  /-- DEBUG_CHALLENGE_READ (R444): a read of DEBUG_CHALLENGE. -/
  | debugChallengeRead (p : Path)
  /-- DEBUG_LOCK (R444): a write of DEBUG_STATE. -/
  | debugLock (p : Path) (value : Nat)
  /-- LEXICON_READ (R453): a REQUEST with OP READ on the port of i. -/
  | lexiconRead (i : Fin 256) (notify : Bool) (index row off len : Nat)
  /-- LEXICON_WRITE (R453): a REQUEST with OP WRITE on the port of i. -/
  | lexiconWrite (i : Fin 256) (notify last : Bool) (index row off : Nat) (data : List Byte)
  /-- REGISTER_WRITE (R453): a write of a plain object. -/
  | registerWrite (p : Path) (index row : Nat) (value : List Byte)
  /-- SEGMENT_LAPSE (R455): a gap of 1 s. -/
  | segmentLapse (port : PortId)
  /-- STORE (R457): LEX_COMMAND 1. -/
  | store (p : Path) (rewrites : Nat) (failed : Bool)
  /-- LEX_FORMAT (R459): LEX_COMMAND 2. -/
  | lexFormat (p : Path)
  /-- RELOAD (R459): LEX_COMMAND 3. -/
  | reload (p : Path)
  /-- CLEZEL_READ (R466): a received frame of function 1. -/
  | clezelRead (prio : Fin 8) (dest src : Fin 128) (seq : Fin 256) (data : List Byte)
  /-- CLEZEL_WRITE (R466): a received frame of function 2. -/
  | clezelWrite (prio : Fin 8) (dest src : Fin 128) (seq : Fin 256) (data : List Byte)
  /-- HEARTBEAT (R468): FIELD_HEARTBEAT has passed. -/
  | heartbeat
  /-- CAN_BUS_OFF (R462): the controller enters bus-off. -/
  | canBusOff
  /-- PERST_N_RELEASE (R179): PERST_N high for its filter time. -/
  | perstNRelease
  /-- HOST_LINK_STATUS_CHANGE (R184): the new state of the host link. -/
  | hostLinkStatusChange (status rate width : Nat) (flit : Bool)
  /-- REFCLK_RETURN (R181): bit number of REFCLK_STATUS. -/
  | refclkReturn (ref : Fin 3)
  /-- CONTROL_SET_RESEND (R359): 10 µs since the last set. -/
  | controlSetResend (u : Fin 18)
  /-- TRAINING_LANE_WAIT (R380): 100 µs after the first lane became good. -/
  | trainingLaneWait (u : Fin 18)
  /-- BUS_OFF_RECOVERY (R462): the controller leaves bus-off. -/
  | busOffRecovery
  /-- PME_TURN_OFF (R157): a received PME_Turn_Off message. -/
  | pmeTurnOff
deriving DecidableEq, Repr

end Sys2Proof
end

