-- ==== Sys2Proof/Config.lean ====
section
/-!
DEFINITION. What one part fixes and the free values: constants with no body, of which no proof can see a value. Each
is applied to a counter that the step advances (`draws` of the state), or to the operands it depends on.
-/
namespace Sys2Proof.Config

/-- IMAGE_ID drawn from the random source at COMMIT (spec/17_security.md R442), by draw number; 16 bytes. -/
opaque imageId : Nat → Nat

/-- DEBUG_CHALLENGE drawn at each read (R444), by draw number; 32 bytes. -/
opaque challenge : Nat → Nat

/-- A fresh TOKEN of an INIT, RESUME or TS_RATE set (spec/14_treyr_link.md R358, Table 14.7), by draw number. -/
opaque token : Nat → Nat

/-- The Falcon-1024 signature of a statement or of a seal record header (R424), by its bytes. -/
opaque signature : List Byte → Nat

/-- The SHAKE256 digest (R424) of the bytes given. -/
opaque digest : List Byte → Nat

/-- How many words of the Keep store ECC corrected in reads that no command reports (spec/03_persistence.md R73), by draw
number. -/
opaque keepCorrected : Nat → Nat

/-- DEVICE_GRADE, a fuse of the part (spec/00_scope.md R1): 1 is EL7208-AE, any other value EL7208-AC. -/
opaque grade : Nat

/-- AVS_BASE in mV, fused (spec/16_power_ageing.md Table 16.14), above its least value of 680. -/
opaque avsBase : Nat

/-- The level of VDD_IO_FLD (spec/19_electrical_package.md R484): an even value 1.8 V, an odd one 3.3 V. -/
opaque ioFldLevel : Nat

/-- Whether a Falcon-1024 signature verifies (R424): public key, signed bytes, signature. -/
opaque verifies : List Byte → List Byte → List Byte → Bool

/-- The Obkoryn root public key, whose digest the ROM holds (R426); 1,793 bytes. -/
opaque rootKey : Nat

/-- DEVICE_SERIAL, fused at test (R428). -/
opaque serial : Nat

/-- IDENTITY_CERT, fused (R428). -/
opaque identityCert : Nat

/-- MFG_CERT, fused (R428). -/
opaque mfgCert : Nat

/-- The byte that an overlapping COPY leaves within its destination range (spec/12_dma.md R284), by draw number. -/
opaque copyByte : Nat → Byte

/-- What a receiver asks for after an eye measurement of its equalisation (spec/15_treyr_lanes.md R385), by draw number:
an even value ends its tuning, an odd one names the next coefficients. -/
opaque eqChoice : Nat → Nat

/-- What a counter or detector of the line shows that no command brings (CODE_ERRORS, SKP_ADDED, SKP_REMOVED, LANE_SKEW,
the PRBS checker, CAN_TEC, CAN_REC): by object, lane and timebase cycle (spec/15_treyr_lanes.md R373, R375, R377, R390). -/
opaque measured : Nat → Nat → Nat → Nat

/-- Whether the pair of a lane is wired with its polarity inverted (spec/15_treyr_lanes.md Table 15.12, LANE_STATUS). -/
opaque inverted : Nat → Bool

/-- The running disparity of a lane after code groups that the model does not list, true when positive
(spec/15_treyr_lanes.md R372), by lane and by how often such code groups have stood on the lines. -/
opaque disparity : Nat → Nat → Bool

end Sys2Proof.Config
end

