-- ==== Sys2Proof/Machine/Table.lean ====
section
/-!
DEFINITION. Sparse tables and segment sets in canonical form. A table is a list of (key, value) pairs with strictly
rising keys; a segment set is a list of disjoint, non-adjacent half-open intervals in rising order.
-/
namespace Sys2Proof.Machine

/-- A sparse table in canonical form: keys strictly rising. -/
abbrev Tbl (α : Type) := List (Nat × α)

/-- The value at `k`, if one is listed. -/
def Tbl.find {α : Type} : Tbl α → Nat → Option α
  | [], _ => none
  | (a, v) :: r, k => if a = k then some v else Tbl.find r k

/-- The value at `k`, or `d`. -/
def Tbl.getD {α : Type} (t : Tbl α) (k : Nat) (d : α) : α := (Tbl.find t k).getD d

/-- The table with `k` unlisted. -/
def Tbl.erase {α : Type} : Tbl α → Nat → Tbl α
  | [], _ => []
  | (a, v) :: r, k => if a = k then Tbl.erase r k else (a, v) :: Tbl.erase r k

/-- The table with `v` at `k`, in order. -/
def Tbl.put {α : Type} : Tbl α → Nat → α → Tbl α
  | [], k, v => [(k, v)]
  | (a, w) :: r, k, v =>
    if a = k then (k, v) :: r else if k < a then (k, v) :: (a, w) :: r else (a, w) :: Tbl.put r k v

/-- The keys rise strictly, and all lie above `b` when one is given. -/
def Tbl.sorted {α : Type} : Option Nat → Tbl α → Bool
  | _, [] => true
  | none, (a, _) :: r => Tbl.sorted (some a) r
  | some b, (a, _) :: r => decide (b < a) && Tbl.sorted (some a) r

/-- A set of segments: half-open intervals, disjoint, not adjacent, in rising order. -/
abbrev SegSet := List (Nat × Nat)

/-- Whether `x` lies in the set. -/
def SegSet.mem : SegSet → Nat → Bool
  | [], _ => false
  | (a, b) :: r, x => (decide (a ≤ x) && decide (x < b)) || SegSet.mem r x

/-- The set with every segment from `lo` to `hi - 1` added. -/
def SegSet.addRange : SegSet → Nat → Nat → SegSet
  | [], lo, hi => if lo < hi then [(lo, hi)] else []
  | (a, b) :: r, lo, hi =>
    if hi ≤ lo then (a, b) :: r
    else if hi < a then (lo, hi) :: (a, b) :: r
    else if b < lo then (a, b) :: SegSet.addRange r lo hi
    else SegSet.addRange r (min a lo) (max b hi)

/-- The set with every segment from `lo` to `hi - 1` removed. -/
def SegSet.removeRange : SegSet → Nat → Nat → SegSet
  | [], _, _ => []
  | (a, b) :: r, lo, hi =>
    if hi ≤ lo then (a, b) :: r
    else if b ≤ lo then (a, b) :: SegSet.removeRange r lo hi
    else if hi ≤ a then (a, b) :: r
    else (if a < lo then [(a, lo)] else []) ++
      (if hi < b then (hi, b) :: r else SegSet.removeRange r lo hi)

/-- The set with segment `x` added. -/
def SegSet.add (s : SegSet) (x : Nat) : SegSet := SegSet.addRange s x (x + 1)

/-- The set with segment `x` removed. -/
def SegSet.remove (s : SegSet) (x : Nat) : SegSet := SegSet.removeRange s x (x + 1)

/-- The number of segments in the set. -/
def SegSet.card : SegSet → Nat
  | [] => 0
  | (a, b) :: r => (b - a) + SegSet.card r

/-- The number of segments of the set from `lo` to `hi - 1`. -/
def SegSet.cardIn : SegSet → Nat → Nat → Nat
  | [], _, _ => 0
  | (a, b) :: r, lo, hi => (min b hi - max a lo) + SegSet.cardIn r lo hi

/-- The union of two sets. -/
def SegSet.union : SegSet → SegSet → SegSet
  | s, [] => s
  | s, (a, b) :: r => SegSet.union (SegSet.addRange s a b) r

/-- The part of the set from `lo` to `hi - 1`. -/
def SegSet.within : SegSet → Nat → Nat → SegSet
  | [], _, _ => []
  | (a, b) :: r, lo, hi =>
    (if max a lo < min b hi then [(max a lo, min b hi)] else []) ++ SegSet.within r lo hi

/-- The lowest segment of the set at or above `x`. -/
def SegSet.next : SegSet → Nat → Option Nat
  | [], _ => none
  | (a, b) :: r, x => if x < b then some (max a x) else SegSet.next r x

/-- The members of a set, in order. -/
def SegSet.elems : SegSet → List Nat
  | [] => []
  | (a, b) :: r => (List.range (b - a)).map (a + ·) ++ SegSet.elems r

/-- The form of a segment set: intervals not empty, rising, not adjacent. -/
def SegSet.wf : Option Nat → SegSet → Bool
  | _, [] => true
  | p, (a, b) :: r =>
    decide (a < b) && (match p with | none => true | some q => decide (q < a)) && SegSet.wf (some b) r

end Sys2Proof.Machine
end

