-- ==== Sys2Proof/Machine/Regs.lean ====
section
/-!
DEFINITION. The object dictionary of the Lexicon (spec/18_lexicon.md R449 to R456, and the object tables of every
chapter). `Reg.<name>` is the packed index of R449 (bits 27:24 group, 23:8 object of unit 0, 7:0 subindex) of the
entry that the comment names; `Reg.dict` gives each entry its type, access kind, default, range, the image states in
which a write is legal, and what becomes of its value at a power loss (Table 18.4).
-/
namespace Sys2Proof.Machine

/-- The types of Table 18.1; `blob n` holds n bytes, or at most n where the object has a limit. -/
inductive ObjType | bool | u8 | u16 | u32 | u64 | i32 | q16 | blob (n : Nat)
deriving DecidableEq, Repr

/-- The access kinds of R451. -/
inductive ObjAccess | ro | rw | wo | const
deriving DecidableEq, Repr

/-- The range column of an object table. -/
inductive ObjRange
  | any
  | between (lo hi : Nat)
  | zeroOr (lo hi : Nat)
  | oneOf (l : List Nat)
  | mult (k bound : Nat)
deriving DecidableEq, Repr

/-- What becomes of an RW value at power loss (R456, Table 18.4); `none` for an entry that is not RW. -/
inductive ObjKept | none | stored | sealed | volatile
deriving DecidableEq, Repr

/-- One entry of the dictionary. `units` is the number of units of a per-unit object and 0 for any other; `rows` the
row count of a TABLE object and 0 for a plain one; bit k of `states` is set when a write is legal in image state k. -/
structure Obj where
  reg : Nat
  units : Nat
  rows : Nat
  ty : ObjType
  acc : ObjAccess
  dflt : Nat
  range : ObjRange
  states : Nat
  kept : ObjKept
deriving DecidableEq, Repr

/-- 0:0010.00 LINK_STATUS (Table 7.12). -/
abbrev Reg.hostLinkStatus : Nat := 0x0001000
/-- 0:0011.00 LINK_RATE (Table 7.12). -/
abbrev Reg.hostLinkRate : Nat := 0x0001100
/-- 0:0012.00 LINK_WIDTH (Table 7.12). -/
abbrev Reg.hostLinkWidth : Nat := 0x0001200
/-- 0:0013.00 LINK_FLIT (Table 7.12). -/
abbrev Reg.hostLinkFlit : Nat := 0x0001300
/-- 0:0014.00 LINK_RATE_MAX (Table 7.12). -/
abbrev Reg.hostLinkRateMax : Nat := 0x0001400
/-- 0:0015.00 PF_WINDOW_DEFAULT (Table 7.12). -/
abbrev Reg.pfWindowDefault : Nat := 0x0001500
/-- 0:0016.00 VF_WINDOW_DEFAULT (Table 7.12). -/
abbrev Reg.vfWindowDefault : Nat := 0x0001600
/-- 0:0017.00 PF_BAR4_SIZE (Table 7.12). -/
abbrev Reg.pfBar4Size : Nat := 0x0001700
/-- 0:0018.00 VF_BAR4_SIZE (Table 7.12). -/
abbrev Reg.vfBar4Size : Nat := 0x0001800
/-- 0:0019.00 HOST_SUBSYS_VENDOR (Table 7.12). -/
abbrev Reg.hostSubsysVendor : Nat := 0x0001900
/-- 0:001A.00 HOST_SUBSYS_ID (Table 7.12). -/
abbrev Reg.hostSubsysId : Nat := 0x0001A00
/-- 0:001B.00 LTR_ACTIVE_NS (Table 7.12). -/
abbrev Reg.ltrActiveNs : Nat := 0x0001B00
/-- 0:001C.00 LTR_IDLE_NS (Table 7.12). -/
abbrev Reg.ltrIdleNs : Nat := 0x0001C00
/-- 0:001D.00 HOST_RESIZE_REFUSED (Table 7.12). -/
abbrev Reg.hostResizeRefused : Nat := 0x0001D00
/-- 0:001E.00 HOST_RECOVERIES (Table 7.12). -/
abbrev Reg.hostRecoveries : Nat := 0x0001E00
/-- 0:001F.00 HOST_CREDIT_WAIT (Table 7.12). -/
abbrev Reg.hostCreditWait : Nat := 0x0001F00
/-- 0:0400 row i, subindex 01 HOST_FAULTS (Table 7.12). -/
abbrev Reg.hostFaults : Nat := 0x0040001
/-- 0:0400 row i, subindex 02 HOST_POISONED (Table 7.12). -/
abbrev Reg.hostPoisoned : Nat := 0x0040002
/-- 0:0400 row i, subindex 03 HOST_UR_SENT (Table 7.12). -/
abbrev Reg.hostUrSent : Nat := 0x0040003
/-- 0:0400 row i, subindex 04 HOST_CA_SENT (Table 7.12). -/
abbrev Reg.hostCaSent : Nat := 0x0040004
/-- 1:0010.00 WINDOW_OPEN (Table 8.10). -/
abbrev Reg.windowOpen : Nat := 0x1001000
/-- 1:0011.00 EXTENTS_VALID (Table 8.10). -/
abbrev Reg.extentsValid : Nat := 0x1001100
/-- 1:0012.00 TRANSLATION_FAULTS (Table 8.10). -/
abbrev Reg.translationFaults : Nat := 0x1001200
/-- 1:0400 row r, subindex 01 WIN_BASE (Table 8.11). -/
abbrev Reg.extWinBase : Nat := 0x1040001
/-- 1:0400 row r, subindex 02 IA_BASE (Table 8.11). -/
abbrev Reg.extIaBase : Nat := 0x1040002
/-- 1:0400 row r, subindex 03 PAGES (Table 8.11). -/
abbrev Reg.extPages : Nat := 0x1040003
/-- 1:0400 row r, subindex 04 RIGHTS (Table 8.11). -/
abbrev Reg.extRights : Nat := 0x1040004
/-- 1:0400 row r, subindex 05 KIND (Table 8.11). -/
abbrev Reg.extKind : Nat := 0x1040005
/-- 1:0400 row r, subindex 06 CONTEXT (Table 8.11). -/
abbrev Reg.extContext : Nat := 0x1040006
/-- 1:0400 row r, subindex 07 EXT_TAG (Table 8.11). -/
abbrev Reg.extTag : Nat := 0x1040007
/-- 1:0400 row r, subindex 08 VALID (Table 8.11). -/
abbrev Reg.extValid : Nat := 0x1040008
/-- 1:0400 row r, subindex 09 MIRROR (Table 8.11). -/
abbrev Reg.extMirror : Nat := 0x1040009
/-- 1:0400 row r, subindex 0A EXT_RECORD (Table 8.11). -/
abbrev Reg.extRecord : Nat := 0x104000A
/-- 1:0500 row i, subindex 01 WINDOW_BYTES (Table 8.10). -/
abbrev Reg.windowBytes : Nat := 0x1050001
/-- 1:0500 row i, subindex 02 HOST_DOORBELL_IGNORED (Table 8.10). -/
abbrev Reg.hostDoorbellIgnored : Nat := 0x1050002
/-- 1:0500 row i, subindex 03 GUARD_REFUSALS (Table 8.10). -/
abbrev Reg.guardRefusals : Nat := 0x1050003
/-- 2:0010.00 INSTANCES_LIVE (Table 9.6). -/
abbrev Reg.instancesLive : Nat := 0x2001000
/-- 2:0011.00 RESETS_RUNNING (Table 9.6). -/
abbrev Reg.resetsRunning : Nat := 0x2001100
/-- 2:0012.00 QUEUES_FREE (Table 9.6). -/
abbrev Reg.queuesFree : Nat := 0x2001200
/-- 2:0013.00 VF_VECTORS_FREE (Table 9.6). -/
abbrev Reg.vfVectorsFree : Nat := 0x2001300
/-- 2:0014.00 DMA_FREE (Table 9.6). -/
abbrev Reg.dmaFree : Nat := 0x2001400
/-- 2:0015.00 RESET_ESCALATIONS (Table 9.6). -/
abbrev Reg.resetEscalations : Nat := 0x2001500
/-- 2:0400 row i, subindex 01 QUEUE_FIRST (Table 9.7). -/
abbrev Reg.stQueueFirst : Nat := 0x2040001
/-- 2:0400 row i, subindex 02 QUEUE_COUNT (Table 9.7). -/
abbrev Reg.stQueueCount : Nat := 0x2040002
/-- 2:0400 row i, subindex 03 MSIX_VECTORS (Table 9.7). -/
abbrev Reg.stMsixVectors : Nat := 0x2040003
/-- 2:0400 row i, subindex 04 DMA_FIRST (Table 9.7). -/
abbrev Reg.stDmaFirst : Nat := 0x2040004
/-- 2:0400 row i, subindex 05 DMA_COUNT (Table 9.7). -/
abbrev Reg.stDmaCount : Nat := 0x2040005
/-- 2:0400 row i, subindex 06 CTX_FIRST (Table 9.7). -/
abbrev Reg.stCtxFirst : Nat := 0x2040006
/-- 2:0400 row i, subindex 07 CTX_COUNT (Table 9.7). -/
abbrev Reg.stCtxCount : Nat := 0x2040007
/-- 2:0400 row i, subindex 08 WEIGHT (Table 9.7). -/
abbrev Reg.stWeight : Nat := 0x2040008
/-- 2:0400 row i, subindex 09 FLR_MODE (Table 9.7). -/
abbrev Reg.flrMode : Nat := 0x2040009
/-- 2:0400 row i, subindex 0A DRAIN_LIMIT (Table 9.7). -/
abbrev Reg.drainLimit : Nat := 0x204000A
/-- 2:0400 row i, subindex 0B INST_STATE (Table 9.7). -/
abbrev Reg.instState : Nat := 0x204000B
/-- 2:0400 row i, subindex 0C INST_COMMAND (Table 9.7). -/
abbrev Reg.instCommand : Nat := 0x204000C
/-- 2:0400 row i, subindex 0D ASSIGN_PENDING (Table 9.7). -/
abbrev Reg.assignPending : Nat := 0x204000D
/-- 2:0400 row i, subindex 0E LAST_RESET (Table 9.7). -/
abbrev Reg.lastReset : Nat := 0x204000E
/-- 2:0400 row i, subindices 11 to 18 Effective QUEUE_FIRST to WEIGHT (Table 9.7). -/
abbrev Reg.effQueueFirst : Nat := 0x2040011
/-- 2:0400 row i, subindices 11 to 18 Effective QUEUE_FIRST to WEIGHT (Table 9.7). -/
abbrev Reg.effQueueCount : Nat := 0x2040012
/-- 2:0400 row i, subindices 11 to 18 Effective QUEUE_FIRST to WEIGHT (Table 9.7). -/
abbrev Reg.effMsixVectors : Nat := 0x2040013
/-- 2:0400 row i, subindices 11 to 18 Effective QUEUE_FIRST to WEIGHT (Table 9.7). -/
abbrev Reg.effDmaFirst : Nat := 0x2040014
/-- 2:0400 row i, subindices 11 to 18 Effective QUEUE_FIRST to WEIGHT (Table 9.7). -/
abbrev Reg.effDmaCount : Nat := 0x2040015
/-- 2:0400 row i, subindices 11 to 18 Effective QUEUE_FIRST to WEIGHT (Table 9.7). -/
abbrev Reg.effCtxFirst : Nat := 0x2040016
/-- 2:0400 row i, subindices 11 to 18 Effective QUEUE_FIRST to WEIGHT (Table 9.7). -/
abbrev Reg.effCtxCount : Nat := 0x2040017
/-- 2:0400 row i, subindices 11 to 18 Effective QUEUE_FIRST to WEIGHT (Table 9.7). -/
abbrev Reg.effWeight : Nat := 0x2040018
/-- 3:0010.00 ENTRIES_USED (Table 10.6). -/
abbrev Reg.entriesUsed : Nat := 0x3001000
/-- 3:0011.00 HAZARD_WAITS (Table 10.6). -/
abbrev Reg.hazardWaits : Nat := 0x3001100
/-- 3:0012.00 RED_HOLDS (Table 10.6). -/
abbrev Reg.redHolds : Nat := 0x3001200
/-- 3:0400 row n, subindex 01 LEAF_WEIGHT (Table 10.8). -/
abbrev Reg.leafWeight : Nat := 0x3040001
/-- 3:0400 row n, subindex 02 LEAF_RATE (Table 10.8). -/
abbrev Reg.leafRate : Nat := 0x3040002
/-- 3:0400 row n, subindex 03 LEAF_BURST (Table 10.8). -/
abbrev Reg.leafBurst : Nat := 0x3040003
/-- 3:0400 row n, subindex 04 LEAF_TOKENS (Table 10.8). -/
abbrev Reg.leafTokens : Nat := 0x3040004
/-- 3:0400 row n, subindex 05 LEAF_DEPTH (Table 10.8). -/
abbrev Reg.leafDepth : Nat := 0x3040005
/-- 3:0400 row n, subindex 06 LEAF_GRANTED (Table 10.8). -/
abbrev Reg.leafGranted : Nat := 0x3040006
/-- 3:0500 row m, subindex 01 CIR (Table 10.9). -/
abbrev Reg.meterCir : Nat := 0x3050001
/-- 3:0500 row m, subindex 02 CBS (Table 10.9). -/
abbrev Reg.meterCbs : Nat := 0x3050002
/-- 3:0500 row m, subindex 03 PIR (Table 10.9). -/
abbrev Reg.meterPir : Nat := 0x3050003
/-- 3:0500 row m, subindex 04 PBS (Table 10.9). -/
abbrev Reg.meterPbs : Nat := 0x3050004
/-- 3:0500 row m, subindices 05 to 07 GREEN_BYTES, YELLOW_BYTES, RED_BYTES (Table 10.9). -/
abbrev Reg.greenBytes : Nat := 0x3050005
/-- 3:0500 row m, subindices 05 to 07 GREEN_BYTES, YELLOW_BYTES, RED_BYTES (Table 10.9). -/
abbrev Reg.yellowBytes : Nat := 0x3050006
/-- 3:0500 row m, subindices 05 to 07 GREEN_BYTES, YELLOW_BYTES, RED_BYTES (Table 10.9). -/
abbrev Reg.redBytes : Nat := 0x3050007
/-- 3:0600 row j, subindex 01 SAMPLE_PORT (Table 10.10). -/
abbrev Reg.samplePort : Nat := 0x3060001
/-- 3:0600 row j, subindex 02 SAMPLE_SERVICE (Table 10.10). -/
abbrev Reg.sampleService : Nat := 0x3060002
/-- 3:0600 row j, subindex 03 SAMPLE_INSTANCE (Table 10.10). -/
abbrev Reg.sampleInstance : Nat := 0x3060003
/-- 3:0600 row j, subindex 04 SAMPLE_PERIOD (Table 10.10). -/
abbrev Reg.samplePeriod : Nat := 0x3060004
/-- 3:0600 row j, subindex 05 SAMPLE_QUEUE (Table 10.10). -/
abbrev Reg.sampleQueue : Nat := 0x3060005
/-- 3:0600 row j, subindex 06 SAMPLE_ENABLE (Table 10.10). -/
abbrev Reg.sampleEnable : Nat := 0x3060006
/-- 3:1000.00 PORT_RATE (Table 10.7). -/
abbrev Reg.portRate : Nat := 0x3100000
/-- 3:1001.00 PORT_BURST (Table 10.7). -/
abbrev Reg.portBurst : Nat := 0x3100100
/-- 3:1002.00 PORT_TOKENS (Table 10.7). -/
abbrev Reg.portTokens : Nat := 0x3100200
/-- 3:1003.00 LEN_ROUND (Table 10.7). -/
abbrev Reg.lenRound : Nat := 0x3100300
/-- 3:1004.00 LEN_OVERHEAD (Table 10.7). -/
abbrev Reg.lenOverhead : Nat := 0x3100400
/-- 3:1005.00 LINE_RATE (Table 10.7). -/
abbrev Reg.lineRate : Nat := 0x3100500
/-- 3:1006.00 GATE_ENABLE (Table 10.7). -/
abbrev Reg.gateEnable : Nat := 0x3100600
/-- 3:1007.00 GATE_BASE (Table 10.7). -/
abbrev Reg.gateBase : Nat := 0x3100700
/-- 3:1008.00 GATE_ROWS (Table 10.7). -/
abbrev Reg.gateRows : Nat := 0x3100800
/-- 3:1009.00 GATE_GUARD (Table 10.7). -/
abbrev Reg.gateGuard : Nat := 0x3100900
/-- 3:100A.00 GATE_COMMAND (Table 10.7). -/
abbrev Reg.gateCommand : Nat := 0x3100A00
/-- 3:100B.00 GATE_STATUS (Table 10.7). -/
abbrev Reg.gateStatus : Nat := 0x3100B00
/-- 3:100C.00 GOV_SHAPER_TOKENS (Table 10.7). -/
abbrev Reg.govShaperTokens : Nat := 0x3100C00
/-- 3:1040 row s, subindex 01 SVC_WEIGHT (Table 10.7). -/
abbrev Reg.svcWeight : Nat := 0x3104001
/-- 3:1040 row s, subindex 02 SVC_RATE (Table 10.7). -/
abbrev Reg.svcRate : Nat := 0x3104002
/-- 3:1040 row s, subindex 03 SVC_BURST (Table 10.7). -/
abbrev Reg.svcBurst : Nat := 0x3104003
/-- 3:1040 row s, subindex 04 SVC_TOKENS (Table 10.7). -/
abbrev Reg.svcTokens : Nat := 0x3104004
/-- 3:1050 row k, subindex 01 GATE_DURATION (Table 10.7). -/
abbrev Reg.gateDuration : Nat := 0x3105001
/-- 3:1050 row k, subindex 02 GATE_OPEN (Table 10.7). -/
abbrev Reg.gateOpen : Nat := 0x3105002
/-- 3:1060 row k, subindices 01, 02 GATE_ACTIVE (Table 10.7). -/
abbrev Reg.gateActiveDuration : Nat := 0x3106001
/-- 3:1060 row k, subindices 01, 02 GATE_ACTIVE (Table 10.7). -/
abbrev Reg.gateActiveOpen : Nat := 0x3106002
/-- 4:0010.00 RECORDS_WRITTEN (Table 11.10). -/
abbrev Reg.recordsWritten : Nat := 0x4001000
/-- 4:0011.00 RECORDS_LOST (Table 11.10). -/
abbrev Reg.recordsLost : Nat := 0x4001100
/-- 4:0012.00 RECORDS_DISCARDED (Table 11.10). -/
abbrev Reg.recordsDiscarded : Nat := 0x4001200
/-- 4:0013.00 MSIX_ISSUED (Table 11.10). -/
abbrev Reg.msixIssued : Nat := 0x4001300
/-- 4:0014.00 SPURIOUS_CLAIMS (Table 11.10). -/
abbrev Reg.spuriousClaims : Nat := 0x4001400
/-- 4:0015.00 BAD_COMPLETES (Table 11.10). -/
abbrev Reg.badCompletes : Nat := 0x4001500
/-- 4:0016.00 QUEUE_DOORBELLS_REFUSED (Table 11.10). -/
abbrev Reg.queueDoorbellsRefused : Nat := 0x4001600
/-- 4:0400 row j, subindex 01 QUEUE_BASE (Table 11.11). -/
abbrev Reg.queueBase : Nat := 0x4040001
/-- 4:0400 row j, subindex 02 QUEUE_SIZE (Table 11.11). -/
abbrev Reg.queueSize : Nat := 0x4040002
/-- 4:0400 row j, subindex 03 ROUTE (Table 11.11). -/
abbrev Reg.queueRoute : Nat := 0x4040003
/-- 4:0400 row j, subindex 04 COAL_COUNT (Table 11.11). -/
abbrev Reg.queueCoalCount : Nat := 0x4040004
/-- 4:0400 row j, subindex 05 COAL_TIME (Table 11.11). -/
abbrev Reg.queueCoalTime : Nat := 0x4040005
/-- 4:0400 row j, subindex 06 QUEUE_ENABLE (Table 11.11). -/
abbrev Reg.queueEnable : Nat := 0x4040006
/-- 4:0400 row j, subindex 07 PROD (Table 11.11). -/
abbrev Reg.queueProd : Nat := 0x4040007
/-- 4:0400 row j, subindex 08 CONS (Table 11.11). -/
abbrev Reg.queueCons : Nat := 0x4040008
/-- 4:0400 row j, subindex 09 LOST (Table 11.11). -/
abbrev Reg.queueLost : Nat := 0x4040009
/-- 4:0400 row j, subindex 0A DISCARDED (Table 11.11). -/
abbrev Reg.queueDiscarded : Nat := 0x404000A
/-- 4:0400 row j, subindex 0B QUEUE_OWNER (Table 11.11). -/
abbrev Reg.queueOwner : Nat := 0x404000B
/-- 4:0500 row i, subindex 01 HOLD_PF (Table 11.10). -/
abbrev Reg.holdPf : Nat := 0x4050001
/-- 4:0500 row i, subindex 02 HOLD_EFFECTIVE (Table 11.10). -/
abbrev Reg.holdEffective : Nat := 0x4050002
/-- 4:0500 row i, subindex 03 EVENTS_DROPPED (Table 11.10). -/
abbrev Reg.eventsDropped : Nat := 0x4050003
/-- 4:0500 row i, subindex 04 MGMT_RUNNING (Table 11.10). -/
abbrev Reg.mgmtRunning : Nat := 0x4050004
/-- 4:0600 row r, subindices 01 to 08 ROUTE_MEMBER (Table 11.12). -/
abbrev Reg.routeMember0 : Nat := 0x4060001
/-- 4:0600 row r, subindices 01 to 08 ROUTE_MEMBER (Table 11.12). -/
abbrev Reg.routeMember1 : Nat := 0x4060002
/-- 4:0600 row r, subindices 01 to 08 ROUTE_MEMBER (Table 11.12). -/
abbrev Reg.routeMember2 : Nat := 0x4060003
/-- 4:0600 row r, subindices 01 to 08 ROUTE_MEMBER (Table 11.12). -/
abbrev Reg.routeMember3 : Nat := 0x4060004
/-- 4:0600 row r, subindices 01 to 08 ROUTE_MEMBER (Table 11.12). -/
abbrev Reg.routeMember4 : Nat := 0x4060005
/-- 4:0600 row r, subindices 01 to 08 ROUTE_MEMBER (Table 11.12). -/
abbrev Reg.routeMember5 : Nat := 0x4060006
/-- 4:0600 row r, subindices 01 to 08 ROUTE_MEMBER (Table 11.12). -/
abbrev Reg.routeMember6 : Nat := 0x4060007
/-- 4:0600 row r, subindices 01 to 08 ROUTE_MEMBER (Table 11.12). -/
abbrev Reg.routeMember7 : Nat := 0x4060008
/-- 4:0700 row s, subindex 01 PRIORITY (Table 11.12). -/
abbrev Reg.srcPriority : Nat := 0x4070001
/-- 4:0700 row s, subindex 02 SRC_ENABLE (Table 11.12). -/
abbrev Reg.srcEnable : Nat := 0x4070002
/-- 4:0800 row i*1024+s MGMT_COUNT (Table 11.12). -/
abbrev Reg.mgmtCount : Nat := 0x4080001
/-- 4:1100.00 WAKE_ENABLE (Table 11.13). -/
abbrev Reg.wakeEnable : Nat := 0x4110000
/-- 4:1101.00 WAKE_PIN (Table 11.13). -/
abbrev Reg.wakePin : Nat := 0x4110100
/-- 4:1102.00 WAKE_STATUS (Table 11.13). -/
abbrev Reg.wakeStatus : Nat := 0x4110200
/-- 4:1103.00 WAKE_TIMER (Table 11.13). -/
abbrev Reg.wakeTimer : Nat := 0x4110300
/-- 4:1104.00 WAKE_GPIO_MODE (Table 11.13). -/
abbrev Reg.wakeGpioMode : Nat := 0x4110400
/-- 4:1105.00 WAKE_PRIO (Table 11.13). -/
abbrev Reg.wakePrio : Nat := 0x4110500
/-- 4:1106.00 WAKE_COUNT (Table 11.13). -/
abbrev Reg.wakeCount : Nat := 0x4110600
/-- 5:0010.00 DMA_BURSTS_INFLIGHT (Table 12.14). -/
abbrev Reg.dmaBurstsInflight : Nat := 0x5001000
/-- 5:0011.00 DMA_BYTES (Table 12.14). -/
abbrev Reg.dmaBytes : Nat := 0x5001100
/-- 5:0012.00 DMA_HALTS (Table 12.14). -/
abbrev Reg.dmaHalts : Nat := 0x5001200
/-- 5:0013.00 DMA_GPIO_MODE (Table 12.14). -/
abbrev Reg.dmaGpioMode : Nat := 0x5001300
/-- 5:0400 row l, subindex 01 LINE_OWNER (Table 12.14). -/
abbrev Reg.lineOwner : Nat := 0x5040001
/-- 5:0400 row l, subindex 02 LINE_SHARE (Table 12.14). -/
abbrev Reg.lineShare : Nat := 0x5040002
/-- 5:0400 row l, subindex 03 LINE_PULSES (Table 12.14). -/
abbrev Reg.linePulses : Nat := 0x5040003
/-- 5:0500 row n, subindex 01 TIMER_PERIOD (Table 12.14). -/
abbrev Reg.timerPeriod : Nat := 0x5050001
/-- 5:0500 row n, subindex 02 TIMER_PHASE (Table 12.14). -/
abbrev Reg.timerPhase : Nat := 0x5050002
/-- 5:1000.00 CH_RING_SHADOW (Table 12.15). -/
abbrev Reg.chRingShadow : Nat := 0x5100000
/-- 5:1001.00 CH_CTRL_SHADOW (Table 12.15). -/
abbrev Reg.chCtrlShadow : Nat := 0x5100100
/-- 5:1002.00 CH_RING_ACTIVE (Table 12.15). -/
abbrev Reg.chRingActive : Nat := 0x5100200
/-- 5:1003.00 CH_CTRL_ACTIVE (Table 12.15). -/
abbrev Reg.chCtrlActive : Nat := 0x5100300
/-- 5:1004.00 CH_STATE (Table 12.15). -/
abbrev Reg.chState : Nat := 0x5100400
/-- 5:1005.00 CH_PROD (Table 12.15). -/
abbrev Reg.chProd : Nat := 0x5100500
/-- 5:1006.00 CH_CONS (Table 12.15). -/
abbrev Reg.chCons : Nat := 0x5100600
/-- 5:1007.00 CH_FAULT (Table 12.15). -/
abbrev Reg.chFault : Nat := 0x5100700
/-- 5:1008.00 CH_COMMAND (Table 12.15). -/
abbrev Reg.chCommand : Nat := 0x5100800
/-- 5:1009.00 CH_REQ_COUNT (Table 12.15). -/
abbrev Reg.chReqCount : Nat := 0x5100900
/-- 5:100A.00 CH_DESCRIPTORS (Table 12.15). -/
abbrev Reg.chDescriptors : Nat := 0x5100A00
/-- 5:100B.00 CH_SHADOW_REFUSED (Table 12.15). -/
abbrev Reg.chShadowRefused : Nat := 0x5100B00
/-- 5:100C.00 CH_REQ_OVERFLOWS (Table 12.15). -/
abbrev Reg.chReqOverflows : Nat := 0x5100C00
/-- 6:0010.00 APPEND_CONTEXTS_OPEN (Table 5.9). -/
abbrev Reg.appendContextsOpen : Nat := 0x6001000
/-- 6:0011.00 APPEND_PENDING (Table 5.9). -/
abbrev Reg.appendPending : Nat := 0x6001100
/-- 6:0012.00 APPEND_PENDING_CAPACITY (Table 5.9). -/
abbrev Reg.appendPendingCapacity : Nat := 0x6001200
/-- 6:0013.00 APPEND_MIRROR_LOSS (Table 5.9). -/
abbrev Reg.appendMirrorLoss : Nat := 0x6001300
/-- 6:0014.00 APPEND_ERRORS (Table 5.9). -/
abbrev Reg.appendErrors : Nat := 0x6001400
/-- 6:0015.00 APPEND_IGNORED (Table 5.9). -/
abbrev Reg.appendIgnored : Nat := 0x6001500
/-- 6:0400 row n, subindex 01 DURABLE (Table 5.10). -/
abbrev Reg.ctxDurable : Nat := 0x6040001
/-- 6:0400 row n, subindex 02 TAIL (Table 5.10). -/
abbrev Reg.ctxTail : Nat := 0x6040002
/-- 6:0400 row n, subindex 03 HEAD (Table 5.10). -/
abbrev Reg.ctxHead : Nat := 0x6040003
/-- 6:0400 row n, subindex 04 RING_BASE (Table 5.10). -/
abbrev Reg.ctxRingBase : Nat := 0x6040004
/-- 6:0400 row n, subindex 05 RING_SIZE (Table 5.10). -/
abbrev Reg.ctxRingSize : Nat := 0x6040005
/-- 6:0400 row n, subindex 06 STATE (Table 5.10). -/
abbrev Reg.ctxState : Nat := 0x6040006
/-- 6:0400 row n, subindex 07 POLICY (Table 5.10). -/
abbrev Reg.ctxPolicy : Nat := 0x6040007
/-- 6:0400 row n, subindex 08 NOTIFY (Table 5.10). -/
abbrev Reg.ctxNotify : Nat := 0x6040008
/-- 6:0400 row n, subindex 09 ERROR (Table 5.10). -/
abbrev Reg.ctxError : Nat := 0x6040009
/-- 6:0400 row n, subindex 0A INSTANCE (Table 5.10). -/
abbrev Reg.ctxInstance : Nat := 0x604000A
/-- 6:0400 row n, subindex 0B COAL_COUNT (Table 5.10). -/
abbrev Reg.ctxCoalCount : Nat := 0x604000B
/-- 6:0400 row n, subindex 0C COAL_TIME (Table 5.10). -/
abbrev Reg.ctxCoalTime : Nat := 0x604000C
/-- 6:0400 row n, subindex 0D QUEUE (Table 5.10). -/
abbrev Reg.ctxQueue : Nat := 0x604000D
/-- 6:0400 row n, subindex 0E USER_TAG (Table 5.10). -/
abbrev Reg.ctxUserTag : Nat := 0x604000E
/-- 6:0400 row n, subindex 0F CTX_COMMAND (Table 5.10). -/
abbrev Reg.ctxCommand : Nat := 0x604000F
/-- 6:0500 row i, subindex 01 DWORD_BASE (Table 5.9). -/
abbrev Reg.dwordBase : Nat := 0x6050001
/-- 6:0500 row i, subindex 02 DWORD_ENABLE (Table 5.9). -/
abbrev Reg.dwordEnable : Nat := 0x6050002
/-- 6:0500 row i, subindex 03 PENDING_MAX (Table 5.9). -/
abbrev Reg.pendingMax : Nat := 0x6050003
/-- 6:0500 row i, subindex 04 PENDING (Table 5.9). -/
abbrev Reg.instPending : Nat := 0x6050004
/-- 6:0500 row i, subindex 05 INSTANCE_ERRORS (Table 5.9). -/
abbrev Reg.instanceErrors : Nat := 0x6050005
/-- 6:0500 row i, subindex 06 INSTANCE_IGNORED (Table 5.9). -/
abbrev Reg.instanceIgnored : Nat := 0x6050006
/-- 7:0010.00 IMAGE_STATE (Table 3.9). -/
abbrev Reg.imageState : Nat := 0x7001000
/-- 7:0011.00 IMAGE_COMMAND (Table 3.9). -/
abbrev Reg.imageCommand : Nat := 0x7001100
/-- 7:0012.00 FAULT_CAUSE (Table 3.9). -/
abbrev Reg.faultCause : Nat := 0x7001200
/-- 7:0013.00 IMAGE_SEGMENTS (Table 3.9). -/
abbrev Reg.imageSegments : Nat := 0x7001300
/-- 7:0014.00 ACTIVE_CARRIERS (Table 3.9). -/
abbrev Reg.activeCarriers : Nat := 0x7001400
/-- 7:0020.00 EPOCH (Table 3.9). -/
abbrev Reg.epoch : Nat := 0x7002000
/-- 7:0021.00 SEAL_SEQUENCE (Table 3.9). -/
abbrev Reg.sealSequence : Nat := 0x7002100
/-- 7:0022.00 SEMICOLON_STATE (Table 3.9). -/
abbrev Reg.semicolonState : Nat := 0x7002200
/-- 7:0023.00 SEMICOLON_INTERVAL (Table 3.9). -/
abbrev Reg.semicolonInterval : Nat := 0x7002300
/-- 7:0024.00 SEMICOLON_COUNT (Table 3.9). -/
abbrev Reg.semicolonCount : Nat := 0x7002400
/-- 7:0030.00 GOV_MARGIN (Table 3.9). -/
abbrev Reg.govMargin : Nat := 0x7003000
/-- 7:0031.00 GOV_SAVE_TIME (Table 3.9). -/
abbrev Reg.govSaveTime : Nat := 0x7003100
/-- 7:0032.00 GOV_SEMICOLON_PCT (Table 3.9). -/
abbrev Reg.govSemicolonPct : Nat := 0x7003200
/-- 7:0033.00 GOV_SHAPE_PCT (Table 3.9). -/
abbrev Reg.govShapePct : Nat := 0x7003300
/-- 7:0034.00 GOV_SHAPE_RELEASE_PCT (Table 3.9). -/
abbrev Reg.govShapeReleasePct : Nat := 0x7003400
/-- 7:0035.00 GOV_STALL_RELEASE_PCT (Table 3.9). -/
abbrev Reg.govStallReleasePct : Nat := 0x7003500
/-- 7:0036.00 GOV_SHAPE_FLOOR (Table 3.9). -/
abbrev Reg.govShapeFloor : Nat := 0x7003600
/-- 7:0037.00 GOV_REPORT_MAX_AGE (Table 3.9). -/
abbrev Reg.govReportMaxAge : Nat := 0x7003700
/-- 7:0040.00 KEEP_BANK (Table 3.9). -/
abbrev Reg.keepBank : Nat := 0x7004000
/-- 7:0041.00 KEEP_ECC_CORRECTED (Table 3.9). -/
abbrev Reg.keepEccCorrected : Nat := 0x7004100
/-- 7:0042.00 KEEP_REWRITES (Table 3.9). -/
abbrev Reg.keepRewrites : Nat := 0x7004200
/-- 7:0050.00 RESTART_REPORT (Table 4.6). -/
abbrev Reg.restartReport : Nat := 0x7005000
/-- 7:0051.00 RESTORE_RESIDENT (Table 4.6). -/
abbrev Reg.restoreResident : Nat := 0x7005100
/-- 7:0052.00 RESTORE_PROGRESS_STEP (Table 4.6). -/
abbrev Reg.restoreProgressStep : Nat := 0x7005200
/-- 7:0053.00 RESTORE_TOUCH_LIMIT (Table 4.6). -/
abbrev Reg.restoreTouchLimit : Nat := 0x7005300
/-- 7:0054.00 RESTART_CARRIER_WAIT (Table 4.6). -/
abbrev Reg.restartCarrierWait : Nat := 0x7005400
/-- 7:0055.00 RESTORE_TOUCH_TIMEOUTS (Table 4.6). -/
abbrev Reg.restoreTouchTimeouts : Nat := 0x7005500
/-- 7:0056.00 RESTORE_HELD_BYTES (Table 4.6). -/
abbrev Reg.restoreHeldBytes : Nat := 0x7005600
/-- 7:0057.00 RESTORE_TOUCHES (Table 4.6). -/
abbrev Reg.restoreTouches : Nat := 0x7005700
/-- 7:0058.00 RESTART_PHASE (Table 4.6). -/
abbrev Reg.restartPhase : Nat := 0x7005800
/-- 7:1000.00 HOLDUP_ENERGY (Table 3.10). -/
abbrev Reg.holdupEnergy : Nat := 0x7100000
/-- 7:1001.00 HOLDUP_SAVE_RATE (Table 3.10). -/
abbrev Reg.holdupSaveRate : Nat := 0x7100100
/-- 7:1002.00 HOLDUP_SAVE_ENERGY (Table 3.10). -/
abbrev Reg.holdupSaveEnergy : Nat := 0x7100200
/-- 7:1003.00 HOLDUP_REPORT_AGE (Table 3.10). -/
abbrev Reg.holdupReportAge : Nat := 0x7100300
/-- 7:1004.00 HOLDUP_DERATE (Table 3.10). -/
abbrev Reg.holdupDerate : Nat := 0x7100400
/-- 7:1005.00 GOV_BUDGET (Table 3.10). -/
abbrev Reg.govBudget : Nat := 0x7100500
/-- 7:1006.00 GOV_DIRTY (Table 3.10). -/
abbrev Reg.govDirty : Nat := 0x7100600
/-- 7:1007.00 GOV_STATE (Table 3.10). -/
abbrev Reg.govState : Nat := 0x7100700
/-- 7:1008.00 GOV_DESTAGE_RATE (Table 3.10). -/
abbrev Reg.govDestageRate : Nat := 0x7100800
/-- 7:1009.00 GOV_STALL_CLAUSES (Table 3.10). -/
abbrev Reg.govStallClauses : Nat := 0x7100900
/-- 7:100A.00 CKPT_PERSISTED (Table 3.10). -/
abbrev Reg.ckptPersisted : Nat := 0x7100A00
/-- 7:1010.00 RESTART_CARRIER_STATUS (Table 4.6). -/
abbrev Reg.restartCarrierStatus : Nat := 0x7101000
/-- 7:1011.00 RESTORE_SLICES (Table 4.6). -/
abbrev Reg.restoreSlices : Nat := 0x7101100
/-- 7:1012.00 RESTORE_TOUCH_PENDING (Table 4.6). -/
abbrev Reg.restoreTouchPending : Nat := 0x7101200
/-- 8:0010.00 MIRROR_STATE (Table 6.10). -/
abbrev Reg.mirrorState : Nat := 0x8001000
/-- 8:0011.00 PAIR_ID (Table 6.10). -/
abbrev Reg.pairId : Nat := 0x8001100
/-- 8:0012.00 PAIR_SIDE (Table 6.10). -/
abbrev Reg.pairSide : Nat := 0x8001200
/-- 8:0013.00 LEASE_POLICY (Table 6.10). -/
abbrev Reg.leasePolicy : Nat := 0x8001300
/-- 8:0014.00 WITNESS_NODE (Table 6.10). -/
abbrev Reg.witnessNode : Nat := 0x8001400
/-- 8:0015.00 LEASE_TERM (Table 6.10). -/
abbrev Reg.leaseTerm : Nat := 0x8001500
/-- 8:0016.00 LEASE_GUARD (Table 6.10). -/
abbrev Reg.leaseGuard : Nat := 0x8001600
/-- 8:0017.00 SPLIT_TIME (Table 6.10). -/
abbrev Reg.splitTime : Nat := 0x8001700
/-- 8:0018.00 AUTO_TAKEOVER (Table 6.10). -/
abbrev Reg.autoTakeover : Nat := 0x8001800
/-- 8:0019.00 TAKEOVER_RETRY (Table 6.10). -/
abbrev Reg.takeoverRetry : Nat := 0x8001900
/-- 8:001A.00 MIRROR_ACK_TIMEOUT (Table 6.10). -/
abbrev Reg.mirrorAckTimeout : Nat := 0x8001A00
/-- 8:001B.00 RESYNC_RATE (Table 6.10). -/
abbrev Reg.resyncRate : Nat := 0x8001B00
/-- 8:001C.00 RESYNC_PENDING (Table 6.10). -/
abbrev Reg.resyncPending : Nat := 0x8001C00
/-- 8:001D.00 LEASE_STATE (Table 6.10). -/
abbrev Reg.leaseState : Nat := 0x8001D00
/-- 8:001E.00 LEASE_REMAINING (Table 6.10). -/
abbrev Reg.leaseRemaining : Nat := 0x8001E00
/-- 8:001F.00 MIRROR_BUFFER_USED (Table 6.10). -/
abbrev Reg.mirrorBufferUsed : Nat := 0x8001F00
/-- 8:0020.00 MIRROR_ACK_TIMEOUTS (Table 6.10). -/
abbrev Reg.mirrorAckTimeouts : Nat := 0x8002000
/-- 8:0021.00 MIRROR_COPIES (Table 6.10). -/
abbrev Reg.mirrorCopies : Nat := 0x8002100
/-- 8:0022.00 MIRROR_COMMAND (Table 6.10). -/
abbrev Reg.mirrorCommand : Nat := 0x8002200
/-- 8:0400 row r, subindex 01 BASE_SEG (Table 6.11). -/
abbrev Reg.rangeBaseSeg : Nat := 0x8040001
/-- 8:0400 row r, subindex 02 SEGMENTS (Table 6.11). -/
abbrev Reg.rangeSegments : Nat := 0x8040002
/-- 8:0400 row r, subindex 03 OWNER (Table 6.11). -/
abbrev Reg.rangeOwner : Nat := 0x8040003
/-- 8:0400 row r, subindex 04 RANGE_STATE (Table 6.11). -/
abbrev Reg.rangeState : Nat := 0x8040004
/-- 8:0400 row r, subindex 05 GENERATION (Table 6.11). -/
abbrev Reg.rangeGeneration : Nat := 0x8040005
/-- 8:0400 row r, subindex 06 RANGE_RESYNC (Table 6.11). -/
abbrev Reg.rangeResync : Nat := 0x8040006
/-- 8:0400 row r, subindex 07 RANGE_COMMAND (Table 6.11). -/
abbrev Reg.rangeCommand : Nat := 0x8040007
/-- 9:0010.00 IMAGE_ID (Table 13.10). -/
abbrev Reg.imageId : Nat := 0x9001000
/-- 9:1000.00 CARRIER_STATE (Table 13.10). -/
abbrev Reg.carrierState : Nat := 0x9100000
/-- 9:1001.00 TAGS_OUTSTANDING (Table 13.10). -/
abbrev Reg.tagsOutstanding : Nat := 0x9100100
/-- 9:1002.00 NAK_RETRIES (Table 13.10). -/
abbrev Reg.nakRetries : Nat := 0x9100200
/-- 9:1003.00 TAG_TIMEOUT (Table 13.10). -/
abbrev Reg.tagTimeout : Nat := 0x9100300
/-- 9:1004.00 FAILOVERS (Table 13.10). -/
abbrev Reg.failovers : Nat := 0x9100400
/-- 9:1005.00 FAILOVER_RESENT (Table 13.10). -/
abbrev Reg.failoverResent : Nat := 0x9100500
/-- 9:1006.00 NAKS_RECEIVED (Table 13.10). -/
abbrev Reg.naksReceived : Nat := 0x9100600
/-- 9:1007.00 REQUESTS_FAILED (Table 13.10). -/
abbrev Reg.requestsFailed : Nat := 0x9100700
/-- 9:1008.00 PROTOCOL_ERRORS (Table 13.10). -/
abbrev Reg.protocolErrors : Nat := 0x9100800
/-- 9:1009.00 IDENT_BODY (Table 13.10). -/
abbrev Reg.identBody : Nat := 0x9100900
/-- 9:100A.00 HEALTH_BODY (Table 13.10). -/
abbrev Reg.healthBody : Nat := 0x9100A00
/-- 9:100B.00 HEALTH_AGE (Table 13.10). -/
abbrev Reg.healthAge : Nat := 0x9100B00
/-- 9:100C.00 TOUCH_LATE (Table 13.10). -/
abbrev Reg.touchLate : Nat := 0x9100C00
/-- 9:100D.00 AFFINITY (Table 13.10). -/
abbrev Reg.affinity : Nat := 0x9100D00
/-- A:0010.00 LINKS_UP (Table 14.16). -/
abbrev Reg.linksUp : Nat := 0xA001000
/-- A:0011.00 LINK_RTT_MAX (Table 14.16). -/
abbrev Reg.linkRttMax : Nat := 0xA001100
/-- A:1000.00 LINK_STATE (Table 14.17). -/
abbrev Reg.linkState : Nat := 0xA100000
/-- A:1001.00 LINK_ENABLE (Table 14.17). -/
abbrev Reg.linkEnable : Nat := 0xA100100
/-- A:1002.00 LINK_COMMAND (Table 14.17). -/
abbrev Reg.linkCommand : Nat := 0xA100200
/-- A:1003.00 LINK_WIDTH (Table 14.17). -/
abbrev Reg.linkWidth : Nat := 0xA100300
/-- A:1004.00 LINK_RATE (Table 14.17). -/
abbrev Reg.linkRate : Nat := 0xA100400
/-- A:1005.00 LINK_FC_MODE (Table 14.17). -/
abbrev Reg.linkFcMode : Nat := 0xA100500
/-- A:1006.00 LINK_RTT (Table 14.17). -/
abbrev Reg.linkRtt : Nat := 0xA100600
/-- A:1007.00 LINK_HEADROOM (Table 14.17). -/
abbrev Reg.linkHeadroom : Nat := 0xA100700
/-- A:1008.00 LINK_VCS (Table 14.17). -/
abbrev Reg.linkVcs : Nat := 0xA100800
/-- A:1009.00 LINK_MIN_WIDTH (Table 14.17). -/
abbrev Reg.linkMinWidth : Nat := 0xA100900
/-- A:100A.00 ACK_TIMEOUT (Table 14.17). -/
abbrev Reg.ackTimeout : Nat := 0xA100A00
/-- A:100B.00 CREDIT_TIMEOUT (Table 14.17). -/
abbrev Reg.creditTimeout : Nat := 0xA100B00
/-- A:100C.00 LINK_DOWN_TIME (Table 14.17). -/
abbrev Reg.linkDownTime : Nat := 0xA100C00
/-- A:100D.00 PAUSE_LIMIT (Table 14.17). -/
abbrev Reg.pauseLimit : Nat := 0xA100D00
/-- A:100E.00 LINK_RATE_CAP (Table 14.17). -/
abbrev Reg.linkRateCap : Nat := 0xA100E00
/-- A:100F.00 REPLAY_USED (Table 14.17). -/
abbrev Reg.replayUsed : Nat := 0xA100F00
/-- A:1010.00 TX_SEQ (Table 14.17). -/
abbrev Reg.txSeq : Nat := 0xA101000
/-- A:1011.00 RX_SEQ (Table 14.17). -/
abbrev Reg.rxSeq : Nat := 0xA101100
/-- A:1012.00 CRC_ERRORS (Table 14.17). -/
abbrev Reg.crcErrors : Nat := 0xA101200
/-- A:1013.00 NAKS_SENT (Table 14.17). -/
abbrev Reg.naksSent : Nat := 0xA101300
/-- A:1014.00 NAKS_RECEIVED (Table 14.17). -/
abbrev Reg.linkNaksReceived : Nat := 0xA101400
/-- A:1015.00 REPLAYS (Table 14.17). -/
abbrev Reg.replays : Nat := 0xA101500
/-- A:1016.00 REPLAYED_FUS (Table 14.17). -/
abbrev Reg.replayedFus : Nat := 0xA101600
/-- A:1017.00 ACK_TIMEOUTS (Table 14.17). -/
abbrev Reg.ackTimeouts : Nat := 0xA101700
/-- A:1018.00 LINK_PROTOCOL_ERRORS (Table 14.17). -/
abbrev Reg.linkProtocolErrors : Nat := 0xA101800
/-- A:1019.00 RECOVERIES (Table 14.17). -/
abbrev Reg.recoveries : Nat := 0xA101900
/-- A:101A.00 PAUSES (Table 14.17). -/
abbrev Reg.pauses : Nat := 0xA101A00
/-- A:101B.00 LINK_DOWNS (Table 14.17). -/
abbrev Reg.linkDowns : Nat := 0xA101B00
/-- A:101C.00 LAST_DOWN_CAUSE (Table 14.17). -/
abbrev Reg.lastDownCause : Nat := 0xA101C00
/-- A:101D.00 CRC_ERROR_LIMIT (Table 14.17). -/
abbrev Reg.crcErrorLimit : Nat := 0xA101D00
/-- A:101E.00 FUS_SENT (Table 14.17). -/
abbrev Reg.fusSent : Nat := 0xA101E00
/-- A:101F.00 FUS_RECEIVED (Table 14.17). -/
abbrev Reg.fusReceived : Nat := 0xA101F00
/-- B:0400 row u, subindex 01 TRAIN_RATE_MAX (Table 15.11). -/
abbrev Reg.trainRateMax : Nat := 0xB040001
/-- B:0400 row u, subindex 02 TRAINED_RATE (Table 15.11). -/
abbrev Reg.trainedRate : Nat := 0xB040002
/-- B:0400 row u, subindex 03 LANES_GOOD (Table 15.11). -/
abbrev Reg.lanesGood : Nat := 0xB040003
/-- B:0400 row u, subindex 04 LANE_MAP (Table 15.11). -/
abbrev Reg.laneMap : Nat := 0xB040004
/-- B:0400 row u, subindex 05 EQ_START_PRESET (Table 15.11). -/
abbrev Reg.eqStartPreset : Nat := 0xB040005
/-- B:0400 row u, subindex 06 EYE_MIN_WIDTH (Table 15.11). -/
abbrev Reg.eyeMinWidth : Nat := 0xB040006
/-- B:0400 row u, subindex 07 EYE_MIN_HEIGHT (Table 15.11). -/
abbrev Reg.eyeMinHeight : Nat := 0xB040007
/-- B:0400 row u, subindex 08 EYE_PERIOD (Table 15.11). -/
abbrev Reg.eyePeriod : Nat := 0xB040008
/-- B:0400 row u, subindex 09 PRBS_PATTERN (Table 15.11). -/
abbrev Reg.prbsPattern : Nat := 0xB040009
/-- B:0400 row u, subindex 0A PRBS_LANES (Table 15.11). -/
abbrev Reg.prbsLanes : Nat := 0xB04000A
/-- B:0400 row u, subindex 0B PRBS_RATE (Table 15.11). -/
abbrev Reg.prbsRate : Nat := 0xB04000B
/-- B:0400 row u, subindex 0C PRBS_COMMAND (Table 15.11). -/
abbrev Reg.prbsCommand : Nat := 0xB04000C
/-- B:0400 row u, subindex 0D PRBS_STATE (Table 15.11). -/
abbrev Reg.prbsState : Nat := 0xB04000D
/-- B:0400 row u, subindex 0E LANE_COMMAND (Table 15.11). -/
abbrev Reg.laneCommand : Nat := 0xB04000E
/-- B:0400 row u, subindex 0F TRAININGS (Table 15.11). -/
abbrev Reg.trainings : Nat := 0xB04000F
/-- B:0400 row u, subindex 10 RATE_FALLBACKS (Table 15.11). -/
abbrev Reg.rateFallbacks : Nat := 0xB040010
/-- B:1000.00 LANE_STATUS (Table 15.12). -/
abbrev Reg.laneStatus : Nat := 0xB100000
/-- B:1001.00 LOS_COUNT (Table 15.12). -/
abbrev Reg.losCount : Nat := 0xB100100
/-- B:1002.00 LOL_COUNT (Table 15.12). -/
abbrev Reg.lolCount : Nat := 0xB100200
/-- B:1003.00 CODE_ERRORS (Table 15.12). -/
abbrev Reg.codeErrors : Nat := 0xB100300
/-- B:1004.00 SKP_ADDED (Table 15.12). -/
abbrev Reg.skpAdded : Nat := 0xB100400
/-- B:1005.00 SKP_REMOVED (Table 15.12). -/
abbrev Reg.skpRemoved : Nat := 0xB100500
/-- B:1006.00 LANE_SKEW (Table 15.12). -/
abbrev Reg.laneSkew : Nat := 0xB100600
/-- B:1007.00 TX_COEFF (Table 15.12). -/
abbrev Reg.txCoeff : Nat := 0xB100700
/-- B:1008.00 TX_SWING (Table 15.12). -/
abbrev Reg.txSwing : Nat := 0xB100800
/-- B:1009.00 CTLE_MODE (Table 15.12). -/
abbrev Reg.ctleMode : Nat := 0xB100900
/-- B:100A.00 CTLE_PEAK (Table 15.12). -/
abbrev Reg.ctlePeak : Nat := 0xB100A00
/-- B:100B.00 EYE_WIDTH (Table 15.12). -/
abbrev Reg.eyeWidth : Nat := 0xB100B00
/-- B:100C.00 EYE_HEIGHT (Table 15.12). -/
abbrev Reg.eyeHeight : Nat := 0xB100C00
/-- B:100D.00 EYE_AGE (Table 15.12). -/
abbrev Reg.eyeAge : Nat := 0xB100D00
/-- B:100E.00 PRBS_BITS (Table 15.12). -/
abbrev Reg.prbsBits : Nat := 0xB100E00
/-- B:100F.00 PRBS_ERRORS (Table 15.12). -/
abbrev Reg.prbsErrors : Nat := 0xB100F00
/-- B:1010.00 PRBS_LOCKED (Table 15.12). -/
abbrev Reg.prbsLocked : Nat := 0xB101000
/-- B:1011.00 LOS_THRESHOLD (Table 15.12). -/
abbrev Reg.losThreshold : Nat := 0xB101100
/-- C:0010.00 POWER_STATE (Table 16.13). -/
abbrev Reg.powerState : Nat := 0xC001000
/-- C:0011.00 POWER_REQUEST (Table 16.13). -/
abbrev Reg.powerRequest : Nat := 0xC001100
/-- C:0012.00 TRANSITION (Table 16.13). -/
abbrev Reg.transition : Nat := 0xC001200
/-- C:0013.00 TRANSITION_STEP (Table 16.13). -/
abbrev Reg.transitionStep : Nat := 0xC001300
/-- C:0014.00 POWER_PENDING (Table 16.13). -/
abbrev Reg.powerPending : Nat := 0xC001400
/-- C:0015.00 PATROL_ON_D3 (Table 16.13). -/
abbrev Reg.patrolOnD3 : Nat := 0xC001500
/-- C:0016.00 LAST_REFUSAL (Table 16.13). -/
abbrev Reg.lastRefusal : Nat := 0xC001600
/-- C:0020.00 PFAIL_SOURCES (Table 16.13). -/
abbrev Reg.pfailSources : Nat := 0xC002000
/-- C:0021.00 PFAIL_FILTER (Table 16.13). -/
abbrev Reg.pfailFilter : Nat := 0xC002100
/-- C:0022.00 VSENSE_THRESHOLD (Table 16.13). -/
abbrev Reg.vsenseThreshold : Nat := 0xC002200
/-- C:0023.00 VSENSE_FILTER (Table 16.13). -/
abbrev Reg.vsenseFilter : Nat := 0xC002300
/-- C:0024.00 PFAIL_STATE (Table 16.13). -/
abbrev Reg.pfailState : Nat := 0xC002400
/-- C:0025.00 PFAIL_GLITCHES (Table 16.13). -/
abbrev Reg.pfailGlitches : Nat := 0xC002500
/-- C:0026.00 PFAIL_RETURN_TIME (Table 16.13). -/
abbrev Reg.pfailReturnTime : Nat := 0xC002600
/-- C:0030.00 PATROL_PERIOD (Table 16.13). -/
abbrev Reg.patrolPeriod : Nat := 0xC003000
/-- C:0031.00 PATROL_PASSES (Table 16.13). -/
abbrev Reg.patrolPasses : Nat := 0xC003100
/-- C:0032.00 PATROL_OVERRUNS (Table 16.13). -/
abbrev Reg.patrolOverruns : Nat := 0xC003200
/-- C:0400 row k, subindex 01 STEP_TIMEOUT (Table 16.13). -/
abbrev Reg.stepTimeout : Nat := 0xC040001
/-- C:0500 row r, subindex 01 PATROL_OP (Table 16.13). -/
abbrev Reg.patrolOp : Nat := 0xC050001
/-- C:0500 row r, subindex 02 PATROL_OBJECT (Table 16.13). -/
abbrev Reg.patrolObject : Nat := 0xC050002
/-- C:0500 row r, subindex 03 PATROL_TEST (Table 16.13). -/
abbrev Reg.patrolTest : Nat := 0xC050003
/-- C:0500 row r, subindex 04 PATROL_THRESHOLD (Table 16.13). -/
abbrev Reg.patrolThreshold : Nat := 0xC050004
/-- C:0500 row r, subindex 05 PATROL_FLAGS (Table 16.13). -/
abbrev Reg.patrolFlags : Nat := 0xC050005
/-- C:0500 row r, subindex 06 PATROL_HITS (Table 16.13). -/
abbrev Reg.patrolHits : Nat := 0xC050006
/-- D:0020.00 CLAUSE_COUNT (Table 2.3). -/
abbrev Reg.clauseCount : Nat := 0xD002000
/-- D:0021.00 CLAUSE_BUDGET (Table 2.3). -/
abbrev Reg.clauseBudget : Nat := 0xD002100
/-- D:0022.00 CLAUSE_OVERRUNS (Table 2.3). -/
abbrev Reg.clauseOverruns : Nat := 0xD002200
/-- D:0023.00 CLAUSE_CARRY_MAX (Table 2.3). -/
abbrev Reg.clauseCarryMax : Nat := 0xD002300
/-- D:0024.00 CORE_SSC_ENABLE (Table 2.3). -/
abbrev Reg.coreSscEnable : Nat := 0xD002400
/-- D:0025.00 TIMEBASE_STATUS (Table 2.3). -/
abbrev Reg.timebaseStatus : Nat := 0xD002500
/-- D:0026.00 REFCLK_STATUS (Table 2.3). -/
abbrev Reg.refclkStatus : Nat := 0xD002600
/-- D:0027.00 CLAUSE_ITEM_CYCLES (Table 2.3). -/
abbrev Reg.itemCyclesMax : Nat := 0xD002701
/-- D:0027.00 CLAUSE_ITEM_CYCLES (Table 2.3). -/
abbrev Reg.itemDeferrals : Nat := 0xD002702
/-- D:0030.00 TJ_MAX (Table 16.14). -/
abbrev Reg.tjMax : Nat := 0xD003000
/-- D:0031.00 TJ_ALERT (Table 16.14). -/
abbrev Reg.tjAlert : Nat := 0xD003100
/-- D:0032.00 AVS_TARGET (Table 16.14). -/
abbrev Reg.avsTarget : Nat := 0xD003200
/-- D:0033.00 AVS_BASE (Table 16.14). -/
abbrev Reg.avsBase : Nat := 0xD003300
/-- D:0034.00 REPLAN_PERIOD (Table 16.14). -/
abbrev Reg.replanPeriod : Nat := 0xD003400
/-- D:0035.00 LANE_AGE_LIMIT (Table 16.14). -/
abbrev Reg.laneAgeLimit : Nat := 0xD003500
/-- D:0036.00 REPLAN_EYE_GUARD (Table 16.14). -/
abbrev Reg.replanEyeGuard : Nat := 0xD003600
/-- D:0037.00 HOLDUP_LOOKAHEAD (Table 16.14). -/
abbrev Reg.holdupLookahead : Nat := 0xD003700
/-- D:0038.00 REPLAN_COMMAND (Table 16.14). -/
abbrev Reg.replanCommand : Nat := 0xD003800
/-- D:0039.00 REPLANS (Table 16.14). -/
abbrev Reg.replans : Nat := 0xD003900
/-- D:0040.00 POR_FILTER (Table 19.14). -/
abbrev Reg.porFilter : Nat := 0xD004000
/-- D:0041.00 PERST_FILTER (Table 19.14). -/
abbrev Reg.perstFilter : Nat := 0xD004100
/-- D:0042.00 IO_SLEW (Table 19.14). -/
abbrev Reg.ioSlew : Nat := 0xD004200
/-- D:0043.00 GPIO_DIR (Table 19.14). -/
abbrev Reg.gpioDir : Nat := 0xD004300
/-- D:0044.00 GPIO_OUT (Table 19.14). -/
abbrev Reg.gpioOut : Nat := 0xD004400
/-- D:0045.00 GPIO_IN (Table 19.14). -/
abbrev Reg.gpioIn : Nat := 0xD004500
/-- D:0046.00 IO_FLD_LEVEL (Table 19.14). -/
abbrev Reg.ioFldLevel : Nat := 0xD004600
/-- D:0047.00 DEVICE_GRADE (Table 19.14). -/
abbrev Reg.deviceGrade : Nat := 0xD004700
/-- D:0400 row n, subindex 01 SENSOR_VALUE (Table 16.14). -/
abbrev Reg.sensorValue : Nat := 0xD040001
/-- D:0400 row n, subindex 02 SENSOR_PEAK (Table 16.14). -/
abbrev Reg.sensorPeak : Nat := 0xD040002
/-- E:0010.00 DEVICE_SERIAL (Table 17.13). -/
abbrev Reg.deviceSerial : Nat := 0xE001000
/-- E:0011.00 IDENTITY_CERT (Table 17.13). -/
abbrev Reg.identityCert : Nat := 0xE001100
/-- E:0012.00 MFG_CERT (Table 17.13). -/
abbrev Reg.mfgCert : Nat := 0xE001200
/-- E:0013.00 ROLLBACK_COUNT (Table 17.13). -/
abbrev Reg.rollbackCount : Nat := 0xE001300
/-- E:0014.00 OWNER_STATE (Table 17.13). -/
abbrev Reg.ownerState : Nat := 0xE001400
/-- E:0015.00 OWNER_KEY (Table 17.13). -/
abbrev Reg.ownerKey : Nat := 0xE001500
/-- E:0016.00 OWNER_STATEMENT (Table 17.13). -/
abbrev Reg.ownerStatement : Nat := 0xE001600
/-- E:0017.00 STATEMENT_COUNTER (Table 17.13). -/
abbrev Reg.statementCounter : Nat := 0xE001700
/-- E:0018.00 STATEMENT_RESULT (Table 17.13). -/
abbrev Reg.statementResult : Nat := 0xE001800
/-- E:0019.00 CONFIG_LOCK (Table 17.13). -/
abbrev Reg.configLock : Nat := 0xE001900
/-- E:0020.00 FW_ACTIVE_SLOT (Table 17.13). -/
abbrev Reg.fwActiveSlot : Nat := 0xE002000
/-- E:0021.00 FW_PREFERRED (Table 17.13). -/
abbrev Reg.fwPreferred : Nat := 0xE002100
/-- E:0022 row s, subindex 01 FW_STATUS (Table 17.13). -/
abbrev Reg.fwStatus : Nat := 0xE002201
/-- E:0022 row s, subindex 02 FW_SLOT_VERSION (Table 17.13). -/
abbrev Reg.fwSlotVersion : Nat := 0xE002202
/-- E:0022 row s, subindex 03 FW_SLOT_STEP (Table 17.13). -/
abbrev Reg.fwSlotStep : Nat := 0xE002203
/-- E:0023.00 FW_PACKAGE (Table 17.13). -/
abbrev Reg.fwPackage : Nat := 0xE002300
/-- E:0024.00 FW_COMMAND (Table 17.13). -/
abbrev Reg.fwCommand : Nat := 0xE002400
/-- E:0030.00 ATTEST_NONCE (Table 17.13). -/
abbrev Reg.attestNonce : Nat := 0xE003000
/-- E:0031.00 ATTEST_REPORT (Table 17.13). -/
abbrev Reg.attestReport : Nat := 0xE003100
/-- E:0032.00 ATTEST_COUNT (Table 17.13). -/
abbrev Reg.attestCount : Nat := 0xE003200
/-- E:0033.00 SEAL_RECORD (Table 17.13). -/
abbrev Reg.sealRecord : Nat := 0xE003300
/-- E:0034.00 DEBUG_STATE (Table 17.13). -/
abbrev Reg.debugState : Nat := 0xE003400
/-- E:0035.00 DEBUG_CHALLENGE (Table 17.13). -/
abbrev Reg.debugChallenge : Nat := 0xE003500
/-- E:0036.00 SIGNATURES (Table 17.13). -/
abbrev Reg.signatures : Nat := 0xE003600
/-- E:0037.00 VERIFY_FAILURES (Table 17.13). -/
abbrev Reg.verifyFailures : Nat := 0xE003700
/-- F:0010.00 LEX_COMMAND (Table 18.16). -/
abbrev Reg.lexCommand : Nat := 0xF001000
/-- F:0011.00 SET_GENERATION (Table 18.16). -/
abbrev Reg.setGeneration : Nat := 0xF001100
/-- F:0012.00 SET_COPY (Table 18.16). -/
abbrev Reg.setCopy : Nat := 0xF001200
/-- F:0013.00 SET_SKIPPED (Table 18.16). -/
abbrev Reg.setSkipped : Nat := 0xF001300
/-- F:0014.00 LEX_REQUESTS (Table 18.16). -/
abbrev Reg.lexRequests : Nat := 0xF001400
/-- F:0015.00 LEX_ABORTS (Table 18.16). -/
abbrev Reg.lexAborts : Nat := 0xF001500
/-- F:0400 row i, subindex 01 LEX_PORT_COLLISIONS (Table 18.16). -/
abbrev Reg.lexPortCollisions : Nat := 0xF040001
/-- F:1100.00 FIELD_NODE_ID (Table 18.16). -/
abbrev Reg.fieldNodeId : Nat := 0xF110000
/-- F:1101.00 FIELD_ACCESS (Table 18.16). -/
abbrev Reg.fieldAccess : Nat := 0xF110100
/-- F:1102.00 CAN_DATA_RATE (Table 18.16). -/
abbrev Reg.canDataRate : Nat := 0xF110200
/-- F:1103.00 CAN_BRS (Table 18.16). -/
abbrev Reg.canBrs : Nat := 0xF110300
/-- F:1104.00 FIELD_HEARTBEAT (Table 18.16). -/
abbrev Reg.fieldHeartbeat : Nat := 0xF110400
/-- F:1105.00 FIELD_EVENT_PRIO (Table 18.16). -/
abbrev Reg.fieldEventPrio : Nat := 0xF110500
/-- F:1106.00 FIELD_EVENT_NODE (Table 18.16). -/
abbrev Reg.fieldEventNode : Nat := 0xF110600
/-- F:1107.00 CAN_STATE (Table 18.16). -/
abbrev Reg.canState : Nat := 0xF110700
/-- F:1108.00 CAN_TEC (Table 18.16). -/
abbrev Reg.canTec : Nat := 0xF110800
/-- F:1109.00 CAN_REC (Table 18.16). -/
abbrev Reg.canRec : Nat := 0xF110900
/-- F:110A.00 CAN_BUS_OFFS (Table 18.16). -/
abbrev Reg.canBusOffs : Nat := 0xF110A00
/-- F:110B.00 FIELD_FRAMES_RX (Table 18.16). -/
abbrev Reg.fieldFramesRx : Nat := 0xF110B00
/-- F:110C.00 FIELD_FRAMES_TX (Table 18.16). -/
abbrev Reg.fieldFramesTx : Nat := 0xF110C00
/-- F:110D.00 FIELD_DUPLICATES (Table 18.16). -/
abbrev Reg.fieldDuplicates : Nat := 0xF110D00
/-- F:110E.00 FIELD_IGNORED (Table 18.16). -/
abbrev Reg.fieldIgnored : Nat := 0xF110E00
/-- F:110F.00 FIELD_SEG_LAPSED (Table 18.16). -/
abbrev Reg.fieldSegLapsed : Nat := 0xF110F00

/-- Entries of group 0x0, part 1. -/
def Reg.dict0a : List Obj := [
  ⟨Reg.hostLinkStatus, 0, 0, .u8, .ro, 0, .any, 127, .none⟩,
  ⟨Reg.hostLinkRate, 0, 0, .u8, .ro, 0, .any, 127, .none⟩,
  ⟨Reg.hostLinkWidth, 0, 0, .u8, .ro, 0, .any, 127, .none⟩,
  ⟨Reg.hostLinkFlit, 0, 0, .bool, .ro, 0, .between 0 1, 127, .none⟩,
  ⟨Reg.hostLinkRateMax, 0, 0, .u8, .rw, 6, .between 1 6, 127, .stored⟩,
  ⟨Reg.pfWindowDefault, 0, 0, .u8, .rw, 16, .between 16 22, 127, .stored⟩,
  ⟨Reg.vfWindowDefault, 0, 0, .u8, .rw, 16, .between 10 22, 127, .stored⟩,
  ⟨Reg.pfBar4Size, 0, 0, .u8, .rw, 21, .between 12 21, 127, .stored⟩,
  ⟨Reg.vfBar4Size, 0, 0, .u8, .rw, 14, .between 12 21, 127, .stored⟩,
  ⟨Reg.hostSubsysVendor, 0, 0, .u16, .rw, 8116, .any, 127, .stored⟩,
  ⟨Reg.hostSubsysId, 0, 0, .u16, .rw, 1, .any, 127, .stored⟩,
  ⟨Reg.ltrActiveNs, 0, 0, .u32, .rw, 1000, .between 0 1000000, 127, .stored⟩,
  ⟨Reg.ltrIdleNs, 0, 0, .u32, .rw, 100000, .between 0 1000000, 127, .stored⟩,
  ⟨Reg.hostResizeRefused, 0, 0, .u32, .ro, 0, .any, 127, .none⟩,
  ⟨Reg.hostRecoveries, 0, 0, .u32, .ro, 0, .any, 127, .none⟩,
  ⟨Reg.hostCreditWait, 0, 0, .u64, .ro, 0, .any, 127, .none⟩,
  ⟨Reg.hostFaults, 0, 256, .u32, .ro, 0, .any, 127, .none⟩,
  ⟨Reg.hostPoisoned, 0, 256, .u32, .ro, 0, .any, 127, .none⟩,
  ⟨Reg.hostUrSent, 0, 256, .u32, .ro, 0, .any, 127, .none⟩,
  ⟨Reg.hostCaSent, 0, 256, .u32, .ro, 0, .any, 127, .none⟩]
/-- Entries of group 0x1, part 1. -/
def Reg.dict1a : List Obj := [
  ⟨Reg.windowOpen, 0, 0, .bool, .ro, 0, .between 0 1, 127, .none⟩,
  ⟨Reg.extentsValid, 0, 0, .u16, .ro, 0, .any, 127, .none⟩,
  ⟨Reg.translationFaults, 0, 0, .u32, .ro, 0, .any, 127, .none⟩,
  ⟨Reg.extWinBase, 0, 16384, .u64, .rw, 0, .mult 4096 4398046511104, 14, .sealed⟩,
  ⟨Reg.extIaBase, 0, 16384, .u64, .rw, 0, .mult 4096 4398046511104, 14, .sealed⟩,
  ⟨Reg.extPages, 0, 16384, .u32, .rw, 0, .between 1 1073741824, 14, .sealed⟩,
  ⟨Reg.extRights, 0, 16384, .u8, .rw, 0, .between 0 3, 14, .sealed⟩,
  ⟨Reg.extKind, 0, 16384, .u8, .rw, 0, .between 0 1, 14, .sealed⟩,
  ⟨Reg.extContext, 0, 16384, .u32, .rw, 0, .between 0 262143, 14, .sealed⟩,
  ⟨Reg.extTag, 0, 16384, .u32, .rw, 0, .any, 14, .sealed⟩,
  ⟨Reg.extValid, 0, 16384, .bool, .rw, 0, .between 0 1, 14, .sealed⟩,
  ⟨Reg.extMirror, 0, 16384, .u8, .ro, 0, .any, 127, .none⟩,
  ⟨Reg.extRecord, 0, 16384, .blob 32, .rw, 0, .oneOf [32], 14, .sealed⟩,
  ⟨Reg.windowBytes, 0, 256, .u64, .ro, 0, .any, 127, .none⟩,
  ⟨Reg.hostDoorbellIgnored, 0, 256, .u32, .ro, 0, .any, 127, .none⟩,
  ⟨Reg.guardRefusals, 0, 256, .u32, .ro, 0, .any, 127, .none⟩]
/-- Entries of group 0x2, part 1. MSIX_VECTORS of row 0 is 256 in a U8 (Table 9.7): the value in effect is 256, and its one
byte reads 0 (DESIGN CHOICE, log 95). -/
def Reg.dict2a : List Obj := [
  ⟨Reg.instancesLive, 0, 0, .u16, .ro, 1, .any, 127, .none⟩,
  ⟨Reg.resetsRunning, 0, 0, .u16, .ro, 0, .any, 127, .none⟩,
  ⟨Reg.queuesFree, 0, 0, .u16, .ro, 4032, .any, 127, .none⟩,
  ⟨Reg.vfVectorsFree, 0, 0, .u16, .ro, 8192, .any, 127, .none⟩,
  ⟨Reg.dmaFree, 0, 0, .u8, .ro, 48, .any, 127, .none⟩,
  ⟨Reg.resetEscalations, 0, 0, .u32, .ro, 0, .any, 127, .none⟩,
  ⟨Reg.stQueueFirst, 0, 256, .u16, .rw, 0, .between 0 4095, 95, .stored⟩,
  ⟨Reg.stQueueCount, 0, 256, .u8, .rw, 64, .between 0 64, 95, .stored⟩,
  ⟨Reg.stMsixVectors, 0, 256, .u8, .rw, 256, .between 0 64, 95, .stored⟩,
  ⟨Reg.stDmaFirst, 0, 256, .u8, .rw, 0, .between 0 63, 95, .stored⟩,
  ⟨Reg.stDmaCount, 0, 256, .u8, .rw, 16, .between 0 64, 95, .stored⟩,
  ⟨Reg.stCtxFirst, 0, 256, .u32, .rw, 0, .mult 512 262144, 95, .stored⟩,
  ⟨Reg.stCtxCount, 0, 256, .u32, .rw, 4096, .mult 512 262145, 95, .stored⟩,
  ⟨Reg.stWeight, 0, 256, .u16, .rw, 16, .between 1 1024, 95, .stored⟩,
  ⟨Reg.flrMode, 0, 256, .u8, .rw, 0, .oneOf [0, 1], 95, .stored⟩,
  ⟨Reg.drainLimit, 0, 256, .u8, .rw, 50, .between 1 90, 95, .stored⟩,
  ⟨Reg.instState, 0, 256, .u8, .ro, 1, .any, 127, .none⟩,
  ⟨Reg.instCommand, 0, 256, .u8, .wo, 0, .between 1 3, 95, .none⟩,
  ⟨Reg.assignPending, 0, 256, .bool, .ro, 0, .between 0 1, 127, .none⟩,
  ⟨Reg.lastReset, 0, 256, .blob 24, .ro, 0, .any, 127, .none⟩,
  ⟨Reg.effQueueFirst, 0, 256, .u16, .ro, 0, .any, 127, .none⟩,
  ⟨Reg.effQueueCount, 0, 256, .u8, .ro, 0, .any, 127, .none⟩,
  ⟨Reg.effMsixVectors, 0, 256, .u8, .ro, 0, .any, 127, .none⟩,
  ⟨Reg.effDmaFirst, 0, 256, .u8, .ro, 0, .any, 127, .none⟩]
/-- Entries of group 0x2, part 2. -/
def Reg.dict2b : List Obj := [
  ⟨Reg.effDmaCount, 0, 256, .u8, .ro, 0, .any, 127, .none⟩,
  ⟨Reg.effCtxFirst, 0, 256, .u32, .ro, 0, .any, 127, .none⟩,
  ⟨Reg.effCtxCount, 0, 256, .u32, .ro, 0, .any, 127, .none⟩,
  ⟨Reg.effWeight, 0, 256, .u16, .ro, 0, .any, 127, .none⟩]
/-- Entries of group 0x3, part 1. -/
def Reg.dict3a : List Obj := [
  ⟨Reg.entriesUsed, 0, 0, .u16, .ro, 0, .any, 127, .none⟩,
  ⟨Reg.hazardWaits, 0, 0, .u64, .ro, 0, .any, 127, .none⟩,
  ⟨Reg.redHolds, 0, 0, .u64, .ro, 0, .any, 127, .none⟩,
  ⟨Reg.leafWeight, 0, 20480, .u16, .rw, 0, .between 1 1024, 95, .stored⟩,
  ⟨Reg.leafRate, 0, 20480, .u32, .rw, 0, .zeroOr 100 128000, 95, .stored⟩,
  ⟨Reg.leafBurst, 0, 20480, .u32, .rw, 65536, .between 4096 16777216, 95, .stored⟩,
  ⟨Reg.leafTokens, 0, 20480, .i32, .ro, 0, .any, 127, .none⟩,
  ⟨Reg.leafDepth, 0, 20480, .u16, .ro, 0, .any, 127, .none⟩,
  ⟨Reg.leafGranted, 0, 20480, .u64, .ro, 0, .any, 127, .none⟩,
  ⟨Reg.meterCir, 0, 512, .u32, .rw, 0, .zeroOr 100 128000, 95, .stored⟩,
  ⟨Reg.meterCbs, 0, 512, .u32, .rw, 65536, .between 4096 16777216, 95, .stored⟩,
  ⟨Reg.meterPir, 0, 512, .u32, .rw, 0, .between 0 128000, 95, .stored⟩,
  ⟨Reg.meterPbs, 0, 512, .u32, .rw, 131072, .between 4096 16777216, 95, .stored⟩,
  ⟨Reg.greenBytes, 0, 512, .u64, .ro, 0, .any, 127, .none⟩,
  ⟨Reg.yellowBytes, 0, 512, .u64, .ro, 0, .any, 127, .none⟩,
  ⟨Reg.redBytes, 0, 512, .u64, .ro, 0, .any, 127, .none⟩,
  ⟨Reg.samplePort, 0, 16, .u8, .rw, 0, .between 0 9, 95, .stored⟩,
  ⟨Reg.sampleService, 0, 16, .u8, .rw, 8, .between 0 8, 95, .stored⟩,
  ⟨Reg.sampleInstance, 0, 16, .u16, .rw, 256, .between 0 256, 95, .stored⟩,
  ⟨Reg.samplePeriod, 0, 16, .u16, .rw, 1953, .between 1 65535, 95, .stored⟩,
  ⟨Reg.sampleQueue, 0, 16, .u16, .rw, 0, .between 0 4095, 95, .stored⟩,
  ⟨Reg.sampleEnable, 0, 16, .bool, .rw, 0, .between 0 1, 95, .stored⟩,
  ⟨Reg.portRate, 10, 0, .u32, .rw, 0, .zeroOr 100 128000, 95, .stored⟩,
  ⟨Reg.portBurst, 10, 0, .u32, .rw, 65536, .between 4096 16777216, 95, .stored⟩]
/-- Entries of group 0x3, part 2. -/
def Reg.dict3b : List Obj := [
  ⟨Reg.portTokens, 10, 0, .i32, .ro, 0, .any, 127, .none⟩,
  ⟨Reg.lenRound, 10, 0, .u16, .rw, 0, .oneOf [1, 4, 16, 64], 95, .stored⟩,
  ⟨Reg.lenOverhead, 10, 0, .u16, .rw, 0, .between 0 255, 95, .stored⟩,
  ⟨Reg.lineRate, 10, 0, .u32, .ro, 0, .any, 127, .none⟩,
  ⟨Reg.gateEnable, 10, 0, .bool, .rw, 0, .between 0 1, 95, .stored⟩,
  ⟨Reg.gateBase, 10, 0, .u64, .rw, 0, .any, 95, .stored⟩,
  ⟨Reg.gateRows, 10, 0, .u8, .rw, 0, .between 0 64, 95, .stored⟩,
  ⟨Reg.gateGuard, 10, 0, .u16, .rw, 0, .between 0 10000, 95, .stored⟩,
  ⟨Reg.gateCommand, 10, 0, .u8, .wo, 0, .between 1 1, 95, .none⟩,
  ⟨Reg.gateStatus, 10, 0, .u8, .ro, 0, .any, 127, .none⟩,
  ⟨Reg.govShaperTokens, 10, 0, .i32, .ro, 0, .any, 127, .none⟩,
  ⟨Reg.svcWeight, 10, 8, .u16, .rw, 64, .between 1 1024, 95, .stored⟩,
  ⟨Reg.svcRate, 10, 8, .u32, .rw, 0, .zeroOr 100 128000, 95, .stored⟩,
  ⟨Reg.svcBurst, 10, 8, .u32, .rw, 65536, .between 4096 16777216, 95, .stored⟩,
  ⟨Reg.svcTokens, 10, 8, .i32, .ro, 0, .any, 127, .none⟩,
  ⟨Reg.gateDuration, 10, 64, .u16, .rw, 1, .between 1 65535, 95, .stored⟩,
  ⟨Reg.gateOpen, 10, 64, .u8, .rw, 255, .any, 95, .stored⟩,
  ⟨Reg.gateActiveDuration, 10, 64, .u16, .ro, 0, .any, 127, .none⟩,
  ⟨Reg.gateActiveOpen, 10, 64, .u8, .ro, 0, .any, 127, .none⟩]
/-- Entries of group 0x4, part 1. -/
def Reg.dict4a : List Obj := [
  ⟨Reg.recordsWritten, 0, 0, .u64, .ro, 0, .any, 127, .none⟩,
  ⟨Reg.recordsLost, 0, 0, .u32, .ro, 0, .any, 127, .none⟩,
  ⟨Reg.recordsDiscarded, 0, 0, .u32, .ro, 0, .any, 127, .none⟩,
  ⟨Reg.msixIssued, 0, 0, .u64, .ro, 0, .any, 127, .none⟩,
  ⟨Reg.spuriousClaims, 0, 0, .u32, .ro, 0, .any, 127, .none⟩,
  ⟨Reg.badCompletes, 0, 0, .u32, .ro, 0, .any, 127, .none⟩,
  ⟨Reg.queueDoorbellsRefused, 0, 0, .u32, .ro, 0, .any, 127, .none⟩,
  ⟨Reg.queueBase, 0, 4096, .u64, .rw, 0, .mult 4096 18446744073709551616, 95, .volatile⟩,
  ⟨Reg.queueSize, 0, 4096, .u8, .rw, 6, .between 6 16, 95, .volatile⟩,
  ⟨Reg.queueRoute, 0, 4096, .u16, .rw, 0, .between 0 511, 95, .volatile⟩,
  ⟨Reg.queueCoalCount, 0, 4096, .u8, .rw, 1, .between 1 255, 95, .volatile⟩,
  ⟨Reg.queueCoalTime, 0, 4096, .u16, .rw, 4, .between 1 65535, 95, .volatile⟩,
  ⟨Reg.queueEnable, 0, 4096, .bool, .rw, 0, .between 0 1, 95, .volatile⟩,
  ⟨Reg.queueProd, 0, 4096, .u32, .ro, 0, .any, 127, .none⟩,
  ⟨Reg.queueCons, 0, 4096, .u32, .ro, 0, .any, 127, .none⟩,
  ⟨Reg.queueLost, 0, 4096, .u32, .ro, 0, .any, 127, .none⟩,
  ⟨Reg.queueDiscarded, 0, 4096, .u32, .ro, 0, .any, 127, .none⟩,
  ⟨Reg.queueOwner, 0, 4096, .u8, .ro, 0, .any, 127, .none⟩,
  ⟨Reg.holdPf, 0, 256, .bool, .rw, 0, .between 0 1, 95, .volatile⟩,
  ⟨Reg.holdEffective, 0, 256, .bool, .ro, 0, .between 0 1, 127, .none⟩,
  ⟨Reg.eventsDropped, 0, 256, .u32, .ro, 0, .any, 127, .none⟩,
  ⟨Reg.mgmtRunning, 0, 256, .u8, .ro, 255, .any, 127, .none⟩,
  ⟨Reg.routeMember0, 0, 512, .u32, .rw, 0, .any, 95, .volatile⟩,
  ⟨Reg.routeMember1, 0, 512, .u32, .rw, 0, .any, 95, .volatile⟩]
/-- Entries of group 0x4, part 2. -/
def Reg.dict4b : List Obj := [
  ⟨Reg.routeMember2, 0, 512, .u32, .rw, 0, .any, 95, .volatile⟩,
  ⟨Reg.routeMember3, 0, 512, .u32, .rw, 0, .any, 95, .volatile⟩,
  ⟨Reg.routeMember4, 0, 512, .u32, .rw, 0, .any, 95, .volatile⟩,
  ⟨Reg.routeMember5, 0, 512, .u32, .rw, 0, .any, 95, .volatile⟩,
  ⟨Reg.routeMember6, 0, 512, .u32, .rw, 0, .any, 95, .volatile⟩,
  ⟨Reg.routeMember7, 0, 512, .u32, .rw, 0, .any, 95, .volatile⟩,
  ⟨Reg.srcPriority, 0, 1023, .u8, .rw, 8, .between 0 15, 95, .stored⟩,
  ⟨Reg.srcEnable, 0, 1023, .bool, .rw, 1, .between 0 1, 95, .stored⟩,
  ⟨Reg.mgmtCount, 0, 262144, .u8, .ro, 0, .any, 127, .none⟩,
  ⟨Reg.wakeEnable, 0, 0, .u32, .rw, 0, .any, 127, .stored⟩,
  ⟨Reg.wakePin, 0, 0, .u32, .rw, 0, .any, 127, .stored⟩,
  ⟨Reg.wakeStatus, 0, 0, .u32, .rw, 0, .any, 127, .volatile⟩,
  ⟨Reg.wakeTimer, 0, 0, .u64, .rw, 0, .any, 127, .stored⟩,
  ⟨Reg.wakeGpioMode, 0, 0, .u16, .rw, 0, .any, 127, .stored⟩,
  ⟨Reg.wakePrio, 0, 0, .u8, .rw, 12, .between 0 15, 127, .stored⟩,
  ⟨Reg.wakeCount, 0, 0, .u32, .ro, 0, .any, 127, .none⟩]
/-- Entries of group 0x5, part 1. -/
def Reg.dict5a : List Obj := [
  ⟨Reg.dmaBurstsInflight, 0, 0, .u8, .ro, 0, .any, 127, .none⟩,
  ⟨Reg.dmaBytes, 0, 0, .u64, .ro, 0, .any, 127, .none⟩,
  ⟨Reg.dmaHalts, 0, 0, .u32, .ro, 0, .any, 127, .none⟩,
  ⟨Reg.dmaGpioMode, 0, 0, .u16, .rw, 0, .any, 127, .stored⟩,
  ⟨Reg.lineOwner, 0, 256, .u8, .rw, 0, .between 0 255, 95, .stored⟩,
  ⟨Reg.lineShare, 0, 256, .bool, .rw, 0, .between 0 1, 95, .stored⟩,
  ⟨Reg.linePulses, 0, 256, .u32, .ro, 0, .any, 127, .none⟩,
  ⟨Reg.timerPeriod, 0, 8, .u32, .rw, 0, .any, 127, .stored⟩,
  ⟨Reg.timerPhase, 0, 8, .u32, .rw, 0, .any, 127, .stored⟩,
  ⟨Reg.chRingShadow, 64, 0, .u64, .rw, 0, .any, 95, .volatile⟩,
  ⟨Reg.chCtrlShadow, 64, 0, .u64, .rw, 0, .any, 95, .volatile⟩,
  ⟨Reg.chRingActive, 64, 0, .u64, .ro, 0, .any, 127, .none⟩,
  ⟨Reg.chCtrlActive, 64, 0, .u64, .ro, 0, .any, 127, .none⟩,
  ⟨Reg.chState, 64, 0, .u8, .ro, 0, .any, 127, .none⟩,
  ⟨Reg.chProd, 64, 0, .u32, .ro, 0, .any, 127, .none⟩,
  ⟨Reg.chCons, 64, 0, .u32, .ro, 0, .any, 127, .none⟩,
  ⟨Reg.chFault, 64, 0, .blob 24, .ro, 0, .any, 127, .none⟩,
  ⟨Reg.chCommand, 64, 0, .u8, .wo, 0, .between 1 5, 95, .none⟩,
  ⟨Reg.chReqCount, 64, 0, .u8, .ro, 0, .any, 127, .none⟩,
  ⟨Reg.chDescriptors, 64, 0, .u64, .ro, 0, .any, 127, .none⟩,
  ⟨Reg.chShadowRefused, 64, 0, .u32, .ro, 0, .any, 127, .none⟩,
  ⟨Reg.chReqOverflows, 64, 0, .u32, .ro, 0, .any, 127, .none⟩]
/-- Entries of group 0x6, part 1. -/
def Reg.dict6a : List Obj := [
  ⟨Reg.appendContextsOpen, 0, 0, .u32, .ro, 0, .any, 127, .none⟩,
  ⟨Reg.appendPending, 0, 0, .u16, .ro, 0, .any, 127, .none⟩,
  ⟨Reg.appendPendingCapacity, 0, 0, .u16, .const, 16384, .any, 127, .none⟩,
  ⟨Reg.appendMirrorLoss, 0, 0, .u8, .rw, 0, .oneOf [0, 1], 14, .stored⟩,
  ⟨Reg.appendErrors, 0, 0, .u32, .ro, 0, .any, 127, .none⟩,
  ⟨Reg.appendIgnored, 0, 0, .u32, .ro, 0, .any, 127, .none⟩,
  ⟨Reg.ctxDurable, 0, 262144, .u64, .rw, 0, .mult 8 9223372036854775808, 14, .sealed⟩,
  ⟨Reg.ctxTail, 0, 262144, .u64, .ro, 0, .any, 127, .none⟩,
  ⟨Reg.ctxHead, 0, 262144, .u64, .ro, 0, .any, 127, .none⟩,
  ⟨Reg.ctxRingBase, 0, 262144, .u64, .rw, 0, .mult 4096 4398046511104, 14, .sealed⟩,
  ⟨Reg.ctxRingSize, 0, 262144, .u8, .rw, 0, .between 0 20, 14, .sealed⟩,
  ⟨Reg.ctxState, 0, 262144, .u8, .ro, 0, .any, 127, .none⟩,
  ⟨Reg.ctxPolicy, 0, 262144, .u8, .rw, 0, .oneOf [0, 1], 14, .sealed⟩,
  ⟨Reg.ctxNotify, 0, 262144, .u8, .rw, 0, .between 0 3, 14, .sealed⟩,
  ⟨Reg.ctxError, 0, 262144, .u8, .ro, 0, .any, 127, .none⟩,
  ⟨Reg.ctxInstance, 0, 262144, .u8, .ro, 0, .any, 127, .none⟩,
  ⟨Reg.ctxCoalCount, 0, 262144, .u8, .rw, 1, .between 1 255, 14, .sealed⟩,
  ⟨Reg.ctxCoalTime, 0, 262144, .u16, .rw, 4, .between 1 65535, 14, .sealed⟩,
  ⟨Reg.ctxQueue, 0, 262144, .u16, .rw, 0, .between 0 4095, 14, .sealed⟩,
  ⟨Reg.ctxUserTag, 0, 262144, .u32, .rw, 0, .any, 14, .sealed⟩,
  ⟨Reg.ctxCommand, 0, 262144, .u8, .wo, 0, .between 1 4, 14, .none⟩,
  ⟨Reg.dwordBase, 0, 256, .u64, .rw, 0, .mult 8 18446744073709551616, 14, .volatile⟩,
  ⟨Reg.dwordEnable, 0, 256, .bool, .rw, 0, .between 0 1, 14, .volatile⟩,
  ⟨Reg.pendingMax, 0, 256, .u16, .rw, 1024, .between 16 16384, 14, .stored⟩]
/-- Entries of group 0x6, part 2. -/
def Reg.dict6b : List Obj := [
  ⟨Reg.instPending, 0, 256, .u16, .ro, 0, .any, 127, .none⟩,
  ⟨Reg.instanceErrors, 0, 256, .u32, .ro, 0, .any, 127, .none⟩,
  ⟨Reg.instanceIgnored, 0, 256, .u32, .ro, 0, .any, 127, .none⟩]
/-- Entries of group 0x7, part 1. -/
def Reg.dict7a : List Obj := [
  ⟨Reg.imageState, 0, 0, .u8, .ro, 0, .any, 127, .none⟩,
  ⟨Reg.imageCommand, 0, 0, .u8, .wo, 0, .between 1 5, 127, .none⟩,
  ⟨Reg.faultCause, 0, 0, .u16, .ro, 0, .any, 127, .none⟩,
  ⟨Reg.imageSegments, 0, 0, .u32, .rw, 0, .between 1 2097152, 2, .stored⟩,
  ⟨Reg.activeCarriers, 0, 0, .u8, .rw, 0, .oneOf [1, 2, 4, 8], 2, .stored⟩,
  ⟨Reg.epoch, 0, 0, .u32, .ro, 0, .any, 127, .none⟩,
  ⟨Reg.sealSequence, 0, 0, .u64, .ro, 0, .any, 127, .none⟩,
  ⟨Reg.semicolonState, 0, 0, .u8, .ro, 0, .any, 127, .none⟩,
  ⟨Reg.semicolonInterval, 0, 0, .u32, .rw, 60000, .zeroOr 1000 3600000, 10, .stored⟩,
  ⟨Reg.semicolonCount, 0, 0, .u32, .ro, 0, .any, 127, .none⟩,
  ⟨Reg.govMargin, 0, 0, .u32, .rw, 150000, .between 50000 500000, 10, .stored⟩,
  ⟨Reg.govSaveTime, 0, 0, .u32, .rw, 4000, .between 100 60000, 10, .stored⟩,
  ⟨Reg.govSemicolonPct, 0, 0, .u8, .rw, 60, .between 10 100, 10, .stored⟩,
  ⟨Reg.govShapePct, 0, 0, .u8, .rw, 85, .between 0 95, 10, .stored⟩,
  ⟨Reg.govShapeReleasePct, 0, 0, .u8, .rw, 80, .between 0 100, 10, .stored⟩,
  ⟨Reg.govStallReleasePct, 0, 0, .u8, .rw, 97, .between 0 99, 10, .stored⟩,
  ⟨Reg.govShapeFloor, 0, 0, .u32, .rw, 1000, .between 100 25000, 10, .stored⟩,
  ⟨Reg.govReportMaxAge, 0, 0, .u32, .rw, 60000, .between 1000 600000, 10, .stored⟩,
  ⟨Reg.keepBank, 0, 0, .u8, .ro, 0, .any, 127, .none⟩,
  ⟨Reg.keepEccCorrected, 0, 0, .u32, .ro, 0, .any, 127, .none⟩,
  ⟨Reg.keepRewrites, 0, 0, .u32, .ro, 0, .any, 127, .none⟩,
  ⟨Reg.restartReport, 0, 0, .blob 128, .ro, 0, .any, 127, .none⟩,
  ⟨Reg.restoreResident, 0, 0, .u32, .ro, 0, .any, 127, .none⟩,
  ⟨Reg.restoreProgressStep, 0, 0, .u8, .rw, 10, .between 1 50, 78, .stored⟩]
/-- Entries of group 0x7, part 2. -/
def Reg.dict7b : List Obj := [
  ⟨Reg.restoreTouchLimit, 0, 0, .u16, .rw, 900, .between 300 900, 78, .stored⟩,
  ⟨Reg.restartCarrierWait, 0, 0, .u32, .rw, 250, .between 250 10000, 74, .stored⟩,
  ⟨Reg.restoreTouchTimeouts, 0, 0, .u32, .ro, 0, .any, 127, .none⟩,
  ⟨Reg.restoreHeldBytes, 0, 0, .u32, .ro, 0, .any, 127, .none⟩,
  ⟨Reg.restoreTouches, 0, 0, .u32, .ro, 0, .any, 127, .none⟩,
  ⟨Reg.restartPhase, 0, 0, .u8, .ro, 0, .any, 127, .none⟩,
  ⟨Reg.holdupEnergy, 8, 0, .u32, .ro, 0, .any, 127, .none⟩,
  ⟨Reg.holdupSaveRate, 8, 0, .u32, .ro, 0, .any, 127, .none⟩,
  ⟨Reg.holdupSaveEnergy, 8, 0, .u32, .ro, 0, .any, 127, .none⟩,
  ⟨Reg.holdupReportAge, 8, 0, .u32, .ro, 0, .any, 127, .none⟩,
  ⟨Reg.holdupDerate, 8, 0, .q16, .ro, 65536, .any, 127, .none⟩,
  ⟨Reg.govBudget, 8, 0, .u32, .ro, 0, .any, 127, .none⟩,
  ⟨Reg.govDirty, 8, 0, .u32, .ro, 0, .any, 127, .none⟩,
  ⟨Reg.govState, 8, 0, .u8, .ro, 0, .any, 127, .none⟩,
  ⟨Reg.govDestageRate, 8, 0, .u32, .ro, 0, .any, 127, .none⟩,
  ⟨Reg.govStallClauses, 8, 0, .u64, .ro, 0, .any, 127, .none⟩,
  ⟨Reg.ckptPersisted, 8, 0, .u32, .ro, 0, .any, 127, .none⟩,
  ⟨Reg.restartCarrierStatus, 8, 0, .u8, .ro, 0, .any, 127, .none⟩,
  ⟨Reg.restoreSlices, 8, 0, .u32, .ro, 0, .any, 127, .none⟩,
  ⟨Reg.restoreTouchPending, 8, 0, .u8, .ro, 0, .any, 127, .none⟩]
/-- Entries of group 0x8, part 1. -/
def Reg.dict8a : List Obj := [
  ⟨Reg.mirrorState, 0, 0, .u8, .ro, 0, .any, 127, .none⟩,
  ⟨Reg.pairId, 0, 0, .u64, .rw, 0, .any, 10, .sealed⟩,
  ⟨Reg.pairSide, 0, 0, .u8, .rw, 0, .oneOf [0, 1], 10, .sealed⟩,
  ⟨Reg.leasePolicy, 0, 0, .u8, .rw, 0, .oneOf [0, 1], 10, .sealed⟩,
  ⟨Reg.witnessNode, 0, 0, .u8, .rw, 0, .between 0 127, 78, .stored⟩,
  ⟨Reg.leaseTerm, 0, 0, .u32, .rw, 2000, .between 500 60000, 10, .stored⟩,
  ⟨Reg.leaseGuard, 0, 0, .u32, .rw, 100, .any, 10, .stored⟩,
  ⟨Reg.splitTime, 0, 0, .u32, .rw, 5, .between 1 1000, 10, .stored⟩,
  ⟨Reg.autoTakeover, 0, 0, .bool, .rw, 0, .between 0 1, 10, .stored⟩,
  ⟨Reg.takeoverRetry, 0, 0, .u32, .rw, 250, .between 50 10000, 10, .stored⟩,
  ⟨Reg.mirrorAckTimeout, 0, 0, .u32, .rw, 1000, .between 100 10000, 10, .stored⟩,
  ⟨Reg.resyncRate, 0, 0, .u32, .rw, 0, .zeroOr 100 36000, 14, .stored⟩,
  ⟨Reg.resyncPending, 0, 0, .u32, .ro, 0, .any, 127, .none⟩,
  ⟨Reg.leaseState, 0, 0, .u8, .ro, 0, .any, 127, .none⟩,
  ⟨Reg.leaseRemaining, 0, 0, .u32, .ro, 0, .any, 127, .none⟩,
  ⟨Reg.mirrorBufferUsed, 0, 0, .u32, .ro, 0, .any, 127, .none⟩,
  ⟨Reg.mirrorAckTimeouts, 0, 0, .u32, .ro, 0, .any, 127, .none⟩,
  ⟨Reg.mirrorCopies, 0, 0, .u64, .ro, 0, .any, 127, .none⟩,
  ⟨Reg.mirrorCommand, 0, 0, .u8, .wo, 0, .between 1 3, 127, .none⟩,
  ⟨Reg.rangeBaseSeg, 0, 16, .u32, .rw, 0, .between 0 2097151, 10, .sealed⟩,
  ⟨Reg.rangeSegments, 0, 16, .u32, .rw, 0, .between 0 2097152, 10, .sealed⟩,
  ⟨Reg.rangeOwner, 0, 16, .u8, .rw, 0, .oneOf [0, 1], 10, .sealed⟩,
  ⟨Reg.rangeState, 0, 16, .u8, .ro, 0, .any, 127, .none⟩,
  ⟨Reg.rangeGeneration, 0, 16, .u32, .ro, 0, .any, 127, .none⟩]
/-- Entries of group 0x8, part 2. -/
def Reg.dict8b : List Obj := [
  ⟨Reg.rangeResync, 0, 16, .u32, .ro, 0, .any, 127, .none⟩,
  ⟨Reg.rangeCommand, 0, 16, .u8, .wo, 0, .between 1 3, 8, .none⟩]
/-- Entries of group 0x9, part 1. -/
def Reg.dict9a : List Obj := [
  ⟨Reg.imageId, 0, 0, .blob 16, .ro, 0, .any, 127, .none⟩,
  ⟨Reg.carrierState, 8, 0, .u8, .ro, 0, .any, 127, .none⟩,
  ⟨Reg.tagsOutstanding, 8, 0, .u16, .ro, 0, .any, 127, .none⟩,
  ⟨Reg.nakRetries, 8, 0, .u8, .rw, 3, .between 0 15, 78, .stored⟩,
  ⟨Reg.tagTimeout, 8, 0, .u32, .rw, 2000, .between 100 100000, 78, .stored⟩,
  ⟨Reg.failovers, 8, 0, .u32, .ro, 0, .any, 127, .none⟩,
  ⟨Reg.failoverResent, 8, 0, .u32, .ro, 0, .any, 127, .none⟩,
  ⟨Reg.naksReceived, 8, 0, .u32, .ro, 0, .any, 127, .none⟩,
  ⟨Reg.requestsFailed, 8, 0, .u32, .ro, 0, .any, 127, .none⟩,
  ⟨Reg.protocolErrors, 8, 0, .u32, .ro, 0, .any, 127, .none⟩,
  ⟨Reg.identBody, 8, 0, .blob 128, .ro, 0, .any, 127, .none⟩,
  ⟨Reg.healthBody, 8, 0, .blob 64, .ro, 0, .any, 127, .none⟩,
  ⟨Reg.healthAge, 8, 0, .u32, .ro, 0, .any, 127, .none⟩,
  ⟨Reg.touchLate, 8, 0, .u32, .ro, 0, .any, 127, .none⟩,
  ⟨Reg.affinity, 8, 0, .u8, .ro, 0, .any, 127, .none⟩]
/-- Entries of group 0xA, part 1. -/
def Reg.dictAa : List Obj := [
  ⟨Reg.linksUp, 0, 0, .u32, .ro, 0, .any, 127, .none⟩,
  ⟨Reg.linkRttMax, 0, 0, .u16, .const, 1000, .any, 127, .none⟩,
  ⟨Reg.linkState, 18, 0, .u8, .ro, 1, .any, 127, .none⟩,
  ⟨Reg.linkEnable, 18, 0, .bool, .rw, 1, .between 0 1, 95, .stored⟩,
  ⟨Reg.linkCommand, 18, 0, .u8, .wo, 0, .between 1 2, 95, .none⟩,
  ⟨Reg.linkWidth, 18, 0, .u8, .ro, 0, .any, 127, .none⟩,
  ⟨Reg.linkRate, 18, 0, .u8, .ro, 0, .any, 127, .none⟩,
  ⟨Reg.linkFcMode, 18, 0, .u8, .ro, 0, .any, 127, .none⟩,
  ⟨Reg.linkRtt, 18, 0, .u32, .ro, 0, .any, 127, .none⟩,
  ⟨Reg.linkHeadroom, 18, 0, .u16, .ro, 0, .any, 127, .none⟩,
  ⟨Reg.linkVcs, 18, 0, .u8, .rw, 8, .between 2 8, 66, .stored⟩,
  ⟨Reg.linkMinWidth, 18, 0, .u8, .rw, 2, .oneOf [1, 2, 4, 8], 95, .stored⟩,
  ⟨Reg.ackTimeout, 18, 0, .u32, .rw, 3000, .between 500 100000, 95, .stored⟩,
  ⟨Reg.creditTimeout, 18, 0, .u32, .rw, 200, .between 10 10000, 95, .stored⟩,
  ⟨Reg.linkDownTime, 18, 0, .u32, .rw, 20, .between 1 1000, 95, .stored⟩,
  ⟨Reg.pauseLimit, 18, 0, .u32, .rw, 10000, .between 1000 100000, 95, .stored⟩,
  ⟨Reg.linkRateCap, 18, 0, .u8, .ro, 5, .any, 127, .none⟩,
  ⟨Reg.replayUsed, 18, 0, .u16, .ro, 0, .any, 127, .none⟩,
  ⟨Reg.txSeq, 18, 0, .u16, .ro, 0, .any, 127, .none⟩,
  ⟨Reg.rxSeq, 18, 0, .u16, .ro, 0, .any, 127, .none⟩,
  ⟨Reg.crcErrors, 18, 0, .u64, .ro, 0, .any, 127, .none⟩,
  ⟨Reg.naksSent, 18, 0, .u32, .ro, 0, .any, 127, .none⟩,
  ⟨Reg.linkNaksReceived, 18, 0, .u32, .ro, 0, .any, 127, .none⟩,
  ⟨Reg.replays, 18, 0, .u32, .ro, 0, .any, 127, .none⟩]
/-- Entries of group 0xA, part 2. -/
def Reg.dictAb : List Obj := [
  ⟨Reg.replayedFus, 18, 0, .u64, .ro, 0, .any, 127, .none⟩,
  ⟨Reg.ackTimeouts, 18, 0, .u32, .ro, 0, .any, 127, .none⟩,
  ⟨Reg.linkProtocolErrors, 18, 0, .u32, .ro, 0, .any, 127, .none⟩,
  ⟨Reg.recoveries, 18, 0, .u32, .ro, 0, .any, 127, .none⟩,
  ⟨Reg.pauses, 18, 0, .u32, .ro, 0, .any, 127, .none⟩,
  ⟨Reg.linkDowns, 18, 0, .u32, .ro, 0, .any, 127, .none⟩,
  ⟨Reg.lastDownCause, 18, 0, .u8, .ro, 0, .any, 127, .none⟩,
  ⟨Reg.crcErrorLimit, 18, 0, .u32, .rw, 1000, .between 1 1000000, 95, .stored⟩,
  ⟨Reg.fusSent, 18, 0, .u64, .ro, 0, .any, 127, .none⟩,
  ⟨Reg.fusReceived, 18, 0, .u64, .ro, 0, .any, 127, .none⟩]
/-- Entries of group 0xB, part 1. -/
def Reg.dictBa : List Obj := [
  ⟨Reg.trainRateMax, 0, 18, .u8, .rw, 5, .between 1 5, 95, .stored⟩,
  ⟨Reg.trainedRate, 0, 18, .u8, .ro, 0, .any, 127, .none⟩,
  ⟨Reg.lanesGood, 0, 18, .u8, .ro, 0, .any, 127, .none⟩,
  ⟨Reg.laneMap, 0, 18, .u32, .ro, 0, .any, 127, .none⟩,
  ⟨Reg.eqStartPreset, 0, 18, .u8, .rw, 5, .between 0 7, 95, .stored⟩,
  ⟨Reg.eyeMinWidth, 0, 18, .u8, .rw, 19, .between 8 40, 95, .stored⟩,
  ⟨Reg.eyeMinHeight, 0, 18, .u8, .rw, 40, .between 16 200, 95, .stored⟩,
  ⟨Reg.eyePeriod, 0, 18, .u32, .rw, 1000, .zeroOr 10 60000, 95, .stored⟩,
  ⟨Reg.prbsPattern, 0, 18, .u8, .rw, 3, .oneOf [1, 2, 3], 95, .stored⟩,
  ⟨Reg.prbsLanes, 0, 18, .u8, .rw, 255, .any, 95, .stored⟩,
  ⟨Reg.prbsRate, 0, 18, .u8, .rw, 5, .between 1 5, 95, .stored⟩,
  ⟨Reg.prbsCommand, 0, 18, .u8, .wo, 0, .between 1 2, 95, .none⟩,
  ⟨Reg.prbsState, 0, 18, .u8, .ro, 0, .any, 127, .none⟩,
  ⟨Reg.laneCommand, 0, 18, .u8, .wo, 0, .between 1 1, 95, .none⟩,
  ⟨Reg.trainings, 0, 18, .u32, .ro, 0, .any, 127, .none⟩,
  ⟨Reg.rateFallbacks, 0, 18, .u32, .ro, 0, .any, 127, .none⟩,
  ⟨Reg.laneStatus, 80, 0, .u8, .ro, 0, .any, 127, .none⟩,
  ⟨Reg.losCount, 80, 0, .u32, .ro, 0, .any, 127, .none⟩,
  ⟨Reg.lolCount, 80, 0, .u32, .ro, 0, .any, 127, .none⟩,
  ⟨Reg.codeErrors, 80, 0, .u64, .ro, 0, .any, 127, .none⟩,
  ⟨Reg.skpAdded, 80, 0, .u32, .ro, 0, .any, 127, .none⟩,
  ⟨Reg.skpRemoved, 80, 0, .u32, .ro, 0, .any, 127, .none⟩,
  ⟨Reg.laneSkew, 80, 0, .u8, .ro, 0, .any, 127, .none⟩,
  ⟨Reg.txCoeff, 80, 0, .u32, .ro, 0, .any, 127, .none⟩]
/-- Entries of group 0xB, part 2. -/
def Reg.dictBb : List Obj := [
  ⟨Reg.txSwing, 80, 0, .u8, .rw, 1, .between 0 3, 95, .stored⟩,
  ⟨Reg.ctleMode, 80, 0, .u8, .rw, 0, .oneOf [0, 1], 95, .stored⟩,
  ⟨Reg.ctlePeak, 80, 0, .u8, .rw, 0, .between 0 15, 95, .stored⟩,
  ⟨Reg.eyeWidth, 80, 0, .u8, .ro, 0, .any, 127, .none⟩,
  ⟨Reg.eyeHeight, 80, 0, .u16, .ro, 0, .any, 127, .none⟩,
  ⟨Reg.eyeAge, 80, 0, .u32, .ro, 0, .any, 127, .none⟩,
  ⟨Reg.prbsBits, 80, 0, .u64, .ro, 0, .any, 127, .none⟩,
  ⟨Reg.prbsErrors, 80, 0, .u64, .ro, 0, .any, 127, .none⟩,
  ⟨Reg.prbsLocked, 80, 0, .bool, .ro, 0, .between 0 1, 127, .none⟩,
  ⟨Reg.losThreshold, 80, 0, .u8, .rw, 60, .between 40 150, 95, .stored⟩]
/-- Entries of group 0xC, part 1. -/
def Reg.dictCa : List Obj := [
  ⟨Reg.powerState, 0, 0, .u8, .ro, 0, .any, 127, .none⟩,
  ⟨Reg.powerRequest, 0, 0, .u8, .wo, 0, .between 0 3, 95, .none⟩,
  ⟨Reg.transition, 0, 0, .u8, .ro, 0, .any, 127, .none⟩,
  ⟨Reg.transitionStep, 0, 0, .u8, .ro, 0, .any, 127, .none⟩,
  ⟨Reg.powerPending, 0, 0, .u8, .ro, 255, .any, 127, .none⟩,
  ⟨Reg.patrolOnD3, 0, 0, .bool, .rw, 0, .between 0 1, 95, .stored⟩,
  ⟨Reg.lastRefusal, 0, 0, .u8, .ro, 0, .any, 127, .none⟩,
  ⟨Reg.pfailSources, 0, 0, .u8, .rw, 3, .between 1 3, 95, .stored⟩,
  ⟨Reg.pfailFilter, 0, 0, .u16, .rw, 2000, .between 500 20000, 95, .stored⟩,
  ⟨Reg.vsenseThreshold, 0, 0, .u16, .rw, 600, .between 400 1000, 95, .stored⟩,
  ⟨Reg.vsenseFilter, 0, 0, .u16, .rw, 2000, .between 500 20000, 95, .stored⟩,
  ⟨Reg.pfailState, 0, 0, .u8, .ro, 0, .any, 127, .none⟩,
  ⟨Reg.pfailGlitches, 0, 0, .u32, .ro, 0, .any, 127, .none⟩,
  ⟨Reg.pfailReturnTime, 0, 0, .u32, .rw, 100, .between 10 10000, 127, .stored⟩,
  ⟨Reg.patrolPeriod, 0, 0, .u32, .rw, 100, .between 10 10000, 95, .stored⟩,
  ⟨Reg.patrolPasses, 0, 0, .u64, .ro, 0, .any, 127, .none⟩,
  ⟨Reg.patrolOverruns, 0, 0, .u32, .ro, 0, .any, 127, .none⟩,
  ⟨Reg.stepTimeout, 0, 8, .u32, .rw, 0, .between 1 600000, 95, .stored⟩,
  ⟨Reg.patrolOp, 0, 32, .u8, .rw, 0, .between 0 4, 95, .stored⟩,
  ⟨Reg.patrolObject, 0, 32, .u32, .rw, 0, .any, 95, .stored⟩,
  ⟨Reg.patrolTest, 0, 32, .u8, .rw, 0, .between 0 5, 95, .stored⟩,
  ⟨Reg.patrolThreshold, 0, 32, .i32, .rw, 0, .any, 95, .stored⟩,
  ⟨Reg.patrolFlags, 0, 32, .u8, .rw, 0, .between 0 7, 95, .stored⟩,
  ⟨Reg.patrolHits, 0, 32, .u32, .ro, 0, .any, 127, .none⟩]
/-- Entries of group 0xD, part 1. Table 2.3 gives the columns of CLAUSE_ITEM_CYCLES no type: the largest cycles used are a
U16 here, the clauses deferred a U32 (DESIGN CHOICE, log 99). -/
def Reg.dictDa : List Obj := [
  ⟨Reg.clauseCount, 0, 0, .u64, .ro, 0, .any, 127, .none⟩,
  ⟨Reg.clauseBudget, 0, 0, .u16, .const, 1000, .any, 127, .none⟩,
  ⟨Reg.clauseOverruns, 0, 0, .u32, .ro, 0, .any, 127, .none⟩,
  ⟨Reg.clauseCarryMax, 0, 0, .u16, .ro, 0, .any, 127, .none⟩,
  ⟨Reg.coreSscEnable, 0, 0, .bool, .rw, 1, .between 0 1, 127, .stored⟩,
  ⟨Reg.timebaseStatus, 0, 0, .u8, .ro, 0, .any, 127, .none⟩,
  ⟨Reg.refclkStatus, 0, 0, .u8, .ro, 7, .any, 127, .none⟩,
  ⟨Reg.itemCyclesMax, 0, 14, .u16, .ro, 0, .any, 127, .none⟩,
  ⟨Reg.itemDeferrals, 0, 14, .u32, .ro, 0, .any, 127, .none⟩,
  ⟨Reg.tjMax, 0, 0, .q16, .ro, 0, .any, 127, .none⟩,
  ⟨Reg.tjAlert, 0, 0, .u8, .rw, 100, .between 60 115, 127, .stored⟩,
  ⟨Reg.avsTarget, 0, 0, .u16, .ro, 750, .any, 127, .none⟩,
  ⟨Reg.avsBase, 0, 0, .u16, .const, 750, .any, 127, .none⟩,
  ⟨Reg.replanPeriod, 0, 0, .u32, .rw, 10000, .between 1000 3600000, 127, .stored⟩,
  ⟨Reg.laneAgeLimit, 0, 0, .u16, .rw, 300, .between 100 1000, 127, .stored⟩,
  ⟨Reg.replanEyeGuard, 0, 0, .u8, .rw, 4, .between 0 16, 127, .stored⟩,
  ⟨Reg.holdupLookahead, 0, 0, .u32, .rw, 30000, .zeroOr 1000 600000, 127, .stored⟩,
  ⟨Reg.replanCommand, 0, 0, .u8, .wo, 0, .between 1 1, 95, .none⟩,
  ⟨Reg.replans, 0, 0, .u32, .ro, 0, .any, 127, .none⟩,
  ⟨Reg.porFilter, 0, 0, .u16, .rw, 10000, .between 1000 20000, 95, .stored⟩,
  ⟨Reg.perstFilter, 0, 0, .u16, .rw, 1000, .between 100 20000, 95, .stored⟩,
  ⟨Reg.ioSlew, 0, 0, .u16, .rw, 303, .any, 95, .stored⟩,
  ⟨Reg.gpioDir, 0, 0, .u8, .rw, 0, .any, 95, .stored⟩,
  ⟨Reg.gpioOut, 0, 0, .u8, .rw, 0, .any, 95, .stored⟩]
/-- Entries of group 0xD, part 2. -/
def Reg.dictDb : List Obj := [
  ⟨Reg.gpioIn, 0, 0, .u8, .ro, 0, .any, 127, .none⟩,
  ⟨Reg.ioFldLevel, 0, 0, .u8, .ro, 0, .any, 127, .none⟩,
  ⟨Reg.deviceGrade, 0, 0, .u8, .ro, 0, .any, 127, .none⟩,
  ⟨Reg.sensorValue, 0, 33, .i32, .ro, 0, .any, 127, .none⟩,
  ⟨Reg.sensorPeak, 0, 33, .i32, .ro, 0, .any, 127, .none⟩]
/-- Entries of group 0xE, part 1. -/
def Reg.dictEa : List Obj := [
  ⟨Reg.deviceSerial, 0, 0, .u64, .const, 0, .any, 127, .none⟩,
  ⟨Reg.identityCert, 0, 0, .blob 3176, .ro, 0, .any, 127, .none⟩,
  ⟨Reg.mfgCert, 0, 0, .blob 3176, .ro, 0, .any, 127, .none⟩,
  ⟨Reg.rollbackCount, 0, 0, .u8, .ro, 0, .any, 127, .none⟩,
  ⟨Reg.ownerState, 0, 0, .u8, .ro, 0, .any, 127, .none⟩,
  ⟨Reg.ownerKey, 0, 0, .blob 1793, .rw, 0, .any, 3, .stored⟩,
  ⟨Reg.ownerStatement, 0, 0, .blob 66912, .wo, 0, .any, 127, .none⟩,
  ⟨Reg.statementCounter, 0, 0, .u64, .ro, 0, .any, 127, .none⟩,
  ⟨Reg.statementResult, 0, 0, .u32, .ro, 0, .any, 127, .none⟩,
  ⟨Reg.configLock, 0, 0, .bool, .rw, 0, .between 0 1, 95, .stored⟩,
  ⟨Reg.fwActiveSlot, 0, 0, .u8, .ro, 0, .any, 127, .none⟩,
  ⟨Reg.fwPreferred, 0, 0, .u8, .ro, 0, .any, 127, .none⟩,
  ⟨Reg.fwStatus, 0, 2, .u8, .ro, 0, .any, 127, .none⟩,
  ⟨Reg.fwSlotVersion, 0, 2, .u32, .ro, 0, .any, 127, .none⟩,
  ⟨Reg.fwSlotStep, 0, 2, .u8, .ro, 0, .any, 127, .none⟩,
  ⟨Reg.fwPackage, 0, 0, .blob 6291456, .wo, 0, .any, 95, .none⟩,
  ⟨Reg.fwCommand, 0, 0, .u8, .wo, 0, .between 1 4, 95, .none⟩,
  ⟨Reg.attestNonce, 0, 0, .blob 32, .wo, 0, .oneOf [32], 95, .none⟩,
  ⟨Reg.attestReport, 0, 0, .blob 1656, .ro, 0, .any, 127, .none⟩,
  ⟨Reg.attestCount, 0, 0, .u64, .ro, 0, .any, 127, .none⟩,
  ⟨Reg.sealRecord, 0, 0, .blob 2816, .ro, 0, .any, 127, .none⟩,
  ⟨Reg.debugState, 0, 0, .u8, .rw, 0, .between 0 0, 127, .volatile⟩,
  ⟨Reg.debugChallenge, 0, 0, .blob 32, .ro, 0, .any, 127, .none⟩,
  ⟨Reg.signatures, 0, 0, .u64, .ro, 0, .any, 127, .none⟩]
/-- Entries of group 0xE, part 2. -/
def Reg.dictEb : List Obj := [
  ⟨Reg.verifyFailures, 0, 0, .u32, .ro, 0, .any, 127, .none⟩]
/-- Entries of group 0xF, part 1. -/
def Reg.dictFa : List Obj := [
  ⟨Reg.lexCommand, 0, 0, .u8, .wo, 0, .between 1 3, 127, .none⟩,
  ⟨Reg.setGeneration, 0, 0, .u64, .ro, 0, .any, 127, .none⟩,
  ⟨Reg.setCopy, 0, 0, .u8, .ro, 255, .any, 127, .none⟩,
  ⟨Reg.setSkipped, 0, 0, .u32, .ro, 0, .any, 127, .none⟩,
  ⟨Reg.lexRequests, 0, 0, .u64, .ro, 0, .any, 127, .none⟩,
  ⟨Reg.lexAborts, 0, 0, .u32, .ro, 0, .any, 127, .none⟩,
  ⟨Reg.lexPortCollisions, 0, 256, .u32, .ro, 0, .any, 127, .none⟩,
  ⟨Reg.fieldNodeId, 0, 0, .u8, .rw, 0, .between 0 127, 95, .stored⟩,
  ⟨Reg.fieldAccess, 0, 0, .u8, .rw, 2, .between 0 2, 95, .stored⟩,
  ⟨Reg.canDataRate, 0, 0, .u8, .rw, 5, .oneOf [2, 4, 5, 8], 95, .stored⟩,
  ⟨Reg.canBrs, 0, 0, .bool, .rw, 1, .between 0 1, 95, .stored⟩,
  ⟨Reg.fieldHeartbeat, 0, 0, .u32, .rw, 1000, .zeroOr 100 60000, 95, .stored⟩,
  ⟨Reg.fieldEventPrio, 0, 0, .u8, .rw, 12, .between 0 16, 95, .stored⟩,
  ⟨Reg.fieldEventNode, 0, 0, .u8, .rw, 0, .between 0 127, 95, .stored⟩,
  ⟨Reg.canState, 0, 0, .u8, .ro, 0, .any, 127, .none⟩,
  ⟨Reg.canTec, 0, 0, .u8, .ro, 0, .any, 127, .none⟩,
  ⟨Reg.canRec, 0, 0, .u8, .ro, 0, .any, 127, .none⟩,
  ⟨Reg.canBusOffs, 0, 0, .u32, .ro, 0, .any, 127, .none⟩,
  ⟨Reg.fieldFramesRx, 0, 0, .u64, .ro, 0, .any, 127, .none⟩,
  ⟨Reg.fieldFramesTx, 0, 0, .u64, .ro, 0, .any, 127, .none⟩,
  ⟨Reg.fieldDuplicates, 0, 0, .u32, .ro, 0, .any, 127, .none⟩,
  ⟨Reg.fieldIgnored, 0, 0, .u32, .ro, 0, .any, 127, .none⟩,
  ⟨Reg.fieldSegLapsed, 0, 0, .u32, .ro, 0, .any, 127, .none⟩]

/-- Every entry of the Lexicon. -/
def Reg.dict : List Obj :=
  Reg.dict0a ++ Reg.dict1a ++ Reg.dict2a ++ Reg.dict2b ++ Reg.dict3a ++ Reg.dict3b ++ Reg.dict4a ++ Reg.dict4b ++ Reg.dict5a ++ Reg.dict6a ++ Reg.dict6b ++ Reg.dict7a ++ Reg.dict7b ++ Reg.dict8a ++ Reg.dict8b ++ Reg.dict9a ++ Reg.dictAa ++ Reg.dictAb ++ Reg.dictBa ++ Reg.dictBb ++ Reg.dictCa ++ Reg.dictDa ++ Reg.dictDb ++ Reg.dictEa ++ Reg.dictEb ++ Reg.dictFa

end Sys2Proof.Machine
end

