-- ==== Sys2Proof/Machine/State.lean ====
section
/-!
DEFINITION. The state of the EL7208, as plain data. Every value that the Lexicon shows has one home, the register file
`regs` (and `blobs` for byte strings): a sparse table over the object dictionary whose unlisted entries hold their
defaults. What the spec gives the block beside its registers (queues, buffers, planes, retained copies, transitions in
progress, the Keep store) stands in the structures below, one for each subsystem. Times are counted since POR_N, in
timebase cycles of 4 ns (128 to a clause, R31) where a field is named `...At`, `...Until` or `cyc`, and in clauses where
it is named `clause`, `since`, `begun` or `start`, but for these: in clauses `gateAt`, `lastStart`, `glitchAt`, `nakAt`, `ltrAt`,
`openAt`, `fieldAt`, `patrolFrom`, `steadySince`, `beginDue`, the `cyc` of a bucket, of a segmented transfer and of a kept
response, and the `started` of a transition; in cycles `lowSince`, `clearSince`, `sentTimes`, `heldSince`, `wakeFirst` and
the `begun` of a handover.
-/
namespace Sys2Proof.Machine

/-! ### Named codes -/

/-- Table 1.3. -/
inductive ImageState | unformed | setup | restoring | opened | quiesced | sealed | fault
deriving DecidableEq, Repr

/-- The code of Table 1.3. -/
def ImageState.code : ImageState → Nat
  | .unformed => 0 | .setup => 1 | .restoring => 2 | .opened => 3 | .quiesced => 4 | .sealed => 5 | .fault => 6

/-- The state that a code of Table 1.3 names. -/
def ImageState.ofCode : Nat → ImageState
  | 1 => .setup | 2 => .restoring | 3 => .opened | 4 => .quiesced | 5 => .sealed | 6 => .fault | _ => .unformed

/-- Table 6.2. -/
inductive MirrorState | unpaired | connecting | paired | resync | interrupted | split | peerAway | mismatch
deriving DecidableEq, Repr

/-- The code of Table 6.2. -/
def MirrorState.code : MirrorState → Nat
  | .unpaired => 0 | .connecting => 1 | .paired => 2 | .resync => 3 | .interrupted => 4 | .split => 5
  | .peerAway => 6 | .mismatch => 7

/-- The state that a code of Table 6.2 names. -/
def MirrorState.ofCode : Nat → MirrorState
  | 1 => .connecting | 2 => .paired | 3 => .resync | 4 => .interrupted | 5 => .split | 6 => .peerAway
  | 7 => .mismatch | _ => .unpaired

/-- Table 5.6. -/
inductive CtxState | closed | opened | closing | error | frozen
deriving DecidableEq, Repr

/-- The code of Table 5.6. -/
def CtxState.code : CtxState → Nat
  | .closed => 0 | .opened => 1 | .closing => 2 | .error => 3 | .frozen => 4

/-- The state that a code of Table 5.6 names. -/
def CtxState.ofCode : Nat → CtxState
  | 1 => .opened | 2 => .closing | 3 => .error | 4 => .frozen | _ => .closed

/-- Table 14.8. -/
inductive LinkState | disabled | down | init | up | paused | recovering
deriving DecidableEq, Repr

/-- The code of Table 14.8. -/
def LinkState.code : LinkState → Nat
  | .disabled => 0 | .down => 1 | .init => 2 | .up => 3 | .paused => 4 | .recovering => 5

/-- The state that a code of Table 14.8 names. -/
def LinkState.ofCode : Nat → LinkState
  | 0 => .disabled | 2 => .init | 3 => .up | 4 => .paused | 5 => .recovering | _ => .down

/-- Table 12.5. -/
inductive ChanState | disabled | idle | waiting | running | halted | stopping
deriving DecidableEq, Repr

/-- The code of Table 12.5. -/
def ChanState.code : ChanState → Nat
  | .disabled => 0 | .idle => 1 | .waiting => 2 | .running => 3 | .halted => 4 | .stopping => 5

/-- The state that a code of Table 12.5 names. -/
def ChanState.ofCode : Nat → ChanState
  | 1 => .idle | 2 => .waiting | 3 => .running | 4 => .halted | 5 => .stopping | _ => .disabled

/-- Table 18.3, and a write that is answered later (R454). -/
inductive Abort
  | ok | noEntry | noSubindex | readOnly | writeOnly | rights | type | range | state | busy | tableRow | signature
  | storeFail | locked | later
deriving DecidableEq, Repr

/-- The code of Table 18.3; `later` has none and is never sent. -/
def Abort.code : Abort → Nat
  | .ok => 0 | .noEntry => 1 | .noSubindex => 2 | .readOnly => 3 | .writeOnly => 4 | .rights => 5 | .type => 6
  | .range => 7 | .state => 8 | .busy => 9 | .tableRow => 10 | .signature => 11 | .storeFail => 12 | .locked => 13
  | .later => 255

/-- Why the machine stops with a fault. No meaning of this model raises it: every command of the table has an effect
in the spec, so the one fault is kept for a later repair (safe: no run reaches it). -/
inductive Fault
  | /-- Raised by nothing: an access to an image address that does not exist is answered by the block itself
    (Table 7.8 row 9), never by a fault. Safe. -/
    noSuchAddress
deriving DecidableEq, Repr

/-- Why the machine refuses a command. -/
inductive Refusal
  | /-- Raised by an arm of `exec` whose command has no meaning yet. Safe: nothing is proved of such a command. -/
    notModelled (mnemonic : String)
deriving DecidableEq, Repr

/-! ### Messages and what leaves the block -/

/-- A message of a Treyr link (Table 13.2, Table 6.4): the 16-byte header, the mask slot of an MWRM, and the 64-byte
blocks of its data flow units. `tag` stands for LENGTH, `p0` for SEQ and `p1` for ADDR in a partner message. -/
structure Msg where
  op : Nat
  flags : Nat := 0
  tag : Nat := 0
  p0 : Nat := 0
  p1 : Nat := 0
  mask : Option (Nat × Nat) := none
  data : List (List Byte) := []
deriving DecidableEq, Repr

/-- Who waits for the answer of a Lexicon request. -/
inductive Requester
  | direct (p : Path)
  | port (i : Nat) (notify : Bool) (serial : Nat)
  | frame (prio src seq off : Nat)
  | config (p : Path) (entry : Nat)
deriving DecidableEq, Repr

/-- Completion status (spec/07_host_port.md Table 7.8). -/
inductive CplStatus | sc | ur | ca | rrs
deriving DecidableEq, Repr

/-- What leaves the block, in the order in which it leaves. -/
inductive Emit
  | /-- An event record (R250): pool queue, host address, header word and payload. -/
    record (q addr header : Nat) (payload : List Byte)
  | hostWrite (addr : Nat) (data : List Byte)
  | hostRead (tag addr len : Nat)
  | /-- A completion of a host read: function, tag, status, EP, Byte Count and data. -/
    completion (i tag : Nat) (st : CplStatus) (ep : Bool) (count : Nat) (data : List Byte)
  | /-- An MSI-X message: its function, vector, and the address and data of its table entry (R268). -/
    msix (i vec addr data : Nat)
  | /-- The value that a CLAIM returns. -/
    word (i value : Nat)
  | /-- A configuration request of function i is answered with Request Retry Status (R180). -/
    requestRetry (i : Nat)
  | pmPme
  | pmeToAck
  | ltr (ns : Nat)
  | /-- A flow unit of 72 bytes on a link (Table 14.1). -/
    fu (u : Nat) (bytes : List Byte)
  | marker (u m : Nat)
  | /-- A link control set (Table 14.6). -/
    ctrlSet (u type b0 b1 b2 b3 : Nat)
  | /-- A training set on a lane (Table 15.4). -/
    trainSet (lane type b0 b1 b2 b3 : Nat)
  | electricalIdle (u : Nat)
  | /-- A SKP set on every lane of a link that is not in electrical idle (R374). -/
    skpSet (u : Nat)
  | /-- An ALN set on every lane of a link that is not in electrical idle (R374). -/
    alnSet (u : Nat)
  | /-- The code groups that carry what was listed just before, by lane (R372). -/
    line (u : Nat) (groups : List (Nat × List Nat))
  | /-- A CAN FD frame: identifier and data field (Table 18.10). -/
    frame (id : Nat) (data : List Byte)
  | /-- The answer of a Lexicon request that a command carried by itself. -/
    lexAnswer (p : Path) (abort : Nat) (data : List Byte)
  | /-- An AVSBus Voltage write on rail 0, in mV (R419). -/
    avs (mv : Nat)
  | fuse (n : Nat)
deriving DecidableEq, Repr

/-! ### Scheduler entries -/

/-- What a carrier request serves. -/
inductive ReqOwner
  | hostWrite (i num : Nat)
  | hostRead (id part : Nat)
  | dmaWrite (k burst i num : Nat)
  | dmaRead (k burst slot : Nat)
  | mirrorWrite (seq : Nat)
  | resyncWrite (seq : Nat)
  | resyncRead (seg off : Nat)
deriving DecidableEq, Repr

/-- What an entry of a scheduler port carries (R225). -/
inductive Work
  | /-- An image access of ports 0 to 7: at most 256 B in one interleave unit. -/
    image (write : Bool) (ia len : Nat) (data : List (Option Byte)) (poison : Bool) (own : ReqOwner)
  | /-- A carrier message of service 7: `both` on both links, else on the slice's link or the one given. -/
    carrier (both : Bool) (link : Nat) (m : Msg)
  | /-- A partner message of port 8, with its segment for MCOPY and RCOPY. -/
    partner (seg : Option Nat) (m : Msg)
  | record (q seq type i source : Nat) (payload : List Byte)
  | dword (n addr value : Nat)
  | /-- One completion of a host read. -/
    cpl (id part : Nat)
  | /-- The completion of a read that is refused, or of a read of BAR0 or BAR4: tag, status, Byte Count and data. -/
    answer (tag : Nat) (st : CplStatus) (count : Nat) (data : List Byte)
  | /-- An MSI-X message; `q` is the pool queue behind it, none for the management message. -/
    msix (vec : Nat) (q : Option Nat)
  | hostRd (tag : Nat)
  | hostWr (k burst addr : Nat) (data : List Byte)
deriving DecidableEq, Repr

/-- An ungranted entry (R226). `cyc` is its cycle of entry, `color` 0 green, 1 yellow, 2 red (R240). -/
structure Entry where
  id : Nat
  svc : Nat
  i : Nat
  work : Work
  payload : Nat
  cyc : Nat
  color : Nat
deriving DecidableEq, Repr

/-- The tags of a leaf's head (R229): the entry, its start and finish tag, and, for a red head, the clause in which it
became head (Table 10.3). -/
structure Head where
  id : Nat
  start : Nat
  finish : Nat
  since : Nat
deriving DecidableEq, Repr

/-- A token bucket in 1/1,000 B, in which every rate of R233 adds a whole number a clause, and the clause of its last
refill. -/
structure Bucket where
  tok : Int
  cyc : Nat
deriving DecidableEq, Repr

/-- One scheduler port. `heads` is keyed by service × 256 + function; `vtime` and `svcTag` by service. `gate` is the
active list, whose cycle began at clause `gateAt`; `outside` holds entries that have found no room (R226), oldest
first. -/
structure Port where
  entries : List Entry
  heads : Tbl Head
  vtime : Tbl Nat
  pv : Nat
  svcTag : Tbl Nat
  gate : List (Nat × Nat)
  gateNext : Option (List (Nat × Nat))
  gateAt : Nat
  gateRuns : Bool
  outside : List Entry
deriving DecidableEq, Repr

/-- A port at reset. -/
def Port.reset : Port := ⟨[], [], [], 0, [], [], none, 0, false, []⟩

/-- A sampler's running period (R245). -/
structure Sampler where
  start : Nat
  maxDelay : Nat
  grants : Nat
deriving DecidableEq, Repr

/-- The scheduler: ports 0 to 9, and the buckets of every shaper and meter. -/
structure Sched where
  ports : Tbl Port
  buckets : Tbl Bucket
  samplers : Tbl Sampler
  nextId : Nat
  weightWait : List (Nat × Nat)
deriving DecidableEq, Repr

/-! ### Clock, persistence and restart -/

/-- Clause and clock state. `carried`: the items of Table 2.2 deferred, oldest first, and `streak` in how many clauses in
a row each has been (R41, R42); `ran`: the clause in which an item ran last (R41); `fired`: the coalescing expiries that
items 7 and 8 have handled in this clause, of its own slot and of earlier ones (R44). `steadySince`: the PLL has been locked again since that clause (R39). `late`: written values, by
key of the register file, that take effect at the next clause boundary. -/
structure Clock where
  powered : Bool
  clause : Nat
  sub : Nat
  steadySince : Option Nat
  carried : List Nat
  streak : Tbl Nat
  gated : Bool
  late : Tbl Nat
  ran : Tbl Nat
  fired : Tbl (Nat × Nat)
deriving DecidableEq, Repr

/-- The progress of one carrier in the running Semicolon. `sentAt` and `statusAt` in cycles; `attempts` counts those
without progress, `trying` says that the last CKPT_BEGIN is an attempt not yet judged, and `darkAt` since when no link of
the carrier is in the state UP (R59). -/
structure SemiCar where
  front : Nat
  done : Bool
  attempts : Nat
  sentAt : Nat
  statusAt : Nat
  countAtSend : Nat
  stuck : Bool
  begun : Bool
  mark : Nat
  trying : Bool
  darkAt : Option Nat
deriving DecidableEq, Repr

/-- The dirty planes and the Semicolon (R47, R58). `openB`: plane B is the open plane. `idleLeft`: Semicolons that
Hold entry still asks for (R60). -/
structure Persist where
  dirty : SegSet
  closing : SegSet
  openB : Bool
  count : Nat
  epoch : Nat
  startClause : Nat
  lastStart : Nat
  trigger : Bool
  running : Bool
  cars : Tbl SemiCar
  beginDue : Option Nat
  sealDue : Bool
  triggersHeld : Bool
  writesStopped : Bool
  holdLeft : Nat
deriving DecidableEq, Repr

/-- The governor's own state of one carrier: reports of this power-up (clause, energy; newest first), the bytes
persisted with their clause, and whether the report is stale (R52). -/
structure GovCar where
  reports : List (Nat × Nat)
  persisted : List (Nat × Nat)
  stale : Bool
  recompute : Bool
deriving DecidableEq, Repr

/-- One context as the context table of the Keep store holds it (R104, R122): its tail is `durable + pending`, its head
`durable - headLag`. INSTANCE stands with the bank's ranges. -/
structure CtxRec where
  n : Nat
  durable : Nat
  pending : Nat
  headLag : Nat
  ringBase : Nat
  ringSize : Nat
  state : CtxState
  policy : Nat
  notify : Nat
  error : Nat
  coalCount : Nat
  coalTime : Nat
  queue : Nat
  tag : Nat
deriving DecidableEq, Repr

/-- One row of the sealed partner state (Table 6.9). -/
structure RangeRec where
  row : Nat
  base : Nat
  segments : Nat
  generation : Nat
  owner : Nat
  state : Nat
deriving DecidableEq, Repr

/-- The partner state of a metadata bank (R155). The map holds one bit per four segments. -/
structure PartnerRec where
  pairId : Nat
  side : Nat
  policy : Nat
  mirror : Nat
  lease : Nat
  rows : List RangeRec
  map : SegSet
deriving DecidableEq, Repr

/-- One entry of the DMA channel record (Table 12.12). -/
structure DmaRec where
  flags : Nat
  i : Nat
  channel : Nat
  opcode : Nat
  index : Nat
  tag : Nat
  progress : Nat
  ring : Nat
deriving DecidableEq, Repr

/-- The intent record (Table 3.7). -/
structure Intent where
  kind : Nat
  epoch : Nat
  seq : Nat
  clause : Nat
  state : Nat
  openB : Bool
  saveAck : Nat
  dirtyMax : Nat
deriving DecidableEq, Repr

/-- The content of a metadata bank (Table 3.6). `ranges`: instance, first context and count of the assignment, for the
INSTANCE field of the context records. -/
structure BankContent where
  ranges : List (Nat × Nat × Nat)
  contexts : List CtxRec
  extents : List (Nat × List Byte)
  planeA : SegSet
  planeB : SegSet
  partner : PartnerRec
  dma : Tbl DmaRec
deriving DecidableEq, Repr

/-- The seal record's fields that the restart reads (Table 17.8), and its 256 header bytes. -/
structure SealRec where
  kind : Nat
  seq : Nat
  epoch : Nat
  carriers : Nat
  imageId : Nat
  segments : Nat
  saveAck : Nat
  header : List Byte
deriving DecidableEq, Repr

/-- One metadata bank. `intent` none: the record cannot be read. `sealRec` some: the seal is complete (R69). -/
structure Bank where
  intent : Option Intent
  content : BankContent
  sealRec : Option SealRec
  readable : Bool
deriving DecidableEq, Repr

/-- What a seal serves. -/
inductive SealFor
  | semicolon
  | commit (who : Requester)
  | extent (row : Nat) (record : List Byte) (who : Requester)
  | fullStop
deriving DecidableEq, Repr

/-- A seal being written: its KIND, its purpose, its bank and the intent record. -/
structure SealJob where
  purpose : SealFor
  bank : Nat
  intent : Intent
deriving DecidableEq, Repr

/-- One copy of the stored set (Table 18.5): whether MAGIC and DIGEST are right, GENERATION, and the entries
(register, row or unit, value bytes). -/
structure StoredCopy where
  correct : Bool
  generation : Nat
  entries : List (Nat × Nat × List Byte)
deriving DecidableEq, Repr

/-- A firmware slot (R429): status 0 empty, 1 good, 2 bad. -/
structure FwSlot where
  status : Nat
  version : Nat
  step : Nat
  digest : Nat
  certOk : Bool
deriving DecidableEq, Repr

/-- The Keep store (Table 3.5), the one-time fuses, the seal being written and those that wait for it, and the extent
records sealed that take effect at the next clause boundary (R196). -/
structure Keep where
  bank0 : Bank
  bank1 : Bank
  copyA : StoredCopy
  copyB : StoredCopy
  slot0 : FwSlot
  slot1 : FwSlot
  preferred : Nat
  ownerKey : List Byte
  ownerShadow : List Byte
  counter : Nat
  fuses : Nat
  job : Option SealJob
  waiting : List SealFor
  extNext : List (Nat × List Byte)
deriving DecidableEq, Repr

/-- The cut and the Full Stop (Table 3.4): the acknowledgements of SAVE (bit 2c + l), the cut mark of each carrier,
whether the intent record and the seal header have been written, and whether the device is quiet. -/
structure FullStop where
  active : Bool
  epoch : Nat
  stateAtCut : Nat
  clause : Nat
  saveAck : Nat
  marks : Tbl Nat
  sentAt : Tbl Nat
  finalSent : Nat
  quiet : Bool
  dirtyMax : Nat
deriving DecidableEq, Repr

/-- A host read part or a host write part held for a slice that is not resident (R86). -/
structure HeldPart where
  order : Nat
  cyc : Nat
  svc : Nat
  i : Nat
  seg : Nat
  car : Nat
  work : Work
  payload : Nat
deriving DecidableEq, Repr

/-- The restart (Table 4.1). `bank`: the bank whose seal is used. `epoch` none: unknown (R81). `progress`: the resident
segments up to which RESTORE_PROGRESS has been considered (R95); `sealMs`: T_SEAL_MS (Table 4.4). -/
structure Restore where
  bank : Option Nat
  epoch : Option Nat
  torn : Option (Option Nat)
  warm : Bool
  startAt : Nat
  openAt : Option Nat
  sweepAt : Nat
  held : List HeldPart
  heldReads : Nat
  touched : SegSet
  touchWait : Tbl (List Nat)
  progress : Nat
  prevIntent : Option Intent
  sealMs : Nat
deriving DecidableEq, Repr

/-! ### Append engine and image writes -/

/-- An accepted image write that still lacks an acknowledgement: its parts without a carrier ACK, and its copies
without a mirror resolution (R111, R112). -/
structure WriteRec where
  i : Nat
  num : Nat
  parts : Nat
  copies : Nat
deriving DecidableEq, Repr

/-- A pending publish (R113). -/
structure Pub where
  ctx : Nat
  i : Nat
  fence : Nat
  tail : Nat
  count : Nat
  clause : Nat
  two : Bool
  degraded : Bool
deriving DecidableEq, Repr

/-- The running notification state of a context (R110, R115). -/
structure CtxRun where
  u : Nat
  since : Nat
  oldest : Nat
  degraded : Bool
  errs : Nat
  errClause : Option Nat
deriving DecidableEq, Repr

/-- The append engine. -/
structure Append where
  pubs : List Pub
  run : Tbl CtxRun
  writes : List WriteRec
  numbered : Tbl Nat
deriving DecidableEq, Repr

/-! ### Mirror engine -/

/-- A copy in the retain buffer (R135). `sentAt` in cycles, none while it waits on port 8. -/
structure Copy where
  seq : Nat
  seg : Nat
  ia : Nat
  data : List Byte
  i : Nat
  num : Nat
  sentOn : Nat
  sentAt : Option Nat
deriving DecidableEq, Repr

/-- A copy received from the partner that still waits for carrier acknowledgements (R136). -/
structure RxCopy where
  seq : Nat
  parts : Nat
  resync : Bool
deriving DecidableEq, Repr

/-- A planned handover in progress (R133). `sentAt` none: the copies of the range are draining. -/
structure Handover where
  row : Nat
  who : Requester
  begun : Nat
  sentAt : Option Nat
deriving DecidableEq, Repr

/-- The body of a received PAIR_HELLO (Table 6.1). -/
structure Hello where
  pairId : Nat
  side : Nat
  policy : Nat
  ranges : Nat
  segments : Nat
  gens : List Nat
deriving DecidableEq, Repr

/-- The mirror engine. `behind` holds the copies that wait for an RCOPY read (R140), `rxWait` the received copies that
wait for the governor (R136), `rowNext` and `ownNext` what the rows become at the next boundary (R204). `peerMap` holds
the segments that this side knows to be marked on the partner (its RMAPs and the RCOPYs that have begun), `peerLast` the
sequence and segment of each last RCOPY not yet covered by a RACK, and `rcopyStop` the first RCOPY refused since resync
began on its segment, which no RACK covers (R140). -/
structure Mirror where
  wanted : Bool
  before : MirrorState
  retain : List Copy
  txSeq : Nat
  rxDone : Nat
  rxSeen : List Nat
  rx : List RxCopy
  mackDue : Bool
  map : SegSet
  resyncSeg : Option Nat
  resyncOff : Nat
  resyncMarked : Bool
  rcopies : List (Nat × Nat × Bool)
  rcopyTx : Nat
  rcopyRx : Nat
  helloSent : Bool
  hello : Option Hello
  peerRows : Tbl (Nat × Nat)
  conflicts : List Nat
  downAt : Option Nat
  leaseUntil : Option Nat
  leaseReq : Nat
  leaseSentAt : Option Nat
  leaseAnswered : Bool
  noGrantRaised : Bool
  takeoverAt : Option Nat
  takeoverReq : Nat
  witnessNext : Option Nat
  ownNext : List Nat
  rowNext : Tbl Nat
  resend : List Msg
  resyncRead : Bool
  leaseT : Nat
  behind : List Nat
  rxWait : List Instr
  handover : Option Handover
  peerMap : SegSet
  peerLast : List (Nat × Nat)
  rcopyStop : Option Nat
deriving DecidableEq, Repr

/-! ### Carriers -/

/-- A tagged request that is not retired (R308). `naked` is the reason of its last NAK, 0 for none; `behind` the epoch of
the newest DIRTY_SET of its segment that a carrier link still held when a write was handed over (R25). -/
structure TagReq where
  tag : Nat
  link : Nat
  msg : Msg
  own : ReqOwner
  seg : Nat
  ia : Nat
  len : Nat
  attempts : Nat
  naked : Nat
  sentAt : Nat
  behind : Option Nat
deriving DecidableEq, Repr

/-- One carrier port's engine. `rounds`: segment and clause of each retry round due (R312). `upMs`: milliseconds from
power good to the port's last link-up (T_LINKS_MS of Table 4.4). -/
structure Carrier where
  nextTag : Nat
  reqs : List TagReq
  newest0 : Nat
  newest1 : Nat
  ident0 : Bool
  ident1 : Bool
  rounds : Tbl Nat
  touches : List (Nat × Nat)
  resident : SegSet
  front : Option Nat
  ready : Bool
  assigned : Bool
  capacity : Nat
  healthAt : Nat
  healthStale : Bool
  selfRefresh : Bool
  srAsked : Bool
  wakeFirst : Option Nat
  wakeAt : Nat
  returning : Option Nat
  failoverAt : Option Nat
  upMs : Nat
deriving DecidableEq, Repr

/-! ### Links and lanes -/

/-- A flow unit as the replay buffer keeps it (R342). -/
structure Fu where
  type : Nat
  vc : Nat
  payload : List Byte
deriving DecidableEq, Repr

/-- A group handed over for transmission (R337): its channel, its flow units and the messages of its slots (R305). -/
structure Group where
  vc : Nat
  fus : List Fu
  msgs : List Msg
deriving DecidableEq, Repr

/-- A planned pause in progress (Table 14.10). `reqSeen`: the far end's PAUSE_REQ has come too. -/
structure Pause where
  reason : Nat
  width : Nat
  rate : Nat
  ours : Bool
  startAt : Nat
  ackSent : Bool
  ackSeen : Bool
  lanesReady : Bool
  reqSeen : Bool
deriving DecidableEq, Repr

/-- A message delivered to its engine (R341) that still takes receive room: its channel, and whether it is the last of
its group. -/
structure InMsg where
  vc : Nat
  last : Bool
  msg : Msg
deriving DecidableEq, Repr

/-- One link unit. `resuming`: the lanes are ready and RESUME is exchanged. `buf` holds the FUs from O to N − 1, and
`sentTimes` when each of them was last transmitted. Credit tables are keyed by 2 × channel + (1 for data). -/
structure Link where
  n : Nat
  o : Nat
  e : Nat
  waiting : Bool
  dup : Nat
  buf : List Fu
  sent : List Group
  queue : List Group
  rxGroup : Option (Nat × Nat × List (List Byte))
  inbox : List InMsg
  xoff : Nat
  xoffOut : Nat
  fcSeen : Bool
  granted : Tbl Nat
  used : Tbl Nat
  given : Tbl Nat
  fcNext : Nat
  token : Nat
  tokenAt : Nat
  checked : Bool
  echoed : Bool
  initAt : Nat
  badCheck : Bool
  pause : Option Pause
  resumeSeen : Bool
  resumeEchoed : Bool
  resumeE : Nat
  resuming : Bool
  lossAt : Nat
  nakAt : Nat
  sentTimes : List Nat
  ackTries : Nat
  heldSince : Tbl Nat
  crcSecond : Nat
  crcCount : Nat
  wantPause : Option (Nat × Nat × Nat)
  ctrlAt : Nat
  replayDue : Option Nat
deriving DecidableEq, Repr

/-- The training of one link's lanes (Table 15.5): `step` 0 none, 1 TS_CAP, 3 TS_RATE, 5 equalisation, 6 TS_READY,
7 ready. `held`: the link went down by COMMAND and does not train. Masks are by lane number. -/
structure Training where
  step : Nat
  startAt : Nat
  firstGoodAt : Option Nat
  rate : Nat
  ceiling : Nat
  farRates : Nat
  good : Nat
  farGood : Nat
  readyLanes : Nat
  token : Nat
  eqPass : Nat
  eqDoneLanes : Nat
  failed : Bool
  failAt : Nat
  prbs : Bool
  width : Nat
  held : Bool
  limit : Nat
deriving DecidableEq, Repr

/-- One lane's own state (`lowEvals`: re-plan evaluations in a row that found its eye low): consecutive asserted and clear samples of its detectors, what is reported, and the far lane
number (R382, R389). -/
structure Lane where
  losRun : Nat
  lolRun : Nat
  losReported : Bool
  lolReported : Bool
  losRaw : Bool
  lolRaw : Bool
  laneNo : Nat
  eqIter : Nat
  best : Nat × Nat
  bestCoeff : Nat × Nat
  kept : Option (Nat × Nat × Nat)
  scanned : Bool
  low : Nat
  scanAt : Nat
  lowEvals : Nat
deriving DecidableEq, Repr

/-- The lines of the links (R372, R374). `disparity`: the running disparity of each lane's transmitter, true when
positive; a lane that is not listed is in electrical idle. `skp`: the time since the start of the last SKP set of a link,
in 10⁻⁴ ns. `units`: how often what the model does not list has stood between two listed units, the model's own count. -/
structure LineState where
  disparity : Tbl Bool
  skp : Tbl Nat
  units : Nat
deriving DecidableEq, Repr

/-! ### Host port, functions and events -/

/-- One part of a host read. -/
structure ReadPart where
  ia : Nat
  len : Nat
  data : Option (List Byte)
  poison : Nat
  sent : Bool
deriving DecidableEq, Repr

/-- A host read in progress (R170). `cyc` in cycles. -/
structure ReadJob where
  id : Nat
  i : Nat
  tag : Nat
  off : Nat
  len : Nat
  cyc : Nat
  parts : List ReadPart
deriving DecidableEq, Repr

/-- What a read of host memory serves. -/
inductive HostFor
  | descriptor (k id : Nat)
  | dmaRead (k burst slot : Nat)
deriving DecidableEq, Repr

/-- A read of host memory: `sent` once its request has left. -/
structure HostReq where
  tag : Nat
  sent : Bool
  what : HostFor
  i : Nat
  addr : Nat
  len : Nat
  got : List Byte
deriving DecidableEq, Repr

/-- The bases of the BARs of the PF, and those of the VF BARs (Table 7.5). -/
structure BarBases where
  pf0 : Nat
  pf2 : Nat
  pf4 : Nat
  vf0 : Nat
  vf2 : Nat
  vf4 : Nat
deriving DecidableEq, Repr

/-- The host port and the configuration space of its functions. Sets are segment sets over function numbers, or over
function × 256 + vector. `bus` is the bus number that the host has assigned (R161), `tag14`, `tag10` and `mrrs` are the
tag enables and Max_Read_Request_Size (R169), `msixTable` holds the address (words 0 and 1) and the data (word 2) of each
MSI-X table entry by (function × 256 + vector) × 4 + word, `rateCap` is LINK_RATE_MAX as the last training took it (R159),
and `subVendor` and `subId` are the subsystem IDs in effect (R161). -/
structure HostPort where
  posted : List Instr
  readWait : List Instr
  reads : List ReadJob
  nextRead : Nat
  reqs : List HostReq
  nextTag : Nat
  vfEnable : Bool
  vfMem : Bool
  numVfs : Nat
  busMaster : SegSet
  msixEnable : SegSet
  fnMask : SegSet
  vecOpen : SegSet
  d3 : Bool
  pmeEn : Bool
  flr : SegSet
  pfWin : Nat
  vfWin : Nat
  pfBar4 : Nat
  vfBar4 : Nat
  aerFatal : Tbl Nat
  aerCorr : Tbl Nat
  faults : Tbl (Nat × Nat)
  poisons : Tbl (Nat × Nat)
  perstLow : Bool
  ltrAt : Nat
  ltrValue : Nat
  bus : Nat
  bases : BarBases
  tag14 : Bool
  tag10 : Bool
  mrrs : Nat
  msixTable : Tbl Nat
  rateCap : Nat
  subVendor : Nat
  subId : Nat
deriving DecidableEq, Repr

/-- A reset of a function (R213): `kind` of its latest trigger, and whether that of its work in hand is to `drain`, as
`asked`. `since` is the clause of the trigger, `begun` its boundary b (none: still to come), `disabled` the clause in
which its queues were disabled. `joinAt`: the clause in which a squash has joined a drain (R221). `func`: an FLR or the
clearing of VF Enable is among its triggers, so that the function's registers are reset; `port`: a trigger other than
INST_COMMAND is; `pf`: an FLR of the PF is. The rest counts for Table 9.4. -/
structure ResetJob where
  i : Nat
  kind : Nat
  drain : Bool
  asked : Bool
  since : Nat
  begun : Option Nat
  outcome : Nat
  joinAt : Option Nat
  func : Bool
  port : Bool
  pf : Bool
  reads : Nat
  dma : Nat
  closed : Nat
  aborted : Nat
  discarded : Nat
  disabled : Option Nat
deriving DecidableEq, Repr

/-- The running state of a queue (R255, R259). -/
structure QRun where
  armed : Bool
  u : Nat
  since : Nat
  types : Nat
  firstLost : Nat
  disabling : Bool
deriving DecidableEq, Repr

/-- A record that waits for its queue to be enabled (R95, R220). -/
structure HeldRec where
  i : Nat
  about : Nat
  type : Nat
  source : Nat
  payload : List Byte
deriving DecidableEq, Repr

/-- The event controller and the wake watcher. Sets over function × 1,024 + source, or source × 128 + unit. -/
structure Events where
  run : Tbl QRun
  pend : SegSet
  claimed : SegSet
  outstanding : SegSet
  units : SegSet
  decided : List Nat
  inflight : List (Nat × Nat × Nat)
  lastMember : Tbl Nat
  cpuPrio : Tbl Nat
  selfHold : SegSet
  held : List HeldRec
  fieldAt : Tbl Nat
  gpio : Nat
  thermLow : Bool
  peWake : Bool
  pmeStatus : Bool
deriving DecidableEq, Repr

/-! ### DMA -/

/-- One read of a burst: its space, address and length, and its data once returned. `tag` counts host requests. -/
structure BurstRead where
  window : Bool
  addr : Nat
  len : Nat
  data : Option (List Byte)
  dst : Nat
deriving DecidableEq, Repr

/-- A burst in flight (R285): its first byte or element, how many, and its phase (1 index, 2 source, 3 destination).
`waitWrites` are the destination writes not issued yet, `writes` those issued and not accepted, `accepted` the bytes
accepted. `waitReads`: the reads of its phase wait for places in the held-read store (R86). -/
structure Burst where
  id : Nat
  off : Nat
  n : Nat
  phase : Nat
  idx : List Nat
  reads : List BurstRead
  writes : Nat
  accepted : Nat
  waitWrites : List (Bool × Nat × List Byte)
  waitReads : Bool
deriving DecidableEq, Repr

/-- A decoded descriptor (Tables 12.6 and 12.7). -/
structure Desc where
  control : Nat
  src : Nat
  dst : Nat
  count : Nat
  index : Nat
  tag : Nat
deriving DecidableEq, Repr

/-- The first failure of a halting channel: CAUSE, PHASE, ADDRESS and the byte or element at which it fell. -/
structure ChanFault where
  cause : Nat
  phase : Nat
  addr : Nat
  off : Nat
deriving DecidableEq, Repr

/-- One channel's work in progress. `fetching`: the number of the descriptor read under way. `stop`: 0 none,
1 DISABLE, 2 ABORT. `differ`: the first differing byte of a COMPARE. `paid`: the descriptor to be read next has taken its
request already, before a RESUME. -/
structure Chan where
  fetching : Option Nat
  desc : Option Desc
  issued : Nat
  bursts : List Burst
  fault : Option ChanFault
  stop : Nat
  differ : Option Nat
  paid : Bool
deriving DecidableEq, Repr

/-- The DMA engine. -/
structure Dma where
  chans : Tbl Chan
  nextBurst : Nat
  last : Nat
  held : Bool
deriving DecidableEq, Repr

/-! ### Power, security and the Lexicon -/

/-- A transition in progress (Tables 16.2, 16.3). `done` lists the steps that need a roll-back. -/
structure Trans where
  code : Nat
  target : Nat
  origin : Nat
  cause : Nat
  wake : Nat
  todo : List Nat
  started : Nat
  stepAt : Nat
  entered : Bool
  done : List Nat
  aborted : Bool
  committed : Bool
deriving DecidableEq, Repr

/-- The power manager and the sensors. `lowSince` in cycles: PFAIL_N low, or VSENSE12 at fail level. -/
structure Power where
  trans : Option Trans
  pending : Option (Nat × Nat × Nat)
  exitNext : Option (Nat × Nat)
  pfailHigh : Bool
  vsenseOk : Bool
  lowSince : Option Nat
  detected : Bool
  cutDone : Bool
  clearSince : Option Nat
  glitchAt : Option Nat
  patrolFrom : Nat
  patrolNext : Nat
  patrolPrev : Tbl Nat
  linksAtStep10 : Nat
  avsMv : Nat
  avsFails : Nat
  avsAt : Nat
  sampleAt : Nat
  replanAt : Nat
deriving DecidableEq, Repr

/-- An attestation in progress (R443): its path, its nonce, and the bytes that its signature covers, once the signature
has begun (R425). -/
structure Attest where
  path : Path
  nonce : List Byte
  body : Option (List Byte)
deriving DecidableEq, Repr

/-- The security engine's volatile state. `bootSel`: the level of BOOT_SEL at the last release of POR_N. `sealWaits`: a
bank write whose seal waits for the attestation that signs: its corrected words, its words written again, and whether one
failed (R425). -/
structure Security where
  recovery : Bool
  namedSlot : Nat
  challenge : Option Nat
  attest : Option Attest
  sealWaits : Option (Nat × Nat × Bool)
  reportFor : Option Nat
  testSeen : Bool
  bootSel : Nat
deriving DecidableEq, Repr

/-- A host Lexicon port (Table 18.6). `serial` counts the requests begun, so that one abandoned is not answered later;
`request` and `row` are the words of REQUEST and ROW as last written. -/
structure LexPort where
  busy : Bool
  count : Nat
  abort : Nat
  length : Nat
  size : Nat
  data : List Byte
  notify : Bool
  serial : Nat
  request : Nat
  row : Nat
deriving DecidableEq, Repr

/-- An open segmented transfer (R455). `cyc` is a clause. -/
structure Transfer where
  port : PortId
  index : Nat
  row : Nat
  got : List Byte
  cyc : Nat
deriving DecidableEq, Repr

/-- A write that is answered when another subsystem has finished (R454). -/
structure Waiting where
  who : Requester
  reg : Nat
deriving DecidableEq, Repr

/-- The last response sent to a field node, with the request it answers (R467). -/
structure Kept where
  seq : Nat
  fn : Nat
  request : List Byte
  id : Nat
  response : List Byte
  cyc : Nat
  pending : Bool
deriving DecidableEq, Repr

/-- The Lexicon's ports, transfers and answers, and a SIGNED_CONFIG in progress. -/
structure Lexicon where
  ports : Tbl LexPort
  transfers : List Transfer
  waiting : List Waiting
  kept : Tbl Kept
  frameSeq : Nat
  heartbeatAt : Nat
  config : Option (Path × Requester × List Byte × Nat)
  configAnswer : Option Nat
deriving DecidableEq, Repr

/-- The levels that the block drives on the balls of Table 19.3 that follow its registers: CAN_STBY (R462), an
open-drain output that pulls low (R274, R416), and the GPIO balls set as outputs with their levels (Table 19.14). -/
structure Pins where
  canStby : Bool
  thermLow : Bool
  wakeLow : Bool
  gpioDriven : Nat
  gpioOut : Nat
deriving DecidableEq, Repr

/-! ### The state -/

/-- The state of the block. -/
structure State where
  /-- Commands that wait, first in, first out. -/
  pending : List Instr
  regs : Tbl Nat
  blobs : Tbl (List Byte)
  clock : Clock
  sched : Sched
  persist : Persist
  gov : Tbl GovCar
  keep : Keep
  stop : FullStop
  restore : Restore
  append : Append
  mirror : Mirror
  carriers : Tbl Carrier
  links : Tbl Link
  training : Tbl Training
  lanes : Tbl Lane
  line : LineState
  host : HostPort
  resets : List ResetJob
  events : Events
  dma : Dma
  power : Power
  security : Security
  lexicon : Lexicon
  pins : Pins
  /-- How many free values have been drawn: the model's own counter (Config). -/
  draws : Nat
  /-- Everything that has left the block, oldest first: the model's own record of its outputs. -/
  outbox : List Emit
deriving DecidableEq, Repr

/-! ### Defaults of the sparse structures -/

def SemiCar.reset : SemiCar := ⟨0, false, 0, 0, 0, 0, false, false, 0, false, none⟩
def GovCar.reset : GovCar := ⟨[], [], false, false⟩
def QRun.reset : QRun := ⟨false, 0, 0, 0, 0, false⟩
def CtxRun.reset : CtxRun := ⟨0, 0, 0, false, 0, none⟩
def Chan.reset : Chan := ⟨none, none, 0, [], none, 0, none, false⟩
def LexPort.reset : LexPort := ⟨false, 0, 0, 0, 0, [], false, 0, 0, 0⟩
def Sampler.reset : Sampler := ⟨0, 0, 0⟩

/-- A carrier port before anything has been heard of its carrier. -/
def Carrier.reset : Carrier :=
  ⟨0, [], 0, 0, false, false, [], [], [], none, false, false, 0, 0, false, false, false, none, 0, none, none, 0⟩

/-- A link before its first initialisation. -/
def Link.reset : Link :=
  { n := 0, o := 0, e := 0, waiting := false, dup := 0, buf := [], sent := [], queue := [], rxGroup := none,
    inbox := [], xoff := 255, xoffOut := 0, fcSeen := false, granted := [], used := [], given := [], fcNext := 0,
    token := 0, tokenAt := 0, checked := false, echoed := false, initAt := 0, badCheck := false, pause := none,
    resumeSeen := false, resumeEchoed := false, resumeE := 0, resuming := false, lossAt := 0, nakAt := 0,
    sentTimes := [], ackTries := 0, heldSince := [], crcSecond := 0, crcCount := 0, wantPause := none, ctrlAt := 0,
    replayDue := none }

/-- The lanes of a link that do not train. -/
def Training.reset : Training :=
  ⟨0, 0, none, 0, 5, 0, 0, 0, 0, 0, 0, 0, false, 0, false, 0, false, 8⟩

/-- A lane at reset. -/
def Lane.reset : Lane :=
  ⟨0, 0, false, false, false, false, 0, 0, (0, 0), (0, 0), none, false, 0, 0, 0⟩

/-- A metadata bank of a new part: a readable intent record whose KIND is zero, and no seal. -/
def Bank.blank : Bank :=
  ⟨some ⟨0, 0, 0, 0, 0, false, 0, 0⟩, ⟨[], [], [], [], [], ⟨0, 0, 0, 0, 0, [], []⟩, []⟩, none, true⟩

/-- The Keep store of a new part: blank banks, no stored set, firmware of rollback step 0 in slot 0. -/
def Keep.blank : Keep :=
  { bank0 := Bank.blank, bank1 := Bank.blank, copyA := ⟨false, 0, []⟩, copyB := ⟨false, 0, []⟩,
    slot0 := ⟨1, 1, 0, 0, true⟩, slot1 := ⟨0, 0, 0, 0, false⟩, preferred := 0, ownerKey := [], ownerShadow := [],
    counter := 0, fuses := 0, job := none, waiting := [], extNext := [] }

/-- The clock at the release of POR_N (R36). -/
def Clock.reset : Clock := ⟨true, 0, 0, none, [], [], false, [], [], []⟩

/-- The scheduler at the release of POR_N. -/
def Sched.reset : Sched := ⟨[], [], [], 0, []⟩

/-- The planes and the Semicolon at the release of POR_N. Plane A is open (R47 names neither; DESIGN CHOICE, log 87). -/
def Persist.reset : Persist := ⟨[], [], false, 0, 0, 0, 0, false, false, [], none, false, false, false, 0⟩

/-- No cut has fallen. -/
def FullStop.reset : FullStop := ⟨false, 0, 0, 0, 0, [], [], 0, false, 0⟩

/-- No restart runs. -/
def Restore.reset : Restore :=
  ⟨none, none, none, false, 0, none, 0, [], 0, [], [], 0, none, 0⟩

/-- The append engine at the release of POR_N. -/
def Append.reset : Append := ⟨[], [], [], []⟩

/-- The mirror engine at the release of POR_N. -/
def Mirror.reset : Mirror :=
  { wanted := false, before := .unpaired, retain := [], txSeq := 0, rxDone := 4294967295, rxSeen := [], rx := [],
    mackDue := false, map := [], resyncSeg := none, resyncOff := 0, resyncMarked := false, rcopies := [],
    rcopyTx := 0, rcopyRx := 4294967295, helloSent := false, hello := none, peerRows := [],
    conflicts := [], downAt := none, leaseUntil := none, leaseReq := 0,
    leaseSentAt := none, leaseAnswered := true, noGrantRaised := false, takeoverAt := none, takeoverReq := 0, witnessNext := none, ownNext := [], rowNext := [],
    resend := [], resyncRead := false, leaseT := 0,
    behind := [], rxWait := [], handover := none, peerMap := [], peerLast := [], rcopyStop := none }

/-- The host port at the release of POR_N, with the BAR sizes of the default encodings (R165) and the default subsystem
IDs. The bus number, the BAR bases and the tag enables are 0 and Max_Read_Request_Size is 512 B, the reset values of the
base specification (PRESUMED, log 96); no command of the table changes them. -/
def HostPort.reset : HostPort :=
  { posted := [], readWait := [], reads := [], nextRead := 0, reqs := [], nextTag := 0, vfEnable := false,
    vfMem := false, numVfs := 0, busMaster := [], msixEnable := [], fnMask := [], vecOpen := [], d3 := false,
    pmeEn := false, flr := [], pfWin := 16, vfWin := 16, pfBar4 := 21, vfBar4 := 14, aerFatal := [], aerCorr := [],
    faults := [], poisons := [], perstLow := true, ltrAt := 0, ltrValue := 0,
    bus := 0, bases := ⟨0, 0, 0, 0, 0, 0⟩, tag14 := false, tag10 := false, mrrs := 512, msixTable := [], rateCap := 6,
    subVendor := 0x1FB4, subId := 1 }

/-- The event controller at the release of POR_N. -/
def Events.reset : Events :=
  { run := [], pend := [], claimed := [], outstanding := [], units := [], decided := [], inflight := [],
    lastMember := [], cpuPrio := [], selfHold := [], held := [], fieldAt := [], gpio := 0,
    thermLow := false, peWake := false, pmeStatus := false }

/-- The DMA engine at the release of POR_N. -/
def Dma.reset : Dma := ⟨[], 0, 63, false⟩

/-- The power manager at the release of POR_N; the regulator of VDD_CORE starts at 750 mV (R419). -/
def Power.reset : Power :=
  { trans := none, pending := none, exitNext := none, pfailHigh := true, vsenseOk := true, lowSince := none,
    detected := false, cutDone := false, clearSince := none, glitchAt := none, patrolFrom := 0, patrolNext := 0,
    patrolPrev := [], linksAtStep10 := 0, avsMv := 750, avsFails := 0, avsAt := 0,
    sampleAt := 0, replanAt := 0 }

/-- The security engine at the release of POR_N. -/
def Security.reset : Security := ⟨false, 1, none, none, none, none, false, 0⟩

/-- The Lexicon at the release of POR_N. -/
def Lexicon.reset : Lexicon := ⟨[], [], [], [], 0, 0, none, none⟩

/-- The block right after the release of POR_N of a new part: every register at its default, the Keep store blank,
firmware of slot 0 running, no stored set in use (so source 0x0FA is pending in instance 0, R458). -/
def State.reset : State :=
  { pending := [], regs := [(Reg.mgmtCount * 4294967296 + 0x0FA, 1)],
    blobs := [], clock := Clock.reset, sched := Sched.reset, persist := Persist.reset, gov := [], keep := Keep.blank,
    stop := FullStop.reset, restore := Restore.reset, append := Append.reset, mirror := Mirror.reset, carriers := [],
    links := [], training := [], lanes := [], line := ⟨[], [], 0⟩, host := HostPort.reset, resets := [],
    events := { Events.reset with pend := [(0x0FA, 0x0FB)], units := [(0x0FA * 128, 0x0FA * 128 + 1)] },
    dma := Dma.reset, power := Power.reset, security := Security.reset, lexicon := Lexicon.reset,
    pins := ⟨false, false, false, 0, 0⟩, draws := 0,
    outbox := [] }

end Sys2Proof.Machine
end

