-- ==== Sys2Proof/Machine/Bank.lean ====
section
/-!
DEFINITION. The bytes of a metadata bank up to its seal record (spec/03_persistence.md Table 3.6), over which BANK_DIGEST
runs (R68): context records (spec/05_durable_append.md Tables 5.1 to 5.3), extents, planes, partner state
(spec/06_mirroring.md Table 6.9), intent record (Table 3.7) and DMA channel record (spec/12_dma.md Table 12.12).
-/
namespace Sys2Proof.Machine

/-- The record of a context that has never been written (the reset column of Tables 5.1 to 5.3). -/
def CtxRec.fresh (n : Nat) : CtxRec :=
  { n := n, durable := 0, pending := 0, headLag := 0, ringBase := 0, ringSize := 0, state := .closed, policy := 0,
    notify := 0, error := 0, coalCount := 1, coalTime := 4, queue := 0, tag := 0 }

/-- Word 2 of a context record (Table 5.2); `inst` is the owning instance, from the range assignment. -/
def CtxRec.word2 (c : CtxRec) (inst : Nat) : Nat :=
  c.ringSize % 32 * 2 ^ 56 + c.ringBase / 4096 % 2 ^ 30 * 2 ^ 26 + c.state.code % 8 * 2 ^ 23 + c.policy % 2 * 2 ^ 22 +
    c.notify % 4 * 2 ^ 20 + c.error % 16 * 2 ^ 16 + inst % 256 * 2 ^ 8 + c.coalCount % 256

/-- Word 3 of a context record (Table 5.3). -/
def CtxRec.word3 (c : CtxRec) : Nat := c.queue % 4096 * 2 ^ 52 + c.coalTime % 65536 * 2 ^ 36 + c.tag % 2 ^ 32

/-- The 32 bytes of a context record (R104). -/
def CtxRec.bytes (c : CtxRec) (inst : Nat) : List Byte :=
  layout [(8, c.durable), (4, c.pending), (4, c.headLag), (8, c.word2 inst), (8, c.word3)]

/-- The instance to which the ranges of a bank assign context n. -/
def BankContent.instOf (b : BankContent) (n : Nat) : Nat :=
  match b.ranges.find? (fun x => decide (x.2.1 ≤ n) && decide (n < x.2.1 + x.2.2)) with
  | some x => x.1
  | none => 0

/-- The context table: 262,144 records. -/
def BankContent.contextBytes (b : BankContent) : List Byte :=
  (List.range 262144).flatMap (fun n =>
    ((b.contexts.find? (fun c => c.n == n)).getD (CtxRec.fresh n)).bytes (b.instOf n))

/-- The extent table: 256 × 64 records of 32 B (Table 8.1). -/
def BankContent.extentBytes (b : BankContent) : List Byte :=
  (List.range 16384).flatMap (fun r => Tbl.getD b.extents r (zeros 32))

/-- A set as bytes, bit k mod 8 of byte k ÷ 8 for member k. -/
def SegSet.bytes (s : SegSet) (size : Nat) : List Byte :=
  (List.range size).map (fun j => BitVec.ofNat 8 ((List.range 8).foldl (fun a k =>
    if s.mem (8 * j + k) then a + 2 ^ k else a) 0))

/-- The partner state (Table 6.9); within its first 64 B the fields stand packed in the order named (log 80). -/
def PartnerRec.bytes (p : PartnerRec) : List Byte :=
  layout ([(8, p.pairId), (1, p.side), (1, p.policy), (1, p.mirror), (1, p.lease), (52, 0)] ++
    p.rows.flatMap (fun r => [(4, r.base), (4, r.segments), (4, r.generation), (1, r.owner), (1, r.state), (18, 0)])) ++
  zeros (32768 - 64 - 32 * p.rows.length) ++ p.map.bytes 65536

/-- The intent record (Table 3.7). -/
def Intent.bytes (i : Intent) : List Byte :=
  layout [(4, i.kind), (4, i.epoch), (8, i.seq), (8, i.clause), (1, i.state), (1, b2n i.openB), (2, i.saveAck),
    (4, i.dirtyMax), (32, 0)]

/-- One entry of the DMA channel record (Table 12.12). -/
def DmaRec.bytes (d : DmaRec) : List Byte :=
  layout [(1, d.flags), (1, d.i), (1, d.channel), (1, d.opcode), (4, d.index), (4, d.tag), (4, d.progress), (8, d.ring),
    (8, 0)]

/-- Bytes 0x00_0000 to 0x91_8FFF of a bank (Table 3.6). -/
def BankContent.bytes (b : BankContent) (i : Intent) : List Byte :=
  b.contextBytes ++ b.extentBytes ++ b.planeA.bytes 262144 ++ b.planeB.bytes 262144 ++ b.partner.bytes ++ i.bytes ++
    zeros 1984 ++ (List.range 64).flatMap (fun k => match Tbl.find b.dma k with | some d => d.bytes | none => zeros 32)

end Sys2Proof.Machine
end

