-- ==== Sys2Proof/Machine/Ops.lean ====
section
/-!
DEFINITION. The named operations over the register file, time and outputs that every other file uses, and the form in
which a command answers.
-/
namespace Sys2Proof.Machine

/-! ### The dictionary -/

/-- The entries of one group of the Lexicon (R12, R449). -/
def Reg.group : Nat → List Obj
  | 0 => Reg.dict0a
  | 1 => Reg.dict1a
  | 2 => Reg.dict2a ++ Reg.dict2b
  | 3 => Reg.dict3a ++ Reg.dict3b
  | 4 => Reg.dict4a ++ Reg.dict4b
  | 5 => Reg.dict5a
  | 6 => Reg.dict6a ++ Reg.dict6b
  | 7 => Reg.dict7a ++ Reg.dict7b
  | 8 => Reg.dict8a ++ Reg.dict8b
  | 9 => Reg.dict9a
  | 10 => Reg.dictAa ++ Reg.dictAb
  | 11 => Reg.dictBa ++ Reg.dictBb
  | 12 => Reg.dictCa
  | 13 => Reg.dictDa ++ Reg.dictDb
  | 14 => Reg.dictEa ++ Reg.dictEb
  | 15 => Reg.dictFa
  | _ => []

/-- The first entry of a list whose register is `r`. -/
def Reg.seek (r : Nat) : List Obj → Option Obj
  | [] => none
  | o :: l => if o.reg = r then some o else Reg.seek r l

/-- The dictionary entry of register `r`. -/
def Reg.obj (r : Nat) : Option Obj := Reg.seek r (Reg.group (r / 16777216))

/-- The largest value of a type (Table 18.1). -/
def ObjType.max : ObjType → Nat
  | .bool => 1
  | .u8 => 255
  | .u16 => 65535
  | .u32 => 4294967295
  | .u64 => 18446744073709551615
  | .i32 => 4294967295
  | .q16 => 4294967295
  | .blob _ => 0

/-- The bytes of a value of a type (Table 18.1); 0 for a BLOB. -/
def ObjType.size : ObjType → Nat
  | .bool => 1
  | .u8 => 1
  | .u16 => 2
  | .u32 => 4
  | .u64 => 8
  | .i32 => 4
  | .q16 => 4
  | .blob _ => 0

/-- Defaults that differ between the units or rows of one object (Tables 9.7, 10.2, 10.7, 14.16 and 16.13, and the
default Patrol table of R411), or follow the part's grade (Table 16.14). -/
def Reg.rowDefault (r i : Nat) : Option Nat :=
  if r = Reg.stQueueCount ∨ r = Reg.effQueueCount then some (if i = 0 then 64 else 0)
  else if r = Reg.stMsixVectors ∨ r = Reg.effMsixVectors then some (if i = 0 then 256 else 0)
  else if r = Reg.stDmaCount ∨ r = Reg.effDmaCount then some (if i = 0 then 16 else 0)
  else if r = Reg.stCtxCount ∨ r = Reg.effCtxCount then some (if i = 0 then 4096 else 0)
  else if r = Reg.instState then some (if i = 0 then 1 else 0)
  else if r = Reg.svcWeight then
    some (match i % 64 with | 0 => 64 | 1 => 32 | 2 => 32 | 3 => 16 | 4 => 32 | 5 => 8 | _ => 64)
  else if r = Reg.leafWeight then some 16
  else if r = Reg.lenRound then some (if i = 9 then 4 else 64)
  else if r = Reg.lenOverhead then some (if i = 9 then 20 else if i = 8 then 104 else 50)
  else if r = Reg.linkVcs then some (if i < 16 then 4 else 8)
  else if r = Reg.linkMinWidth then some (if i < 16 then 2 else 4)
  else if r = Reg.stepTimeout then
    (match i with
     | 2 => some 10000 | 3 => some 100 | 4 => some 100 | 5 => some 10 | 6 => some 120000 | 7 => some 10 | _ => none)
  else if r = Reg.patrolOp then (match i with | 0 => some 1 | 1 => some 3 | 2 => some 4 | 3 => some 2 | _ => none)
  else if r = Reg.patrolObject then (if i = 3 then some Reg.tjMax else none)
  else if r = Reg.patrolTest then (if i = 3 then some 1 else none)
  else if r = Reg.patrolThreshold then (if i = 3 then some 0x640000 else none)
  else if r = Reg.patrolFlags then (if i = 1 ∨ i = 2 ∨ i = 3 then some 3 else none)
  else if r = Reg.avsTarget then some (680 + Config.avsBase % 121)
  else if r = Reg.tjAlert then some (if Config.grade = 1 then 110 else 100)
  else none

/-- The default of unit or row `i` of register `r`. -/
def Reg.default (r i : Nat) : Nat :=
  match Reg.rowDefault r i with
  | some v => v
  | none => match Reg.obj r with | some o => o.dflt | none => 0

/-! ### The register file -/

/-- The key of unit or row `i` of register `r`; a row `i` of a table inside unit u has i = 64 u + row. Rows are below
2^32 (R449), so that no place of one register is a place of another. -/
def Reg.key (r i : Nat) : Nat := r * 4294967296 + i % 4294967296

/-- The value of a register. -/
def State.get (s : State) (r : Nat) (i : Nat := 0) : Nat := Tbl.getD s.regs (Reg.key r i) (Reg.default r i)

/-- The state with a register set. -/
def State.set (s : State) (r i v : Nat) : State := { s with regs := Tbl.put s.regs (Reg.key r i) v }

/-- A counter, `n` up and not above the largest value of its type. -/
def State.bump (s : State) (r : Nat) (i : Nat := 0) (n : Nat := 1) : State :=
  s.set r i (sat (match Reg.obj r with | some o => o.ty.max | none => 4294967295) (s.get r i + n))

/-- The value of a byte-string register. -/
def State.blob (s : State) (r : Nat) (i : Nat := 0) : List Byte := Tbl.getD s.blobs (Reg.key r i) []

/-- The state with a byte-string register set. -/
def State.setBlob (s : State) (r i : Nat) (v : List Byte) : State := { s with blobs := Tbl.put s.blobs (Reg.key r i) v }

/-- Bit `b` of a register set to `v`. -/
def State.putBit (s : State) (r i b : Nat) (v : Bool) : State := s.set r i (setBit (s.get r i) b v)

/-- The rows or units of register `r` that a table lists. -/
def Tbl.rowsOf (r : Nat) : Tbl Nat → List Nat
  | [] => []
  | (k, _) :: t => if k / 4294967296 = r then (k % 4294967296) :: Tbl.rowsOf r t else Tbl.rowsOf r t

/-- The rows or units of `r` that hold a value of their own. -/
def State.rowsOf (s : State) (r : Nat) : List Nat := Tbl.rowsOf r s.regs

/-! ### Time, outputs, free values -/

/-- Microseconds in timebase cycles of 4 ns (R31). -/
def usCycles (n : Nat) : Nat := n * 250

/-- Milliseconds in timebase cycles. -/
def msCycles (n : Nat) : Nat := n * 250000

/-- CLAUSE_COUNT (R36). -/
def State.clauseNow (s : State) : Nat := s.clock.clause

/-- The present instant in timebase cycles. -/
def State.now (s : State) : Nat := 128 * s.clock.clause + s.clock.sub

/-- Whether a deadline in cycles falls before the end of the present clause: the earliest that an expiry of that
deadline may be told (R41: never early). -/
def State.due (s : State) (deadline : Nat) : Bool := decide (deadline < 128 * (s.clock.clause + 1))

/-- Whether a deadline in cycles has passed at the boundary that began this clause: the test of a clause item. -/
def State.past (s : State) (deadline : Nat) : Bool := decide (deadline ≤ 128 * s.clock.clause)

/-- The cycle of the present clause at which a command that carries it falls. -/
def State.atCycle (s : State) (c : Nat) : State := { s with clock := { s.clock with sub := c % 128 } }

/-- Something leaves the block. -/
def State.emit (s : State) (e : Emit) : State := { s with outbox := s.outbox ++ [e] }

/-- One free value has been drawn. -/
def State.drawn (s : State) : State := { s with draws := s.draws + 1 }

/-- The Keep store is read: KEEP_ECC_CORRECTED counts the words that ECC corrected (R73), a free value. -/
def State.keepRead (s : State) : State := (s.bump Reg.keepEccCorrected 0 (Config.keepCorrected s.draws)).drawn

/-- `f` for every element of a list, in order. -/
def State.each {α : Type} (s : State) (l : List α) (f : State → α → State) : State := l.foldl f s

/-- `f` when `b` holds. -/
def State.onlyIf (s : State) (b : Bool) (f : State → State) : State := if b then f s else s

/-! ### States by name -/

/-- IMAGE_STATE (Table 1.3). -/
def State.image (s : State) : ImageState := ImageState.ofCode (s.get Reg.imageState)

/-- MIRROR_STATE (Table 6.2). -/
def State.mirrorState (s : State) : MirrorState := MirrorState.ofCode (s.get Reg.mirrorState)

/-- POWER_STATE (Table 16.1): 0 to 3 for A0 to A3. -/
def State.powerState (s : State) : Nat := s.get Reg.powerState

/-- LINK_STATE of link u (Table 14.8). -/
def State.linkState (s : State) (u : Nat) : LinkState := LinkState.ofCode (s.get Reg.linkState u)

/-- The state of context n (Table 5.6). -/
def State.ctxState (s : State) (n : Nat) : CtxState := CtxState.ofCode (s.get Reg.ctxState n)

/-- The state of channel k (Table 12.5). -/
def State.chanState (s : State) (k : Nat) : ChanState := ChanState.ofCode (s.get Reg.chState k)

/-- Whether the image windows are open: Open, or Restoring after the window-open point (Table 1.3, R199). -/
def State.windowsOpen (s : State) : Bool := s.get Reg.windowOpen == 1

/-- The number of active carriers N (R15). -/
def State.carrierCount (s : State) : Nat := s.get Reg.activeCarriers

/-- The number of image segments S (R16). -/
def State.segments (s : State) : Nat := s.get Reg.imageSegments

/-- The active carrier ports C0 to C(N − 1) (R15). -/
def State.activeCarriers (s : State) : List Nat := List.range (s.carrierCount)

/-- The base-2 logarithm of a carrier count 1, 2, 4 or 8 (R17). -/
def carrierBits (n : Nat) : Nat := log2w n

/-- The carrier of an image address: IA[12+n−1:12] (R17). -/
def carrierOf (n ia : Nat) : Nat := if n = 0 then 0 else (ia / 4096) % n

/-- The carrier-local address of an image address (R17). -/
def localOf (n ia : Nat) : Nat := if n = 0 then ia else ia / (4096 * n) * 4096 + ia % 4096

/-- The segment of an image address: 2 MiB (R17). -/
def segmentOf (ia : Nat) : Nat := ia / 2097152

/-- The bytes of one slice with N carriers (Table 1.2). -/
def sliceBytes (n : Nat) : Nat := if n = 0 then 0 else 2097152 / n

/-- Instance i is live (R206): the PF, or a VF from the setting of VF Enable to the completion of its reset after the
clearing of it (R212); INST_STATE 0 is ABSENT. -/
def State.live (s : State) (i : Nat) : Bool := i == 0 || s.get Reg.instState i != 0

/-- The live instances in order. -/
def State.liveList (s : State) : List Nat := 0 :: (s.rowsOf Reg.instState).filter (fun i => i != 0 && s.get Reg.instState i != 0)

/-- Instance i is RESETTING (R214). -/
def State.resetting (s : State) (i : Nat) : Bool := s.get Reg.instState i == 2

/-- The instances that hold a row of their own in `r`, the PF first. -/
def State.holders (s : State) (r : Nat) : List Nat := 0 :: (s.rowsOf r).filter (· ≠ 0)

/-- The instance whose effective range in (`first`, `count`) holds `x` (R207, R209). -/
def State.ownerIn (s : State) (first count x : Nat) : Option Nat :=
  (s.holders count).find? (fun i => decide (s.get first i ≤ x) && decide (x < s.get first i + s.get count i))

/-- The instance that holds pool queue j (R251). -/
def State.queueOwner (s : State) (j : Nat) : Option Nat := s.ownerIn Reg.effQueueFirst Reg.effQueueCount j

/-- The instance that holds DMA channel k. -/
def State.chanOwner (s : State) (k : Nat) : Option Nat := s.ownerIn Reg.effDmaFirst Reg.effDmaCount k

/-- The instance that holds context n. -/
def State.ctxOwner (s : State) (n : Nat) : Option Nat := s.ownerIn Reg.effCtxFirst Reg.effCtxCount n

/-- The management event queue of instance i: its local queue 0 (R208). -/
def State.mgmtQueue (s : State) (i : Nat) : Option Nat :=
  if s.get Reg.effQueueCount i = 0 then none else some (s.get Reg.effQueueFirst i)

/-- Whether the cut has fallen and no restart has begun (R61): the image is Sealed, or the cut fell in a state in which it
seals nothing (R64). -/
def State.cutPassed (s : State) : Bool := s.power.cutDone || s.image == .sealed

/-- Item k of Table 2.2 has been deferred and has not run in this clause: its timers do not fire (R41). -/
def State.itemHeld (s : State) (k : Nat) : Bool :=
  s.clock.carried.contains k && Tbl.find s.clock.ran k != some s.clock.clause

/-- Whether item k may fire a coalescing expiry of deadline `d` now (R44): of its own slot while it has run and fewer
than 32 of them have fired, of an earlier slot in a pass of 32 a clause, `oldest` first. -/
def State.expiryRuns (s : State) (k d : Nat) (oldest : Bool) : Bool :=
  let n := Tbl.getD s.clock.fired k (0, 0)
  if d = s.clock.clause then !(s.clock.carried.contains k) && decide (n.1 < 32)
  else decide (d < s.clock.clause) && !(s.itemHeld k) && decide (n.2 < 32) && oldest

/-- A coalescing expiry of deadline `d` has been handled by item k. -/
def State.expiryDone (s : State) (k d : Nat) : State :=
  let n := Tbl.getD s.clock.fired k (0, 0)
  { s with clock := { s.clock with
      fired := Tbl.put s.clock.fired k (if d = s.clock.clause then (n.1 + 1, n.2) else (n.1, n.2 + 1)) } }

/-- A posted write or a read behind it: the host port takes them in arrival order, so behind a write that waits for the
governor, or a publish that waits for an entry, it waits too (R24, R113, R171). -/
def State.posted (s : State) (c : Instr) (f : State → State) : State :=
  if s.host.posted.isEmpty then f s else { s with host := { s.host with posted := s.host.posted ++ [c] } }

/-- What the host sends acts only before the cut: from the cut the host ports answer nothing and writes are discarded
(Table 3.3, R471). -/
def State.beforeCut (s : State) (f : State → State) : State := if s.cutPassed then s else f s

/-! ### Balls and answers -/

/-- The driven balls as the registers and latches give them: CAN_STBY is high only while FIELD_ACCESS is 0 (R462);
THERM_ALERT_N and PE_WAKE_N follow R416 and R274; a GPIO set as output shows GPIO_OUT (Table 19.14). While POR_N is low
every ball is released (Table 19.3), and the pull of CAN_STBY holds the transceiver in standby. -/
def pinsOf (s : State) : Pins :=
  if s.clock.powered then
    { canStby := s.get Reg.fieldAccess == 0, thermLow := s.events.thermLow, wakeLow := s.events.peWake,
      gpioDriven := s.get Reg.gpioDir, gpioOut := s.get Reg.gpioOut }
  else { canStby := true, thermLow := false, wakeLow := false, gpioDriven := 0, gpioOut := 0 }

/-- What a command that found s leaves when its effect gives t: t with the queue of waiting commands as it was and the
balls as t drives them. -/
def State.after (s t : State) : State := { t with pending := s.pending, pins := pinsOf t }

/-- The answer of a command. -/
def done (s t : State) : Host.Outcome State Fault Refusal := .next (s.after t)

/-- The answer of a command that acts only while POR_N is high (Table 19.7), in recovery too (R432). -/
def actRom (s : State) (f : State → State) : Host.Outcome State Fault Refusal :=
  done s (if s.clock.powered then f s else s)

/-- The answer of a command that acts only while POR_N is high and the firmware runs: in recovery it finds nothing to act
on (R432). -/
def act (s : State) (f : State → State) : Host.Outcome State Fault Refusal :=
  actRom s (fun s => if s.security.recovery then s else f s)

/-- The answer of a timer of item k of Table 2.2, which does not fire while the item stands deferred (R41). -/
def actItem (k : Nat) (s : State) (f : State → State) : Host.Outcome State Fault Refusal :=
  act s (fun s => if s.itemHeld k then s else f s)

end Sys2Proof.Machine
end

