-- ==== Sys2Proof/Machine/Sched.lean ====
section
/-!
DEFINITION. The scheduler's leaves, tags, buckets, gates and meters (spec/10_scheduler.md): how an entry enters its
leaf, which entry a port grants next, and what a grant does to the scheduler's own state.
-/
namespace Sys2Proof.Machine

/-! ### Ports and charged lengths -/

/-- Port p of the scheduler. -/
def State.port (s : State) (p : Nat) : Port := Tbl.getD s.sched.ports p Port.reset

/-- The state with port p replaced. -/
def State.putPort (s : State) (p : Nat) (q : Port) : State :=
  { s with sched := { s.sched with ports := Tbl.put s.sched.ports p q } }

/-- Row of LEAF_TABLE of leaf (p, s, i) (R224). -/
def leafRow (p svc i : Nat) : Nat := (p * 8 + svc) * 256 + i

/-- Index of row `svc` of a service table of port p. -/
def svcRow (p svc : Nat) : Nat := p * 64 + svc

/-- Charged length L (R232). -/
def State.charged (s : State) (p payload : Nat) : Nat :=
  let r := s.get Reg.lenRound p
  ceilDiv payload r * r + s.get Reg.lenOverhead p

/-- Whether tag `a` is lower than `b` modulo 2^48 (R230). -/
def tagLow (a b : Nat) : Bool :=
  let d := (b % 281474976710656 + 281474976710656 - a % 281474976710656) % 281474976710656
  decide (1 ≤ d) && decide (d < 140737488355328)

/-- A tag advanced modulo 2^48. -/
def tagAdd (a n : Nat) : Nat := (a + n) % 281474976710656

/-- The weight in force of a leaf or a service: a written weight takes effect at the next clause boundary, and
`weightWait` holds the one in force until then (R231). Keys of services lie above those of leaves. -/
def State.weightNow (s : State) (key written : Nat) : Nat := Tbl.getD s.sched.weightWait key written

/-- The weight in force of leaf (p, svc, i). -/
def State.leafWeightNow (s : State) (p svc i : Nat) : Nat :=
  s.weightNow (leafRow p svc i) (s.get Reg.leafWeight (leafRow p svc i))

/-- The weight in force of service `svc` of port p. -/
def State.svcWeightNow (s : State) (p svc : Nat) : Nat :=
  s.weightNow (100000 + svcRow p svc) (s.get Reg.svcWeight (svcRow p svc))

/-! ### Buckets (R233 to R235): levels in 1/1,000 B -/

/-- Keys of the buckets: ports, services, governor write shapers, leaves, and the two of each meter. -/
def portBucket (p : Nat) : Nat := p
def svcBucket (p svc : Nat) : Nat := 1000 + svcRow p svc
def govBucket (c : Nat) : Nat := 2000 + c
def leafBucket (row : Nat) : Nat := 10000 + row
def committedBucket (m : Nat) : Nat := 100000 + 2 * m
def peakBucket (m : Nat) : Nat := 100001 + 2 * m

/-- A bucket; one that has never been used is full to `burst` bytes (DESIGN CHOICE, log 10). -/
def State.bucket (s : State) (key burst : Nat) : Bucket :=
  Tbl.getD s.sched.buckets key ⟨burst * 1000, s.clock.clause⟩

/-- A bucket replaced. -/
def State.putBucket (s : State) (key : Nat) (b : Bucket) : State :=
  { s with sched := { s.sched with buckets := Tbl.put s.sched.buckets key b } }

/-- Tokens after the elapsed clauses: max(tokens, min(b, tokens + r × elapsed)) (R233); r in MB/s adds 0.512 B a
clause. -/
def Bucket.refilled (b : Bucket) (rate burst now : Nat) : Bucket :=
  ⟨max b.tok (min (burst * 1000 : Int) (b.tok + (rate * 512 * (now - b.cyc) : Nat))), now⟩

/-- A bucket refilled up to the present clause. -/
def State.refill (s : State) (key rate burst : Nat) : State :=
  s.putBucket key ((s.bucket key burst).refilled rate burst s.clauseNow)

/-- A bucket's level as it stands, kept through a write of its rate or burst (R234). -/
def State.keepLevel (s : State) (key burst : Nat) : State := s.putBucket key (s.bucket key burst)

/-- A bucket that does not refill now keeps its tokens (R235). -/
def State.hold (s : State) (key burst : Nat) : State :=
  s.putBucket key { s.bucket key burst with cyc := s.clauseNow }

/-- `n` bytes taken from a bucket. -/
def State.take (s : State) (key burst n : Nat) : State :=
  let b := s.bucket key burst
  s.putBucket key ⟨b.tok - (n * 1000 : Nat), b.cyc⟩

/-- A grant of `n` bytes passes a bucket. One without a rate is unlimited, and keeps its level within one L of zero by
taking nothing (DEDUCED, log 44). -/
def State.charge (s : State) (key rate burst n : Nat) : State := if rate = 0 then s else s.take key burst n

/-- Whether a bucket lets a head pass: it is unlimited, or it holds more than zero tokens. -/
def State.flows (s : State) (key rate burst : Nat) : Bool := rate == 0 || decide (0 < (s.bucket key burst).tok)

/-- The level of the leaf's bucket once refilled, without storing it: the leaf shaper lets its head pass. -/
def State.leafFlows (s : State) (row : Nat) : Bool :=
  let r := s.get Reg.leafRate row
  let b := s.get Reg.leafBurst row
  r == 0 || decide (0 < ((s.bucket (leafBucket row) b).refilled r b s.clauseNow).tok)

/-- The rate of service `svc` of port p; on port 8, service 5 runs at the lower of SVC_RATE and RESYNC_RATE, where 0
counts as unlimited (R236). -/
def State.svcRateNow (s : State) (p svc : Nat) : Nat :=
  let r := s.get Reg.svcRate (svcRow p svc)
  if p = 8 ∧ svc = 5 then
    let q := s.get Reg.resyncRate
    if r = 0 then q else if q = 0 then r else min r q
  else r

/-- The rate of the governor write shaper of port c (R235). -/
def State.govRate (s : State) (c : Nat) : Nat := max (s.get Reg.govDestageRate c) (s.get Reg.govShapeFloor)

/-- Carrier c is in SHAPING (Table 3.1). -/
def State.shaping (s : State) (c : Nat) : Bool := s.get Reg.govState c == 2

/-! ### Line rates and gates -/

/-- MB/s of one Treyr lane at a rate code (Table 15.2). -/
def laneMBs : Nat → Nat
  | 1 => 125 | 2 => 625 | 3 => 1250 | 4 => 2500 | 5 => 3200 | _ => 0

/-- Payload MB/s of the host link by rate code, width and Flit mode: 236 of 256 B in Flit mode (Table 1.12); without
it, 8b/10b below 8 GT/s and 128b/130b from there (PRESUMED, log 10). -/
def hostMBs (rate width : Nat) (flit : Bool) : Nat :=
  let gt10 := match rate with | 1 => 25 | 2 => 50 | 3 => 80 | 4 => 160 | 5 => 320 | 6 => 640 | _ => 0
  let raw := gt10 * width * 100 / 8
  if flit then raw * 236 / 256 else if rate ≤ 2 then raw * 8 / 10 else raw * 128 / 130

/-- LINE_RATE of port p: the links of the port that carry flow units, or the host link (R239). -/
def State.lineRateNow (s : State) (p : Nat) : Nat :=
  if p = 9 then hostMBs (s.get Reg.hostLinkRate) (s.get Reg.hostLinkWidth) (s.get Reg.hostLinkFlit == 1)
  else
    let one (u : Nat) : Nat := if s.linkState u = .up then s.get Reg.linkWidth u * laneMBs (s.get Reg.linkRate u) else 0
    one (2 * p) + one (2 * p + 1)

/-- The row of a gate list that runs `t` clauses into its cycle, and the clauses left of that row. -/
def gateRowAt : List (Nat × Nat) → Nat → Option ((Nat × Nat) × Nat)
  | [], _ => none
  | (d, o) :: r, t => if t < d then some ((d, o), d - t) else gateRowAt r (t - d)

/-- The clauses of one cycle of a gate list. -/
def gateCycle (l : List (Nat × Nat)) : Nat := l.foldl (fun a r => a + r.1) 0

/-- Clauses from the start of a list of rows to the first row that closes service `svc`; none when no row does. -/
def gateCloses (svc : Nat) : List (Nat × Nat) → Nat → Option Nat
  | [], _ => none
  | (d, o) :: r, t => if bit o svc then gateCloses svc r (t + d) else some t

/-- The rows from position `t` of the cycle on, once around. -/
def gateFrom : List (Nat × Nat) → List (Nat × Nat) → Nat → List (Nat × Nat)
  | [], seen, _ => seen
  | (d, o) :: r, seen, t => if t < d then ((d - t, o) :: r) ++ (seen ++ [(d, o)]) else gateFrom r (seen ++ [(d, o)]) (t - d)

/-- The gate of service `svc` of port p is open with room for a head of charged length `len` (R237, R239): the list runs as
item 4 last left it. -/
def State.gateLets (s : State) (p svc len : Nat) : Bool :=
  let q := s.port p
  if q.gateRuns = false ∨ gateCycle q.gate = 0 then true
  else
    let t := (s.clauseNow - q.gateAt) % gateCycle q.gate
    match gateRowAt q.gate t with
    | none => true
    | some ((_, o), _) =>
      bit o svc &&
      (match gateCloses svc (gateFrom q.gate [] t) 0 with
       | none => true
       | some c =>
         let left := c * 512 - s.clock.sub * 4
         let need := s.get Reg.gateGuard p
         decide (need ≤ left) && decide (len * 1000 ≤ (left - need) * s.lineRateNow p))

/-! ### Meters (R240) -/

/-- The colour that meter row m gives a request of `n` payload bytes, with the buckets and counters after it: trTCM of
RFC 2698, colour-blind. 0 green, 1 yellow, 2 red. -/
def State.metered (s : State) (m n : Nat) : State × Nat :=
  if s.get Reg.meterCir m = 0 then (s.bump Reg.greenBytes m n, 0)
  else
    let s := s.refill (committedBucket m) (s.get Reg.meterCir m) (s.get Reg.meterCbs m)
    let s := s.refill (peakBucket m) (s.get Reg.meterPir m) (s.get Reg.meterPbs m)
    if (s.bucket (peakBucket m) (s.get Reg.meterPbs m)).tok < (n * 1000 : Nat) then (s.bump Reg.redBytes m n, 2)
    else
      let s := s.take (peakBucket m) (s.get Reg.meterPbs m) n
      if (s.bucket (committedBucket m) (s.get Reg.meterCbs m)).tok < (n * 1000 : Nat) then
        (s.bump Reg.yellowBytes m n, 1)
      else ((s.take (committedBucket m) (s.get Reg.meterCbs m) n).bump Reg.greenBytes m n, 0)

/-- The meter row of a request of instance i in service `svc` of port p, if it is metered. -/
def meterRow (p svc i : Nat) : Option Nat :=
  if p < 8 ∧ svc ≤ 1 then some (2 * i) else if p < 8 ∧ svc = 2 then some (2 * i + 1) else none

/-! ### Hazards (R242 to R244) -/

/-- The image range of an entry, and whether it writes. -/
def Work.imageRange : Work → Option (Bool × Nat × Nat)
  | .image w ia len _ _ _ => some (w, ia, len)
  | _ => none

/-- Whether two image ranges share a 64 B-aligned block. -/
def blocksMeet (a la b lb : Nat) : Bool :=
  decide (a / 64 ≤ (b + lb - 1) / 64) && decide (b / 64 ≤ (a + la - 1) / 64)

/-- The segment of a partner copy that waits on port 8. -/
def Work.copySegment : Work → Option Nat
  | .partner seg _ => seg
  | _ => none

/-- The queue and the sequence number of a record entry. -/
def Work.recordOf : Work → Option (Nat × Nat)
  | .record q n _ _ _ _ => some (q, n)
  | _ => none

/-- Whether the earlier entry `e` holds back `h` on port p. -/
def Entry.blocks (p : Nat) (e h : Entry) : Bool :=
  decide (e.id < h.id) &&
  (if p < 8 then
    match e.work.imageRange, h.work.imageRange with
    | some (w, a, la), some (v, b, lb) => (w || v) && blocksMeet a la b lb
    | _, _ => false
  else if p = 8 then
    match e.work.copySegment, h.work.copySegment with
    | some a, some b => a == b
    | _, _ => false
  else
    match e.work.recordOf, h.work.recordOf with
    | some (q, _), some (r, _) => q == r
    | _, _ => false)

/-- Whether some earlier entry of port p holds back `h`. -/
def State.hazard (s : State) (p : Nat) (h : Entry) : Bool := (s.port p).entries.any (fun e => e.blocks p h)

/-- The segment that a DIRTY_SET entry announces. -/
def Work.dirtySet : Work → Option Nat
  | .carrier _ _ m => if m.op = 0x11 then some m.p1 else none
  | _ => none

/-- The segment that an image write changes. -/
def Work.writtenSegment : Work → Option Nat
  | .image true ia _ _ _ _ => some (segmentOf ia)
  | _ => none

/-! ### Entering a leaf -/

/-- The key of leaf (svc, i) among the heads of a port. -/
def headKey (svc i : Nat) : Nat := svc * 256 + i

/-- The service of a head key, and its instance. -/
def headSvc (k : Nat) : Nat := k / 256
def headInst (k : Nat) : Nat := k % 256

/-- Whether service `svc` of a port has a head. -/
def Port.awake (q : Port) (svc : Nat) : Bool := q.heads.any (fun h => headSvc h.1 == svc)

/-- Entry `e` becomes the head of its leaf with start tag `start` (R229, Table 10.3). -/
def State.makeHead (s : State) (p : Nat) (e : Entry) (start : Nat) : State :=
  let w := s.leafWeightNow p e.svc e.i
  let f := tagAdd start (ceilDiv (s.charged p e.payload * 1024) w)
  let q := s.port p
  let s := s.putPort p { q with heads := Tbl.put q.heads (headKey e.svc e.i) ⟨e.id, start, f, s.clauseNow⟩ }
  if e.color = 2 then s.bump Reg.redHolds else s

/-- An entry enters its leaf: it is metered and coloured, and wakes its leaf and its service where they were empty
(R229, R230, R240). -/
def State.enter (s : State) (p : Nat) (e : Entry) : State :=
  let (s, color) := match meterRow p e.svc e.i with
    | some m => s.metered m e.payload
    | none => (s, 0)
  let e := { e with color := color, cyc := s.now }
  let s := if s.hazard p e && decide (p ≤ 8) then s.bump Reg.hazardWaits else s
  let q := s.port p
  let wakes := (Tbl.find q.heads (headKey e.svc e.i)).isNone
  let tags := if q.awake e.svc then q.svcTag else Tbl.put q.svcTag e.svc q.pv
  let s := s.putPort p { q with entries := q.entries ++ [e], svcTag := tags }
  if wakes then s.makeHead p e (Tbl.getD q.vtime e.svc 0) else s

/-- The ungranted entries of port p outside service 7, or in it. -/
def Port.count (q : Port) (seven : Bool) : Nat := (q.entries.filter (fun e => (e.svc == 7) == seven)).length

/-- The ungranted entries of the device (ENTRIES_USED) outside service 7, whose 64 places on each port are its own
(Table 10.5; DEDUCED, log 81). -/
def State.entriesUsed (s : State) : Nat := s.sched.ports.foldl (fun a q => a + q.2.count false) 0

/-- Whether port p has a place for an entry of service `svc` (R226, Table 10.5). -/
def State.hasRoom (s : State) (p svc : Nat) : Bool :=
  let q := s.port p
  if svc = 7 then decide (q.count true < 64) else decide (q.count false < 4096) && decide (s.entriesUsed < 32768)

/-- A request goes to leaf (p, svc, i); where there is no room it waits outside, behind earlier ones (R226).
From the cut port 9 discards its entries (R246). -/
def State.enqueue (s : State) (p svc i : Nat) (w : Work) (payload : Nat) : State :=
  if p = 9 ∧ s.cutPassed = true then s else
  let e : Entry := ⟨s.sched.nextId, svc, i, w, payload, s.now, 0⟩
  let s := { s with sched := { s.sched with nextId := s.sched.nextId + 1 } }
  let q := s.port p
  if s.hasRoom p svc && !(q.outside.any (fun x => (x.svc == 7) == (svc == 7))) then s.enter p e
  else s.putPort p { q with outside := q.outside ++ [e] }

/-- Waiting entries of port p enter, oldest first, while there is room for their kind. -/
def State.admitOutside (s : State) (p : Nat) : State :=
  s.each (s.port p).outside (fun s e =>
    if s.hasRoom p e.svc then
      let q := s.port p
      (s.putPort p { q with outside := q.outside.filter (fun x => x.id != e.id) }).enter p e
    else s)

/-! ### Choosing (R227, R228) -/

/-- The entry that a head names. -/
def Port.entry (q : Port) (id : Nat) : Option Entry := q.entries.find? (fun e => e.id == id)

/-- A red head is held for ceil(payload ÷ (PIR × 0.512)) clauses from the clause in which it became head
(Table 10.3). -/
def State.redHeld (s : State) (p : Nat) (e : Entry) (h : Head) : Bool :=
  match meterRow p e.svc e.i with
  | some m => e.color == 2 && decide (s.clauseNow < h.since + ceilDiv (e.payload * 1000) (s.get Reg.meterPir m * 512))
  | none => false

/-- Whether a head is eligible (R228). -/
def State.eligible (s : State) (p : Nat) (e : Entry) (h : Head) : Bool :=
  !(s.hazard p e) &&
  (e.svc == 7 ||
    (s.leafFlows (leafRow p e.svc e.i) &&
     s.flows (svcBucket p e.svc) (s.svcRateNow p e.svc) (s.get Reg.svcBurst (svcRow p e.svc)) &&
     s.gateLets p e.svc (s.charged p e.payload) &&
     !(s.redHeld p e h) &&
     !(decide (p < 8) && e.work.imageRange.any (·.1) && s.shaping p && !(s.flows (govBucket p) (s.govRate p) 16384))))

/-- The better of two candidate heads of one service: green before yellow, then the lowest start tag, then the lowest
instance. -/
def betterHead (a b : Entry × Head) : Bool :=
  if (a.1.color == 0) != (b.1.color == 0) then a.1.color == 0
  else tagLow a.2.start b.2.start || (!(tagLow b.2.start a.2.start) && decide (a.1.i < b.1.i))

/-- The eligible heads of port p that its downstream can take (`ok`). -/
def State.candidates (s : State) (p : Nat) (ok : Entry → Bool) : List (Entry × Head) :=
  (s.port p).heads.filterMap (fun kh =>
    match (s.port p).entry kh.2.id with
    | some e => if ok e && s.eligible p e kh.2 then some (e, kh.2) else none
    | none => none)

/-- The best of a list under an order. -/
def bestOf {α : Type} (better : α → α → Bool) : List α → Option α
  | [] => none
  | a :: r => match bestOf better r with
    | none => some a
    | some b => if better b a then some b else some a

/-- The entry that port p grants next (R227), before the cut. -/
def State.chooseGrant (s : State) (p : Nat) (ok : Entry → Bool) : Option Entry :=
  let l := s.candidates p ok
  match bestOf betterHead (l.filter (fun c => c.1.svc == 7)) with
  | some (e, _) => some e
  | none =>
    if s.flows (portBucket p) (s.get Reg.portRate p) (s.get Reg.portBurst p) then
      let q := s.port p
      let svcs := (List.range 7).filter (fun v => l.any (fun c => c.1.svc == v))
      let tag (v : Nat) : Nat := Tbl.getD q.svcTag v 0
      match bestOf (fun a b => tagLow (tag a) (tag b)) svcs with
      | some v => (bestOf betterHead (l.filter (fun c => c.1.svc == v))).map (·.1)
      | none => none
    else none

/-- From the cut: service 7 first, then the remaining writes of ports 0 to 7, oldest first; port 9 grants nothing and
port 8 only service 7 (R246). -/
def State.chooseAtCut (s : State) (p : Nat) : Option Entry :=
  if p = 9 then none
  else
    let es := (s.port p).entries
    match es.find? (fun e => e.svc == 7) with
    | some e => some e
    | none => if p = 8 then none else es.find? (fun e => e.work.imageRange.any (·.1))

/-! ### What a grant does to the scheduler -/

/-- The samplers that watch an entry of leaf (p, svc, i) note its grant (R245). -/
def State.sampleGrant (s : State) (p : Nat) (e : Entry) : State :=
  s.each (s.rowsOf Reg.sampleEnable) (fun s j =>
    if s.get Reg.sampleEnable j = 1 ∧ s.get Reg.samplePort j = p ∧
        (s.get Reg.sampleService j = 8 ∨ s.get Reg.sampleService j = e.svc) ∧
        (s.get Reg.sampleInstance j = 256 ∨ s.get Reg.sampleInstance j = e.i) then
      let t := Tbl.getD s.sched.samplers j Sampler.reset
      let t := { t with maxDelay := sat 4294967295 (max t.maxDelay (s.now - e.cyc)), grants := sat 4294967295 (t.grants + 1) }
      { s with sched := { s.sched with samplers := Tbl.put s.sched.samplers j t } }
    else s)

/-- Heads whose entry is gone are replaced: the next entry of the leaf takes S equal to the F of the head before it,
and an empty leaf has no head (R229, R247). -/
def State.renewHeads (s : State) (p : Nat) : State :=
  s.each (s.port p).heads (fun s kh =>
    if ((s.port p).entry kh.2.id).isSome then s
    else
      let q := s.port p
      match q.entries.find? (fun e => headKey e.svc e.i == kh.1) with
      | some e => s.makeHead p e kh.2.finish
      | none => s.putPort p { q with heads := Tbl.erase q.heads kh.1 })

/-- The entries of port p that meet a test leave it; entries that waited outside then find room, on the other ports too
where the device's places had run out (R226). -/
def State.removeEntries (s : State) (p : Nat) (gone : Entry → Bool) : State :=
  let q := s.port p
  let full := q.entries.any (fun e => gone e && e.svc != 7) && decide (32768 ≤ s.entriesUsed)
  let s := s.putPort p { q with entries := q.entries.filter (fun e => !(gone e)),
                                outside := q.outside.filter (fun e => !(gone e)) }
  let s := (s.renewHeads p).admitOutside p
  if full then s.each (List.range 10) (fun s r => s.admitOutside r) else s

/-- Tags, buckets and counters after entry `e` of port p has been granted (R229, R230, R233, R235). -/
def State.granted (s : State) (p : Nat) (e : Entry) : State :=
  let L := s.charged p e.payload
  let row := leafRow p e.svc e.i
  let start := (Tbl.getD (s.port p).heads (headKey e.svc e.i) ⟨0, 0, 0, 0⟩).start
  let q := s.port p
  let s := s.putPort p { q with vtime := Tbl.put q.vtime e.svc start }
  let s := s.bump Reg.leafGranted row L
  let s := if e.svc = 7 then s else
    let q := s.port p
    let t := Tbl.getD q.svcTag e.svc 0
    let inc := ceilDiv (L * 1024) (s.svcWeightNow p e.svc)
    let s := s.putPort p { q with pv := t, svcTag := Tbl.put q.svcTag e.svc (tagAdd t inc) }
    let s := s.refill (leafBucket row) (s.get Reg.leafRate row) (s.get Reg.leafBurst row)
    let s := s.charge (leafBucket row) (s.get Reg.leafRate row) (s.get Reg.leafBurst row) L
    let s := s.charge (svcBucket p e.svc) (s.svcRateNow p e.svc) (s.get Reg.svcBurst (svcRow p e.svc)) L
    let s := s.charge (portBucket p) (s.get Reg.portRate p) (s.get Reg.portBurst p) L
    if decide (p < 8) && e.work.imageRange.any (·.1) && s.shaping p then s.take (govBucket p) 16384 e.payload else s
  let s := s.sampleGrant p e
  s.removeEntries p (fun x => x.id == e.id)

/-- An image access of instance i is queued to its carrier (Table 10.1). -/
def State.enqueueImage (s : State) (svc i : Nat) (write : Bool) (ia len : Nat) (data : List (Option Byte))
    (poison : Bool) (own : ReqOwner) : State :=
  s.enqueue (carrierOf s.carrierCount ia) svc i (.image write ia len data poison own) len

/-- A carrier message joins service 7 of port c as instance 0 (R225); IDENT with ASSIGN carries 128 B (R232). -/
def State.sendCarrier (s : State) (c : Nat) (both : Bool) (link : Nat) (m : Msg) : State :=
  s.enqueue c 7 0 (.carrier both link m) (64 * m.data.length)

/-- A partner control message joins service 7 of port 8. -/
def State.sendPartner (s : State) (m : Msg) : State := s.enqueue 8 7 0 (.partner none m) (64 * m.data.length)

end Sys2Proof.Machine
end

