-- ==== Sys2Proof/Machine/Events.lean ====
section
/-!
DEFINITION. The event controller and the wake watcher (spec/11_events_interrupts.md): records and their queues,
management sources, messages, holds, and the commands of the host on them.
-/
namespace Sys2Proof.Machine

/-! ### Messages (R267 to R271) -/

/-- The event controller's state changed by `f`. -/
def State.modEvents (s : State) (f : Events → Events) : State := { s with events := f s.events }

/-- The hold of instance i: SELF_HOLD or HOLD_PF (R271). -/
def State.held (s : State) (i : Nat) : Bool := s.events.selfHold.mem i || s.get Reg.holdPf i == 1

/-- Masks aside, instance i may issue a message (R268); nothing is issued from the cut (Table 11.8). -/
def State.mayIssue (s : State) (i : Nat) : Bool :=
  s.host.msixEnable.mem i && s.host.busMaster.mem i && !(s.held i) && !(s.cutPassed) &&
  decide (0 < s.get Reg.effMsixVectors i)

/-- Vector v of instance i exists and is unmasked. -/
def State.unmasked (s : State) (i v : Nat) : Bool :=
  decide (v < s.get Reg.effMsixVectors i) && s.host.vecOpen.mem (i * 256 + v) && !(s.host.fnMask.mem i)

/-- Member m of route set r (Table 11.12): its CPU and its vector, when valid. -/
def State.routeMember (s : State) (r m : Nat) : Option (Nat × Nat) :=
  let v := s.get (Reg.routeMember0 + m) r
  if bit v 31 then some (bits v 25 16, bits v 7 0) else none

/-- The nibble of a CPU in the CPU priority table (R269). -/
def State.cpuPrio (s : State) (c : Nat) : Nat := bits (Tbl.getD s.events.cpuPrio (c / 16) 0) (4 * (c % 16) + 3) (4 * (c % 16))

/-- The vector that a message of instance i through route set `set` takes now, with the member chosen: of the valid
members whose vectors are unmasked the one whose CPU has the lowest value, among equals the first after the one chosen
last; a set with no valid member sends to vector 0 (R269). -/
def State.routeVector (s : State) (i set : Nat) : Option (Nat × Option Nat) :=
  let r := 2 * i + set
  let all := (List.range 8).filterMap (fun m => (s.routeMember r m).map (fun cv => (m, cv)))
  if all.isEmpty then (if s.unmasked i 0 then some (0, none) else none)
  else
    let last := Tbl.getD s.events.lastMember r 7
    let open' := all.filter (fun m => s.unmasked i m.2.2)
    let rank (m : Nat × Nat × Nat) : Nat := s.cpuPrio m.2.1 * 8 + (m.1 + 7 - last) % 8
    (bestOf (fun a b => decide (rank a < rank b)) open').map (fun m => (m.2.2, some m.1))

/-- A message, a write of 4 bytes, is queued to port 9 in service 7 (R268, R232). -/
def State.sendMsix (s : State) (i set vec : Nat) (member q : Option Nat) : State :=
  let s := match member with
    | some m => s.modEvents (fun e => { e with lastMember := Tbl.put e.lastMember (2 * i + set) m })
    | none => s
  s.enqueue 9 7 i (.msix vec q) 4

/-- The priority of source n (R264). -/
def State.priority (s : State) (n : Nat) : Nat := s.get Reg.srcPriority n

/-- The claimed sources of instance i. -/
def State.claimedOf (s : State) (i : Nat) : List Nat :=
  (s.events.claimed.within (i * 1024) (i * 1024 + 1024)).elems.map (· - i * 1024)

/-- The pending sources of instance i. -/
def State.pendingOf (s : State) (i : Nat) : List Nat :=
  (s.events.pend.within (i * 1024) (i * 1024 + 1024)).elems.map (· - i * 1024)

/-- The running priority of instance i; none when idle (R264). -/
def State.running (s : State) (i : Nat) : Option Nat :=
  (s.claimedOf i).foldl (fun a n => match a with | none => some (s.priority n) | some p => some (max p (s.priority n))) none

/-- The claimable source of highest priority, ties to the lowest number (R264, R265). -/
def State.claimable (s : State) (i : Nat) : Option Nat :=
  let above (n : Nat) : Bool := match s.running i with | none => true | some p => decide (p < s.priority n)
  let l := (s.pendingOf i).filter (fun n => !(s.events.claimed.mem (i * 1024 + n)) && above n)
  bestOf (fun a b => decide (s.priority b < s.priority a) || (s.priority a == s.priority b && decide (a < b))) l

/-- The test of R267: a claimable source, no message outstanding, no hold; the message goes through route set 0. -/
def State.testMgmt (s : State) (i : Nat) : State :=
  if (s.claimable i).isSome && !(s.events.outstanding.mem i) && s.mayIssue i then
    match s.routeVector i 0 with
    | some (v, m) => (s.sendMsix i 0 v m none).modEvents (fun e => { e with outstanding := e.outstanding.add i })
    | none => s
  else s

/-- Whether a record of pool queue q still waits on port 9: a message follows the records it reports (R244, R268). -/
def State.recordWaits (s : State) (q : Nat) : Bool :=
  ((s.port 9).entries ++ (s.port 9).outside).any (fun e => e.work.recordOf.any (fun r => r.1 == q))

/-- The decided message of pool queue q is issued if it may be (R261, R268). -/
def State.issueQueue (s : State) (q : Nat) : State :=
  match s.queueOwner q with
  | none => s
  | some i =>
    if !(s.events.decided.contains q) || !(s.mayIssue i) || s.recordWaits q then s
    else
      let route := s.get Reg.queueRoute q
      let target : Option (Nat × Option Nat) :=
        if bit route 8 then s.routeVector i 1
        else if s.unmasked i (bits route 7 0) then some (bits route 7 0, none)
        else none
      match target with
      | some (v, m) =>
        let s := s.modEvents (fun e => { e with decided := e.decided.filter (· != q) })
        s.sendMsix i 1 v m (some q)
      | none => s

/-- Every pending decision of instance i is tried again: management first, then queues in pool order (R271). -/
def State.retryMessages (s : State) (i : Nat) : State :=
  let s := s.testMgmt i
  s.each (s.events.decided.filter (fun q => s.queueOwner q == some i)) (fun s q => s.issueQueue q)

/-- Every instance's pending decisions are tried again. -/
def State.retryAllMessages (s : State) : State := s.each s.liveList (fun s i => s.retryMessages i)

/-- In-egress messages of instance i whose vector fails `keep` are withdrawn: a queue's decision is pending again, and
the management message is no longer outstanding (R270). -/
def State.withdrawMessages (s : State) (i : Nat) (covered : Nat → Bool) : State :=
  let hit (e : Entry) : Option (Option Nat) := match e.work with
    | .msix v q => if e.svc = 7 ∧ e.i = i ∧ covered v = true then some q else none
    | _ => none
  let qs := ((s.port 9).entries ++ (s.port 9).outside).filterMap hit
  let s := s.removeEntries 9 (fun e => (hit e).isSome)
  s.each qs (fun s q => match q with
    | some j => s.modEvents (fun e => { e with decided := (e.decided ++ [j]).mergeSort (· ≤ ·) })
    | none => s.modEvents (fun e => { e with outstanding := e.outstanding.remove i }))

/-! ### The wake watcher (R273, R274) -/

/-- The watcher signals the host when a latched bit is set in WAKE_PIN: PE_WAKE_N low while the link is in L2 or down,
PME_Status and a PM_PME message while the PF is in D3hot or the link is in L1, PME_En permitting (R274). -/
def State.wakeSignal (s : State) : State :=
  let l := s.get Reg.hostLinkStatus
  if Nat.land (s.get Reg.wakeStatus) (s.get Reg.wakePin) = 0 then s.modEvents (fun e => { e with peWake := false })
  else if l = 0 ∨ l = 4 then s.modEvents (fun e => { e with peWake := true })
  else if (s.host.d3 || l == 3) && !s.events.pmeStatus then
    let s := s.modEvents (fun e => { e with pmeStatus := true })
    if s.host.pmeEn then s.emit .pmPme else s
  else s

/-- Wake source b latches: its bit of WAKE_STATUS is set when its WAKE_ENABLE bit is 1 (R273). -/
def State.wake (s : State) (b : Nat) : State :=
  if bit (s.get Reg.wakeEnable) b && !(bit (s.get Reg.wakeStatus) b) then
    ((s.putBit Reg.wakeStatus 0 b true).bump Reg.wakeCount).wakeSignal
  else s

/-- A latch that counts only outside A0 (Table 11.9). -/
def State.wakeOutsideA0 (s : State) (b : Nat) : State := if s.powerState = 0 then s else s.wake b

/-! ### Management sources (R263) -/

/-- The identifier of a Clezel frame (Table 18.10). -/
def clezelId (prio fn dest src seq : Nat) : Nat :=
  prio % 8 * 67108864 + fn % 16 * 4194304 + dest % 128 * 32768 + src % 128 * 256 + seq % 256

/-- The field port may send a frame: it has a node number and an access other than 0 (R470). -/
def State.fieldSends (s : State) : Bool :=
  s.get Reg.fieldNodeId != 0 && s.get Reg.fieldAccess != 0 && s.get Reg.canState != 2

/-- The block originates a frame with its own count (Table 18.10). -/
def State.sendFrame (s : State) (prio fn dest : Nat) (data : List Byte) : State :=
  let q := s.lexicon.frameSeq
  let s := s.emit (.frame (clezelId prio fn dest (s.get Reg.fieldNodeId) q) data)
  ({ s with lexicon := { s.lexicon with frameSeq := (q + 1) % 256 } }).bump Reg.fieldFramesTx

/-- FIELD_EVENT (R469): a raise in instance 0 of at least FIELD_EVENT_PRIO sends an EVENT, at most one for each source
in 1,000 clauses; none in recovery (R471). -/
def State.fieldEvent (s : State) (n : Nat) : State :=
  let last := Tbl.find s.events.fieldAt n
  let quiet := last.any (fun t => decide (s.clauseNow < t + 1000))
  if s.fieldSends && decide (s.get Reg.fieldEventPrio ≤ s.priority n) && !quiet && !s.security.recovery then
    let s := s.sendFrame 2 9 (s.get Reg.fieldEventNode)
      (layout [(2, n), (1, s.priority n), (1, 0), (4, s.clauseNow)])
    s.modEvents (fun e => { e with fieldAt := Tbl.put e.fieldAt n s.clauseNow })
  else s

/-- Key of a source of an instance, and of a unit behind it. -/
def srcKey (i n : Nat) : Nat := i * 1024 + n
def unitKey (i n u : Nat) : Nat := srcKey i n * 128 + u

/-- Source n is raised in instance i for unit u (R263): its counter grows; when enabled it is pending, and the
message test follows (R267). -/
def State.raise (s : State) (i n u : Nat) : State :=
  let s := s.bump Reg.mgmtCount (srcKey i n)
  let s := if s.get Reg.srcEnable n = 1 then
      s.modEvents (fun e => { e with pend := e.pend.add (srcKey i n), units := e.units.add (unitKey i n u) })
    else s
  let s := if n = 0x042 then s.wake 17 else s
  let s := if s.get Reg.wakePrio ≤ s.priority n then s.wake 20 else s
  let s := if i = 0 then s.fieldEvent n else s
  s.testMgmt i

/-- Source n of instance i is raised unless it is pending already: a condition that keeps it pending. -/
def State.keepPending (s : State) (i n u : Nat) : State :=
  if s.events.units.mem (unitKey i n u) then s else s.raise i n u

/-- Source n of instance i is no longer pending (R263); with the only source behind it, an in-egress management message
is withdrawn (R270). -/
def State.withdraw (s : State) (i n : Nat) : State :=
  if s.events.pend.mem (srcKey i n) then
    let s := s.modEvents (fun e => { e with
      pend := e.pend.remove (srcKey i n),
      units := e.units.removeRange (unitKey i n 0) (unitKey i n 128) })
    let s := if (s.claimable i).isNone then
        let inEgress := ((s.port 9).entries ++ (s.port 9).outside).any (fun e => match e.work with
          | .msix _ none => e.i == i | _ => false)
        if inEgress then
          let s := s.removeEntries 9 (fun e => e.svc == 7 && (match e.work with | .msix _ none => e.i == i | _ => false))
          s.modEvents (fun e => { e with outstanding := e.outstanding.remove i })
        else s
      else s
    s.testMgmt i
  else s

/-- Unit u no longer stands behind source n of instance i; the source is withdrawn with its last unit. -/
def State.withdrawUnit (s : State) (i n u : Nat) : State :=
  let s := s.modEvents (fun e => { e with units := e.units.remove (unitKey i n u) })
  if s.events.units.cardIn (unitKey i n 0) (unitKey i n 128) = 0 then s.withdraw i n else s

/-- The group of a source (Table 11.5). -/
def srcGroup (n : Nat) : Nat :=
  if n = 0x001 ∨ n = 0x003 ∨ n = 0x004 ∨ n = 0x010 then 0
  else if n = 0x002 then 1
  else if n = 0x005 ∨ n = 0x060 ∨ n = 0x061 ∨ n = 0x062 then 4
  else if n = 0x012 ∨ n = 0x013 then 13
  else if n = 0x011 ∨ (0x020 ≤ n ∧ n ≤ 0x027) then 7
  else if n = 0x030 ∨ n = 0x031 then 6
  else if 0x040 ≤ n ∧ n ≤ 0x044 then 8
  else if n = 0x050 then 2
  else if n = 0x058 then 3
  else if n < 0x080 then 5
  else if n < 0x0A0 then 9
  else if n < 0x0C0 then 10
  else if n < 0x0D0 then 11
  else if n < 0x0E0 then 12
  else if n < 0x0F0 then 13
  else if n < 0x0F8 then 14
  else 15

/-- GROUP_ATTENTION of group g (R202): the units behind pending sources. -/
def State.attention (s : State) (g : Nat) : List Nat :=
  (s.events.units.elems.filter (fun k => srcGroup (k / 128 % 1024) == g)).map (· % 128)

/-! ### Pulses of the event fabric (R287, R294) -/

/-- A pulse on line l: each channel that counts the line takes one request, which its reset voids (R214); a count at 255
overflows (R287). -/
def State.pulse (s : State) (l : Nat) : State :=
  let s := s.bump Reg.linePulses l
  s.each ((s.rowsOf Reg.chCtrlActive).filter (fun k =>
      let c := s.get Reg.chCtrlActive k
      (bits c 17 16 == 1 || bits c 17 16 == 2) && bits c 31 24 == l && s.get Reg.chState k != 0)) (fun s k =>
    let i := (s.chanOwner k).getD 0
    if s.get Reg.instState i = 2 then s
    else if 255 ≤ s.get Reg.chReqCount k then (s.bump Reg.chReqOverflows k).raise i 0x072 k
    else s.bump Reg.chReqCount k)

/-- IMAGE_STATE takes a new value; every change raises source 0x011 (R20), and Open pulses line 0x59. -/
def State.setImage (s : State) (v : ImageState) : State :=
  if s.image = v then s
  else
    let s := (s.set Reg.imageState 0 v.code).raise 0 0x011 0
    if v = .opened then s.pulse 0x59 else s

/-! ### Records and queues (R250 to R261) -/

/-- The running state of a queue. -/
def State.qrun (s : State) (q : Nat) : QRun := Tbl.getD s.events.run q QRun.reset

/-- The running state of a queue changed. -/
def State.putQrun (s : State) (q : Nat) (r : QRun) : State := s.modEvents (fun e => { e with run := Tbl.put e.run q r })

/-- The records a queue holds that are not consumed: (PROD − CONS) mod 2^32. -/
def State.queueFill (s : State) (q : Nat) : Nat :=
  (s.get Reg.queueProd q + 4294967296 - s.get Reg.queueCons q) % 4294967296

/-- The places of a queue. -/
def State.queuePlaces (s : State) (q : Nat) : Nat := 2 ^ s.get Reg.queueSize q

/-- The message decision of R259 on counts: armed and U ≥ COAL_COUNT. -/
def State.decideQueue (s : State) (q : Nat) (timer : Bool) : State :=
  let r := s.qrun q
  if r.armed && decide (0 < r.u) && (timer || decide (s.get Reg.queueCoalCount q ≤ r.u)) then
    let s := s.putQrun q { r with armed := false, u := 0 }
    let s := if s.events.decided.contains q then s else
      s.modEvents (fun e => { e with decided := (e.decided ++ [q]).mergeSort (· ≤ ·) })
    s.issueQueue q
  else s

/-- A record takes the next sequence of queue q and goes to port 9 (R252, R253); U grows and the decision is tested
(R259). Wake source 19 never latches for a record of the power manager (R421). -/
def State.writeRecord (s : State) (q svc type about source : Nat) (payload : List Byte) : State :=
  let i := (s.queueOwner q).getD 0
  let n := s.get Reg.queueProd q
  let s := s.set Reg.queueProd q ((n + 1) % 4294967296)
  let s := s.bump Reg.recordsWritten
  let s := s.enqueue 9 svc i (.record q n type about source payload) 32
  let r := s.qrun q
  let s := s.putQrun q { r with u := sat 255 (r.u + 1), since := if r.u = 0 then s.clauseNow else r.since }
  let s := if type = 0x50 ∨ type = 0x51 ∨ type = 0x60 then s else s.wakeOutsideA0 19
  s.decideQueue q false

/-- A record finds its queue full, or Bus Master Enable clear: it is lost (R255, R182). -/
def State.loseRecord (s : State) (q type : Nat) : State :=
  let i := (s.queueOwner q).getD 0
  let first := s.get Reg.queueLost q = 0
  let s := (s.bump Reg.queueLost q).bump Reg.recordsLost
  let r := s.qrun q
  let s := s.putQrun q { r with types := setBit r.types type true, firstLost := if first then s.clauseNow else r.firstLost }
  if first then s.raise i 0x061 0 else s

/-- The service of port 9 of a record (Table 10.1). -/
def recordService (type : Nat) : Nat := if type = 1 ∨ type = 2 then 0 else if type = 3 ∨ type = 4 then 3 else 7

/-- A record of a type is due in pool queue q: written, lost, or discarded (R253, R255, R256). Nothing is written from
the cut (Table 3.3). -/
def State.recordTo (s : State) (q type about source : Nat) (payload : List Byte) : State :=
  if s.cutPassed then s
  else if s.get Reg.queueEnable q = 0 then (s.bump Reg.queueDiscarded q).bump Reg.recordsDiscarded
  else if !(s.host.busMaster.mem ((s.queueOwner q).getD 0)) || decide (s.queuePlaces q ≤ s.queueFill q) then
    s.loseRecord q type
  else s.writeRecord q (recordService type) type about source payload

/-- A record due in pool queue q now is written, not discarded or lost. -/
def State.recordGoes (s : State) (q : Nat) : Bool :=
  !s.cutPassed && s.get Reg.queueEnable q != 0 && s.host.busMaster.mem ((s.queueOwner q).getD 0) &&
  decide (s.queueFill q < s.queuePlaces q)

/-- A record due in the management event queue of instance i now is written. -/
def State.mgmtGoes (s : State) (i : Nat) : Bool := (s.mgmtQueue i).any s.recordGoes

/-- A record is due in the management event queue of instance i (R208, R256). -/
def State.recordMgmt (s : State) (i type about source : Nat) (payload : List Byte) : State :=
  match s.mgmtQueue i with
  | some q => s.recordTo q type about source payload
  | none => if s.cutPassed then s else s.bump Reg.eventsDropped i

/-- OVERFLOW_RECORD (R255): with a slot free and LOST not 0, the OVERFLOW record is written at once; none while Bus Master
Enable is 0 (R182). -/
def State.overflowRecord (s : State) (q : Nat) : State :=
  if s.get Reg.queueLost q ≠ 0 ∧ s.recordGoes q = true then
    let i := (s.queueOwner q).getD 0
    let r := s.qrun q
    let s := s.writeRecord q 7 0x7F i 0x061
      (layout [(4, s.get Reg.queueLost q), (4, r.firstLost), (8, r.types), (8, r.types / 18446744073709551616)])
    let s := s.set Reg.queueLost q 0
    let s := s.putQrun q { s.qrun q with types := 0 }
    s.withdraw i 0x061
  else s

/-- A queue is enabled: both counters zero, armed (R252, R259). -/
def State.enableQueue (s : State) (q : Nat) : State :=
  let s := ((s.set Reg.queueProd q 0).set Reg.queueCons q 0).set Reg.queueEnable q 1
  s.putQrun q { QRun.reset with armed := true }

/-- A queue is disabled: what it had decided is dropped, and its row keeps its counts (R257, R215). -/
def State.disableQueue (s : State) (q : Nat) : State :=
  let s := s.set Reg.queueEnable q 0
  let s := s.putQrun q QRun.reset
  s.modEvents (fun e => { e with decided := e.decided.filter (· != q) })

/-! ### The host's accesses -/

/-- A doorbell that names nothing the instance holds, or of a wrong size, is ignored and counted (R201). -/
def State.ignoreDoorbell (s : State) (i : Nat) : State := (s.bump Reg.hostDoorbellIgnored i).raise i 0x010 0

/-- QUEUE_DOORBELL (R254): `value` is the doorbell word of Table 11.3. -/
def State.queueDoorbell (s : State) (i j size value : Nat) : State :=
  let q := s.get Reg.effQueueFirst i + j
  if size ≠ 8 ∨ s.get Reg.effQueueCount i ≤ j ∨ s.get Reg.queueEnable q = 0 then s.ignoreDoorbell i
  else
    let cons := value % 4294967296
    let d := (cons + 4294967296 - s.get Reg.queueCons q) % 4294967296
    if s.queueFill q < d then (s.bump Reg.queueDoorbellsRefused).raise i 0x060 0
    else
      let s := s.set Reg.queueCons q cons
      let r := s.qrun q
      let u := sat 255 (s.queueFill q)
      let s := s.putQrun q { r with u := u, since := if r.u = 0 then s.clauseNow else r.since,
                                    armed := r.armed || bit value 63 }
      let s := s.overflowRecord q
      s.decideQueue q false

/-- The deadlines of the queue timers that run (R259). -/
def State.queueDeadlines (s : State) : List Nat :=
  (s.events.run.filter (fun x => x.2.armed && x.2.u != 0 && s.get Reg.queueCoalCount x.1 != 1)).map
    (fun x => x.2.since + s.get Reg.queueCoalTime x.1)

/-- QUEUE_COAL_TIMEOUT (R259): COAL_TIME clauses have passed since U last rose from 0; a queue with COAL_COUNT 1 has no
timer. Item 7 handles it (R44). -/
def State.queueCoalExpiry (s : State) (q : Nat) : State :=
  let r := s.qrun q
  let d := r.since + s.get Reg.queueCoalTime q
  if r.armed = true ∧ r.u ≠ 0 ∧ s.get Reg.queueCoalCount q ≠ 1 ∧
      s.expiryRuns 7 d (s.queueDeadlines.all (d ≤ ·)) = true then
    (s.expiryDone 7 d).decideQueue q true
  else s

/-- The CLAIM word (Table 11.7) that a claim of instance i returns. -/
def State.claimWord (s : State) (i : Nat) : Nat :=
  match s.claimable i with
  | none => 0x3FF
  | some n => s.get Reg.mgmtCount (srcKey i n) * 4294967296 + s.priority n * 65536 + n

/-- The side effect of a claim of instance i (R265): the claimable source of highest priority is claimed. -/
def State.claimNow (s : State) (i : Nat) : State :=
  let s := s.modEvents (fun e => { e with outstanding := e.outstanding.remove i })
  match s.claimable i with
  | none => (s.bump Reg.spuriousClaims).testMgmt i
  | some n =>
    let s := s.set Reg.mgmtCount (srcKey i n) 0
    let s := s.modEvents (fun e => { e with
      pend := e.pend.remove (srcKey i n), claimed := e.claimed.add (srcKey i n),
      units := e.units.removeRange (unitKey i n 0) (unitKey i n 128) })
    s.testMgmt i

/-- CLAIM (R265): the read of the CLAIM word returns it and claims; a shorter read returns zeros and claims nothing. -/
def State.claim (s : State) (i size : Nat) : State :=
  if size ≠ 8 then s.emit (.word i 0) else (s.emit (.word i (s.claimWord i))).claimNow i

/-- COMPLETE (R266): ends the claim of the source that bits 9:0 name. A write of another size within the word is
ignored. -/
def State.complete (s : State) (i size value : Nat) : State :=
  let n := value % 1024
  if size ≠ 8 then s
  else if s.events.claimed.mem (srcKey i n) then
    (s.modEvents (fun e => { e with claimed := e.claimed.remove (srcKey i n) })).testMgmt i
  else s.bump Reg.badCompletes

/-- The hold of instance i after a change from `before` (R270, R271): set, it withdraws what is in egress; released, it
lets every pending decision go. -/
def State.holdChanged (s : State) (i : Nat) (before : Bool) : State :=
  let s := s.set Reg.holdEffective i (b2n (s.held i))
  if s.held i && !before then s.withdrawMessages i (fun _ => true)
  else if !(s.held i) && before then s.retryMessages i
  else s

/-- SELF_HOLD_WRITE (R271): bit 0 of the HOLD word. -/
def State.selfHoldWrite (s : State) (i value : Nat) : State :=
  let before := s.held i
  let s := s.modEvents (fun e => { e with selfHold := if bit value 0 then e.selfHold.add i else e.selfHold.remove i })
  s.holdChanged i before

/-- HOLD_PF_WRITE (R271). -/
def State.holdPfWrite (s : State) (i : Nat) (on : Bool) : State :=
  let before := s.held i
  (s.set Reg.holdPf i (b2n on)).holdChanged i before

/-- MSIX_MASK (R270). -/
def State.msixMask (s : State) (i : Nat) : MaskWhat → State
  | .vector v =>
    let s := { s with host := { s.host with vecOpen := s.host.vecOpen.remove (i * 256 + v.val) } }
    s.withdrawMessages i (fun w => w == v.val)
  | .functionMask =>
    let s := { s with host := { s.host with fnMask := s.host.fnMask.add i } }
    s.withdrawMessages i (fun _ => true)
  | .msixEnable =>
    let s := { s with host := { s.host with msixEnable := s.host.msixEnable.remove i } }
    s.withdrawMessages i (fun _ => true)

/-- MSIX_UNMASK (R268): what waited is issued when the conditions hold again. -/
def State.msixUnmask (s : State) (i : Nat) : MaskWhat → State
  | .vector v =>
    let s := { s with host := { s.host with vecOpen := s.host.vecOpen.add (i * 256 + v.val) } }
    s.retryMessages i
  | .functionMask =>
    let s := { s with host := { s.host with fnMask := s.host.fnMask.remove i } }
    s.retryMessages i
  | .msixEnable =>
    let s := { s with host := { s.host with msixEnable := s.host.msixEnable.add i } }
    s.retryMessages i

/-- Word w of the MSI-X table entry of vector v of function i: 0 and 1 its address, 2 its data (R268). -/
def State.msixWord (s : State) (i v w : Nat) : Nat := Tbl.getD s.host.msixTable ((i * 256 + v) * 4 + w) 0

/-- An MSI-X message starts to leave with the address and data of its table entry (R268, R270): its vector's INFLIGHT bit
is set for 2 clauses. -/
def State.msixLeaves (s : State) (i vec : Nat) : State :=
  let s := (s.emit (.msix i vec (s.msixWord i vec 0 + 4294967296 * s.msixWord i vec 1) (s.msixWord i vec 2))).bump
    Reg.msixIssued
  s.modEvents (fun e => { e with
    inflight := e.inflight.filter (fun x => !(x.1 == i && x.2.1 == vec)) ++ [(i, vec, s.clauseNow)] })

/-- INFLIGHT_EXPIRY (R270): the bit clears at the second boundary after the TLP leaves. -/
def State.inflightExpiry (s : State) (i vec : Nat) : State :=
  if s.itemHeld 7 then s else s.modEvents (fun e => { e with
    inflight := e.inflight.filter (fun x => !(x.1 == i && x.2.1 == vec && decide (x.2.2 + 2 ≤ s.clauseNow))) })

/-- The copy of the watcher into the core (R274): 0x062 is pending while WAKE_STATUS is not 0. -/
def State.wakeCopy (s : State) : State :=
  if s.get Reg.wakeStatus = 0 then s.withdraw 0 0x062
  else if s.events.pend.mem (srcKey 0 0x062) || s.events.claimed.mem (srcKey 0 0x062) then s
  else s.raise 0 0x062 1

/-- WAKE_STATUS_CLEAR (R273): the bits written as 1 are cleared. -/
def State.wakeClear (s : State) (value : Nat) : State :=
  let v := s.get Reg.wakeStatus
  let s := s.set Reg.wakeStatus 0 (v - Nat.land v value)
  let s := if s.get Reg.wakeStatus = 0 then s.withdraw 0 0x062 else s
  s.wakeSignal

/-- The mode of GPIO n in WAKE_GPIO_MODE: 0 rising, 1 falling, 2 high, 3 low; whether a stable level meets it. -/
def gpioMeets (mode : Nat) (was now : Bool) : Bool :=
  match mode with
  | 0 => !was && now
  | 1 => was && !now
  | 2 => now
  | _ => !now

end Sys2Proof.Machine
end

