-- ==== Sys2Proof/Machine/Answer.lean ====
section
/-!
DEFINITION. Answers of Lexicon requests (spec/18_lexicon.md): how the result of a request reaches whoever asked, at once
or when another subsystem has finished (R454).
-/
namespace Sys2Proof.Machine

/-- The CAN FD data length that holds n bytes (R465). -/
def canLength (n : Nat) : Nat :=
  if n ≤ 8 then n else if n ≤ 12 then 12 else if n ≤ 16 then 16 else if n ≤ 20 then 20 else if n ≤ 24 then 24
  else if n ≤ 32 then 32 else if n ≤ 48 then 48 else 64

/-- A data field filled with zeros to its CAN FD length. -/
def canPad (l : List Byte) : List Byte := l ++ zeros (canLength l.length - l.length)

/-- The Lexicon's own state changed by `f`. -/
def State.modLexicon (s : State) (f : Lexicon → Lexicon) : State := { s with lexicon := f s.lexicon }

/-- The host Lexicon port of instance i. -/
def State.lexPort (s : State) (i : Nat) : LexPort := Tbl.getD s.lexicon.ports i LexPort.reset

/-- The host Lexicon port of instance i replaced. -/
def State.putLexPort (s : State) (i : Nat) (p : LexPort) : State :=
  s.modLexicon (fun l => { l with ports := Tbl.put l.ports i p })

/-- The data field of a RESPONSE (Table 18.12). -/
def responseData (abort : Nat) (last : Bool) (off size : Nat) (data : List Byte) : List Byte :=
  layout [(1, abort), (1, b2n last), (2, data.length), (4, off), (4, size)] ++ data

/-- The place of a request of a source node among the kept ones. -/
def keptKey (src seq : Nat) : Nat := src * 256 + seq % 256

/-- A RESPONSE leaves, and is the one kept for its source node (R467). -/
def State.respond (s : State) (prio src seq : Nat) (data : List Byte) : State :=
  let id := clezelId prio 3 src (s.get Reg.fieldNodeId) seq
  let me := keptKey src seq
  let s := s.modLexicon (fun l => { l with kept := match Tbl.find l.kept me with
    | some k => Tbl.put (l.kept.filter (fun x => x.1 / 256 != src || x.2.pending)) me
        { k with id := id, response := data, cyc := s.clauseNow, pending := false }
    | none => l.kept })
  if s.fieldSends then (s.emit (.frame id (canPad data))).bump Reg.fieldFramesTx else s

/-- A frame that is addressed to this node is received (R273, Table 18.16). -/
def State.frameIn (s : State) : State := (s.bump Reg.fieldFramesRx).wake 8

/-- A request on the port of instance i completes (R461): STATUS, SIZE and DATA; NOTIFY raises source 0x0F8. -/
def State.portDone (s : State) (i : Nat) (notify : Bool) (a : Abort) (size : Nat) (data : List Byte) : State :=
  let p := s.lexPort i
  let s := s.putLexPort i { p with
    busy := false, count := (p.count + 1) % 65536, abort := a.code, length := data.length, size := size,
    data := data ++ p.data.drop data.length }
  if notify then s.raise i 0x0F8 0 else s

/-- The result of a request reaches its requester. From the cut the host ports answer nothing (R471). -/
def State.answer (s : State) (who : Requester) (a : Abort) (size off : Nat := 0) (data : List Byte := []) : State :=
  let s := if a = .ok then s else s.bump Reg.lexAborts
  match who with
  | .direct p => s.emit (.lexAnswer p a.code data)
  | .port i notify n =>
    if s.cutPassed || !(s.lexPort i).busy || (s.lexPort i).serial != n then s else s.portDone i notify a size data
  | .frame prio src seq o =>
    s.respond prio src seq (responseData a.code (decide (size ≤ off + data.length)) o size data)
  | .config _ _ => s.modLexicon (fun l => { l with configAnswer := some a.code })

/-- A request waits for another subsystem (R454). -/
def State.waitFor (s : State) (who : Requester) (r : Nat) : State :=
  s.modLexicon (fun l => { l with waiting := l.waiting ++ [⟨who, r⟩] })

/-- The waiting request of `who` for register r is answered. -/
def State.finish (s : State) (who : Requester) (r : Nat) (a : Abort) : State :=
  let s := s.modLexicon (fun l => { l with waiting := l.waiting.erase ⟨who, r⟩ })
  s.answer who a

end Sys2Proof.Machine
end

