-- ==== Sys2Proof/Machine/Governor.lean ====
section
/-!
DEFINITION. The dirty planes and the dirty governor (spec/03_persistence.md R46 to R57): counts, budgets, thresholds,
the admission of writes and the records of a change of governor state.
-/
namespace Sys2Proof.Machine

/-- The persistence controller's own state changed by `f`. -/
def State.modPersist (s : State) (f : Persist → Persist) : State := { s with persist := f s.persist }

/-- The governor's state of carrier c. -/
def State.govCar (s : State) (c : Nat) : GovCar := Tbl.getD s.gov c GovCar.reset

/-- The governor's state of carrier c replaced. -/
def State.putGov (s : State) (c : Nat) (g : GovCar) : State := { s with gov := Tbl.put s.gov c g }

/-- P(c): the closing slices that carrier c has reported persisted (R49, R320). -/
def State.persisted (s : State) (c : Nat) : Nat := s.get Reg.ckptPersisted c

/-- D(c) = open bits + C − P(c) (R49). -/
def State.dirtyCount (s : State) (c : Nat) : Nat := s.persist.dirty.card + s.persist.count - s.persisted c

/-- B(c) of R50, exact and rounded down once; a stale report halves the energy, and a report of zero or none since
link-up gives 0 (R52, R326). -/
def State.budgetOf (s : State) (c : Nat) : Nat :=
  let g := s.govCar c
  let n := s.carrierCount
  let e := s.get Reg.holdupEnergy c
  let rate := s.get Reg.holdupSaveRate c
  let cost := s.get Reg.holdupSaveEnergy c
  if g.reports.isEmpty ∨ e = 0 ∨ rate = 0 ∨ cost = 0 then 0
  else
    let m := 1000000 - s.get Reg.govMargin
    let half := if g.stale then 2 else 1
    min (e * s.get Reg.holdupDerate c * 512 * n * m / (65536 * cost * half * 1000000))
      (rate * 1000 * s.get Reg.govSaveTime * n * m / (2097152 * 1000000))

/-- T_p = ⌈B × p ÷ 100⌉ (R53). -/
def threshold (b p : Nat) : Nat := ceilDiv (b * p) 100

/-- One step of Table 3.1 from state `st` at count `d` under budget `b`. -/
def State.govStep (s : State) (st d b : Nat) : Nat :=
  let t (r : Nat) : Nat := threshold b (s.get r)
  if st = 3 then (if d < t Reg.govStallReleasePct then 2 else 3)
  else if b ≤ d then 3
  else if st = 2 then
    (if d < t Reg.govShapeReleasePct then (if t Reg.govSemicolonPct ≤ d then 1 else 0) else 2)
  else if t Reg.govShapePct ≤ d then 2
  else if t Reg.govSemicolonPct ≤ d then 1 else 0

/-- GOVERNOR_THROTTLE payload (Table 3.11). -/
def State.throttlePayload (s : State) (c new old : Nat) : List Byte :=
  layout [(1, c), (1, new), (1, old), (1, 0), (4, s.dirtyCount c), (4, s.get Reg.govBudget c), (4, s.get Reg.epoch),
    (8, s.clauseNow)]

/-- Carrier c takes governor state `new`: an entry to or exit from SHAPING or STALL writes its record, and entry to
STALL raises source 0x020, withdrawn when no carrier remains in STALL (R57); a fall below SHAPING pulses line 0x50 + c
(Table 12.11). -/
def State.govEnter (s : State) (c new : Nat) : State :=
  let old := s.get Reg.govState c
  if new = old then s
  else
    let s := s.set Reg.govState c new
    let s := if 2 ≤ new ∨ 2 ≤ old then s.recordMgmt 0 0x23 0 0x020 (s.throttlePayload c new old) else s
    let s := if new = 3 then s.raise 0 0x020 c else if old = 3 then s.withdrawUnit 0 0x020 c else s
    if 2 ≤ old ∧ new < 2 then s.pulse (0x50 + c) else s

/-- The governor runs in Open, and in Restoring after window open (Table 1.3, R94). -/
def State.govActive (s : State) : Bool := s.image == .opened || (s.image == .restoring && s.windowsOpen)

/-- Carrier c passes between the states of Table 3.1 as its count stands, one threshold after another. -/
def State.govUpdate (s : State) (c : Nat) : State :=
  let s := s.set Reg.govDirty c (s.dirtyCount c)
  if !(s.govActive) then s
  else
    let step (s : State) : State := s.govEnter c (s.govStep (s.get Reg.govState c) (s.dirtyCount c) (s.get Reg.govBudget c))
    step (step (step s))

/-- Every active carrier's governor state is tested. -/
def State.govUpdateAll (s : State) : State := s.each s.activeCarriers (fun s c => s.govUpdate c)

/-- GOVERNOR_UPDATE (R51): budgets asked for since the last pass are recomputed, GOV_STALL_CLAUSES counts the clauses
elapsed, and the destage rate is that of the last 2,048 clauses (R55). -/
def State.governorItem (s : State) (elapsed : Nat) : State :=
  s.each s.activeCarriers (fun s c =>
    let g := s.govCar c
    let kept := g.persisted.filter (fun x => decide (s.clauseNow < x.1 + 2048))
    let bytes := kept.foldl (fun a x => a + x.2) 0
    let s := s.set Reg.govDestageRate c (bytes * 1000 / 1048576)
    let s := s.putGov c { g with persisted := kept, recompute := false }
    let s := if g.recompute && !s.cutPassed then s.set Reg.govBudget c (s.budgetOf c) else s
    let s := if s.get Reg.govState c = 3 then s.bump Reg.govStallClauses c elapsed else s
    s.govUpdate c)

/-- The budget of carrier c is to be recomputed in the next clause item 5 (R51). -/
def State.govAsk (s : State) (c : Nat) : State := s.putGov c { s.govCar c with recompute := true }

/-- The segments of a list of image ranges whose open bit is clear, each once. -/
def State.newSegments (s : State) (segs : List Nat) : List Nat :=
  (segs.filter (fun g => !(s.persist.dirty.mem g))).eraseDups

/-- The admission of R54: no carrier of the write is in STALL, and every active carrier has room for the bits that the
write would set. -/
def State.admits (s : State) (ias : List Nat) : Bool :=
  let n := s.carrierCount
  let new := (s.newSegments (ias.map segmentOf)).length
  ias.all (fun ia => s.get Reg.govState (carrierOf n ia) != 3) &&
  (new == 0 || s.activeCarriers.all (fun k => decide (s.dirtyCount k + new ≤ s.get Reg.govBudget k)))

/-- Segment g is dirty in the open plane (R48): its first write of the epoch sets the bit, grows every count, and sends
DIRTY_SET to every active carrier ahead of the write (R25). -/
def State.dirtySegment (s : State) (g : Nat) : State :=
  if s.persist.dirty.mem g then s
  else
    let s := s.modPersist (fun p => { p with dirty := p.dirty.add g })
    let s := s.each s.activeCarriers (fun s c => s.sendCarrier c false (g % 2) { op := 0x11, p0 := s.get Reg.epoch, p1 := g })
    s.govUpdateAll

/-- A trigger of R58 stands: a carrier in CHECKPOINT or higher, the interval, the command, or Hold entry. -/
def State.semicolonWanted (s : State) : Bool :=
  s.persist.trigger || decide (0 < s.persist.holdLeft) ||
  s.activeCarriers.any (fun c => decide (1 ≤ s.get Reg.govState c)) ||
  (s.get Reg.semicolonInterval != 0 &&
    decide (128 * s.persist.lastStart + msCycles (s.get Reg.semicolonInterval) ≤ 128 * s.clauseNow))

end Sys2Proof.Machine
end

