-- ==== Sys2Proof/Machine/Append.lean ====
section
/-!
DEFINITION. The append engine (spec/05_durable_append.md): write numbers and frontiers, doorbells, pending publishes,
durability points, notifications, errors and context commands.
-/
namespace Sys2Proof.Machine

/-- The append engine's own state changed by `f`. -/
def State.modAppend (s : State) (f : Append → Append) : State := { s with append := f s.append }

/-- The running notification state of context n. -/
def State.ctxRun (s : State) (n : Nat) : CtxRun := Tbl.getD s.append.run n CtxRun.reset

/-- The running notification state of context n replaced. -/
def State.putCtxRun (s : State) (n : Nat) (r : CtxRun) : State := s.modAppend (fun a => { a with run := Tbl.put a.run n r })

/-- The state of context n set; APPEND_CONTEXTS_OPEN counts those in OPEN, CLOSING or ERROR. -/
def State.setCtx (s : State) (n : Nat) (st : CtxState) : State :=
  let isOpen (c : CtxState) : Nat := b2n (c == .opened || c == .closing || c == .error)
  let k := s.get Reg.appendContextsOpen + isOpen st - isOpen (s.ctxState n)
  (s.set Reg.ctxState n st.code).set Reg.appendContextsOpen 0 k

/-- The ring of context n in bytes (R102). -/
def State.ringBytes (s : State) (n : Nat) : Nat := 2 ^ (12 + s.get Reg.ctxRingSize n)

/-- The instance whose range holds context n, the PF where none does (R211). -/
def State.ctxInst (s : State) (n : Nat) : Nat := (s.ctxOwner n).getD 0

/-! ### Frontiers (R111, R112) -/

/-- The number of the last accepted write of instance i: the fence of a publish accepted now. -/
def State.lastWrite (s : State) (i : Nat) : Nat := Tbl.getD s.append.numbered i 0

/-- The local frontier of instance i. -/
def State.localFrontier (s : State) (i : Nat) : Nat :=
  s.append.writes.foldl (fun a w => if w.i = i ∧ 0 < w.parts then min a (w.num - 1) else a) (s.lastWrite i)

/-- The mirror frontier of instance i. -/
def State.mirrorFrontier (s : State) (i : Nat) : Nat :=
  s.append.writes.foldl (fun a w => if w.i = i ∧ 0 < w.copies then min a (w.num - 1) else a) (s.lastWrite i)

/-- A write of instance i takes its number at acceptance, with its parts and copies outstanding. -/
def State.numberWrite (s : State) (i parts copies : Nat) : State :=
  let n := s.lastWrite i + 1
  s.modAppend (fun a => { a with numbered := Tbl.put a.numbered i n, writes := a.writes ++ [⟨i, n, parts, copies⟩] })

/-! ### Notification (R115 to R117) -/

/-- The durability word of context n is written (R116): bits 62:0 the durable offset, bit 63 degraded. It counts as
written when it joins port 9, so that DWORD_ENABLE is tested then (DESIGN CHOICE, log 85). -/
def State.writeDword (s : State) (n : Nat) (degraded : Bool) : State :=
  let i := s.ctxInst n
  if s.get Reg.dwordEnable i = 1 ∧ s.host.busMaster.mem i = true ∧ s.cutPassed = false then
    s.enqueue 9 0 i (.dword n (s.get Reg.dwordBase i + 8 * (n - s.get Reg.effCtxFirst i))
      (s.get Reg.ctxDurable n + (if degraded then 9223372036854775808 else 0))) 8
  else s

/-- APPEND_NOTIFY (R115): the word, then the record, then U is zero. -/
def State.notifyCtx (s : State) (n : Nat) : State :=
  let r := s.ctxRun n
  if r.u = 0 then s
  else
    let nt := s.get Reg.ctxNotify n
    let s := if bit nt 1 then s.writeDword n r.degraded else s
    let s := if bit nt 0 then
        s.recordTo (s.get Reg.ctxQueue n) 1 (s.ctxInst n) 0x030
          (layout [(4, n + (if r.degraded then 2147483648 else 0)), (4, s.get Reg.ctxUserTag n), (8, s.get Reg.ctxDurable n),
            (4, r.u), (4, sat 4294967295 (s.clauseNow - r.oldest))])
      else s
    s.putCtxRun n { r with u := 0, degraded := false }

/-- Whether context n has a pending publish. -/
def State.ctxPending (s : State) (n : Nat) : Bool := s.append.pubs.any (fun p => p.ctx == n)

/-- A CLOSING context whose last pending publish is resolved notifies and becomes CLOSED (Table 5.7). -/
def State.closeIfDrained (s : State) (n : Nat) : State :=
  if s.ctxState n = .closing ∧ s.ctxPending n = false then (s.notifyCtx n).setCtx n .closed else s

/-- The counts of the pending store (APPEND_PENDING, PENDING of the instance). -/
def State.countPending (s : State) (i : Nat) : State :=
  (s.set Reg.appendPending 0 s.append.pubs.length).set Reg.instPending i (s.append.pubs.filter (fun p => p.i == i)).length

/-- DURABILITY_POINT of publish p (R112, R115). The durable offset only grows: a degraded publish may have passed this one,
and the head may have followed it (R101, R112). -/
def State.durabilityPoint (s : State) (p : Pub) : State :=
  let s := s.modAppend (fun a => { a with pubs := a.pubs.filter (· != p) })
  let s := (s.set Reg.ctxDurable p.ctx (max p.tail (s.get Reg.ctxDurable p.ctx))).countPending p.i
  let r := s.ctxRun p.ctx
  let s := s.putCtxRun p.ctx { r with
    u := r.u + p.count, since := if r.u = 0 then s.clauseNow else r.since,
    oldest := if r.u = 0 then p.clause else r.oldest, degraded := r.degraded || p.degraded }
  let s := if s.get Reg.ctxCoalCount p.ctx ≤ (s.ctxRun p.ctx).u then s.notifyCtx p.ctx else s
  s.closeIfDrained p.ctx

/-- The publishes of instance i whose fence its frontiers have reached become durable, in the order of their acceptance
(R112). A degraded publish waits for the local frontier only (R118). -/
def State.testPublishes (s : State) (i : Nat) : State :=
  s.each (s.append.pubs.filter (fun p => p.i == i)) (fun s p =>
    if p.fence ≤ s.localFrontier i ∧ (p.two = false ∨ p.degraded = true ∨ p.fence ≤ s.mirrorFrontier i) then
      s.durabilityPoint p
    else s)

/-! ### Errors (R109, R110, R114, R118) -/

/-- APPEND_ERROR: one record of context n in a clause; further errors of the clause, and those whose record was not
written, are counted into the next (R110, Table 5.5). -/
def State.appendError (s : State) (n code value : Nat) : State :=
  let i := s.ctxInst n
  let s := (s.bump Reg.appendErrors).bump Reg.instanceErrors i
  let r := s.ctxRun n
  let r := { r with errs := r.errs + 1 }
  if r.errClause = some s.clauseNow ∨ bit (s.get Reg.ctxNotify n) 0 = false then s.putCtxRun n r
  else
    let goes := s.recordGoes (s.get Reg.ctxQueue n)
    let s := s.putCtxRun n { r with errs := if goes then 0 else r.errs, errClause := some s.clauseNow }
    s.recordTo (s.get Reg.ctxQueue n) 2 i 0x031
      (layout [(4, n), (4, s.get Reg.ctxUserTag n), (8, value), (1, code), (3, 0), (4, r.errs)])

/-- Codes 8 and 9: an OPEN context enters ERROR, a CLOSING one stays, and one in ERROR takes the newer code; source
0x031 is raised (R114, R118, R120). -/
def State.ctxFails (s : State) (n code value : Nat) : State :=
  let s := if s.ctxState n = .opened then s.setCtx n .error else s
  let s := s.set Reg.ctxError n code
  let s := s.appendError n code value
  let s := s.raise (s.ctxInst n) 0x031 0
  s.closeIfDrained n

/-- The publishes that a test selects fail with a code: each context concerned fails once, with the tail of its oldest
failed publish. -/
def State.failPublishes (s : State) (i code : Nat) (sel : Pub → Bool) : State :=
  let bad := s.append.pubs.filter (fun p => p.i == i && sel p)
  let s := (s.modAppend (fun a => { a with pubs := a.pubs.filter (fun p => !(bad.contains p)) })).countPending i
  s.each (bad.map (·.ctx)).eraseDups (fun s n =>
    match bad.find? (fun p => p.ctx == n) with
    | some p => s.ctxFails n code p.tail
    | none => s)

/-- Write records whose parts and copies are all resolved leave the list. -/
def State.pruneWrites (s : State) : State :=
  s.modAppend (fun a => { a with writes := a.writes.filter (fun w => decide (0 < w.parts) || decide (0 < w.copies)) })

/-- A record of write `num` of instance i changed. -/
def State.modWrite (s : State) (i num : Nat) (f : WriteRec → WriteRec) : State :=
  s.modAppend (fun a => { a with writes := a.writes.map (fun w => if w.i = i ∧ w.num = num then f w else w) })

/-- One part of a write has its carrier ACK (R112). -/
def State.partAcked (s : State) (i num : Nat) : State :=
  (((s.modWrite i num (fun w => { w with parts := w.parts - 1 })).pruneWrites).testPublishes i)

/-- WRITE_FAILED (R114): a part of a write ended without a carrier ACK, and every pending publish whose fence covers it
fails. The local frontier passes the write once its other parts are resolved too (DESIGN CHOICE, log 86). -/
def State.partFailed (s : State) (i num : Nat) : State :=
  let s := s.failPublishes i 8 (fun p => decide (num ≤ p.fence))
  (((s.modWrite i num (fun w => { w with parts := w.parts - 1 })).pruneWrites).testPublishes i)

/-- A copy of a write has its mirror acknowledgement. -/
def State.copyAcked (s : State) (i num : Nat) : State :=
  (((s.modWrite i num (fun w => { w with copies := w.copies - 1 })).pruneWrites).testPublishes i)

/-- A copy of a write is resolved by the resync map (R118): two-sided publishes whose fence covers the write fail with
MIRROR_LOST, or are degraded, by APPEND_MIRROR_LOSS. The first such copy resolves the write (R134). A publish accepted
after that finds the write resolved, and is not degraded by it (DESIGN CHOICE, log 84). -/
def State.copyMarked (s : State) (i num : Nat) : State :=
  if !(s.append.writes.any (fun w => w.i == i && w.num == num && decide (0 < w.copies))) then s else
  let s := if s.get Reg.appendMirrorLoss = 0 then s.failPublishes i 9 (fun p => p.two && decide (num ≤ p.fence))
    else s.modAppend (fun a => { a with pubs := a.pubs.map (fun p =>
      if p.i = i ∧ p.two = true ∧ num ≤ p.fence then { p with degraded := true } else p) })
  (((s.modWrite i num (fun w => { w with copies := 0 })).pruneWrites).testPublishes i)

/-! ### Doorbells (R105 to R108, R113) -/

/-- A doorbell that no context takes is ignored and counted (R108). -/
def State.appendIgnore (s : State) (i : Nat) : State :=
  ((s.bump Reg.appendIgnored).bump Reg.instanceIgnored i).raise i 0x010 0

/-- The newest pending publish of context n. -/
def State.newestPub (s : State) (n : Nat) : Option Pub := (s.append.pubs.filter (fun p => p.ctx == n)).getLast?

/-- Whether a publish of context n finds a pending entry now (R113). -/
def State.pubRoom (s : State) (i n : Nat) : Bool :=
  (s.newestPub n).any (fun p => p.fence == s.lastWrite i) ||
  (decide (s.append.pubs.length < 16384) &&
    decide ((s.append.pubs.filter (fun p => p.i == i)).length < s.get Reg.pendingMax i))

/-- A publish of context n with a new tail takes a pending entry, or joins the newest one of the same fence (R113). -/
def State.takePublish (s : State) (i n tail : Nat) : State :=
  let fence := s.lastWrite i
  let new : Pub := ⟨n, i, fence, tail, 1, s.clauseNow, s.get Reg.ctxPolicy n == 1, false⟩
  let s := s.set Reg.ctxTail n tail
  let s := match s.newestPub n with
    | some p =>
      if p.fence = fence then
        s.modAppend (fun a => { a with pubs := a.pubs.map (fun q => if q = p then { q with tail := tail, count := q.count + 1 } else q) })
      else s.modAppend (fun a => { a with pubs := a.pubs ++ [new] })
    | none => s.modAppend (fun a => { a with pubs := a.pubs ++ [new] })
  (s.countPending i).testPublishes i

/-- The outcome of the checks of R108 on one slot: ignored, an error code, or accepted. -/
inductive SlotCheck | ignored | error (n code : Nat) | publish (n : Nat) | trim (n : Nat)
deriving DecidableEq, Repr

/-- The checks of R108 in their order, for slot k of instance i. -/
def State.checkSlot (s : State) (i k : Nat) (oneSlot trim : Bool) (x : Nat) : SlotCheck :=
  let n := s.get Reg.effCtxFirst i + k
  if !(s.govActive) then .ignored
  else if s.get Reg.effCtxCount i ≤ k then .ignored
  else match s.ctxState n with
    | .closed => .ignored
    | .frozen => .ignored
    | .closing => .error n 4
    | .error => .error n 4
    | .opened =>
      if !oneSlot then .error n 1
      else if x % 8 ≠ 0 then .error n 7
      else if !trim then
        if x < s.get Reg.ctxTail n then .error n 2
        else if s.ringBytes n - 8 < x - s.get Reg.ctxHead n then .error n 3
        else .publish n
      else if x < s.get Reg.ctxHead n then .error n 6
      else if s.get Reg.ctxDurable n < x then .error n 5
      else .trim n

/-- The slots that a BAR4 write touches. -/
def slotsOf (off len : Nat) : List Nat := (List.range ((off + len - 1) / 8 + 1 - off / 8)).map (off / 8 + ·)

/-- Whether the write is one 8-byte, 8-byte-aligned write with all byte enables set. -/
def oneSlot (off len : Nat) (allBytes : Bool) : Bool := len == 8 && off % 8 == 0 && allBytes

/-- Whether a doorbell must wait for a pending entry (R113). -/
def State.doorbellWaits (s : State) (i off len : Nat) (allBytes trim : Bool) (x : Nat) : Bool :=
  (slotsOf off len).any (fun k => match s.checkSlot i k (oneSlot off len allBytes) trim x with
    | .publish n => !(s.pubRoom i n)
    | _ => false)

/-- A BAR4 doorbell write is taken (R108): `x` is bits 62:0 of the value. -/
def State.appendDoorbell (s : State) (i off len : Nat) (allBytes trim : Bool) (x : Nat) : State :=
  s.each (slotsOf off len) (fun s k =>
    match s.checkSlot i k (oneSlot off len allBytes) trim x with
    | .ignored => s.appendIgnore i
    | .error n code => s.appendError n code (x + if trim then 9223372036854775808 else 0)
    | .publish n => s.takePublish i n x
    | .trim n => s.set Reg.ctxHead n x)

/-- The deadlines of the context timers that run (R115). -/
def State.ctxDeadlines (s : State) : List Nat :=
  (s.append.run.filter (fun x => x.2.u != 0 && s.get Reg.ctxCoalCount x.1 != 1)).map
    (fun x => x.2.since + s.get Reg.ctxCoalTime x.1)

/-- APPEND_COAL_TIMEOUT (R115): COAL_TIME boundaries have passed since U of context n last rose from zero; with
COAL_COUNT 1 there is no timer. Item 8 handles it (R44). -/
def State.appendCoalExpiry (s : State) (n : Nat) : State :=
  let r := s.ctxRun n
  let d := r.since + s.get Reg.ctxCoalTime n
  if r.u ≠ 0 ∧ s.get Reg.ctxCoalCount n ≠ 1 ∧ s.expiryRuns 8 d (s.ctxDeadlines.all (d ≤ ·)) = true then
    (s.expiryDone 8 d).notifyCtx n
  else s

/-- DWORD_ENABLE from 0 to 1 writes the word of every OPEN context of the instance with NOTIFY bit 1 (R116). -/
def State.dwordEnableWrite (s : State) (i : Nat) (on : Bool) : State :=
  let before := s.get Reg.dwordEnable i
  let s := s.set Reg.dwordEnable i (b2n on)
  if on && before == 0 then
    s.each ((s.rowsOf Reg.ctxState).filter (fun n => s.ctxOwner n == some i && s.ctxState n == .opened &&
      bit (s.get Reg.ctxNotify n) 1)) (fun s n => s.writeDword n false)
  else s

/-! ### Context commands (Table 5.7) -/

/-- CLOSE: CLOSING until the last pending publish is resolved. -/
def State.ctxCloseNow (s : State) (n : Nat) : State := (s.setCtx n .closing).closeIfDrained n

/-- ABORT: CLOSED at once; pending entries are freed without a durability point or a notification. -/
def State.ctxAbortNow (s : State) (n : Nat) : State :=
  let i := s.ctxInst n
  let s := (s.modAppend (fun a => { a with pubs := a.pubs.filter (fun p => p.ctx != n) })).countPending i
  let s := s.putCtxRun n { s.ctxRun n with u := 0, degraded := false }
  let s := s.set Reg.ctxTail n (s.get Reg.ctxDurable n)
  s.setCtx n .closed

/-- RESUME: the tail is that of the newest publish still pending, or DURABLE; ERROR is 0 and the state OPEN. -/
def State.ctxResumeNow (s : State) (n : Nat) : State :=
  let tail := match s.newestPub n with | some p => p.tail | none => s.get Reg.ctxDurable n
  ((s.set Reg.ctxTail n tail).set Reg.ctxError n 0).setCtx n .opened

/-- Whether the ring of context n is aligned and within its size range and the image (R102). -/
def State.ringFits (s : State) (n : Nat) : Bool :=
  s.get Reg.ctxRingBase n % s.ringBytes n == 0 && decide (s.get Reg.ctxRingSize n ≤ 20) &&
  decide (s.get Reg.ctxRingBase n + s.ringBytes n ≤ s.segments * 2097152)

/-- The restart durable offset of context n at the cut (R63): the tail of its last publish accepted, or, two-sided, of
the last one whose copies were all acknowledged or resolved as degraded before the cut. A context in ERROR keeps its
durable offset. -/
def State.restartDurable (s : State) (n : Nat) : Nat :=
  let d := s.get Reg.ctxDurable n
  if s.ctxState n = .error then d
  else
    let ok := s.append.pubs.filter (fun p => p.ctx == n &&
      (!p.two || p.degraded || decide (p.fence ≤ s.mirrorFrontier p.i)))
    ok.foldl (fun a p => max a p.tail) d

/-- APPEND_FREEZE (R63, R122): at the cut every context takes its restart durable offset; OPEN becomes FROZEN and
CLOSING CLOSED, and nothing stays pending. -/
def State.freezeContexts (s : State) : State :=
  let s := s.each (s.rowsOf Reg.ctxState) (fun s n =>
    let d := s.restartDurable n
    let s := (s.set Reg.ctxDurable n d).set Reg.ctxTail n d
    if s.ctxState n = .opened then s.setCtx n .frozen else if s.ctxState n = .closing then s.setCtx n .closed else s)
  let s := s.modAppend (fun a => { a with pubs := [], run := [] })
  s.each (s.rowsOf Reg.instPending) (fun s i => s.countPending i)

end Sys2Proof.Machine
end

