-- ==== Sys2Proof/Machine/Coding.lean ====
section
/-!
DEFINITION. The coding of the Treyr lanes (spec/15_treyr_lanes.md R372 to R374): the 8b/10b code groups of IEEE 802.3
Clause 36 with the running disparity of each lane, which lane carries which byte of a flow unit (R339), and the SKP and
ALN sets. What the lines carry without end beside the listed units (IDLE flow units, sets that repeat) leaves the
disparity of a lane free (log 101).
-/
namespace Sys2Proof.Machine

/-! ### Lanes of a link (R334, R339, R370) -/

/-- The nominal width of link u (R334). -/
def nominalWidth (u : Nat) : Nat := if u < 16 then 4 else 8

/-- The first lane of link u. -/
def firstLane (u : Nat) : Nat := if u < 16 then 4 * u else 64 + 8 * (u - 16)

/-- The link of a lane. -/
def linkOf (lane : Nat) : Nat := if lane < 64 then lane / 4 else 16 + (lane - 64) / 8

/-- The lanes of link u. -/
def allLanes (u : Nat) : List Nat := (List.range (nominalWidth u)).map (firstLane u + ·)

/-- The lane that is logical lane l of link u (LANE_MAP). -/
def State.logicalLane (s : State) (u l : Nat) : Nat := firstLane u + s.get Reg.laneMap u / 16 ^ l % 8

/-- The selected lanes of link u. -/
def State.selectedLanes (s : State) (u : Nat) : List Nat := (allLanes u).filter (fun n => bit (s.get Reg.laneStatus n) 4)

/-- The time of one code group at a rate code, in 10⁻⁴ ns (Table 15.2). -/
def codeTime : Nat → Nat
  | 1 => 80000 | 2 => 16000 | 3 => 8000 | 4 => 4000 | _ => 3125

/-! ### The 8b/10b code (R372). Codes are written bit a first. -/

/-- How many of the low n bits are set. -/
def onesIn (n v : Nat) : Nat := (List.range n).foldl (fun a k => a + v / 2 ^ k % 2) 0

/-- abcdei of the data values 0 to 31 at negative running disparity. -/
def sixTable : List Nat :=
  [0b100111, 0b011101, 0b101101, 0b110001, 0b110101, 0b101001, 0b011001, 0b111000,
   0b111001, 0b100101, 0b010101, 0b110100, 0b001101, 0b101100, 0b011100, 0b010111,
   0b011011, 0b100011, 0b010011, 0b110010, 0b001011, 0b101010, 0b011010, 0b111010,
   0b110011, 0b100110, 0b010110, 0b110110, 0b001110, 0b101110, 0b011110, 0b101011]

/-- fghj of the values 0 to 7 at negative running disparity: of a data and of a control code group. -/
def fourData : List Nat := [0b1011, 0b1001, 0b0101, 0b1100, 0b1101, 0b1010, 0b0110, 0b1110]
def fourControl : List Nat := [0b1011, 0b0110, 0b1010, 0b1100, 0b1101, 0b0101, 0b1001, 0b0111]

/-- abcdei of value x; `k` for a control code group, `pos` at positive running disparity. -/
def sixCode (k : Bool) (x : Nat) (pos : Bool) : Nat :=
  let v := if k && x == 28 then 0b001111 else sixTable.getD x 0
  if pos && (onesIn 6 v != 3 || x == 7) then 63 - v else v

/-- fghj of value y beside value x: D.x.7 has its alternate form where the primary one would make a run of five. -/
def fourCode (k : Bool) (x y : Nat) (pos : Bool) : Nat :=
  if k then (let v := fourControl.getD y 0; if pos then 15 - v else v)
  else if y = 7 ∧ pos = false ∧ (x = 17 ∨ x = 18 ∨ x = 20) then 0b0111
  else if y = 7 ∧ pos = true ∧ (x = 11 ∨ x = 13 ∨ x = 14) then 0b1000
  else
    let v := fourData.getD y 0
    if pos && (onesIn 4 v != 2 || y == 3) then 15 - v else v

/-- The running disparity after n code bits: it turns where ones and zeros are not equally many. -/
def turned (pos : Bool) (n v : Nat) : Bool := if 2 * onesIn n v = n then pos else !pos

/-- The code group of byte b and the running disparity after it; `k` for a control code group. -/
def codeGroup (k : Bool) (b : Nat) (pos : Bool) : Nat × Bool :=
  let six := sixCode k (b % 32) pos
  let mid := turned pos 6 six
  let four := fourCode k (b % 32) (b / 32 % 8) mid
  (six * 16 + four, turned mid 4 four)

/-- Code groups one after another. -/
def codeGroups : Bool → List (Bool × Nat) → List Nat × Bool
  | pos, [] => ([], pos)
  | pos, (k, b) :: r =>
    let g := codeGroup k b pos
    let t := codeGroups g.2 r
    (g.1 :: t.1, t.2)

/-- A data code group. -/
def dataGroup (b : Nat) : Bool × Nat := (false, b % 256)

/-- The control code groups of Table 15.3: K28.5 COM, K28.0 SKP, K28.3 ALN, K28.2, K27.7 and K29.7. -/
def kCom : Bool × Nat := (true, 0xBC)
def kSkp : Bool × Nat := (true, 0x1C)
def kAln : Bool × Nat := (true, 0x7C)
def kMarker : Bool × Nat := (true, 0x5C)
def kStart : Bool × Nat := (true, 0xFB)
def kEnd : Bool × Nat := (true, 0xFD)

/-- The complement of a byte. -/
def notByte (b : Nat) : Nat := 255 - b % 256

/-- The code groups of a replay marker carrying M (Table 14.5). -/
def markerGroups (m : Nat) : List (Bool × Nat) :=
  let a := m % 256
  let b := m / 256 % 16
  [kMarker, dataGroup a, dataGroup b, dataGroup (notByte (Nat.xor a b))]

/-- The code groups of a training or link control set (Table 14.6). -/
def setGroups (type b0 b1 b2 b3 : Nat) : List (Bool × Nat) :=
  let l := [type % 256, b0 % 256, b1 % 256, b2 % 256, b3 % 256]
  [kStart] ++ l.map dataGroup ++ [dataGroup (notByte (l.foldl Nat.xor 0)), kEnd]

/-! ### Transmitters -/

/-- Lane n has left what it carried last, and is in electrical idle. -/
def State.idleLane (s : State) (n : Nat) : State :=
  { s with line := { s.line with disparity := Tbl.erase s.line.disparity n } }

/-- Lanes enter electrical idle. -/
def State.idleLanes (s : State) (l : List Nat) : State := s.each l (fun s n => s.idleLane n)

/-- What the model does not list may have stood on these lanes: the disparity of those that are not idle is free. -/
def State.lineGap (s : State) (l : List Nat) : State :=
  let k := s.line.units
  let s := { s with line := { s.line with units := k + 1 } }
  s.each (l.filter (fun n => (Tbl.find s.line.disparity n).isSome)) (fun s n =>
    { s with line := { s.line with disparity := Tbl.put s.line.disparity n (Config.disparity n k) } })

/-- Lanes transmit code groups: each from its running disparity, which is negative at the exit from electrical idle
(R372). -/
def State.transmit (s : State) (u : Nat) (l : List (Nat × List (Bool × Nat))) : State :=
  let code (x : Nat × List (Bool × Nat)) : List Nat × Bool := codeGroups (Tbl.getD s.line.disparity x.1 false) x.2
  let t := s.each l (fun s x =>
    { s with line := { s.line with disparity := Tbl.put s.line.disparity x.1 (code x).2 } })
  t.emit (.line u (l.map (fun x => (x.1, (code x).1))))

/-- The bytes of a flow unit on the lanes of a link of width w: byte b on logical lane b mod w, as code group b ÷ w
(R339). -/
def State.striped (s : State) (u w : Nat) (fu : List Byte) : List (Nat × List (Bool × Nat)) :=
  (List.range w).map (fun l => (s.logicalLane u l,
    (fu.zipIdx.filter (fun x => x.2 % w == l)).map (fun x => dataGroup x.1.toNat)))

/-- A flow unit is transmitted. -/
def State.sendLine (s : State) (u : Nat) (fu : List Byte) : State :=
  (s.emit (.fu u fu)).transmit u (s.striped u (s.get Reg.linkWidth u) fu)

/-- A replay marker is transmitted on every selected lane. -/
def State.sendMarker (s : State) (u m : Nat) : State :=
  let lanes := s.selectedLanes u
  ((s.lineGap lanes).emit (.marker u m)).transmit u (lanes.map (fun n => (n, markerGroups m)))

/-- A link control set is transmitted on every selected lane (R356). -/
def State.sendCtrl (s : State) (u type b0 b1 b2 b3 : Nat) : State :=
  let lanes := s.selectedLanes u
  ((s.lineGap lanes).emit (.ctrlSet u type b0 b1 b2 b3)).transmit u (lanes.map (fun n => (n, setGroups type b0 b1 b2 b3)))

/-- Lanes of link u that are not in electrical idle. -/
def State.drivenLanes (s : State) (u : Nat) : List Nat :=
  (allLanes u).filter (fun n => (Tbl.find s.line.disparity n).isSome)

/-- Training sets on lanes of link u, an ALN set ahead of them (R380): lane, type and bytes of each. -/
def State.sendSets (s : State) (u : Nat) (l : List (Nat × Nat × Nat × Nat × Nat × Nat)) : State :=
  let lanes := (allLanes u).filter (fun n => (Tbl.find s.line.disparity n).isSome || l.any (fun x => x.1 == n))
  let s := ((s.lineGap lanes).emit (.alnSet u)).transmit u (lanes.map (fun n => (n, [kCom, kAln, kAln, kAln])))
  let s := s.each l (fun s x => s.emit (.trainSet x.1 x.2.1 x.2.2.1 x.2.2.2.1 x.2.2.2.2.1 x.2.2.2.2.2))
  s.transmit u (l.map (fun x => (x.1, setGroups x.2.1 x.2.2.1 x.2.2.2.1 x.2.2.2.2.1 x.2.2.2.2.2)))

/-- One training set on a lane. -/
def State.sendSet (s : State) (n type b0 b1 b2 b3 : Nat) : State := s.sendSets (linkOf n) [(n, type, b0, b1, b2, b3)]

/-! ### SKP sets (R374) -/

/-- The rate code at which the lanes of link u run: 1.25 Gbaud in training up to step 3 (R380). -/
def State.laneRate (s : State) (u : Nat) : Nat :=
  let t := Tbl.getD s.training u Training.reset
  if s.linkState u == .down || s.linkState u == .disabled then (if t.step ≤ 3 then 1 else t.rate)
  else s.get Reg.linkRate u

/-- A SKP set on every lane of link u that is not in electrical idle. -/
def State.sendSkip (s : State) (u : Nat) : State :=
  let lanes := s.drivenLanes u
  ((s.lineGap lanes).emit (.skpSet u)).transmit u (lanes.map (fun n => (n, [kCom, kSkp, kSkp, kSkp])))

/-- The links of which some lane is not in electrical idle. -/
def State.drivenLinks (s : State) : List Nat := (s.line.disparity.map (fun x => linkOf x.1)).eraseDups

/-- One clause of link u: a SKP set for every 2,304 code groups that have passed since the start of the one before. It
is listed at the clause boundary after it fell due (log 102). -/
def State.skipLink (s : State) (u : Nat) : State :=
  let t := Tbl.getD s.line.skp u 0 + 5120000
  let period := 2304 * codeTime (s.laneRate u)
  let s := s.each (List.replicate (t / period) ()) (fun s _ => s.sendSkip u)
  { s with line := { s.line with skp := Tbl.put s.line.skp u (t % period) } }

/-- One clause of every link. -/
def State.skipSets (s : State) : State := s.each s.drivenLinks (fun s u => s.skipLink u)

end Sys2Proof.Machine
end

