-- ==== Sys2Proof/Machine/LinkTx.lean ====
section
/-!
DEFINITION. The sending side of a Treyr link (spec/14_treyr_link.md): flow units and their CRC, groups, flow control,
acknowledgement and replay, and the receive room of delivered messages. IDLE flow units fill the line without end, and of
them the model lists only those that carry something new (log 11).
-/
namespace Sys2Proof.Machine

/-! ### Links -/

/-- Link unit u. -/
def State.link (s : State) (u : Nat) : Link := Tbl.getD s.links u Link.reset

/-- Link unit u replaced. -/
def State.putLink (s : State) (u : Nat) (l : Link) : State := { s with links := Tbl.put s.links u l }

/-- Link unit u changed by `f`. -/
def State.modLink (s : State) (u : Nat) (f : Link → Link) : State := s.putLink u (f (s.link u))

/-- A link is up in UP, PAUSED and RECOVERING (R357). -/
def LinkState.isUp : LinkState → Bool
  | .up => true | .paused => true | .recovering => true | _ => false

/-- Link u is up (R357). -/
def State.linkIsUp (s : State) (u : Nat) : Bool := (s.linkState u).isUp

/-- Some link of carrier c is in the state UP (R59). -/
def State.carrierHasUp (s : State) (c : Nat) : Bool :=
  s.linkState (2 * c) == .up || s.linkState (2 * c + 1) == .up

/-- The checkpoint timer of carrier c stands still while no link of it is in the state UP (R59); `was` tells whether one
was before a change. -/
def State.ckptStands (s : State) (c : Nat) (was : Bool) : State :=
  match Tbl.find s.persist.cars c with
  | none => s
  | some t =>
    let on := s.carrierHasUp c
    if on = was then s
    else
      let from0 := t.darkAt.getD s.now
      let later (x : Nat) : Nat := x + (s.now - max from0 x)
      let t := if on then { t with darkAt := none, sentAt := later t.sentAt, statusAt := later t.statusAt }
        else { t with darkAt := some s.now }
      { s with persist := { s.persist with cars := Tbl.put s.persist.cars c t } }

/-- LINK_STATE of link u set, with its bit of LINKS_UP. -/
def State.setLinkState (s : State) (u : Nat) (st : LinkState) : State :=
  let was := s.carrierHasUp (u / 2)
  let s := (s.set Reg.linkState u st.code).putBit Reg.linksUp 0 u st.isUp
  if u < 16 then s.ckptStands (u / 2) was else s

/-- Link u is in on/off flow control (R350). -/
def State.linkOnOff (s : State) (u : Nat) : Bool := s.get Reg.linkFcMode u == 1

/-- The channels of link u (R349). -/
def State.vcsOf (s : State) (u : Nat) : Nat := if u < 16 then 4 else s.get Reg.linkVcs u

/-- The receive room of each channel of link u in flow units (R353). -/
def State.vcRoom (s : State) (u : Nat) : Nat := if u < 16 then 256 else 4096 / max 1 (s.vcsOf u)

/-- The initial grant of channel key k = 2 v + (1 for data) (R351). -/
def State.initialGrant (s : State) (u k : Nat) : Nat :=
  let b := s.vcRoom u
  let h := min 127 (b / 4)
  if k % 2 = 0 then h else min 127 (b - h)

/-- The carrier port of link u, 8 for a partner link. -/
def portOf (u : Nat) : Nat := if u < 16 then u / 2 else 8

/-- The other link of the pair. -/
def otherLink (u : Nat) : Nat := if u % 2 = 0 then u + 1 else u - 1

/-- The channel of a carrier message by opcode (Table 13.1); none for an unknown opcode. -/
def carrierVc : Nat → Option Nat
  | 0x01 => some 0 | 0x02 => some 0 | 0x03 => some 0
  | 0x10 => some 2 | 0x11 => some 2 | 0x12 => some 2 | 0x13 => some 2 | 0x14 => some 2 | 0x15 => some 2
  | 0x16 => some 2 | 0x20 => some 3 | 0x21 => some 3 | 0x22 => some 3 | 0x30 => some 3 | 0x31 => some 3
  | 0x40 => some 2 | 0x80 => some 1 | 0x81 => some 1 | 0x82 => some 1 | 0x83 => some 1
  | _ => none

/-- The channel of a partner message by opcode and number of channels (Table 6.3; 3 channels use the column of 2,
log 12). -/
def partnerVc (op vcs : Nat) : Option Nat :=
  if op < 0x50 ∨ 0x5A < op then none
  else if op = 0x50 then some 0
  else if op = 0x51 ∨ op = 0x52 ∨ op = 0x54 then some 1
  else if op = 0x53 then some (if 4 ≤ vcs then 2 else 0)
  else some (if 4 ≤ vcs then 3 else 1)

/-- The channel of a message on link u. -/
def State.vcOf (s : State) (u op : Nat) : Nat :=
  ((if u < 16 then carrierVc op else partnerVc op (s.vcsOf u)).getD 0)

/-! ### Bytes of messages and flow units -/

/-- The 16-byte header of a message (Tables 13.2 and 6.4). -/
def Msg.header (m : Msg) : List Byte := layout [(1, m.op), (1, m.flags), (2, m.tag), (4, m.p0), (8, m.p1)]

/-- The slots of a message in a HEADER flow unit: its header, and the masks of an MWRM (R305). -/
def Msg.slots (m : Msg) : List Byte :=
  m.header ++ (match m.mask with | some (a, z) => layout [(8, a), (8, z)] | none => [])

/-- The group of messages of one channel, at most four slots in all (R305, R337): slots from slot 0, the rest NOP, then
the blocks of each in slot order. -/
def groupOf (vc : Nat) (ms : List Msg) : Group :=
  let b := ms.flatMap Msg.slots
  ⟨vc, ⟨2, vc, b ++ zeros (64 - b.length)⟩ :: (ms.flatMap (fun m => m.data)).map (fun d => ⟨3, vc, d⟩), ms⟩

/-- Group g with one message more, where it is of the same channel and has room for its slots (R305). -/
def Group.joined (g : Group) (vc : Nat) (m : Msg) : Option Group :=
  if g.vc = vc ∧ ((g.msgs ++ [m]).flatMap Msg.slots).length ≤ 64 then some (groupOf vc (g.msgs ++ [m])) else none

/-- A message joins the queue of a link: in the last group that waits, where it fits, else in a group of its own (log 78). -/
def joinQueue (vc : Nat) (m : Msg) : List Group → List Group
  | [] => [groupOf vc [m]]
  | [g] => match g.joined vc m with
    | some g => [g]
    | none => [g, groupOf vc [m]]
  | g :: r => g :: joinQueue vc m r

/-- The messages of a sent group, last first, of which blocks remain among the last `n` not acknowledged. -/
def lostBlocks : Nat → List Msg → List Msg
  | _, [] => []
  | n, m :: r => if m.data.length = 0 ∨ n = 0 then lostBlocks n r else lostBlocks (n - m.data.length) r ++ [m]

/-- The messages of a group whose flow units are not all acknowledged. -/
def Group.lost (g : Group) : List Msg :=
  if g.fus.any (fun f => f.type == 2) then g.msgs else lostBlocks g.fus.length g.msgs.reverse

/-- One bit of the CRC-32 of IEEE 802.3, least significant bit first. -/
def crcBit (c : Nat) : Nat := if c % 2 = 1 then Nat.xor (c / 2) 0xEDB88320 else c / 2

/-- One byte of the CRC-32. -/
def crcByte (c : Nat) (b : Byte) : Nat :=
  crcBit (crcBit (crcBit (crcBit (crcBit (crcBit (crcBit (crcBit (Nat.xor c b.toNat))))))))

/-- The CRC-32 of a byte list (R338). -/
def crc32 (l : List Byte) : Nat := 4294967295 - l.foldl crcByte 4294967295

/-- The CRC of a flow unit with its implicit sequence (R338). -/
def fuCrc (seq : Nat) (body : List Byte) : Nat := crc32 (le 2 (seq % 4096) ++ body)

/-- The flow-control bits 12:0 of the CONTROL word that link u sends now (Table 14.2). -/
def State.fcWord (s : State) (u : Nat) : Nat :=
  let l := s.link u
  if s.linkOnOff u then l.xoffOut
  else
    let k := l.fcNext % (2 * max 1 (s.vcsOf u))
    4096 + k * 256 + Tbl.getD l.given k 0 % 256

/-- A flow unit leaves on link u: its ACK and flow control are those of now (R342). -/
def State.sendFu (s : State) (u type vc : Nat) (payload : List Byte) (seq : Nat) : State :=
  let l := s.link u
  let control := l.e % 4096 * 1048576 + type * 65536 + vc * 8192 + s.fcWord u
  let body := payload ++ le 4 control
  let s := s.sendLine u (body ++ le 4 (fuCrc seq body))
  (s.modLink u (fun l => { l with fcNext := l.fcNext + 1 })).bump Reg.fusSent u

/-- The sequence of the next HEADER or DATA flow unit that link u transmits. -/
def Link.nextSent (l : Link) : Nat := match l.replayDue with | some a => a | none => l.n

/-- A NAK leaves with ACK = E (R344). -/
def State.sendNak (s : State) (u : Nat) : State :=
  let s := (s.lineGap (s.selectedLanes u)).sendFu u 1 0 (zeros 64) (s.link u).nextSent
  (s.modLink u (fun l => { l with nakAt := s.clauseNow })).bump Reg.naksSent u

/-! ### Groups and flow control (R349 to R352) -/

/-- Flow control lets link u start a group (R351, R352). -/
def State.flowLets (s : State) (u : Nat) (g : Group) : Bool :=
  let l := s.link u
  if s.linkOnOff u then l.fcSeen && !(bit l.xoff g.vc)
  else
    let left (k : Nat) : Nat := (Tbl.getD l.granted k 0 + 256 - Tbl.getD l.used k 0 % 256) % 256
    decide (1 ≤ left (2 * g.vc)) && decide (g.fus.length - 1 ≤ left (2 * g.vc + 1))

/-- Credits that a flow unit takes when it is sent for the first time. -/
def Link.charge (l : Link) (f : Fu) : Link :=
  let k := 2 * f.vc + (if f.type = 3 then 1 else 0)
  { l with used := Tbl.put l.used k ((Tbl.getD l.used k 0 + 1) % 256) }

/-- A new flow unit leaves and is kept for replay (R340, R342). -/
def State.sendNew (s : State) (u : Nat) (f : Fu) : State :=
  let l := s.link u
  let s := s.sendFu u f.type f.vc f.payload l.n
  s.modLink u (fun l => { (l.charge f) with
    n := (l.n + 1) % 4096, buf := l.buf ++ [f], sentTimes := l.sentTimes ++ [s.now] })

/-- A group leaves back to back (R337). -/
def State.sendGroup (s : State) (u : Nat) (g : Group) : State :=
  let s := s.modLink u (fun l => { l with sent := l.sent ++ [g] })
  (s.lineGap (s.selectedLanes u)).each g.fus (fun s f => s.sendNew u f)

/-- Channels that keep their order together: on a carrier link VC0 and VC2 (R349). -/
def vcClass (u vc : Nat) : Nat := if u < 16 ∧ vc = 2 then 0 else vc

/-- DIRTY_SET of segment g, of an epoch not later than `e`, waits on a carrier link other than u. -/
def State.dirtySetWaits (s : State) (u g e : Nat) : Bool :=
  s.links.any (fun x => decide (x.1 < 16) && x.1 != u && x.2.queue.any (fun q => q.msgs.any (fun m =>
    m.op == 0x11 && m.p1 == g && !(below32 e m.p0))))

/-- A write of group g may not leave on carrier link u yet: a DIRTY_SET that must go before it waits on another link
(R25). -/
def State.dirtyHolds (s : State) (u : Nat) (g : Group) : Bool :=
  decide (u < 16) && g.msgs.any (fun m => (m.op == 0x02 || m.op == 0x03) &&
    (match (Tbl.find s.carriers (u / 2)).bind (fun k => k.reqs.find? (fun r => r.tag == m.tag)) with
     | some r => (match r.behind with | some e => s.dirtySetWaits u r.seg e | none => false)
     | none => false))

/-- Groups in hand-over order: each leaves when its class is not held and flow control lets it start. Answers the state,
the groups kept and the channels that flow control holds. -/
def State.pumpGo (s : State) (u : Nat) : List Group → List Nat → State × List Group × List Nat
  | [], _ => (s, [], [])
  | g :: r, blocked =>
    if blocked.contains (vcClass u g.vc) then
      let x := s.pumpGo u r blocked
      (x.1, g :: x.2.1, x.2.2)
    else if !(s.flowLets u g) then
      let x := s.pumpGo u r (vcClass u g.vc :: blocked)
      (x.1, g :: x.2.1, g.vc :: x.2.2)
    else if s.dirtyHolds u g then
      let x := s.pumpGo u r (vcClass u g.vc :: blocked)
      (x.1, g :: x.2.1, x.2.2)
    else if 1024 < (s.link u).buf.length + g.fus.length then
      let x := s.pumpGo u r (vcClass u g.vc :: blocked)
      (x.1, g :: x.2.1, x.2.2)
    else (s.sendGroup u g).pumpGo u r blocked

/-- The replay from sequence `a`: the marker, then the kept flow units from `a` to N − 1 (R345). `again`: they count as
sent for the first time in new counts (R354). -/
def State.replayNow (s : State) (u a : Nat) (again : Bool) : State :=
  let l := s.link u
  let k := (a + 4096 - l.o % 4096) % 4096
  let s := (s.sendMarker u a).bump Reg.replays u
  let s := s.modLink u (fun l => { l with
    replayDue := none, sentTimes := l.sentTimes.take k ++ List.replicate (l.buf.length - k) s.now })
  let r := (l.buf.drop k).foldl (fun (x : State × Nat) f =>
    let s := (x.1.lineGap (x.1.selectedLanes u)).sendFu u f.type f.vc f.payload x.2
    let s := if again then s.modLink u (fun l => l.charge f) else s
    (s.bump Reg.replayedFus u, (x.2 + 1) % 4096)) (s, a)
  r.1

/-- A replay that waits for flow control after a RESUME goes once the far end's first flow unit is here and no channel
concerned is held (R354). -/
def State.replayWaiting (s : State) (u : Nat) : State :=
  let l := s.link u
  match l.replayDue with
  | none => s
  | some a =>
    if l.fcSeen && !(s.linkOnOff u && l.buf.any (fun f => bit l.xoff f.vc)) then s.replayNow u a true else s

/-- Since when the groups of each channel have waited for flow control without a break (R355): anew where one of the
channel has left since. -/
def holdTimes (vcs : Nat) (held : List Nat) (before after : List Group) (now : Nat) (t : Tbl Nat) : Tbl Nat :=
  let count (l : List Group) (v : Nat) : Nat := (l.filter (fun g => g.vc == v)).length
  (List.range vcs).foldl (fun t v =>
    if !(held.contains v) then Tbl.erase t v
    else if (Tbl.find t v).isSome && count after v == count before v then t
    else Tbl.put t v now) t

/-- Everything that link u alone may send now leaves (UP only; nothing new while a replay waits). -/
def State.pumpOne (s : State) (u : Nat) : State :=
  if s.linkState u = .up then
    let s := s.replayWaiting u
    if (s.link u).replayDue.isSome then s
    else
      let before := (s.link u).queue
      let x := s.pumpGo u before []
      x.1.modLink u (fun l => { l with
        queue := x.2.1, heldSince := holdTimes (s.vcsOf u) x.2.2 before x.2.1 s.now l.heldSince })
  else s

/-- A DIRTY_SET waits on link u. -/
def State.announces (s : State) (u : Nat) : Bool :=
  (s.link u).queue.any (fun g => g.msgs.any (fun m => m.op == 0x11))

/-- Everything that link u may send now leaves; behind a DIRTY_SET, writes that waited for it on the other
carrier links follow (R25). -/
def State.pump (s : State) (u : Nat) : State :=
  let had := s.announces u
  let before := (s.link u).queue.length
  let s := s.pumpOne u
  if had && decide ((s.link u).queue.length < before) then
    s.each ((s.links.filter (fun x => decide (x.1 < 16) && x.1 != u && !(x.2.queue.isEmpty))).map (·.1)) (fun s v => s.pumpOne v)
  else s

/-- A message waits on link u. -/
def State.linkQueue (s : State) (u : Nat) (m : Msg) : State :=
  s.modLink u (fun l => { l with queue := joinQueue (s.vcOf u m.op) m l.queue })

/-- A message is handed to link u. -/
def State.linkSend (s : State) (u : Nat) (m : Msg) : State := (s.linkQueue u m).pump u

/-- Messages are handed to link u together. -/
def State.linkSendAll (s : State) (u : Nat) (ms : List Msg) : State := (s.each ms (fun s m => s.linkQueue u m)).pump u

/-! ### Acknowledgement (R342, R343) -/

/-- Groups with their acknowledged flow units dropped. -/
def ackGroups : Nat → List Group → List Group
  | _, [] => []
  | k, g :: r => if g.fus.length ≤ k then ackGroups (k - g.fus.length) r else { g with fus := g.fus.drop k } :: r

/-- An ACK value is valid (R342). -/
def Link.ackValid (l : Link) (a : Nat) : Bool :=
  decide ((a + 4096 - l.o % 4096) % 4096 ≤ (l.n + 4096 - l.o % 4096) % 4096)

/-- A valid ACK value frees the flow units before it. -/
def State.ackTo (s : State) (u a : Nat) : State :=
  let l := s.link u
  let k := (a + 4096 - l.o % 4096) % 4096
  if k = 0 then s
  else s.modLink u (fun l => { l with
    o := a % 4096, buf := l.buf.drop k, sent := ackGroups k l.sent, sentTimes := l.sentTimes.drop k, ackTries := 0 })

/-! ### Receive room -/

/-- Flow units of channel v that delivered messages and the open group still take. -/
def Link.roomTaken (l : Link) (v : Nat) : Nat :=
  l.inbox.foldl (fun a m => if m.vc = v then a + m.msg.data.length + b2n m.last else a)
    (match l.rxGroup with | some (w, _, fus) => if w = v then fus.length else 0 | none => 0)

/-- The XOFF bitmap that link u sends, from the room of each channel (R352). -/
def State.renewXoff (s : State) (u : Nat) : State :=
  let h := s.get Reg.linkHeadroom u
  s.modLink u (fun l => { l with
    xoffOut := (List.range (s.vcsOf u)).foldl (fun x v =>
      let room := s.vcRoom u - l.roomTaken v
      if room ≤ h then setBit x v true else if h + 16 ≤ room then setBit x v false else x) l.xoffOut })

/-- The engine takes the oldest delivered message that meets a test; its room is free again (R351, R352). -/
def State.consume (s : State) (u : Nat) (hit : Msg → Bool) : State :=
  let l := s.link u
  match l.inbox.find? (fun m => hit m.msg) with
  | none => s
  | some m =>
    let up (t : Tbl Nat) (k n : Nat) : Tbl Nat := Tbl.put t k ((Tbl.getD t k 0 + n) % 256)
    let g := up l.given (2 * m.vc + 1) m.msg.data.length
    let g := if m.last then up g (2 * m.vc) 1 else g
    (s.putLink u { l with inbox := l.inbox.erase m, given := g }).renewXoff u

end Sys2Proof.Machine
end

