-- ==== Sys2Proof/Machine/Mirror.lean ====
section
/-!
DEFINITION. The mirror engine (spec/06_mirroring.md): ranges and owner sides, copies and their resolution, resync,
pairing, the split, the witness lease and the planned handover. What a received copy does to the image stands with the
host port's writes.
-/
namespace Sys2Proof.Machine

/-- The mirror engine's own state changed by `f`. -/
def State.modMirror (s : State) (f : Mirror → Mirror) : State := { s with mirror := f s.mirror }

/-! ### Ranges (R131, R132) -/

/-- The rows of MIRROR_RANGES. -/
def mirrorRows : List Nat := List.range 16

/-- First segment and segments of row r. -/
def State.rowBase (s : State) (r : Nat) : Nat := s.get Reg.rangeBaseSeg r
def State.rowLen (s : State) (r : Nat) : Nat := s.get Reg.rangeSegments r

/-- This side's number, and whether it owns row r. -/
def State.side (s : State) : Nat := s.get Reg.pairSide
def State.ownsRow (s : State) (r : Nat) : Bool := s.rowLen r != 0 && s.get Reg.rangeOwner r == s.side

/-- RANGE_STATE of row r: 0 OWNER, 1 FENCED, 2 REPLICA. -/
def State.rowState (s : State) (r : Nat) : Nat := s.get Reg.rangeState r

/-- The mirror range that covers a segment. -/
def State.rowOf (s : State) (seg : Nat) : Option Nat :=
  mirrorRows.find? (fun r => decide (s.rowBase r ≤ seg) && decide (seg < s.rowBase r + s.rowLen r))

/-- Bits of the rows that meet a test. -/
def rowBits (p : Nat → Bool) : Nat := mirrorRows.foldl (fun a r => if p r then a + 2 ^ r else a) 0

/-- The marked segments of row r. -/
def State.rowMarked (s : State) (r : Nat) : Nat := s.mirror.map.cardIn (s.rowBase r) (s.rowBase r + s.rowLen r)

/-! ### Links and messages -/

/-- Partner link l is up. -/
def State.partnerUp (s : State) (l : Nat) : Bool := s.linkIsUp (16 + l)

/-- Some partner link is up. -/
def State.anyPartnerUp (s : State) : Bool := s.partnerUp 0 || s.partnerUp 1

/-- The partner link of segment g now: PL(g mod 2) while it is up, else the other (R134). -/
def State.partnerLink (s : State) (g : Nat) : Nat := if s.partnerUp (g % 2) then g % 2 else 1 - g % 2

/-- The 64-byte blocks that cover `data` at address `a`. -/
def blocksOf (a : Nat) (data : List Byte) : List (List Byte) :=
  let l := zeros (a % 64) ++ data
  (List.range ((l.length + 63) / 64)).map (fun k => slice l (64 * k) 64)

/-- MCOPY of a retained copy (Table 6.4). -/
def Copy.msg (c : Copy) (again : Bool) : Msg :=
  { op := 0x50, flags := b2n again, tag := c.data.length, p0 := c.seq, p1 := c.ia, data := blocksOf c.ia c.data }

/-- A MIRROR_STATE record's payload (Table 6.8). -/
def State.mirrorPayload (s : State) (new old : Nat) : List Byte :=
  layout [(1, new), (1, old), (1, b2n (s.partnerUp 0) + 2 * b2n (s.partnerUp 1)), (1, s.get Reg.leaseState),
    (4, s.mirror.map.card), (4, rowBits (fun r => s.rowLen r != 0 && s.rowState r == 0)),
    (4, rowBits (fun r => s.rowLen r != 0 && s.rowState r == 1)), (8, 0)]

/-- What the rows become at the next clause boundary (R204). -/
def State.rowLater (s : State) (r v : Nat) : State := s.modMirror (fun m => { m with rowNext := Tbl.put m.rowNext r v })

/-! ### Marks and states (R130, R137, R139) -/

/-- Copies of host writes are sent, or marked at acceptance (Table 6.2). -/
def State.sendsCopies (s : State) : Bool := s.mirrorState == .paired || s.mirrorState == .resync
def State.marksCopies (s : State) : Bool := !(s.sendsCopies) && s.mirrorState != .unpaired

/-- No segment of a range is marked in this side's map, nor, as far as it knows, in the partner's (Table 6.2, R140,
DEDUCED, log 90). -/
def State.mapsClear (s : State) : Bool := mirrorRows.all (fun r => s.rowMarked r == 0) && s.mirror.peerMap.isEmpty

/-- MIRROR_STATE takes a value, with its record and source (R130). -/
def State.mirrorTo (s : State) (new : MirrorState) : State :=
  let old := s.mirrorState
  if old = new then s
  else
    let s := s.set Reg.mirrorState 0 new.code
    let s := s.recordMgmt 0 0x30 0 0x040 (s.mirrorPayload new.code old.code)
    s.raise 0 0x040 0

/-- Segment g is marked in the resync map; in PAIRED the map is no longer empty, so the state is RESYNC (Table 6.2). -/
def State.markSegment (s : State) (g : Nat) : State :=
  let s := s.modMirror (fun m => { m with map := m.map.add g, resyncMarked := m.resyncMarked || m.resyncSeg == some g })
  if s.mirrorState = .paired then s.mirrorTo .resync else s

/-- Copies are resolved by marking (R137): they leave the retain buffer, and their writes follow R118. -/
def State.markCopies (s : State) (sel : Copy → Bool) : State :=
  let cs := s.mirror.retain.filter sel
  let s := s.modMirror (fun m => { m with retain := m.retain.filter (fun c => !(sel c)) })
  s.each cs (fun s c => (s.markSegment c.seg).copyMarked c.i c.num)

/-- Every unresolved copy is resolved by marking; nothing of them stays on port 8, and resync stops. -/
def State.markAll (s : State) : State :=
  let s := s.markCopies (fun _ => true)
  let s := s.modMirror (fun m => { m with
    resyncSeg := none, resyncOff := 0, resyncMarked := false, rcopies := [], behind := [], resend := [] })
  s.removeEntries 8 (fun e => e.work.copySegment.isSome)

/-- The rows that this side owns and that are FENCED, or become it at the next boundary, become OWNER. -/
def State.unfence (s : State) : State :=
  s.each (mirrorRows.filter (fun r => s.ownsRow r && Tbl.getD s.mirror.rowNext r (s.rowState r) == 1)) (fun s r =>
    s.rowLater r 0)

/-- A new mirror state, with what its entry does: every unresolved copy is marked on entry to SPLIT, PEER_AWAY, MISMATCH
or UNPAIRED (R137); MISMATCH raises 0x044 (R129); PAIRED pulses line 0x5A and clears SUPERSEDED (R144); UNPAIRED leaves owned ranges as
unmirrored. Outside SPLIT the lease fences no row (R146). -/
def State.setMirror (s : State) (new : MirrorState) : State :=
  if s.mirrorState = new then s
  else
    let old := s.mirrorState
    let s := s.set Reg.mirrorState 0 new.code
    let s := if new = .split ∨ new = .peerAway ∨ new = .mismatch ∨ new = .unpaired then s.markAll else s
    let s := if old = .split ∨ new = .unpaired then s.unfence else s
    let s := s.recordMgmt 0 0x30 0 0x040 (s.mirrorPayload new.code old.code)
    let s := s.raise 0 0x040 0
    match new with
    | .mismatch => s.raise 0 0x044 0
    | .paired =>
      let s := s.pulse 0x5A
      if s.get Reg.leaseState = 3 then
        s.set Reg.leaseState 0 (if s.mirror.leaseUntil.any (fun t => decide (s.now < t)) then 1 else 2)
      else s
    | .interrupted => s.modMirror (fun m => { m with before := old, downAt := some (128 * s.clauseNow) })
    | _ => s

/-! ### Copies of accepted writes (R134, R135) -/

/-- The runs of enabled bytes of a part (log 13): the first byte's address and the bytes of each. -/
def runsOf : Nat → List (Option Byte) → List (Nat × List Byte)
  | _, [] => []
  | a, none :: r => runsOf (a + 1) r
  | a, some b :: r =>
    match runsOf (a + 1) r with
    | (x, l) :: t => if x = a + 1 then (a, b :: l) :: t else (a, [b]) :: (x, l) :: t
    | [] => [(a, [b])]

/-- The copies that the parts of a write ask for: runs in a range in OWNER. -/
def State.copyRuns (s : State) (parts : List (Nat × List (Option Byte))) : List (Nat × List Byte) :=
  (parts.flatMap (fun p => runsOf p.1 p.2)).filter (fun x =>
    (s.rowOf (segmentOf x.1)).any (fun r => s.rowState r == 0))

/-- Bytes in the retain buffer (MIRROR_BUFFER_USED). -/
def State.retained (s : State) : Nat := s.mirror.retain.foldl (fun a c => a + c.data.length) 0

/-- The retain buffer has room for the copies of a write (R135). -/
def State.retainRoom (s : State) (runs : List (Nat × List Byte)) : Bool :=
  !(s.sendsCopies) ||
  (decide (s.mirror.retain.length + runs.length ≤ 4096) &&
    decide (s.retained + runs.foldl (fun a x => a + x.2.length) 0 ≤ 1048576))

/-- A copy goes to port 8, service 4. -/
def State.queueCopy (s : State) (c : Copy) : State :=
  s.enqueue 8 4 c.i (.partner (some c.seg) (c.msg false)) c.data.length

/-- A copy of a segment with an RCOPY read issued but not yet queued waits behind that RCOPY when it meets its bytes, or
when an earlier copy of the segment waits (R140, R134). -/
def State.copyWaits (s : State) (c : Copy) : Bool :=
  s.mirror.resyncRead && s.mirror.resyncSeg == some c.seg &&
  ((decide (c.ia < c.seg * 2097152 + s.mirror.resyncOff + 256) &&
    decide (c.seg * 2097152 + s.mirror.resyncOff < c.ia + c.data.length)) || !(s.mirror.behind.isEmpty))

/-- The copies of an accepted write: retained and queued while copies are sent, marked at acceptance otherwise. -/
def State.copyWrite (s : State) (i num : Nat) (runs : List (Nat × List Byte)) : State :=
  if s.sendsCopies then
    s.each runs (fun s x =>
      let c : Copy := ⟨s.mirror.txSeq, segmentOf x.1, x.1, x.2, i, num, 0, none⟩
      let s := s.modMirror (fun m => { m with txSeq := (m.txSeq + 1) % 4294967296, retain := m.retain ++ [c] })
      if s.copyWaits c then s.modMirror (fun m => { m with behind := m.behind ++ [c.seq] }) else s.queueCopy c)
  else if s.marksCopies then s.each runs (fun s x => s.markSegment (segmentOf x.1))
  else s

/-- An entry of port 8 is granted: it leaves on the partner link of its segment, or on the first that is up. -/
def State.partnerGranted (s : State) (seg : Option Nat) (m : Msg) : State :=
  let l := match seg with | some g => s.partnerLink g | none => if s.partnerUp 0 then 0 else 1
  let s := if m.op = 0x50 then
      (s.modMirror (fun x => { x with retain := x.retain.map (fun c =>
        if c.seq = m.p0 then { c with sentOn := l, sentAt := some s.now } else c) })).bump Reg.mirrorCopies
    else s
  if m.op = 0x57 then s.each ([0, 1].filter s.partnerUp) (fun s l => s.linkSend (16 + l) m)
  else s.linkSend (16 + l) m

/-- A MACK covers copies (R137): those up to `seq` in serial order have their mirror acknowledgement. -/
def State.ackCopies (s : State) (seq : Nat) : State :=
  let hit (c : Copy) : Bool := c.seq == seq || below32 c.seq seq
  let cs := s.mirror.retain.filter hit
  let s := s.modMirror (fun m => { m with retain := m.retain.filter (fun c => !(hit c)) })
  s.each cs (fun s c => s.copyAcked c.i c.num)

/-! ### Resync (R139, R140) -/

/-- The lowest marked segment of a row that this side owns. -/
def State.nextMarked (s : State) : Option Nat :=
  bestOf (fun a b => decide (a < b)) ((mirrorRows.filter s.ownsRow).filterMap (fun r =>
    ((s.mirror.map.within (s.rowBase r) (s.rowBase r + s.rowLen r)).head?).map (·.1)))

/-- The next RCOPY read goes to the carriers while none is outstanding (R140). -/
def State.resyncPump (s : State) : State :=
  if s.mirrorState != .resync || s.mirror.resyncRead || !(s.anyPartnerUp) || s.cutPassed then s
  else
    let s := if s.mirror.resyncMarked then
        s.modMirror (fun m => { m with resyncOff := 0, resyncMarked := false, rcopies := [] }) else s
    let s := if s.mirror.resyncSeg.isSome then s else
      s.modMirror (fun m => { m with resyncSeg := s.nextMarked, resyncOff := 0 })
    match s.mirror.resyncSeg with
    | none => if s.mapsClear then s.setMirror .paired else s
    | some g =>
      if s.mirror.resyncOff < 2097152 then
        (s.modMirror (fun m => { m with resyncRead := true })).enqueueImage 5 0 false
          (g * 2097152 + s.mirror.resyncOff) 256 [] false (.resyncRead g s.mirror.resyncOff)
      else s

/-- The data of an RCOPY read has come: the RCOPY is queued, and the copies behind it follow. -/
def State.resyncData (s : State) (g off : Nat) (data : List Byte) : State :=
  let s := s.modMirror (fun m => { m with resyncRead := false })
  let s := if s.mirrorState = .resync ∧ s.mirror.resyncSeg = some g ∧ s.mirror.resyncOff = off ∧
      s.mirror.resyncMarked = false then
      let seq := s.mirror.rcopyTx
      let last := decide (2097152 ≤ off + 256)
      let ia := g * 2097152 + off
      let s := s.modMirror (fun m => { m with
        rcopyTx := (seq + 1) % 4294967296, resyncOff := off + 256, rcopies := m.rcopies ++ [(seq, g, last)] })
      s.enqueue 8 5 0 (.partner (some g)
        { op := 0x53, flags := b2n last, tag := 256, p0 := seq, p1 := ia, data := blocksOf ia data }) 256
    else s
  let held := s.mirror.behind
  let s := s.modMirror (fun m => { m with behind := [] })
  let s := s.each (s.mirror.retain.filter (fun c => held.contains c.seq)) (fun s c => s.queueCopy c)
  s.resyncPump

/-- RACK (R140): a segment's bit is cleared when its last RCOPY is covered and no mark has fallen on it since its first
read. -/
def State.rcopyAcked (s : State) (seq : Nat) : State :=
  let hit (x : Nat × Nat × Bool) : Bool := x.1 == seq || below32 x.1 seq
  let gone := s.mirror.rcopies.filter hit
  let s := s.modMirror (fun m => { m with rcopies := m.rcopies.filter (fun x => !(hit x)) })
  let s := match gone.find? (fun x => x.2.2) with
    | some (_, g, _) =>
      if s.mirror.resyncSeg = some g ∧ s.mirror.resyncMarked = false then
        s.modMirror (fun m => { m with map := m.map.remove g, resyncSeg := none, resyncOff := 0 })
      else s
    | none => s
  s.resyncPump

/-! ### Pairing (R128, R129) -/

/-- The 128-byte body of PAIR_HELLO (Table 6.1). -/
def State.helloBody (s : State) : List Byte :=
  layout ([(8, s.get Reg.pairId), (1, s.side), (1, s.get Reg.leasePolicy),
    (1, (mirrorRows.filter (fun r => s.rowLen r != 0)).length), (1, s.get Reg.leaseState), (4, s.segments), (48, 0)] ++
    mirrorRows.map (fun r => (4, s.get Reg.rangeGeneration r % 2147483648 + (if s.ownsRow r then 2147483648 else 0))))

/-- A received body of PAIR_HELLO. -/
def helloOf (b : List Byte) : Hello :=
  ⟨field b 0 8, field b 8 1, field b 9 1, field b 10 1, field b 12 4, mirrorRows.map (fun r => field b (64 + 4 * r) 4)⟩

/-- The conditions of R128. -/
def State.mayPair (s : State) : Bool :=
  s.mirror.wanted && s.get Reg.pairId != 0 && s.govActive && s.anyPartnerUp &&
  (s.mirrorState == .connecting || s.mirrorState == .split || s.mirrorState == .peerAway || s.mirrorState == .mismatch ||
    s.sendsCopies)

/-- The rows that this side does not own. -/
def State.awayRows (s : State) : List Nat := mirrorRows.filter (fun r => s.rowLen r != 0 && !(s.ownsRow r))

/-- RMAP of every 512-segment block with a set bit of a row that this side does not own (R140). -/
def State.sendMaps (s : State) : State :=
  let bits := s.awayRows.foldl (fun a r =>
    SegSet.union a (s.mirror.map.within (s.rowBase r) (s.rowBase r + s.rowLen r))) []
  let blocks := (bits.flatMap (fun x => (List.range ((x.2 - 1) / 512 + 1 - x.1 / 512)).map (x.1 / 512 + ·))).eraseDups
  let s := s.modMirror (fun m => { m with peerMap := bits })
  s.each blocks (fun s k =>
    let byte (j : Nat) : Byte := BitVec.ofNat 8 ((List.range 8).foldl (fun a b =>
      if bits.mem (512 * k + 8 * j + b) then a + 2 ^ b else a) 0)
    s.sendPartner { op := 0x58, p1 := 512 * k, data := [(List.range 64).map byte] })

/-- The partner has an RMAP, and has ORed it into its map: the bits of its block clear here (R140). -/
def State.mapTaken (s : State) (first : Nat) : State :=
  (s.modMirror (fun m => { m with map := s.awayRows.foldl (fun a r =>
    a.removeRange (max first (s.rowBase r)) (min (first + 512) (s.rowBase r + s.rowLen r))) m.map })).resyncPump

/-- RMAPs among messages that the partner has acknowledged on the link. -/
def State.mapsTaken (s : State) (ms : List Msg) : State :=
  s.each (ms.filter (fun m => m.op == 0x58)) (fun s m => s.mapTaken m.p1)

/-- The generation and the owner side that the partner's hello claims for row r. -/
def Hello.claim (h : Hello) (side r : Nat) : Nat × Nat :=
  let g := h.gens.getD r 0
  (g % 2147483648, if 2147483648 ≤ g then 1 - side else side)

/-- The checks of R129 once PAIR_HELLO and every RANGE_DESC have come, and this side's own have gone. -/
def State.evalHello (s : State) : State :=
  match s.mirror.hello with
  | none => s
  | some h =>
    if !s.mirror.helloSent then s
    else if h.pairId ≠ s.get Reg.pairId ∨ h.side ≠ 1 - s.side then
      (s.modMirror (fun m => { m with helloSent := false, conflicts := [] })).setMirror .mismatch
    else if s.mirror.peerRows.length < h.ranges then s
    else
      let lim := min s.segments h.segments
      let agree (r : Nat) : Bool :=
        match Tbl.find s.mirror.peerRows r with
        | some (b, n) => n == s.rowLen r && (n == 0 || (b == s.rowBase r && decide (b + n ≤ lim)))
        | none => s.rowLen r == 0
      let rows := mirrorRows.filter (fun r => s.rowLen r != 0)
      let bad := rows.filter (fun r => (h.claim s.side r).1 == s.get Reg.rangeGeneration r &&
        (h.claim s.side r).2 != s.get Reg.rangeOwner r)
      let s := s.modMirror (fun m => { m with helloSent := false })
      if !(mirrorRows.all agree) then (s.modMirror (fun m => { m with conflicts := [] })).setMirror .mismatch
      else if !bad.isEmpty then (s.modMirror (fun m => { m with conflicts := bad })).setMirror .mismatch
      else
        let s := s.each rows (fun s r =>
          let c := h.claim s.side r
          let s := if s.get Reg.rangeGeneration r < c.1 then (s.set Reg.rangeGeneration r c.1).set Reg.rangeOwner r c.2 else s
          s.rowLater r (if s.ownsRow r then 0 else 2))
        let s := s.markAll
        let s := s.modMirror (fun m => { m with
          hello := none, peerRows := [], conflicts := [], txSeq := 0, rxDone := 4294967295, rxSeen := [], rx := [],
          rcopyTx := 0, rcopyRx := 4294967295, downAt := none, ownNext := [], peerMap := [], peerLast := [],
          rcopyStop := none })
        let s := s.sendMaps
        let s := s.setMirror (if s.mapsClear then .paired else .resync)
        s.resyncPump

/-- PAIR_HELLO and the RANGE_DESCs leave when R128 allows, and what has been received is checked. -/
def State.pairTry (s : State) : State :=
  if s.mayPair && !s.mirror.helloSent then
    let b := s.helloBody
    let s := s.sendPartner { op := 0x55, data := [b.take 64, b.drop 64] }
    let s := s.each (mirrorRows.filter (fun r => s.rowLen r != 0)) (fun s r =>
      s.sendPartner { op := 0x5A, p0 := s.rowLen r, p1 := r + 16 * s.rowBase r })
    (s.modMirror (fun m => { m with helloSent := true })).evalHello
  else s

/-- A PAIR_HELLO has come (R129): a new round of checks, answered with this side's own. -/
def State.gotHello (s : State) (h : Hello) : State :=
  let s := s.modMirror (fun m => { m with hello := some h, peerRows := [] })
  if s.mirror.helloSent then s.evalHello else s.pairTry

/-- A RANGE_DESC has come. -/
def State.gotDesc (s : State) (r base n : Nat) : State :=
  (s.modMirror (fun m => { m with peerRows := Tbl.put m.peerRows r (base, n) })).evalHello

/-! ### The witness lease (R144 to R148) -/

/-- A lease frame to the witness (Table 6.5); none while WITNESS_NODE is 0 (R147). -/
def State.sendLease (s : State) (msg policy mstate req reason term : Nat) : State :=
  if s.get Reg.witnessNode = 0 ∨ s.get Reg.pairId = 0 ∨ s.fieldSends = false then s
  else s.sendFrame 1 0xC (s.get Reg.witnessNode)
    (layout [(1, msg), (1, s.side), (1, policy), (1, mstate), (8, s.get Reg.pairId), (4, req), (1, 0), (1, reason),
      (2, 0), (4, term)])

/-- The next REQ_NUM of this side. -/
def State.nextReq (s : State) : Nat := (max s.mirror.leaseReq s.mirror.takeoverReq + 1) % 4294967296

/-- LEASE_REQUEST leaves. -/
def State.leaseRequest (s : State) : State :=
  let q := s.nextReq
  let s := s.sendLease 0x01 (s.get Reg.leasePolicy) s.mirrorState.code q 0 (s.get Reg.leaseTerm)
  s.modMirror (fun m => { m with leaseReq := q, leaseSentAt := some s.now, leaseAnswered := false })

/-- TAKEOVER_REQUEST leaves. -/
def State.takeoverRequest (s : State) : State :=
  let q := s.nextReq
  let s := s.sendLease 0x03 (s.get Reg.leasePolicy) s.mirrorState.code q 0 0
  s.modMirror (fun m => { m with takeoverReq := q, takeoverAt := some s.now })

/-- LEASE_RELEASE leaves. -/
def State.leaseRelease (s : State) (reason : Nat) : State := s.sendLease 0x05 0 0 0 reason 0

/-- In SPLIT the owned rows act as Table 6.6 states (R146). -/
def State.fenceRows (s : State) : State :=
  if s.mirrorState = .split then
    let st := s.get Reg.leaseState
    let fenced := st == 3 || (st != 1 && s.get Reg.leasePolicy == 0)
    s.each (mirrorRows.filter (fun r => s.ownsRow r && s.rowState r != 2)) (fun s r => s.rowLater r (b2n fenced))
  else s

/-- The validity ends (R144): LAPSED and 0x042, or none without a witness (R147). -/
def State.leaseEnds (s : State) : State :=
  let s := s.modMirror (fun m => { m with leaseUntil := none })
  if s.get Reg.leaseState = 1 then
    let s := if s.get Reg.witnessNode = 0 then s.set Reg.leaseState 0 0 else (s.set Reg.leaseState 0 2).raise 0 0x042 0
    s.fenceRows
  else s

/-- A LEASE_GRANT for this side's last request (R144). -/
def State.leaseGranted (s : State) (result term : Nat) : State :=
  let s := (s.withdraw 0 0x043).modMirror (fun m => { m with leaseAnswered := true, noGrantRaised := false })
  if result = 0 then
    let t := min (s.get Reg.leaseTerm) term
    let early := msCycles (s.get Reg.leaseGuard) + (if s.get Reg.timebaseStatus = 0 then 0 else msCycles t / 50)
    let s := s.modMirror (fun m => { m with
      leaseUntil := some (m.leaseSentAt.getD 0 + msCycles t - early), leaseT := t })
    let s := if s.get Reg.leaseState = 3 then s else (s.set Reg.leaseState 0 1).withdraw 0 0x042
    s.fenceRows
  else if result = 3 then (s.set Reg.leaseState 0 3).fenceRows
  else s

/-- Holdover begins while a lease is valid: its end comes T ÷ 50 earlier (R144). -/
def State.leaseHoldover (s : State) : State :=
  s.modMirror (fun m => { m with leaseUntil := m.leaseUntil.map (fun t => t - msCycles m.leaseT / 50) })

/-- AUTO_TAKEOVER: a request at the entry to SPLIT or PEER_AWAY (R148); none without a witness (R147). -/
def State.autoTakeover (s : State) : State :=
  if s.get Reg.autoTakeover = 1 ∧ s.get Reg.witnessNode ≠ 0 then s.takeoverRequest else s

/-- A TAKEOVER_GRANT with result 0: every row that the partner owns becomes OWNER here from the next clause (R148). -/
def State.takeRows (s : State) (rows : List Nat) : State :=
  s.modMirror (fun m => { m with ownNext := (m.ownNext ++ rows).eraseDups })

/-! ### Split, partner away, failover (R138, R141 to R143, R150, R151) -/

/-- SPLIT_DECLARED (R142). -/
def State.declareSplit (s : State) : State :=
  let n := s.mirror.retain.length
  let us := (s.now - s.mirror.downAt.getD s.now) / 250
  let s := s.setMirror .split
  let s := s.recordMgmt 0 0x31 0 0x041 (layout [(4, us), (4, n), (1, s.get Reg.leaseState), (1, s.get Reg.leasePolicy),
    (2, 0), (4, rowBits (fun r => s.rowLen r != 0 && s.rowState r == 0)), (8, 0)])
  let s := s.raise 0 0x041 0
  let s := s.modMirror (fun m => { m with takeoverAt := none })
  (s.fenceRows).autoTakeover

/-- PEER_AWAY begins, unless it stands (R148, R151). -/
def State.peerAway (s : State) : State :=
  if s.mirrorState = .peerAway then s
  else
    let s := (s.setMirror .peerAway).modMirror (fun m => { m with takeoverAt := none, helloSent := false, hello := none })
    s.autoTakeover

/-- Copies already sent go again on link l, in SEQ order and with FLAGS bit 0 (R138). -/
def State.resendCopies (s : State) (l : Nat) (sel : Copy → Bool) : State :=
  let cs := s.mirror.retain.filter (fun c => sel c && c.sentAt.isSome)
  let s := s.modMirror (fun m => { m with retain := m.retain.map (fun c =>
    if sel c && c.sentAt.isSome then { c with sentOn := l, sentAt := some s.now } else c) })
  (s.each cs (fun s _ => s.bump Reg.mirrorCopies)).linkSendAll (16 + l) (cs.map (fun c => c.msg true))

/-- Partner link l has gone down with the messages `lost` not acknowledged (R138, R141, R364). Answers the state, and
the copies and the control messages sent again. With both links down the states in which copies are sent become
INTERRUPTED (DEDUCED, log 91); in MISMATCH the partner's claims stay for ADOPT_PARTNER (R149). -/
def State.partnerDown (s : State) (l : Nat) (lost : List Msg) : State × Nat × Nat :=
  let other := lost.filter (fun m => m.op != 0x50)
  if s.partnerUp (1 - l) then
    let n := (s.mirror.retain.filter (fun c => c.sentOn == l && c.sentAt.isSome)).length
    let s := s.resendCopies (1 - l) (fun c => c.sentOn == l)
    let s := s.linkSendAll (16 + (1 - l)) other
    (s, n + (other.filter (fun m => m.op == 0x53)).length, (other.filter (fun m => m.op != 0x53)).length)
  else
    let s := s.modMirror (fun m => { m with resend := m.resend ++ other, helloSent := false })
    let s := if s.mirrorState = .mismatch then s else s.modMirror (fun m => { m with hello := none, peerRows := [] })
    (if s.sendsCopies then s.setMirror .interrupted else s, 0, 0)

/-- Partner link l has come up (R141, R143, R151): from INTERRUPTED the state returns to the one it left, and from PAIRED
goes on to RESYNC when writes were marked meanwhile (Table 6.2, log 48). -/
def State.partnerReturned (s : State) (l : Nat) : State :=
  if s.mirrorState = .interrupted then
    let s := s.resendCopies l (fun _ => true)
    let again := s.mirror.resend
    let s := s.modMirror (fun m => { m with resend := [], downAt := none })
    let s := s.linkSendAll (16 + l) again
    let s := s.setMirror s.mirror.before
    let s := if s.mirrorState = .paired ∧ s.mapsClear = false then s.mirrorTo .resync else s
    s.resyncPump
  else if s.mirrorState = .connecting ∨ s.mirrorState = .split ∨ s.mirrorState = .peerAway then s.pairTry
  else s

/-! ### Range state at a boundary, and R119 -/

/-- A context's ring lies in row r. -/
def State.ringInRow (s : State) (n r : Nat) : Bool :=
  let a := segmentOf (s.get Reg.ctxRingBase n)
  s.rowLen r != 0 && decide (s.rowBase r ≤ a) && decide (a < s.rowBase r + s.rowLen r)

/-- Row r has left OWNER: each two-sided context with its ring there fails with MIRROR_LOST (R119). -/
def State.rangeLeft (s : State) (r : Nat) : State :=
  s.each ((s.rowsOf Reg.ctxState).filter (fun n => s.get Reg.ctxPolicy n == 1 && s.ringInRow n r &&
    (s.ctxState n == .opened || s.ctxState n == .closing || s.ctxState n == .error)))
    (fun s n => s.ctxFails n 9 (s.get Reg.ctxTail n))

/-- RANGE_STATE of row r takes a value. -/
def State.setRow (s : State) (r v : Nat) : State :=
  let old := s.rowState r
  let s := s.set Reg.rangeState r v
  if old = 0 ∧ v ≠ 0 then s.rangeLeft r else s

/-- What the rows become at a clause boundary: takeovers, and the states asked for in the clause before (R204). -/
def State.applyRows (s : State) : State :=
  let take := s.mirror.ownNext
  let next := s.mirror.rowNext
  let s := s.modMirror (fun m => { m with ownNext := [], rowNext := [] })
  let s := s.each next (fun s x => s.setRow x.1 x.2)
  s.each take (fun s r =>
    ((s.set Reg.rangeOwner r s.side).set Reg.rangeGeneration r ((s.get Reg.rangeGeneration r + 1) % 4294967296)).setRow r 0)

/-- A written WITNESS_NODE takes effect at a boundary (R147). -/
def State.applyWitness (s : State) : State :=
  match s.mirror.witnessNext with
  | none => s
  | some n =>
    let before := s.get Reg.witnessNode
    let s := (s.set Reg.witnessNode 0 n).modMirror (fun m => { m with witnessNext := none })
    if n = 0 then
      if s.get Reg.leaseState = 1 ∧ s.mirror.leaseUntil.isSome then s else (s.set Reg.leaseState 0 0).fenceRows
    else if before = 0 then ((s.set Reg.leaseState 0 2).modMirror (fun m => { m with leaseSentAt := none })).fenceRows
    else s

/-! ### The planned handover (R133) -/

/-- Step 3 of R133: with every copy of the range acknowledged and no segment of it marked, MSTATE leaves. -/
def State.handoverPump (s : State) : State :=
  match s.mirror.handover with
  | none => s
  | some h =>
    let drained := s.mirror.retain.all (fun c => s.rowOf c.seg != some h.row) && s.rowMarked h.row == 0
    if h.sentAt.isNone && drained && s.rowState h.row == 2 then
      let g := (s.get Reg.rangeGeneration h.row + 1) % 4294967296
      let s := s.sendPartner { op := 0x56, p1 := h.row + 16 * g + (1 - s.side) * 9223372036854775808 }
      s.modMirror (fun m => { m with handover := some { h with sentAt := some s.now } })
    else s

/-- A handover that the cut finds is abandoned, and the row is OWNER again (Table 6.7). -/
def State.handoverBack (s : State) : State :=
  match s.mirror.handover with
  | none => s
  | some h => (s.set Reg.rangeState h.row 0).modMirror (fun m => { m with
      handover := none, rowNext := Tbl.erase m.rowNext h.row })

/-- MCOPYs, RCOPYs and MACKs that wait leave no more (R150): those on port 8, and those that wait on a partner link. -/
def State.dropCopyMessages (s : State) : State :=
  let gone (m : Msg) : Bool := m.op == 0x50 || m.op == 0x51 || m.op == 0x53
  let s := s.removeEntries 8 (fun e => match e.work with | .partner _ m => gone m | _ => false)
  s.each [16, 17] (fun s u => s.modLink u (fun l => { l with
    queue := (l.queue.map (fun g => groupOf g.vc (g.msgs.filter (fun m => !(gone m))))).filter (fun g => !(g.msgs.isEmpty)) }))

/-! ### Seals (R155) -/

/-- The map at one bit per four segments. -/
def coarse (m : SegSet) : SegSet := m.foldl (fun a x => a.addRange (x.1 / 4) ((x.2 - 1) / 4 + 1)) []

/-- The partner state that a seal writes. -/
def State.partnerRec (s : State) : PartnerRec :=
  { pairId := s.get Reg.pairId, side := s.side, policy := s.get Reg.leasePolicy, mirror := s.get Reg.mirrorState,
    lease := s.get Reg.leaseState,
    rows := mirrorRows.map (fun r => ⟨r, s.rowBase r, s.rowLen r, s.get Reg.rangeGeneration r, s.get Reg.rangeOwner r,
      s.rowState r⟩),
    map := coarse s.mirror.map }

end Sys2Proof.Machine
end

