-- ==== Sys2Proof/Machine/Windows.lean ====
section
/-!
DEFINITION. Windows and image translation (spec/08_windows.md): extents, the split of a request into parts, the rights
and the append guard, and the checks of an extent commit and of CTX_OPEN.
-/
namespace Sys2Proof.Machine

/-! ### Extents (R185, R186) -/

/-- An extent record (Tables 8.1 and 8.2). -/
structure Ext where
  win : Nat
  ia : Nat
  pages : Nat
  valid : Bool
  kind : Nat
  write : Bool
  read : Bool
  ctx : Nat
  tag : Nat
deriving DecidableEq, Repr

/-- The bytes that an extent covers. -/
def Ext.bytes (e : Ext) : Nat := e.pages * 4096

/-- The content of extent row r. -/
def State.ext (s : State) (r : Nat) : Ext :=
  { win := s.get Reg.extWinBase r, ia := s.get Reg.extIaBase r, pages := s.get Reg.extPages r,
    valid := s.get Reg.extValid r == 1, kind := s.get Reg.extKind r, write := bit (s.get Reg.extRights r) 1,
    read := bit (s.get Reg.extRights r) 0, ctx := s.get Reg.extContext r, tag := s.get Reg.extTag r }

/-- The 32 bytes of extent row r (Table 8.1). -/
def State.extBytes (s : State) (r : Nat) : List Byte :=
  let e := s.ext r
  let m := s.get Reg.extMirror r
  layout [(8, e.win), (8, e.ia),
    (8, e.pages * 4294967296 + b2n e.valid * 2147483648 + e.kind * 268435456 + b2n e.write * 134217728 +
      b2n e.read * 67108864 + b2n (bit m 7) * 33554432 + m % 16 * 2097152 + e.ctx), (4, e.tag), (4, 0)]

/-- The record that 32 bytes spell; RSVD bits, CONTEXT of a plain extent among them, and the mirror field are ignored
(R11, Table 8.2). -/
def extOf (b : List Byte) : Ext :=
  let c := field b 16 8
  { win := field b 0 8 % 4398046511104 / 4096 * 4096, ia := field b 8 8 % 4398046511104 / 4096 * 4096,
    pages := c / 4294967296, valid := bit c 31, kind := bits c 30 28, write := bit c 27, read := bit c 26,
    ctx := if bits c 30 28 = 0 then 0 else bits c 17 0, tag := field b 24 4 }

/-- The bytes that a record is written with. -/
def Ext.record (e : Ext) : List Byte :=
  layout [(8, e.win), (8, e.ia),
    (8, e.pages * 4294967296 + b2n e.valid * 2147483648 + e.kind * 268435456 + b2n e.write * 134217728 +
      b2n e.read * 67108864 + e.ctx), (4, e.tag), (4, 0)]

/-- The extent rows of instance i. -/
def extRows (i : Nat) : List Nat := (List.range 64).map (64 * i + ·)

/-- The valid extent rows of instance i. -/
def State.validExts (s : State) (i : Nat) : List Nat := (extRows i).filter (fun r => s.get Reg.extValid r == 1)

/-- The image bytes a..a+n−1 lie wholly in mirror range r. -/
def State.insideRow (s : State) (r a n : Nat) : Bool :=
  s.rowLen r != 0 && decide (s.rowBase r * 2097152 ≤ a) && decide (a + n ≤ (s.rowBase r + s.rowLen r) * 2097152)

/-- The image bytes a..a+n−1 meet mirror range r. -/
def State.meetsRow (s : State) (r a n : Nat) : Bool :=
  s.rowLen r != 0 && decide (a < (s.rowBase r + s.rowLen r) * 2097152) && decide (s.rowBase r * 2097152 < a + n)

/-- An image range lies partly in a mirror range (R192). -/
def State.partlyMirrored (s : State) (a n : Nat) : Bool := mirrorRows.any (fun r => s.meetsRow r a n && !(s.insideRow r a n))

/-- MIRRORED and MIRROR_ROW of an image range, as extMirror shows them (R192). -/
def State.mirrorField (s : State) (a n : Nat) : Nat :=
  match mirrorRows.find? (fun r => s.insideRow r a n) with
  | some r => 128 + r
  | none => 0

/-- MIRRORED and MIRROR_ROW of every valid extent are recomputed (R192). -/
def State.renewMirrored (s : State) : State :=
  s.each ((s.rowsOf Reg.extValid).filter (fun r => s.get Reg.extValid r == 1))
    (fun s r => s.set Reg.extMirror r (s.mirrorField (s.ext r).ia (s.ext r).bytes))

/-- EXTENTS_VALID (Table 8.10). -/
def State.countExtents (s : State) : State :=
  s.set Reg.extentsValid 0 ((s.rowsOf Reg.extValid).filter (fun r => s.get Reg.extValid r == 1)).length

/-- Extent row r takes a record (R196). -/
def State.applyExtent (s : State) (r : Nat) (e : Ext) : State :=
  let s := ((s.set Reg.extWinBase r e.win).set Reg.extIaBase r e.ia).set Reg.extPages r e.pages
  let s := (s.set Reg.extRights r (b2n e.read + 2 * b2n e.write)).set Reg.extKind r e.kind
  let s := ((s.set Reg.extContext r e.ctx).set Reg.extTag r e.tag).set Reg.extValid r (b2n e.valid)
  (s.set Reg.extMirror r (if e.valid then s.mirrorField e.ia e.bytes else 0)).countExtents

/-- The records sealed since the last boundary take effect (R196). -/
def State.applyExtents (s : State) : State :=
  let l := s.keep.extNext
  let s := { s with keep := { s.keep with extNext := [] } }
  s.each l (fun s x => s.applyExtent x.1 (extOf x.2))

/-! ### Parts of a request (R187 to R189) -/

/-- A part: its window offset, its length, its extent row if one matches, and its image address. -/
structure WPart where
  w : Nat
  len : Nat
  row : Option Nat
  ia : Nat
deriving DecidableEq, Repr

/-- The valid extent of instance i that matches window offset w. -/
def State.extentAt (s : State) (i w : Nat) : Option Nat :=
  (s.validExts i).find? (fun r => decide ((s.ext r).win ≤ w) && decide (w < (s.ext r).win + (s.ext r).bytes))

/-- The part that begins at window offset w of at most n bytes: within one extent, and within one 256 B-aligned span of
image address, hence within one interleave unit (log 14). -/
def State.partAt (s : State) (i w n : Nat) : WPart :=
  match s.extentAt i w with
  | some r =>
    let e := s.ext r
    let ia := e.ia + (w - e.win)
    ⟨w, min n (min (e.win + e.bytes - w) (256 - ia % 256)), some r, ia⟩
  | none => ⟨w, min n (256 - w % 256), none, 0⟩

/-- The parts of a request, from its lowest window offset on; `fuel` bounds their number. -/
def State.partsGo (s : State) (i : Nat) : Nat → Nat → Nat → List WPart
  | 0, _, _ => []
  | fuel + 1, w, n =>
    if n = 0 then []
    else
      let p := s.partAt i w n
      p :: s.partsGo i fuel (w + p.len) (n - p.len)

/-- The parts of a request of instance i. -/
def State.partsOf (s : State) (i w n : Nat) : List WPart := s.partsGo i n w n

/-! ### Rights (R191 to R194) -/

/-- An append aperture is active (R193). -/
def State.apertureActive (s : State) (i : Nat) (e : Ext) : Bool :=
  let c := s.ctxState e.ctx
  (c == .opened || c == .closing || c == .error) && s.ctxOwner e.ctx == some i &&
  s.get Reg.ctxRingBase e.ctx == e.ia && s.ringBytes e.ctx == e.bytes

/-- The first log offset at or above `tail` that lies at ring position p (R194). -/
def guardOffset (tail p size : Nat) : Nat := tail + (p + size - tail % size) % size

/-- The guard passes n bytes at ring position p (R194). -/
def State.guardPasses (s : State) (c p n : Nat) : Bool :=
  let size := s.ringBytes c
  (List.range n).all (fun k => decide (guardOffset (s.get Reg.ctxTail c) (p + k) size < s.get Reg.ctxHead c + size))

/-- A failing part: row 9 or 10 of Table 7.8, with CAUSE and DETAIL of Table 8.3. -/
structure PartFault where
  row : Nat
  cause : Nat
  detail : Nat
deriving DecidableEq, Repr

/-- The tests of one part in the order of R191. -/
def State.partFault (s : State) (i : Nat) (write : Bool) (p : WPart) : Option PartFault :=
  match p.row with
  | none => some ⟨9, 2, 1⟩
  | some r =>
    let e := s.ext r
    if s.segments * 2097152 < p.ia + p.len then some ⟨9, 2, 2⟩
    else if !write then (if e.read then none else some ⟨10, 3, 1⟩)
    else if !e.write then some ⟨10, 3, 2⟩
    else if e.kind = 1 ∧ s.apertureActive i e = false then some ⟨10, 3, 4⟩
    else if e.kind = 1 ∧ s.guardPasses e.ctx (p.ia - s.get Reg.ctxRingBase e.ctx) p.len = false then some ⟨10, 3, 3⟩
    else
      let m := s.get Reg.extMirror r
      if bit m 7 then
        (match s.rowState (m % 16) with | 0 => none | 1 => some ⟨10, 4, 2⟩ | _ => some ⟨10, 4, 1⟩)
      else none

/-- The part that decides a refusal: of those that fail under the highest row of Table 7.8, the one at the lowest window
offset (R174, R198). -/
def State.decidingFault (s : State) (i : Nat) (write : Bool) (ps : List WPart) : Option (WPart × PartFault) :=
  let l := ps.filterMap (fun p => (s.partFault i write p).map (fun f => (p, f)))
  match l.find? (fun x => x.2.row == 9) with
  | some x => some x
  | none => l.head?

/-- A part goes through an append aperture: it joins service 0 instead of 1 (Table 10.1). -/
def State.partService (s : State) (p : WPart) : Nat :=
  match p.row with
  | some r => if (s.ext r).kind = 1 then 0 else 1
  | none => 1

/-- The size of the image window of instance i in effect (R166, R167). -/
def State.windowSize (s : State) (i : Nat) : Nat := 2 ^ (20 + (if i = 0 then s.host.pfWin else s.host.vfWin))

/-! ### Commit and withdrawal (R195, R197) -/

/-- An extent covers the whole ring of context n. -/
def State.coversRing (s : State) (e : Ext) (n : Nat) : Bool :=
  e.valid && decide (e.ia ≤ s.get Reg.ctxRingBase n) &&
    decide (s.get Reg.ctxRingBase n + s.ringBytes n ≤ e.ia + e.bytes)

/-- One of the extents covers the whole ring of context n with WRITE. -/
def State.ringWritable (s : State) (exts : List Ext) (n : Nat) : Bool := exts.any (fun e => e.write && s.coversRing e n)

/-- One of the extents covers the whole ring of context n and is mirrored. -/
def State.ringMirrored (s : State) (exts : List Ext) (n : Nat) : Bool :=
  exts.any (fun e => s.coversRing e n && bit (s.mirrorField e.ia e.bytes) 7)

/-- Row r with record e would take from the ring of a context of instance i that is not CLOSED its cover with WRITE, or
the mirrored cover of a two-sided one (R197, each on its own). -/
def State.uncovers (s : State) (i r : Nat) (e : Ext) : Bool :=
  let now := (extRows i).map (fun q => s.ext q)
  let after := (extRows i).map (fun q => if q = r then e else s.ext q)
  (s.rowsOf Reg.ctxState).any (fun n => s.ctxState n != .closed && s.ctxOwner n == some i &&
    ((s.ringWritable now n && !(s.ringWritable after n)) ||
     (s.get Reg.ctxPolicy n == 1 && s.ringMirrored now n && !(s.ringMirrored after n))))

/-- The checks of R195 and R197 on a record of row r, in their order. -/
def State.extentCheck (s : State) (r : Nat) (e : Ext) : Abort :=
  let i := r / 64
  if 2 ≤ e.kind then .range
  else if !e.valid then (if s.uncovers i r e then .state else .ok)
  else if e.pages = 0 ∨ 4398046511104 < e.win + e.bytes then .range
  else if s.segments * 2097152 < e.ia + e.bytes then .range
  else if (s.validExts i).any (fun q => q != r && decide (e.win < (s.ext q).win + (s.ext q).bytes) &&
      decide ((s.ext q).win < e.win + e.bytes)) then .range
  else if s.partlyMirrored e.ia e.bytes then .range
  else if e.kind = 1 ∧ (2 ^ Nat.log2 e.bytes ≠ e.bytes ∨ 4294967296 < e.bytes ∨ e.ia % e.bytes ≠ 0) then .range
  else if e.kind = 1 ∧ s.ctxOwner e.ctx ≠ some i then .rights
  else if s.uncovers i r e then .state
  else .ok

/-! ### Contexts (R102, R119, Table 5.7) -/

/-- The checks of CTX_OPEN (R102, R119, Table 5.7): the ring; its owner, an extent of the owner with WRITE, the owner's
queue, and, two-sided, a mirrored extent whose row is OWNER. -/
def State.ctxOpenCheck (s : State) (n : Nat) : Abort :=
  if !(s.ringFits n) then .range
  else match s.ctxOwner n with
  | none => .rights
  | some i =>
    let exts := (s.validExts i).filter (fun r => s.coversRing (s.ext r) n)
    if !(exts.any (fun r => (s.ext r).write)) then .rights
    else if s.queueOwner (s.get Reg.ctxQueue n) ≠ some i then .rights
    else if s.get Reg.ctxPolicy n = 1 ∧
        exts.any (fun r => bit (s.get Reg.extMirror r) 7 && s.rowState (s.get Reg.extMirror r % 16) == 0) = false then .rights
    else .ok

/-- OPEN: head and tail are DURABLE as written, and the state is OPEN. -/
def State.ctxOpenNow (s : State) (n : Nat) : State :=
  let d := s.get Reg.ctxDurable n
  let s := (s.set Reg.ctxHead n d).set Reg.ctxTail n d
  (s.putCtxRun n { CtxRun.reset with errs := (s.ctxRun n).errs, errClause := (s.ctxRun n).errClause }).setCtx n .opened

end Sys2Proof.Machine
end

