-- ==== Sys2Proof/Machine/Holds.lean ====
section
/-!
DEFINITION. Touch-first restore (spec/04_restore.md R85 to R92): the residency map, held parts, touch PROMOTEs and the
release of held parts; and what an entry to Fault does.
-/
namespace Sys2Proof.Machine

/-- The engine of carrier port c. -/
def State.car (s : State) (c : Nat) : Carrier := Tbl.getD s.carriers c Carrier.reset

/-- The engine of carrier port c changed by `f`. -/
def State.modCar (s : State) (c : Nat) (f : Carrier → Carrier) : State :=
  { s with carriers := Tbl.put s.carriers c (f (s.car c)) }

/-- The restart's own state changed by `f`. -/
def State.modRestore (s : State) (f : Restore → Restore) : State := { s with restore := f s.restore }

/-- A carrier message that breaks the protocol (R330). -/
def State.carrierProtocol (s : State) (c : Nat) : State := (s.bump Reg.protocolErrors c).raise 0 0x080 c

/-! ### Residency (R85) -/

/-- The slice of segment g on carrier c is resident: always, but in Restoring. -/
def State.sliceResident (s : State) (c g : Nat) : Bool := s.image != .restoring || (s.car c).resident.mem g

/-- The segments that both sets hold. -/
def SegSet.inter (a b : SegSet) : SegSet := b.foldl (fun r x => r ++ a.within x.1 x.2) []

/-- The segments resident on every active carrier. -/
def State.residentAll (s : State) : SegSet :=
  s.activeCarriers.foldl (fun a c => SegSet.inter a (s.car c).resident) [(0, s.segments)]

/-! ### Touches (R88) -/

/-- The slice of segment g is under restore by the sweep of carrier c. -/
def State.underSweep (s : State) (c g : Nat) : Bool := (s.car c).front.getD 0 == g

/-- A touch PROMOTE goes to carrier c on the link of the segment, with the restart epoch (Table 13.3). -/
def State.sendTouch (s : State) (c g : Nat) : State :=
  let s := s.modCar c (fun k => { k with touches := k.touches ++ [(g, s.now)] })
  let s := s.set Reg.restoreTouchPending c (s.car c).touches.length
  s.sendCarrier c false (g % 2) { op := 0x10, flags := 1, p0 := (s.restore.epoch.getD 0 + 1) % 4294967296, p1 := g }

/-- Waiting touches of carrier c are sent as places free. -/
def State.sendWaitingTouches (s : State) (c : Nat) : State :=
  s.each (Tbl.getD s.restore.touchWait c []) (fun s g =>
    if 64 ≤ (s.car c).touches.length then s
    else
      let rest := (Tbl.getD s.restore.touchWait c []).filter (· != g)
      let s := s.modRestore (fun r => { r with touchWait := Tbl.put r.touchWait c rest })
      if s.underSweep c g then s else s.sendTouch c g)

/-- TOUCH_PROMOTE: the first hold on a segment; every active carrier is told but one whose slice is under restore by the
sweep (R88). -/
def State.touchSegment (s : State) (g : Nat) : State :=
  if s.restore.touched.mem g then s
  else
    let s := (s.modRestore (fun r => { r with touched := r.touched.add g })).bump Reg.restoreTouches
    s.each s.activeCarriers (fun s c =>
      if s.underSweep c g then s
      else if 64 ≤ (s.car c).touches.length then
        s.modRestore (fun r => { r with touchWait := Tbl.put r.touchWait c (Tbl.getD r.touchWait c [] ++ [g]) })
      else s.sendTouch c g)

/-! ### Holds (R86 to R89) -/

/-- Payload of the held write parts, and the number of held read parts. -/
def State.heldWriteBytes (s : State) : Nat :=
  s.restore.held.foldl (fun a h => if h.work.imageRange.any (·.1) then a + h.payload else a) 0
def State.heldReadParts (s : State) : Nat := (s.restore.held.filter (fun h => !(h.work.imageRange.any (·.1)))).length

/-- The held-write store (R24). -/
def heldStore : Nat := 262144

/-- RESTORE_HELD_BYTES follows what the held-write store holds; in Fault it stays at the bytes discarded (Table 4.5). -/
def State.countHeld (s : State) : State :=
  if s.image = .fault then s else s.set Reg.restoreHeldBytes 0 (min s.heldWriteBytes heldStore)

/-- The segments of a write are dirty (R25, R48). The first hold on a segment touches it, and its touch PROMOTE goes ahead
of its DIRTY_SET (R88, the worked example of spec/04_restore.md; DEDUCED, log 79). -/
def State.dirtySegments (s : State) (ias : List Nat) : State :=
  let held := ias.filter (fun ia => !(s.sliceResident (carrierOf s.carrierCount ia) (segmentOf ia)))
  let s := s.each held (fun s ia => s.touchSegment (segmentOf ia))
  s.each (ias.map segmentOf).eraseDups (fun s g => s.dirtySegment g)

/-- An image access goes to its carrier's port, or is held while its slice is not resident (R86). A part behind a held
part of the same slice is held behind it by the same test: the slice is not resident. -/
def State.imageAccess (s : State) (svc i : Nat) (write : Bool) (ia len : Nat) (data : List (Option Byte)) (poison : Bool)
    (own : ReqOwner) : State :=
  let c := carrierOf s.carrierCount ia
  let g := segmentOf ia
  if s.sliceResident c g then s.enqueueImage svc i write ia len data poison own
  else
    let h : HeldPart := ⟨s.restore.heldReads, s.now, svc, i, g, c, .image write ia len data poison own, len⟩
    let s := s.modRestore (fun r => { r with held := r.held ++ [h], heldReads := r.heldReads + 1 })
    (s.countHeld).touchSegment g

/-- A held part is released to its port: a read as service 6, a write as service 1 (Table 10.1). A
Semicolon whose CKPT_BEGIN to this carrier still waits lets it wait for this write too. -/
def State.releasePart (s : State) (h : HeldPart) : State :=
  let isWrite := h.work.imageRange.any (·.1)
  let svc := if isWrite then 1 else 6
  let s := s.enqueue h.car svc h.i h.work h.payload
  let t := Tbl.getD s.persist.cars h.car SemiCar.reset
  if isWrite ∧ s.persist.running = true ∧ t.begun = false ∧ h.cyc < 128 * s.persist.startClause then
    { s with persist := { s.persist with cars := Tbl.put s.persist.cars h.car { t with mark := s.sched.nextId } } }
  else s

/-- Slices of carrier c have become resident: touches end, held parts of those slices are released in the order of their
arrival (R85, R88, R89). -/
def State.becomeResident (s : State) (c : Nat) (segs : SegSet) : State :=
  let s := s.modCar c (fun k => { k with
    resident := SegSet.union k.resident segs, touches := k.touches.filter (fun t => !(segs.mem t.1)) })
  let s := s.set Reg.restoreSlices c (s.car c).resident.card
  let s := s.set Reg.restoreTouchPending c (s.car c).touches.length
  let free := s.restore.held.filter (fun h => h.car == c && segs.mem h.seg)
  let s := s.modRestore (fun r => { r with held := r.held.filter (fun h => !(h.car == c && segs.mem h.seg)) })
  let s := s.countHeld
  let s := s.each free (fun s h => s.releasePart h)
  (s.sendWaitingTouches c).set Reg.restoreResident 0 s.residentAll.card

/-! ### Fault (Tables 1.4, 4.4, 4.5) -/

/-- Milliseconds from power good to now. -/
def State.msSinceGood (s : State) : Nat := s.now / 250000

/-- `n` bytes of a report from offset `o` replaced. -/
def patch (l : List Byte) (o n v : Nat) : List Byte := l.take o ++ le n v ++ l.drop (o + n)

/-- A field of RESTART_REPORT set (Table 4.4). -/
def State.report (s : State) (o n v : Nat) : State :=
  s.setBlob Reg.restartReport 0 (patch (slice (s.blob Reg.restartReport) 0 128) o n v)

/-- The image goes to Fault with a cause: the windows close, a running Semicolon ends, and the restart report is
completed when a restart ends so (R82, R96). -/
def State.faultImage (s : State) (cause : Nat) : State :=
  let restart := s.image == .restoring
  let s := s.set Reg.faultCause 0 cause
  let s := s.setImage .fault
  let s := (s.set Reg.windowOpen 0 0).set Reg.semicolonState 0 0
  let s := { s with persist := { s.persist with running := false, trigger := false, sealDue := false, beginDue := none } }
  if restart then
    let s := s.report 80 2 cause
    s.each s.activeCarriers (fun s c => s.report (56 + c) 1 (s.get Reg.restartCarrierStatus c))
  else s

end Sys2Proof.Machine
end

