-- ==== Sys2Proof/Machine/Persist.lean ====
section
/-!
DEFINITION. Semicolons, seals, the cut and the Full Stop (spec/03_persistence.md R58 to R74, spec/17_security.md R441).
-/
namespace Sys2Proof.Machine

/-- The progress of carrier c in the running Semicolon. -/
def State.semi (s : State) (c : Nat) : SemiCar := Tbl.getD s.persist.cars c SemiCar.reset

/-- The progress of carrier c replaced. -/
def State.putSemi (s : State) (c : Nat) (t : SemiCar) : State :=
  s.modPersist (fun p => { p with cars := Tbl.put p.cars c t })

/-- The Keep store changed by `f`. -/
def State.modKeep (s : State) (f : Keep → Keep) : State := { s with keep := f s.keep }

/-- Some link of carrier c is up (R357). -/
def State.carrierReachable (s : State) (c : Nat) : Bool := s.linkIsUp (2 * c) || s.linkIsUp (2 * c + 1)

/-! ### Seals (R68, R69, R72, R73, R441) -/

/-- Bank b of the Keep store. -/
def Keep.bank (k : Keep) (b : Nat) : Bank := if b = 0 then k.bank0 else k.bank1

/-- Bank b replaced. -/
def Keep.putBank (k : Keep) (b : Nat) (x : Bank) : Keep := if b = 0 then { k with bank0 := x } else { k with bank1 := x }

/-- The seal of a bank is complete (R69): its record verifies and its SEAL_SEQ equals the intent record's. -/
def Bank.complete (b : Bank) : Option SealRec :=
  match b.sealRec, b.intent with
  | some r, some i => if r.seq = i.seq ∧ r.kind = i.kind then some r else none
  | _, _ => none

/-- The bank that holds the latest complete seal. -/
def Keep.latest (k : Keep) : Option Nat :=
  match k.bank0.complete, k.bank1.complete with
  | some a, some b => some (if a.seq < b.seq then 1 else 0)
  | some _, none => some 0
  | none, some _ => some 1
  | none, none => none

/-- The bank that the next seal writes (R68): the one that does not hold the latest complete seal. -/
def Keep.target (k : Keep) : Nat := match k.latest with | some b => 1 - b | none => 0

/-- A SEAL_SEQ that no seal has carried. -/
def State.nextSeal (s : State) : Nat :=
  let q (b : Bank) : Nat := match b.intent with | some i => i.seq | none => 0
  max (s.get Reg.sealSequence) (max (q s.keep.bank0) (q s.keep.bank1)) + 1

/-- KIND of a seal (Table 3.7). -/
def SealFor.kind : SealFor → Nat
  | .commit _ => 1 | .semicolon => 2 | .extent _ _ _ => 3 | .fullStop => 4

/-- The largest D(c). -/
def State.dirtyMax (s : State) : Nat := s.activeCarriers.foldl (fun a c => max a (s.dirtyCount c)) 0

/-- The record of context n in the context table. -/
def State.ctxRec (s : State) (n : Nat) : CtxRec :=
  { n := n, durable := s.get Reg.ctxDurable n, pending := s.get Reg.ctxTail n - s.get Reg.ctxDurable n,
    headLag := s.get Reg.ctxDurable n - s.get Reg.ctxHead n,
    ringBase := s.get Reg.ctxRingBase n, ringSize := s.get Reg.ctxRingSize n, state := s.ctxState n,
    policy := s.get Reg.ctxPolicy n, notify := s.get Reg.ctxNotify n, error := s.get Reg.ctxError n,
    coalCount := s.get Reg.ctxCoalCount n, coalTime := s.get Reg.ctxCoalTime n, queue := s.get Reg.ctxQueue n,
    tag := s.get Reg.ctxUserTag n }

/-- Contexts with a value of their own in some subindex that the table holds. -/
def State.ctxRows (s : State) : List Nat :=
  ((s.rowsOf Reg.ctxDurable) ++ (s.rowsOf Reg.ctxRingBase) ++ (s.rowsOf Reg.ctxRingSize) ++ (s.rowsOf Reg.ctxState) ++
    (s.rowsOf Reg.ctxPolicy) ++ (s.rowsOf Reg.ctxNotify) ++ (s.rowsOf Reg.ctxCoalCount) ++ (s.rowsOf Reg.ctxCoalTime) ++
    (s.rowsOf Reg.ctxQueue) ++ (s.rowsOf Reg.ctxUserTag)).eraseDups.mergeSort (· ≤ ·)

/-- Extent rows with a value of their own. -/
def State.extRowsHeld (s : State) : List Nat :=
  ((s.rowsOf Reg.extWinBase) ++ (s.rowsOf Reg.extIaBase) ++ (s.rowsOf Reg.extPages) ++ (s.rowsOf Reg.extRights) ++
    (s.rowsOf Reg.extKind) ++ (s.rowsOf Reg.extContext) ++ (s.rowsOf Reg.extTag) ++
    (s.rowsOf Reg.extValid)).eraseDups.mergeSort (· ≤ ·)

/-- The bytes that one step of a descriptor's progress stands for: an element of GATHER and SCATTER, else one byte. -/
def Desc.unit (d : Desc) : Nat :=
  if bits d.control 63 60 = 2 ∨ bits d.control 63 60 = 3 then 8 * 2 ^ bits d.control 51 48 else 1

/-- Destination bytes or elements done, as a prefix: up to the first burst that is not complete, with what it has had
accepted where its writes leave in order. -/
def Chan.progress (c : Chan) : Nat :=
  match c.bursts.head?, c.desc with
  | some b, some d => b.off + (if bits d.control 63 60 = 3 then 0 else b.accepted / d.unit)
  | _, _ => c.issued

/-- The DMA channel record of a Full Stop (Table 12.12), by channel: FLAGS bit 0 a descriptor in progress, bit 1 HALTED,
bit 2 its destination in the image. -/
def State.dmaRecords (s : State) : Tbl DmaRec :=
  s.dma.chans.filterMap (fun x =>
    let k := x.1
    let i := (s.chanOwner k).getD 0
    let d := x.2.desc.getD ⟨0, 0, 0, 0, 0, 0⟩
    let halted := s.chanState k == .halted
    let flags := b2n (x.2.desc.isSome || x.2.fetching.isSome || halted) + 2 * b2n halted +
      4 * b2n (bit d.control 54 && bits d.control 63 60 != 5)
    if flags = 0 then none
    else some (k, ⟨flags, i, k - s.get Reg.effDmaFirst i, bits d.control 63 60, s.get Reg.chCons k, d.tag, x.2.progress,
      s.get Reg.chRingActive k⟩))

/-- The content of a bank as it stands now (Table 3.6); `ext` is the extent row that a METADATA seal carries. -/
def State.bankContent (s : State) (ext : Option (Nat × List Byte)) (dma : Bool) : BankContent :=
  let rows := s.extRowsHeld.map (fun r => (r, s.extBytes r))
  let rows := s.keep.extNext.foldl (fun t x => Tbl.put t x.1 x.2) rows
  { ranges := (s.holders Reg.effCtxCount).map (fun i => (i, s.get Reg.effCtxFirst i, s.get Reg.effCtxCount i)),
    contexts := s.ctxRows.map s.ctxRec,
    extents := match ext with | some (r, b) => Tbl.put rows r b | none => rows,
    planeA := if s.persist.openB then s.persist.closing else s.persist.dirty,
    planeB := if s.persist.openB then s.persist.dirty else s.persist.closing,
    partner := s.partnerRec, dma := if dma then s.dmaRecords else [] }

/-- The 256 signed bytes of a seal record (Table 17.8) over a bank of content `b`. -/
def State.sealHeader (s : State) (j : SealJob) (b : BankContent) (saveAck : Nat) : List Byte :=
  let flags := b2n (s.get Reg.debugState == 1) + 2 * b2n (s.get Reg.fwActiveSlot != s.keep.preferred) +
    4 * b2n (s.get Reg.ownerState == 1)
  layout [(4, 0x53457208), (1, j.intent.kind), (1, j.intent.state), (1, j.bank), (1, flags), (8, j.intent.seq),
    (4, j.intent.epoch), (1, s.carrierCount), (3, 0), (8, j.intent.clause), (16, fromLe (s.blob Reg.imageId)),
    (8, Config.serial), (4, (if s.get Reg.fwActiveSlot = 0 then s.keep.slot0 else s.keep.slot1).version), (4, s.segments),
    (64, if s.get Reg.ownerState = 1 then Config.digest s.keep.ownerKey else 0), (64, Config.digest (b.bytes j.intent)),
    (2, saveAck), (62, 0)]

/-- The intent record of a seal that starts now. -/
def State.intentNow (s : State) (kind : Nat) : Intent :=
  ⟨kind, s.get Reg.epoch, s.nextSeal, s.clauseNow, s.get Reg.imageState, s.persist.openB, 0, s.dirtyMax⟩

/-- A seal starts: its bank is chosen and its intent record written; the bank's old seal is complete no more (R68). -/
def State.startSeal (s : State) (p : SealFor) : State :=
  let b := s.keep.target
  let i := s.intentNow p.kind
  let x := s.keep.bank b
  s.modKeep (fun k => { (k.putBank b { x with intent := some i, sealRec := none }) with job := some ⟨p, b, i⟩ })

/-- A seal is asked for: one is written at a time, in the order asked (R72). -/
def State.requestSeal (s : State) (p : SealFor) : State :=
  if s.keep.job.isSome then s.modKeep (fun k => { k with waiting := k.waiting ++ [p] }) else s.startSeal p

/-- The intent record of the seal being written is changed. -/
def State.modIntent (s : State) (f : Intent → Intent) : State :=
  s.modKeep (fun k =>
    match k.job with
    | some j =>
      { (k.putBank j.bank { k.bank j.bank with intent := some (f j.intent) }) with job := some { j with intent := f j.intent } }
    | none => k)

/-- The next waiting seal starts. -/
def State.nextWaitingSeal (s : State) : State :=
  match s.keep.waiting with
  | [] => s
  | p :: r => (s.modKeep (fun k => { k with waiting := r })).startSeal p

/-- The bank write of job j ends with its signed seal record. -/
def State.writeSeal (s : State) (j : SealJob) : State :=
  let ack := if j.intent.kind = 4 then s.stop.saveAck else 0
  let ext := match j.purpose with | .extent r b _ => some (r, b) | _ => none
  let content := s.bankContent ext (j.intent.kind == 4)
  let header := s.sealHeader j content ack
  let x : Bank := ⟨some j.intent, content,
    some ⟨j.intent.kind, j.intent.seq, j.intent.epoch, s.carrierCount, fromLe (s.blob Reg.imageId), s.segments, ack, header⟩,
    true⟩
  let s := s.modKeep (fun k => k.putBank j.bank x)
  let s := (s.set Reg.sealSequence 0 j.intent.seq).set Reg.keepBank 0 j.bank
  let s := s.setBlob Reg.sealRecord 0 (header ++ le 1280 (Config.signature header) ++ zeros 1280)
  s.bump Reg.signatures

/-! ### Semicolons (R58, R59, Table 3.2) -/

/-- CKPT_BEGIN of the running epoch goes to carrier c on both links (R313); `attempt`: it is a resend that counts as an
attempt (R59). -/
def State.ckptBegin (s : State) (c : Nat) (attempt : Bool) : State :=
  let s := s.putSemi c { s.semi c with
    sentAt := s.now, countAtSend := s.persisted c, begun := true, trying := attempt,
    darkAt := if s.carrierHasUp c then none else some s.now }
  s.sendCarrier c true 0 { op := 0x13, p0 := s.persist.epoch, p1 := s.persist.count }

/-- SEMICOLON_START at a clause boundary (R58, step 1 of Table 3.2). -/
def State.startSemicolon (s : State) : State :=
  let e := s.get Reg.epoch
  let n := s.persist.dirty.card
  let s := s.modPersist (fun p => { p with
    closing := p.dirty, dirty := [], openB := !p.openB, count := n, epoch := e, startClause := s.clauseNow,
    lastStart := s.clauseNow, trigger := false, running := true, sealDue := false, beginDue := some (s.clauseNow + 1),
    cars := (s.activeCarriers).map (fun c => (c, { SemiCar.reset with mark := s.sched.nextId })) })
  let s := (s.set Reg.epoch 0 ((e + 1) % 4294967296)).set Reg.semicolonState 0 1
  let s := s.each s.activeCarriers (fun s c => s.set Reg.ckptPersisted c 0)
  s.govUpdateAll

/-- A Semicolon may start now (R58). -/
def State.mayStartSemicolon (s : State) : Bool :=
  s.govActive && !s.persist.running && !s.persist.triggersHeld && s.semicolonWanted

/-- No write of the closing epoch still waits for carrier c: neither on its port nor held (step 2 of Table 3.2). -/
def State.epochIssued (s : State) (c : Nat) : Bool :=
  !((s.port c).entries.any (fun e => decide (e.id < (s.semi c).mark) && e.work.imageRange.any (·.1))) &&
  !(s.restore.held.any (fun h => h.car == c && h.work.imageRange.any (·.1) && decide (h.cyc < 128 * s.persist.startClause)))

/-- Step 2 of Table 3.2: from the clause after the start, CKPT_BEGIN joins each carrier's stream once the closing
epoch's writes are in it. -/
def State.sendBegins (s : State) : State :=
  match s.persist.beginDue with
  | none => s
  | some t =>
    if !s.persist.running || decide (s.clauseNow < t) then s
    else
      let s := s.each s.activeCarriers (fun s c => if !(s.semi c).begun && s.epochIssued c then s.ckptBegin c false else s)
      if s.activeCarriers.all (fun c => (s.semi c).begun) then s.modPersist (fun p => { p with beginDue := none }) else s

/-- An attempt of carrier c ends without progress; after the third the Semicolon is stuck (R59). -/
def State.ckptFails (s : State) (c : Nat) : State :=
  let t := s.semi c
  if 2 ≤ t.attempts then
    let s := s.putSemi c { t with stuck := true, trying := false, attempts := 3, sentAt := s.now }
    (s.set Reg.semicolonState 0 3).raise 0 0x022 c
  else s.putSemi c { t with attempts := t.attempts + 1, trying := false }

/-- The attempt under way, if its 1.25 ms have passed with no rise of COUNT, ends without progress (R59); `late` tells
whether they have. -/
def State.ckptJudge (s : State) (c : Nat) (late : Bool) : State :=
  if (s.semi c).trying && late then s.ckptFails c else s

/-- CKPT_BEGIN goes to carrier c again, unless the Semicolon is stuck on it (R59). -/
def State.ckptAgain (s : State) (c : Nat) : State := if (s.semi c).stuck then s else s.ckptBegin c true

/-- The lowest FRONT over the active carriers. -/
def State.lowestFront (s : State) : Nat := s.activeCarriers.foldl (fun a c => min a (s.semi c).front) 2097152

/-- Every active carrier has reported DONE: the marks of E are dropped, and the seal falls due (steps 4 and 5). -/
def State.semicolonRetired (s : State) : State :=
  let e := s.persist.epoch
  let s := s.each s.activeCarriers (fun s c => s.sendCarrier c true 0 { op := 0x12, p0 := e })
  let s := s.modPersist (fun p => { p with closing := [], sealDue := true })
  s.set Reg.semicolonState 0 2

/-- CKPT_STATUS (R320, R59). One that raises COUNT is progress, and the attempts without progress count from 0 again
(DESIGN CHOICE, log 88). -/
def State.ckptStatus (s : State) (c : Nat) (done error : Bool) (epoch count front : Nat) : State :=
  if !s.persist.running ∨ s.persist.sealDue ∨ s.get Reg.semicolonState = 2 ∨ below32 epoch s.persist.epoch = true then
    (if s.persist.running ∧ below32 s.persist.epoch epoch = true then s.carrierProtocol c else s)
  else if epoch ≠ s.persist.epoch then s.carrierProtocol c
  else
    let s := s.ckptJudge c (decide ((s.semi c).sentAt + usCycles 1250 < s.now))
    let t := s.semi c
    let old := s.persisted c
    let s := s.set Reg.ckptPersisted c count
    let g := s.govCar c
    let s := s.putGov c { g with persisted := (s.clauseNow, (count - old) * sliceBytes s.carrierCount) :: g.persisted }
    let bad := error || (done && count != s.persist.count)
    let up := decide (t.countAtSend < count)
    let s := s.putSemi c { t with
      front := front, statusAt := s.now, done := t.done || (done && !bad), attempts := if up then 0 else t.attempts,
      trying := t.trying && !up, countAtSend := max t.countAtSend count, stuck := t.stuck && !up }
    let s := if t.stuck && up && !(s.persist.cars.any (fun x => x.2.stuck)) then s.set Reg.semicolonState 0 1 else s
    let s := s.modPersist (fun p => { p with closing := p.closing.removeRange 0 s.lowestFront })
    let s := s.govUpdateAll
    if bad then (s.ckptJudge c true).ckptAgain c
    else if s.activeCarriers.all (fun k => (s.semi k).done) then s.semicolonRetired
    else s

/-- IMAGE_COMMAND SEMICOLON (R58, R59); the Semicolons of a Hold entry satisfy one that comes during it (Table 3.8). -/
def State.semicolonCommand (s : State) : State :=
  if s.get Reg.semicolonState = 3 then
    let s := s.each (s.activeCarriers.filter (fun c => (s.semi c).stuck)) (fun s c =>
      (s.putSemi c { s.semi c with stuck := false, attempts := 0 }).ckptBegin c true)
    s.set Reg.semicolonState 0 1
  else if 0 < s.persist.holdLeft then s
  else s.modPersist (fun p => { p with trigger := true })

/-- SEMICOLON_DONE (R498): the seal of a Semicolon is complete. -/
def State.semicolonDone (s : State) (seq : Nat) : State :=
  let ms := sat 4294967295 ((s.now - 128 * s.persist.startClause) / 250000)
  let s := s.bump Reg.semicolonCount
  let s := (s.recordMgmt 0 0x22 0 0x027 (layout [(4, s.persist.epoch), (4, s.persist.count), (8, seq), (4, ms),
    (4, 0)])).pulse 0x58
  let s := s.modPersist (fun p => { p with running := false, count := 0, holdLeft := p.holdLeft - 1 })
  let s := s.each s.activeCarriers (fun s c => s.set Reg.ckptPersisted c 0)
  ((s.set Reg.semicolonState 0 0).withdraw 0 0x022).govUpdateAll

/-- An uncorrectable Keep write failure in Open or Restoring takes the image to Fault (R73). -/
def State.keepFails (s : State) : State :=
  if s.image = .opened ∨ s.image = .restoring then s.faultImage 0x0002 else s

/-- VDD_KEEP reads below 1.71 V in row 11 of SENSOR_TABLE: no word of the Keep store is written (R483). -/
def State.keepLow (s : State) : Bool :=
  match Tbl.find s.regs (Reg.key Reg.sensorValue 11) with
  | some v => decide (signed32 v < 1710)
  | none => false

/-- SEAL_COMPLETE (R68, R73). COMMIT sets EPOCH to 1 when its first seal is complete, so that the seal itself carries the
earlier EPOCH (DESIGN CHOICE, log 100). -/
def State.sealEnds (s : State) (corrected rewrites : Nat) (failed : Bool) : State :=
  match s.keep.job with
  | none => s
  | some j =>
    let s := (s.bump Reg.keepEccCorrected 0 corrected).bump Reg.keepRewrites 0 rewrites
    let s := s.modKeep (fun k => { k with job := none })
    let s := if failed then
        let s := s.raise 0 0x023 0
        match j.purpose with
        | .commit who => s.finish who Reg.imageCommand .storeFail
        | .semicolon => s.keepFails
        | .extent _ _ who => (s.finish who Reg.extValid .storeFail).keepFails
        | .fullStop => { s with stop := { s.stop with quiet := true } }
      else
        let s := s.writeSeal j
        match j.purpose with
        | .commit who =>
          let s := (s.set Reg.epoch 0 1).modPersist (fun p => { p with dirty := [], closing := [], lastStart := s.clauseNow })
          let s := s.set Reg.windowOpen 0 1
          (((s.setImage .opened).govUpdateAll).finish who Reg.imageCommand .ok).pairTry
        | .semicolon => s.semicolonDone j.intent.seq
        | .extent r b who => (s.modKeep (fun k => { k with extNext := k.extNext ++ [(r, b)] })).finish who Reg.extValid .ok
        | .fullStop => { s with stop := { s.stop with quiet := true } }
    s.nextWaitingSeal

/-! ### The cut (R61 to R66, R150, R299) -/

/-- SAVE for carrier c on one link or both (R321). -/
def State.sendSave (s : State) (c : Nat) (both : Bool) (link : Nat) (last : Bool) : State :=
  let flags := b2n (s.stop.stateAtCut == 4) + 2 * b2n last
  s.sendCarrier c both link { op := 0x15, flags := flags, p0 := s.stop.epoch, p1 := Tbl.getD s.stop.marks c 0 }

/-- The image writes that port c still has to issue. -/
def State.writesLeft (s : State) (c : Nat) : Nat :=
  ((s.port c).entries ++ (s.port c).outside).countP (fun e => e.work.imageRange.any (·.1))

/-- FINAL follows the last write before the cut on each link of carrier c (R321). -/
def State.sendFinal (s : State) (c : Nat) : State :=
  if s.stop.active && !(bit s.stop.finalSent c) && s.writesLeft c == 0 then
    let s := { s with stop := { s.stop with finalSent := setBit s.stop.finalSent c true } }
    s.sendSave c true 0 true
  else s

/-- An access belongs to the DMA engine: its image writes that the carrier engine has not accepted are never issued
(R28). -/
def Work.isDma : Work → Bool
  | .image _ _ _ _ _ (.dmaWrite _ _ _ _) => true
  | .image _ _ _ _ _ (.dmaRead _ _ _) => true
  | _ => false

/-- At the cut, what is not an accepted write leaves the ports of the carriers, and held writes are issued behind a
touch PROMOTE of their slice (Tables 3.3, 4.5). -/
def State.cutQueues (s : State) : State :=
  let s := s.each s.activeCarriers (fun s c => s.removeEntries c (fun e => e.svc != 7 &&
    (!(e.work.imageRange.any (·.1)) || e.work.isDma)))
  let held := s.restore.held.filter (fun h => h.work.imageRange.any (·.1) && !h.work.isDma)
  let s := (s.modRestore (fun r => { r with held := [] })).countHeld
  s.each held (fun s h =>
    let s := if (s.car h.car).touches.any (fun t => t.1 == h.seg) then s else s.sendTouch h.car h.seg
    s.releasePart h)

/-- The Full Stop of a cut in Open or Restoring (R64, Table 3.4), or the SAVE of a cut in Quiesced. -/
def State.beginStop (s : State) (before : Nat) (seals : Bool) : State :=
  let s := { s with stop := { FullStop.reset with
    active := true, epoch := s.get Reg.epoch, stateAtCut := before, clause := s.clauseNow, dirtyMax := s.dirtyMax } }
  let s := s.cutQueues
  let s := s.each s.activeCarriers (fun s c =>
    let mark := ((s.car c).nextTag + s.writesLeft c + 65535) % 65536
    let s := { s with stop := { s.stop with marks := Tbl.put s.stop.marks c mark, sentAt := Tbl.put s.stop.sentAt c s.now } }
    (s.sendSave c true 0 false).sendFinal c)
  if seals then
    (s.startSeal .fullStop).modIntent (fun i => { i with
      state := before, epoch := s.stop.epoch, dirtyMax := s.stop.dirtyMax })
  else s

/-- What the cut ends whatever the image state (Tables 3.3 and 3.4, R62, R63, R150): contexts freeze, a running Semicolon,
a Keep write and what waits for it are abandoned, requests are not answered, port 9's entries are discarded (R246),
unresolved copies are marked and neither copies nor MACKs leave any more, and the partner and the witness are told. -/
def State.cutStops (s : State) : State :=
  let s := s.freezeContexts
  let s := s.modPersist (fun p => { p with
    running := false, trigger := false, sealDue := false, beginDue := none, holdLeft := 0 })
  let s := s.modKeep (fun k => { k with job := none, waiting := [], extNext := [] })
  let s := s.modLexicon (fun l => { l with waiting := [], config := none, configAnswer := none })
  let s := s.set Reg.semicolonState 0 0
  let s := (s.handoverBack.markAll).dropCopyMessages
  let s := s.sendPartner { op := 0x57, p1 := s.get Reg.epoch }
  let s := s.leaseRelease 1
  let s := { s with host := { s.host with posted := [], readWait := [] }, mirror := { s.mirror with rxWait := [] } }
  s.removeEntries 9 (fun _ => true)

/-- CUT (R62 to R64): from Open and Restoring after step 6 the image is Sealed and the Full Stop starts, from Quiesced the
image is Sealed and SAVE leaves; in Unformed, Setup and Fault nothing changes on the carriers or in the Keep store. -/
def State.cutNow (s : State) : State :=
  let st := s.image
  let dirtyMax := s.dirtyMax
  let s := s.cutStops
  if st = .sealed ∨ st = .unformed ∨ st = .setup ∨ st = .fault then s
  else
    let stops := st != .restoring || decide (2 < s.get Reg.restartPhase)
    let quiesced := st == .quiesced
    let before := st.code
    let s := (s.setImage .sealed).set Reg.windowOpen 0 0
    if !stops then s
    else
      let s := s.beginStop before (!quiesced)
      { s with stop := { s.stop with dirtyMax := dirtyMax } }

/-- SAVE is acknowledged on link l of carrier c (R66): the intent record takes acknowledgements until step 7 of
Table 3.4, 30 µs, the seal record until its header is assembled. -/
def State.saveAcked (s : State) (c l : Nat) : State :=
  let s := { s with stop := { s.stop with saveAck := setBit s.stop.saveAck (2 * c + l) true } }
  if s.now ≤ 128 * s.stop.clause + usCycles 30 then s.modIntent (fun i => { i with saveAck := s.stop.saveAck })
  else s

end Sys2Proof.Machine
end

