-- ==== Sys2Proof/Machine/Restore.lean ====
section
/-!
DEFINITION. The restart (spec/04_restore.md): the choice of the seal, the carrier checks, step 6, the reports of the
carriers, window open, progress and completion.
-/
namespace Sys2Proof.Machine

/-! ### LINK_STATE records (Table 14.12) -/

/-- A LINK_STATE record of link u (R366). -/
def State.linkRecord (s : State) (u new old cause width rate : Nat) : State :=
  let l := s.link u
  s.recordMgmt 0 0x40 0 0x0A0 (layout [(1, u), (1, new), (1, old), (1, cause), (1, width), (1, rate),
    (1, s.get Reg.linkFcMode u), (1, portOf u), (4, s.get Reg.linkRtt u), (4, s.get Reg.linkDowns u), (2, l.n), (2, l.e),
    (4, 0)])

/-! ### The seal and the cut epoch (R69, R70, R80) -/

/-- SEAL_SEQ of a torn Full Stop in bank b (R69): none when bank b is not torn, 0 when its intent record cannot be
read. -/
def Keep.tornSeq (k : Keep) (b : Nat) : Option (Option Nat) :=
  let x := k.bank b
  if x.complete.isSome then none
  else match x.intent with
    | none => some none
    | some i =>
      let newest := match k.latest with | some c => (match (k.bank c).intent with | some j => j.seq | none => 0) | none => 0
      if i.kind = 4 ∧ newest < i.seq then some (some i.seq) else none

/-- The bank with a torn Full Stop, and its SEAL_SEQ when it can be read. -/
def Keep.torn (k : Keep) : Option (Nat × Option Nat) :=
  match k.tornSeq 0 with
  | some q => some (0, q)
  | none => (k.tornSeq 1).map (fun q => (1, q))

/-- Either bank holds an intent record, or one that cannot be read: the image is Sealed at power-up (R78). -/
def Keep.sealedAtPower (k : Keep) : Bool :=
  let one (b : Bank) : Bool := match b.intent with | none => true | some i => i.kind != 0
  one k.bank0 || one k.bank1

/-- The intent record of the previous power-up: of the torn bank, else of the bank whose seal is used. -/
def Keep.lastIntent (k : Keep) : Option Intent :=
  match k.torn with
  | some (b, _) => (k.bank b).intent
  | none => (k.latest.map (fun b => k.bank b)).bind (·.intent)

/-- The expected cut epoch (R80); none when unknown. -/
def Keep.cutEpoch (k : Keep) : Option Nat := k.lastIntent.map (·.epoch)

/-- SAVE_ACK as R66 makes the restart read it, for a cut that began a Full Stop. -/
def Keep.readAck (k : Keep) : Option Nat :=
  match k.torn with
  | some (b, some _) => (k.bank b).intent.map (·.saveAck)
  | some (_, none) => none
  | none => (k.latest.bind (fun b => (k.bank b).complete)).bind (fun r => if r.kind = 4 then some r.saveAck else none)

/-! ### Tables of the seal (R123, R152) -/

/-- Rows of a list of registers taken out of a table. -/
def Tbl.dropRegs (rs : List Nat) (t : Tbl Nat) : Tbl Nat := t.filter (fun x => !(rs.contains (x.1 / 4294967296)))

/-- Every row of the registers named takes its default. -/
def State.clearRegs (s : State) (rs : List Nat) : State := { s with regs := Tbl.dropRegs rs s.regs }

/-- The context table of a seal is loaded: tail is DURABLE, nothing is pending, U zero (R123). A context sealed CLOSING
stays so until ABORT (DESIGN CHOICE, log 89). -/
def State.loadContexts (s : State) (l : List CtxRec) : State :=
  let s := s.clearRegs [Reg.ctxDurable, Reg.ctxTail, Reg.ctxHead, Reg.ctxRingBase, Reg.ctxRingSize, Reg.ctxState,
    Reg.ctxPolicy, Reg.ctxNotify, Reg.ctxError, Reg.ctxCoalCount, Reg.ctxCoalTime, Reg.ctxQueue, Reg.ctxUserTag]
  let s := (s.set Reg.appendContextsOpen 0 0).modAppend (fun a => { a with pubs := [], run := [], writes := [] })
  let s := (s.set Reg.appendPending 0 0).each (s.rowsOf Reg.instPending) (fun s i => s.countPending i)
  s.each l (fun s c =>
    let s := ((s.set Reg.ctxDurable c.n c.durable).set Reg.ctxTail c.n c.durable).set Reg.ctxHead c.n (c.durable - c.headLag)
    let s := ((s.set Reg.ctxRingBase c.n c.ringBase).set Reg.ctxRingSize c.n c.ringSize).set Reg.ctxPolicy c.n c.policy
    let s := ((s.set Reg.ctxNotify c.n c.notify).set Reg.ctxError c.n c.error).set Reg.ctxCoalCount c.n c.coalCount
    let s := ((s.set Reg.ctxCoalTime c.n c.coalTime).set Reg.ctxQueue c.n c.queue).set Reg.ctxUserTag c.n c.tag
    s.setCtx c.n c.state)

/-- The extent table of a seal is loaded. -/
def State.loadExtents (s : State) (l : List (Nat × List Byte)) : State :=
  let s := s.clearRegs [Reg.extWinBase, Reg.extIaBase, Reg.extPages, Reg.extRights, Reg.extKind, Reg.extContext,
    Reg.extTag, Reg.extValid, Reg.extMirror]
  (s.each l (fun s x => s.applyExtent x.1 (extOf x.2))).countExtents

/-- The partner state of a seal is loaded; after a fall-back every segment of every owned row is marked (R152). -/
def State.loadPartner (s : State) (p : PartnerRec) (fallback : Bool) : State :=
  let s := ((s.set Reg.pairId 0 p.pairId).set Reg.pairSide 0 p.side).set Reg.leasePolicy 0 p.policy
  let s := s.each p.rows (fun s r =>
    let s := ((s.set Reg.rangeBaseSeg r.row r.base).set Reg.rangeSegments r.row r.segments).set Reg.rangeOwner r.row r.owner
    (s.set Reg.rangeGeneration r.row r.generation).set Reg.rangeState r.row r.state)
  let s := { s with mirror := { Mirror.reset with wanted := p.mirror != 0, witnessNext := s.mirror.witnessNext } }
  let s := s.each (mirrorRows.filter s.ownsRow) (fun s r =>
    let lo := s.rowBase r
    let hi := lo + s.rowLen r
    let bits : SegSet := if fallback then [(lo, hi)] else SegSet.within (p.map.map (fun (x : Nat × Nat) => (4 * x.1, 4 * x.2))) lo hi
    s.modMirror (fun m => { m with map := SegSet.union m.map bits }))
  s.set Reg.leaseState 0 (if s.get Reg.witnessNode = 0 ∨ s.get Reg.pairId = 0 then 0 else 2)

/-! ### Starting (R79, checks 1 and 2) -/

/-- SEAL_FALLBACK falls due when the carrier checks end (R70, R95). -/
def State.sealFallback (s : State) : State :=
  match s.restore.torn with
  | none => s
  | some q =>
    let used := match s.restore.bank.bind (fun b => (s.keep.bank b).intent) with | some i => i.seq | none => 0
    let payload := layout [(8, used), (8, q.getD 0), (4, s.restore.epoch.getD 0xFFFFFFFF), (4, 0)]
    let open' := (s.mgmtQueue 0).any (fun j => s.get Reg.queueEnable j == 1)
    if open' then s.recordMgmt 0 0x24 0 0x025 payload
    else s.modEvents (fun e => { e with held := e.held ++ [⟨0, 0, 0x24, 0x025, payload⟩] })

/-- RESTART_REPORT as far as it is known at step 6 or at entry to Fault (R96, Table 4.4), with the restart epoch given.
An expected cut epoch that stays unknown reads as 0xFFFF_FFFF, as the field of that name in Table 4.3 (DEDUCED, log 47). -/
def State.fillReport (s : State) (restart : Nat) : State :=
  let x := match s.restore.bank with | some b => s.keep.bank b | none => Bank.blank
  let ack := s.keep.readAck
  let accepted (c : Nat) : Bool := s.get Reg.restartCarrierStatus c == 1 || s.get Reg.restartCarrierStatus c == 2
  let unacked := ack.any (fun a => s.activeCarriers.any (fun c =>
    accepted c && !(bit a (2 * c)) && !(bit a (2 * c + 1))))
  let dma := x.content.dma.foldl (fun a d => if bit d.2.flags 0 then a + 2 ^ d.1 else a) 0
  let used := match x.intent with | some i => i.seq | none => 0
  let kind := match x.intent with | some i => i.kind | none => 4
  let pi := s.restore.prevIntent.getD ⟨0, 0, 0, 0, 0, false, 0, 0⟩
  let flags := b2n s.restore.torn.isSome + 2 * b2n (s.keep.cutEpoch).isNone +
    4 * b2n (kind != 4 && s.restore.torn.isNone) + 8 * b2n s.restore.warm + 16 * b2n unacked + 32 * b2n (dma != 0)
  let links := s.activeCarriers.foldl (fun a c => max a (s.car c).upMs) 0
  let s := s.each [(0, 4, 1), (64, 4, s.restore.sealMs), (4, 4, flags), (8, 4, s.restore.epoch.getD 0xFFFFFFFF), (12, 4, restart), (16, 8, used),
      (24, 8, (s.restore.torn.getD none).getD 0), (32, 8, pi.clause), (40, 2, ack.getD pi.saveAck), (42, 1, pi.state),
      (43, 1, s.carrierCount), (44, 4, pi.dirtyMax), (48, 8, dma), (68, 4, links)]
    (fun s f => s.report f.1 f.2.1 f.2.2)
  s.each s.activeCarriers (fun s c => s.report (56 + c) 1 (s.get Reg.restartCarrierStatus c))

/-- The restart fails: Fault with a cause; before step 6 the report is filled and SEAL_FALLBACK falls due (R82, R95,
R96). -/
def State.restartFails (s : State) (cause : Nat) : State :=
  if s.get Reg.restartPhase < 3 then ((s.fillReport 0).faultImage cause).sealFallback else s.faultImage cause

/-- IDENT with QUERY to carrier c on each link that is up (R325). -/
def State.queryIdent (s : State) (c : Nat) : State :=
  let body := layout [(4, 1), (2, 1), (1, 32), (1, 0)] ++ zeros 120
  let m : Msg := { op := 0x22, data := [body.take 64, body.drop 64] }
  s.each ([0, 1].filter (fun l => s.linkIsUp (2 * c + l))) (fun s l => s.sendCarrier c false l m)

/-- The restart from Sealed or Fault, step 3 of Table 4.1: the seal and the expected cut epoch are chosen, and the
image is Restoring; checks 1 and 2 follow. Writes still held after a Fault wait on for their slices (Table 4.5). -/
def State.restartBegin (s : State) (warm : Bool) (startAt : Nat) : State :=
  let k := s.keep
  let kept := s.restore.held.filter (fun h => h.work.imageRange.any (·.1))
  let s := { s with restore := { Restore.reset with
    bank := k.latest, epoch := k.cutEpoch, torn := k.torn.map (fun (x : Nat × Option Nat) => x.2), warm := warm, startAt := startAt,
    prevIntent := k.lastIntent, held := kept, heldReads := s.restore.heldReads, sealMs := s.msSinceGood } }
  let s := s.keepRead
  let s := { s with stop := FullStop.reset }
  let s := (s.setImage .restoring).set Reg.restartPhase 0 1
  let s := s.setBlob Reg.restartReport 0 []
  let s := s.each (List.range 8) (fun s c => (s.set Reg.restartCarrierStatus c 0).modCar c (fun x => { x with
    ident0 := false, ident1 := false, ready := false, front := none }))
  let s := s.countHeld
  match k.latest.bind (fun b => (k.bank b).complete) with
  | none => s.restartFails 0x0101
  | some r =>
    let s := ((s.set Reg.activeCarriers 0 r.carriers).set Reg.imageSegments 0 r.segments).setBlob Reg.imageId 0 (le 16 r.imageId)
    let s := (s.set Reg.sealSequence 0 r.seq).set Reg.keepBank 0 (k.latest.getD 0)
    if (k.bank (k.latest.getD 0)).readable then
      let s := s.set Reg.restartPhase 0 2
      s.each s.activeCarriers (fun s c => s.queryIdent c)
    else s.restartFails 0x0109

/-! ### The carrier checks (Table 4.2) -/

/-- IDENT of carrier c has come on some link that is up. -/
def State.identified (s : State) (c : Nat) : Bool :=
  ((s.car c).ident0 && s.linkIsUp (2 * c)) || ((s.car c).ident1 && s.linkIsUp (2 * c + 1))

/-- IDENT of carrier c has come on both links. -/
def State.identifiedBoth (s : State) (c : Nat) : Bool :=
  (s.car c).ident0 && s.linkIsUp (2 * c) && (s.car c).ident1 && s.linkIsUp (2 * c + 1)

/-- The saved epoch that the carrier of port c reports. -/
def State.savedEpoch (s : State) (c : Nat) : Nat := field (s.blob Reg.identBody c) 32 4

/-- Every active carrier reports the same epoch, at least that of the used seal's intent record (R81). -/
def State.agreedEpoch (s : State) : Option Nat :=
  let e := s.savedEpoch 0
  let least := (s.restore.bank.bind (fun b => (s.keep.bank b).intent)).map (·.epoch)
  if s.activeCarriers.all (fun c => s.savedEpoch c == e) && least.any (fun m => !(below32 e m)) then some e else none

/-- A check of Table 4.2 on carrier c: its order, the status and the cause on failure; none when it passes. The seal
record holds no capacity (Table 17.8), so that check 5 takes any capacity that holds the sealed image (DESIGN CHOICE,
log 82). -/
def State.carrierCheck (s : State) (expect : Option Nat) (c : Nat) : Option (Nat × Nat × Nat) :=
  let b := s.blob Reg.identBody c
  let seg := s.segments
  if !(s.identified c) then some (3, 3, 0x0102)
  else if field b 8 16 ≠ fromLe (s.blob Reg.imageId) then some (4, 4, 0x0103)
  else if field b 7 1 ≠ c ∨ s.carrierCount * 2 ^ field b 25 1 < seg * 2097152 then some (5, 7, 0x0107)
  else if !(bit (field b 6 1) 1) then some (6, 8, 0x0108)
  else match expect with
    | none => some (7, 9, 0x0106)
    | some e =>
      if s.savedEpoch c = e then none
      else if below32 (s.savedEpoch c) e then some (7, 5, 0x0104)
      else some (7, 6, 0x0105)

/-- Step 6 of Table 4.1: the residency map is cleared with it (R85). -/
def State.restartStep6 (s : State) (cut : Nat) : State :=
  let x := match s.restore.bank with | some b => s.keep.bank b | none => Bank.blank
  let s := s.modRestore (fun r => { r with epoch := some cut, sweepAt := s.now })
  let s := s.set Reg.epoch 0 ((cut + 1) % 4294967296)
  let s := s.modPersist (fun p => { Persist.reset with lastStart := s.clauseNow, triggersHeld := p.triggersHeld })
  let s := s.each s.activeCarriers (fun s c => (s.set Reg.ckptPersisted c 0).govAsk c)
  let s := ((s.loadContexts x.content.contexts).loadPartner x.content.partner s.restore.torn.isSome).loadExtents x.content.extents
  let s := s.each s.activeCarriers (fun s c =>
    let s := s.sendCarrier c true 0 { op := 0x12, flags := 1, p0 := cut }
    s.sendCarrier c true 0 { op := 0x10, p0 := s.get Reg.epoch, p1 := s.segments })
  let s := ((s.set Reg.restartPhase 0 3).set Reg.restoreTouches 0 0).set Reg.restoreResident 0 0
  let s := s.each (List.range 8) (fun s c =>
    ((s.modCar c (fun x => { x with touches := [], resident := [] })).set Reg.restoreSlices c 0).set Reg.restoreTouchPending c 0)
  let s := s.fillReport (s.get Reg.epoch)
  s.sealFallback

/-- CARRIER_CHECKS (R82): every carrier takes the code of the first check it fails, or 1 or 2; a failure ends in Fault
with the cause of the first failing check and, within it, of the lowest carrier; otherwise step 6 follows. -/
def State.carrierChecks (s : State) : State :=
  let expect := match s.restore.epoch with | some e => some e | none => s.agreedEpoch
  let fails := s.activeCarriers.filterMap (fun c => s.carrierCheck expect c)
  let s := s.each s.activeCarriers (fun s c =>
    s.set Reg.restartCarrierStatus c (match s.carrierCheck expect c with
      | some f => f.2.1
      | none => if s.identifiedBoth c then 1 else 2))
  let s := s.modRestore (fun r => { r with epoch := expect })
  match bestOf (fun a b => decide (a.1 < b.1)) fails.reverse with
  | some _ =>
    let first := fails.foldl (fun a f => min a f.1) 100
    match fails.find? (fun f => f.1 == first) with
    | some f => s.restartFails f.2.2
    | none => s
  | none =>
    let s := s.each (s.activeCarriers.filter (fun c => !(s.identifiedBoth c))) (fun s c =>
      let u := if (s.car c).ident0 && s.linkIsUp (2 * c) then 2 * c + 1 else 2 * c
      s.linkRecord u (s.get Reg.linkState u) (s.get Reg.linkState u) 0 0 0)
    match expect with
    | some e => s.restartStep6 e
    | none => s

/-- The checks run once every active carrier has identified itself on both links; at the presence limit they run with
what has come (R82, R83). -/
def State.checksIfPresent (s : State) : State :=
  if s.image = .restoring ∧ s.get Reg.restartPhase = 2 ∧ s.activeCarriers.all s.identifiedBoth = true then s.carrierChecks
  else s

/-! ### Reports of the carriers (R85, R95, R499) -/

/-- A record of the restart for instance i: written when its management queue is enabled, held otherwise (R95). -/
def State.restoreRecord (s : State) (i type : Nat) (payload : List Byte) : State :=
  if (s.mgmtQueue i).any (fun j => s.get Reg.queueEnable j == 1) then s.recordMgmt i type i 0x024 payload
  else s.modEvents (fun e => { e with held := e.held ++ [⟨i, i, type, 0x024, payload⟩] })

/-- A rise of the resident segments from `before` to `resident` has reached or passed a threshold of R95. -/
def State.progressReached (s : State) (before resident : Nat) : Bool :=
  let step := s.get Reg.restoreProgressStep
  (List.range 101).any (fun k =>
    let t := ceilDiv (s.segments * k * step) 100
    decide (1 ≤ k) && decide (t < s.segments) && decide (before < t) && decide (t ≤ resident))

/-- RESTORE_PROGRESS (R95). -/
def State.restoreProgress (s : State) : State :=
  let before := s.restore.progress
  let s := s.modRestore (fun r => { r with progress := max r.progress (s.get Reg.restoreResident) })
  if s.progressReached before (s.get Reg.restoreResident) then
    let ms := match s.restore.openAt with | some t => (s.clauseNow - t) * 512 / 1000000 | none => 0
    if (s.mgmtQueue 0).any (fun j => s.get Reg.queueEnable j == 1) then
      s.recordMgmt 0 0x20 0 0x024 (layout [(4, s.get Reg.restoreResident), (4, s.segments), (4, ms),
        (4, s.get Reg.restoreTouches), (8, 0)])
    else s
  else s

/-- RESTORE_COMPLETE (R95, step 9): every slice is resident after window open, and the image is Open. -/
def State.restoreComplete (s : State) : State :=
  if s.image = .restoring ∧ s.get Reg.restartPhase = 4 ∧ s.get Reg.restoreResident = s.segments then
    let s := (s.setImage .opened).set Reg.restartPhase 0 5
    let s := s.report 76 4 s.msSinceGood
    let s := s.each s.activeCarriers (fun s c => s.report (56 + c) 1 (s.get Reg.restartCarrierStatus c))
    let payload := layout [(4, s.segments), (4, s.msSinceGood), (4, s.get Reg.restoreTouches),
      (4, s.get Reg.restoreTouchTimeouts), (4, (s.restore.epoch.getD 0 + 1) % 4294967296), (4, 0)]
    s.each s.liveList (fun s i => s.restoreRecord i 0x21 payload)
  else s

/-- Window open, step 8, at the clause boundary after every carrier is ready (R199): FROZEN contexts are OPEN (R123),
and the mirror engine pairs (R152). -/
def State.windowOpens (s : State) : State :=
  match s.restore.openAt with
  | none => s
  | some t =>
    if s.image = .restoring ∧ s.get Reg.restartPhase = 3 ∧ t ≤ s.clauseNow then
      let s := (s.set Reg.restartPhase 0 4).set Reg.windowOpen 0 1
      let s := s.report 72 4 s.msSinceGood
      let s := s.each ((s.rowsOf Reg.ctxState).filter (fun n => s.ctxState n == .frozen)) (fun s n => s.setCtx n .opened)
      let s := if s.mirror.wanted && s.mirrorState == .unpaired then s.setMirror .connecting else s
      ((s.govUpdateAll).pairTry).restoreProgress.restoreComplete
    else s

/-- RESTORE_STATUS (R85, R322, R323, R499). -/
def State.restoreStatus (s : State) (c : Nat) (ready touch sweep done error : Bool) (epoch val : Nat) : State :=
  let active := s.image == .restoring && decide (3 ≤ s.get Reg.restartPhase)
  if !active && s.restore.held.isEmpty then s
  else if epoch ≠ (s.restore.epoch.getD 0 + 1) % 4294967296 then s.carrierProtocol c
  else if error && !ready && !(touch || sweep || done) then
    if active && !(s.car c).ready then (s.set Reg.restartCarrierStatus c 10).restartFails 0x010B else s
  else
    let s := if ready then s.modCar c (fun k => { k with ready := true }) else s
    let s := if active && s.get Reg.restartPhase == 3 && s.restore.openAt.isNone &&
        s.activeCarriers.all (fun k => (s.car k).ready) then
        s.modRestore (fun r => { r with openAt := some (s.clauseNow + 1) }) else s
    let late := (s.car c).touches.any (fun t => touch && t.1 == val && decide (t.2 + usCycles 200 < s.now))
    let s := if late then (s.bump Reg.touchLate c).raise 0 0x085 c else s
    let s := if error && (touch || sweep || done) then s.raise 0 0x087 c else s
    let s := if sweep then s.modCar c (fun k => { k with front := some val }) else s
    let segs : SegSet :=
      SegSet.union (if touch && decide (val < s.segments) then [(val, val + 1)] else [])
        (if done then [(0, s.segments)] else if sweep && decide (0 < val) then [(0, min val s.segments)] else [])
    if segs.isEmpty then s
    else
      let s := s.becomeResident c segs
      if active then s.restoreProgress.restoreComplete else s

/-- Held reads of instances that meet a test are abandoned (Table 4.5, R165). -/
def State.dropHeldReads (s : State) (sel : HeldPart → Bool) : State :=
  s.modRestore (fun r => { r with held := r.held.filter (fun h => h.work.imageRange.any (·.1) || !(sel h)) })

/-- A carrier is lost in Restoring (Table 4.5): held reads are abandoned, held writes of its slices are discarded and
counted in RESTORE_HELD_BYTES. -/
def State.lostInRestore (s : State) (c : Nat) : State :=
  let s := s.set Reg.restartCarrierStatus c 11
  let s := s.dropHeldReads (fun _ => true)
  let gone := s.restore.held.filter (fun h => h.car == c)
  let s := s.modRestore (fun r => { r with held := r.held.filter (fun h => h.car != c) })
  let s := s.set Reg.restoreHeldBytes 0 (gone.foldl (fun a h => a + h.payload) 0)
  s.restartFails 0x010A

end Sys2Proof.Machine
end

