-- ==== Sys2Proof/Machine/HostPort.lean ====
section
/-!
DEFINITION. The host port (spec/07_host_port.md): the answers of Table 7.8, reads and their completions, the acceptance
of writes, the requests of the device, and the host link.
-/
namespace Sys2Proof.Machine

/-- The host port's own state changed by `f`. -/
def State.modHost (s : State) (f : HostPort → HostPort) : State := { s with host := f s.host }

/-! ### AER (R174 to R176): bit positions of the base specification's status registers (PRESUMED, log 15) -/

/-- Bit b of the uncorrectable error status of function i. -/
def State.aerUncor (s : State) (i b : Nat) : State :=
  s.modHost (fun h => { h with aerFatal := Tbl.put h.aerFatal i (setBit (Tbl.getD h.aerFatal i 0) b true) })

/-- Bit b of the correctable error status of function i. -/
def State.aerCor (s : State) (i b : Nat) : State :=
  s.modHost (fun h => { h with aerCorr := Tbl.put h.aerCorr i (setBit (Tbl.getD h.aerCorr i 0) b true) })

/-- An error of function i: advisory non-fatal for a non-posted request (Table 7.8). -/
def State.aerError (s : State) (i b : Nat) (posted : Bool) : State :=
  let s := s.aerUncor i b
  if posted then s else s.aerCor i 13

/-! ### Refusals (Table 7.8) -/

/-- A completion of instance i that stands for a whole read leaves: a refusal, counted, or the data of BAR0 or BAR4. -/
def State.answerLeaves (s : State) (i tag : Nat) (st : CplStatus) (count : Nat) (data : List Byte) : State :=
  let s := s.emit (.completion i tag st false count data)
  match st with
  | .ca => s.bump Reg.hostCaSent i
  | .ur => s.bump Reg.hostUrSent i
  | _ => s

/-- A read is answered by one completion, which joins port 9 in service 2 (Table 10.1). In recovery no port grants, and it
leaves at once. -/
def State.answerRead (s : State) (i tag : Nat) (st : CplStatus) (count : Nat) (data : List Byte) : State :=
  if s.security.recovery then s.answerLeaves i tag st count data
  else s.enqueue 9 2 i (.answer tag st count data) data.length

/-- A completion of instance i without data. -/
def State.refuseRead (s : State) (i tag len : Nat) (st : CplStatus) : State := s.answerRead i tag st len []

/-- The routing ID of function i: the bus number, and the function number in ARI form (R161). -/
def State.routingId (s : State) (i : Nat) : Nat := s.host.bus % 256 * 256 + i

/-! ### Base address registers (R164, R167) -/

/-- The size of a BAR of function i (Table 7.5). -/
def State.barSize (s : State) (i : Nat) : Bar → Nat
  | .bar0 => if i = 0 then 16777216 else 65536
  | .bar2 => s.windowSize i
  | .bar4 => 2 ^ (if i = 0 then s.host.pfBar4 else s.host.vfBar4)

/-- The base of a BAR of function i: VF v's part of a VF BAR starts at its base + (v − 1) × its size (R164). -/
def State.barBase (s : State) (i : Nat) (b : Bar) : Nat :=
  let x := s.host.bases
  if i = 0 then (match b with | .bar0 => x.pf0 | .bar2 => x.pf2 | .bar4 => x.pf4)
  else (match b with | .bar0 => x.vf0 | .bar2 => x.vf2 | .bar4 => x.vf4) + (i - 1) * s.barSize i b

/-- The offset of `len` bytes at an address in the BAR that decodes it (R167); none where it does not hold them all. -/
def State.barOffset (s : State) (i : Nat) (b : Bar) (addr len : Nat) : Option Nat :=
  if s.barBase i b ≤ addr ∧ addr + len ≤ s.barBase i b + s.barSize i b ∧ 0 < len then some (addr - s.barBase i b) else none

/-- The 1 MiB slice of group g in PF BAR0 (R12). -/
def sliceBase (g : Nat) : Nat := g * 0x100000

/-- Memory decode of function i is on (row 5): it is live, no FLR of it runs, the PF is not in D3hot (R182), and for a
VF, VF Memory Space Enable is 1; Memory Space Enable of the PF is taken as 1 (log 16). -/
def State.memoryOn (s : State) (i : Nat) : Bool :=
  s.live i && !(s.host.flr.mem i) && !(s.host.d3 && i == 0) && (i == 0 || s.host.vfMem)

/-- An FLR of function i has not completed (R180): an INST_COMMAND or a link reset alone is none. -/
def State.flrRuns (s : State) (i : Nat) : Bool := s.resets.any (fun j => j.i == i && j.func)

/-- The configuration space of function i answers: it is live, and no FLR of it runs (R180). -/
def State.configOn (s : State) (i : Nat) : Bool := s.live i && !(s.flrRuns i)

/-- A configuration request to function i takes its effect; during an FLR of it, it is answered with Request Retry
Status (R180). -/
def State.configCall (s : State) (i : Nat) (f : State → State) : State :=
  s.beforeCut (fun s => if !(s.live i) then s else if s.flrRuns i then s.emit (.requestRetry i) else f s)

/-- The host Lexicon port of function i answers: as its memory decode, but throughout an INST_COMMAND (R214). -/
def State.lexOn (s : State) (i : Nat) : Bool :=
  s.live i && !(s.resets.any (fun j => j.i == i && j.port)) && !(s.host.d3 && i == 0) && (i == 0 || s.host.vfMem)

/-- Function i decodes its windows and its fast path: in recovery BAR0 decodes only the host Lexicon port (R432). -/
def State.decodes (s : State) (i : Nat) : Bool := s.memoryOn i && !s.security.recovery

/-- An Unsupported Request of rows 4, 5 and 7: UR to a read, and the error in the function. -/
def State.unsupported (s : State) (i tag len : Nat) (posted : Bool) : State :=
  let s := s.aerError i 20 posted
  if posted then s else s.refuseRead i tag len .ur

/-- A count of faults in a clause (R177): whether a record is written now, and the COUNT that it carries. -/
def limited (t : Tbl (Nat × Nat)) (i now : Nat) : Bool × Nat :=
  match Tbl.find t i with
  | some (c, n) => (c != now, n + 1)
  | none => (true, 1)

/-- TRANSLATION_FAULT (R198): the record of a refused request, at most one in a clause (R177). The faults of a record that
the queue loses stay counted for the next (Table 8.9). -/
def State.translationFault (s : State) (i w len cause detail : Nat) (row : Option Nat) (write : Bool) : State :=
  let x := limited s.host.faults i s.clauseNow
  let goes := x.1 && s.mgmtGoes i
  let s := s.modHost (fun h => { h with faults := Tbl.put h.faults i (s.clauseNow, if goes then 0 else x.2) })
  if x.1 then
    s.recordMgmt i 0x10 i 0x002 (layout [(8, w % 4398046511104), (4, len), (1, cause), (1, detail),
      (2, s.routingId i), (1, match row with | some r => r % 64 | none => 0xFF), (1, b2n write), (2, sat 65535 x.2),
      (4, match row with | some r => s.get Reg.extTag r | none => 0)])
  else s

/-- A request of instance i is refused under rows 8 to 10 (R174, R175, R177). -/
def State.refuseAccess (s : State) (i tag len : Nat) (write : Bool) (wFail : Nat) (f : PartFault) (row : Option Nat) : State :=
  let ca := f.row == 10
  let s := ((s.bump Reg.hostFaults i).bump Reg.translationFaults).aerError i (if ca then 15 else 20) write
  let s := if f.cause = 3 ∧ (f.detail = 3 ∨ f.detail = 4) then s.bump Reg.guardRefusals i else s
  let s := if write then s else s.refuseRead i tag len (if ca then .ca else .ur)
  s.translationFault i wFail len f.cause f.detail (if f.cause = 3 ∨ f.cause = 4 then row else none) write

/-! ### Poison (R173) -/

/-- POISON_READ (R173, R177): `ia` is the first poisoned byte, `cause` 1 carrier, 2 touch timeout, 3 ECC. -/
def State.poisonRead (s : State) (i tag ia len cause c : Nat) : State :=
  let x := limited s.host.poisons i s.clauseNow
  let goes := x.1 && s.mgmtGoes i
  let s := s.modHost (fun h => { h with poisons := Tbl.put h.poisons i (s.clauseNow, if goes then 0 else x.2) })
  if x.1 then
    s.recordMgmt i 0x11 i 0x003 (layout [(8, ia), (4, len), (1, cause), (1, c), (2, s.routingId i), (2, tag),
      (2, sat 65535 x.2), (4, 0)])
  else s

/-! ### Reads (R170, R171, R92) -/

/-- The job of a host read. -/
def State.readJob (s : State) (id : Nat) : Option ReadJob := s.host.reads.find? (fun j => j.id == id)

/-- The job of a host read replaced. -/
def State.putJob (s : State) (j : ReadJob) : State :=
  s.modHost (fun h => { h with reads := h.reads.map (fun k => if k.id = j.id then j else k) })

/-- The parts of a request that would be held now (R86). -/
def State.heldPartsOf (s : State) (ps : List WPart) : List WPart :=
  ps.filter (fun p => !(s.sliceResident (carrierOf s.carrierCount p.ia) (segmentOf p.ia)))

/-- A host read with every part allowed: its parts go to the carriers or are held. -/
def State.startRead (s : State) (i off len tag : Nat) (ps : List WPart) : State :=
  let id := s.host.nextRead
  let j : ReadJob := ⟨id, i, tag, off, len, s.now, ps.map (fun p => ⟨p.ia, p.len, none, 0, false⟩)⟩
  let s := s.modHost (fun h => { h with reads := h.reads ++ [j], nextRead := id + 1 })
  s.each ps.zipIdx (fun s x => s.imageAccess 2 i false x.1.ia x.1.len [] false (.hostRead id x.2))

/-- A host read is translated: refused as a whole, started, or, while the held-read store has no place, kept waiting
with every later read (R92). -/
def State.takeRead (s : State) (i off len tag : Nat) : State :=
  if !s.windowsOpen then s.refuseAccess i tag len false off ⟨8, 1, s.get Reg.imageState⟩ none
  else
    let ps := s.partsOf i off len
    match s.decidingFault i false ps with
    | some (p, f) => s.refuseAccess i tag len false p.w f p.row
    | none => s.startRead i off len tag ps

/-- A read finds a place among the 512 that the non-posted credits stand for (R168), and for its held parts. -/
def State.readRoom (s : State) (i off len : Nat) : Bool :=
  decide (s.host.reads.length < 512) && (!s.windowsOpen || decide (s.heldReadParts + (s.heldPartsOf (s.partsOf i off len)).length ≤ 4096))

/-- HOST_READ: taken, or waiting behind reads that wait. -/
def State.hostReadNow (s : State) (c : Instr) (i off len tag : Nat) : State :=
  if s.host.readWait.isEmpty && s.readRoom i off len then s.takeRead i off len tag
  else s.modHost (fun h => { h with readWait := h.readWait ++ [c] })

/-- Waiting reads are taken in order while places are free. -/
def State.readWaitGo (s : State) : List Instr → State
  | [] => s.modHost (fun h => { h with readWait := [] })
  | .hostRead i ⟨b, off⟩ len tag :: r =>
    if s.readRoom i off len then (s.takeRead i off len tag).readWaitGo r
    else s.modHost (fun h => { h with readWait := .hostRead i ⟨b, off⟩ len tag :: r })
  | _ :: r => s.readWaitGo r

/-- Waiting reads are tried again. -/
def State.runReadWait (s : State) : State := s.readWaitGo s.host.readWait

/-- The parts at the front of a job that have their data and are not queued yet: their numbers. -/
def readyParts : Nat → List ReadPart → List Nat
  | _, [] => []
  | k, p :: r => if p.sent then readyParts (k + 1) r else if p.data.isSome then k :: readyParts (k + 1) r else []

/-- Completions of job `id` whose turn has come join port 9, in address order (R170). -/
def State.pushCompletions (s : State) (id : Nat) : State :=
  match s.readJob id with
  | none => s
  | some j =>
    let ks := readyParts 0 j.parts
    let s := s.putJob { j with parts := j.parts.zipIdx.map (fun x => if ks.contains x.2 then { x.1 with sent := true } else x.1) }
    s.each ks (fun s k => s.enqueue 9 2 j.i (.cpl id k) ((j.parts[k]?).map (·.len) |>.getD 0))

/-- Part k of job `id` has its data, poisoned when `cause` is not 0 (its payload then reads as zeros, R173); `bad` is
the offset of the first poisoned byte. A job that a reset has abandoned takes nothing. -/
def State.readData (s : State) (id k : Nat) (data : List Byte) (cause bad : Nat) : State :=
  match s.readJob id with
  | none => s
  | some j =>
    match j.parts[k]? with
    | none => s
    | some p =>
      let d := if cause = 0 then slice data 0 p.len else zeros p.len
      let s := s.putJob { j with parts := j.parts.zipIdx.map (fun x =>
        if x.2 = k then { x.1 with data := some d, poison := cause } else x.1) }
      let s := if cause = 0 then s else s.poisonRead j.i j.tag (p.ia + bad) p.len cause (carrierOf s.carrierCount p.ia)
      s.pushCompletions id

/-- A completion leaves (R170, R173); with the last of its read the job ends. -/
def State.sendCompletion (s : State) (id k : Nat) : State :=
  match s.readJob id with
  | none => s
  | some j =>
    match j.parts[k]? with
    | none => s
    | some p =>
      let before := (j.parts.take k).foldl (fun a q => a + q.len) 0
      let s := s.emit (.completion j.i j.tag .sc (p.poison != 0) (j.len - before) (p.data.getD []))
      let s := if p.poison = 0 then s else s.bump Reg.hostPoisoned j.i
      if k + 1 = j.parts.length then s.modHost (fun h => { h with reads := h.reads.filter (fun q => q.id != id) }) else s

/-! ### Writes (R54, R24, R134, R135, R189) -/

/-- The bytes of each part of a write. -/
def partData (off : Nat) (data : List (Option Byte)) (p : WPart) : List (Option Byte) := (data.drop (p.w - off)).take p.len

/-- Payload of accepted host writes that waits on the carrier ports. -/
def State.portBytes (s : State) : Nat :=
  s.sched.ports.foldl (fun a q => (q.2.entries ++ q.2.outside).foldl (fun a e => match e.work with
    | .image true _ _ _ _ (.hostWrite _ _) => a + e.payload
    | _ => a) a) 0

/-- Payload of a message that waits on a link of carrier c, when it is a host write's. -/
def State.hostWriteBytes (s : State) (c : Nat) (m : Msg) : Nat :=
  if m.op = 0x02 ∨ m.op = 0x03 then
    match (Tbl.getD s.carriers c Carrier.reset).reqs.find? (fun r => r.tag == m.tag) with
    | some r => (match r.own with | .hostWrite _ _ => r.len | _ => 0)
    | none => 0
  else 0

/-- Payload of accepted host writes that has been granted and has not been transmitted (step 6 of Table 1.7). -/
def State.linkBytes (s : State) : Nat :=
  s.links.foldl (fun a x => x.2.queue.foldl (fun a g => g.msgs.foldl (fun a m => a + s.hostWriteBytes (x.1 / 2) m) a) a) 0

/-- The posted receive buffer (R24): accepted host writes from their acceptance to their transmission. -/
def State.postedBytes (s : State) : Nat := s.portBytes + s.linkBytes

/-- A write whose parts all pass is accepted now: the governor (R54), the retain buffer (R135) and the posted receive
buffer (R24) have room. Of an accepted write to a slice that is not resident, what the held-write store cannot take waits
in the posted receive buffer (R92). -/
def State.writeRoom (s : State) (ps : List WPart) (runs : List (Nat × List Byte)) (n : Nat) : Bool :=
  let held := (s.heldPartsOf ps).foldl (fun a p => a + p.len) 0
  s.admits (ps.map (·.ia)) && s.retainRoom runs &&
  decide (s.postedBytes + (s.heldWriteBytes + held - heldStore) + (n - held) ≤ 65536)

/-- An accepted write (R3, R25, R111, R134): its segments are dirty, it takes its number, its parts go to their ports,
and its copies to the partner. -/
def State.acceptWrite (s : State) (i off : Nat) (data : List (Option Byte)) (poison : Bool) (ps : List WPart) : State :=
  let runs := s.copyRuns (ps.map (fun p => (p.ia, partData off data p)))
  let s := s.dirtySegments (ps.map (·.ia))
  let s := s.numberWrite i ps.length (if s.sendsCopies then runs.length else 0)
  let num := s.lastWrite i
  let s := s.each ps (fun s p =>
    s.imageAccess (s.partService p) i true p.ia p.len (partData off data p) poison (.hostWrite i num))
  (s.copyWrite i num runs).pruneWrites

/-- A write at the head of the posted path (R171): refused or accepted; none while it waits. -/
def State.tryWrite (s : State) (i off : Nat) (data : List (Option Byte)) (eccBad : Bool) : Option State :=
  let n := data.length
  if !s.windowsOpen then some (s.refuseAccess i 0 n true off ⟨8, 1, s.get Reg.imageState⟩ none)
  else if s.persist.writesStopped then none
  else
    let ps := s.partsOf i off n
    match s.decidingFault i true ps with
    | some (p, f) => some (s.refuseAccess i 0 n true p.w f p.row)
    | none =>
      if s.writeRoom ps (s.copyRuns (ps.map (fun p => (p.ia, partData off data p)))) n then
        let s := if eccBad then (s.aerUncor 0 22).raise 0 0x004 0 else s
        some (s.acceptWrite i off data eccBad ps)
      else none

/-! ### Requests of the device (R169) -/

/-- A read of host memory is asked for: it goes through port 9, service 3. -/
def State.hostFetch (s : State) (i : Nat) (what : HostFor) (addr len : Nat) : State :=
  let tag := s.host.nextTag
  let s := s.modHost (fun h => { h with reqs := h.reqs ++ [⟨tag, false, what, i, addr, len, []⟩], nextTag := (tag + 1) % 16384 })
  s.enqueue 9 3 i (.hostRd tag) 0

/-- The non-posted requests that the host port keeps outstanding (R169). -/
def State.tagLimit (s : State) : Nat :=
  let flit := s.get Reg.hostLinkFlit == 1
  if flit && s.host.tag14 then 1024 else if !flit && s.host.tag10 then 768 else 256

/-- The host port can take one more read request (R169): the tags allow it, and there is room for the whole read in the
completion buffer. -/
def State.fetchRoom (s : State) (len : Nat) : Bool :=
  let out := s.host.reqs.filter (·.sent)
  decide (out.length < s.tagLimit) && decide (out.foldl (fun a r => a + r.len) 0 + len ≤ 524288)

/-- A read request leaves. -/
def State.fetchLeaves (s : State) (tag : Nat) : State :=
  match s.host.reqs.find? (fun r => r.tag == tag) with
  | none => s
  | some r =>
    let s := s.modHost (fun h => { h with reqs := h.reqs.map (fun q => if q.tag = tag then { q with sent := true } else q) })
    s.emit (.hostRead tag r.addr r.len)

/-- The outstanding request of a tag. -/
def State.outstanding (s : State) (tag : Nat) : Option HostReq := s.host.reqs.find? (fun r => r.sent && r.tag == tag)

/-- The request of a tag ends. -/
def State.dropFetch (s : State) (tag : Nat) : State :=
  s.modHost (fun h => { h with reqs := h.reqs.filter (fun r => r.tag != tag) })

/-- Row 15: a completion that matches no outstanding tag. -/
def State.unexpectedCompletion (s : State) : State := s.aerError 0 16 false

/-! ### Commands of this chapter that stand alone -/

/-- Data of a host read in a host port buffer have an uncorrectable ECC error (R173, row 11): the first completion of the
read that still waits there is poisoned with cause 3. The error's place in it is not known: IA is its first byte. -/
def State.bufferPoison (s : State) (i tag : Nat) : State :=
  match s.host.reads.find? (fun j => j.i == i && j.tag == tag) with
  | none => s
  | some j =>
    let queued (k : Nat) : Bool := ((s.port 9).entries ++ (s.port 9).outside).any (fun e => e.work == .cpl j.id k)
    match j.parts.zipIdx.find? (fun x => x.1.data.isSome && x.1.poison == 0 && (!x.1.sent || queued x.2)) with
    | none => s
    | some (p, k) =>
      let s := s.putJob { j with parts := j.parts.zipIdx.map (fun x =>
        if x.2 = k then { x.1 with data := some (zeros p.len), poison := 3 } else x.1) }
      s.poisonRead i tag p.ia p.len 3 (carrierOf s.carrierCount p.ia)

/-- MALFORMED_REQUEST (R174): rows 2 to 7, 11, 13, 15 and 16 of Table 7.8. A poisoned write falls under row 5 first. -/
def State.badTlp (s : State) (k : BadTlp) (i tag : Nat) (posted : Bool) : State :=
  let fatal (b : Nat) : State := (s.aerUncor 0 b).raise 0 0x004 0
  match k with
  | .malformed => fatal 18
  | .flowControlProtocol => fatal 13
  | .receiverOverflow => fatal 17
  | .dataLinkProtocol => fatal 4
  | .receiverError => s.aerCor 0 0
  | .badTlp => s.aerCor 0 6
  | .badDllp => s.aerCor 0 7
  | .replayTimer => s.aerCor 0 12
  | .replayRollover => s.aerCor 0 8
  | .unsupported => s.unsupported i tag 0 posted
  | .decodeDisabled => s.unsupported i tag 0 posted
  | .bar0Shape => s.unsupported i tag 0 posted
  | .poisonedWrite => if s.decodes i then s.aerUncor i 12 else s.unsupported i tag 0 true
  | .bufferEcc => if posted then fatal 22 else s.bufferPoison i tag
  | .unexpectedCompletion => s.unexpectedCompletion
  | .correctedEcc => s.aerCor 0 14

/-- MALFORMED_REQUEST (R174). -/
def execMalformedRequest (k : BadTlp) (i : Fin 256) (posted : Bool) (tag : Nat) (s : State) :
    Host.Outcome State Fault Refusal :=
  actRom s (fun s => s.beforeCut (fun s => s.badTlp k i.val tag posted))

/-- Bytes of a write that are not enabled lie in its first and its last double word (the byte enables of a TLP). -/
def enablesFit (off : Nat) (data : List (Option Byte)) : Bool :=
  ((data.drop (4 - off % 4)).take (data.length - (4 - off % 4) - ((off + data.length - 1) % 4 + 1))).all (·.isSome)

/-- BAR_RESIZE (R166): the BAR Size encoding is log2 of the size in MiB. For VF BAR2 the state holds VF Memory Space
Enable; that of the PF is the operand `decode` (log 16). -/
def execBarResize (vf : Bool) (enc : Nat) (decode : Bool) (s : State) : Host.Outcome State Fault Refusal :=
  act s (fun s => s.configCall 0 (fun s =>
    let listed := decide ((if vf then 10 else 16) ≤ enc) && decide (enc ≤ 22)
    if (if vf then s.host.vfMem else decode) || !listed then s.bump Reg.hostResizeRefused
    else s.modHost (fun h => if vf then { h with vfWin := enc } else { h with pfWin := enc })))

/-- The OVERFLOW records of instance i that can be written now are (R255). -/
def State.retryOverflows (s : State) (i : Nat) : State :=
  s.each ((s.rowsOf Reg.queueLost).filter (fun q => s.queueOwner q == some i)) (fun s q => s.overflowRecord q)

/-- BUS_MASTER_CHANGE (R182): with Bus Master Enable set again, OVERFLOW records and the messages that waited are
issued. -/
def execBusMasterChange (i : Fin 256) (on : Bool) (s : State) : Host.Outcome State Fault Refusal :=
  actRom s (fun s => s.configCall i.val (fun s =>
    let s := s.modHost (fun h => { h with
      busMaster := if on then h.busMaster.add i.val else h.busMaster.remove i.val })
    if on then (s.retryOverflows i.val).retryMessages i.val else s))

/-- PME_TURN_OFF (R157, Table 7.1): answered with PME_TO_Ack. -/
def execPmeTurnOff (s : State) : Host.Outcome State Fault Refusal :=
  actRom s (fun s => s.beforeCut (fun s => s.emit .pmeToAck))

end Sys2Proof.Machine
end

