-- ==== Sys2Proof/Machine/Dma.lean ====
section
/-!
DEFINITION. The DMA engine (spec/12_dma.md): rings and doorbells, descriptors, bursts, the shadow set and its hand-over,
completion, halts and commands, and the lines of the event fabric.
-/
namespace Sys2Proof.Machine

/-- The work in progress of channel k. -/
def State.chan (s : State) (k : Nat) : Chan := Tbl.getD s.dma.chans k Chan.reset

/-- The work in progress of channel k replaced. -/
def State.putChan (s : State) (k : Nat) (c : Chan) : State :=
  { s with dma := { s.dma with chans := Tbl.put s.dma.chans k c } }

/-- The work in progress of channel k changed by `f`. -/
def State.modChan (s : State) (k : Nat) (f : Chan → Chan) : State := s.putChan k (f (s.chan k))

/-- CH_STATE of channel k set. -/
def State.setChan (s : State) (k : Nat) (st : ChanState) : State := s.set Reg.chState k st.code

/-- The instance of channel k. -/
def State.chanInst (s : State) (k : Nat) : Nat := (s.chanOwner k).getD 0

/-! ### Active set (Tables 12.3 and 12.4) -/

/-- Descriptors of channel k's ring. -/
def ringSize (ring : Nat) : Nat := 8 * 2 ^ bits ring 3 0

/-- The base of a ring: a host address, or a window offset. -/
def ringBase (ring : Nat) : Nat := if bit ring 4 then bits ring 41 12 * 4096 else ring / 4096 * 4096

/-- REQ_MODE and REQ_LINE of channel k. -/
def State.reqMode (s : State) (k : Nat) : Nat := bits (s.get Reg.chCtrlActive k) 17 16
def State.reqLine (s : State) (k : Nat) : Nat := bits (s.get Reg.chCtrlActive k) 31 24

/-! ### The event fabric (R294, Table 12.11) -/

/-- Line l has a level. -/
def lineHasLevel (l : Nat) : Bool :=
  (decide (0x40 ≤ l) && decide (l ≤ 0x47)) || (decide (0x50 ≤ l) && decide (l ≤ 0x57)) || l == 0x59 || l == 0x5A

/-- The level of line l. A GPIO line follows its ball, as an output too (spec/19_electrical_package.md Table 19.14,
log 41). -/
def State.lineLevel (s : State) (l : Nat) : Bool :=
  if 0x40 ≤ l ∧ l ≤ 0x47 then bit s.events.gpio (l - 0x40)
  else if 0x50 ≤ l ∧ l ≤ 0x57 then decide (s.get Reg.govState (l - 0x50) ≤ 1)
  else if l = 0x59 then s.image == .opened
  else if l = 0x5A then s.mirrorState == .paired
  else false

/-- The owner of line l; none of the RSVD lines 0x5B to 0xBF. -/
def State.lineOwnerOf (s : State) (l : Nat) : Option Nat :=
  if l < 0x40 then s.chanOwner l else if l ≤ 0x5A then some 0 else if l < 0xC0 then none else some (s.get Reg.lineOwner l)

/-- A channel of instance i may use line l (R294). -/
def State.mayUseLine (s : State) (i l : Nat) : Bool :=
  s.lineOwnerOf l == some i || (decide (0x40 ≤ l) && decide (l ≤ 0x5A) && s.get Reg.lineShare l == 1)

/-! ### Records and halts (Table 12.9, R293, R296) -/

/-- A DMA record goes to a local queue of the instance; one that it does not hold is counted as dropped (R256). -/
def State.dmaRecord (s : State) (k type source queue : Nat) (payload : List Byte) : State :=
  let i := s.chanInst k
  if queue < s.get Reg.effQueueCount i then s.recordTo (s.get Reg.effQueueFirst i + queue) type i source payload
  else s.bump Reg.eventsDropped i

/-- The local number of channel k. -/
def State.localChan (s : State) (k : Nat) : Nat := k - s.get Reg.effDmaFirst (s.chanInst k)

/-- Channel k becomes HALTED: FAULT, DMA_HALT and source 0x071 (R296). -/
def State.haltChan (s : State) (k : Nat) (f : ChanFault) : State :=
  let d := (s.chan k).desc.getD ⟨0, 0, 0, 0, 0, 0⟩
  let payload := layout [(1, s.localChan k), (1, bits d.control 63 60), (1, f.cause), (1, f.phase),
    (4, if f.phase = 0 then 0 else d.tag), (4, s.get Reg.chCons k), (4, f.off), (8, f.addr)]
  let s := ((s.setChan k .halted).setBlob Reg.chFault k payload).bump Reg.dmaHalts
  let s := s.modChan k (fun c => { c with stop := 0, issued := f.off, fetching := none })
  let s := s.dmaRecord k 4 0x071 (bits (s.get Reg.chCtrlActive k) 13 8) payload
  s.raise (s.chanInst k) 0x071 k

/-- Channel k has come to rest after DISABLE or ABORT, or by a reset. -/
def State.chanOff (s : State) (k : Nat) : State :=
  let was := s.chanState k
  let s := (s.putChan k Chan.reset).setChan k .disabled
  if was = .halted then s.withdrawUnit (s.chanInst k) 0x071 k else s

/-! ### Descriptor fetch (R278, R281, R282) -/

/-- The cause of Table 12.9 for a translation fault of an operand. -/
def haltCause (f : PartFault) : Nat := f.cause + 5

/-- A window operand is translated: its parts, or the cause and the window offset of the first that fails. -/
def State.dmaParts (s : State) (i w n : Nat) (write : Bool) : Except (Nat × Nat) (List WPart) :=
  if !s.windowsOpen then .error (6, w)
  else
    let ps := s.partsOf i w n
    match ps.find? (fun p => (s.partFault i write p).isSome) with
    | some p => .error (((s.partFault i write p).map haltCause).getD 7, p.w)
    | none => .ok ps

/-- A window offset as ADDRESS of Table 12.9. -/
def windowAddr (w : Nat) : Nat := 9223372036854775808 + w % 4398046511104

/-- `ps` finds a place in the held-read store for the parts of it that would be held (R86, R92). -/
def State.heldRoom (s : State) (ps : List WPart) : Bool :=
  (s.heldPartsOf ps).isEmpty || decide (s.heldReadParts + (s.heldPartsOf ps).length ≤ 4096)

/-- The next descriptor of channel k, when it would be held, finds a place. -/
def State.descRoom (s : State) (k : Nat) : Bool :=
  let ring := s.get Reg.chRingActive k
  !(bit ring 4) || (match s.dmaParts (s.chanInst k) (ringBase ring + 64 * (s.get Reg.chCons k % ringSize ring)) 64 false with
    | .error _ => true
    | .ok ps => s.heldRoom ps)

/-- The next descriptor of channel k is read. -/
def State.fetchDesc (s : State) (k : Nat) : State :=
  let i := s.chanInst k
  let ring := s.get Reg.chRingActive k
  let addr := ringBase ring + 64 * (s.get Reg.chCons k % ringSize ring)
  let id := s.dma.nextBurst + 1
  let s := { s with dma := { s.dma with nextBurst := id } }
  let s := (s.setChan k .running).modChan k (fun c => { c with fetching := some id, desc := none, issued := 0, paid := false })
  if bit ring 4 then
    match s.dmaParts i addr 64 false with
    | .error (cause, w) => s.haltChan k ⟨cause, 0, windowAddr w, 0⟩
    | .ok ps => s.each ps (fun s p => s.imageAccess 3 i false p.ia p.len [] false (.dmaRead k id 0))
  else s.hostFetch i (.descriptor k id) addr 64

/-- A channel between descriptors: IDLE, WAITING for a request, or running with the next one (R279, R287). -/
def State.chanNext (s : State) (k : Nat) : State :=
  let c := s.chan k
  let st := s.chanState k
  if c.fetching.isSome || c.desc.isSome || !(st == .idle || st == .waiting || st == .running) then s
  else if s.get Reg.chProd k = s.get Reg.chCons k then s.setChan k .idle
  else if s.cutPassed || s.dma.held || s.resetting (s.chanInst k) || !(s.descRoom k) then s
  else if s.reqMode k = 1 ∧ c.paid = false then
    (if s.get Reg.chReqCount k = 0 then s.setChan k .waiting
     else (s.set Reg.chReqCount k (s.get Reg.chReqCount k - 1)).fetchDesc k)
  else s.fetchDesc k

/-- Every channel that waits between descriptors is tested. -/
def State.chansNext (s : State) : State := s.each (s.rowsOf Reg.chState) (fun s k => s.chanNext k)

/-- A pulse on a line, and what it starts. -/
def State.pulseLine (s : State) (l : Nat) : State := (s.pulse l).chansNext

/-! ### Completion and settling (R292, R296, Table 12.10) -/

/-- The descriptor of channel k completes (R292). -/
def State.completeDesc (s : State) (k : Nat) (d : Desc) : State :=
  let c := s.chan k
  let op := bits d.control 63 60
  let index := s.get Reg.chCons k
  let s := (s.set Reg.chCons k ((index + 1) % 4294967296)).bump Reg.chDescriptors k
  let s := s.setBlob Reg.chFault k []
  let s := s.modChan k (fun c => { c with desc := none, issued := 0, bursts := [], differ := none })
  let result := if op = 5 then c.differ.getD 18446744073709551615 else d.count * d.unit
  let s := if bit d.control 47 then
      s.dmaRecord k 3 0x070 (if bit d.control 44 then bits d.control 43 38 else bits (s.get Reg.chCtrlActive k) 13 8)
        (layout [(1, s.localChan k), (1, op), (1, b2n (op == 5 && c.differ.isSome)), (1, 0), (4, d.tag), (4, index), (4, 0),
          (8, result)])
    else s
  let s := if bit d.control 46 && !(op == 5 && bit d.control 45 && c.differ.isSome) then s.pulse k else s
  if c.stop = 1 then s.chanOff k else s.chansNext

/-- The COMPARE of channel k is decided: a difference is found and no burst before it is in flight. -/
def Chan.decided (c : Chan) : Bool :=
  match c.differ with
  | some x => c.bursts.all (fun b => decide (x < b.off))
  | none => false

/-- Channel k after a burst has ended: it halts, stops, or completes its descriptor when nothing remains. -/
def State.settleChan (s : State) (k : Nat) : State :=
  let c := s.chan k
  if c.stop = 2 then (if c.bursts.isEmpty then s.chanOff k else s)
  else match c.fault with
    | some f => if c.bursts.isEmpty then (s.modChan k (fun c => { c with fault := none })).haltChan k f else s
    | none =>
      match c.desc with
      | some d => if c.decided || (c.bursts.isEmpty && d.count ≤ c.issued) then s.completeDesc k d else s
      | none => s

/-- Burst `b` of channel k fails (R296): it leaves without a write, and the fault of the lowest burst is kept. -/
def State.burstFails (s : State) (k : Nat) (b : Burst) (cause phase addr : Nat) : State :=
  let s := s.modChan k (fun c => { c with
    bursts := c.bursts.filter (fun x => x.id != b.id),
    fault := match c.fault with
      | some f => if f.off ≤ b.off then some f else some ⟨cause, phase, addr, b.off⟩
      | none => some ⟨cause, phase, addr, b.off⟩ })
  s.settleChan k

/-! ### Bursts (R283 to R286) -/

/-- OPCODE and the element size of a descriptor. -/
def Desc.op (d : Desc) : Nat := bits d.control 63 60

/-- The descriptor that 64 bytes spell (Table 12.6); a window offset is its bits 41:0. -/
def descOf (b : List Byte) : Desc :=
  let c := field b 0 8
  let place (bitNo v : Nat) : Nat := if bit c bitNo then v % 4398046511104 else v
  { control := c, src := place 55 (field b 8 8), dst := place 54 (field b 16 8), count := field b 24 4,
    index := if bits c 63 60 = 4 then field b 32 8 else place 53 (field b 32 8), tag := field b 40 4 }

/-- The end of a space (R284). -/
def spaceEnd (window : Bool) : Nat := if window then 4398046511104 else 18446744073709551616

/-- A range reaches beyond its space. -/
def beyond (window : Bool) (a n : Nat) : Bool := decide (spaceEnd window < a + n)

/-- Bytes of one index entry. -/
def Desc.entry (d : Desc) : Nat := if bit d.control 52 then 8 else 4

/-- A descriptor passes R282 and the range checks of R284. -/
def Desc.sound (d : Desc) : Bool :=
  let op := d.op
  let n := d.count * d.unit
  decide (1 ≤ op) && decide (op ≤ 5) && decide (bits d.control 51 48 ≤ 9) && d.count != 0 &&
  bits d.control 59 56 == 0 && bits d.control 37 0 == 0 &&
  !(beyond (bit d.control 54) d.dst (if op = 3 then 0 else n)) &&
  !(op != 4 && beyond (bit d.control 55) d.src (if op = 2 then 0 else n)) &&
  !((op == 2 || op == 3) && beyond (bit d.control 53) d.index (d.count * d.entry))

/-- Bytes to the next 4 KiB boundary. -/
def toPage (a : Nat) : Nat := 4096 - a % 4096

/-- Bytes or elements of the burst that begins at `off` (R285). -/
def Desc.burstLen (d : Desc) (off : Nat) : Nat :=
  let left := d.count - off
  match d.op with
  | 5 => min left (min (toPage (d.src + off)) (toPage (d.dst + off)))
  | 2 => min left (min 64 (max 1 (toPage (d.dst + off * d.unit) / d.unit)))
  | 3 => min left (min 64 (max 1 (toPage (d.src + off * d.unit) / d.unit)))
  | _ => min left (toPage (d.dst + off))

/-- Bytes of read data that a burst holds in the read data buffer. -/
def Desc.burstBytes (d : Desc) (n : Nat) : Nat :=
  match d.op with | 4 => 0 | 5 => 2 * n | _ => n * d.unit

/-- The pieces of a host range: each within one aligned block of `lim` bytes, hence within one 4 KiB block and within
Max_Read_Request_Size of a read or Max_Payload_Size of a write, 512 B (R169, log 19). -/
def hostPieces (lim : Nat) : Nat → Nat → Nat → Nat → List (Nat × Nat × Nat)
  | 0, _, _, _ => []
  | f + 1, a, n, d =>
    if n = 0 then []
    else
      let m := min n (lim - a % lim)
      (a, m, d) :: hostPieces lim f (a + m) (n - m) (d + m)

/-- The reads of a range: (window, address, length, place in the burst's buffer). -/
def rangeReads (lim : Nat) (window : Bool) (a n d : Nat) : List (Bool × Nat × Nat × Nat) :=
  if window then [(true, a, n, d)] else (hostPieces lim n a n d).map (fun p => (false, p.1, p.2.1, p.2.2))

/-- Reads of burst b with the parts that translation gives, or the cause and the offset that fails. -/
def State.planReads (s : State) (i : Nat) : List (Bool × Nat × Nat × Nat) → Except (Nat × Nat) (List (BurstRead × Nat))
  | [] => .ok []
  | (w, a, n, d) :: r =>
    match s.planReads i r with
    | .error e => if w then (match s.dmaParts i a n false with | .error e => .error e | .ok _ => .error e) else .error e
    | .ok rest =>
      if w then
        match s.dmaParts i a n false with
        | .error e => .error e
        | .ok ps => .ok (ps.map (fun p => (⟨true, p.w, p.len, none, d + (p.w - a)⟩, p.ia)) ++ rest)
      else .ok ((⟨false, a, n, none, d⟩, 0) :: rest)

/-- A burst of channel k replaced. -/
def State.putBurst (s : State) (k : Nat) (b : Burst) : State :=
  s.modChan k (fun c => { c with bursts := c.bursts.map (fun x => if x.id = b.id then b else x) })

/-- The reads of a burst's phase leave, wait for places in the held-read store, or the burst fails. -/
def State.startReads (s : State) (k : Nat) (b : Burst) (l : List (Bool × Nat × Nat × Nat)) : State :=
  let i := s.chanInst k
  match s.planReads i l with
  | .error (cause, w) => s.burstFails k b cause b.phase (windowAddr w)
  | .ok rs =>
    if !(s.heldRoom (rs.filterMap (fun x => if x.1.window then some ⟨x.1.addr, x.1.len, none, x.2⟩ else none))) then
      s.putBurst k { b with reads := [], waitReads := true }
    else
    let s := s.putBurst k { b with reads := rs.map (·.1), waitReads := false }
    s.each rs.zipIdx (fun s x =>
      let r := x.1.1
      if r.window then s.imageAccess 3 i false x.1.2 r.len [] false (.dmaRead k b.id x.2)
      else s.hostFetch i (.dmaRead k b.id x.2) r.addr r.len)

/-- The buffer of a burst: its reads' data at their places. -/
def Burst.buffer (b : Burst) (n : Nat) : List Byte :=
  b.reads.foldl (fun l r => l.take r.dst ++ (slice (r.data.getD []) 0 r.len) ++ l.drop (r.dst + r.len)) (zeros n)

/-- The reads of a burst's phase (Table 12.8): its index entries, or its source. -/
def Desc.phaseReads (lim : Nat) (d : Desc) (b : Burst) : List (Bool × Nat × Nat × Nat) :=
  let w := bit d.control 55
  if b.phase = 1 then rangeReads lim (bit d.control 53) (d.index + b.off * d.entry) (b.n * d.entry) 0
  else match d.op with
  | 2 => b.idx.zipIdx.flatMap (fun x => rangeReads lim w (d.src + x.1) d.unit (x.2 * d.unit))
  | 3 => rangeReads lim w (d.src + b.off * d.unit) (b.n * d.unit) 0
  | 5 => rangeReads lim w (d.src + b.off) b.n 0 ++ rangeReads lim (bit d.control 54) (d.dst + b.off) b.n b.n
  | _ => rangeReads lim w (d.src + b.off) b.n 0

/-- The reads of the phase of burst b of channel k are started. -/
def State.readPhase (s : State) (k : Nat) (d : Desc) (b : Burst) : State :=
  s.startReads k b (d.phaseReads s.host.mrrs b)

/-- Bursts of channel k whose reads wait for places are tried again. -/
def State.pumpReads (s : State) (k : Nat) : State :=
  s.each ((s.chan k).bursts.filter (·.waitReads)) (fun s b =>
    match (s.chan k).bursts.find? (fun x => x.id == b.id), (s.chan k).desc with
    | some x, some d => s.readPhase k d x
    | _, _ => s)

/-- The destination writes of a burst with its bytes. -/
def Desc.destWrites (d : Desc) (b : Burst) (data : List Byte) : List (Bool × Nat × List Byte) :=
  let w := bit d.control 54
  let put (a : Nat) (l : List Byte) : List (Bool × Nat × List Byte) :=
    if w then [(true, a, l)] else (hostPieces 512 l.length a l.length 0).map (fun p => (false, p.1, slice l p.2.2 p.2.1))
  if d.op = 3 then b.idx.zipIdx.flatMap (fun x => put (d.dst + x.1) (slice data (x.2 * d.unit) d.unit))
  else put (d.dst + b.off * d.unit) data

/-- A destination write can be issued now: before the cut; an image write also needs the governor's admission (R54,
R297), and a place where it would be held (R86). -/
def State.destRoom (s : State) (ps : List WPart) : Bool :=
  !s.cutPassed && s.admits (ps.map (·.ia)) &&
  (let held := (s.heldPartsOf ps).foldl (fun a p => a + p.len) 0
   held == 0 || decide (s.heldWriteBytes + held ≤ heldStore))

/-- Writes of burst `id` of channel k leave in order until one has to wait; each part uses the mapping in force when its
translation starts (Table 12.13). -/
def State.writesGo (s : State) (k id : Nat) : List (Bool × Nat × List Byte) → State
  | [] => s
  | (w, a, data) :: r =>
    let i := s.chanInst k
    match (s.chan k).bursts.find? (fun b => b.id == id) with
    | none => s
    | some b =>
      if w then
        match s.dmaParts i a data.length true with
        | .error (cause, x) => s.burstFails k b cause 3 (windowAddr x)
        | .ok ps =>
          if s.destRoom ps then
            let s := s.putBurst k { b with waitWrites := r, writes := b.writes + ps.length }
            let s := s.dirtySegments (ps.map (·.ia))
            let s := s.each ps (fun s p =>
              s.imageAccess 3 i true p.ia p.len ((slice data (p.w - a) p.len).map some) false (.dmaWrite k id i 0))
            s.writesGo k id r
          else s
      else if s.cutPassed then s
      else
        let s := s.putBurst k { b with waitWrites := r, writes := b.writes + 1 }
        (s.enqueue 9 3 i (.hostWr k id a data) data.length).writesGo k id r

/-- Bursts of channel k whose data are here issue their writes; the writes of a SCATTER leave burst after burst, so that
the higher element prevails (Table 12.8). -/
def State.pumpWrites (s : State) (k : Nat) : State :=
  let c := s.chan k
  let scatter := c.desc.any (fun d => d.op == 3)
  let go := if scatter then c.bursts.takeWhile (fun b => b.phase == 3) else c.bursts
  s.each go (fun s b =>
    match (s.chan k).bursts.find? (fun x => x.id == b.id) with
    | some x =>
      let first := (s.chan k).bursts.takeWhile (fun y => y.id != b.id)
      if x.phase = 3 ∧ (scatter = false ∨ first.all (fun y => y.waitWrites.isEmpty) = true) then s.writesGo k x.id x.waitWrites
      else s
    | none => s)

/-- Every channel's waiting reads and writes are tried. -/
def State.pumpAllWrites (s : State) : State :=
  s.each (s.dma.chans.map (·.1)) (fun s k => (s.pumpReads k).pumpWrites k)

/-- Every destination of a burst translates, or the cause and the offset of the first that does not. -/
def State.destFault (s : State) (i : Nat) : List (Bool × Nat × List Byte) → Option (Nat × Nat)
  | [] => none
  | (w, a, l) :: r =>
    if w then (match s.dmaParts i a l.length true with | .error e => some e | .ok _ => s.destFault i r)
    else s.destFault i r

/-- Phase 3 of a burst: its destination is translated, and its writes wait to leave. -/
def State.startWrites (s : State) (k : Nat) (d : Desc) (b : Burst) (data : List Byte) : State :=
  let l := d.destWrites b data
  match s.destFault (s.chanInst k) l with
  | some (cause, w) => s.burstFails k { b with phase := 3 } cause 3 (windowAddr w)
  | none => (s.putBurst k { b with phase := 3, waitWrites := l }).pumpWrites k

/-- The bytes of a COPY whose ranges overlap in one space are free values where they may be concerned (R284). -/
def State.copyBytes (s : State) (d : Desc) (off : Nat) (data : List Byte) : State × List Byte :=
  let n := d.count
  if d.op = 1 ∧ bit d.control 55 = bit d.control 54 ∧ d.src < d.dst + n ∧ d.dst < d.src + n then
    (s.drawn, data.zipIdx.map (fun x =>
      let b := off + x.2
      let inDst := decide (d.dst ≤ d.src + b) && decide (d.src + b < d.dst + n)
      let inSrc := decide (d.src ≤ d.dst + b) && decide (d.dst + b < d.src + n)
      if inDst || inSrc then Config.copyByte (s.draws * 4096 + x.2) else x.1))
  else (s, data)

/-- The first place at which two equal-length lists differ. -/
def firstDiff : Nat → List Byte → List Byte → Option Nat
  | k, a :: r, b :: t => if a = b then firstDiff (k + 1) r t else some k
  | _, _, _ => none

/-- A burst with every read of its phase returned goes on. -/
def State.burstData (s : State) (k : Nat) (d : Desc) (b : Burst) : State :=
  if b.phase = 1 then
    let raw := b.buffer (b.n * d.entry)
    let idx := (List.range b.n).map (fun e => field raw (e * d.entry) d.entry)
    let b := { b with idx := idx, phase := 2, reads := [] }
    let bad := idx.find? (fun x => if d.op = 2 then beyond (bit d.control 55) (d.src + x) d.unit
      else beyond (bit d.control 54) (d.dst + x) d.unit)
    match bad with
    | some x =>
      if d.op = 2 then
        s.burstFails k b 10 2 (if bit d.control 55 then windowAddr (d.src + x) else (d.src + x) % 18446744073709551616)
      else
        s.burstFails k b 10 3 (if bit d.control 54 then windowAddr (d.dst + x) else (d.dst + x) % 18446744073709551616)
    | none => s.readPhase k d b
  else if d.op = 5 then
    let l := b.buffer (2 * b.n)
    let diff := firstDiff b.off (l.take b.n) (l.drop b.n)
    let s := s.modChan k (fun c => { c with
      bursts := c.bursts.filter (fun x => x.id != b.id),
      differ := match c.differ, diff with
        | some x, some y => some (min x y)
        | some x, none => some x
        | none, y => y })
    s.settleChan k
  else
    let x := s.copyBytes d b.off (b.buffer (b.n * d.unit))
    x.1.startWrites k d b x.2

/-- Data of read `slot` of burst `id` of channel k have come; those of a burst that is gone are dropped. -/
def State.dmaData (s : State) (k id slot : Nat) (data : List Byte) : State :=
  let c := s.chan k
  match c.bursts.find? (fun b => b.id == id), c.desc with
  | some b, some d =>
    let b := { b with reads := b.reads.zipIdx.map (fun x => if x.2 = slot then { x.1 with data := some data } else x.1) }
    let s := s.putBurst k b
    if b.reads.all (fun r => r.data.isSome) then s.burstData k d b else s
  | _, _ => s

/-- A descriptor has been read: it starts, or the channel halts with DECODE (R282). -/
def State.descData (s : State) (k id : Nat) (data : List Byte) : State :=
  let c := s.chan k
  if c.fetching != some id then s
  else if c.stop = 2 then s.chanOff k
  else
    let d := descOf data
    let ring := s.get Reg.chRingActive k
    let addr := ringBase ring + 64 * (s.get Reg.chCons k % ringSize ring)
    if d.sound then s.modChan k (fun c => { c with fetching := none, desc := some d, differ := none })
    else
      let s := (s.modChan k (fun c => { c with desc := some d })).haltChan k
        ⟨10, 0, if bit ring 4 then windowAddr addr else addr, 0⟩
      s.modChan k (fun c => { c with desc := none })

/-- A read of channel k fails with a cause of Table 12.9: the descriptor read, or read `slot` of burst `id`. -/
def State.dmaReadFails (s : State) (k id slot cause : Nat) : State :=
  let c := s.chan k
  if c.fetching = some id then
    if c.stop = 2 then s.chanOff k
    else
      let ring := s.get Reg.chRingActive k
      let addr := ringBase ring + 64 * (s.get Reg.chCons k % ringSize ring)
      s.haltChan k ⟨cause, 0, if bit ring 4 then windowAddr addr else addr, 0⟩
  else
    match c.bursts.find? (fun b => b.id == id) with
    | some b =>
      let addr := match b.reads[slot]? with | some r => (if r.window then windowAddr r.addr else r.addr) | none => 0
      s.burstFails k b cause b.phase addr
    | none => s

/-- `n` destination bytes of burst `id` have been granted on port 9 or accepted by the carrier engine (R292). -/
def State.dmaWritten (s : State) (k id n : Nat) : State :=
  let s := s.bump Reg.dmaBytes 0 n
  match (s.chan k).bursts.find? (fun b => b.id == id) with
  | none => s
  | some b =>
    let b := { b with writes := b.writes - 1, accepted := b.accepted + n }
    if b.writes = 0 ∧ b.waitWrites.isEmpty = true then
      (s.modChan k (fun c => { c with bursts := c.bursts.filter (fun x => x.id != id) })).settleChan k
    else s.putBurst k b

/-- Bursts in flight, and the read data that they hold. -/
def State.burstsInFlight (s : State) : Nat := s.dma.chans.foldl (fun a c => a + c.2.bursts.length) 0
def State.readBuffer (s : State) : Nat :=
  s.dma.chans.foldl (fun a c => match c.2.desc with
    | some d => c.2.bursts.foldl (fun a b => a + d.burstBytes b.n) a
    | none => a) 0

/-- Channel k may issue a burst now (R286 to R288, R296). -/
def State.mayBurst (s : State) (k : Nat) : Bool :=
  let c := s.chan k
  match c.desc with
  | none => false
  | some d =>
    (s.chanState k == .running || (s.chanState k == .stopping && c.stop == 1)) && c.fault.isNone && c.differ.isNone &&
    decide (c.issued < d.count) && decide (c.bursts.length < 4) &&
    decide (s.readBuffer + d.burstBytes (d.burstLen c.issued) ≤ 131072) &&
    (match s.reqMode k with
     | 2 => decide (0 < s.get Reg.chReqCount k)
     | 3 => s.lineLevel (s.reqLine k)
     | _ => true)

/-- The channel that issues the next burst (R286). -/
def State.chooseChan (s : State) : Option Nat :=
  if 32 ≤ s.burstsInFlight || s.dma.held || s.cutPassed then none
  else
    let prio (k : Nat) : Nat := bits (s.get Reg.chCtrlActive k) 2 0
    let turn (k : Nat) : Nat := (k + 63 - s.dma.last) % 64
    bestOf (fun a b => decide (prio b < prio a) || (prio a == prio b && decide (turn a < turn b)))
      ((s.dma.chans.map (·.1)).filter s.mayBurst)

/-- Channel k issues its next burst. -/
def State.issueBurst (s : State) (k : Nat) : State :=
  let c := s.chan k
  match c.desc with
  | none => s
  | some d =>
    let id := s.dma.nextBurst + 1
    let n := d.burstLen c.issued
    let b : Burst := ⟨id, c.issued, n, if d.op = 2 ∨ d.op = 3 then 1 else 2, [], [], 0, 0, [], false⟩
    let s := { s with dma := { s.dma with nextBurst := id, last := k } }
    let s := s.putChan k { c with issued := c.issued + n, bursts := c.bursts ++ [b] }
    let s := if s.reqMode k = 2 then s.set Reg.chReqCount k (s.get Reg.chReqCount k - 1) else s
    if d.op = 4 then
      let a := d.dst + b.off
      s.startWrites k d b ((List.range n).map (fun j => BitVec.ofNat 8 (d.index / 256 ^ ((a + j) % 8))))
    else s.readPhase k d b

/-- DMA_BURST_ISSUE (R286): waiting descriptors and writes are tried, and one burst is issued where a place is free. -/
def State.burstIssue (s : State) : State :=
  let s := (s.chansNext).pumpAllWrites
  match s.chooseChan with
  | some k => s.issueBurst k
  | none => s

/-! ### The shadow set (R289 to R291) -/

/-- The shadow set of channel k is accepted. -/
def State.shadowSound (s : State) (k ring ctrl : Nat) : Bool :=
  let mode := bits ctrl 17 16
  let l := bits ctrl 31 24
  decide (bits ring 3 0 ≤ 13) && (mode != 3 || lineHasLevel l) && (mode == 0 || s.mayUseLine (s.chanInst k) l) &&
  (!(bit ring 4) || ringBase ring % (64 * ringSize ring) == 0)

/-- Item 3 of a boundary for channel k: the hand-over (R290, R291). -/
def State.handOver (s : State) (k : Nat) : State :=
  let ctrl := s.get Reg.chCtrlShadow k
  let ring := s.get Reg.chRingShadow k
  let c := s.chan k
  let changes := ring != s.get Reg.chRingActive k
  if !(bit ctrl 63) || c.desc.isSome || c.fetching.isSome || s.chanState k == .halted ||
      (changes && s.get Reg.chProd k != s.get Reg.chCons k) then s
  else
    let s := s.set Reg.chCtrlShadow k (ctrl % 9223372036854775808)
    if s.shadowSound k ring ctrl then
      let old := s.get Reg.chCtrlActive k
      let s := if bits old 31 24 != bits ctrl 31 24 || bits old 17 16 != bits ctrl 17 16 then s.set Reg.chReqCount k 0 else s
      let s := if changes then (s.set Reg.chProd k 0).set Reg.chCons k 0 else s
      ((s.set Reg.chRingActive k ring).set Reg.chCtrlActive k (ctrl % 9223372036854775808)).chanNext k
    else (s.bump Reg.chShadowRefused k).raise (s.chanInst k) 0x073 k

/-- The fields of a shadow word; RSVD bits are ignored (R11). -/
def shadowFields (ctrl : Bool) (v : Nat) : Nat :=
  if ctrl then bits v 63 63 * 9223372036854775808 + bits v 31 24 * 16777216 + bits v 17 16 * 65536 + bits v 13 8 * 256 +
    bits v 2 0
  else (if bit v 4 then bits v 41 12 else bits v 63 12) * 4096 + bits v 4 4 * 16 + bits v 3 0

/-- SHADOW_WRITE through the block (R289): none while the image is Sealed. -/
def State.shadowWrite (s : State) (k : Nat) (ctrl : Bool) (v : Nat) : State :=
  let armed := bit (s.get Reg.chCtrlShadow k) 63
  if s.image = .sealed then s
  else if armed && !(ctrl && !(bit v 63)) then (s.bump Reg.chShadowRefused k).raise (s.chanInst k) 0x073 k
  else s.set (if ctrl then Reg.chCtrlShadow else Reg.chRingShadow) k (shadowFields ctrl v)

/-! ### Doorbells and commands (R279, R280, R295, R298) -/

/-- The channel of local number j of instance i. -/
def State.chanOf (s : State) (i j : Nat) : Option Nat :=
  if j < s.get Reg.effDmaCount i then some (s.get Reg.effDmaFirst i + j) else none

/-- DMA_DOORBELL (R279, R280). -/
def State.dmaDoorbell (s : State) (i j size value : Nat) : State :=
  match s.chanOf i j with
  | none => s.ignoreDoorbell i
  | some k =>
    let prod := s.get Reg.chProd k
    let d := (value % 4294967296 + 4294967296 - prod) % 4294967296
    let a := (prod + 4294967296 - s.get Reg.chCons k) % 4294967296
    if size ≠ 8 ∨ s.chanState k = .disabled ∨ s.image = .sealed ∨ ringSize (s.get Reg.chRingActive k) < a + d then
      s.ignoreDoorbell i
    else (s.set Reg.chProd k (value % 4294967296)).chanNext k

/-- A channel command is legal in the present state (Table 12.10). -/
def State.chanLegal (s : State) (k cmd : Nat) : Bool :=
  match cmd, s.chanState k with
  | 1, .disabled => true
  | 2, .idle => true
  | 2, .waiting => true
  | 2, .running => true
  | 3, .halted => true
  | 4, .halted => true
  | 5, .disabled => false
  | 5, _ => true
  | _, _ => false

/-- A channel command that is legal takes its effect (Table 12.10). -/
def State.chanCommand (s : State) (k cmd : Nat) : State :=
  match cmd with
  | 1 =>
    let s := ((s.set Reg.chProd k 0).set Reg.chCons k 0).set Reg.chReqCount k 0
    ((s.setBlob Reg.chFault k []).putChan k Chan.reset).setChan k .idle
  | 2 =>
    let c := s.chan k
    if c.desc.isNone && c.fetching.isNone then s.chanOff k
    else (s.setChan k .stopping).modChan k (fun c => { c with stop := 1 })
  | 3 =>
    let s := (s.setChan k .running).withdrawUnit (s.chanInst k) 0x071 k
    if (s.chan k).desc.isNone then (s.modChan k (fun c => { c with paid := true })).chanNext k else s
  | 4 =>
    let s := (s.set Reg.chCons k ((s.get Reg.chCons k + 1) % 4294967296)).setBlob Reg.chFault k []
    let s := (s.putChan k Chan.reset).setChan k .running
    (s.withdrawUnit (s.chanInst k) 0x071 k).chanNext k
  | _ =>
    let s := s.modChan k (fun c => { c with stop := 2, fetching := none })
    ((if s.chanState k = .halted then s.withdrawUnit (s.chanInst k) 0x071 k else s).setChan k .stopping).settleChan k

/-- A command through COMMAND of the block: one that is not legal is ignored, counted and raised (R298). -/
def State.blockCommand (s : State) (i j size cmd : Nat) : State :=
  match s.chanOf i j with
  | none => s.ignoreDoorbell i
  | some k => if size = 8 && s.chanLegal k cmd && s.image != .sealed then s.chanCommand k cmd else s.ignoreDoorbell i

/-- SOFT_PULSE (R295). -/
def State.softPulse (s : State) (i j value : Nat) : State :=
  let l := value % 256
  match s.chanOf i j with
  | none => s.ignoreDoorbell i
  | some _ => if 0xC0 ≤ l ∧ s.get Reg.lineOwner l = i then s.pulseLine l else s.ignoreDoorbell i

/-- At a reset completion the channels of instance i are DISABLED, with indices, counts, FAULT and ARM cleared (R300). -/
def State.chanReset (s : State) (k : Nat) : State :=
  let s := s.chanOff k
  let s := ((s.set Reg.chProd k 0).set Reg.chCons k 0).set Reg.chReqCount k 0
  (s.setBlob Reg.chFault k []).set Reg.chCtrlShadow k (s.get Reg.chCtrlShadow k % 9223372036854775808)

end Sys2Proof.Machine
end

