-- ==== Sys2Proof/Machine/Replica.lean ====
section
/-!
DEFINITION. The receiving side of mirroring and the mirror engine's events (spec/06_mirroring.md): copies applied on a
replica and their acknowledgement, and the commands of the mirror family that no Lexicon request carries.
-/
namespace Sys2Proof.Machine

/-! ### Refusals and acknowledgements (R136, R151, R152) -/

/-- MNAK leaves (Table 6.4). -/
def State.sendMnak (s : State) (reason seq ia : Nat) : State :=
  s.sendPartner { op := 0x52, flags := reason, p0 := seq, p1 := ia }

/-- Until window open a restarting side answers partner messages other than PAIR_HELLO with MNAK reason 3 (R152). -/
def State.untilOpen (s : State) (seq a : Nat) (f : State → State) : State :=
  if s.image = .restoring ∧ s.windowsOpen = false then s.sendMnak 3 seq a else f s

/-- The highest sequence up to which every copy has its carrier ACK, from `k` on: a step for each sequence seen. -/
def ackedFrom (seen out : List Nat) : Nat → Nat → Nat
  | 0, k => k
  | f + 1, k =>
    let n := (k + 1) % 4294967296
    if seen.contains n && !(out.contains n) then ackedFrom seen out f n else k

/-- MACK leaves once every copy up to a higher sequence has its carrier ACK; none after the cut (R136, R150). -/
def State.sendMack (s : State) : State :=
  let out := (s.mirror.rx.filter (fun r => !r.resync)).map (·.seq)
  let k := ackedFrom s.mirror.rxSeen out s.mirror.rxSeen.length s.mirror.rxDone
  if k = s.mirror.rxDone ∧ s.mirror.mackDue = false then s
  else
    let s := s.modMirror (fun m => { m with
      rxDone := k, mackDue := false, rxSeen := m.rxSeen.filter (fun q => below32 k q) })
    if s.cutPassed then s else s.sendPartner { op := 0x51, p0 := k }

/-- RACK leaves for the RCOPYs up to the first that still lacks its carrier ACK, or was refused; the segments whose
last RCOPY it covers are no longer known to be marked on the partner (R140). -/
def State.sendRack (s : State) : State :=
  if s.cutPassed then s
  else
    let out := (s.mirror.rx.filter (·.resync)).map (·.seq) ++ s.mirror.rcopyStop.toList
    let k := match bestOf (fun a b => below32 a b) out with
      | some q => (q + 4294967295) % 4294967296
      | none => s.mirror.rcopyRx
    let done := s.mirror.peerLast.filter (fun x => x.1 == k || below32 x.1 k)
    let s := s.modMirror (fun m => { m with
      peerLast := m.peerLast.filter (fun x => !(done.contains x)),
      peerMap := done.foldl (fun a x => a.remove x.2) m.peerMap })
    (s.sendPartner { op := 0x54, p0 := k }).resyncPump

/-- One part of a received copy has its carrier ACK, or has ended without one; with its last part the copy is done. -/
def State.rxPartDone (s : State) (seq : Nat) (resync : Bool) : State :=
  let s := s.modMirror (fun m => { m with rx := (m.rx.map (fun r =>
    if r.seq = seq ∧ r.resync = resync then { r with parts := r.parts - 1 } else r)).filter (fun r => decide (0 < r.parts)) })
  if s.mirror.rx.any (fun r => r.seq == seq && r.resync == resync) then s
  else if resync then s.sendRack else s.sendMack

/-! ### Copies received (R136, R140) -/

/-- The parts of a received copy: within one 256 B-aligned span each, hence one carrier request each (R306). -/
def rxParts (ia : Nat) (data : List Byte) : List (Nat × List Byte) :=
  let n := min data.length (256 - ia % 256)
  if n = data.length then [(ia, data)] else [(ia, data.take n), (ia + n, data.drop n)]

/-- A received copy passes the governor's admission, and finds a place where it would be held (R136, Table 6.7). -/
def State.rxRoom (s : State) (ps : List (Nat × List Byte)) : Bool :=
  s.admits (ps.map (·.1)) &&
  (let held := (ps.filter (fun p => !(s.sliceResident (carrierOf s.carrierCount p.1) (segmentOf p.1)))).foldl
      (fun a p => a + p.2.length) 0
   held == 0 || decide (s.heldWriteBytes + held ≤ heldStore))

/-- The reason with which a copy to these bytes is refused, if any (Table 6.4, R151): 3 outside Open and Restoring and
outside the states in which copies flow, 2 outside every range, 1 in a range owned here. -/
def State.rxRefusal (s : State) (ia : Nat) : Option Nat :=
  if !s.govActive || s.persist.writesStopped then some 3
  else match s.rowOf (segmentOf ia) with
    | none => some 2
    | some r =>
      if s.ownsRow r then some 1
      else if s.sendsCopies || s.mirrorState == .interrupted then none else some 3

/-- A received copy is applied as an image write of service 4 or 5 (Table 10.1). -/
def State.rxApply (s : State) (resync : Bool) (seq ia : Nat) (data : List Byte) : State :=
  let ps := rxParts ia data
  let s := s.dirtySegments (ps.map (·.1))
  let s := s.modMirror (fun m => { m with
    rx := m.rx ++ [⟨seq, ps.length, resync⟩],
    rxSeen := if resync then m.rxSeen else m.rxSeen ++ [seq],
    rcopyRx := if resync then seq else m.rcopyRx })
  s.each ps (fun s p => s.imageAccess (if resync then 5 else 4) 0 true p.1 p.2.length (p.2.map some) false
    (if resync then .resyncWrite seq else .mirrorWrite seq))

/-- A copy already applied: by sequence within the window beyond the last MACK, or at or below it. -/
def State.rxRepeat (s : State) (resync : Bool) (seq : Nat) : Bool :=
  if resync then seq == s.mirror.rcopyRx || below32 seq s.mirror.rcopyRx
  else s.mirror.rxSeen.contains seq || seq == s.mirror.rxDone || below32 seq s.mirror.rxDone

/-- An RCOPY of sequence `seq` at address `ia` begins to be applied: its segment is marked on the partner, until the
last RCOPY of it; in PAIRED the partner's map is thus no longer empty (Table 6.2, DEDUCED, log 90). -/
def State.noteRcopy (s : State) (last : Bool) (seq ia : Nat) : State :=
  let g := segmentOf ia
  let s := s.modMirror (fun m => { m with
    peerMap := m.peerMap.add g, peerLast := if last then m.peerLast ++ [(seq, g)] else m.peerLast,
    rcopyStop := if ia % 2097152 = 0 then none else m.rcopyStop })
  if s.mirrorState = .paired then s.mirrorTo .resync else s

/-- An RCOPY is refused: no RACK covers it until resync begins its segment again (R140). -/
def State.rcopyRefused (s : State) (seq : Nat) : State :=
  s.modMirror (fun m => { m with rcopyStop := some (m.rcopyStop.getD seq) })

/-- A received copy is taken: refused, known already, applied, or none while the governor holds it. A refused MCOPY
counts as seen, so that later copies are acknowledged (log 20). -/
def State.rxTake (s : State) (resync last : Bool) (seq ia : Nat) (data : List Byte) : Option State :=
  match s.rxRefusal ia with
  | some reason =>
    let s := s.sendMnak reason seq ia
    some (if resync then s.rcopyRefused seq else if s.govActive = false then s
      else (s.modMirror (fun m => { m with rxSeen := m.rxSeen ++ [seq] })).sendMack)
  | none =>
    if s.rxRepeat resync seq then
      some (if resync then s.sendRack else (s.modMirror (fun m => { m with mackDue := true })).sendMack)
    else if s.rxRoom (rxParts ia data) then
      some ((if resync then s.noteRcopy last seq ia else s).rxApply resync seq ia data)
    else none

/-- A copy whose form Table 6.4 allows: 1 to 256 bytes of an MCOPY within one interleave unit, 256 of an RCOPY, inside
the image. -/
def State.copyForm (s : State) (resync : Bool) (ia n : Nat) : Bool :=
  decide (1 ≤ n) && decide (n ≤ 256) && (!resync || (n == 256 && ia % 256 == 0)) && decide (ia % 4096 + n ≤ 4096) &&
  decide (ia + n ≤ s.segments * 2097152)

/-- A received copy at the cut: applied unless it is refused or known, whatever the governor says, and not
acknowledged (Table 3.3, R150). -/
def State.rxAtCut (s : State) (resync : Bool) (seq ia : Nat) (data : List Byte) : State :=
  if (s.rxRefusal ia).isSome || s.rxRepeat resync seq then s else s.rxApply resync seq ia data

/-- A copy leaves the receive path of partner link pl: its room is free again (R136, R351, R352). -/
def State.copyLeaves (s : State) (pl : Fin 2) (resync : Bool) (seq : Nat) : State :=
  s.consume (16 + pl.val) (fun m => m.op == (if resync then 0x53 else 0x50) && m.p0 == seq)

/-- A received copy, behind those that wait. One that has to wait stays in the receive path, whose flow control holds the
sender (R136). -/
def State.rxCopy (s : State) (c : Instr) (pl : Fin 2) (resync last : Bool) (seq ia : Nat) (data : List Byte) : State :=
  if !(s.copyForm resync ia data.length) then s.copyLeaves pl resync seq
  else
    let wait (s : State) : State := s.modMirror (fun m => { m with rxWait := m.rxWait ++ [c] })
    if s.mirror.rxWait.isEmpty then
      (match s.rxTake resync last seq ia data with
       | some t => t.copyLeaves pl resync seq
       | none => wait s)
    else wait s

/-- Waiting copies are taken in order until one has to wait. -/
def State.rxWaitGo (s : State) : List Instr → State
  | [] => s.modMirror (fun m => { m with rxWait := [] })
  | .mcopy pl again seq ia data :: r =>
    match s.rxTake false false seq ia data with
    | some t => (t.copyLeaves pl false seq).rxWaitGo r
    | none => s.modMirror (fun m => { m with rxWait := .mcopy pl again seq ia data :: r })
  | .rcopy pl last seq ia data :: r =>
    match s.rxTake true last seq ia data with
    | some t => (t.copyLeaves pl true seq).rxWaitGo r
    | none => s.modMirror (fun m => { m with rxWait := .rcopy pl last seq ia data :: r })
  | _ :: r => s.rxWaitGo r

/-- Waiting copies are tried again. -/
def State.runRxWait (s : State) : State := s.rxWaitGo s.mirror.rxWait

/-- MCOPY (R136). -/
def execMcopy (pl : Fin 2) (resend : Bool) (seq ia : Nat) (data : List Byte) (s : State) :
    Host.Outcome State Fault Refusal :=
  act s (fun s =>
    if s.image = .restoring ∧ s.windowsOpen = false then (s.copyLeaves pl false seq).sendMnak 3 seq ia
    else s.rxCopy (.mcopy pl resend seq ia data) pl false false seq ia data)

/-- RCOPY (R140). -/
def execRcopy (pl : Fin 2) (last : Bool) (seq ia : Nat) (data : List Byte) (s : State) :
    Host.Outcome State Fault Refusal :=
  act s (fun s =>
    if s.image = .restoring ∧ s.windowsOpen = false then (s.copyLeaves pl true seq).sendMnak 3 seq ia
    else s.rxCopy (.rcopy pl last seq ia data) pl true last seq ia data)

/-! ### Acknowledgements received -/

/-- MACK (R137). -/
def execMack (pl : Fin 2) (seq : Nat) (s : State) : Host.Outcome State Fault Refusal :=
  act s (fun s => (s.consume (16 + pl.val) (fun m => m.op == 0x51)).untilOpen seq 0 (fun s => s.ackCopies seq))

/-- A MNAK has come (R137): reasons 1 and 2 set MISMATCH, whose entry marks every unresolved copy; the copy refused is
resolved by marking, and resync begins the segment of a refused RCOPY again. While pairing has not passed, reason 3
refuses this side's RANGE_DESCs (R152), and its PAIR_HELLO goes again with the partner's (DEDUCED, log 92). -/
def State.gotMnak (s : State) (reason seq ia : Nat) : State :=
  let s := if (reason = 1 ∨ reason = 2) ∧ s.mirrorState ≠ .unpaired ∧ s.cutPassed = false then s.setMirror .mismatch else s
  let s := if reason = 3 ∧ s.sendsCopies = false ∧ s.mirrorState ≠ .interrupted then
      s.modMirror (fun m => { m with helloSent := false }) else s
  let s := if s.mirror.rcopies.any (fun x => x.1 == seq && x.2.1 == segmentOf ia) then
      s.modMirror (fun m => { m with resyncMarked := true }) else s
  (s.markCopies (fun c => c.seq == seq && c.ia == ia)).resyncPump

/-- MNAK (R137, R152). -/
def execMnak (pl : Fin 2) (reason seq ia : Nat) (s : State) : Host.Outcome State Fault Refusal :=
  act s (fun s =>
    (s.consume (16 + pl.val) (fun m => m.op == 0x52)).untilOpen seq ia (fun s => s.gotMnak reason seq ia))

/-- RACK (R140). -/
def execRack (pl : Fin 2) (seq : Nat) (s : State) : Host.Outcome State Fault Refusal :=
  act s (fun s => (s.consume (16 + pl.val) (fun m => m.op == 0x54)).untilOpen seq 0 (fun s => s.rcopyAcked seq))

/-- MIRROR_ACK_TIMEOUT (R137): copies with no MACK in time since their last transmission are marked, but not while the
state is INTERRUPTED. -/
def execMirrorAckTimeout (s : State) : Host.Outcome State Fault Refusal :=
  actItem 9 s (fun s =>
    let late (c : Copy) : Bool := c.sentAt.any (fun t => s.due (t + usCycles (s.get Reg.mirrorAckTimeout)))
    if s.mirrorState = .interrupted ∨ s.mirror.retain.any late = false then s
    else ((s.bump Reg.mirrorAckTimeouts 0 (s.mirror.retain.filter late).length).markCopies late).resyncPump)

/-! ### Pairing and notices -/

/-- PAIR_HELLO (R129): the body is that of Table 6.1. -/
def execPairHello (pl : Fin 2) (body : List Byte) (s : State) : Host.Outcome State Fault Refusal :=
  act s (fun s =>
    let s := s.consume (16 + pl.val) (fun m => m.op == 0x55)
    if body.length = 128 ∧ s.mirror.wanted = true ∧ s.mirrorState ≠ .unpaired ∧ s.cutPassed = false then
      s.gotHello (helloOf body)
    else s)

/-- RANGE_DESC (R129). -/
def execRangeDesc (pl : Fin 2) (row : Fin 16) (base segments : Nat) (s : State) : Host.Outcome State Fault Refusal :=
  act s (fun s => (s.consume (16 + pl.val) (fun m => m.op == 0x5A)).untilOpen segments (row.val + 16 * base) (fun s =>
    s.gotDesc row.val base segments))

/-- RMAP (R140): the bits of rows owned here are ORed into the map. -/
def execRmap (pl : Fin 2) (first : Nat) (block : List Byte) (s : State) : Host.Outcome State Fault Refusal :=
  act s (fun s =>
    let s := s.consume (16 + pl.val) (fun m => m.op == 0x58)
    s.untilOpen 0 first (fun s =>
      let segs := (List.range 512).filter (fun k => bit ((block.getD (k / 8) 0).toNat) (k % 8) &&
        (s.rowOf (first + k)).any s.ownsRow)
      (s.each segs (fun s k => s.markSegment (first + k))).resyncPump))

/-- MSTATE (R133): a row handed over becomes OWNER here, but not in SPLIT (R143), and is confirmed, or a handover of this
side is confirmed. -/
def State.gotMstate (s : State) (confirm : Bool) (r generation owner : Nat) : State :=
  let next := (s.get Reg.rangeGeneration r + 1) % 4294967296
  if generation ≠ next ∨ s.cutPassed = true then s
  else if confirm then
    match s.mirror.handover with
    | some h =>
      if h.row = r ∧ h.sentAt.isSome = true ∧ owner = 1 - s.side then
        let s := (s.set Reg.rangeOwner r owner).set Reg.rangeGeneration r generation
        (s.modMirror (fun m => { m with handover := none })).finish h.who Reg.rangeCommand .ok
      else s
    | none => s
  else if owner = s.side ∧ s.ownsRow r = false ∧ s.rowLen r ≠ 0 ∧ s.mirrorState ≠ .split then
    let s := ((s.set Reg.rangeOwner r owner).set Reg.rangeGeneration r generation).setRow r 0
    s.sendPartner { op := 0x56, flags := 1, p1 := r + 16 * generation + owner * 9223372036854775808 }
  else s

/-- CUT_NOTICE (R151). -/
def execCutNotice (pl : Fin 2) (epoch : Nat) (s : State) : Host.Outcome State Fault Refusal :=
  act s (fun s =>
    let s := s.consume (16 + pl.val) (fun m => m.op == 0x57)
    s.untilOpen 0 epoch (fun s => if s.mirrorState = .unpaired ∨ s.cutPassed = true then s else s.peerAway))

/-- HOLD_NOTICE (R151): entering puts this side in PEER_AWAY, leaving latches wake source 11 and lets pairing start. -/
def execHoldNotice (pl : Fin 2) (entering : Bool) (s : State) : Host.Outcome State Fault Refusal :=
  act s (fun s =>
    let s := s.consume (16 + pl.val) (fun m => m.op == 0x59)
    s.untilOpen 0 0 (fun s =>
      if entering then (if s.mirrorState = .unpaired ∨ s.cutPassed = true then s else s.peerAway)
      else
        let s := s.wake 11
        if s.mirrorState = .peerAway then s.pairTry else s))

/-! ### Split, lease and takeover -/

/-- SPLIT_DECLARED (R142): SPLIT_TIME after the second link went down. -/
def execSplitDeclared (s : State) : Host.Outcome State Fault Refusal :=
  actItem 9 s (fun s =>
    if s.mirrorState = .interrupted ∧
        s.mirror.downAt.any (fun t => s.due (t + msCycles (s.get Reg.splitTime))) = true then s.declareSplit
    else s)

/-- The image states in which the lease protocol runs (R144). -/
def State.leaseRuns (s : State) : Bool :=
  s.get Reg.pairId != 0 && s.get Reg.witnessNode != 0 && (s.image == .opened || s.image == .restoring)

/-- LEASE_REQUEST_DUE (R144): LEASE_TERM ÷ 4 since the last request. -/
def execLeaseRequestDue (s : State) : Host.Outcome State Fault Refusal :=
  actItem 9 s (fun s =>
    if s.leaseRuns && (match s.mirror.leaseSentAt with
        | none => true
        | some t => s.due (t + msCycles (s.get Reg.leaseTerm) / 4)) then s.leaseRequest
    else s)

/-- A grant is addressed to this side, its pair and its request (Table 6.5). -/
def State.grantForUs (s : State) (side pairId req want : Nat) : Bool :=
  side == s.side && pairId == s.get Reg.pairId && pairId != 0 && req == want && want != 0

/-- A grant comes in a frame addressed to this node, which a controller in standby or bus-off does not receive (R470). -/
def State.grantFrame (s : State) : State := if s.fieldSends then s.frameIn else s

/-- LEASE_GRANT (R144): the answer of the last request. -/
def execLeaseGrant (side : Fin 2) (pairId req result term : Nat) (s : State) : Host.Outcome State Fault Refusal :=
  act s (fun s =>
    let s := s.grantFrame
    if s.fieldSends && s.grantForUs side.val pairId req s.mirror.leaseReq && s.get Reg.witnessNode != 0 && !s.mirror.leaseAnswered then
      s.leaseGranted result term
    else s)

/-- TAKEOVER_GRANT (R148): result 0 in SPLIT or PEER_AWAY. -/
def execTakeoverGrant (side : Fin 2) (pairId req result : Nat) (s : State) : Host.Outcome State Fault Refusal :=
  act s (fun s =>
    let s := s.grantFrame
    if s.fieldSends && s.grantForUs side.val pairId req s.mirror.takeoverReq && s.get Reg.witnessNode != 0 then
      let s := s.withdraw 0 0x043
      if result = 0 ∧ (s.mirrorState = .split ∨ s.mirrorState = .peerAway) then
        let s := s.modMirror (fun m => { m with takeoverAt := none })
        s.takeRows (mirrorRows.filter (fun r => s.rowLen r != 0 && !(s.ownsRow r)))
      else s
    else s)

/-- LEASE_LAPSE (R144): the validity ends. -/
def execLeaseLapse (s : State) : Host.Outcome State Fault Refusal :=
  actItem 9 s (fun s => if s.mirror.leaseUntil.any (fun t => s.due t) then s.leaseEnds else s)

/-- LEASE_NO_GRANT (R144): 50 ms after a request without a grant, once in a lapse. -/
def execLeaseNoGrant (s : State) : Host.Outcome State Fault Refusal :=
  actItem 9 s (fun s =>
    if s.get Reg.witnessNode != 0 && !s.mirror.leaseAnswered && !s.mirror.noGrantRaised &&
        s.mirror.leaseSentAt.any (fun t => s.due (t + msCycles 50)) then
      (s.modMirror (fun m => { m with noGrantRaised := true })).raise 0 0x043 0
    else s)

/-- TAKEOVER_RETRY (R148). -/
def execTakeoverRetry (s : State) : Host.Outcome State Fault Refusal :=
  act s (fun s =>
    if s.get Reg.autoTakeover = 1 ∧ s.get Reg.witnessNode ≠ 0 ∧ (s.mirrorState = .split ∨ s.mirrorState = .peerAway) ∧
        s.mirror.takeoverAt.any (fun t => s.due (t + msCycles (s.get Reg.takeoverRetry))) = true then s.takeoverRequest
    else s)

/-- HANDOVER_TIMEOUT (R133): no confirmation within 100 ms: BUSY, and OWNER again with the old generation. -/
def State.handoverExpiry (s : State) : State :=
  match s.mirror.handover with
  | some h =>
    if s.due (h.begun + msCycles 100) then
      ((s.modMirror (fun m => { m with handover := none })).rowLater h.row 0).finish h.who Reg.rangeCommand .busy
    else s
  | none => s

end Sys2Proof.Machine
end

