-- ==== Sys2Proof/Machine/Carrier.lean ====
section
/-!
DEFINITION. The carrier engine (spec/13_carrier_protocol.md): requests and their tags, acknowledgements and completions,
NAK and the retry rounds, slice-to-link affinity and failover, and the reports of the carriers.
-/
namespace Sys2Proof.Machine

/-! ### Links of a pair (R313, R316) -/

/-- Link l of carrier c is up. -/
def State.carLinkUp (s : State) (c l : Nat) : Bool := s.linkIsUp (2 * c + l)

/-- The link on which a request for segment g travels now: none while no link is up, or while its own link has returned
and requests for it are still out on the other (R316). -/
def State.requestLink (s : State) (c g : Nat) : Option Nat :=
  if s.carLinkUp c 0 && s.carLinkUp c 1 then
    (if (s.car c).returning = some (g % 2) then none else some (g % 2))
  else if s.carLinkUp c 0 then some 0
  else if s.carLinkUp c 1 then some 1
  else none

/-- CARRIER_STATE and AFFINITY of carrier c (Table 13.10). -/
def State.renewCarrier (s : State) (c : Nat) : State :=
  let k := s.car c
  let u0 := s.carLinkUp c 0
  let u1 := s.carLinkUp c 1
  let ready := b2n (u0 && k.ident0) + b2n (u1 && k.ident1)
  let st := if !u0 && !u1 then (if s.get Reg.carrierState c = 5 then 5 else 0)
    else if k.selfRefresh then 4
    else if ready = 2 then 2 else if ready = 1 then 3 else 1
  let held (l : Nat) : Bool := k.returning == some l
  (s.set Reg.carrierState c st).set Reg.affinity c
    (b2n (u0 && !(held 0)) + 2 * b2n (u1 && !(held 1)) + 4 * b2n k.returning.isSome)

/-! ### Requests (R306, R308, R310) -/

/-- Bits of a 64 B block's enabled bytes. -/
def maskOf (l : List (Option Byte)) : Nat :=
  (l.zipIdx).foldl (fun a x => if x.1.isSome then a + 2 ^ x.2 else a) 0

/-- The 64 B blocks that cover `n` bytes at carrier-local address `la`. -/
def blockCount (la n : Nat) : Nat := (la % 64 + n + 63) / 64

/-- The message of a write request (R306): MWR when every byte of its blocks is written, else MWRM with its masks. -/
def writeMsg (la : Nat) (data : List (Option Byte)) (poison : Bool) (tag : Nat) : Msg :=
  let k := blockCount la data.length
  let l := List.replicate (la % 64) none ++ data
  let l := l ++ List.replicate (64 * k - l.length) none
  let block (j : Nat) : List (Option Byte) := (l.drop (64 * j)).take 64
  let full := l.all (·.isSome)
  { op := if full then 0x02 else 0x03, flags := 32 * b2n poison, tag := tag, p0 := k - 1, p1 := la / 64 * 64,
    mask := if full then none else some (maskOf (block 0), if k = 1 then 0 else maskOf (block (k - 1))),
    data := (List.range k).map (fun j => (block j).map (fun b => b.getD 0)) }

/-- The message of a read request. -/
def readMsg (la n tag : Nat) : Msg :=
  { op := 0x01, tag := tag, p0 := blockCount la n - 1, p1 := la / 64 * 64 }

/-- A request of tag t may be assigned on link l (R308). -/
def Carrier.tagFree (k : Carrier) (l : Nat) : Bool :=
  !(k.reqs.any (fun r => r.tag == (k.nextTag + 64512) % 65536)) && decide (k.reqs.length < 1024) &&
  decide ((k.reqs.filter (fun r => r.link == l)).length < 512)

/-- TAGS_OUTSTANDING. -/
def State.countTags (s : State) (c : Nat) : State := s.set Reg.tagsOutstanding c (s.car c).reqs.length

/-- The copies that an image write of the DMA engine asks for (R134). -/
def dmaRuns (s : State) (ia : Nat) (data : List (Option Byte)) : List (Nat × List Byte) := s.copyRuns [(ia, data)]

/-- The carrier engine can take entry e of port c now: its link is there, its slice has no retry round pending (R312),
a tag is free (R308), the carrier is not in self-refresh (R408), and a DMA write finds room for its copies (R135). -/
def State.carrierTakes (s : State) (c : Nat) (e : Entry) : Bool :=
  match e.work with
  | .image write ia _ data _ own =>
    (match s.requestLink c (segmentOf ia) with
     | some l => (s.car c).tagFree l
     | none => false) &&
    !(s.car c).selfRefresh && !(s.car c).srAsked && (Tbl.find (s.car c).rounds (segmentOf ia)).isNone &&
    (match own with
     | .dmaWrite _ _ _ _ => !write || s.retainRoom (dmaRuns s ia data)
     | _ => true)
  | _ => s.carLinkUp c 0 || s.carLinkUp c 1

/-- The epoch of the newest DIRTY_SET of segment g that waits on a carrier link (R25). -/
def State.dirtyBehind (s : State) (g : Nat) : Option Nat :=
  let es := (s.links.filter (fun x => decide (x.1 < 16))).flatMap (fun x => (x.2.queue.flatMap (fun q => q.msgs)).filterMap (fun m =>
    if m.op = 0x11 ∧ m.p1 = g then some m.p0 else none))
  bestOf (fun a b => below32 b a) es

/-- An image access that the scheduler has granted becomes a tagged request (R308). -/
def State.issueRequest (s : State) (c : Nat) (write : Bool) (ia len : Nat) (data : List (Option Byte)) (poison : Bool)
    (own : ReqOwner) : State :=
  match s.requestLink c (segmentOf ia) with
  | none => s
  | some l =>
    let k := s.car c
    let t := k.nextTag
    let la := localOf s.carrierCount ia
    let m := if write then writeMsg la data poison t else readMsg la len t
    let s := s.modCar c (fun k => { k with
      nextTag := (t + 1) % 65536,
      reqs := k.reqs ++ [⟨t, l, m, own, segmentOf ia, ia, len, 0, 0, s.now, if write then s.dirtyBehind (segmentOf ia) else none⟩],
      newest0 := if l = 0 then t else k.newest0, newest1 := if l = 1 then t else k.newest1 })
    (s.countTags c).linkSend (2 * c + l) m

/-- An image access is accepted by the carrier engine: a DMA write takes its write number and its copies here (R28,
R111, R134). -/
def State.carrierAccepts (s : State) (c : Nat) (write : Bool) (ia len : Nat) (data : List (Option Byte)) (poison : Bool)
    (own : ReqOwner) : State :=
  match write, own with
  | true, .dmaWrite k burst i _ =>
    let runs := dmaRuns s ia data
    let s := s.numberWrite i 1 (if s.sendsCopies then runs.length else 0)
    let num := s.lastWrite i
    let s := s.issueRequest c true ia len data poison (.dmaWrite k burst i num)
    (s.copyWrite i num runs).dmaWritten k burst len
  | _, _ => s.issueRequest c write ia len data poison own

/-- A carrier message that the scheduler has granted leaves on its link or links (R313). -/
def State.carrierMessage (s : State) (c : Nat) (both : Bool) (link : Nat) (m : Msg) : State :=
  if both then s.each ([0, 1].filter (fun l => s.carLinkUp c l)) (fun s l => s.linkSend (2 * c + l) m)
  else if s.carLinkUp c link then s.linkSend (2 * c + link) m
  else if s.carLinkUp c (1 - link) then s.linkSend (2 * c + (1 - link)) m
  else s

/-- Service 7 of carrier port c is granted at once, in its order, up to the last entry that meets a test: what the carrier
engine must have out before it goes on (R25, R314). -/
def State.forceSeven (s : State) (c : Nat) (last : Entry → Bool) : State :=
  let q := s.port c
  let es := (q.entries ++ q.outside).filter (fun e => e.svc == 7)
  let es := (es.reverse.dropWhile (fun e => !(last e))).reverse
  s.each es (fun s e => match e.work with
    | .carrier both link m => (s.granted c e).carrierMessage c both link m
    | _ => s)

/-! ### Results of requests -/

/-- A write has its carrier ACK. -/
def State.ownAcked (s : State) : ReqOwner → State
  | .hostWrite i num => s.partAcked i num
  | .dmaWrite _ _ i num => s.partAcked i num
  | .mirrorWrite seq => s.rxPartDone seq false
  | .resyncWrite seq => s.rxPartDone seq true
  | _ => s

/-- A read has its data; `bad` is the offset of the first poisoned byte (R173, R296). The bytes of a resync read go into
the RCOPY as the carrier delivers them (log 21). -/
def State.ownData (s : State) (own : ReqOwner) (data : List Byte) (bad : Option Nat) : State :=
  match own with
  | .hostRead id part => s.readData id part data (if bad.isSome then 1 else 0) (bad.getD 0)
  | .dmaRead k id slot =>
    if bad.isSome then s.dmaReadFails k id slot 5
    else if (s.chan k).fetching = some id then s.descData k id data
    else s.dmaData k id slot data
  | .resyncRead g off => s.resyncData g off data
  | _ => s

/-- A request has ended without a carrier ACK or a completion (R312, R317): a write has failed (R114), a read is poisoned
data, and a resync read is made again (log 21). A received copy stays without its MACK (R136). -/
def State.ownFailed (s : State) (own : ReqOwner) : State :=
  match own with
  | .hostWrite i num => s.partFailed i num
  | .dmaWrite _ _ i num => s.partFailed i num
  | .hostRead id part => s.readData id part [] 1 0
  | .dmaRead k id slot => s.dmaReadFails k id slot 5
  | .resyncRead _ _ => (s.modMirror (fun m => { m with resyncRead := false })).resyncPump
  | _ => s

/-- The outstanding request of a tag. -/
def State.request (s : State) (c tag : Nat) : Option TagReq := (s.car c).reqs.find? (fun r => r.tag == tag)

/-- A request reads. -/
def TagReq.reads (r : TagReq) : Bool := r.msg.op == 0x01

/-- A tag retires; a returned link takes its slices back once nothing for them is out on the other (R316). -/
def State.retire (s : State) (c tag : Nat) : State :=
  let s := s.modCar c (fun k =>
    let reqs := k.reqs.filter (fun r => r.tag != tag)
    { k with reqs := reqs, returning := match k.returning with
      | some l => if reqs.any (fun r => r.seg % 2 == l) then some l else none
      | none => none })
  (s.countTags c).renewCarrier c

/-- A response for a tag that is not outstanding: ignored, and a protocol error unless a failover of the pair has fallen
within the last 1 ms (R310). -/
def State.strayResponse (s : State) (c : Nat) : State :=
  if (s.car c).failoverAt.any (fun t => decide (s.now ≤ t + msCycles 1)) then s else s.carrierProtocol c

/-- CARRIER_CPL (R310). -/
def State.gotCpl (s : State) (c tag poison : Nat) (data : List Byte) : State :=
  match s.request c tag with
  | none => s.strayResponse c
  | some r =>
    let n := r.msg.p0 + 1
    if !r.reads then s.strayResponse c
    else if data.length ≠ 64 * n ∨ 2 ^ n ≤ poison then s.carrierProtocol c
    else
      let o := localOf s.carrierCount r.ia % 64
      let bad := ((List.range n).find? (fun k => bit poison k)).map (fun k => 64 * k - o)
      (s.retire c tag).ownData r.own (slice data o r.len) bad

/-- CARRIER_ACK (R310, R330). -/
def State.gotAck (s : State) (c tag bitmap : Nat) : State :=
  if bit bitmap 0 = false ∨ 65536 ≤ bitmap then s.carrierProtocol c
  else s.each ((List.range 16).filter (fun k => bit bitmap k)) (fun s k =>
    let t := (tag + k) % 65536
    match s.request c t with
    | some r => if r.reads then s.strayResponse c else (s.retire c t).ownAcked r.own
    | none => s.strayResponse c)

/-! ### NAK (R311, R312) -/

/-- A tag is given up (R312). -/
def State.giveUp (s : State) (c : Nat) (r : TagReq) : State :=
  let s := ((s.retire c r.tag).bump Reg.requestsFailed c).raise 0 0x081 c
  s.ownFailed r.own

/-- CARRIER_NAK. -/
def State.gotNak (s : State) (c tag reason : Nat) : State :=
  if reason = 0 ∨ 5 < reason then s.carrierProtocol c
  else match s.request c tag with
    | none => s.strayResponse c
    | some r =>
      let s := s.bump Reg.naksReceived c
      let attempts := r.attempts + b2n (reason == 1)
      if 3 ≤ reason ∨ (reason = 1 ∧ r.reads = true ∧ s.get Reg.nakRetries c < attempts) then s.giveUp c r
      else s.modCar c (fun k => { k with
        reqs := k.reqs.map (fun q => if q.tag = tag then { q with attempts := attempts, naked := reason } else q),
        rounds := if (Tbl.find k.rounds r.seg).isSome then k.rounds else Tbl.put k.rounds r.seg (s.clauseNow + 2) })

/-- RETRY_ROUND (R312): the NAKed requests of slice g go again in tag order, the first with RETRY. -/
def State.retryRound (s : State) (c g : Nat) : State :=
  match Tbl.find (s.car c).rounds g with
  | none => s
  | some t =>
    match s.requestLink c g with
    | none => s
    | some l =>
      if s.clauseNow < t then s
      else
        let again := (s.car c).reqs.filter (fun r => r.seg == g && r.naked != 0)
        let s := s.modCar c (fun k => { k with
          rounds := Tbl.erase k.rounds g,
          reqs := k.reqs.map (fun r => if r.seg = g ∧ r.naked ≠ 0 then { r with naked := 0, link := l } else r) })
        s.linkSendAll (2 * c + l) (again.zipIdx.map (fun x =>
          { x.1.msg with flags := x.1.msg.flags + (if x.2 = 0 then 64 else 0) }))

/-! ### Failover and loss (R314, R317, R366) -/

/-- The FAILOVER record of link u (Table 14.13). -/
def State.failoverRecord (s : State) (u survivor cause fence unacked oldest requests control : Nat) : State :=
  (s.recordMgmt 0 0x41 0 0x0A1 (layout [(1, u), (1, survivor), (1, portOf u), (1, cause), (2, fence), (2, unacked),
    (4, requests), (4, control), (2, oldest), (6, 0)])).raise 0 0x0A1 u

/-- The carrier is lost (R317). -/
def State.carrierLost (s : State) (c : Nat) : State :=
  let reqs := (s.car c).reqs
  let s := (s.modCar c (fun k =>
    { k with reqs := [], rounds := [], returning := none, selfRefresh := false, srAsked := false, wakeFirst := none })).countTags c
  let s := (s.set Reg.carrierState c 5).raise 0 0x083 c
  let s := s.each reqs (fun s r => s.ownFailed r.own)
  let s := s.putGov c { s.govCar c with reports := [], recompute := true }
  if decide (c < s.carrierCount) then
    (if s.image = .opened then s.faultImage 0x0001
     else if s.image = .restoring then s.lostInRestore c
     else s)
  else s

/-- Requests of a failed link as they go again: with FAILOVER, and RETRY on the first of a NAK hold (R314, Table 13.8). -/
def resendMsgs : List Nat → List TagReq → List Msg
  | _, [] => []
  | seen, r :: t =>
    let first := r.naked != 0 && !(seen.contains r.seg)
    { r.msg with flags := r.msg.flags + 128 + (if first then 64 else 0) } ::
      resendMsgs (if r.naked ≠ 0 then r.seg :: seen else seen) t

/-- Link l of carrier c has gone down with the messages `lost` not acknowledged (R314, R317). The VC2 messages are those
of opcodes 0x10 to 0x16 and FENCE. -/
def State.carrierDown (s : State) (c l cause : Nat) (lost : List Msg) (unacked oldest : Nat) : State :=
  let s := s.modCar c (fun k => if l = 0 then { k with ident0 := false } else { k with ident1 := false })
  let o := 1 - l
  if s.carLinkUp c o then
    let k := s.car c
    let fence := if l = 0 then k.newest0 else k.newest1
    let again := k.reqs.filter (fun r => r.link == l)
    let vc2 := lost.filter (fun m => (decide (0x10 ≤ m.op) && decide (m.op ≤ 0x16) && m.op != 0x15) || m.op == 0x40)
    let save := s.stop.active
    let s := s.modCar c (fun k => { k with
      returning := none, failoverAt := some s.now,
      rounds := k.rounds.filter (fun x => !(again.any (fun r => r.naked != 0 && r.seg == x.1))),
      reqs := k.reqs.map (fun r => if r.link = l then { r with link := o, naked := 0, sentAt := s.now } else r) })
    let u := 2 * c + o
    let s := (s.sendCarrier c false o { op := 0x40, p0 := l, p1 := fence }).forceSeven c
      (fun e => match e.work with | .carrier _ _ m => m.op == 0x40 | _ => false)
    let saveMsg (last : Bool) : Msg :=
      { op := 0x15, flags := b2n (s.stop.stateAtCut == 4) + 2 * b2n last, p0 := s.stop.epoch,
        p1 := Tbl.getD s.stop.marks c 0 }
    let s := if save then s.linkSend u (saveMsg false) else s
    let s := s.linkSendAll u (resendMsgs [] again)
    let s := s.linkSendAll u vc2
    let s := if save && bit s.stop.finalSent c then s.linkSend u (saveMsg true) else s
    let s := (s.bump Reg.failovers c).bump Reg.failoverResent c again.length
    let s := s.renewCarrier c
    s.failoverRecord (2 * c + l) u cause fence unacked oldest again.length vc2.length
  else s.carrierLost c

/-- Link l of carrier c has come up: its slices move back once nothing for them is out on the other link (R316). -/
def State.carrierLinkUp (s : State) (c l : Nat) : State :=
  let s := s.modCar c (fun k => { k with
    returning := if s.carLinkUp c (1 - l) && k.reqs.any (fun r => r.seg % 2 == l) then some l else k.returning,
    healthAt := if k.healthAt = 0 then s.now else k.healthAt })
  s.renewCarrier c

/-- A request of link l of carrier c has waited TAG_TIMEOUT; the timer does not run while the link is PAUSED or
RECOVERING (R317, R357). -/
def State.tagLate (s : State) (c l : Nat) : Bool :=
  s.linkState (2 * c + l) == .up &&
  (s.car c).reqs.any (fun r => r.link == l && s.due (r.sentAt + usCycles (s.get Reg.tagTimeout c)))

/-- The link has been PAUSED or RECOVERING since `since`: its requests' timers stood still (R357). -/
def State.tagsStood (s : State) (u since : Nat) : State :=
  if u < 16 then
    s.modCar (u / 2) (fun k => { k with
      reqs := k.reqs.map (fun r => if r.link = u % 2 then { r with sentAt := r.sentAt + (s.now - max since r.sentAt) } else r) })
  else s

/-! ### Reports (R50, R52, R326, R327, R420) -/

/-- HEALTH_REPLAN (Table 16.11). -/
def State.replanRecord (s : State) (action unit sensor old new measure : Nat) (slope : Int) : State :=
  ((s.bump Reg.replans).recordMgmt 0 0x60 0 0x0E0 (layout [(1, action), (1, unit), (2, sensor), (4, old), (4, new), (4, measure),
    (4, toU32 slope), (4, 0)])).raise 0 0x0E0 0

/-- The least-squares slope of energy over time, as a fraction: its numerator and its denominator (R420). -/
def slopeOf (l : List (Nat × Nat)) : Int × Nat :=
  let n := l.length
  let st := l.foldl (fun a x => a + x.1) 0
  let se := l.foldl (fun a x => a + x.2) 0
  let ste := l.foldl (fun a x => a + x.1 * x.2) 0
  let stt := l.foldl (fun a x => a + x.1 * x.1) 0
  ((n * ste : Nat) - (st * se : Nat), n * stt - st * st)

/-- The new derate of R420 in 1/65,536: from reports newest first, with times in cycles, and HOLDUP_LOOKAHEAD in ms. -/
def derateOf (l : List (Nat × Nat)) (lookahead : Nat) : Nat :=
  match l with
  | [] => 65536
  | (_, e) :: _ =>
    if e = 0 then 0
    else if l.length < 3 ∨ lookahead = 0 then 65536
    else
      let (num, den) := slopeOf l
      if 0 ≤ num ∨ den = 0 then 65536
      else ((65536 * ((e * den : Nat) + num * (msCycles lookahead : Nat)) / (e * den : Nat) : Int)).toNat

/-- Rule 3 of Table 16.8 for carrier c. -/
def State.derate (s : State) (c : Nat) : State :=
  let l := (s.govCar c).reports
  let d := derateOf l (s.get Reg.holdupLookahead)
  let old := s.get Reg.holdupDerate c
  if 1000 * (max d old - min d old) < 5 * 65536 then s
  else
    let (num, den) := slopeOf l
    let slope : Int := if l.length < 3 ∨ den = 0 then 0 else num * 250000000 / (den : Int)
    let s := (s.set Reg.holdupDerate c d).govAsk c
    let s := s.replanRecord 3 c 0xFFFF old d ((l.head?.map (·.2)).getD 0) slope
    if s.powerState = 2 ∧ s.budgetOf c < s.dirtyCount c then s.wake 18 else s

/-- HOLDUP_REPORT (R50 to R52). -/
def State.holdup (s : State) (c energy rate cost : Nat) : State :=
  if s.cutPassed then s
  else
    let s := ((s.set Reg.holdupEnergy c energy).set Reg.holdupSaveRate c rate).set Reg.holdupSaveEnergy c cost
    let g := s.govCar c
    let s := s.putGov c { g with reports := (s.now, energy) :: g.reports.take 7, stale := false, recompute := true }
    (s.withdrawUnit 0 0x021 c).derate c

/-- HOLDUP_STALE (R52). -/
def State.holdupStale (s : State) (c : Nat) : State :=
  let g := s.govCar c
  let last := (g.reports.head?.map (·.1)).getD 0
  if !g.stale && s.carrierReachable c && s.due (last + msCycles (s.get Reg.govReportMaxAge)) then
    (s.putGov c { g with stale := true, recompute := true }).raise 0 0x021 c
  else s

/-- HEALTH (R327). -/
def State.gotHealth (s : State) (c : Nat) (urgent : Bool) (body : List Byte) : State :=
  if body.length ≠ 64 ∨ 16 ≤ field body 0 4 then s.carrierProtocol c
  else
    let s := (s.setBlob Reg.healthBody c body).modCar c (fun k => { k with healthAt := s.now, healthStale := false })
    let s := if urgent then s.wake 12 else s
    if field body 0 4 = 0 then s.withdrawUnit 0 0x084 c else s.raise 0 0x084 c

/-- HEALTH_STALE (R327). -/
def State.healthLate (s : State) (c : Nat) : State :=
  let k := s.car c
  if !k.healthStale && s.carrierReachable c && s.due (k.healthAt + msCycles 5000) then
    (s.modCar c (fun k => { k with healthStale := true })).raise 0 0x084 c
  else s

/-! ### IDENT (R325) and COMMIT -/

/-- The form of an IDENT body from a carrier (Table 13.5, R330). -/
def identForm (b : List Byte) : Bool :=
  b.length == 128 && field b 0 4 == 1 && field b 4 2 == 1 && decide (field b 6 1 < 64) && field b 38 2 == 0 &&
  field b 44 4 == 0 && field b 60 4 == 0

/-- COMMIT goes on once every active carrier has answered with ASSIGNED set: the first seal is asked for (R325,
Table 1.4). -/
def State.commitPump (s : State) : State :=
  match s.lexicon.waiting.find? (fun w => w.reg == Reg.imageCommand) with
  | some w =>
    if s.image = .setup ∧ s.activeCarriers.all (fun c => (s.car c).assigned) = true ∧
        s.keep.job.all (fun j => j.purpose != .commit w.who) = true ∧ s.keep.waiting.contains (.commit w.who) = false then
      s.requestSeal (.commit w.who)
    else s
  | none => s

/-- IDENT (R325). -/
def State.gotIdent (s : State) (c l : Nat) (body : List Byte) : State :=
  if !(identForm body) then s.carrierProtocol c
  else
    let s := s.setBlob Reg.identBody c body
    let s := s.modCar c (fun k => { k with
      ident0 := k.ident0 || l == 0, ident1 := k.ident1 || l == 1, capacity := field body 25 1,
      assigned := k.assigned || (bit (field body 6 1) 3 && field body 8 16 == fromLe (s.blob Reg.imageId)) })
    ((s.renewCarrier c).checksIfPresent).commitPump

/-- CONTROL_ACK (R321, R328): of SAVE, SELF_REFRESH and WAKE. -/
def State.controlAck (s : State) (c l op epoch : Nat) : State :=
  if op = 0x15 then
    (if s.stop.active ∧ epoch = s.stop.epoch then s.saveAcked c l
     else if s.stop.active then s.carrierProtocol c else s.strayResponse c)
  else if op = 0x30 then
    (s.modCar c (fun k => if k.srAsked then { k with selfRefresh := true, srAsked := false } else k)).renewCarrier c
  else if op = 0x31 then
    (s.modCar c (fun k => { k with selfRefresh := false, wakeFirst := none })).renewCarrier c
  else s.carrierProtocol c

/-! ### Commands -/

/-- CARRIER_CPL (R310). -/
def execCarrierCpl (c : Fin 8) (l : Fin 2) (tag poison : Nat) (data : List Byte) (s : State) :
    Host.Outcome State Fault Refusal :=
  act s (fun s =>
    (s.consume (2 * c.val + l.val) (fun m => (m.op == 0x80 || m.op == 0x81) && m.tag == tag)).gotCpl c.val tag poison data)

/-- CARRIER_ACK (R310). -/
def execCarrierAck (c : Fin 8) (l : Fin 2) (tag bitmap : Nat) (s : State) : Host.Outcome State Fault Refusal :=
  act s (fun s =>
    (s.consume (2 * c.val + l.val) (fun m => m.op == 0x82 && m.tag == tag)).gotAck c.val tag bitmap)

/-- CONTROL_ACK (R321). -/
def execControlAck (c : Fin 8) (l : Fin 2) (op epoch : Nat) (s : State) : Host.Outcome State Fault Refusal :=
  act s (fun s =>
    (s.consume (2 * c.val + l.val) (fun m => m.op == 0x82 && bit m.flags 0 && m.p0 == op)).controlAck c.val l.val op epoch)

/-- CARRIER_NAK (R311). -/
def execCarrierNak (c : Fin 8) (l : Fin 2) (tag reason : Nat) (s : State) : Host.Outcome State Fault Refusal :=
  act s (fun s =>
    (s.consume (2 * c.val + l.val) (fun m => m.op == 0x83 && m.tag == tag)).gotNak c.val tag reason)

/-- RETRY_ROUND (R312). -/
def execRetryRound (c : Fin 8) (seg : Nat) (s : State) : Host.Outcome State Fault Refusal :=
  act s (fun s => s.retryRound c.val seg)

/-- HEALTH (R327). -/
def execHealth (c : Fin 8) (l : Fin 2) (urgent : Bool) (body : List Byte) (s : State) : Host.Outcome State Fault Refusal :=
  act s (fun s => (s.consume (2 * c.val + l.val) (fun m => m.op == 0x21)).gotHealth c.val urgent body)

/-- HEALTH_STALE (R327). -/
def execHealthStale (c : Fin 8) (s : State) : Host.Outcome State Fault Refusal := act s (fun s => s.healthLate c.val)

/-- HOLDUP_REPORT (R50). -/
def execHoldupReport (c : Fin 8) (l : Fin 2) (energy rate cost : Nat) (s : State) : Host.Outcome State Fault Refusal :=
  act s (fun s => (s.consume (2 * c.val + l.val) (fun m => m.op == 0x20)).holdup c.val energy rate cost)

/-- HOLDUP_STALE (R52). -/
def execHoldupStale (c : Fin 8) (s : State) : Host.Outcome State Fault Refusal := act s (fun s => s.holdupStale c.val)

/-- CKPT_STATUS (R320). -/
def execCkptStatus (c : Fin 8) (l : Fin 2) (done' error : Bool) (epoch count front : Nat) (s : State) :
    Host.Outcome State Fault Refusal :=
  act s (fun s =>
    (s.consume (2 * c.val + l.val) (fun m => m.op == 0x14)).ckptStatus c.val done' error epoch count front)

/-- A carrier whose checkpoint runs: CKPT_BEGIN sent, DONE not reported. -/
def State.ckptRuns (s : State) (c : Nat) : Bool :=
  s.persist.running && s.get Reg.semicolonState != 2 && decide (c < s.carrierCount) && (s.semi c).begun && !(s.semi c).done

/-- The checkpoint timer of carrier c (R59), which runs only while a link of it is in the state UP: an attempt that has
had its 1.25 ms without a rise of COUNT is one without progress, and 1.25 ms without a status send CKPT_BEGIN again. -/
def State.ckptTimer (s : State) (c : Nat) : State :=
  let t := s.semi c
  if s.ckptRuns c && !t.stuck && s.carrierHasUp c then
    let s := s.ckptJudge c (s.due (t.sentAt + usCycles 1250))
    if s.due (max t.sentAt t.statusAt + usCycles 1250) then s.ckptAgain c else s
  else s

/-- CKPT_STATUS_TIMEOUT (R59): 1.25 ms without a status, or without a rise of COUNT in an attempt. -/
def execCkptStatusTimeout (c : Fin 8) (s : State) : Host.Outcome State Fault Refusal :=
  act s (fun s => s.ckptTimer c.val)

/-- STUCK_CKPT_RESEND (R59): CKPT_BEGIN again every 1,000 ms while the carrier is stuck. -/
def execStuckCkptResend (c : Fin 8) (s : State) : Host.Outcome State Fault Refusal :=
  act s (fun s =>
    let t := s.semi c.val
    if s.ckptRuns c.val && t.stuck && s.due (t.sentAt + msCycles 1000) then s.ckptBegin c.val false else s)

/-- RESTORE_STATUS (R85): with slices resident, reads that waited for a place are taken (R92). -/
def execRestoreStatus (c : Fin 8) (l : Fin 2) (ready touch sweep done' error : Bool) (epoch val : Nat) (s : State) :
    Host.Outcome State Fault Refusal :=
  act s (fun s =>
    ((s.consume (2 * c.val + l.val) (fun m => m.op == 0x16)).restoreStatus c.val ready touch sweep done' error epoch
      val).runReadWait)

/-- READY_TIMEOUT (R82, check 8): no READY within 500 ms of the sweep PROMOTE. -/
def execReadyTimeout (c : Fin 8) (s : State) : Host.Outcome State Fault Refusal :=
  act s (fun s =>
    if s.image = .restoring ∧ s.get Reg.restartPhase = 3 ∧ c.val < s.carrierCount ∧ (s.car c.val).ready = false ∧
        s.due (s.restore.sweepAt + msCycles 500) = true then
      (s.set Reg.restartCarrierStatus c.val 10).restartFails 0x010B
    else s)

/-- CARRIER_WAIT_EXPIRY (R82, check 3): RESTART_CARRIER_WAIT after power good the checks run with what has come. -/
def execCarrierWaitExpiry (s : State) : Host.Outcome State Fault Refusal :=
  act s (fun s =>
    if s.image = .restoring ∧ s.get Reg.restartPhase = 2 ∧
        s.due (s.restore.startAt + msCycles (s.get Reg.restartCarrierWait)) = true then s.carrierChecks
    else s)

/-- TOUCH_TIMEOUT (R91): a host read still held at RESTORE_TOUCH_LIMIT is completed as poisoned data. Each held part that
runs out counts in RESTORE_TOUCH_TIMEOUTS (DESIGN CHOICE, log 83). A held read of the DMA engine waits on (R297). -/
def execTouchTimeout (id : Nat) (s : State) : Host.Outcome State Fault Refusal :=
  act s (fun s =>
    match s.restore.held.find? (fun h => h.order == id) with
    | some h =>
      match h.work with
      | .image false ia _ _ _ (.hostRead job part) =>
        if s.due (h.cyc + usCycles (s.get Reg.restoreTouchLimit)) then
          let s := s.modRestore (fun r => { r with held := r.held.filter (fun x => x.order != id) })
          let s := (s.bump Reg.restoreTouchTimeouts).raise 0 0x026 (carrierOf s.carrierCount ia)
          (s.readData job part [] 2 0).runReadWait
        else s
      | _ => s
    | none => s)

/-- SAVE_RESEND (R66): 10 µs without an acknowledgement of SAVE on any link of carrier c, up to the assembly of the seal
record's header. -/
def execSaveResend (c : Fin 8) (s : State) : Host.Outcome State Fault Refusal :=
  act s (fun s =>
    let k := c.val
    let late := [0, 1].filter (fun l => s.carLinkUp k l)
    if s.stop.active ∧ s.stop.quiet = false ∧ k < s.carrierCount ∧ late.isEmpty = false ∧
        bit s.stop.saveAck (2 * k) = false ∧ bit s.stop.saveAck (2 * k + 1) = false ∧
        s.due (Tbl.getD s.stop.sentAt k 0 + usCycles 10) = true then
      let s := s.each late (fun s l => s.sendSave k false l false)
      { s with stop := { s.stop with sentAt := Tbl.put s.stop.sentAt k s.now } }
    else s)

/-- HOST_COMPLETION (R169): data of a read of the device, or a completion that matches no tag. -/
def execHostCompletion (tag : Nat) (data : List Byte) (s : State) : Host.Outcome State Fault Refusal :=
  act s (fun s => s.beforeCut (fun s =>
    match s.outstanding tag with
    | none => s.unexpectedCompletion
    | some r =>
      let got := r.got ++ data
      if got.length < r.len then
        s.modHost (fun h => { h with reqs := h.reqs.map (fun q => if q.tag = tag then { q with got := got } else q) })
      else
        let s := s.dropFetch tag
        match r.what with
        | .descriptor k id => s.descData k id (slice got 0 r.len)
        | .dmaRead k burst slot => s.dmaData k burst slot (slice got 0 r.len)))

/-- HOST_COMPLETION_TIMEOUT (R174, row 14): a request of the device fails. -/
def execHostCompletionTimeout (tag : Nat) (k : CplFail) (s : State) : Host.Outcome State Fault Refusal :=
  act s (fun s => s.beforeCut (fun s =>
    match s.outstanding tag with
    | none => s.unexpectedCompletion
    | some r =>
      let cause := match k with | .timeout => 1 | .ur => 2 | .ca => 3 | .poisoned => 4
      let s := match k with
        | .timeout => s.aerUncor r.i 14
        | .poisoned => s.aerUncor r.i 12
        | _ => s
      let s := s.dropFetch tag
      match r.what with
      | .descriptor ch id => s.dmaReadFails ch id 0 cause
      | .dmaRead ch burst slot => s.dmaReadFails ch burst slot cause))

end Sys2Proof.Machine
end

