-- ==== Sys2Proof/Machine/Lanes.lean ====
section
/-!
DEFINITION. The Treyr lanes (spec/15_treyr_lanes.md): which lanes a link has, training and its fall-back, the choice of
rate and width, equalisation, keep-alive retention, and PRBS tests. Sets that a lane repeats without end while it waits
are listed once (log 11).
-/
namespace Sys2Proof.Machine

/-! ### Lanes and links (R334, R370, R382) -/

/-- The bit of REFCLK_STATUS for the reference of link u (Table 15.1). -/
def refBit (u : Nat) : Nat := if u < 10 then 1 else 2

/-- The reference of link u is present. -/
def State.hasRef (s : State) (u : Nat) : Bool := bit (s.get Reg.refclkStatus) (refBit u)

/-- The training state of link u. -/
def State.train (s : State) (u : Nat) : Training := Tbl.getD s.training u Training.reset

/-- The training state of link u replaced. -/
def State.putTrain (s : State) (u : Nat) (t : Training) : State := { s with training := Tbl.put s.training u t }

/-- The training state of link u changed by `f`. -/
def State.modTrain (s : State) (u : Nat) (f : Training → Training) : State := s.putTrain u (f (s.train u))

/-- The own state of a lane. -/
def State.lane (s : State) (n : Nat) : Lane := Tbl.getD s.lanes n Lane.reset

/-- The own state of a lane changed by `f`. -/
def State.modLane (s : State) (n : Nat) (f : Lane → Lane) : State := { s with lanes := Tbl.put s.lanes n (f (s.lane n)) }

/-- This end numbers the lanes of link u (R382): on a carrier link, and as side A of a pair. -/
def State.numbers (s : State) (u : Nat) : Bool := decide (u < 16) || s.get Reg.pairSide == 0

/-- The number of physical lane k of link u. -/
def State.laneNum (s : State) (u k : Nat) : Nat := if s.numbers u then k else (s.lane (firstLane u + k)).laneNo

/-- The lanes of link u whose number lies in a mask. -/
def State.lanesIn (s : State) (u mask : Nat) : List Nat :=
  ((List.range (nominalWidth u)).filter (fun k => bit mask (s.laneNum u k))).map (firstLane u + ·)

/-- The mask of every lane of link u. -/
def fullMask (u : Nat) : Nat := 2 ^ nominalWidth u - 1

/-- The lane reports neither loss of signal nor loss of lock (R389). -/
def State.laneSound (s : State) (n : Nat) : Bool := !(s.lane n).losReported && !(s.lane n).lolReported

/-- The mask of the lanes of link u that report no loss. -/
def State.soundMask (s : State) (u : Nat) : Nat :=
  (List.range (nominalWidth u)).foldl (fun m k => setBit m (s.laneNum u k) (s.laneSound (firstLane u + k))) 0

/-- Bits of LANE_STATUS set or cleared. -/
def State.laneBits (s : State) (n : Nat) (l : List (Nat × Bool)) : State :=
  s.each l (fun s (x : Nat × Bool) => s.putBit Reg.laneStatus n x.1 x.2)

/-- A source raised for several units at once: it is counted once. -/
def State.raiseUnits (s : State) (n : Nat) : List Nat → State
  | [] => s
  | u :: r =>
    let s := s.raise 0 n u
    s.modEvents (fun e => { e with units := r.foldl (fun t v => SegSet.add t (unitKey 0 n v)) e.units })

/-! ### Coefficients (R384, Table 15.6) -/

/-- The coefficients C−1 and C+1 of a preset, as bytes. -/
def preset : Nat → Nat × Nat
  | 0 => (0, 0) | 1 => (0, 252) | 2 => (0, 248) | 3 => (0, 244) | 4 => (252, 0) | 5 => (252, 252)
  | 6 => (252, 248) | _ => (250, 244)

/-- C0 of a pair of coefficients. -/
def mainTap (c : Nat × Nat) : Nat := 48 - ((256 - c.1) % 256 + (256 - c.2) % 256)

/-- TX_COEFF of a pair of coefficients. -/
def txCoeffOf (c : Nat × Nat) : Nat := c.1 % 256 + 256 * mainTap c + 65536 * (c.2 % 256)

/-- A signed byte held to the range from −n to 0. -/
def clipTap (n v : Nat) : Nat :=
  let x := signed8 v
  if 0 ≤ x then 0 else if x < -(n : Int) then 256 - n else v % 256

/-! ### Width (R383) -/

/-- The block of lanes that a mask allows: the widest power of two up to `w`, at the lowest place. Answers width and
place. -/
def widestIn (nominal mask : Nat) : List Nat → Option (Nat × Nat)
  | [] => none
  | w :: r =>
    match (List.range (nominal / w)).find? (fun j => (List.range w).all (fun k => bit mask (j * w + k))) with
    | some j => some (w, j)
    | none => widestIn nominal mask r

/-- The width that link u takes of a mask, up to a limit. -/
def chooseWidth (u limit mask : Nat) : Option (Nat × Nat) :=
  widestIn (nominalWidth u) mask ([8, 4, 2, 1].filter (fun w => decide (w ≤ nominalWidth u) && decide (w ≤ limit)))

/-- The physical lane of link u that has number x. -/
def State.physOf (s : State) (u x : Nat) : Nat :=
  ((List.range (nominalWidth u)).find? (fun k => s.laneNum u k == x)).getD 0

/-- The selected lanes of link u become w lanes from number j × w on: LANES_GOOD, LANE_MAP and LANE_STATUS. -/
def State.selectLanes (s : State) (u mask w j : Nat) : State :=
  let good := (s.lanesIn u mask).foldl (fun m n => setBit m (n - firstLane u) true) 0
  let chosen := (List.range w).map (fun l => s.physOf u (j * w + l))
  let map := chosen.zipIdx.foldl (fun a (x : Nat × Nat) => a + x.1 * 16 ^ x.2) 0
  let s := (s.set Reg.lanesGood u good).set Reg.laneMap u map
  let s := s.idleLanes ((allLanes u).filter (fun n => !(chosen.contains (n - firstLane u))))
  s.each (allLanes u) (fun s n =>
    let on := chosen.contains (n - firstLane u)
    s.laneBits n [(3, on), (4, on), (6, !on), (7, !on && (s.lane n).kept.isSome)])

/-! ### Training (Table 15.5) -/

/-- Rate codes that a TS_CAP names, with those of this end: all five. -/
def highestRate (far limit : Nat) : Option Nat :=
  [5, 4, 3, 2, 1].find? (fun r => decide (r ≤ limit) && bit far (r - 1))

/-- TS_CAP of every lane of link u that trains. -/
def State.sendCaps (s : State) (u : Nat) : State :=
  let t := s.train u
  s.sendSets u ((List.range (nominalWidth u)).map (fun k =>
    (firstLane u + k, 1, 31, s.laneNum u k + 128 * b2n (s.numbers u), t.good, 1)))

/-- Step 1: every lane of link u leaves electrical idle at 1.25 Gbaud with preset P0 and sends TS_CAP. -/
def State.trainBegin (s : State) (u : Nat) : State :=
  let s := s.modTrain u (fun t => { t with
    step := 1, startAt := s.now, firstGoodAt := none, rate := 0, farRates := 0, good := 0, farGood := 0,
    readyLanes := 0, token := 0, eqPass := 0, eqDoneLanes := 0, failed := false, width := 0 })
  let s := (s.bump Reg.trainings u).idleLanes (allLanes u)
  let s := s.each (allLanes u) (fun s n =>
    let s := s.laneBits n [(0, false), (1, false), (2, false), (3, false), (4, false), (6, false), (7, false)]
    (s.set Reg.txCoeff n (txCoeffOf (preset 0))).modLane n (fun l => { l with eqIter := 0, kept := none }))
  s.sendCaps u

/-- A training attempt of link u fails (R381): the next one uses the next lower common rate; one that failed at rate code
1 starts again after 10 ms, and one that had not chosen a rate starts again as it was (log 22). -/
def State.trainFails (s : State) (u : Nat) : State :=
  let t := s.train u
  if t.rate = 0 ∨ t.prbs = true then s.trainBegin u
  else match highestRate t.farRates (t.rate - 1) with
    | some r => ((s.modTrain u (fun t => { t with ceiling := r })).bump Reg.rateFallbacks u).trainBegin u
    | none => s.modTrain u (fun t => { t with step := 0, failed := true, failAt := s.now })

/-- ALN sets and TS_READY on lanes of link u. -/
def State.sendReady (s : State) (u : Nat) (lanes : List Nat) : State :=
  let s := s.modTrain u (fun t => { t with step := 6, readyLanes := 0 })
  let t := s.train u
  s.sendSets u (lanes.map (fun n => (n, 3, t.rate, t.good, t.token, 0)))

/-- Step 6: TS_READY on the good lanes of link u. -/
def State.readyStart (s : State) (u : Nat) : State := s.sendReady u (s.lanesIn u (s.train u).good)

/-- A PRBS test of link u runs once its training has reached the end of step 5 (R390). -/
def State.prbsRun (s : State) (u : Nat) : State :=
  let t := s.train u
  let lanes := s.get Reg.prbsLanes u
  let s := s.each (List.replicate 16 ()) (fun s _ => s.sendSets u ((allLanes u).map (fun n =>
    (n, 16, s.get Reg.prbsPattern u, lanes % 256, t.rate, 0))))
  (s.modTrain u (fun t => { t with step := 0 })).set Reg.prbsState u 2

/-- What follows step 5: TS_READY, or the PRBS test. -/
def State.afterRate (s : State) (u : Nat) : State := if (s.train u).prbs then s.prbsRun u else s.readyStart u

/-- Equalisation of the good lanes of link u begins (R385). -/
def State.eqStart (s : State) (u : Nat) : State :=
  let s := s.modTrain u (fun t => { t with step := 5, eqPass := 0, eqDoneLanes := 0 })
  let p := s.get Reg.eqStartPreset u
  let lanes := s.lanesIn u (s.train u).good
  let s := s.each lanes (fun s n =>
    (s.set Reg.txCoeff n (txCoeffOf (preset p))).modLane n (fun l => { l with eqIter := 1, best := (0, 0), bestCoeff := preset p }))
  s.sendSets u (lanes.map (fun n => (n, 8, 0, 0, p, 1)))

/-- Step 4: 1 µs of electrical idle, and the lanes change to the chosen rate; step 5 or 6 follows. -/
def State.rateChange (s : State) (u : Nat) : State :=
  let s := (s.emit (.electricalIdle u)).idleLanes (allLanes u)
  let r := (s.train u).rate
  if 4 ≤ r then s.eqStart u
  else
    let p := if r = 1 then preset 0 else preset (s.get Reg.eqStartPreset u)
    (s.each (s.lanesIn u (s.train u).good) (fun s n => s.set Reg.txCoeff n (txCoeffOf p))).afterRate u

/-- Sixteen TS_RATE on each good lane. -/
def State.sendRate (s : State) (u : Nat) : State :=
  let t := s.train u
  let lanes := s.lanesIn u t.good
  s.each (List.replicate 16 ()) (fun s _ => s.sendSets u (lanes.map (fun n => (n, 2, t.rate, 0, t.token, 0))))

/-- Step 3: the numbering end chooses the rate (R381), with a fresh TOKEN. -/
def State.chooseRate (s : State) (u : Nat) : State :=
  let t := s.train u
  let limit := if t.prbs then s.get Reg.prbsRate u else min t.ceiling (s.get Reg.trainRateMax u)
  match (if t.prbs then some limit else highestRate t.farRates limit) with
  | none => s
  | some r =>
    let token := Config.token s.draws % 256
    (s.drawn.modTrain u (fun t => { t with step := 3, rate := r, token := token })).sendRate u

/-- TS_CAP accepted on a lane (step 2): sets received show that neither detector asserts any more. -/
def State.gotCap (s : State) (n rates laneNo : Nat) (numbering : Bool) (mask : Nat) : State :=
  let u := linkOf n
  let s := s.modLane n (fun l => { l with losRaw := false, lolRaw := false })
  if (s.train u).step = 1 ∧ s.laneSound n = true then
    let s := s.modLane n (fun l => { l with laneNo := if numbering && !(s.numbers u) then laneNo % 8 else l.laneNo })
    let s := s.laneBits n [(0, true), (1, true), (2, true)]
    let x := s.laneNum u (n - firstLane u)
    let s := s.modTrain u (fun t => { t with
      good := setBit t.good x true, farRates := rates, farGood := mask % 256,
      firstGoodAt := if t.firstGoodAt.isSome then t.firstGoodAt else some s.now })
    let t := s.train u
    let s := s.sendSet n 1 31 (s.laneNum u (n - firstLane u) + 128 * b2n (s.numbers u)) t.good 1
    if s.numbers u && t.good == fullMask u && t.farGood == fullMask u then s.chooseRate u else s
  else s

/-- TS_RATE accepted (steps 3 and 4): the numbering end sees its choice come back, the other end echoes it. -/
def State.gotRate (s : State) (u rate token : Nat) : State :=
  let t := s.train u
  if s.numbers u then
    (if t.step = 3 ∧ rate = t.rate ∧ token = t.token then s.rateChange u else s)
  else if t.step = 1 ∧ 1 ≤ rate ∧ rate ≤ 5 then
    ((s.modTrain u (fun t => { t with step := 3, rate := rate, token := token })).sendRate u).rateChange u
  else s

/-! ### Equalisation (R385) -/

/-- Step 5 ends once every lane has tuned the far transmitter and the far end has tuned this one. In training, a lane
that failed leaves no block of the nominal width, and the attempt falls back. -/
def State.eqEnd (s : State) (u : Nat) (inTraining : Bool) : State :=
  let t := s.train u
  let tuning := (allLanes u).any (fun n => (s.lane n).eqIter != 0)
  let missing := (List.range (nominalWidth u)).any (fun x => bit t.good x && !(bit t.eqDoneLanes x))
  if t.step ≠ 5 ∨ tuning = true ∨ missing = true then s
  else if inTraining && (chooseWidth u (nominalWidth u) t.eqPass).map (·.1) != some (nominalWidth u) then s.trainFails u
  else s.afterRate u

/-- An eye is better: it passes where the other does not, then it is wider, then taller. -/
def betterEye (minW minH : Nat) (a b : Nat × Nat) : Bool :=
  let p (x : Nat × Nat) : Bool := decide (minW ≤ x.1) && decide (minH ≤ x.2)
  if p a != p b then p a else if a.1 ≠ b.1 then decide (b.1 < a.1) else decide (b.2 < a.2)

/-- A lane's tuning ends with EQ_DONE; one that does not pass leaves the receive-good mask. -/
def State.eqFinish (s : State) (n : Nat) : State :=
  let u := linkOf n
  let l := s.lane n
  let x := s.laneNum u (n - firstLane u)
  let s := s.sendSet n 10 l.bestCoeff.1 l.bestCoeff.2 l.best.1 (l.best.2 / 4)
  let s := s.modLane n (fun l => { l with eqIter := 0 })
  if s.get Reg.eyeMinWidth u ≤ l.best.1 ∧ s.get Reg.eyeMinHeight u ≤ l.best.2 then
    s.modTrain u (fun t => { t with eqPass := setBit t.eqPass x true })
  else (s.modTrain u (fun t => { t with good := setBit t.good x false })).raise 0 0x0C2 n

/-- EQ_ACK with the eye then measured: the best coefficients are kept, and the receiver asks for others or ends (log 23). -/
def State.eqAcked (s : State) (n cm1 cp1 width height : Nat) : State :=
  let u := linkOf n
  let l := s.lane n
  if (s.train u).step ≠ 5 ∨ l.eqIter = 0 then s
  else
    let s := if l.eqIter = 1 ∨ betterEye (s.get Reg.eyeMinWidth u) (s.get Reg.eyeMinHeight u) (width, height) l.best = true
      then s.modLane n (fun l => { l with best := (width, height), bestCoeff := (cm1 % 256, cp1 % 256) }) else s
    let v := Config.eqChoice s.draws
    let s := s.drawn
    if v % 2 = 0 ∨ 32 ≤ l.eqIter then s.eqFinish n
    else
      let s := s.modLane n (fun l => { l with eqIter := l.eqIter + 1 })
      s.sendSet n 8 ((256 - v / 2 % 9) % 256) ((256 - v / 18 % 17) % 256) 255 (l.eqIter + 1)

/-- EQ_REQ: the coefficients asked for are applied within their limits and answered. -/
def State.eqAsked (s : State) (n cm1 cp1 p : Nat) : State :=
  if (s.train (linkOf n)).step ≠ 5 then s
  else
    let want := if p ≤ 7 then preset p else (cm1 % 256, cp1 % 256)
    let c := (clipTap 8 want.1, clipTap 16 want.2)
    (s.set Reg.txCoeff n (txCoeffOf c)).sendSet n 9 c.1 c.2 (mainTap c) (b2n (c != want))

/-- EQ_DONE: the far end has chosen this transmitter's coefficients. -/
def State.eqChosen (s : State) (n cm1 cp1 : Nat) : State :=
  let u := linkOf n
  if (s.train u).step ≠ 5 then s
  else
    let s := s.set Reg.txCoeff n (txCoeffOf (clipTap 8 cm1, clipTap 16 cp1))
    s.modTrain u (fun t => { t with eqDoneLanes := setBit t.eqDoneLanes (s.laneNum u (n - firstLane u)) true })

/-! ### Ready lanes -/

/-- TS_READY accepted on a lane that takes part: the lane is locked and aligned, and ready. `gained`: the lane joins the
receive-good mask, as in a pause or a recovery. -/
def State.noteReady (s : State) (n mask : Nat) (gained : Bool) : State :=
  let u := linkOf n
  let x := s.laneNum u (n - firstLane u)
  let s := s.laneBits n [(0, true), (1, true), (2, true), (3, true)]
  s.modTrain u (fun t => { t with
    farGood := mask % 256, readyLanes := setBit t.readyLanes x true,
    good := if gained then setBit t.good x (bit t.good x || s.laneSound n) else t.good })

/-- The lanes good in both directions (R383). -/
def Training.both (t : Training) : Nat := Nat.land t.good t.farGood

/-- The width and its lanes are taken (R383). -/
def State.takeWidth (s : State) (u w j : Nat) : State :=
  (s.selectLanes u (s.train u).both w j).modTrain u (fun t => { t with step := 7, width := w })

/-- TS_READY in training: step 7 once it has been accepted on every selected lane (Table 15.5). -/
def State.gotReady (s : State) (n mask : Nat) : State :=
  let u := linkOf n
  let s := s.noteReady n mask false
  match chooseWidth u (nominalWidth u) (s.train u).both with
  | none => s.trainFails u
  | some (w, j) =>
    if (List.range w).all (fun k => bit (s.train u).readyLanes (j * w + k)) then s.takeWidth u w j else s

/-- The lanes of a pause or a recovery report ready: TS_READY has been accepted on each lane good in both directions, and
R383 selects the width, at most `limit` (R388). -/
def State.readyAgain (s : State) (u limit : Nat) : State :=
  let t := s.train u
  match chooseWidth u limit t.both with
  | none => s
  | some (w, j) =>
    if (List.range (nominalWidth u)).all (fun k => !(bit t.both k) || bit t.readyLanes k) then s.takeWidth u w j else s

/-! ### Keep-alive (R387) -/

/-- The logical lane 0 of link u. -/
def State.laneZero (s : State) (u : Nat) : Nat := firstLane u + s.get Reg.laneMap u % 16

/-- Link u runs in keep-alive. -/
def State.keepAlive (s : State) (u : Nat) : Bool := (allLanes u).any (fun n => (s.lane n).kept.isSome)

/-- The lanes of link u enter keep-alive: their settings go to retention, and all but logical lane 0 are idle. -/
def State.retainLanes (s : State) (u : Nat) : State :=
  let z := s.laneZero u
  let rate := s.get Reg.linkRate u
  let s := s.idleLanes ((allLanes u).filter (fun n => n != z))
  s.each (allLanes u) (fun s n =>
    if (s.lane n).kept.isSome then s
    else
      let s := s.modLane n (fun l => { l with kept := some (rate, s.get Reg.txCoeff n, s.get Reg.ctlePeak n) })
      if n = z then s.set Reg.txCoeff n (txCoeffOf (preset 0))
      else s.laneBits n [(1, false), (2, false), (3, false), (4, false), (6, true), (7, true)])

/-- The lanes of link u run at 1.25 Gbaud again, their settings still kept: a recovery in keep-alive (Table 15.9). -/
def State.wakeLanes (s : State) (u : Nat) : State :=
  s.each (allLanes u) (fun s n =>
    if (s.lane n).kept.isNone then s
    else (s.set Reg.txCoeff n (txCoeffOf (preset 0))).laneBits n [(6, false), (7, false)])

/-- The lanes of link u take their retained settings again. -/
def State.restoreLanes (s : State) (u : Nat) : State :=
  s.each (allLanes u) (fun s n =>
    match (s.lane n).kept with
    | none => s
    | some (_, c, p) =>
      let s := ((s.set Reg.txCoeff n c).set Reg.ctlePeak n p).modLane n (fun l => { l with kept := none })
      s.laneBits n [(6, false), (7, false)])

/-! ### PRBS (R390) -/

/-- Lane n takes part in a PRBS test that is running. -/
def State.prbsTests (s : State) (n : Nat) : Bool :=
  s.get Reg.prbsState (linkOf n) == 2 && bit (s.get Reg.prbsLanes (linkOf n)) (n - firstLane (linkOf n))

/-- What object r of lane n counts or detects on the line at present, below `bound` (a free value, log 74). -/
def State.measured (s : State) (r n bound : Nat) : Nat := Config.measured r n s.now % bound

/-- The checker of a lane that a PRBS test watched keeps what it shows. -/
def State.prbsKeep (s : State) (n : Nat) : State :=
  if s.prbsTests n then
    ((s.set Reg.prbsBits n (s.measured Reg.prbsBits n (2 ^ 64))).set Reg.prbsErrors n
      (s.measured Reg.prbsErrors n (2 ^ 64))).set Reg.prbsLocked n (s.measured Reg.prbsLocked n 2)
  else s

/-- A PRBS test of link u ends: 10 µs of electrical idle, and source 0x0C4. -/
def State.prbsEnd (s : State) (u : Nat) : State :=
  if s.get Reg.prbsState u = 1 ∨ s.get Reg.prbsState u = 2 then
    let s := s.each (allLanes u) State.prbsKeep
    let s := ((s.emit (.electricalIdle u)).idleLanes (allLanes u)).set Reg.prbsState u 3
    let s := s.modTrain u (fun t => { t with step := 0, prbs := false })
    s.raiseUnits 0x0C4 ((List.range (nominalWidth u)).filterMap (fun k =>
      if bit (s.get Reg.prbsLanes u) k then some (firstLane u + k) else none))
  else s

/-- START of a PRBS test: the link trains at PRBS_RATE, and the counters start again. -/
def State.prbsStart (s : State) (u : Nat) : State :=
  let s := s.each (allLanes u) (fun s n => ((s.set Reg.prbsBits n 0).set Reg.prbsErrors n 0).set Reg.prbsLocked n 0)
  ((s.set Reg.prbsState u 1).modTrain u (fun t => { t with prbs := true })).trainBegin u

end Sys2Proof.Machine
end

