-- ==== Sys2Proof/Machine/Link.lean ====
section
/-!
DEFINITION. The Treyr link layer (spec/14_treyr_link.md): initialisation, pauses, recovery, going down and up, and the
receiving side of the flow-unit stream.
-/
namespace Sys2Proof.Machine

/-! ### Times (R348, R352, Table 14.4) -/

/-- LINK_HEADROOM of an RTT in ns at a width and a rate: ⌈RTT ÷ FU time⌉ + 2 + 16 (R352). -/
def headroomOf (rtt width rate : Nat) : Nat := ceilDiv (rtt * 10000 * width) (72 * codeTime rate) + 18

/-- The effective ACK timeout of link u in ns, rounded up (R348). -/
def State.ackLimit (s : State) (u : Nat) : Nat :=
  let fus := ceilDiv (8 * 72 * codeTime (s.get Reg.linkRate u)) (10000 * max 1 (s.get Reg.linkWidth u))
  max (s.get Reg.ackTimeout u) (s.get Reg.linkRtt u + fus)

/-! ### Fresh flow control (R350, R354) -/

/-- Flow control of link u starts afresh at a width, with the whole initial grant to give. -/
def State.freshFlow (s : State) (u width : Nat) : State :=
  let s := s.set Reg.linkFcMode u (b2n (decide (4 ≤ width)))
  s.modLink u (fun l => { l with
    fcSeen := false, xoff := 255, granted := [], used := [], fcNext := 0, heldSince := [],
    given := (List.range (2 * s.vcsOf u)).foldl (fun t k => Tbl.put t k (s.initialGrant u k)) [] })

/-! ### Pauses (R359, R360) -/

/-- PAUSE_REQ, PAUSE_ACK of a pause. -/
def State.sendPause (s : State) (u type : Nat) (p : Pause) : State :=
  s.sendCtrl u type p.reason (p.width + 16 * p.rate) 0 0

/-- The width a number of lanes gives as a power of two, and back. -/
def widthOf (log : Nat) : Nat := 2 ^ (log % 4)

/-- Step 4 of Table 14.10: the lanes of link u change. The pause to x1 at rate code 1 enters keep-alive, one that leaves
it restores the lanes, reason 4 retunes the selected lanes where the rate is one that R385 tunes, and reason 3 trains every lane again from step 4 of Table
15.5. -/
def State.laneChange (s : State) (u : Nat) (p : Pause) : State :=
  let sound := s.soundMask u
  let selected := (allLanes u).foldl (fun m n =>
    if bit (s.get Reg.laneStatus n) 4 then setBit m (s.laneNum u (n - firstLane u)) true else m) 0
  let s := s.modTrain u (fun t => { t with rate := p.rate, readyLanes := 0, farGood := 0 })
  if p.rate = 1 ∧ p.width = 0 then
    let s := s.retainLanes u
    (s.modTrain u (fun t => { t with good := setBit 0 (s.laneNum u (s.laneZero u - firstLane u)) true })).readyStart u
  else
    let s := s.restoreLanes u
    if p.reason = 4 then
      let s := s.modTrain u (fun t => { t with good := Nat.land selected sound })
      if 4 ≤ p.rate then s.eqStart u else s.readyStart u
    else if p.reason = 3 then (s.modTrain u (fun t => { t with good := sound })).rateChange u
    else (s.modTrain u (fun t => { t with good := sound })).readyStart u

/-- PAUSE_ACK leaves once every flow unit of this end is acknowledged; with both sent and received the lanes change. -/
def State.pauseTry (s : State) (u : Nat) : State :=
  match (s.link u).pause with
  | none => s
  | some p =>
    if s.linkState u ≠ .paused ∨ p.ackSent = true ∨ (s.link u).buf ≠ [] then s
    else
      let s := (s.sendPause u 0x43 p).modLink u (fun l => { l with pause := some { p with ackSent := true }, ctrlAt := s.now })
      if p.ackSeen then s.laneChange u p else s

/-- Link u is PAUSED for a pause of this end's (`ours`) or of the far end's. -/
def State.pauseEnter (s : State) (u reason width rate : Nat) (ours : Bool) : State :=
  let p : Pause := ⟨reason, width, rate, ours, s.now, false, false, false, !ours⟩
  let s := (s.setLinkState u .paused).modLink u (fun l => { l with
    pause := some p, wantPause := if ours then none else l.wantPause, heldSince := [], ctrlAt := s.now, resumeSeen := false,
    resumeEchoed := false, resuming := false })
  let s := if ours then s.sendPause u 0x42 p else s
  s.pauseTry u

/-- A pause that link u wants starts now if it may: the link is UP, the other link of the pair is not PAUSED, and no cut
has fallen (R360, Table 14.14). -/
def State.pauseWanted (s : State) (u : Nat) : State :=
  match (s.link u).wantPause with
  | none => s
  | some (reason, width, rate) =>
    if s.linkState u = .up ∧ s.linkState (otherLink u) ≠ .paused ∧ s.cutPassed = false then
      s.pauseEnter u reason width rate true
    else s

/-- A pause of link u is asked for. -/
def State.askPause (s : State) (u reason width rate : Nat) : State :=
  (s.modLink u (fun l => { l with wantPause := some (reason, width, rate) })).pauseWanted u

/-- The rate in force of link u outside keep-alive: the lowest of its cap and its trained rate (R360). -/
def State.rateInForce (s : State) (u : Nat) : Nat := min (s.get Reg.linkRateCap u) (s.get Reg.trainedRate u)

/-- A link that is UP and does not run as its power state and its cap ask wants a pause: keep-alive outside A0, and the
rate in force in A0. A running transition pauses the links by its own steps, and a cap waits for its end (Table 16.5). -/
def State.settleLink (s : State) (u : Nat) : State :=
  if s.linkState u ≠ .up ∨ s.power.trans.isSome = true ∨ (s.link u).wantPause.isSome = true then s
  else if s.powerState ≠ 0 then (if s.keepAlive u then s else s.askPause u 1 0 1)
  else if s.get Reg.linkRate u ≠ s.rateInForce u then s.askPause u 2 (log2w (s.get Reg.linkWidth u)) (s.rateInForce u)
  else s

/-- A pause before PAUSE_ACK is abandoned: the link is UP again (Table 14.14). One of this end's is still wanted. -/
def State.abandonPause (s : State) (u : Nat) : State :=
  match (s.link u).pause with
  | some p =>
    if s.linkState u = .paused ∧ p.ackSent = false then
      let s := (s.setLinkState u .up).modLink u (fun l => { l with
        pause := none, wantPause := if p.ours then some (p.reason, p.width, p.rate) else l.wantPause })
      (s.tagsStood u p.startAt).pump u
    else s
  | none => s

/-! ### Up and down -/

/-- What follows when link u is UP: its sources, its engine, and the pauses that waited for it. -/
def State.upNow (s : State) (u : Nat) : State :=
  let s := s.withdrawUnit 0 0x0A0 u
  let s := if s.powerState = 0 ∧ s.get Reg.linkWidth u < nominalWidth u ∧ s.keepAlive u = false
    then s.keepPending 0 0x0A4 u
    else if s.get Reg.linkWidth u = nominalWidth u then s.withdrawUnit 0 0x0A4 u else s
  let s := s.pump u
  ((s.pauseWanted u).settleLink u).pauseWanted (otherLink u)

/-- Step 4 of Table 14.9: link u is UP. -/
def State.linkUp (s : State) (u : Nat) : State :=
  let s := s.setLinkState u .up
  let s := s.linkRecord u 3 2 0 (s.get Reg.linkWidth u) (s.get Reg.linkRate u)
  let s := if u < 16 then (s.modCar (u / 2) (fun k => { k with upMs := s.msSinceGood })).carrierLinkUp (u / 2) (u % 2)
    else s.partnerReturned (u - 16)
  s.upNow u

/-- The training state of a link that has gone down: its next training starts from TRAIN_RATE_MAX (R381). -/
def freshTrain (held : Bool) (ceiling : Nat) : Training := { Training.reset with held := held, ceiling := ceiling }

/-- A link that goes down is active (wake source 15): a link of an active carrier, or of a pair that this side keeps. -/
def State.linkActive (s : State) (u : Nat) : Bool :=
  if u < 16 then decide (u / 2 < s.carrierCount) else s.mirror.wanted

/-- LINK_DECLARED_DOWN (R363): steps 1 to 3, with the hand-over of R364; step 4 is TRAINING_START, held after COMMAND. -/
def State.declareDown (s : State) (u cause : Nat) : State :=
  let old := s.linkState u
  let l := s.link u
  let lost := (l.sent ++ l.queue).flatMap Group.lost
  let s := if old = .down ∨ old = .disabled ∨ cause = 11 then s
    else s.each (List.replicate 8 ()) (fun s _ => s.sendCtrl u 0x46 cause 0 0 0)
  let s := s.idleLanes (allLanes u)
  let s := (s.setLinkState u .down).bump Reg.linkDowns u
  let s := ((s.set Reg.lastDownCause u cause).set Reg.linkWidth u 0).set Reg.linkRate u 0
  let s := (s.raise 0 0x0A0 u).linkRecord u 1 old.code cause 0 0
  let s := if s.linkActive u && old.isUp then s.wake 15 else s
  let s := s.putLink u { Link.reset with inbox := l.inbox, crcSecond := l.crcSecond, crcCount := l.crcCount }
  let s := s.putTrain u (freshTrain (decide (cause = 8)) (s.get Reg.trainRateMax u))
  let s := s.each (allLanes u) (fun s n => s.modLane n (fun l => { l with eqIter := 0, kept := none, low := 0 }))
  let s := s.abandonPause (otherLink u)
  let s :=
    if !old.isUp then s
    else if u < 16 then
      s.carrierDown (u / 2) (u % 2) cause lost ((l.n + 4096 - l.o % 4096) % 4096) l.o
    else
      let x := s.partnerDown (u - 16) lost
      let survivor := if x.1.partnerUp (1 - (u - 16)) then otherLink u else 255
      x.1.failoverRecord u survivor cause 0 ((l.n + 4096 - l.o % 4096) % 4096) l.o x.2.1 x.2.2
  s.pauseWanted (otherLink u)

/-- A link protocol error (R363). -/
def State.linkProtocol (s : State) (u : Nat) : State :=
  ((s.bump Reg.linkProtocolErrors u).raise 0 0x0A3 u).declareDown u 4

/-! ### Initialisation (R358, Table 14.9) -/

/-- The role and VC bits of an INIT set of link u. -/
def State.initByte (s : State) (u : Nat) : Nat := (if u < 16 then 1 else 3) + 16 * (s.vcsOf u - 1)

/-- An INIT set with the TOKEN of link u. -/
def State.sendInit (s : State) (u : Nat) : State :=
  s.sendCtrl u 0x40 (s.initByte u) (if u < 16 then u % 2 else u - 16) (s.link u).token 1

/-- Step 1: link u enters INIT, with its lanes at the trained width and rate. -/
def State.enterInit (s : State) (u : Nat) : State :=
  let t := s.train u
  let token := Config.token s.draws % 256
  let s := s.drawn
  let s := (s.setLinkState u .init).set Reg.linkWidth u t.width
  let s := (s.set Reg.linkRate u t.rate).set Reg.trainedRate u t.rate
  let s := s.modTrain u (fun t => { t with step := 0 })
  let s := s.putLink u { Link.reset with
    inbox := (s.link u).inbox, crcSecond := (s.link u).crcSecond, crcCount := (s.link u).crcCount, token := token,
    tokenAt := s.now, initAt := s.now, ctrlAt := s.now, queue := (s.link u).queue }
  (s.freshFlow u t.width).sendInit u

/-- Both steps done: UP, with headroom and flow control fresh. -/
def State.initDone (s : State) (u : Nat) : State :=
  if (s.link u).checked ∧ (s.link u).echoed then s.linkUp u else s

/-- An RTT has been measured in timebase cycles (R353): the headroom follows. -/
def State.takeRtt (s : State) (u width rate : Nat) : State :=
  let rtt := 4 * (s.now - (s.link u).tokenAt)
  (s.set Reg.linkRtt u (min rtt 4294967295)).set Reg.linkHeadroom u (min (headroomOf rtt width rate) 65535)

/-- INIT received (step 2). A link that is UP already answers a far end that still initialises (DEDUCED from Table 14.9,
log 103). -/
def State.gotInit (s : State) (u role vcs idx token version : Nat) : State :=
  if s.linkState u ≠ .init ∧ s.linkState u ≠ .up then s
  else if role = (if u < 16 then 2 else 3) ∧ idx = (if u < 16 then u % 2 else u - 16) ∧ version = 1 ∧
      (u < 16 ∨ vcs = s.vcsOf u) then
    let s := s.sendCtrl u 0x41 0 0 token 0
    if s.linkState u = .up then s else (s.modLink u (fun l => { l with checked := true })).initDone u
  else if s.linkState u = .up then s
  else
    let s := s.bump Reg.linkProtocolErrors u
    let s := if (s.link u).badCheck then s else s.raise 0 0x0A3 u
    s.modLink u (fun l => { l with badCheck := true })

/-- INIT_ECHO received (step 3). -/
def State.gotInitEcho (s : State) (u token : Nat) : State :=
  if s.linkState u ≠ .init ∨ token ≠ (s.link u).token ∨ (s.link u).echoed = true then s
  else
    let s := s.takeRtt u (s.get Reg.linkWidth u) (s.get Reg.linkRate u)
    if 1000 < s.get Reg.linkRtt u then s.declareDown u 10
    else (s.modLink u (fun l => { l with echoed := true })).initDone u

/-! ### Recovery and RESUME (R361, R362) -/

/-- Link u enters RECOVERING: lanes in retention restore, in keep-alive at 1.25 Gbaud for a width of x1 (Table 15.9), and
every lane sends TS_READY at the rate in force (R388). A pause of this end's that had not reached its lane change is
wanted again. -/
def State.enterRecovering (s : State) (u lost : Nat) : State :=
  let p := (s.link u).pause
  let s : State := match p with
    | some q => if s.linkState u = .paused then s.tagsStood u q.startAt else s
    | none => s
  let s := (s.setLinkState u .recovering).bump Reg.recoveries u
  let s := s.modLink u (fun l => { l with
    lossAt := s.now, resuming := false, resumeSeen := false, resumeEchoed := false, heldSince := [], pause := none,
    wantPause := match p with | some q => if q.ours then some (q.reason, q.width, q.rate) else l.wantPause | none => l.wantPause })
  let alive := s.keepAlive u
  let s := (if alive then s.wakeLanes u else s).each (allLanes u) (fun s n => s.laneBits n [(6, false), (7, false)])
  (s.modTrain u (fun t => { t with
    rate := s.get Reg.linkRate u, farGood := 0, limit := if alive then 1 else nominalWidth u,
    good := Nat.land (s.soundMask u) (fullMask u - Nat.land (fullMask u) lost) })).sendReady u (allLanes u)

/-- RESUME of link u leaves with its E and a fresh TOKEN. -/
def State.sendResume (s : State) (u : Nat) : State :=
  let l := s.link u
  let w := (s.train u).width
  s.sendCtrl u 0x44 (l.e % 256) (l.e / 256 % 16 + 16 * b2n (decide (4 ≤ w))) l.token (log2w w + 16 * (s.train u).rate)

/-- The lanes of a link that pauses or recovers are ready (step 5): a width below LINK_MIN_WIDTH in A0 takes the link down,
else RESUME leaves. -/
def State.resumeStart (s : State) (u : Nat) : State :=
  let w := (s.train u).width
  let asked := match (s.link u).pause with | some p => widthOf p.width | none => (s.train u).limit
  if s.powerState = 0 ∧ w < asked ∧ w < s.get Reg.linkMinWidth u then s.declareDown u 6
  else
    let token := Config.token s.draws % 256
    let s := s.drawn
    let s := s.modTrain u (fun t => { t with step := 0 })
    let s := s.modLink u (fun l => { l with
      resuming := true, resumeEchoed := false, token := token, tokenAt := s.now, ctrlAt := s.now,
      pause := l.pause.map (fun p => { p with lanesReady := true }) })
    s.sendResume u

/-- RESUME and RESUME_ECHO are done (step 6): flow control starts afresh, the link is UP, and what the far end's E says is
missing is replayed (R361). -/
def State.resumeDone (s : State) (u : Nat) : State :=
  let l := s.link u
  if !(l.resumeSeen && l.resumeEchoed) then s
  else
    let oldW := s.get Reg.linkWidth u
    let oldR := s.get Reg.linkRate u
    let old := (s.linkState u).code
    let w := (s.train u).width
    let r := (s.train u).rate
    let since := match l.pause with | some p => p.startAt | none => l.lossAt
    let s := ((s.set Reg.linkWidth u w).set Reg.linkRate u r).freshFlow u w
    let s : State := match l.pause with
      | some p => (if p.reason = 3 then s.set Reg.trainedRate u r else s).bump Reg.pauses u
      | none => s
    let s := s.setLinkState u .up
    let s := s.modLink u (fun l => { l with
      pause := none, resuming := false, waiting := false, dup := 0, ackTries := 0,
      replayDue := if l.resumeE % 4096 = l.n % 4096 then none else some (l.resumeE % 4096) })
    let s := (s.renewXoff u).tagsStood u since
    let s := if oldW ≠ w ∨ oldR ≠ r then s.linkRecord u 3 old 0 w r else s
    s.upNow u

/-- RESUME received: its E is an ACK; a link that is UP recovers with the far end (R361, R362). -/
def State.gotResume (s : State) (u e token : Nat) : State :=
  let s := if s.linkState u = .up then s.enterRecovering u 0 else s
  if (s.linkState u = .paused ∧ (match (s.link u).pause with | some p => p.ackSent && p.ackSeen | none => false) = true) ∨
      s.linkState u = .recovering then
    if !((s.link u).ackValid e) then s.linkProtocol u
    else
      let s := (s.ackTo u e).sendCtrl u 0x45 0 0 token 0
      (s.modLink u (fun l => { l with resumeSeen := true, resumeE := e })).resumeDone u
  else s

/-- RESUME_ECHO received: the RTT is measured again. -/
def State.gotResumeEcho (s : State) (u token : Nat) : State :=
  let l := s.link u
  if l.resuming = false ∨ l.resumeEchoed = true ∨ token ≠ l.token then s
  else
    let s := s.takeRtt u (s.train u).width (s.train u).rate
    if 1000 < s.get Reg.linkRtt u then s.declareDown u 10
    else (s.modLink u (fun l => { l with resumeEchoed := true })).resumeDone u

/-- The lanes of link u report ready: after training INIT follows, in a pause or a recovery RESUME, perhaps at a narrower
width (R362, R388). -/
def State.lanesReady (s : State) (u : Nat) : State :=
  let resume (limit : Nat) : State :=
    let s := if (s.train u).step = 6 then s.readyAgain u limit else s
    if (s.train u).step = 7 then s.resumeStart u else s
  match s.linkState u with
  | .down => if (s.train u).step = 7 then s.enterInit u else s
  | .paused => resume (match (s.link u).pause with | some p => widthOf p.width | none => nominalWidth u)
  | .recovering => resume (s.train u).limit
  | _ => s

/-- A lane of link u has lost lock at the present cycle (R362, Table 14.14). -/
def State.lockLost (s : State) (n : Nat) (los lol : Bool) : State :=
  let u := linkOf n
  let x := s.laneNum u (n - firstLane u)
  let selected := bit (s.get Reg.laneStatus n) 4
  let s := s.modLane n (fun l => { l with losRaw := los, lolRaw := lol })
  let s := s.laneBits n [(0, !los), (1, !los && !lol), (2, false), (3, false)]
  let drop (s : State) : State := s.modTrain u (fun t => { t with good := setBit t.good x false, readyLanes := setBit t.readyLanes x false })
  match s.linkState u with
  | .up => if selected then s.enterRecovering u (2 ^ x) else s
  | .paused =>
    let changing := match (s.link u).pause with | some p => p.ackSent && p.ackSeen | none => false
    if changing then drop s else if selected then s.enterRecovering u (2 ^ x) else s
  | _ => drop s

/-- TS_READY accepted on a lane of a link in any state. -/
def State.laneReadySet (s : State) (n rate mask token : Nat) : State :=
  let u := linkOf n
  let s := s.modLane n (fun l => { l with losRaw := false, lolRaw := false })
  let s := if s.linkState u = .up then s.enterRecovering u 0 else s
  let t := s.train u
  if t.step ≠ 6 ∨ rate ≠ t.rate ∨ s.laneSound n = false then s
  else match s.linkState u with
    | .down => if token = t.token then s.gotReady n mask else s
    | .paused => s.noteReady n mask true
    | .recovering => s.noteReady n mask true
    | _ => s

/-! ### The received stream (R341 to R347) -/

/-- The receiver of link u enters WAIT and asks for a replay (R344). -/
def State.enterWait (s : State) (u : Nat) : State :=
  (s.modLink u (fun l => { l with waiting := true, dup := 0 })).sendNak u

/-- The second of the timebase in which the present instant lies. -/
def State.second (s : State) : Nat := s.now / 250000000

/-- A whole second of CRC errors ends when the next has begun: source 0x0A2 is withdrawn when it passed below the limit. -/
def State.crcRoll (s : State) (u : Nat) : State :=
  let l := s.link u
  if l.crcSecond = s.second then s
  else
    let whole := if s.second = l.crcSecond + 1 then l.crcCount else 0
    let s := s.modLink u (fun l => { l with crcSecond := s.second, crcCount := 0 })
    if whole < s.get Reg.crcErrorLimit u then s.withdrawUnit 0 0x0A2 u else s

/-- A flow unit has failed its check (R341). -/
def State.crcFails (s : State) (u : Nat) : State :=
  let s := (s.crcRoll u).bump Reg.crcErrors u
  let s := s.modLink u (fun l => { l with crcCount := l.crcCount + 1 })
  let s := if (s.link u).crcCount = s.get Reg.crcErrorLimit u + 1 then s.raise 0 0x0A2 u else s
  s.enterWait u

/-- The CONTROL word of a flow unit that passed its check is used: none is a link protocol error. -/
def State.useControl (s : State) (u control : Nat) : Option State :=
  let a := bits control 31 20
  let credit := bit control 12
  if !((s.link u).ackValid a) ∨ credit = s.linkOnOff u then none
  else
    let s := s.ackTo u a
    if credit then
      let k := bits control 11 8
      let old := Tbl.getD (s.link u).granted k 0
      if 127 < (control % 256 + 256 - old) % 256 then none
      else some (s.modLink u (fun l => { l with granted := Tbl.put l.granted k (control % 256), fcSeen := true }))
    else some (s.modLink u (fun l => { l with xoff := control % 256, fcSeen := true }))

/-- The message that a 16-byte slot spells. -/
def msgOf (b : List Byte) : Msg :=
  { op := field b 0 1, flags := field b 1 1, tag := field b 2 2, p0 := field b 4 4, p1 := field b 8 8 }

/-- The messages of the slots of a HEADER payload; an MWRM takes the slot after it as its masks, and NOPs are dropped. -/
def msgsOf : List (List Byte) → List Msg
  | [] => []
  | [a] => if field a 0 1 = 0 then [] else [msgOf a]
  | a :: b :: r =>
    if field a 0 1 = 0 then msgsOf (b :: r)
    else if field a 0 1 = 3 then { msgOf a with mask := some (field b 0 8, field b 8 8) } :: msgsOf r
    else msgOf a :: msgsOf (b :: r)

/-- The data flow units that a message calls for (Tables 13.1, 6.3 and 6.4). -/
def Msg.units (m : Msg) : Nat :=
  if m.op = 2 ∨ m.op = 3 ∨ m.op = 0x80 ∨ m.op = 0x81 then m.p0 % 4 + 1
  else if m.op = 0x21 ∨ m.op = 0x58 then 1
  else if m.op = 0x22 ∨ m.op = 0x55 then 2
  else if m.op = 0x50 ∨ m.op = 0x53 then ceilDiv (m.p1 % 64 + m.tag) 64
  else 0

/-- A message that a carrier may send, on its channel and with no RSVD bit set (R303, R304, R330). -/
def Msg.fromCarrier (m : Msg) (vc : Nat) : Bool :=
  let f := m.flags % 64
  let plain (tag p0 p1 : Nat) : Bool := m.tag == tag && m.p0 == p0 && m.p1 == p1
  match m.op with
  | 0x14 => vc == 2 && decide (f < 4) && m.tag == 0 && decide (m.p1 < 2 ^ 54)
  | 0x16 => vc == 2 && decide (f < 32) && m.tag == 0 && decide (m.p1 < 2 ^ 22)
  | 0x20 => vc == 3 && f == 0 && m.tag == 0
  | 0x21 => vc == 3 && decide (f < 2) && plain 0 0 0
  | 0x22 => vc == 3 && f == 0 && plain 0 0 0
  | 0x80 => vc == 1 && f == 0 && decide (m.p0 < 4) && m.p1 == 0
  | 0x81 => vc == 1 && f == 0 && decide (m.p0 < 4096) && m.p0 / 4 % 64 == 0 && m.p1 == 0
  | 0x82 => vc == 1 && (if f = 1 then m.tag == 0 && decide (m.p0 < 256) && decide (m.p1 < 4294967296)
      else f == 0 && decide (m.p0 < 65536) && m.p1 == 0)
  | 0x83 => vc == 1 && f == 0 && decide (m.p0 < 256) && m.p1 == 0
  | _ => false

/-- The messages of a wholly accepted group are delivered in order (R341); one that breaks the carrier protocol is
discarded (R330), and one that no partner sends is dropped. -/
def State.deliver (s : State) (u vc : Nat) (blocks : List (List Byte)) : List Msg → State
  | [] => s
  | m :: r =>
    let m' := { m with data := blocks.take m.units }
    let s :=
      if u < 16 then
        (if m.fromCarrier vc then s else s.carrierProtocol (u / 2))
      else s
    s.modLink u (fun l => { l with inbox := l.inbox ++ [⟨vc, r.isEmpty, m'⟩] }) |>.deliver u vc (blocks.drop m.units) r

/-- Delivered messages of link u that no engine takes give their room back at once. -/
def State.dropRefused (s : State) (u : Nat) : State :=
  let bad (m : InMsg) : Bool :=
    if u < 16 then !(m.msg.fromCarrier m.vc) else partnerVc m.msg.op (s.vcsOf u) != some m.vc
  s.each ((s.link u).inbox.filter bad) (fun s m =>
    let up (t : Tbl Nat) (k n : Nat) : Tbl Nat := Tbl.put t k ((Tbl.getD t k 0 + n) % 256)
    s.modLink u (fun l =>
      let g := up l.given (2 * m.vc + 1) m.msg.data.length
      { l with inbox := l.inbox.erase m, given := if m.last then up g (2 * m.vc) 1 else g }))

/-- A group whose last flow unit has been accepted is delivered. -/
def State.groupEnds (s : State) (u : Nat) : State :=
  match (s.link u).rxGroup with
  | none => s
  | some (vc, need, blocks) =>
    if blocks.length ≤ need then s
    else
      let head := blocks.headD []
      let msgs := msgsOf [slice head 0 16, slice head 16 16, slice head 32 16, slice head 48 16]
      let s := s.modLink u (fun l => { l with rxGroup := none })
      let s := if msgs.isEmpty then
          s.modLink u (fun l => { l with given := Tbl.put l.given (2 * vc) ((Tbl.getD l.given (2 * vc) 0 + 1) % 256) })
        else s.deliver u vc (blocks.drop 1) msgs
      s.dropRefused u

/-- A HEADER or DATA flow unit is accepted (R341): none when it breaks the form of a group (R337). -/
def State.acceptFu (s : State) (u type vc : Nat) (payload : List Byte) : Option State :=
  let s := s.modLink u (fun l => { l with e := (l.e + 1) % 4096 })
  if s.vcsOf u ≤ vc then none
  else match (s.link u).rxGroup with
    | none =>
      if type ≠ 2 then none
      else
        let msgs := msgsOf [slice payload 0 16, slice payload 16 16, slice payload 32 16, slice payload 48 16]
        let need := msgs.foldl (fun a m => a + m.units) 0
        some (((s.modLink u (fun l => { l with rxGroup := some (vc, need, [payload]) })).groupEnds u).renewXoff u)
    | some (w, need, blocks) =>
      if type ≠ 3 ∨ w ≠ vc then none
      else some (((s.modLink u (fun l => { l with rxGroup := some (w, need, blocks ++ [payload]) })).groupEnds u).renewXoff u)

/-- A flow unit arrives on link u (R341, R345, R347). -/
def State.receiveFu (s : State) (u : Nat) (fu : List Byte) (codeError : Bool) : State :=
  let l := s.link u
  if !(s.linkState u == .up || s.linkState u == .paused) || l.waiting || l.resuming then s
  else if codeError || fu.length != 72 || field fu 68 4 != fuCrc ((l.e + 4096 - l.dup) % 4096) (slice fu 0 68) then s.crcFails u
  else
    let s := s.bump Reg.fusReceived u
    let control := field fu 64 4
    let type := bits control 19 16
    if 4 ≤ type then s.linkProtocol u
    else match s.useControl u control with
      | none => s.linkProtocol u
      | some s1 =>
        let data := type == 2 || type == 3
        let r : Option State :=
          if !data then some s1
          else if 0 < l.dup then some (s1.modLink u (fun l => { l with dup := l.dup - 1 }))
          else s1.acceptFu u type (bits control 15 13) (slice fu 0 64)
        match r with
        | none => s1.linkProtocol u
        | some s2 =>
          let s2 := if u < 16 then s2
            else s2.mapsTaken ((l.sent.take (l.sent.length - (s1.link u).sent.length)).flatMap (·.msgs))
          let s3 := if type = 1 then
              let s := s2.bump Reg.linkNaksReceived u
              if (s.link u).replayDue.isSome then s else s.replayNow u (bits control 31 20) false
            else s2
          (s3.pump u).pauseTry u

/-- REPLAY_MARKER (R347). -/
def State.gotMarker (s : State) (u m : Nat) : State :=
  let l := s.link u
  if !(s.linkState u == .up || s.linkState u == .paused) || l.resuming then s
  else
    let d := (l.e + 4096 - m % 4096) % 4096
    if d ≤ 1024 then s.modLink u (fun l => { l with waiting := false, dup := d })
    else if l.waiting then s
    else s.enterWait u

/-- The oldest flow unit of link u has stood for the effective ACK timeout since it was last transmitted, at a clause
boundary (R348): a replay, and down after four of them in a row. -/
def State.ackLate (s : State) (u : Nat) : State :=
  let l := s.link u
  if (s.linkState u == .up || s.linkState u == .paused) && !l.resuming && !l.buf.isEmpty && l.replayDue.isNone &&
      s.past (l.sentTimes.headD s.now + ceilDiv (s.ackLimit u) 4) then
    if 4 ≤ l.ackTries then s.declareDown u 2
    else
      let s := (s.modLink u (fun l => { l with ackTries := l.ackTries + 1 })).bump Reg.ackTimeouts u
      s.replayNow u l.o false
  else s

/-- Groups of one channel have waited for flow control for CREDIT_TIMEOUT (R355); on a partner link the channels of MCOPY
and RCOPY have no such timer. -/
def State.creditLate (s : State) (u vc : Nat) : State :=
  match Tbl.find (s.link u).heldSince vc with
  | none => s
  | some t =>
    let exempt := 16 ≤ u && (vc == 0 || partnerVc 0x53 (s.vcsOf u) == some vc)
    if s.linkState u == .up && !exempt && s.past (t + usCycles (s.get Reg.creditTimeout u)) then s.declareDown u 3 else s

/-! ### Commands of the objects -/

/-- LINK_ENABLE is written (Table 14.17): 0 declares the link down and holds it DISABLED, 1 lets it train and ends a PRBS
test. -/
def State.linkEnable (s : State) (u : Nat) (on : Bool) : State :=
  let s := s.set Reg.linkEnable u (b2n on)
  if on then
    if s.linkState u = .disabled then
      let s := (s.prbsEnd u).setLinkState u .down
      s.putTrain u (freshTrain false (s.get Reg.trainRateMax u))
    else s
  else if s.linkState u = .disabled then s
  else (s.declareDown u 8).setLinkState u .disabled

end Sys2Proof.Machine
end

