-- ==== Sys2Proof/Machine/Treyr.lean ====
section
/-!
DEFINITION. The commands of the Treyr links and lanes that come from the wire, from a timer or from the lanes
(spec/14_treyr_link.md, spec/15_treyr_lanes.md), and the effects of the commands of their objects.
-/
namespace Sys2Proof.Machine

/-! ### The stream -/

/-- FU_RECEIVE (R341). -/
def execFuReceive (u : Fin 18) (fu : List Byte) (codeError : Bool) (s : State) : Host.Outcome State Fault Refusal :=
  act s (fun s => s.receiveFu u fu codeError)

/-- NAK_FU (R345). -/
def execNakFu (u : Fin 18) (fu : List Byte) (codeError : Bool) (s : State) : Host.Outcome State Fault Refusal :=
  act s (fun s => s.receiveFu u fu codeError)

/-- REPLAY_MARKER (R347). -/
def execReplayMarker (u : Fin 18) (m : Nat) (s : State) : Host.Outcome State Fault Refusal :=
  act s (fun s => s.gotMarker u m)

/-- NAK_REPEAT (R344): a receiver in WAIT asks again at every fourth clause boundary. -/
def execNakRepeat (u : Fin 18) (s : State) : Host.Outcome State Fault Refusal :=
  actItem 11 s (fun s =>
    if (s.linkState u == .up || s.linkState u == .paused) && (s.link u).waiting && !(s.link u).resuming &&
        decide ((s.link u).nakAt + 4 ≤ s.clauseNow) then s.sendNak u else s)

/-- ACK_TIMEOUT (R348). -/
def execAckTimeout (u : Fin 18) (s : State) : Host.Outcome State Fault Refusal := actItem 11 s (fun s => s.ackLate u)

/-- CREDIT_TIMEOUT (R355). -/
def execCreditTimeout (u : Fin 18) (vc : Fin 8) (s : State) : Host.Outcome State Fault Refusal :=
  actItem 11 s (fun s => s.creditLate u vc)

/-- TAG_TIMEOUT (R317): the carrier engine takes the link out of service, with source 0x082 (Table 13.9). -/
def execTagTimeout (c : Fin 8) (l : Fin 2) (s : State) : Host.Outcome State Fault Refusal :=
  actItem 10 s (fun s => if s.tagLate c l then (s.raise 0 0x082 c).declareDown (2 * c + l) 9 else s)

/-! ### Link control sets -/

/-- INIT (R358). -/
def execInit (u : Fin 18) (role vcs idx token version : Nat) (s : State) : Host.Outcome State Fault Refusal :=
  act s (fun s => s.gotInit u role vcs idx token version)

/-- INIT_ECHO (R358). -/
def execInitEcho (u : Fin 18) (token : Nat) (cyc : Fin 128) (s : State) : Host.Outcome State Fault Refusal :=
  act s (fun s => (s.atCycle cyc).gotInitEcho u token)

/-- INIT_TIMEOUT (R358): 1 ms after step 1 a link that is not UP returns to DOWN, and its lanes train again. -/
def execInitTimeout (u : Fin 18) (s : State) : Host.Outcome State Fault Refusal :=
  act s (fun s =>
    if s.linkState u == .init && s.due ((s.link u).initAt + msCycles 1) then
      let s := ((s.setLinkState u .down).set Reg.linkWidth u 0).set Reg.linkRate u 0
      let s := s.linkRecord u 1 2 0 0 0
      s.putTrain u (freshTrain false (s.get Reg.trainRateMax u))
    else s)

/-- PAUSE_START (R359): a pause that is wanted with these targets starts. -/
def execPauseStart (u : Fin 18) (reason width rate : Nat) (s : State) : Host.Outcome State Fault Refusal :=
  act s (fun s => if (s.link u).wantPause = some (reason, width, rate) then s.pauseWanted u else s)

/-- PAUSE_REQ (R359, R360): only the far end of a partner link starts a pause; where two cross with different targets,
side A's prevails. -/
def execPauseReq (u : Fin 18) (reason width rate : Nat) (s : State) : Host.Outcome State Fault Refusal :=
  act s (fun s =>
    if u.val < 16 then s
    else if s.linkState u = .up then s.pauseEnter u reason (width % 4) (rate % 8) false
    else match (s.link u).pause with
      | some p =>
        if s.linkState u == .paused && p.ours then
          let p := { p with reqSeen := true }
          if !p.ackSent && s.get Reg.pairSide == 1 && (p.width != width % 4 || p.rate != rate % 8) then
            (s.modLink u (fun l => { l with
              pause := some { p with reason := reason, width := width % 4, rate := rate % 8, ours := false },
              wantPause := some (p.reason, p.width, p.rate) })).pauseTry u
          else s.modLink u (fun l => { l with pause := some p })
        else s
      | none => s)

/-- PAUSE_ACK (R359): with this end's own sent, the lanes change. -/
def execPauseAck (u : Fin 18) (s : State) : Host.Outcome State Fault Refusal :=
  act s (fun s => match (s.link u).pause with
    | some p =>
      if s.linkState u = .paused ∧ p.ackSeen = false then
        let s := s.modLink u (fun l => { l with pause := some { p with ackSeen := true } })
        if p.ackSent then s.laneChange u p else s
      else s
    | none => s)

/-- RESUME (R361). The width and the rate are those that both ends have selected by the same rule (R383). -/
def execResume (u : Fin 18) (e : Nat) (_onOff : Bool) (token _width _rate : Nat) (s : State) :
    Host.Outcome State Fault Refusal :=
  act s (fun s => s.gotResume u e token)

/-- RESUME_ECHO (R359). -/
def execResumeEcho (u : Fin 18) (token : Nat) (cyc : Fin 128) (s : State) : Host.Outcome State Fault Refusal :=
  act s (fun s => (s.atCycle cyc).gotResumeEcho u token)

/-- DOWN_SET (R363): the far end has declared the link down. -/
def execDownSet (u : Fin 18) (_cause : Nat) (s : State) : Host.Outcome State Fault Refusal :=
  act s (fun s => if s.linkIsUp u || s.linkState u == .init then s.declareDown u 7 else s)

/-- PAUSE_LIMIT_EXPIRY (R360). -/
def execPauseLimitExpiry (u : Fin 18) (s : State) : Host.Outcome State Fault Refusal :=
  act s (fun s => match (s.link u).pause with
    | some p =>
      if s.linkState u == .paused && s.due (p.startAt + usCycles (s.get Reg.pauseLimit u)) then s.declareDown u 5 else s
    | none => s)

/-- CONTROL_SET_RESEND (R359): every 10 µs the set whose answer is awaited goes again; INIT and RESUME carry a fresh TOKEN
(Table 14.9), and PAUSE_REQ goes until the far end's PAUSE_REQ or PAUSE_ACK has come. -/
def execControlSetResend (u : Fin 18) (s : State) : Host.Outcome State Fault Refusal :=
  act s (fun s =>
    let l := s.link u
    if !(s.due (l.ctrlAt + usCycles 10)) then s
    else
      let fresh (s : State) : State :=
        let token := Config.token s.draws % 256
        s.drawn.modLink u (fun l => { l with token := token, tokenAt := s.now, ctrlAt := s.now })
      if s.linkState u = .init then (fresh s).sendInit u
      else if l.resuming = true ∧ l.resumeEchoed = false then (fresh s).sendResume u
      else match l.pause with
        | some p =>
          if s.linkState u = .paused ∧ p.ackSeen = false ∧ (p.ours = true ∨ p.ackSent = true) then
            let s := if p.ours && !p.reqSeen then s.sendPause u 0x42 p else s
            let s := if p.ackSent then s.sendPause u 0x43 p else s
            s.modLink u (fun l => { l with ctrlAt := s.now })
          else s
        | none => s)

/-! ### Lanes -/

/-- LANE_LOCK_LOSS (R362). -/
def execLaneLockLoss (lane : Fin 80) (los lol : Bool) (cyc : Fin 128) (s : State) : Host.Outcome State Fault Refusal :=
  act s (fun s => (s.atCycle cyc).lockLost lane los lol)

/-- LANES_READY (R362). -/
def execLanesReady (u : Fin 18) (s : State) : Host.Outcome State Fault Refusal := act s (fun s => s.lanesReady u)

/-- LINK_DOWN_TIME_EXPIRY (R362). -/
def execLinkDownTimeExpiry (u : Fin 18) (s : State) : Host.Outcome State Fault Refusal :=
  act s (fun s =>
    if s.linkState u == .recovering && !(s.link u).resuming &&
        s.due ((s.link u).lossAt + usCycles (s.get Reg.linkDownTime u)) then s.declareDown u 1 else s)

/-- TRAINING_START (R380): a link that is DOWN trains, unless it went down by COMMAND or its reference is lost (R363,
R395). -/
def execTrainingStart (u : Fin 18) (s : State) : Host.Outcome State Fault Refusal :=
  act s (fun s =>
    let t := s.train u
    if s.linkState u == .down && t.step == 0 && !t.held && !t.failed && s.hasRef u then
      (s.modTrain u (fun t => { t with ceiling := s.get Reg.trainRateMax u })).trainBegin u
    else s)

/-- TS_CAP (R380). -/
def execTsCap (lane : Fin 80) (rates laneNo : Nat) (numbering : Bool) (mask : Nat) (_eqFull : Bool) (s : State) :
    Host.Outcome State Fault Refusal :=
  act s (fun s => s.gotCap lane rates laneNo numbering mask)

/-- TS_RATE (R381). -/
def execTsRate (u : Fin 18) (rate token : Nat) (s : State) : Host.Outcome State Fault Refusal :=
  act s (fun s => s.gotRate u rate token)

/-- TS_READY (R383). -/
def execTsReady (lane : Fin 80) (rate mask token : Nat) (s : State) : Host.Outcome State Fault Refusal :=
  act s (fun s => s.laneReadySet lane rate mask token)

/-- The link of a lane trains: it is neither up nor on its way up. -/
def State.laneTrains (s : State) (n : Nat) : Bool := !(s.linkIsUp (linkOf n))

/-- EQ_REQ (R385). -/
def execEqReq (lane : Fin 80) (cm1 cp1 preset _iteration : Nat) (s : State) : Host.Outcome State Fault Refusal :=
  act s (fun s => s.eqAsked lane cm1 cp1 preset)

/-- EQ_ACK (R385). -/
def execEqAck (lane : Fin 80) (cm1 cp1 _c0 : Nat) (_clipped : Bool) (width height : Nat) (s : State) :
    Host.Outcome State Fault Refusal :=
  act s (fun s => (s.eqAcked lane cm1 cp1 width height).eqEnd (linkOf lane) (s.laneTrains lane))

/-- EQ_DONE (R385). -/
def execEqDone (lane : Fin 80) (cm1 cp1 _width _height : Nat) (s : State) : Host.Outcome State Fault Refusal :=
  act s (fun s => (s.eqChosen lane cm1 cp1).eqEnd (linkOf lane) (s.laneTrains lane))

/-- TRAINING_TIMEOUT (R380): 20 ms since step 1. -/
def execTrainingTimeout (u : Fin 18) (s : State) : Host.Outcome State Fault Refusal :=
  act s (fun s =>
    let t := s.train u
    if (s.linkState u == .down || s.linkState u == .disabled) && decide (1 ≤ t.step) && decide (t.step ≤ 6) &&
        s.due (t.startAt + msCycles 20) then s.trainFails u else s)

/-- TRAINING_RETRY (R381): 10 ms after a failure at rate code 1. -/
def execTrainingRetry (u : Fin 18) (s : State) : Host.Outcome State Fault Refusal :=
  act s (fun s =>
    let t := s.train u
    if s.linkState u == .down && t.failed && s.hasRef u && s.due (t.failAt + msCycles 10) then
      (s.modTrain u (fun t => { t with ceiling := s.get Reg.trainRateMax u })).trainBegin u
    else s)

/-- TRAINING_LANE_WAIT (R380): 100 µs after the first lane became good, the numbering end goes on with those that are. -/
def execTrainingLaneWait (u : Fin 18) (s : State) : Host.Outcome State Fault Refusal :=
  act s (fun s =>
    let t := s.train u
    match t.firstGoodAt with
    | some g => if t.step == 1 && s.numbers u && s.due (g + usCycles 100) then s.chooseRate u else s
    | none => s)

/-- EYE_SCAN (R392): a scan of a selected lane in A0 ends. Four low scans in a row raise 0x0C3 and start an update (R386). -/
def State.eyeScan (s : State) (n width height : Nat) : State :=
  let u := linkOf n
  let l := s.lane n
  if s.powerState = 0 ∧ s.linkState u = .up ∧ bit (s.get Reg.laneStatus n) 4 = true ∧ s.get Reg.eyePeriod u ≠ 0 ∧
      (l.scanned = false ∨ s.due (l.scanAt + msCycles (s.get Reg.eyePeriod u)) = true) then
    let pass := decide (s.get Reg.eyeMinWidth u ≤ width) && decide (s.get Reg.eyeMinHeight u ≤ height)
    let s := (s.set Reg.eyeWidth n (min width 64)).set Reg.eyeHeight n (min height 65535)
    let s := s.modLane n (fun l => { l with scanned := true, scanAt := s.now, low := if pass then 0 else l.low + 1 })
    if pass then
      (if (List.range 80).all (fun m => !(bit (s.get Reg.laneStatus m) 4) || (s.lane m).low == 0) then s.withdraw 0 0x0C3
       else s)
    else if (s.lane n).low % 4 = 0 then
      (s.raise 0 0x0C3 n).askPause u 4 (log2w (s.get Reg.linkWidth u)) (s.get Reg.linkRate u)
    else s
  else s

/-- EYE_SCAN (R392). -/
def execEyeScan (lane : Fin 80) (width height : Nat) (s : State) : Host.Outcome State Fault Refusal :=
  act s (fun s => s.eyeScan lane width height)

/-! ### Effects of LINK_COMMAND and LANE_COMMAND -/

/-- RETRAIN (R386): every lane of the link trains again at the rate in force, through a pause. -/
def State.linkRetrain (s : State) (u : Nat) : State :=
  if s.linkIsUp u then
    s.askPause u 3 (if s.powerState = 0 then log2w (nominalWidth u) else 0) (s.get Reg.linkRate u)
  else s

/-- EQ_UPDATE (R386). -/
def State.linkEqUpdate (s : State) (u : Nat) : State :=
  s.askPause u 4 (log2w (s.get Reg.linkWidth u)) (s.get Reg.linkRate u)

/-- A Treyr reference is lost: every link on its lanes goes down (R395). -/
def State.refLost (s : State) (b : Nat) : State :=
  s.each ((List.range 18).filter (fun u => refBit u == b)) (fun s u =>
    if s.linkIsUp u || s.linkState u == .init then s.declareDown u 11
    else (s.idleLanes (allLanes u)).modTrain u (fun t => { t with step := 0 }))

end Sys2Proof.Machine
end

