-- ==== Sys2Proof/Machine/Grant.lean ====
section
/-!
DEFINITION. Grants of the scheduler (spec/10_scheduler.md R226, R227): what each port's downstream can take, and what a
granted entry does as it leaves; the end of a red hold; and the samplers.
-/
namespace Sys2Proof.Machine

/-- The host link can transmit: it is up, or in L1, which it leaves to send. -/
def State.hostLinkOn (s : State) : Bool := s.get Reg.hostLinkStatus == 2 || s.get Reg.hostLinkStatus == 3

/-- The downstream of port p can take entry e now (R226). A request, record, word or message of an instance leaves the host
port only while its Bus Master Enable is 1 (R182, Table 12.13); completions always do. -/
def State.portTakes (s : State) (p : Nat) (e : Entry) : Bool :=
  if p < 8 then s.carrierTakes p e
  else if p = 8 then s.anyPartnerUp
  else s.hostLinkOn && (match e.work with
    | .hostRd tag =>
      s.host.busMaster.mem e.i && s.fetchRoom ((s.host.reqs.find? (fun r => r.tag == tag)).map (·.len) |>.getD 0)
    | .cpl _ _ => true
    | .answer _ _ _ _ => true
    | _ => s.host.busMaster.mem e.i)

/-- The header word of a record (Table 11.1). -/
def recordHeader (seq size type i source : Nat) : Nat :=
  seq * 4294967296 + b2n (seq / size % 2 == 0) * 2147483648 + type * 16777216 + i * 65536 + source

/-- A granted entry of port p leaves. -/
def State.leave (s : State) (p : Nat) (e : Entry) : State :=
  match e.work with
  | .image write ia len data poison own => s.carrierAccepts p write ia len data poison own
  | .carrier both link m => s.carrierMessage p both link m
  | .partner seg m => s.partnerGranted seg m
  | .record q seq type i source payload =>
    let size := s.queuePlaces q
    let s := s.emit (.record q (s.get Reg.queueBase q + 32 * (seq % size)) (recordHeader seq size type i source) payload)
    s.issueQueue q
  | .dword _ addr value => s.emit (.hostWrite addr (le 8 value))
  | .cpl id part => s.sendCompletion id part
  | .answer tag st count data => s.answerLeaves e.i tag st count data
  | .msix vec _ => s.msixLeaves e.i vec
  | .hostRd tag => s.fetchLeaves tag
  | .hostWr k burst addr data => (s.emit (.hostWrite addr data)).dmaWritten k burst data.length

/-- An image write is granted: first the DIRTY_SETs of its segment that wait on any carrier port are, with what stands
before them in service 7 (R25, step 5 of Table 1.7). -/
def State.announceFirst (s : State) (e : Entry) : State :=
  match e.work.writtenSegment with
  | none => s
  | some g => s.each s.activeCarriers (fun s c => s.forceSeven c (fun x => x.work.dirtySet == some g))

/-- SCHEDULER_GRANT (R227): port p grants one entry, if one may go. At the cut R246 decides, and FINAL follows the last
write of a carrier (R321). -/
def State.grant (s : State) (p : Nat) : State :=
  let pick := if s.cutPassed then (s.chooseAtCut p).filter (fun e => s.portTakes p e) else s.chooseGrant p (s.portTakes p)
  match pick with
  | none => s
  | some e =>
    let s := ((s.announceFirst e).granted p e).leave p e
    if s.cutPassed && decide (p < 8) then s.sendFinal p else s

/-- SCHEDULER_GRANT (R227), at a cycle of the clause, which the guard rule of the gates reads (R239). -/
def execSchedulerGrant (g : GrantAt) (s : State) : Host.Outcome State Fault Refusal :=
  act s (fun s => (s.atCycle (max s.clock.sub g.cyc)).grant g.port)

/-- RED_HOLD_EXPIRY (R241): the head of the leaf has been held its time, and counts as yellow from now on. -/
def execRedHoldExpiry (port : Fin 10) (svc : Fin 8) (i : Fin 256) (s : State) : Host.Outcome State Fault Refusal :=
  act s (fun s =>
    let q := s.port port
    match Tbl.find q.heads (headKey svc i) with
    | none => s
    | some h => match q.entry h.id with
      | some e =>
        if e.color = 2 ∧ s.redHeld port e h = false then
          s.putPort port { q with entries := q.entries.map (fun x => if x.id = e.id then { x with color := 1 } else x) }
        else s
      | none => s)

/-! ### Sampling (R245, Table 10.4) -/

/-- An entry is one that sampler j watches. -/
def State.sampleMeets (s : State) (j : Nat) (e : Entry) : Bool :=
  (s.get Reg.sampleService j == 8 || s.get Reg.sampleService j == e.svc) &&
  (s.get Reg.sampleInstance j == 256 || s.get Reg.sampleInstance j == e.i)

/-- The gate of a service is closed on port p. -/
def State.gateClosed (s : State) (p svc : Nat) : Bool :=
  let q := s.port p
  if svc = 7 ∨ q.gateRuns = false ∨ gateCycle q.gate = 0 then false
  else match gateRowAt q.gate ((s.clauseNow - q.gateAt) % gateCycle q.gate) with
    | some ((_, o), _) => !(bit o svc)
    | none => false

/-- FLAGS of a head: gate closed, shaper at or below zero, red-held, hazard-blocked, governor-shaped. -/
def State.headFlags (s : State) (p : Nat) (e : Entry) (h : Head) : List Bool :=
  [s.gateClosed p e.svc,
   e.svc != 7 && (!(s.leafFlows (leafRow p e.svc e.i)) ||
     !(s.flows (svcBucket p e.svc) (s.svcRateNow p e.svc) (s.get Reg.svcBurst (svcRow p e.svc))) ||
     !(s.flows (portBucket p) (s.get Reg.portRate p) (s.get Reg.portBurst p))),
   s.redHeld p e h,
   s.hazard p e,
   decide (p < 8) && e.svc != 7 && e.work.imageRange.any (·.1) && s.shaping p && !(s.flows (govBucket p) (s.govRate p) 16384)]

/-- The FLAGS byte of sampler j: the OR over the heads it watches. -/
def State.sampleFlags (s : State) (j p : Nat) : Nat :=
  let q := s.port p
  q.heads.foldl (fun a (kh : Nat × Head) =>
    match q.entry kh.2.id with
    | some e => if s.sampleMeets j e then
        (s.headFlags p e kh.2).zipIdx.foldl (fun a (x : Bool × Nat) => if x.1 then setBit a x.2 true else a) a else a
    | none => a) 0

/-- SAMPLE (R245): a period of an enabled sampler ends. -/
def State.sample (s : State) (j : Nat) : State :=
  let t := Tbl.getD s.sched.samplers j Sampler.reset
  if s.get Reg.sampleEnable j = 1 ∧ t.start + s.get Reg.samplePeriod j ≤ s.clauseNow then
    let p := s.get Reg.samplePort j
    let es := (s.port p).entries.filter (fun e => s.sampleMeets j e)
    let bytes := es.foldl (fun a e => a + s.charged p e.payload) 0
    let payload := layout [(1, p), (1, s.get Reg.sampleService j), (2, s.get Reg.sampleInstance j), (4, es.length),
      (4, sat 4294967295 bytes), (4, t.maxDelay), (4, t.grants), (1, s.sampleFlags j p), (3, 0)]
    let s := { s with sched := { s.sched with samplers := Tbl.put s.sched.samplers j ⟨s.clauseNow, 0, 0⟩ } }
    s.recordTo (s.get Reg.sampleQueue j) 0x7E 0 0x058 payload
  else s

/-- SAMPLE (R245). -/
def execSample (j : Fin 16) (s : State) : Host.Outcome State Fault Refusal := act s (fun s => s.sample j)

end Sys2Proof.Machine
end

