-- ==== Sys2Proof/Machine/Overlay.lean ====
section
/-!
DEFINITION. The value that an access finds in an object (spec/18_lexicon.md R449): the register file's, but for the
read-only objects that show what another structure of the state holds.
-/
namespace Sys2Proof.Machine

/-- Milliseconds since cycle `t`. -/
def State.ageMs (s : State) (t : Nat) : Nat := (s.now - t) / 250000

/-- A bucket's level in whole bytes at the present clause, as an I32. -/
def State.levelOf (s : State) (key rate burst : Nat) : Nat :=
  toU32 (((s.bucket key burst).refilled rate burst s.clauseNow).tok / 1000)

/-- The union of the ranges that every instance holds in (`first`, `count`). -/
def State.rangesOf (s : State) (first count : Nat) : SegSet :=
  (s.holders count).foldl (fun m i => m.addRange (s.get first i) (s.get first i + s.get count i)) []

/-- How many of `n` places are in no staged and no effective range. -/
def State.freeOf (s : State) (n st stCount eff effCount : Nat) : Nat :=
  n - ((s.rangesOf st stCount).union (s.rangesOf eff effCount)).cardIn 0 n

/-- The staged fields of INSTANCE_TABLE with their effective ones (R209). -/
def stagedFields : List (Nat × Nat) :=
  [(Reg.stQueueFirst, Reg.effQueueFirst), (Reg.stQueueCount, Reg.effQueueCount),
   (Reg.stMsixVectors, Reg.effMsixVectors), (Reg.stDmaFirst, Reg.effDmaFirst), (Reg.stDmaCount, Reg.effDmaCount),
   (Reg.stCtxFirst, Reg.effCtxFirst), (Reg.stCtxCount, Reg.effCtxCount), (Reg.stWeight, Reg.effWeight)]

/-- GATE_STATUS of port p (R238): a committed list waits, a list runs, or neither. -/
def State.gateStatusOf (s : State) (p : Nat) : Nat :=
  let q := s.port p
  if q.gateNext.isSome then 1 else if q.gateRuns then 2 else 0

/-- A firmware slot. -/
def State.fwSlot (s : State) (k : Nat) : FwSlot := if k = 0 then s.keep.slot0 else s.keep.slot1

/-- A firmware slot is good (R429): something is in it, it verifies, and its step is not below the fuses. -/
def FwSlot.good (f : FwSlot) (fuses : Nat) : Bool :=
  f.status != 0 && f.certOk && decide (fuses ≤ f.step) && decide (f.step ≤ 64)

/-- FW_STATUS of a slot (Table 17.13). -/
def FwSlot.shown (f : FwSlot) (fuses : Nat) : Nat := if f.status = 0 then 0 else if f.good fuses then 1 else 2

/-- Objects of groups 0 to 8 that follow other state; none for a register of the file. -/
def State.shownLow (s : State) (r i : Nat) : Option Nat :=
  if r = Reg.windowBytes then some (s.windowSize i)
  else if r = Reg.instancesLive then some s.liveList.length
  else if r = Reg.resetsRunning then some ((s.rowsOf Reg.instState).filter s.resetting).length
  else if r = Reg.queuesFree then some (s.freeOf 4096 Reg.stQueueFirst Reg.stQueueCount Reg.effQueueFirst Reg.effQueueCount)
  else if r = Reg.vfVectorsFree then
    some (8192 - ((s.holders Reg.stMsixVectors).filter (· ≠ 0)).foldl (fun a i => a + s.get Reg.stMsixVectors i) 0)
  else if r = Reg.dmaFree then some (s.freeOf 64 Reg.stDmaFirst Reg.stDmaCount Reg.effDmaFirst Reg.effDmaCount)
  else if r = Reg.assignPending then some (b2n (stagedFields.any (fun x => s.get x.1 i != s.get x.2 i)))
  else if r = Reg.entriesUsed then some s.entriesUsed
  else if r = Reg.portTokens then some (s.levelOf (portBucket i) (s.get Reg.portRate i) (s.get Reg.portBurst i))
  else if r = Reg.svcTokens then some (s.levelOf (svcBucket (i / 64) (i % 64)) (s.svcRateNow (i / 64) (i % 64)) (s.get Reg.svcBurst i))
  else if r = Reg.govShaperTokens then some (s.levelOf (govBucket i) (s.govRate i) 16384)
  else if r = Reg.leafTokens then some (toU32 ((s.bucket (leafBucket i) (s.get Reg.leafBurst i)).tok / 1000))
  else if r = Reg.leafDepth then
    some (((s.port (i / 2048)).entries.filter (fun e => e.svc == i / 256 % 8 && e.i == i % 256)).length)
  else if r = Reg.lineRate then some (s.lineRateNow i)
  else if r = Reg.gateStatus then some (s.gateStatusOf i)
  else if r = Reg.gateActiveDuration then some (((s.port (i / 64)).gate.getD (i % 64) (0, 0)).1)
  else if r = Reg.gateActiveOpen then some (((s.port (i / 64)).gate.getD (i % 64) (0, 0)).2)
  else if r = Reg.mgmtRunning then some ((s.running i).getD 0xFF)
  else if r = Reg.lineOwner ∧ i < 0xC0 then some ((s.lineOwnerOf i).getD 0)
  else if r = Reg.queueOwner then some ((s.queueOwner i).getD 0)
  else if r = Reg.dmaBurstsInflight then some s.burstsInFlight
  else if r = Reg.ctxInstance then some ((s.ctxOwner i).getD 0)
  else if r = Reg.holdupReportAge then some (sat 4294967295 (s.ageMs (((s.govCar i).reports.head?.map (·.1)).getD 0)))
  else if r = Reg.resyncPending then some s.mirror.map.card
  else if r = Reg.rangeResync then some (s.rowMarked i)
  else if r = Reg.mirrorBufferUsed then some s.retained
  else if r = Reg.leaseRemaining then some (match s.mirror.leaseUntil with | some t => (t - s.now) / 250000 | none => 0)
  else none

/-- Objects that count or detect what happens on a line (log 74): a PRBS checker while its test runs, the polarity of a lane
in symbol lock, the peaking of a CTLE that adapts (0 dB at 1.25 Gbaud, Table 15.2), the flow units sent, of which the
model does not list the IDLE ones, and the others from the first clause on. -/
def State.shownMeasured (s : State) (r i : Nat) : Option Nat :=
  if r = Reg.prbsBits ∨ r = Reg.prbsErrors then if s.prbsTests i then some (s.measured r i (2 ^ 64)) else none
  else if r = Reg.prbsLocked then if s.prbsTests i then some (s.measured r i 2) else none
  else if r = Reg.laneStatus then
    if bit (s.get r i) 2 && !(bit (s.get r i) 5) && Config.inverted i then some (s.get r i + 32) else none
  else if r = Reg.ctlePeak then
    if s.get Reg.ctleMode i = 0 ∧ bit (s.get Reg.laneStatus i) 2 = true then
      some (if s.laneRate (linkOf i) = 1 then 0 else s.measured r i 16)
    else none
  else if r = Reg.fusSent then
    if s.get Reg.trainings i = 0 then none else some ((s.get r i + s.measured r i (2 ^ 64)) % 2 ^ 64)
  else if s.clauseNow = 0 then none
  else if r = Reg.codeErrors then some (s.measured r i (2 ^ 64))
  else if r = Reg.skpAdded ∨ r = Reg.skpRemoved then some (s.measured r i (2 ^ 32))
  else if r = Reg.laneSkew ∨ r = Reg.canTec ∨ r = Reg.canRec then some (s.measured r i 256)
  else none

/-- Objects of groups 9 to 15 that follow other state. -/
def State.shownHigh (s : State) (r i : Nat) : Option Nat :=
  if r = Reg.healthAge then some (sat 4294967295 (s.ageMs (s.car i).healthAt))
  else if r = Reg.replayUsed then some ((s.link i).buf.length)
  else if r = Reg.txSeq then some (s.link i).n
  else if r = Reg.rxSeq then some (s.link i).e
  else if r = Reg.eyeAge then some (sat 4294967295 (s.ageMs (s.lane i).scanAt))
  else if r = Reg.transition then some (match s.power.trans with | some t => t.code | none => 0)
  else if r = Reg.transitionStep then some (match s.power.trans with | some t => t.todo.head?.getD 0 | none => 0)
  else if r = Reg.powerPending then some (match s.power.pending with | some p => p.1 | none => 0xFF)
  else if r = Reg.pfailState then
    some (b2n s.power.pfailHigh + 2 * b2n s.power.vsenseOk +
      4 * b2n (s.power.detected && (s.power.clearSince.isNone || !s.power.vsenseOk)))
  else if r = Reg.clauseCount then some s.clauseNow
  else if r = Reg.avsBase then some (680 + Config.avsBase % 121)
  else if r = Reg.deviceGrade then some (if Config.grade = 1 then 1 else 0)
  else if r = Reg.ioFldLevel then some (1 + Config.ioFldLevel % 2)
  else if r = Reg.gpioIn then some s.events.gpio
  else if r = Reg.deviceSerial then some (Config.serial % 18446744073709551616)
  else if r = Reg.rollbackCount then some s.keep.fuses
  else if r = Reg.statementCounter then some s.keep.counter
  else if r = Reg.fwPreferred then some s.keep.preferred
  else if r = Reg.fwStatus then some ((s.fwSlot i).shown s.keep.fuses)
  else if r = Reg.fwSlotVersion then some (s.fwSlot i).version
  else if r = Reg.fwSlotStep then some (s.fwSlot i).step
  else s.shownMeasured r i

/-- A written value that waits for the next clause boundary. -/
def State.lateValue (s : State) (r i : Nat) : Option Nat :=
  if r = Reg.witnessNode then s.mirror.witnessNext else Tbl.find s.clock.late (Reg.key r i)

/-- A write that takes effect at the next clause boundary. -/
def State.setLate (s : State) (r i v : Nat) : State :=
  { s with clock := { s.clock with late := Tbl.put s.clock.late (Reg.key r i) v } }

/-- Written values take effect at a boundary. -/
def State.applyLate (s : State) : State :=
  { s with regs := s.clock.late.foldl (fun t x => Tbl.put t x.1 x.2) s.regs, clock := { s.clock with late := [] } }

/-- The value of object r, unit or row i, that a read returns. -/
def State.value (s : State) (r i : Nat) : Nat :=
  match s.lateValue r i with
  | some v => v
  | none =>
    match (if r < 0x9000000 then s.shownLow r i else s.shownHigh r i) with
    | some v => v
    | none => s.get r i

end Sys2Proof.Machine
end

