-- ==== Sys2Proof/Machine/Power.lean ====
section
/-!
DEFINITION. Power states and their transitions, Patrol, the power-fail inputs, the sensors and the re-plans
(spec/16_power_ageing.md).
-/
namespace Sys2Proof.Machine

/-- The power manager's own state changed by `f`. -/
def State.modPower (s : State) (f : Power → Power) : State := { s with power := f s.power }

/-! ### Transitions (R403 to R409) -/

/-- The transition between two states (Table 16.2). -/
def transCode : Nat → Nat → Option Nat
  | 0, 1 => some 1
  | 0, 2 => some 2
  | 1, 2 => some 3
  | 0, 3 => some 4
  | 1, 0 => some 5
  | 2, 0 => some 6
  | 3, 0 => some 7
  | _, _ => none

/-- The steps of a transition (Table 16.2). -/
def transSteps : Nat → List Nat
  | 1 => [1, 9, 10]
  | 2 => [1, 2, 3, 4, 5, 7, 9, 10]
  | 3 => [1, 2, 3, 4, 5, 7, 10]
  | 4 => [1, 2, 3, 4, 5, 6, 7, 8, 9, 10]
  | 5 => [12, 15]
  | 6 => [11, 12, 13, 15]
  | _ => [12, 13, 14, 15]

/-- The last abort point of a transition; 0 for an exit. -/
def lastAbort (code : Nat) : Nat := if code = 1 then 1 else if code ≤ 4 then 7 else 0

/-- The group of the subsystem of a step (Table 16.3); step 2 is that of the persistence controller. -/
def stepGroup (step : Nat) : Nat :=
  match step with
  | 2 => 7
  | 3 => 5
  | 4 => 6
  | 5 => 4
  | 6 => 7
  | 7 => 9
  | 8 => 8
  | 9 => 10
  | _ => 12

/-- ENTRY_REFUSED (Table 16.10), its source, and LAST_REFUSAL. -/
def State.entryRefused (s : State) (target reason step group clauses detail : Nat) : State :=
  let s := s.set Reg.lastRefusal 0 reason
  (s.recordMgmt 0 0x51 0 0x0D1 (layout [(1, target), (1, s.powerState), (1, reason), (1, step), (1, group), (3, 0),
    (4, sat 4294967295 clauses), (4, detail), (8, 0)])).raise 0 0x0D1 0

/-- A transition to `target` starts; where no row joins the two states, the exit runs first and the target waits
(R403). -/
def State.startTrans (s : State) (target cause wake : Nat) : State :=
  let direct := transCode s.powerState target
  let code := direct.getD ((transCode s.powerState 0).getD 1)
  let goal := if direct.isSome then target else 0
  s.modPower (fun p => { p with
    trans := some ⟨code, goal, s.powerState, cause, wake, transSteps code, s.clauseNow, s.now, false, [], false, false⟩,
    pending := if direct.isSome then p.pending else some (target, cause, wake) })

/-- A request for a power state (R403, R406, R407). -/
def State.powerRequest (s : State) (target cause : Nat) : State :=
  if s.cutPassed then s
  else
    let wake := s.get Reg.wakeStatus
    match s.power.trans with
    | none => if target = s.powerState then s else s.startTrans target cause wake
    | some t =>
      if target = t.target then s
      else if target = 0 then
        (if t.committed then s.modPower (fun p => { p with exitNext := some (cause, wake) })
         else s.modPower (fun p => { p with trans := some { t with aborted := true } }))
      else
        let s := match s.power.pending with
          | some (old, _, _) => s.entryRefused old 10 0 0 0 0
          | none => s
        s.modPower (fun p => { p with pending := some (target, cause, wake) })

/-- The checks of Table 16.4 at an abort point: the reason of the first that fails. With the image Quiesced by its own
step 6, T4 goes on. -/
def State.entryCheck (s : State) (t : Trans) (step : Nat) : Option Nat :=
  let imageOk := match t.code with
    | 1 => s.image == .unformed || s.image == .setup || s.image == .fault || s.image == .opened
    | 4 => s.image == (if step = 7 then .quiesced else .opened)
    | _ => s.image == .opened
  let m := s.mirrorState
  if !imageOk then some 1
  else if s.get Reg.timebaseStatus ≠ 0 then some 2
  else if (s.rowsOf Reg.instState).any s.resetting then some 3
  else if s.get Reg.wakeStatus ≠ 0 then some 4
  else if (t.code = 2 ∨ t.code = 3) ∧ (s.host.d3 = false ∨ (s.host.vfEnable && s.host.vfMem) = true) then some 5
  else if (t.code = 2 ∨ t.code = 3) ∧ (m = .connecting ∨ m = .paired ∨ m = .resync ∨ m = .interrupted) then some 6
  else none

/-- A carrier with a tagged request outstanding. -/
def State.carrierBusy (s : State) (c : Nat) : Bool := !((s.car c).reqs.isEmpty)

/-- How many units do not agree with a step that waits (R404); 0 when the step has agreed. -/
def State.notAgreeing (s : State) (code step : Nat) : Nat :=
  match step with
  | 2 => if code = 4 then 0 else b2n s.persist.running
  | 3 => ((s.rowsOf Reg.chState).filter (fun k => !(s.chanState k == .disabled || s.chanState k == .idle || s.chanState k == .halted))).length
  | 4 => s.append.pubs.length
  | 5 => (s.port 9).entries.length + (s.port 9).outside.length
  | 6 => b2n (decide (0 < s.persist.holdLeft) || s.persist.running || !(s.persist.dirty.isEmpty) || !(s.persist.closing.isEmpty))
  | 7 => (s.activeCarriers.filter (fun c => s.carrierBusy c || !(s.car c).selfRefresh)).length
  | 9 => ((List.range 18).filter (fun u => s.linkIsUp u && !(s.linkState u == .up && (s.link u).wantPause.isNone))).length
  | 12 => ((List.range 18).filter (fun u => s.linkIsUp u && !(s.linkState u == .up && (s.link u).wantPause.isNone))).length
  | 13 => (s.activeCarriers.filter (fun c => (s.car c).wakeFirst.isSome)).length
  | _ => 0

/-- WAKE to carrier c (R408). -/
def State.sendWake (s : State) (c : Nat) : State :=
  (s.sendCarrier c true 0 { op := 0x31 }).modCar c (fun k => { k with wakeAt := s.now })

/-- The first WAKE to carrier c. -/
def State.firstWake (s : State) (c : Nat) : State :=
  (s.sendWake c).modCar c (fun k => { k with wakeFirst := some s.now, srAsked := false })

/-- POWER_STATE takes a value, with its record (Table 16.9). -/
def State.enterPower (s : State) (t : Trans) (new : Nat) : State :=
  let old := s.powerState
  let s := s.set Reg.powerState 0 new
  s.recordMgmt 0 0x50 0 0x0D0 (layout [(1, new), (1, old), (1, t.code), (1, t.cause), (4, t.wake),
    (4, sat 4294967295 (s.clauseNow - t.started)), (1, s.get Reg.imageState), (11, 0)])

/-- Every link that is up pauses to a width and a rate of its own (steps 9 and 12); the pauses of a pair follow one
another (R360). -/
def State.pauseAll (s : State) (width rate : Nat → Nat) : State :=
  s.each ((List.range 18).filter s.linkIsUp) (fun s u => s.askPause u 1 (width u) (rate u))

/-- Hold exit (Table 1.4): a quiesced image is Open again with its windows open; an active carrier that was lost
meanwhile then takes it to Fault (DEDUCED from Table 1.4, log 24). -/
def State.holdExit (s : State) : State :=
  let s := s.modPersist (fun p => { p with holdLeft := 0 })
  if s.image = .quiesced then
    let s := (s.setImage .opened).set Reg.windowOpen 0 1
    if s.activeCarriers.any (fun c => s.get Reg.carrierState c == 5) then s.faultImage 0x0001 else s
  else s

/-- The action of a step of Table 16.3 as it begins. -/
def State.stepBegins (s : State) (t : Trans) (step : Nat) : State :=
  match step with
  | 2 =>
    if t.code = 4 then (s.modPersist (fun p => { p with writesStopped := true })).runRxWait
    else s.modPersist (fun p => { p with triggersHeld := true })
  | 3 => { s with dma := { s.dma with held := true } }
  | 6 => s.modPersist (fun p => { p with holdLeft := 2 + b2n p.running })
  | 8 => (s.sendPartner { op := 0x59, flags := 1 }).leaseRelease 3
  | 9 => s.pauseAll (fun _ => 0) (fun _ => 1)
  | 10 =>
    let s := s.enterPower t t.target
    if t.target = 2 then
      let up := (List.range 18).foldl (fun a u => if s.linkState u == .up then a + 2 ^ u else a) 0
      let s := s.modPower (fun p => { p with
        patrolFrom := s.clauseNow, patrolNext := 1, patrolPrev := [], linksAtStep10 := up })
      { s with clock := { s.clock with gated := true } }
    else s
  | 11 => { s with clock := { s.clock with gated := false } }
  | 12 => s.pauseAll (fun u => log2w (nominalWidth u)) s.rateInForce
  | 13 => s.each s.activeCarriers (fun s c => s.firstWake c)
  | 14 =>
    let s := s.sendPartner { op := 0x59 }
    (s.holdExit.modPersist (fun p => { p with writesStopped := false })).pairTry
  | 15 =>
    let s := s.enterPower t 0
    let s := s.each ((List.range 18).filter (fun u => s.linkState u == .up && decide (s.get Reg.linkWidth u < nominalWidth u) &&
      !(s.keepAlive u))) (fun s u => s.keepPending 0 0x0A4 u)
    let s := s.modPersist (fun p => { p with triggersHeld := false })
    { s with dma := { s.dma with held := false } }
  | _ => s

/-- What follows the end of a transition or of a roll-back: the exit that waits (R406), else the pending request
(R407); links then take what their state and cap ask. -/
def State.transEnds (s : State) : State :=
  let p := s.power
  let s := s.modPower (fun p => { p with trans := none, exitNext := none })
  match (if s.powerState = 0 then none else p.exitNext) with
  | some (cause, wake) => s.startTrans 0 cause wake
  | none =>
    let s := match p.pending with
      | some (target, cause, wake) =>
        let s := s.modPower (fun p => { p with pending := none })
        if target = s.powerState then s else s.startTrans target cause wake
      | none => s
    (s.each (List.range 18) (fun s u => s.settleLink u)).chansNext

/-- A transition is refused and rolled back, newest step first (R405). -/
def State.refuseTrans (s : State) (t : Trans) (reason step detail : Nat) : State :=
  let s := if t.done.contains 7 then
      s.each s.activeCarriers (fun s c =>
        let s := if (s.car c).selfRefresh then s.firstWake c else s
        s.modCar c (fun k => { k with srAsked := false }))
    else s
  let s := if t.done.contains 6 then s.holdExit else s
  let s := s.modPersist (fun p => { p with writesStopped := false, triggersHeld := false })
  let s := { s with dma := { s.dma with held := false } }
  (s.entryRefused t.target reason step (stepGroup step) (s.clauseNow - t.started) detail).transEnds

/-- SELF_REFRESH goes out once no tagged request is outstanding (step 7, R328). -/
def State.askSelfRefresh (s : State) : State :=
  if s.activeCarriers.any (fun c => s.carrierBusy c) then s
  else s.each (s.activeCarriers.filter (fun c => !(s.car c).selfRefresh && !(s.car c).srAsked)) (fun s c =>
    (s.sendCarrier c true 0 { op := 0x30 }).modCar c (fun k => { k with srAsked := true }))

/-- What an agreed step leaves: step 6 makes the image Quiesced and closes its windows. -/
def State.stepEnds (s : State) (step : Nat) : State :=
  if step = 6 then (s.setImage .quiesced).set Reg.windowOpen 0 0 else s

/-- Item 13: the power manager takes one step (R403). -/
def State.powerStep (s : State) : State :=
  match s.power.trans with
  | none => s
  | some t =>
    match t.todo with
    | [] => s.transEnds
    | step :: rest =>
      let abortable := decide (step ≤ lastAbort t.code)
      let refusal := if !abortable then none
        else if t.aborted then some 9
        else s.entryCheck t step
      match refusal with
      | some r => s.refuseTrans t r step 0
      | none =>
        let t := if t.entered then t else
          { t with entered := true, stepAt := s.now, done := step :: t.done, committed := t.committed || !abortable,
                   started := if t.done.isEmpty then s.clauseNow else t.started }
        let fresh := match s.power.trans with | some o => !o.entered | none => false
        let s := s.modPower (fun p => { p with trans := some t })
        let s := if fresh then s.stepBegins t step else s
        let s := if step = 7 then s.askSelfRefresh else s
        if s.notAgreeing t.code step ≠ 0 then s
        else
          let s := s.stepEnds step
          let last := decide (step = lastAbort t.code)
          let t := { t with todo := rest, entered := false, committed := t.committed || last }
          let s := s.modPower (fun p => { p with trans := some t })
          if rest.isEmpty then s.transEnds else s

/-- STEP_TIMEOUT (R404): a step has waited its time without agreement. -/
def State.stepLate (s : State) : State :=
  match s.power.trans with
  | some t =>
    match t.todo with
    | step :: _ =>
      if !s.cutPassed && t.entered && decide (2 ≤ step) && decide (step ≤ lastAbort t.code) &&
          s.due (t.stepAt + msCycles (s.get Reg.stepTimeout step)) && s.notAgreeing t.code step != 0 then
        (if step = 7 ∧ (s.activeCarriers.all (fun c => !(s.carrierBusy c))) = true then
          s.refuseTrans t 8 step (s.activeCarriers.foldl (fun a c => if (s.car c).selfRefresh then a else a + 2 ^ c) 0)
         else s.refuseTrans t 7 step (s.notAgreeing t.code step))
      else s
    | [] => s
  | none => s

/-- The wake watcher asks for A0 while a latched bit stands (R274); an entry that has not passed its step 1 meets
reason 4 instead. -/
def State.wakeAsks (s : State) : State :=
  if s.get Reg.wakeStatus = 0 then s
  else
    match s.power.trans with
    | some t => if t.done.isEmpty then s else s.powerRequest 0 2
    | none => s.powerRequest 0 2

/-- WAKE_RESEND (R408): 10 ms without an acknowledgement; each such WAKE raises source 0x086 (R328). -/
def State.wakeLate (s : State) (c : Nat) : State :=
  let k := s.car c
  if k.wakeFirst.isSome && s.due (k.wakeAt + msCycles 10) && !s.cutPassed then (s.raise 0 0x086 c).sendWake c else s

/-- WAKE_TIMEOUT (R408): 50 ms after its first WAKE the carrier is lost, with both its links out of service. -/
def State.wakeLost (s : State) (c : Nat) : State :=
  match (s.car c).wakeFirst with
  | some t =>
    if s.due (t + msCycles 50) && !s.cutPassed then
      let s := (s.raise 0 0x086 c).modCar c (fun k => { k with wakeFirst := none })
      let s := (s.declareDown (2 * c) 9).declareDown (2 * c + 1) 9
      if s.get Reg.carrierState c = 5 then s else s.carrierLost c
    else s
  | none => s

/-! ### Power-fail inputs (R412) -/

/-- A filter time of nanoseconds in timebase edges, not rounded down. -/
def edgesOf (ns : Nat) : Nat := (ns + 3) / 4

/-- PFAIL_N has been low for its filter time at the present cycle. -/
def State.pfailLow (s : State) : Bool :=
  !s.power.pfailHigh && (match s.power.lowSince with
    | some t => decide (t + edgesOf (s.get Reg.pfailFilter) ≤ s.now)
    | none => false)

/-- PFAIL_N_INPUT (R412): its new level. A return to high before the filter time is a glitch, raised at most once in
1,000 clauses; after a detection a return to high is when the indication clears (R414). -/
def State.pfailInput (s : State) (high : Bool) : State :=
  let p := s.power
  if high = p.pfailHigh then s
  else if !high then s.modPower (fun p => { p with pfailHigh := false, lowSince := some s.now })
  else
    let long := s.pfailLow
    let s := s.modPower (fun p => { p with
      pfailHigh := true, lowSince := none,
      clearSince := if p.detected && (long || p.clearSince.isNone) && p.vsenseOk then some s.now else p.clearSince })
    if long || p.detected || !(bit (s.get Reg.pfailSources) 0) then s
    else
      let s := s.bump Reg.pfailGlitches
      match p.glitchAt with
      | some c => if s.clauseNow < c + 1000 then s
          else (s.modPower (fun p => { p with glitchAt := some s.clauseNow })).raise 0 0x0D2 0
      | none => (s.modPower (fun p => { p with glitchAt := some s.clauseNow })).raise 0 0x0D2 0

/-- POWER_FAIL_DETECT (R61, R412): the indication asserts, PFAIL_N having been low for its filter time, or the
comparator at fail level for its own. A second detection before restart is ignored. The core ungates (R401). No command
gives the comparator's level: it reads as failed until WARM_RESTART, whose coming says that it has cleared (log 32). -/
def State.powerFails (s : State) (vsense : Bool) : State :=
  if s.power.detected || !(bit (s.get Reg.pfailSources) (b2n vsense)) || (!vsense && !s.pfailLow) then s
  else
    let s := { s with clock := { s.clock with gated := false } }
    s.modPower (fun p => { p with
      detected := true, vsenseOk := p.vsenseOk && !vsense, clearSince := if vsense then some s.now else none })

/-! ### Sensors (R416, R417) -/

/-- SENSOR_VALUE and SENSOR_PEAK of row n take a reading. -/
def State.reading (s : State) (n v : Nat) : State :=
  let v := v % 4294967296
  let peak := match Tbl.find s.regs (Reg.key Reg.sensorPeak n) with
    | some p => if signed32 p < signed32 v then v else p
    | none => v
  (s.set Reg.sensorValue n v).set Reg.sensorPeak n peak

/-- Readings of rows `from'` on. -/
def State.readings (s : State) : Nat → List Nat → State
  | _, [] => s
  | n, v :: r => State.readings (s.reading n v) (n + 1) r

/-- Nominal millivolts of rows 9 to 16 (Table 19.5), in the order of Table 16.7. -/
def nominalMv : List Nat := [800, 800, 1800, 850, 850, 1200, 1200, 1800]

/-- Every supply is in range: within 5 % of its nominal value, and VDD_CORE, whose nominal value is AVS_TARGET, within
30 mV of it. -/
def State.suppliesSound (s : State) : Bool :=
  let mv (n : Nat) : Int := signed32 (s.get Reg.sensorValue n)
  let target : Int := s.get Reg.avsTarget
  decide (20 * (mv 8 - target).natAbs ≤ target.natAbs) && decide ((mv 8 - target).natAbs ≤ 30) &&
  (List.range 8).all (fun k => decide (20 * (mv (9 + k) - (nominalMv.getD k 0 : Nat)).natAbs ≤ nominalMv.getD k 0))

/-- The highest diode reading, in thousandths of a degree. -/
def State.hottest (s : State) : Int :=
  (List.range 7).foldl (fun a n => max a (signed32 (s.get Reg.sensorValue (n + 1)))) (signed32 (s.get Reg.sensorValue 0))

/-- Diodes and supplies have been sampled: TJ_MAX, THERM_ALERT_N with source 0x0D3 and wake source 9, and the supply
alarm, `lasts` when a supply has been out of range for 10 µs. -/
def State.sampled (s : State) (lasts : Bool) : State :=
  let t := s.hottest
  let s := s.set Reg.tjMax 0 (toU32 (t * 65536 / 1000))
  let alert : Int := (s.get Reg.tjAlert : Nat) * 1000
  let s := if alert ≤ t then
      ((s.modEvents (fun e => { e with thermLow := true })).keepPending 0 0x0D3 0).wake 9
    else if t < alert - 5000 then
      (s.modEvents (fun e => { e with thermLow := false })).withdraw 0 0x0D3
    else if s.events.thermLow then s.wake 9 else s
  if lasts && !s.suppliesSound then s.keepPending 0 0x0E1 0
  else if s.suppliesSound then s.withdraw 0 0x0E1
  else s

/-- SENSOR_SAMPLE (R416): every 2,048 clauses outside A2. -/
def State.sensorSample (s : State) (sensors : List Nat) (lasts : Bool) : State :=
  if s.powerState ≠ 2 ∧ s.due (s.power.sampleAt + 128 * 2048) = true ∧ sensors.length = 17 then
    ((s.modPower (fun p => { p with sampleAt := s.now })).readings 0 sensors).sampled lasts
  else s

/-! ### Re-plans (R418) -/

/-- The row of a list of sensor rows with the highest peak, and that peak. -/
def State.highestPeak (s : State) : List Nat → Nat × Nat
  | [] => (0xFFFF, 0)
  | n :: r =>
    let best := State.highestPeak s r
    let v := (signed32 (s.get Reg.sensorPeak n)).toNat
    if best.1 = 0xFFFF ∨ best.2 ≤ v then (n, v) else best

/-- Rule 1 (AVS): answers the state and whether AVS_TARGET has changed. -/
def State.ruleAvs (s : State) : State × Bool :=
  let (row, d) := s.highestPeak [17, 18, 19, 20, 21, 22]
  let old := s.get Reg.avsTarget
  let new := min 860 (s.value Reg.avsBase 0 + 2 * ceilDiv d 10)
  if new = old then (s, false)
  else
    let s := (s.set Reg.avsTarget 0 new).replanRecord 1 0 row old new d 0
    (if 850 ≤ new then s.replanRecord 4 0 row old new d 0 else s, true)

/-- The links of quad q (Table 16.7). -/
def quadLinks (q : Nat) : List Nat := if q < 8 then [2 * q, 2 * q + 1] else [q + 8]

/-- Selected lanes of link u whose eye is below the guard: the count of evaluations in a row is kept for each. -/
def State.noteEyes (s : State) (u : Nat) : State :=
  if s.powerState ≠ 0 then s
  else
    let limit := s.get Reg.eyeMinWidth u + s.get Reg.replanEyeGuard
    s.each (allLanes u) (fun s n =>
      let low := bit (s.get Reg.laneStatus n) 4 && (s.lane n).scanned && decide (s.get Reg.eyeWidth n < limit)
      s.modLane n (fun l => { l with lowEvals := if low then l.lowEvals + 1 else 0 }))

/-- A lane of link u whose eye has been low at three evaluations in a row. -/
def State.lowEye (s : State) (u : Nat) : Option Nat :=
  if s.powerState ≠ 0 then none else (allLanes u).find? (fun n => decide (3 ≤ (s.lane n).lowEvals))

/-- Rule 2 (lane cap) for quad q. -/
def State.ruleQuad (s : State) (q : Nat) : State × Bool :=
  let s := s.each (quadLinks q) (fun s u => s.noteEyes u)
  let d := (signed32 (s.get Reg.sensorPeak (23 + q))).toNat
  let old := s.get Reg.linkRateCap ((quadLinks q).headD 0)
  let eye := (quadLinks q).findSome? s.lowEye
  let aged := decide (s.get Reg.laneAgeLimit ≤ d)
  if (!aged && eye.isNone) || decide (old ≤ 3) then (s, false)
  else
    let s := s.each (quadLinks q) (fun s u => s.set Reg.linkRateCap u (old - 1))
    let measure := if aged then d else s.get Reg.eyeWidth (eye.getD 0)
    let s := s.replanRecord 2 q (23 + q) old (old - 1) measure 0
    (s.each (quadLinks q) (fun s u => s.settleLink u), true)

/-- Rules 1 and 2: whether some value has changed. -/
def State.replan (s : State) : State × Bool :=
  (List.range 10).foldl (fun (x : State × Bool) q => let y := x.1.ruleQuad q; (y.1, x.2 || y.2)) s.ruleAvs

/-- REPLAN (R418): every REPLAN_PERIOD outside A2. -/
def State.replanDue (s : State) (oscillators : List Nat) : State :=
  if s.powerState ≠ 2 ∧ s.due (s.power.replanAt + msCycles (s.get Reg.replanPeriod)) = true ∧ oscillators.length = 16 then
    ((s.modPower (fun p => { p with replanAt := s.now })).readings 17 oscillators).replan.1
  else s

/-- RESTORE_CAPS (R418): every cap is rate code 5. -/
def State.restoreCaps (s : State) : State :=
  let s := s.each (List.range 18) (fun s u => s.set Reg.linkRateCap u 5)
  s.each (List.range 18) (fun s u => s.settleLink u)

/-- A value moved toward a target by at most 5. -/
def toward (v target : Nat) : Nat := if v < target then min target (v + 5) else max target (v - 5)

/-- One AVSBus transaction (R419): a Voltage write and the Status read after it. -/
def State.avsTransaction (s : State) (ok : Bool) : State :=
  let mv := toward s.power.avsMv (s.get Reg.avsTarget)
  let s := (s.emit (.avs mv)).modPower (fun p => { p with avsAt := s.now })
  if ok then
    (s.modPower (fun p => { p with avsMv := mv, avsFails := 0 })).withdraw 0 0x0E2
  else
    let s := s.modPower (fun p => { p with avsFails := p.avsFails + 1 })
    if s.power.avsFails = 3 then s.raise 0 0x0E2 0 else s

/-- AVS_STEP (R419): 64 clauses after the last write, while the voltage is not at its target. -/
def State.avsStep (s : State) (ok : Bool) : State :=
  if s.power.avsFails < 3 ∧ s.power.avsMv ≠ s.get Reg.avsTarget ∧ s.due (s.power.avsAt + 128 * 64) = true then
    s.avsTransaction ok
  else s

/-- AVS_RETRY (R419): every 2,048 clauses after three failures in a row. -/
def State.avsRetry (s : State) (ok : Bool) : State :=
  if 3 ≤ s.power.avsFails ∧ s.due (s.power.avsAt + 128 * 2048) = true then s.avsTransaction ok else s

/-! ### Patrol (R410, R411) -/

/-- The object that a packed index names outside a table: its entry and its unit (R449, R13). -/
def Reg.resolve (index : Nat) : Option (Obj × Nat) :=
  let object := index / 256 % 65536
  let u := (object - 0x1000) / 256
  match Reg.obj index with
  | some o => some (o, 0)
  | none =>
    match Reg.obj (index - 65536 * u) with
    | some o => if 0x1000 ≤ object ∧ u < o.units then some (o, u) else none
    | none => none

/-- A value of a type as signed 64 bits. -/
def ObjType.signed (t : ObjType) (v : Nat) : Int :=
  match t with
  | .i32 => signed32 v
  | .q16 => signed32 v
  | .u64 => if v < 9223372036854775808 then (v : Int) else (v : Int) - 18446744073709551616
  | _ => v

/-- TEST of a COMPARE row: a value, the threshold, and the value of the previous pass. -/
def patrolTest (test : Nat) (v limit : Int) (prev : Option Nat) (raw : Nat) : Bool :=
  match test with
  | 0 => decide (limit < v)
  | 1 => decide (limit ≤ v)
  | 2 => decide (v < limit)
  | 3 => decide (v ≤ limit)
  | 4 => decide (v ≠ limit)
  | _ => match prev with | some p => p != raw | none => false

/-- Row r of a pass runs: whether it hits (Table 16.6). The readings of a SENSE row are those that the pass brings; a
supply out of range there counts as lasting (log 25). -/
def State.patrolRow (s : State) (r : Nat) (sensors : List Nat) : State × Bool :=
  match s.get Reg.patrolOp r with
  | 1 => ((s.readings 0 (sensors.take 33)).sampled true).replan
  | 2 =>
    match Reg.resolve (s.get Reg.patrolObject r) with
    | some (o, u) =>
      let v := s.value o.reg u
      let hit := patrolTest (s.get Reg.patrolTest r) (o.ty.signed v) (signed32 (s.get Reg.patrolThreshold r))
        (Tbl.find s.power.patrolPrev r) v
      (s.modPower (fun p => { p with patrolPrev := Tbl.put p.patrolPrev r v }), hit)
    | none => (s, false)
  | 3 =>
    (s, s.activeCarriers.any (fun c => decide (5000 < s.value Reg.healthAge c) || field (s.blob Reg.healthBody c) 0 4 != 0))
  | 4 => (s, (List.range 18).any (fun u => bit s.power.linksAtStep10 u && s.linkState u != .up))
  | _ => (s, false)

/-- The rows of a pass from row r on. -/
def State.patrolRows (s : State) (sensors : List Nat) : List Nat → State
  | [] => s
  | r :: rest =>
    if s.get Reg.patrolOp r = 0 then s
    else
      let (s, hit) := s.patrolRow r sensors
      let flags := s.get Reg.patrolFlags r
      if hit then
        let s := s.bump Reg.patrolHits r
        let s := if bit flags 0 then s.wake 10 else s
        let s := if bit flags 1 then s.raise 0 0x0D4 0 else s
        if bit flags 2 then s else State.patrolRows s sensors rest
      else State.patrolRows s sensors rest

/-- PATROL_PASS (R410): the pass that is due; passes that fell due before it ran are skipped and counted. -/
def State.patrolPass (s : State) (sensors : List Nat) : State :=
  let period := msCycles (s.get Reg.patrolPeriod)
  let p := s.power
  let since := 128 * (s.clauseNow - p.patrolFrom)
  if s.powerState = 2 ∧ p.trans = none ∧ s.cutPassed = false ∧ p.detected = false ∧ s.past (128 * p.patrolFrom + p.patrolNext * period) = true then
    let k := max p.patrolNext (since / period)
    let s := s.bump Reg.patrolOverruns 0 (k - p.patrolNext)
    let s := (s.modPower (fun p => { p with patrolNext := k + 1 })).bump Reg.patrolPasses
    s.patrolRows sensors (List.range 32)
  else s

/-! ### Commands -/

/-- STEP_TIMEOUT (R404). -/
def execStepTimeout (s : State) : Host.Outcome State Fault Refusal := act s State.stepLate

/-- WAKE_RESEND (R408). -/
def execWakeResend (c : Fin 8) (s : State) : Host.Outcome State Fault Refusal := act s (fun s => s.wakeLate c.val)

/-- WAKE_TIMEOUT (R408). -/
def execWakeTimeout (c : Fin 8) (s : State) : Host.Outcome State Fault Refusal := act s (fun s => s.wakeLost c.val)

/-- PFAIL_N_INPUT (R412). -/
def execPfailNInput (high : Bool) (cyc : Fin 128) (s : State) : Host.Outcome State Fault Refusal :=
  actRom s (fun s => (s.atCycle cyc.val).pfailInput high)

/-- POWER_FAIL_DETECT (R61). -/
def execPowerFailDetect (vsense : Bool) (cyc : Fin 128) (s : State) : Host.Outcome State Fault Refusal :=
  actRom s (fun s => (s.atCycle cyc.val).powerFails vsense)

/-- PATROL_PASS (R410). -/
def execPatrolPass (sensors : List Nat) (s : State) : Host.Outcome State Fault Refusal :=
  act s (fun s => s.patrolPass sensors)

/-- SENSOR_SAMPLE (R416). -/
def execSensorSample (sensors : List Nat) (alarm10us : Bool) (s : State) : Host.Outcome State Fault Refusal :=
  act s (fun s => s.sensorSample sensors alarm10us)

/-- REPLAN (R418). -/
def execReplan (oscillators : List Nat) (s : State) : Host.Outcome State Fault Refusal :=
  act s (fun s => s.replanDue oscillators)

/-- AVS_STEP (R419). -/
def execAvsStep (ok : Bool) (s : State) : Host.Outcome State Fault Refusal := act s (fun s => s.avsStep ok)

/-- AVS_RETRY (R419). -/
def execAvsRetry (ok : Bool) (s : State) : Host.Outcome State Fault Refusal := act s (fun s => s.avsRetry ok)

end Sys2Proof.Machine
end

