-- ==== Sys2Proof/Machine/Reset.lean ====
section
/-!
DEFINITION. Instances: assignment of resources, resets by drain and by squash, and the events of the host port that
start them (spec/09_instances.md, spec/07_host_port.md R178 to R182).
-/
namespace Sys2Proof.Machine

/-! ### Reset jobs -/

/-- The reset job of instance i. -/
def State.resetJob (s : State) (i : Nat) : Option ResetJob := s.resets.find? (fun j => j.i == i)

/-- The reset job of an instance replaced. -/
def State.putReset (s : State) (j : ResetJob) : State :=
  { s with resets := s.resets.map (fun k => if k.i = j.i then j else k) }

/-- The reset job of instance i changed by `f`. -/
def State.modReset (s : State) (i : Nat) (f : ResetJob → ResetJob) : State :=
  match s.resetJob i with
  | some j => s.putReset (f j)
  | none => s

/-- A reset of instance i is asked for (R213, R221): a new one, or one that joins the reset that runs. -/
def State.askReset (s : State) (i kind : Nat) (drain : Bool) : State :=
  let s := if kind = 4 then s else s.modHost (fun h => { h with flr := h.flr.add i })
  let func := kind == 1 || kind == 2 || kind == 3
  let pf := kind == 2 && i == 0
  match s.resetJob i with
  | none =>
    { s with resets := s.resets ++
        [⟨i, kind, drain, drain, s.clauseNow, none, b2n (!drain), none, func, kind != 4, pf, 0, 0, 0, 0, 0, none⟩] }
  | some j =>
    let j := { j with kind := kind, func := j.func || func, port := j.port || kind != 4, pf := j.pf || pf }
    if j.begun.isNone then
      let d := j.drain && drain
      s.putReset { j with drain := d, asked := d, outcome := b2n (!d) }
    else if j.drain && !drain && j.joinAt.isNone then s.putReset { j with joinAt := some s.clauseNow }
    else s.putReset j

/-- The mode that FLR_MODE of instance i gives. -/
def State.flrDrains (s : State) (i : Nat) : Bool := s.get Reg.flrMode i == 1

/-- Waiting INST_COMMAND writes of instance i are known by this number. -/
def instWait (i : Nat) : Nat := Reg.key Reg.instCommand i

/-! ### Work of a reset (Table 9.3) -/

/-- The channels that instance i holds. -/
def State.chansOf (s : State) (i : Nat) : List Nat :=
  (List.range (s.get Reg.effDmaCount i)).map (s.get Reg.effDmaFirst i + ·)

/-- The pool queues that instance i holds. -/
def State.queuesOf (s : State) (i : Nat) : List Nat :=
  (List.range (s.get Reg.effQueueCount i)).map (s.get Reg.effQueueFirst i + ·)

/-- The contexts of instance i that are not CLOSED. -/
def State.liveContexts (s : State) (i : Nat) : List Nat :=
  (s.rowsOf Reg.ctxState).filter (fun n => s.ctxOwner n == some i && s.ctxState n != .closed)

/-- A command of the posted path reads a BAR of instance i. -/
def Instr.readOf (i : Nat) : Instr → Bool
  | .hostRead j _ _ _ => j.val == i
  | .claim j _ => j.val == i
  | _ => false

/-- A part held in Restoring is a read of instance i: of the host, or of its DMA channels. -/
def HeldPart.readOf (i : Nat) (h : HeldPart) : Bool :=
  decide (h.i = i) && (match h.work with
    | .image _ _ _ _ _ (.hostRead _ _) => true
    | .image _ _ _ _ _ (.dmaRead _ _ _) => true
    | _ => false)

/-- The channel whose read a held part is. -/
def HeldPart.chanOf (h : HeldPart) : Option Nat :=
  match h.work with | .image _ _ _ _ _ (.dmaRead k _ _) => some k | _ => none

/-- A channel stops at the end of its current burst: a burst whose data are not all here ends at once, one that writes
goes on. No record is written. -/
def State.squashChan (s : State) (i k : Nat) : State :=
  let c := s.chan k
  let busy := c.desc.isSome && !(s.chanState k == .halted)
  let s := s.modChan k (fun c => { c with
    fetching := none, stop := 2, fault := none, bursts := c.bursts.filter (fun b => b.phase == 3) })
  let s := s.settleChan k
  if busy then s.modReset i (fun j => { j with dma := j.dma + 1 }) else s

/-- Reads of instance i whose parts are held in Restoring are abandoned without completion (R214, Table 4.5); a channel
that one of them served stops as in a squash (DEDUCED, log 98). -/
def State.dropHeldOf (s : State) (i : Nat) : State :=
  let ids := (s.restore.held.filterMap (fun h => match h.work with
    | .image false _ _ _ _ (.hostRead id _) => if h.i = i then some id else none
    | _ => none)).eraseDups
  let ks := ((s.restore.held.filter (HeldPart.readOf i)).filterMap HeldPart.chanOf).eraseDups
  let s := s.dropHeldReads (HeldPart.readOf i)
  let s := s.modHost (fun h => { h with reads := h.reads.filter (fun j => !(ids.contains j.id)) })
  let s := s.modReset i (fun j => { j with reads := j.reads + ids.length })
  s.each ks (fun s k => s.squashChan i k)

/-- Every host read of instance i is abandoned without completion. -/
def State.dropReads (s : State) (i : Nat) : State :=
  let h := s.host
  let n := (h.reads.filter (fun j => j.i == i)).length + (h.readWait.filter (Instr.readOf i)).length +
    (h.posted.filter (Instr.readOf i)).length
  let s := s.dropHeldReads (HeldPart.readOf i)
  let s := s.modHost (fun h => { h with
    reads := h.reads.filter (fun j => j.i != i)
    readWait := h.readWait.filter (fun c => !(Instr.readOf i c))
    posted := h.posted.filter (fun c => !(Instr.readOf i c)) })
  s.modReset i (fun j => { j with reads := j.reads + n })

/-- A read of host memory belongs to a burst of its channel. -/
def State.burstReads (s : State) (tag : Nat) : Bool :=
  match s.host.reqs.find? (fun r => r.tag == tag) with
  | some r => (match r.what with | .dmaRead k b _ => (s.chan k).bursts.any (fun x => x.id == b) | .descriptor _ _ => false)
  | none => false

/-- The entries of instance i that a squash takes out of port 9 (R247). A host write stays while it can leave; with the
link down or Bus Master Enable clear it never can, and is dropped (DEDUCED, log 26). -/
def State.squashed9 (s : State) (i : Nat) (e : Entry) : Bool :=
  e.i == i && (match e.work with
    | .hostRd tag => !(s.burstReads tag)
    | .hostWr _ _ _ _ => !s.hostLinkOn || !(s.host.busMaster.mem i)
    | _ => true)

/-- An entry that a discarded record, durability word or message stands for. -/
def Work.isNotice : Work → Bool
  | .record .. => true
  | .dword .. => true
  | .msix .. => true
  | _ => false

/-- An entry that a squash takes out of a carrier port: a read of service 2, 3 or 6 (R247). -/
def Entry.squashedRead (i : Nat) (e : Entry) : Bool :=
  e.i == i && (e.svc == 2 || e.svc == 3 || e.svc == 6) &&
  (match e.work.imageRange with | some (w, _, _) => !w | none => false)

/-- The scheduler's work in a squash of instance i (R247), with the records and messages discarded (R215). -/
def State.squashLeaves (s : State) (i : Nat) : State :=
  let s := s.each (List.range 8) (fun s p => s.removeEntries p (Entry.squashedRead i))
  let gone := ((s.port 9).entries ++ (s.port 9).outside).filter (s.squashed9 i)
  let n := (gone.filter (fun e => e.work.isNotice)).length
  let tags := gone.filterMap (fun e => match e.work with | .hostRd t => some t | _ => none)
  let s := s.removeEntries 9 (s.squashed9 i)
  let s := s.modHost (fun h => { h with reqs := h.reqs.filter (fun r => r.sent || !(tags.contains r.tag)) })
  let lost := (gone.filter (fun e => match e.work with | .answer _ _ _ _ => true | _ => false)).length
  (s.bump Reg.recordsDiscarded 0 n).modReset i (fun j => { j with discarded := j.discarded + n, reads := j.reads + lost })

/-- The host Lexicon port of instance i is idle; a request in progress is abandoned with BUSY (Table 9.3). -/
def State.idlePort (s : State) (i : Nat) : State :=
  let p := s.lexPort i
  let s := if p.busy then s.putLexPort i { p with busy := false, abort := Abort.busy.code } else s
  s.modLexicon (fun l => { l with transfers := l.transfers.filter (fun t => match t.port with
    | .host j => j.val != i
    | .node _ => true) })

/-- What a squash does at once (Table 9.3); `port`: a trigger other than INST_COMMAND has asked for it. -/
def State.squashWork (s : State) (i : Nat) (port : Bool) : State :=
  let s := s.dropReads i
  let s := s.squashLeaves i
  let s := s.each (s.chansOf i) (fun s k => s.squashChan i k)
  let ctxs := s.liveContexts i
  let s := s.each ctxs (fun s n => s.ctxAbortNow n)
  let s := s.modReset i (fun j => { j with
    aborted := j.aborted + ctxs.length, closed := j.closed - ctxs.length })
  if port then s.idlePort i else s

/-- What a drain does as it begins: the OPEN and ERROR contexts close, and armed queues decide their messages at once.
R124 names no FROZEN context: one stays as it is until the window opens, and the drain waits for it (DEDUCED, log 93). -/
def State.drainWork (s : State) (i : Nat) : State :=
  let s := s.dropHeldOf i
  let ctxs := s.liveContexts i
  let s := s.modReset i (fun j => { j with closed := ctxs.length })
  let s := s.each (ctxs.filter (fun n => s.ctxState n == .opened || s.ctxState n == .error)) (fun s n => s.ctxCloseNow n)
  s.each (s.queuesOf i) (fun s q => s.decideQueue q true)

/-- RESET_BEGIN (R214): the boundary after the trigger. An absent VF stays absent (R219). -/
def State.beginReset (s : State) (i : Nat) : State :=
  match s.resetJob i with
  | some j =>
    if j.begun.isNone && decide (j.since < s.clauseNow) then
      let s := s.putReset { j with begun := some s.clauseNow, since := s.clauseNow }
      let s := s.modHost (fun h => { h with flr := h.flr.add i })
      let s := if s.live i then s.set Reg.instState i 2 else s
      let s := s.each (s.lexicon.waiting.filter (fun w => w.reg == instWait i)) (fun s w => s.finish w.who w.reg .ok)
      if j.drain then s.drainWork i else s.squashWork i j.port
    else s
  | none => s

/-! ### Quiet and completion (R216 to R218) -/

/-- Nothing of instance i waits on any port. -/
def State.leavesEmpty (s : State) (i : Nat) : Bool :=
  (List.range 10).all (fun p => ((s.port p).entries ++ (s.port p).outside).all (fun e => e.i != i))

/-- A channel does nothing. -/
def State.chanQuiet (s : State) (k : Nat) : Bool :=
  let c := s.chan k
  c.fetching.isNone && (c.desc.isNone || s.chanState k == .halted) && c.bursts.isEmpty

/-- Everything of a drain but its queues is done (R216). -/
def State.drained (s : State) (i : Nat) : Bool :=
  !(s.host.reads.any (fun j => j.i == i)) && !(s.host.readWait.any (Instr.readOf i)) &&
  !(s.host.posted.any (Instr.readOf i)) && s.leavesEmpty i && (s.chansOf i).all s.chanQuiet &&
  (s.liveContexts i).isEmpty && !((s.lexPort i).busy && (s.resetJob i).any (·.port))

/-- In a drain armed queues decide at once, and once its work has left its queues are disabled (R215); an instance with
no enabled queue is quiet in that clause already. -/
def State.drainQueues (s : State) : State :=
  s.each s.resets (fun s j =>
    let s := if j.begun.isSome && j.drain then s.each (s.queuesOf j.i) (fun s q => s.decideQueue q true) else s
    if j.begun.any (fun b => decide (b < s.clauseNow)) && j.disabled.isNone && (!j.drain || s.drained j.i) then
      let on := (s.queuesOf j.i).filter (fun q => s.get Reg.queueEnable q = 1)
      let s := s.each on (fun s q => s.disableQueue q)
      s.modReset j.i (fun j => { j with disabled := some (if on.isEmpty then 0 else s.clauseNow) })
    else s)

/-- A reset is quiet (R216); a squash is quiet within 2,048 clauses (R217). -/
def State.quiet (s : State) (j : ResetJob) : Bool :=
  if j.drain then s.drained j.i && j.disabled.any (fun d => decide (d < s.clauseNow))
  else ((s.chansOf j.i).all s.chanQuiet && (s.liveContexts j.i).isEmpty) || decide (j.since + 2048 ≤ s.clauseNow)

/-- DRAIN_ESCALATION (R217, R221): DRAIN_LIMIT has passed, or a squash has joined. -/
def State.escalate (s : State) (i : Nat) : State :=
  match s.resetJob i with
  | some j =>
    match j.begun with
    | some b =>
      if j.drain && decide (b < s.clauseNow) && !(s.quiet j) &&
          (j.joinAt.any (fun t => decide (t < s.clauseNow)) || s.past (128 * b + msCycles (s.get Reg.drainLimit i))) then
        let why := if j.joinAt.any (fun t => decide (t < s.clauseNow)) then 3 else 2
        let s := s.putReset { j with drain := false, outcome := why, since := s.clauseNow }
        (s.bump Reg.resetEscalations).squashWork i j.port
      else s
    | none => s
  | none => s

/-- LEAF_WEIGHT written: the old weight stays in force until the next clause boundary (R231). -/
def State.writeLeafWeight (s : State) (row w : Nat) : State :=
  let old := s.get Reg.leafWeight row
  if old = w then s
  else
    let s := s.set Reg.leafWeight row w
    { s with sched := { s.sched with weightWait :=
        if (Tbl.find s.sched.weightWait row).isSome then s.sched.weightWait else Tbl.put s.sched.weightWait row old } }

/-- The staged fields of instance i become effective together (R209), and its leaves take its WEIGHT (R231). -/
def State.adoptStaged (s : State) (i : Nat) : State :=
  let s := s.each stagedFields (fun s x => if s.get x.2 i = s.get x.1 i then s else s.set x.2 i (s.get x.1 i))
  s.each (List.range 80) (fun s x => s.writeLeafWeight (x * 256 + i) (s.get Reg.effWeight i))

/-- Pending sources, queue pending bits, claims, coalescing counts and event counters of instance i are cleared (R218). A
queue is pending while PROD is not CONS (R258), so CONS becomes PROD (DEDUCED, log 94). -/
def State.clearEvents (s : State) (i : Nat) : State :=
  let s := s.modEvents (fun e => { e with
    pend := e.pend.removeRange (i * 1024) (i * 1024 + 1024)
    claimed := e.claimed.removeRange (i * 1024) (i * 1024 + 1024)
    units := e.units.removeRange (i * 1024 * 128) ((i * 1024 + 1024) * 128)
    outstanding := e.outstanding.remove i })
  let s := s.each (s.queuesOf i) (fun s q =>
    ((if s.get Reg.queueCons q = s.get Reg.queueProd q then s else s.set Reg.queueCons q (s.get Reg.queueProd q)).putQrun q { s.qrun q with u := 0 }).modEvents (fun e => { e with decided := e.decided.filter (· != q) }))
  let s := s.each ((s.rowsOf Reg.ctxState).filter (fun n => s.ctxOwner n == some i)) (fun s n =>
    s.putCtxRun n { s.ctxRun n with u := 0 })
  { s with regs := s.regs.filter (fun x =>
      !(decide (Reg.key Reg.mgmtCount (i * 1024) ≤ x.1) && decide (x.1 < Reg.key Reg.mgmtCount (i * 1024 + 1024)))) }

/-- A function's registers take their reset values: Bus Master Enable, its MSI-X enable and masks (R218), and the AER
status of a VF, which Table 7.9 gives no sticky bits. -/
def State.clearFunction (s : State) (i : Nat) : State :=
  s.modHost (fun h => { h with
    busMaster := h.busMaster.remove i
    msixEnable := h.msixEnable.remove i
    fnMask := h.fnMask.remove i
    vecOpen := h.vecOpen.removeRange (i * 256) (i * 256 + 256)
    aerFatal := if i = 0 then h.aerFatal else Tbl.erase h.aerFatal i
    aerCorr := if i = 0 then h.aerCorr else Tbl.erase h.aerCorr i })

/-- The PF's registers that concern the whole port take their reset values: power state, VFs, BAR bases, tag enables. -/
def State.clearPort (s : State) : State :=
  s.modHost (fun h => { h with
    d3 := false, numVfs := 0, bases := ⟨0, 0, 0, 0, 0, 0⟩, tag14 := false, tag10 := false, mrrs := 512 })

/-- The BAR sizes of the PF take their stored encodings (R165). -/
def State.loadBars (s : State) : State :=
  s.modHost (fun h => { h with
    pfWin := s.get Reg.pfWindowDefault
    vfWin := s.get Reg.vfWindowDefault
    pfBar4 := s.get Reg.pfBar4Size
    vfBar4 := s.get Reg.vfBar4Size })

/-- Table 9.4. -/
def State.resetReport (s : State) (j : ResetJob) : List Byte :=
  layout [(1, j.kind), (1, b2n j.asked), (1, j.outcome), (1, 0),
    (4, sat 4294967295 (s.clauseNow - j.begun.getD s.clauseNow)), (2, sat 65535 j.reads), (2, sat 65535 j.dma), (4, j.closed),
    (4, j.aborted), (4, j.discarded)]

/-- INSTANCE_RESET_DONE (R219, R220): written to the PF's management event queue, or held until that is enabled. -/
def State.resetDone (s : State) (i : Nat) (report : List Byte) : State :=
  if i ≠ 0 ∧ (s.mgmtQueue 0).any (fun q => s.get Reg.queueEnable q == 1) = true then s.recordMgmt 0 0x70 i 0x050 report
  else s.modEvents (fun e => { e with
    held := e.held.filter (fun h => !(h.type == 0x70 && h.about == i)) ++ [⟨0, i, 0x70, 0x050, report⟩] })

/-- The meters of instance i refill to their full bursts (R218). -/
def State.refillMeters (s : State) (i : Nat) : State :=
  let meters := [committedBucket (2 * i), peakBucket (2 * i), committedBucket (2 * i + 1), peakBucket (2 * i + 1)]
  { s with sched := { s.sched with buckets := meters.foldl (fun b k => Tbl.erase b k) s.sched.buckets } }

/-- INST_STATE after a reset of instance i (R218): a VF that VF Enable no longer covers is absent. -/
def State.stateAfterReset (s : State) (i : Nat) : State :=
  if i = 0 then s.set Reg.instState 0 1
  else s.set Reg.instState i (b2n (s.live i && s.host.vfEnable && decide (i ≤ s.host.numVfs)))

/-- What a completed reset of instance i does to its resources (R218, R95). -/
def State.instanceAnew (s : State) (i : Nat) : State :=
  let s := s.each (s.chansOf i) (fun s k => s.chanReset k)
  let s := s.each (s.queuesOf i) (fun s q => if s.get Reg.queueEnable q = 1 then s.disableQueue q else s)
  let s := ((s.clearEvents i).adoptStaged i).refillMeters i
  let s := s.set Reg.dwordEnable i 0
  if i = 0 then s else s.modEvents (fun e => { e with held := e.held.filter (fun h => h.i != i) })

/-- What a completed reset of function i does to its registers (R178, R218). -/
def State.functionAnew (s : State) (i : Nat) (j : ResetJob) : State :=
  let s := if j.func then s.clearFunction i else s
  if j.pf then s.loadBars.clearPort else s

/-- RESET_COMPLETE (R218). A PF FLR completes when the PF and every VF are quiet (Table 9.5). -/
def State.completeReset (s : State) (i : Nat) : State :=
  match s.resetJob i with
  | some j =>
    if j.begun.any (fun b => decide (b < s.clauseNow)) && s.quiet j &&
        (!j.pf || s.resets.all (fun k => k.i == 0 || (k.begun.isSome && s.quiet k))) then
      let report := s.resetReport j
      let s := { s with resets := s.resets.filter (fun k => k.i != i) }
      let s := ((s.instanceAnew i).functionAnew i j).stateAfterReset i
      let s := s.modHost (fun h => { h with flr := h.flr.remove i })
      let s := s.setBlob Reg.lastReset i report
      if j.kind = 5 then s else s.resetDone i report
    else s
  | none => s

/-! ### Triggers -/

/-- Every live VF is reset as its mode asks: VF Enable is cleared (R212), or the PF is reset by FLR. -/
def State.clearVfs (s : State) (kind : Nat) : State :=
  let s := s.modHost (fun h => { h with vfEnable := false, vfMem := false })
  s.each (s.liveList.filter (· ≠ 0)) (fun s i => s.askReset i kind (s.flrDrains i))

/-- VF Enable is set (R212): VFs 1 to NumVFs are live with their staged assignment. -/
def State.setVfs (s : State) : State :=
  if s.host.vfEnable then s
  else
    let s := s.modHost (fun h => { h with vfEnable := true })
    s.each ((List.range s.host.numVfs).map (· + 1)) (fun s i =>
      if s.live i then s else (s.adoptStaged i).set Reg.instState i 1)

/-- A posted write that has reached the receive buffer, by its payload; nothing else of the posted path counts. -/
def Instr.bufferedWrite : Instr → Option Nat
  | .hostWrite _ _ d _ _ => some d.length
  | _ => none

/-- The waiting commands that a lost link leaves: writes within the posted receive buffer, in order (Table 7.11). -/
def bufferedOf : Nat → Nat → List Instr → List Instr
  | _, _, [] => []
  | room, heads, c :: r =>
    match Instr.bufferedWrite c with
    | some n => if n ≤ room ∧ 0 < heads then c :: bufferedOf (room - n) (heads - 1) r else []
    | none => bufferedOf room heads r

/-- A PERST_N, hot reset or link down (R178): configuration takes its reset values, `sticky` bits included or not, and
all 256 instances are reset by squash. -/
def State.hostReset (s : State) (sticky : Bool) : State :=
  let s := if s.host.d3 ∧ s.powerState = 2 then s.powerRequest 0 3 else s
  let s := s.modHost (fun h => { h with
    posted := bufferedOf (65536 - s.postedBytes) 256 h.posted, readWait := [], busMaster := [], msixEnable := [],
    fnMask := [], vecOpen := [], vfEnable := false, vfMem := false, bus := 0 })
  let s := s.clearPort
  let s := s.each (List.range 256) (fun s i => s.askReset i 5 false)
  if sticky then
    (s.loadBars.modHost (fun h => { h with pmeEn := false, aerFatal := [], aerCorr := [] })).modEvents
      (fun e => { e with pmeStatus := false })
  else s

/-- LINK_STATUS becomes link down, with source 0x001 on a change (R184). -/
def State.hostLinkDown (s : State) : State :=
  if s.get Reg.hostLinkStatus = 0 then s
  else ((s.set Reg.hostLinkStatus 0 0).raise 0 0x001 0).wakeSignal

/-- A bit of REFCLK_STATUS changes, with source 0x012 (Table 2.3). -/
def State.refChanges (s : State) (b : Nat) (on : Bool) : State :=
  if bit (s.get Reg.refclkStatus) b = on then s else (s.putBit Reg.refclkStatus 0 b on).raise 0 0x012 0

/-! ### Commands -/

/-- VF_ENABLE_SET (R212): with VF Memory Space Enable as the same write sets it. -/
def execVfEnableSet (mse : Bool) (s : State) : Host.Outcome State Fault Refusal :=
  act s (fun s => s.configCall 0 (fun s => s.setVfs.modHost (fun h => { h with vfMem := mse })))

/-- VF_ENABLE_CLEAR (R213): kind 3. -/
def execVfEnableClear (s : State) : Host.Outcome State Fault Refusal :=
  act s (fun s => s.configCall 0 (fun s => if s.host.vfEnable then s.clearVfs 3 else s))

/-- NUMVFS_WRITE (R212): discarded while VF Enable is 1. -/
def execNumvfsWrite (n : Fin 256) (s : State) : Host.Outcome State Fault Refusal :=
  act s (fun s => s.configCall 0 (fun s => if s.host.vfEnable then s else s.modHost (fun h => { h with numVfs := n.val })))

/-- PF_FLR (R213): kind 2, for the PF and every live VF. -/
def execPfFlr (s : State) : Host.Outcome State Fault Refusal :=
  actRom s (fun s => s.configCall 0 (fun s => (s.askReset 0 2 (s.flrDrains 0)).clearVfs 2))

/-- VF_FLR (R213): kind 1. -/
def execVfFlr (i : Fin 256) (s : State) : Host.Outcome State Fault Refusal :=
  act s (fun s => s.configCall i.val (fun s => if i.val ≠ 0 then s.askReset i.val 1 (s.flrDrains i.val) else s))

/-- RESET_BEGIN (R214). -/
def execResetBegin (i : Fin 256) (s : State) : Host.Outcome State Fault Refusal :=
  act s (fun s => s.beforeCut (fun s => s.beginReset i.val))

/-- DRAIN_ESCALATION (R217). -/
def execDrainEscalation (i : Fin 256) (s : State) : Host.Outcome State Fault Refusal :=
  act s (fun s => s.beforeCut (fun s => s.escalate i.val))

/-- RESET_COMPLETE (R218). -/
def execResetComplete (i : Fin 256) (s : State) : Host.Outcome State Fault Refusal :=
  act s (fun s => s.beforeCut (fun s => s.completeReset i.val))

/-- PERST_N_ASSERT (R178). -/
def execPerstNAssert (s : State) : Host.Outcome State Fault Refusal :=
  actRom s (fun s =>
    if s.host.perstLow then s
    else
      let s := s.modHost (fun h => { h with perstLow := true })
      (s.beforeCut (fun s => s.hostReset true)).hostLinkDown)

/-- PERST_N_RELEASE (R179): the host port trains, PE_WAKE_N is released, and wake source 21 latches. -/
def execPerstNRelease (s : State) : Host.Outcome State Fault Refusal :=
  actRom s (fun s =>
    if s.host.perstLow then
      let s := s.modHost (fun h => { h with perstLow := false })
      (s.wake 21).modEvents (fun e => { e with peWake := false })
    else s)

/-- The host link trains, or runs: its rate is capped by LINK_RATE_MAX as it stood when the training began (R159), 64 GT/s
is for Flit mode alone, and a width that the port does not support is not taken (Table 7.1). -/
def State.hostLinkRuns (s : State) (status rate width : Nat) (flit : Bool) : State :=
  let old := s.get Reg.hostLinkStatus
  let s := if status = 1 ∨ old = 0 then s.modHost (fun h => { h with rateCap := s.get Reg.hostLinkRateMax }) else s
  let r := min rate (min s.host.rateCap (if flit then 6 else 5))
  let w := if [1, 2, 4, 8, 16].contains width then width else s.get Reg.hostLinkWidth
  let s := (s.set Reg.hostLinkStatus 0 status).set Reg.hostLinkRate 0 r
  let s := (s.set Reg.hostLinkWidth 0 w).set Reg.hostLinkFlit 0 (b2n flit)
  let s := if (old = 2 ∨ old = 3) ∧ status = 1 then s.bump Reg.hostRecoveries else s
  (if old = status then s else s.raise 0 0x001 0).wakeSignal

/-- HOST_LINK_STATUS_CHANGE (R184): LINK_STATUS, its rate, width and mode; a change raises source 0x001, and a link
that is up or in L1 and trains again has entered Recovery (DEDUCED, log 18). The link going down is DL_Down and acts as a
hot reset (R181). -/
def execHostLinkStatusChange (status rate width : Nat) (flit : Bool) (s : State) : Host.Outcome State Fault Refusal :=
  actRom s (fun s =>
    if status = 0 then
      (if s.get Reg.hostLinkStatus = 0 then s else (s.beforeCut (fun s => s.hostReset false)).hostLinkDown)
    else if 4 < status ∨ s.host.perstLow = true ∨ bit (s.get Reg.refclkStatus) 0 = false then s
    else s.hostLinkRuns status rate width flit)

/-- HOT_RESET (R181): DL_Down also takes the link down. -/
def execHotReset (dlDown : Bool) (s : State) : Host.Outcome State Fault Refusal :=
  actRom s (fun s =>
    let s := s.beforeCut (fun s => s.hostReset false)
    if dlDown then s.hostLinkDown else s)

/-- REFCLK_LOSS (R181, R395): the host link goes down, or every Treyr link of the reference. -/
def execRefclkLoss (ref : Fin 3) (s : State) : Host.Outcome State Fault Refusal :=
  actRom s (fun s =>
    if bit (s.get Reg.refclkStatus) ref.val then
      let s := s.refChanges ref.val false
      if ref.val = 0 then (s.beforeCut (fun s => s.hostReset false)).hostLinkDown else s.refLost ref.val
    else s)

/-- REFCLK_RETURN (R181). -/
def execRefclkReturn (ref : Fin 3) (s : State) : Host.Outcome State Fault Refusal :=
  actRom s (fun s => s.refChanges ref.val true)

/-- PF_D3HOT_ENTRY (R182, R403): with PATROL_ON_D3 a request for A2. -/
def execPfD3hotEntry (pmeEn : Bool) (s : State) : Host.Outcome State Fault Refusal :=
  actRom s (fun s => s.configCall 0 (fun s =>
    let enters := !s.host.d3
    let s := (s.modHost (fun h => { h with d3 := true, pmeEn := pmeEn })).wakeSignal
    if enters && s.get Reg.patrolOnD3 == 1 then s.powerRequest 2 3 else s))

/-- PF_D0_RETURN (R403): in A2 a request for A0. -/
def execPfD0Return (s : State) : Host.Outcome State Fault Refusal :=
  actRom s (fun s => s.configCall 0 (fun s =>
    let s := s.modHost (fun h => { h with d3 := false })
    if s.powerState = 2 then s.powerRequest 0 3 else s))

end Sys2Proof.Machine
end

