-- ==== Sys2Proof/Machine/Image.lean ====
section
/-!
DEFINITION. The image commands (spec/01_image_and_paths.md R16 to R18, spec/04_restore.md R78, R82,
spec/03_persistence.md R58): FORMAT, COMMIT, RETRY, ABANDON and SEMICOLON of IMAGE_COMMAND, once the Lexicon has found
the write legal.
-/
namespace Sys2Proof.Machine

/-! ### Geometry (R15, R16) -/

/-- The capacities, as powers of two, that the carriers on C0 to C(n − 1) report now. -/
def State.reportedCaps (s : State) (n : Nat) : List Nat :=
  ((List.range n).filter (fun c => (s.car c).ident0 || (s.car c).ident1)).map (fun c => (s.car c).capacity)

/-- The largest image that n carriers of the reported capacities hold, in segments; none when none reports. -/
def State.segmentLimit (s : State) (n : Nat) : Option Nat :=
  match s.reportedCaps n with
  | [] => none
  | k :: r => some (min 2097152 (n * 2 ^ (r.foldl min k) / 2097152))

/-- The geometry checks of COMMIT in their order (R16). -/
def State.geometryCheck (s : State) : Abort :=
  let n := s.carrierCount
  let caps := s.reportedCaps n
  if n = 0 ∨ s.segments = 0 ∨ (s.segmentLimit n).getD 2097152 < s.segments ∨
      caps.any (fun k => decide (k < 36) || decide (39 < k) || k != caps.headD 0) = true then .range
  else if caps.length < n then .state
  else .ok

/-! ### FORMAT -/

/-- The KIND word of a bank's intent record is written as zero (R78); SEAL_SEQ stays, so that none is used twice. -/
def Bank.erased (b : Bank) : Bank := { b with intent := some { b.intent.getD ⟨0, 0, 0, 0, 0, false, 0, 0⟩ with kind := 0 } }

/-- The image is discarded: both intent records are erased (R78), contexts take their reset values (Table 5.2), nothing
of the image is dirty or held. The extent rows stand (R186). -/
def State.discardImage (s : State) : State :=
  let s := s.modKeep (fun k => { k with bank0 := k.bank0.erased, bank1 := k.bank1.erased })
  let s := s.loadContexts []
  let s := s.modPersist (fun p => { Persist.reset with triggersHeld := p.triggersHeld })
  let s := ({ s with restore := Restore.reset }).countHeld
  s.each (List.range 8) (fun s c => (s.set Reg.govDirty c 0).set Reg.ckptPersisted c 0)

/-- FORMAT (R78): refused with LOCKED at debug level 2 (Table 17.10); while a seal is being written it finds the banks
engaged (log 27). -/
def State.formatCommand (s : State) : State × Abort :=
  if s.get Reg.debugState = 2 then (s, .locked)
  else if s.keep.job.isSome then (s, .busy)
  else (s.discardImage.setImage .setup, .ok)

/-! ### COMMIT -/

/-- IDENT with ASSIGN to carrier c on each link that is up: the new identity and the geometry (R325). -/
def State.assignIdent (s : State) (c : Nat) : State :=
  let body := layout [(4, 1), (2, 1), (1, 16), (1, c), (16, fromLe (s.blob Reg.imageId)), (1, s.carrierCount),
    (1, (s.car c).capacity), (2, 0), (4, s.segments)] ++ zeros 96
  let m : Msg := { op := 0x22, data := [body.take 64, body.drop 64] }
  s.each ([0, 1].filter (fun l => s.linkIsUp (2 * c + l))) (fun s l => s.sendCarrier c false l m)

/-- COMMIT (R16): with the geometry sound, a new IMAGE_ID is drawn (R442) and goes to every active carrier; the first
seal follows once all have accepted it, and then the answer. -/
def State.commitCommand (s : State) (who : Requester) : State × Abort :=
  match s.geometryCheck with
  | .ok =>
    let s := (s.setBlob Reg.imageId 0 (le 16 (Config.imageId s.draws))).drawn
    let s := s.each s.activeCarriers (fun s c => (s.modCar c (fun k => { k with assigned := false })).assignIdent c)
    (s.waitFor who Reg.imageCommand, .later)
  | a => (s, a)

/-! ### The commands -/

/-- RETRY (R82): the restart again from step 3, after the same cut (Table 4.4, FLAGS bit 3); the image is held in Restoring only in A0 (Table 1.5, log 28). -/
def State.retryCommand (s : State) : State × Abort :=
  if s.powerState = 0 ∧ s.power.trans.isNone = true then (s.restartBegin s.restore.warm s.now, .ok) else (s, .state)

/-- IMAGE_COMMAND v, legal in the present image state (Table 3.9). -/
def State.imageCommand (s : State) (who : Requester) : Nat → State × Abort
  | 1 => s.formatCommand
  | 2 => s.commitCommand who
  | 3 => s.retryCommand
  | 4 => (s.setImage .unformed, .ok)
  | _ => (s.semicolonCommand, .ok)

/-- The image states in which IMAGE_COMMAND v is legal, bit k for state k (Table 3.9). -/
def imageCommandStates : Nat → Nat
  | 1 => 65 | 2 => 2 | 3 => 64 | 4 => 2 | _ => 8

end Sys2Proof.Machine
end

