-- ==== Sys2Proof/Machine/Store.lean ====
section
/-!
DEFINITION. The stored set of the Lexicon (spec/18_lexicon.md R456 to R459): what its two copies hold, the STORE that
writes one, the load at step 2 of a restart, and FORMAT and RELOAD of the live values.
-/
namespace Sys2Proof.Machine

/-! ### Names and values of entries -/

/-- A value lies in the range column of its object. -/
def ObjRange.holds : ObjRange → Nat → Bool
  | .any, _ => true
  | .between lo hi, v => decide (lo ≤ v) && decide (v ≤ hi)
  | .zeroOr lo hi, v => v == 0 || (decide (lo ≤ v) && decide (v ≤ hi))
  | .oneOf l, v => l.contains v
  | .mult k bound, v => v % k == 0 && decide (v < bound)

/-- The packed index and the row by which a request names unit or row `i` of object o (R449). -/
def Obj.name (o : Obj) (i : Nat) : Nat × Nat :=
  if o.units = 0 then (o.reg, if o.rows = 0 then 0xFFFFFFFF else i)
  else if o.rows = 0 then (o.reg + 65536 * i, 0xFFFFFFFF)
  else (o.reg + 65536 * (i / 64), i % 64)

/-- The unit or row of object o that unit u and row r of a request name. -/
def Obj.place (o : Obj) (u row : Nat) : Nat :=
  if o.units = 0 then (if o.rows = 0 then 0 else row) else if o.rows = 0 then u else 64 * u + row

/-- Rows of RW objects that are CONST: MSIX_VECTORS of the PF, LINK_VCS of the carrier links, the owner and share of
lines that no table of rows opens (Table 12.14), and the steps that are not retried (Table 16.13). -/
def constPlace (r i : Nat) : Bool :=
  (r == Reg.stMsixVectors && i == 0) || (r == Reg.linkVcs && decide (i < 16)) ||
  (r == Reg.lineOwner && decide (i < 0xC0)) || (r == Reg.lineShare && (decide (i < 0x40) || decide (0x5A < i))) ||
  (r == Reg.stepTimeout && (decide (i < 2) || decide (7 < i)))

/-- A stored object (R456), but for the owner key, which is a byte string. -/
def Obj.isStored (o : Obj) : Bool := o.kept == .stored && o.reg != Reg.ownerKey

/-- The register file as written: values that wait for a boundary have their place in it. -/
def State.written (s : State) : Tbl Nat :=
  let t := s.clock.late.foldl (fun t x => Tbl.put t x.1 x.2) s.regs
  match s.mirror.witnessNext with
  | some v => Tbl.put t (Reg.key Reg.witnessNode 0) v
  | none => t

/-- The stored objects that differ from their default: register, unit or row, and value. -/
def storedOf : Tbl Nat → List (Obj × Nat × Nat)
  | [] => []
  | (k, v) :: t =>
    let r := k / 4294967296
    let i := k % 4294967296
    match Reg.obj r with
    | some o => if o.isStored && !(constPlace r i) && v != Reg.default r i then (o, i, v) :: storedOf t else storedOf t
    | none => storedOf t

/-- An entry placed by index, then by row (Table 18.5). -/
def insertEntry (e : Nat × Nat × List Byte) : List (Nat × Nat × List Byte) → List (Nat × Nat × List Byte)
  | [] => [e]
  | x :: l => if e.1 < x.1 ∨ (e.1 = x.1 ∧ e.2.1 ≤ x.2.1) then e :: x :: l else x :: insertEntry e l

/-- The entries of a stored set of the present values, with those that the security engine keeps (R436, R437, R434). -/
def State.setEntries (s : State) : List (Nat × Nat × List Byte) :=
  let plain : List (Nat × Nat × List Byte) := (storedOf s.written).map (fun x =>
    ((x.1.name x.2.1).1, (x.1.name x.2.1).2, le x.1.ty.size x.2.2))
  let key : List (Nat × Nat × List Byte) :=
    if s.keep.ownerKey.isEmpty then [] else [(Reg.ownerKey, 0xFFFFFFFF, s.keep.ownerKey)]
  let counter : List (Nat × Nat × List Byte) :=
    if s.keep.counter = 0 then [] else [(Reg.statementCounter, 0xFFFFFFFF, le 8 s.keep.counter)]
  let slot : List (Nat × Nat × List Byte) :=
    if s.keep.preferred = 0 then [] else [(Reg.fwPreferred, 0xFFFFFFFF, le 1 s.keep.preferred)]
  (plain ++ key ++ counter ++ slot).foldl (fun l e => insertEntry e l) []

/-- The bytes of an entry (Table 17.7), padded to a multiple of 8. -/
def entryBytes (e : Nat × Nat × List Byte) : List Byte :=
  layout [(4, e.1), (4, e.2.1), (4, e.2.2.length), (4, 0)] ++ e.2.2 ++ zeros ((8 - e.2.2.length % 8) % 8)

/-- DIGEST of a copy (Table 18.5): of its bytes 0 to 63 and its entries. -/
def StoredCopy.digest (c : StoredCopy) : Nat :=
  let body := c.entries.flatMap entryBytes
  Config.digest (layout [(4, 0x4C587208), (4, 1), (8, c.generation), (4, body.length), (4, c.entries.length)] ++
    zeros 40 ++ body)

/-! ### STORE -/

/-- The copy in use. -/
def State.copyInUse (s : State) : Option StoredCopy :=
  match s.get Reg.setCopy with
  | 0 => some s.keep.copyA
  | 1 => some s.keep.copyB
  | _ => none

/-- A store of the live values (R457): the copy not in use is written; `failed`: a word failed its read-back twice. -/
def State.storeSet (s : State) (rewrites : Nat) (failed : Bool) : State × Abort :=
  let s := (s.bump Reg.keepRewrites 0 rewrites).keepRead
  let failed := failed || s.keepLow
  let b := s.get Reg.setCopy == 0
  let gen := match s.copyInUse with
    | some c => c.generation + 1
    | none => max s.keep.copyA.generation s.keep.copyB.generation + 1
  if failed then
    let s := s.modKeep (fun k => if b then { k with copyB := { k.copyB with correct := false } }
      else { k with copyA := { k.copyA with correct := false } })
    (s.raise 0 0x0FB 0, .storeFail)
  else
    let c : StoredCopy := ⟨true, gen, s.setEntries⟩
    let s := s.modKeep (fun k => if b then { k with copyB := c } else { k with copyA := c })
    let s := (s.set Reg.setCopy 0 (b2n b)).set Reg.setGeneration 0 gen
    ((s.withdraw 0 0x0FA).withdraw 0 0x0FB, .ok)

/-- The store that follows a change of the security engine's own values (R456). It succeeds (log 29). -/
def State.storeOwn (s : State) : State := (s.storeSet 0 false).1

/-! ### A value takes effect -/

/-- The bits of a value that its object keeps: RSVD bits read as 0 (R11). -/
def keptBits (r v : Nat) : Nat :=
  if r = Reg.ioSlew then v % 16384
  else if r = Reg.wakeEnable ∨ r = Reg.wakePin then v % 4194304
  else if Reg.routeMember0 ≤ r ∧ r < Reg.routeMember0 + 8 then
    (v / 2147483648 % 2) * 2147483648 + (v / 65536 % 1024) * 65536 + v % 256
  else v

/-- The rates and bursts of the shapers (R234); RESYNC_RATE is one of service 5 of port 8 (R236). -/
def shaperObject (r : Nat) : Bool :=
  r == Reg.portRate || r == Reg.portBurst || r == Reg.svcRate || r == Reg.svcBurst || r == Reg.leafRate ||
  r == Reg.leafBurst || r == Reg.resyncRate

/-- The registers whose written value takes effect at the next clause boundary (R100, R234, R412, R486, R487). -/
def takesLate (r : Nat) : Bool :=
  r == Reg.pfailSources || r == Reg.pfailFilter || r == Reg.vsenseThreshold || r == Reg.vsenseFilter ||
  r == Reg.porFilter || r == Reg.perstFilter || r == Reg.ioSlew || r == Reg.restoreTouchLimit ||
  r == Reg.restoreProgressStep || shaperObject r

/-- A rate or burst is about to change: the tokens stay as the old values left them, a leaf's up to the present clause
(R234). -/
def State.keepTokens (s : State) (r i : Nat) : State :=
  if r = Reg.portRate ∨ r = Reg.portBurst then s.keepLevel (portBucket i) (s.get Reg.portBurst i)
  else if r = Reg.svcRate ∨ r = Reg.svcBurst then s.keepLevel (1000 + i) (s.get Reg.svcBurst i)
  else if r = Reg.leafRate ∨ r = Reg.leafBurst then s.refill (leafBucket i) (s.get Reg.leafRate i) (s.get Reg.leafBurst i)
  else s

/-- DURABLE of a CLOSED context is written: the record holds TAIL and HEAD by their distances from it (Tables 5.1 to 5.3),
which stay. -/
def State.writeDurable (s : State) (n v : Nat) : State :=
  let d := s.get Reg.ctxDurable n
  let m := 18446744073709551616
  ((s.set Reg.ctxTail n ((v + (s.get Reg.ctxTail n + m - d)) % m)).set Reg.ctxHead n
    ((v + (s.get Reg.ctxHead n + m - d)) % m)).set Reg.ctxDurable n v

/-- A field of an extent row is written; CONTEXT of a plain extent is RSVD, and so stays 0 (Table 8.2, R11). -/
def State.writeExtField (s : State) (r i v : Nat) : State :=
  if r = Reg.extContext ∧ s.get Reg.extKind i = 0 then s
  else if r = Reg.extKind ∧ v = 0 then (s.set r i v).set Reg.extContext i 0
  else s.set r i v

/-- SVC_WEIGHT written: as LEAF_WEIGHT, the old weight stays in force until the next clause boundary (R231). -/
def State.writeSvcWeight (s : State) (row w : Nat) : State :=
  let old := s.get Reg.svcWeight row
  if old = w then s
  else
    let s := s.set Reg.svcWeight row w
    let key := 100000 + row
    { s with sched := { s.sched with weightWait :=
        if (Tbl.find s.sched.weightWait key).isSome then s.sched.weightWait else Tbl.put s.sched.weightWait key old } }

/-- SAMPLE_ENABLE written: from 0 to 1 a period starts at the next boundary (R245). -/
def State.writeSampleEnable (s : State) (j v : Nat) : State :=
  let starts := s.get Reg.sampleEnable j == 0 && v == 1
  let s := s.set Reg.sampleEnable j v
  if starts then
    { s with sched := { s.sched with samplers := Tbl.put s.sched.samplers j { Sampler.reset with start := s.clauseNow + 1 } } }
  else s

/-- FIELD_ACCESS is written: at 0 the controller is in standby, and no longer in bus-off (R462, R470). -/
def State.writeFieldAccess (s : State) (v : Nat) : State :=
  let s := s.set Reg.fieldAccess 0 v
  if v = 0 then (s.set Reg.canState 0 3).withdrawUnit 0 0x0F9 1 else if s.get Reg.canState = 3 then s.set Reg.canState 0 0 else s

/-- A plain register is written, with what the write does at once. -/
def State.putLive (s : State) (r i v : Nat) : State :=
  let v := keptBits r v
  if r = Reg.linkEnable then s.linkEnable i (v == 1)
  else if r = Reg.leafWeight then s.writeLeafWeight i v
  else if r = Reg.svcWeight then s.writeSvcWeight i v
  else if r = Reg.sampleEnable then s.writeSampleEnable i v
  else if r = Reg.witnessNode then s.modMirror (fun m => { m with witnessNext := some v })
  else if takesLate r then (s.keepTokens r i).setLate r i v
  else if r = Reg.ctxDurable then s.writeDurable i v
  else if r = Reg.extContext ∨ r = Reg.extKind then s.writeExtField r i v
  else if r = Reg.fieldAccess then s.writeFieldAccess v
  else if r = Reg.govMargin ∨ r = Reg.govSaveTime then
    (s.set r i v).each s.activeCarriers (fun s c => s.govAsk c)
  else s.set r i v

/-- At the start of the firmware a loaded value stands from the first instant. -/
def State.putBoot (s : State) (r i v : Nat) : State :=
  let s := s.set r i (keptBits r v)
  if r = Reg.linkEnable ∧ v = 0 then s.setLinkState i .disabled
  else if r = Reg.fieldAccess then s.writeFieldAccess v else s

/-! ### The load (R458) -/

/-- The correct copy of the higher generation. -/
def State.bestCopy (s : State) : Option (Nat × StoredCopy) :=
  let a := s.keep.copyA
  let b := s.keep.copyB
  if a.correct && (!b.correct || decide (b.generation < a.generation)) then some (0, a)
  else if b.correct then some (1, b) else none

/-- The plain stored object that an entry names, its place and its value; none when it is skipped. Limits that other
objects set are not tested: the set was legal as a whole when it was stored (log 30). -/
def entryTarget (e : Nat × Nat × List Byte) : Option (Obj × Nat × Nat) :=
  match Reg.resolve e.1 with
  | some (o, u) =>
    let i := o.place u e.2.1
    let v := fromLe e.2.2
    if o.isStored && !(constPlace o.reg i) && ((o.rows == 0) == (e.2.1 == 0xFFFFFFFF)) &&
        (o.rows == 0 || decide (e.2.1 < o.rows)) && e.2.2.length == o.ty.size && o.range.holds v then some (o, i, v)
    else none
  | none => none

/-- An entry that the security engine keeps. -/
def ownEntry (e : Nat × Nat × List Byte) : Bool :=
  e.1 == Reg.ownerKey || e.1 == Reg.statementCounter || e.1 == Reg.fwPreferred

/-- The value of one of those entries in a copy. -/
def StoredCopy.own (c : StoredCopy) (r : Nat) : List Byte :=
  match c.entries.find? (fun e => e.1 == r) with
  | some e => e.2.2
  | none => []

/-- The 64 bytes of the owner's key digest. -/
def keyDigest (key : List Byte) : List Byte := le 64 (Config.digest key)

/-- The owner record at a load (R436): the key of the copy in use, else of the other correct copy, that matches the OTP
shadow. -/
def State.loadOwner (s : State) (c : StoredCopy) : State :=
  let other := if c = s.keep.copyA then s.keep.copyB else s.keep.copyA
  let fits (k : List Byte) : Bool := !k.isEmpty && keyDigest k == s.keep.ownerShadow
  if s.keep.ownerShadow.isEmpty then s.modKeep (fun k => { k with ownerKey := [] })
  else if fits (c.own Reg.ownerKey) then
    (s.modKeep (fun k => { k with ownerKey := c.own Reg.ownerKey })).set Reg.ownerState 0 1
  else if other.correct && fits (other.own Reg.ownerKey) then
    (s.modKeep (fun k => { k with ownerKey := other.own Reg.ownerKey })).set Reg.ownerState 0 1
  else (s.modKeep (fun k => { k with ownerKey := [] })).set Reg.ownerState 0 2

/-- The load at the start of the firmware (R458), into a register file at its defaults. -/
def State.loadSet (s : State) : State :=
  let s := s.keepRead
  match s.bestCopy with
  | none =>
    let s := s.modKeep (fun k => { k with counter := 0, preferred := 0 })
    (s.loadOwner ⟨false, 0, []⟩).raise 0 0x0FA 0
  | some (n, c) =>
    let s := (s.set Reg.setCopy 0 n).set Reg.setGeneration 0 c.generation
    let s := s.modKeep (fun k => { k with counter := fromLe (c.own Reg.statementCounter), preferred := fromLe (c.own Reg.fwPreferred) })
    let plain := c.entries.filter (fun e => !(ownEntry e))
    let s := s.set Reg.setSkipped 0 (plain.filter (fun e => (entryTarget e).isNone)).length
    let s := s.each (plain.filterMap entryTarget) (fun s x => s.putBoot x.1.reg x.2.1 x.2.2)
    s.loadOwner c

/-! ### FORMAT and RELOAD (R459) -/

/-- The guarded stored objects of R439, and CONFIG_LOCK, whose clearing is guarded. -/
def guardedStored (r : Nat) : Bool :=
  r == Reg.activeCarriers || r == Reg.imageSegments || r == Reg.govMargin || r == Reg.govSaveTime ||
  r == Reg.witnessNode || r == Reg.configLock || (stagedFields.map (·.1)).contains r

/-- Every stored object takes its value of a list, or its default; while CONFIG_LOCK is 1 guarded objects stand. -/
def State.applySet (s : State) (l : List (Obj × Nat × Nat)) : State :=
  let locked := s.get Reg.configLock == 1
  let live : List (Obj × Nat × Nat) := (storedOf s.written).map (fun x => (x.1, x.2.1, Reg.default x.1.reg x.2.1))
  let gone := live.filter (fun x => !(l.any (fun y => y.1.reg == x.1.reg && y.2.1 == x.2.1)))
  s.each ((gone ++ l).filter (fun x => !(locked && guardedStored x.1.reg))) (fun s x =>
    if s.written.getD (Reg.key x.1.reg x.2.1) (Reg.default x.1.reg x.2.1) = x.2.2 then s
    else s.putLive x.1.reg x.2.1 x.2.2)

/-- LEX_COMMAND FORMAT: every stored object takes its default. -/
def State.formatSet (s : State) : State := s.applySet []

/-- LEX_COMMAND RELOAD: the load of R458 from the copy in use. -/
def State.reloadSet (s : State) : State :=
  let s := s.keepRead
  match s.copyInUse with
  | none => s.applySet []
  | some c =>
    let plain := c.entries.filter (fun e => !(ownEntry e))
    let s := s.set Reg.setSkipped 0 (plain.filter (fun e => (entryTarget e).isNone)).length
    s.applySet (plain.filterMap entryTarget)

end Sys2Proof.Machine
end

