-- ==== Sys2Proof/Machine/Por.lean ====
section
/-!
DEFINITION. The release of POR_N and the boot (spec/02_clause_tick.md R36, spec/17_security.md R430 to R432), the cold
start that follows (spec/04_restore.md R78, R79) and the warm restart (spec/16_power_ageing.md R414).
-/
namespace Sys2Proof.Machine

/-! ### The slots tested (R430) -/

/-- The slots tested at boot, in order (Table 17.3). -/
def bootOrder (bootSel preferred : Nat) : List Nat :=
  match bootSel with
  | 0 => [preferred, 1 - preferred]
  | 1 => [0]
  | 2 => [1]
  | _ => []

/-! ### Reset of everything that POR_N resets -/

/-- The state that a release of POR_N starts from: the Keep store, the fuses and the model's own fields stand; a bank
write in progress is torn (R69). -/
def State.fresh (s : State) (powered : Bool) : State :=
  { State.reset with
    pending := s.pending
    regs := []
    blobs := []
    clock := { Clock.reset with powered := powered }
    events := Events.reset
    keep := { s.keep with job := none, waiting := [], extNext := [] }
    draws := s.draws
    outbox := s.outbox }

/-- A register set where it differs. -/
def State.put (s : State) (r i v : Nat) : State := if s.get r i = v then s else s.set r i v

/-- The staged assignment of every instance is effective once the stored set is loaded (R209). A leaf takes the WEIGHT of
its instance unless the stored set gives it a LEAF_WEIGHT (log 31). -/
def State.adoptAll (s : State) : State :=
  let rows := (stagedFields.flatMap (fun x => s.rowsOf x.1)).foldl (fun l i => if l.contains i then l else i :: l) []
  s.each rows (fun s i =>
    let s := s.each stagedFields (fun s x => s.put x.2 i (s.get x.1 i))
    let w := s.get Reg.effWeight i
    s.each (List.range 80) (fun s x =>
      let row := x * 256 + i
      if (Tbl.find s.regs (Reg.key Reg.leafWeight row)).isSome then s else s.put Reg.leafWeight row w))

/-- The firmware of a slot runs (R431, step 2 of Table 4.1), `bad` slots before it having failed their test. -/
def State.firmwareStarts (s : State) (slot bad : Nat) (warm : Bool) : State :=
  let s := (s.put Reg.fwActiveSlot 0 slot).put Reg.verifyFailures 0 bad
  let s := s.loadSet.adoptAll.loadBars
  let s := s.modHost (fun h => { h with subVendor := s.get Reg.hostSubsysVendor, subId := s.get Reg.hostSubsysId })
  let s := if bad = 0 then s else s.raise 0 0x0F0 0
  if s.keep.sealedAtPower then (s.set Reg.imageState 0 5).restartBegin warm 0 else s

/-- The field settings that recovery serves the field port with (R471): no rule names their source, and they are those of
the stored set (log 39). -/
def State.recoveryField (s : State) : State :=
  match s.bestCopy with
  | some (_, c) => s.each c.entries (fun s e =>
      if e.1 = Reg.fieldNodeId ∨ e.1 = Reg.fieldAccess ∨ e.1 = Reg.canDataRate ∨ e.1 = Reg.canBrs then
        match entryTarget e with
        | some (o, i, v) => s.putBoot o.reg i v
        | none => s
      else s)
  | none => s

/-- The boot of the ROM: the first good slot runs, or recovery (R430, R432). -/
def State.boot (s : State) (bootSel : Nat) (warm : Bool) : State :=
  let s := { s with security := { s.security with bootSel := bootSel } }
  let order := bootOrder bootSel s.keep.preferred
  let bad := (order.takeWhile (fun k => !((s.fwSlot k).good s.keep.fuses))).length
  match order[bad]? with
  | some slot => s.firmwareStarts slot bad warm
  | none => ({ s with security := { s.security with recovery := true, namedSlot := 1 } }).recoveryField

/-- The release of POR_N as a cold reset (R36, R178). -/
def State.coldStart (s : State) (bootSel : Nat) (perstLow : Bool) : State :=
  let s := s.fresh true
  ({ s with host := { s.host with perstLow := perstLow } }).boot bootSel false

/-- The registers of the always-on domain that a warm restart leaves (R414, spec/19_electrical_package.md Table 19.5):
timebase monitor, wake watcher, CAN FD controller and power-fail conditioning. -/
def alwaysOn : List Nat :=
  [Reg.wakeStatus, Reg.wakeCount, Reg.timebaseStatus, Reg.refclkStatus, Reg.canState, Reg.canBusOffs, Reg.pfailGlitches]

/-- A warm restart (R414). Cycle and clause counts of the always-on domain begin again with CLAUSE_COUNT. -/
def State.warmStart (s : State) (bootSel : Nat) : State :=
  let t := s.fresh true
  let t := { t with
    regs := s.regs.filter (fun x => alwaysOn.contains (x.1 / 4294967296))
    clock := { t.clock with steadySince := s.clock.steadySince.map (fun _ => 0) }
    host := { t.host with perstLow := s.host.perstLow }
    events := { t.events with gpio := s.events.gpio, peWake := s.events.peWake }
    power := { t.power with
      pfailHigh := s.power.pfailHigh
      lowSince := s.power.lowSince.map (fun _ => 0)
      vsenseOk := true } }
  let t := t.boot bootSel true
  if t.get Reg.canState = 3 ∧ t.get Reg.fieldAccess ≠ 0 then t.set Reg.canState 0 0 else t

/-- The conditions of a warm restart (R414): the cut has fallen and the device is quiet, the indication has stayed clear
for PFAIL_RETURN_TIME, and TJ_MAX is below TJ_ALERT. -/
def State.mayWarm (s : State) : Bool :=
  let p := s.power
  p.detected && p.cutDone && s.keep.job.isNone && (!s.stop.active || s.stop.stateAtCut == 4 || s.stop.quiet) && !s.pfailLow &&
  p.clearSince.any (fun t => s.due (t + msCycles (s.get Reg.pfailReturnTime))) &&
  decide (signed32 (s.get Reg.tjMax) < 65536 * (s.get Reg.tjAlert : Int))

/-! ### Commands -/

/-- POWER_ON_RESET (R36): the release of POR_N, which a low level went before (log 33). -/
def execPowerOnReset (bootSel : Fin 4) (perstHigh : Bool) (s : State) : Host.Outcome State Fault Refusal :=
  done s (s.coldStart bootSel.val (!perstHigh))

/-- POR_N_ASSERT (R482): the device is reset; the Full Stop stops, and a seal not yet written is torn (spec/19_electrical_package.md R496). -/
def execPorNAssert (s : State) : Host.Outcome State Fault Refusal := actRom s (fun s => s.fresh false)

/-- WARM_RESTART (R414). -/
def execWarmRestart (bootSel : Fin 4) (s : State) : Host.Outcome State Fault Refusal :=
  act s (fun s => if s.mayWarm then s.warmStart bootSel.val else s)

end Sys2Proof.Machine
end

