-- ==== Sys2Proof/Machine/Security.lean ====
section
/-!
DEFINITION. The security engine (spec/17_security.md): installing and confirming firmware (R433 to R438), the owner's key
and statements (R435 to R437), attestation (R443), the debug lock (R444) and TEST_MODE (R445).
-/
namespace Sys2Proof.Machine

/-- The security engine's own state changed by `f`. -/
def State.modSecurity (s : State) (f : Security → Security) : State := { s with security := f s.security }

/-- DEVICE_SERIAL (R428). -/
def serialNow : Nat := Config.serial % 18446744073709551616

/-- The public key that a CERT statement carries (R427): its body begins at 96 with ROLE and 6 bytes RSVD. -/
def certKey (cert : List Byte) : List Byte := slice cert 103 1793

/-- The manufacturing key and the identity key, as their certificates carry them (Table 17.1). -/
def mfgKey : List Byte := certKey (le 3176 Config.mfgCert)
def identityKey : List Byte := certKey (le 3176 Config.identityCert)

/-! ### Parsing what arrives as bytes (Table 17.2, R429) -/

/-- The signature of a statement at the start of `b` verifies under a key. -/
def signedBy (key b : List Byte) : Bool :=
  let n := 96 + field b 8 4
  Config.verifies key (b.take n) ((b.drop n).take 1280)

/-- A statement in bytes, as the owner's key of this device reads it. -/
def State.statementOf (s : State) (b : List Byte) : Statement :=
  let n := field b 8 4
  let signer := slice b 32 64
  let owner := !s.keep.ownerKey.isEmpty && signer == keyDigest s.keep.ownerKey
  let mfg := signer == keyDigest mfgKey
  { kind := field b 4 2
    formOk := field b 0 4 == 0x53547208 && field b 6 2 == 1 && decide (n ≤ 65536) && b.length == 96 + n + 1280
    serialOk := field b 16 8 == serialNow
    counter := field b 24 8
    signer := if owner then .owner s.keep.ownerKey else if mfg then .manufacturing else .other
    body := slice b 96 n
    sigOk := signedBy (if owner then s.keep.ownerKey else mfgKey) b }

/-- A firmware package in bytes: its CERT at 0, its FW_HEADER at 3,176 and its code at 8 KiB. -/
def packageOf (b : List Byte) : FwPackage :=
  let cert := slice b 0 3176
  let header := (b.drop 3176).take 1456
  let body := slice header 96 80
  let n := field body 8 4
  let serial := field header 16 8
  { certOk := field cert 0 4 == 0x53547208 && field cert 4 2 == 1 && field cert 6 2 == 1 && field cert 8 4 == 1800 &&
      field cert 16 8 == 0 && slice cert 32 64 == keyDigest (le 1793 Config.rootKey) && field cert 96 1 == 1 &&
      signedBy (le 1793 Config.rootKey) cert
    headerOk := field header 0 4 == 0x53547208 && field header 4 2 == 2 && field header 6 2 == 1 && field header 8 4 == 80 &&
      (serial == 0 || serial == serialNow) && slice header 32 64 == keyDigest (certKey cert) && signedBy (certKey cert) header
    digestOk := decide (n ≤ 6283264) && slice body 16 64 == keyDigest (slice b 8192 n)
    version := field body 0 4
    step := field body 4 1
    codeDigest := field body 16 64 }

/-! ### Firmware (R433, R434, R438) -/

/-- The slot that the firmware commands and FW_PACKAGE call the other one: in recovery no slot runs, and it is the one that
FW_PREFERRED does not name (log 36). -/
def State.otherSlot (s : State) : Nat :=
  if s.security.recovery then 1 - s.keep.preferred else 1 - s.get Reg.fwActiveSlot

/-- A slot replaced. -/
def State.putSlot (s : State) (k : Nat) (f : FwSlot) : State :=
  s.modKeep (fun x => if k = 0 then { x with slot0 := f } else { x with slot1 := f })

/-- The slot that a write of FW_PACKAGE goes to (R433). -/
def State.packageSlot (s : State) : Nat := if s.security.recovery then s.security.namedSlot else s.otherSlot

/-- The first bytes of a package have been written: the slot is not good until it is whole (Table 17.11). -/
def State.packageBegins (s : State) : State := s.putSlot s.packageSlot ⟨2, 0, 0, 0, false⟩

/-- A package is whole: its slot is checked under R429. -/
def State.packageEnds (s : State) (p : FwPackage) : State × Abort :=
  let sound := p.certOk && p.headerOk && p.digestOk
  let f : FwSlot := ⟨1, p.version, p.step, p.codeDigest, sound⟩
  if f.good s.keep.fuses then (s.putSlot s.packageSlot f, .ok)
  else (s.putSlot s.packageSlot { f with status := 2, certOk := false }, .signature)

/-- In recovery no stored set is live: FW_PREFERRED is changed in the set as it stands (R432, R434). -/
def State.storePreferred (s : State) (slot : Nat) : State :=
  let entries := match s.bestCopy with | some (_, c) => c.entries.filter (fun e => e.1 != Reg.fwPreferred) | none => []
  let entries := if slot = 0 then entries else insertEntry (Reg.fwPreferred, 0xFFFFFFFF, le 1 slot) entries
  let gen := max s.keep.copyA.generation s.keep.copyB.generation + 1
  let c : StoredCopy := ⟨true, gen, entries⟩
  match s.bestCopy with
  | some (0, _) => s.modKeep (fun k => { k with copyB := c })
  | _ => s.modKeep (fun k => { k with copyA := c })

/-- ACTIVATE: FW_PREFERRED names the other slot, which must read STATUS 1. -/
def State.activateSlot (s : State) : State × Abort :=
  let k := s.otherSlot
  if (s.fwSlot k).good s.keep.fuses then
    let s := s.modKeep (fun x => { x with preferred := k })
    if s.security.recovery then ((s.storePreferred k).modSecurity (fun x => { x with namedSlot := k }), .ok)
    else (s.storeOwn, .ok)
  else (s, .state)

/-- CONFIRM (R438): fuses are blown one at a time up to the running ROLLBACK_STEP; fuse `failsAt` does not read back
blown after three attempts. -/
def State.confirmStep (s : State) (failsAt : Option Nat) : State × Abort :=
  if s.security.recovery ∨ s.get Reg.fwActiveSlot ≠ s.keep.preferred then (s, .state)
  else
    let n := s.keep.fuses
    let step := min 64 (s.fwSlot (s.get Reg.fwActiveSlot)).step
    let stop := match failsAt with | some k => if n ≤ k ∧ k < step then k else step | none => step
    let s := s.each ((List.range stop).filter (fun k => decide (n ≤ k))) (fun s k => s.emit (.fuse k))
    let s := s.modKeep (fun x => { x with fuses := max n stop })
    if stop < step then (s.raise 0 0x0F5 0, .storeFail) else (s, .ok)

/-- INVALIDATE: the header word of the other slot is erased. -/
def State.invalidateSlot (s : State) : State × Abort :=
  let k := s.otherSlot
  let s := s.putSlot k ⟨0, 0, 0, 0, false⟩
  (if s.security.recovery then s.modSecurity (fun x => { x with namedSlot := k }) else s, .ok)

/-- FW_COMMAND v (Table 17.5). RESTART is legal only in recovery; the restart itself follows its answer. -/
def State.fwCommand (s : State) (failsAt : Option Nat) : Nat → State × Abort
  | 1 => s.activateSlot
  | 2 => s.confirmStep failsAt
  | 3 => s.invalidateSlot
  | _ => (s, if s.security.recovery then .ok else .state)

/-! ### The owner (R435 to R437) -/

/-- The owner's key and its shadow. -/
def State.takeOwner (s : State) (key : List Byte) : State :=
  let s := s.modKeep (fun k => { k with ownerKey := key, ownerShadow := keyDigest key })
  s.set Reg.ownerState 0 1

/-- No owner: OWNER_STATE and CONFIG_LOCK are 0. -/
def State.dropOwner (s : State) : State :=
  let s := s.modKeep (fun k => { k with ownerKey := [], ownerShadow := [] })
  (s.set Reg.ownerState 0 0).set Reg.configLock 0 0

/-- OWNER_KEY enrols an owner (R435). -/
def State.enrol (s : State) (key : List Byte) : State := (s.takeOwner key).storeOwn

/-- A statement is refused with SIGNATURE (R437). -/
def State.statementFails (s : State) : State × Abort := ((s.bump Reg.verifyFailures).raise 0 0x0F2 0, .signature)

/-- The signer is the owner whose key this device holds. -/
def State.byOwner (s : State) (k : SignerKey) : Bool :=
  match k with
  | .owner key => s.get Reg.ownerState == 1 && key == s.keep.ownerKey
  | _ => false

/-- LEVEL of a DEBUG_UNLOCK body. -/
def statementLevel (st : Statement) : Nat := field st.body 32 1

/-- The key that the KIND requires has signed (Table 17.6). In a mismatch only a manufacturing release counts (R436). -/
def State.rightSigner (s : State) (st : Statement) : Bool :=
  let mfg := st.signer == .manufacturing
  match st.kind with
  | 3 => s.byOwner st.signer
  | 4 => s.byOwner st.signer || mfg
  | 5 => s.byOwner st.signer
  | 6 => if statementLevel st = 1 then s.byOwner st.signer else if statementLevel st = 2 then mfg && s.get Reg.ownerState != 2 else false
  | _ => false

/-- A statement is valid (R427), and, for KIND 3 to 5, new (R437); a DEBUG_UNLOCK carries the last challenge (R444). -/
def State.statementValid (s : State) (st : Statement) : Bool :=
  st.formOk && st.serialOk && st.sigOk && s.rightSigner st &&
  (if st.kind = 6 then s.security.challenge == some (field st.body 0 32) else decide (s.keep.counter < st.counter))

/-- The image states in which a statement is legal (Table 17.6), bit k for state k. -/
def statementStates (st : Statement) : Nat :=
  match st.kind with
  | 3 => 95
  | 4 => if st.signer = .manufacturing then 67 else 95
  | 6 => if statementLevel st = 2 then 1 else 95
  | _ => 127

/-- The BODY lengths of Table 17.6. -/
def statementFits (st : Statement) : Bool :=
  match st.kind with
  | 3 => st.body.length == 1793
  | 4 => st.body.isEmpty
  | 6 => st.body.length == 40
  | _ => true

/-- A manufacturing release discards the image as FORMAT does, and IMAGE_ID is zero (R435); from Fault the image is in
Setup (log 34). -/
def State.mfgRelease (s : State) : State :=
  let t := (s.discardImage.setBlob Reg.imageId 0 (zeros 16))
  if s.image = .fault then t.setImage .setup else t

/-- A valid statement takes its effect (Table 17.6); a SIGNED_CONFIG begins, and its entries follow. At debug level 2 the
identity key is disabled, and a report in progress ends with it (log 104). -/
def State.statementApplies (s : State) (p : Path) (who : Requester) (st : Statement) : State × Abort :=
  match st.kind with
  | 3 => ((s.takeOwner st.body).storeOwn, .ok)
  | 4 => ((if st.signer = .manufacturing then s.mfgRelease.dropOwner else s.dropOwner).storeOwn, .ok)
  | 5 => (s.storeOwn.modLexicon (fun l => { l with config := some (p, who, st.body, 0) }), .later)
  | _ =>
    let s := if statementLevel st = 2 then s.modSecurity (fun x => { x with attest := none }) else s
    ((s.set Reg.debugState 0 (statementLevel st)).raise 0 0x0F3 0, .ok)

/-- A statement written to OWNER_STATEMENT (R435 to R437, R444). -/
def State.statement (s : State) (p : Path) (who : Requester) (st : Statement) : State × Abort :=
  if !(bit (statementStates st) s.image.code) then (s, .state)
  else if st.kind = 4 ∧ st.signer = .manufacturing ∧ s.keep.job.isSome = true then (s, .busy)
  else if !(s.statementValid st) then s.statementFails
  else
    let s := if st.kind = 6 then s else s.modKeep (fun k => { k with counter := st.counter })
    if statementFits st then s.statementApplies p who st else (if st.kind = 6 then s else s.storeOwn, .range)

/-! ### Attestation (R443) -/

/-- The bytes of an attestation statement that its signature covers (Tables 17.2, 17.9). -/
def State.attestation (s : State) (inst : Nat) (nonce : List Byte) : List Byte :=
  let slot := s.fwSlot (s.get Reg.fwActiveSlot)
  let owner := if s.get Reg.ownerState = 1 then keyDigest s.keep.ownerKey else zeros 64
  let config := match s.copyInUse with | some c => c.digest | none => 0
  layout [(4, 0x53547208), (2, 7), (2, 1), (4, 280), (4, 0), (8, serialNow), (8, s.get Reg.attestCount)] ++
  keyDigest identityKey ++ nonce ++
  layout [(1, inst), (1, s.get Reg.imageState), (1, s.powerState), (1, s.get Reg.debugState), (1, s.get Reg.ownerState),
    (1, s.keep.fuses), (1, s.get Reg.fwActiveSlot), (1, s.get Reg.configLock), (4, slot.version), (4, 0),
    (64, slot.digest)] ++ owner ++
  layout [(16, fromLe (s.blob Reg.imageId)), (8, s.get Reg.sealSequence), (4, s.get Reg.epoch), (4, 0), (8, s.clauseNow),
    (64, config)]

/-- The signature of a waiting report begins: no seal is being written (R425). The statement is put together now. -/
def State.attestBegins (s : State) : State :=
  match s.security.attest with
  | some ⟨p, nonce, none⟩ =>
    if s.keep.job.isSome then s
    else
      let inst := match p with | .hostVf i => i.val | _ => 0
      s.modSecurity (fun x => { x with attest := some ⟨p, nonce, some (s.attestation inst nonce)⟩ })
  | _ => s

/-- ATTEST_NONCE is written: a report starts, unless one is in progress, or the debug level disables the identity key
(Table 17.10). With a bank write in progress its signature waits for the seal (log 104). -/
def State.attestStart (s : State) (p : Path) (nonce : List Byte) : State × Abort :=
  if s.get Reg.debugState = 2 then (s, .locked)
  else if s.security.attest.isSome then (s, .busy)
  else
    let s := s.bump Reg.attestCount
    ((s.modSecurity (fun x => { x with attest := some ⟨p, nonce, none⟩ })).attestBegins, .ok)

/-- The signature of the report ends. -/
def State.attestEnds (s : State) : State :=
  match s.security.attest with
  | some ⟨p, _, some b⟩ =>
    let s := s.setBlob Reg.attestReport 0 (b ++ le 1280 (Config.signature b))
    let vf := match p with | .hostVf i => some i.val | _ => none
    (s.bump Reg.signatures).modSecurity (fun x => { x with attest := none, reportFor := vf })
  | _ => s

/-- A report is being signed (R425). -/
def State.attestSigns (s : State) : Bool := s.security.attest.any (fun a => a.body.isSome)

/-- A bank write is complete but for its seal record: the seal waits for the report that is being signed (R425, Table
17.11), and none is written while VDD_KEEP is low (R483). -/
def State.sealReady (s : State) (corrected rewrites : Nat) (failed : Bool) : State :=
  if s.keep.job.isNone || s.keepLow then s
  else if s.attestSigns then s.modSecurity (fun x => { x with sealWaits := some (corrected, rewrites, failed) })
  else (s.sealEnds corrected rewrites failed).attestBegins

/-- A report has been signed: the seal that waited for it follows, and a further report. -/
def State.signed (s : State) : State :=
  let s := s.attestEnds
  match s.security.sealWaits with
  | some (c, r, f) =>
    if s.attestSigns then s else (s.modSecurity (fun x => { x with sealWaits := none })).sealReady c r f
  | none => s

/-! ### The debug lock (R444, R445) -/

/-- DEBUG_CHALLENGE is read: a new value is drawn, and voids the one before. -/
def State.drawChallenge (s : State) : State × List Byte :=
  let v := le 32 (Config.challenge s.draws)
  (s.drawn.modSecurity (fun x => { x with challenge := some (fromLe v) }), v)

/-- DEBUG_STATE is written with 0: debug is locked. -/
def State.debugLocks (s : State) : State := (s.set Reg.debugState 0 0).withdraw 0 0x0F3

/-! ### Commands -/

/-- TEST_MODE_INPUT (R445): high outside debug level 2 is ignored, and raised once per power-up. -/
def execTestModeInput (high : Bool) (s : State) : Host.Outcome State Fault Refusal :=
  act s (fun s =>
    if high ∧ s.get Reg.debugState ≠ 2 ∧ s.security.testSeen = false then
      (s.raise 0 0x0F4 0).modSecurity (fun x => { x with testSeen := true })
    else s)

end Sys2Proof.Machine
end

