-- ==== Sys2Proof/Machine/Checks.lean ====
section
/-!
DEFINITION. The checks of a Lexicon request in the order of R453 (spec/18_lexicon.md): the entry and its row, the paths
that reach it (R452, R470), its access kind, its guard (R439), its length, its range and the states in which it is legal,
as the object tables of every chapter give them, and what makes it busy (R454).
-/
namespace Sys2Proof.Machine

/-! ### Entries and rows (R449) -/

/-- What a packed index names: nothing, an object without that subindex, the row count of a table, or an entry of a
unit. -/
inductive Found
  | noEntry
  | noSubindex
  | rows (n : Nat)
  | entry (o : Obj) (u : Nat)
deriving DecidableEq, Repr

/-- The entry of a packed index. Subindex 00 of a table reads its rows from row 0 on (R449); CLAUSE_ITEM_CYCLES, which has
rows 1 to 13, reads 14 there (DESIGN CHOICE, log 99). -/
def Reg.lookup (index : Nat) : Found :=
  match Reg.resolve index with
  | some (o, u) => .entry o u
  | none =>
    let object := index / 256
    let u := (object % 65536 - 0x1000) / 256
    match (Reg.group (index / 16777216)).find? (fun o =>
        o.reg / 256 == object || (decide (u < o.units) && o.reg / 256 + 256 * u == object)) with
    | none => .noEntry
    | some o => if index % 256 = 0 ∧ o.rows ≠ 0 then .rows o.rows else .noSubindex

/-- Rows that a table does not have: steps 0 and 1 (Table 16.13) and item 0 (Table 2.3). -/
def absentRow (r row : Nat) : Bool :=
  (r == Reg.stepTimeout && decide (row < 2)) || ((r == Reg.itemCyclesMax || r == Reg.itemDeferrals) && row == 0)

/-- The row of a request fits its object: none for a plain object, one that exists for a table. -/
def Obj.rowOk (o : Obj) (row : Nat) : Bool :=
  if o.rows = 0 then row == 0xFFFFFFFF else decide (row < o.rows) && !(absentRow o.reg row)

/-- The objects that recovery serves (R432). -/
def inRecoverySet (r : Nat) : Bool :=
  r == Reg.deviceSerial || r == Reg.identityCert || r == Reg.mfgCert || r == Reg.rollbackCount || r == Reg.fwStatus ||
  r == Reg.fwSlotVersion || r == Reg.fwSlotStep || r == Reg.fwPackage || r == Reg.fwCommand

/-! ### Paths (R452, R470) -/

/-- What the chapters grant a VF: place i of object o (R126, R185, R223, R275, R302, R448, R474, Tables 7.12, 8.11 and 10.8). -/
def State.vfReaches (s : State) (v : Nat) (o : Obj) (i : Nat) (write : Bool) : Bool :=
  let c := o.reg / 256 % 65536
  match o.reg / 16777216 with
  | 0 => !write && c == 0x400 && i == v
  | 1 => !write && ((c == 0x400 && i / 64 == v) || (c == 0x500 && i == v))
  | 2 => !write && c == 0x400 && i == v
  | 3 => !write && ((c == 0x400 && i % 256 == v) || (c == 0x500 && i / 2 == v))
  | 4 =>
    (c == 0x400 && s.queueOwner i == some v) || (c == 0x600 && i / 2 == v) ||
    (!write && ((c == 0x500 && i == v) || (c == 0x800 && i / 1024 == v)))
  | 5 => (decide (0x1000 ≤ c) && s.chanOwner i == some v) || (!write && c == 0x400)
  | 6 => (c == 0x400 && s.ctxOwner i == some v) || (c == 0x500 && i == v)
  | 14 =>
    if write then o.reg == Reg.attestNonce
    else o.reg == Reg.identityCert || o.reg == Reg.mfgCert || o.reg == Reg.deviceSerial ||
      (o.reg == Reg.attestReport && s.security.reportFor == some v && s.security.attest.isNone) ||
      (o.reg == Reg.attestReport && s.security.attest.any (fun a => a.path == .hostVf (Fin.ofNat 256 v)))
  | 15 => !write && c == 0x400 && i == v
  | _ => false

/-- The paths that an object's Meaning column limits its writes to (R452). -/
def writePath (r : Nat) (p : Path) : Bool :=
  if r = Reg.fieldAccess then (match p with | .hostPf => true | _ => false)
  else if r = Reg.holdPf ∨ r = Reg.lineShare ∨ r = Reg.powerRequest ∨ r = Reg.ownerKey then
    (match p with | .hostPf => true | .field _ => true | _ => false)
  else if r = Reg.attestNonce then (match p with | .firmware => false | _ => true)
  else true

/-- A path reaches place i of object o; at a debug level reads know no limit of path (Table 17.10). -/
def State.reaches (s : State) (p : Path) (o : Obj) (i : Nat) (write : Bool) : Bool :=
  (!write && decide (1 ≤ s.get Reg.debugState)) ||
  ((!write || writePath o.reg p) &&
   (match p with
    | .hostPf => true
    | .hostVf v => s.vfReaches v.val o i write
    | .field _ => !write || s.get Reg.fieldAccess == 2
    | .firmware => true))

/-! ### The guard (R439) -/

/-- A write of value v is guarded. -/
def guarded (r v : Nat) : Bool :=
  r == Reg.imageCommand || r == Reg.activeCarriers || r == Reg.imageSegments || r == Reg.govMargin ||
  r == Reg.govSaveTime || r == Reg.pairId || r == Reg.pairSide || r == Reg.leasePolicy || r == Reg.witnessNode ||
  r == Reg.mirrorCommand || (r / 256 == Reg.rangeBaseSeg / 256) || (r / 256 == Reg.extWinBase / 256) ||
  (stagedFields.map (·.1)).contains r || r == Reg.instCommand || (r == Reg.fwCommand && v == 1) ||
  (r == Reg.configLock && v == 0)

/-! ### Lengths (R450) -/

/-- A value of n bytes has the length of its type. -/
def Obj.lengthOk (o : Obj) (n : Nat) : Bool :=
  match o.ty with
  | .blob m => if o.reg = Reg.ownerStatement ∨ o.reg = Reg.fwPackage then decide (0 < n) && decide (n ≤ m) else n == m
  | t => n == t.size

/-- The most bytes that a value of the object may have. -/
def Obj.limit (o : Obj) : Nat := match o.ty with | .blob m => m | t => t.size

/-! ### Ranges -/

/-- Two ranges of a pool meet. -/
def meet (a n b m : Nat) : Bool := decide (0 < n) && decide (0 < m) && decide (a < b + m) && decide (b < a + n)

/-- A staged range (first, count) of instance i meets a staged or effective range of another instance (R210). -/
def State.meetsOthers (s : State) (i a n st stCount eff effCount : Nat) : Bool :=
  ((s.holders stCount).filter (· ≠ i)).any (fun k => meet a n (s.get st k) (s.get stCount k)) ||
  ((s.holders effCount).filter (· ≠ i)).any (fun k => meet a n (s.get eff k) (s.get effCount k))

/-- The checks of R210 on a staged pair of a pool of `pool` places, at most `most` for the instance. -/
def State.pairOk (s : State) (i a n pool most st stCount eff effCount : Nat) : Bool :=
  decide (n ≤ most) && decide (a + n ≤ pool) && !(s.meetsOthers i a n st stCount eff effCount)

/-- A write of a staged field is in range (R210, Table 9.1). -/
def State.stagedOk (s : State) (r i v : Nat) : Bool :=
  if r = Reg.stQueueFirst ∨ r = Reg.stQueueCount then
    let a := if r = Reg.stQueueFirst then v else s.get Reg.stQueueFirst i
    let n := if r = Reg.stQueueCount then v else s.get Reg.stQueueCount i
    s.pairOk i a n 4096 64 Reg.stQueueFirst Reg.stQueueCount Reg.effQueueFirst Reg.effQueueCount
  else if r = Reg.stDmaFirst ∨ r = Reg.stDmaCount then
    let a := if r = Reg.stDmaFirst then v else s.get Reg.stDmaFirst i
    let n := if r = Reg.stDmaCount then v else s.get Reg.stDmaCount i
    s.pairOk i a n 64 (if i = 0 then 64 else 8) Reg.stDmaFirst Reg.stDmaCount Reg.effDmaFirst Reg.effDmaCount
  else if r = Reg.stCtxFirst ∨ r = Reg.stCtxCount then
    let a := if r = Reg.stCtxFirst then v else s.get Reg.stCtxFirst i
    let n := if r = Reg.stCtxCount then v else s.get Reg.stCtxCount i
    let most := 2 ^ (s.get (if i = 0 then Reg.pfBar4Size else Reg.vfBar4Size)) / 8
    s.pairOk i a n 262144 most Reg.stCtxFirst Reg.stCtxCount Reg.effCtxFirst Reg.effCtxCount
  else if r = Reg.stMsixVectors then
    decide ((((s.holders r).filter (fun k => k != 0 && k != i)).foldl (fun t k => t + s.get r k) 0) + v ≤ 8192)
  else true

/-- The mirror ranges with base and length of row r as a write leaves them. -/
def State.rangesAs (s : State) (r base n : Nat) : List (Nat × Nat) :=
  mirrorRows.map (fun k => if k = r then (base, n) else (s.rowBase k, s.rowLen k))

/-- A write of a range row would leave a valid extent partly inside a range (R192). -/
def State.cutsExtent (s : State) (ranges : List (Nat × Nat)) : Bool :=
  ((s.rowsOf Reg.extValid).filter (fun k => s.get Reg.extValid k == 1)).any (fun k =>
    let e := s.ext k
    ranges.any (fun x =>
      let lo := x.1 * 2097152
      let hi := lo + x.2 * 2097152
      x.2 != 0 && decide (e.ia < hi) && decide (lo < e.ia + e.bytes) && !(decide (lo ≤ e.ia) && decide (e.ia + e.bytes ≤ hi))))

/-- The base and the length that a write of a range row gives it; none for another object. -/
def State.rangeWrite (s : State) (r i v : Nat) : Option (List (Nat × Nat)) :=
  if r = Reg.rangeBaseSeg then some (s.rangesAs i v (s.rowLen i))
  else if r = Reg.rangeSegments then some (s.rangesAs i (s.rowBase i) v) else none

/-- Ranges lie within the image and do not overlap (R131). -/
def State.rangesFit (s : State) (l : List (Nat × Nat)) (i : Nat) : Bool :=
  let x := l.getD i (0, 0)
  decide (x.1 + x.2 ≤ s.segments) &&
  (List.range 16).all (fun k => k == i || !(meet x.1 x.2 (l.getD k (0, 0)).1 (l.getD k (0, 0)).2))

/-- A staged gate list may be committed (R238). -/
def State.gateListOk (s : State) (p : Nat) : Bool :=
  let n := s.get Reg.gateRows p
  n != 0 && (List.range 7).all (fun k => (List.range n).any (fun r => bit (s.get Reg.gateOpen (64 * p + r)) k))

/-- The value of a write lies in its object's range: `ok`, or the code that refuses it. -/
def State.rangeCheck (s : State) (o : Obj) (i v : Nat) : Abort :=
  let r := o.reg
  let ok (b : Bool) : Abort := if b then .ok else .range
  match o.ty with
  | .blob _ => .ok
  | _ =>
    if !(o.range.holds v) then .range
    else if r = Reg.imageSegments then
      ok (decide (s.carrierCount ≠ 0) && decide (v ≤ (s.segmentLimit s.carrierCount).getD 2097152))
    else if r = Reg.govSemicolonPct then ok (decide (v + 5 ≤ s.get Reg.govShapeReleasePct))
    else if r = Reg.govShapePct then
      ok (decide (s.get Reg.govShapeReleasePct + 1 ≤ v) && decide (v + 1 ≤ s.get Reg.govStallReleasePct))
    else if r = Reg.govShapeReleasePct then
      ok (decide (s.get Reg.govSemicolonPct + 5 ≤ v) && decide (v + 1 ≤ s.get Reg.govShapePct))
    else if r = Reg.govStallReleasePct then ok (decide (s.get Reg.govShapePct + 1 ≤ v))
    else if r = Reg.leaseGuard then ok (decide (s.get Reg.leaseTerm ≤ 50 * v) && decide (4 * v ≤ s.get Reg.leaseTerm))
    else if r = Reg.meterPir then ok (decide (s.get Reg.meterCir i ≤ v))
    else if r = Reg.timerPhase then
      ok (decide (v < s.get Reg.timerPeriod i) || (v == 0 && s.get Reg.timerPeriod i == 0))
    else if r = Reg.tjAlert then ok (decide (v ≤ (if Config.grade = 1 then 115 else 105)))
    else if Reg.routeMember0 ≤ r ∧ r < Reg.routeMember0 + 8 then
      ok (!(bit v 31) || decide (v % 256 < s.get Reg.effMsixVectors (i / 2)))
    else if r = Reg.ctxRingBase then ok (v % s.ringBytes i == 0)
    else if r = Reg.ctxQueue then ok (s.queueOwner v == s.ctxOwner i)
    else if r = Reg.rangeBaseSeg ∨ r = Reg.rangeSegments then
      (match s.rangeWrite r i v with | some l => ok (s.rangesFit l i) | none => .ok)
    else if r = Reg.linkMinWidth then ok (v != 8 || decide (16 ≤ i))
    else if (stagedFields.map (·.1)).contains r then ok (s.stagedOk r i v)
    else if r = Reg.gateCommand then ok (s.gateListOk i)
    else if r = Reg.debugState then ok (v == 0)
    else if r = Reg.patrolObject then
      (match Reg.lookup v with
       | .noEntry => .noEntry
       | .noSubindex => .noEntry
       | .rows _ => .type
       | .entry x _ =>
         if x.rows ≠ 0 then .type
         else match x.ty with | .bool => .type | .blob _ => .type | _ => .ok)
    else .ok

/-! ### States -/

/-- The configuration fields of a context row (R121). -/
def ctxConfig (r : Nat) : Bool :=
  r == Reg.ctxDurable || r == Reg.ctxRingBase || r == Reg.ctxRingSize || r == Reg.ctxPolicy || r == Reg.ctxNotify ||
  r == Reg.ctxCoalCount || r == Reg.ctxCoalTime || r == Reg.ctxQueue || r == Reg.ctxUserTag

/-- The fields of an extent row that a valid row does not take (Table 8.10). -/
def extConfig (r : Nat) : Bool :=
  r / 256 == Reg.extWinBase / 256 && r != Reg.extValid && r != Reg.extRecord && r != Reg.extMirror

/-- A context command is legal in the context's state (Table 5.7). -/
def ctxLegal (st : CtxState) (v : Nat) : Bool :=
  match v with
  | 1 => st == .closed
  | 2 => st == .opened || st == .error
  | 3 => st == .opened || st == .closing || st == .error
  | _ => st == .error

/-- A mirror command is legal (Table 6.10, R147, R148). -/
def State.mirrorLegal (s : State) (v : Nat) : Bool :=
  let st := s.image
  let on := st == .setup || st == .opened || st == .restoring
  match v with
  | 1 => on && s.get Reg.pairId != 0
  | 2 => on
  | _ => st == .opened && (s.mirrorState == .split || s.mirrorState == .peerAway) && s.get Reg.witnessNode != 0

/-- A command of range row r is legal (R133, R149). -/
def State.rangeLegal (s : State) (r v : Nat) : Bool :=
  match v with
  | 1 => s.rowLen r != 0 && s.rowState r == 0 && s.mirrorState == .paired
  | 2 => s.rowLen r != 0 && s.rowState r == 2 && s.mirrorState == .split
  | _ => s.mirrorState == .mismatch

/-- A write of value v to place i of object o is legal in the present states. -/
def State.legalIn (s : State) (o : Obj) (i v : Nat) : Bool :=
  let r := o.reg
  bit o.states s.image.code &&
  (if r = Reg.imageCommand then bit (imageCommandStates v) s.image.code
   else if r = Reg.lexCommand then (if v = 1 then s.image != .sealed else bit 67 s.image.code)
   else if r = Reg.mirrorCommand then s.mirrorLegal v
   else if r = Reg.pairId ∨ r = Reg.pairSide ∨ r = Reg.leasePolicy ∨ r = Reg.rangeBaseSeg ∨ r = Reg.rangeSegments ∨
       r = Reg.rangeOwner then s.image == .setup || s.mirrorState == .unpaired
   else if r = Reg.rangeCommand then s.rangeLegal i v
   else if ctxConfig r then s.ctxState i == .closed
   else if r = Reg.ctxCommand then
     ctxLegal (s.ctxState i) v && (v != 1 || (s.ctxOwner i).all (fun k => s.live k))
   else if r = Reg.dwordBase then s.get Reg.dwordEnable i == 0
   else if extConfig r then s.get Reg.extValid i == 0
   else if r = Reg.queueBase ∨ r = Reg.queueSize ∨ r = Reg.queueRoute ∨ r = Reg.queueCoalCount ∨ r = Reg.queueCoalTime then
     s.get Reg.queueEnable i == 0
   else if r = Reg.queueEnable then (s.queueOwner i).any (fun k => s.live k)
   else if r = Reg.chCommand then s.chanLegal i v
   else if r = Reg.instCommand then s.live i
   else if r = Reg.linkVcs then s.linkState i == .down || s.linkState i == .disabled
   else if r = Reg.prbsPattern ∨ r = Reg.prbsLanes ∨ r = Reg.prbsRate ∨ r = Reg.prbsCommand then
     s.get Reg.linkEnable i == 0
   else if r = Reg.laneCommand then s.linkState i == .up
   else if r = Reg.fwCommand then
     (match v with
      | 1 => (s.fwSlot s.otherSlot).good s.keep.fuses
      | 2 => !s.security.recovery && s.get Reg.fwActiveSlot == s.keep.preferred
      | 4 => s.security.recovery
      | _ => true)
   else if r = Reg.configLock then s.get Reg.ownerState == 1
   else true)

/-! ### What is engaged (R454) -/

/-- A waiting write holds the group of its object. -/
def State.groupWaits (s : State) (g : Nat) : Bool :=
  s.lexicon.waiting.any (fun w => (if w.reg < 4294967296 then w.reg else w.reg / 4294967296) / 16777216 == g)

/-- A write of place i of register r finds it engaged: `signed` for an entry of the SIGNED_CONFIG that runs. -/
def State.writeBusy (s : State) (signed : Bool) (r i v : Nat) : Bool :=
  s.groupWaits (r / 16777216) ||
  (s.lexicon.config.isSome && r / 16777216 == 14 && (!signed || r == Reg.ownerStatement)) ||
  ((r == Reg.chRingShadow || r == Reg.chCtrlShadow) && bit (s.get Reg.chCtrlShadow i) 63) ||
  ((r == Reg.patrolPeriod || r / 256 == Reg.patrolOp / 256) && s.powerState == 2) ||
  (r == Reg.linkCommand && v == 1 && s.linkState (otherLink i) == .paused)

/-! ### The checks in their order -/

/-- One request: its path, index and row, and whether it is an entry of SIGNED_CONFIG. -/
structure LexReq where
  path : Path
  index : Nat
  row : Nat
  signed : Bool
deriving DecidableEq, Repr

/-- The checks on the entry itself, before those on a value: an abort code, the row count of a table, or the object and
its place. -/
inductive Target
  | refused (a : Abort)
  | count (n : Nat)
  | place (o : Obj) (i : Nat)
deriving DecidableEq, Repr

/-- NO_ENTRY to WRITE_ONLY. -/
def State.target (s : State) (q : LexReq) (write : Bool) : Target :=
  match Reg.lookup q.index with
  | .noEntry => .refused .noEntry
  | .noSubindex => .refused (if s.security.recovery && !(inRecoverySet (q.index / 256 * 256 + 1)) then .noEntry else .noSubindex)
  | .rows n =>
    if s.security.recovery && !(inRecoverySet (q.index + 1)) then .refused .noEntry
    else if q.row ≠ 0xFFFFFFFF then .refused .tableRow
    else if write then (match q.path with | .hostVf _ => .refused .rights | _ => .refused .readOnly)
    else match q.path with
      | .hostVf _ => if 1 ≤ s.get Reg.debugState then .count n else .refused .rights
      | _ => .count n
  | .entry o u =>
    let i := o.place u q.row
    if s.security.recovery && !(inRecoverySet o.reg) then .refused .noEntry
    else if !(o.rowOk q.row) then .refused .tableRow
    else if !(s.reaches q.path o i write) then .refused .rights
    else if write ∧ (o.acc = .const ∨ constPlace o.reg i = true) then .refused .readOnly
    else if write ∧ o.acc = .ro ∧ q.path ≠ .firmware then .refused .readOnly
    else if !write ∧ o.acc = .wo then .refused .writeOnly
    else .place o i

/-- LOCKED: the guard, and a second enrolment of an owner (R435). -/
def State.guardHolds (s : State) (q : LexReq) (o : Obj) (v : Nat) : Bool :=
  (guarded o.reg v && s.get Reg.configLock == 1 && !q.signed && q.path != .firmware) ||
  (o.reg == Reg.ownerKey && s.get Reg.ownerState != 0)

/-- LOCKED to BUSY for a whole value. A write of a range row that would leave an extent partly inside is refused with
RANGE before anything else (R192, log 38). -/
def State.checkValue (s : State) (q : LexReq) (o : Obj) (i : Nat) (b : List Byte) : Abort :=
  let v := fromLe (b.take 8)
  let sized := o.lengthOk b.length
  if sized && (s.rangeWrite o.reg i v).any (fun l => s.cutsExtent l) then .range
  else if s.guardHolds q o v then .locked
  else if !sized then .type
  else if o.acc = .ro then .ok
  else match s.rangeCheck o i v with
    | .ok =>
      if o.reg = Reg.sampleQueue ∧ s.queueOwner v ≠ some 0 then .rights
      else if !(s.legalIn o i v) then .state
      else if s.writeBusy q.signed o.reg i v then .busy else .ok
    | a => a

end Sys2Proof.Machine
end

