-- ==== Sys2Proof/Machine/Lexicon.lean ====
section
/-!
DEFINITION. What a Lexicon request does once its checks have passed (spec/18_lexicon.md R453): the values that reads
return, the effect of every write and command, and the run of a SIGNED_CONFIG (spec/17_security.md R440).
-/
namespace Sys2Proof.Machine

/-! ### Reads -/

/-- The bytes of a BLOB object at place i. -/
def State.blobValue (s : State) (r i n : Nat) : List Byte :=
  if r = Reg.extRecord then s.extBytes i
  else if r = Reg.identityCert then le 3176 Config.identityCert
  else if r = Reg.mfgCert then le 3176 Config.mfgCert
  else if r = Reg.ownerKey then slice s.keep.ownerKey 0 1793
  else slice (s.blob r i) 0 n

/-- The value of place i of object o, as bytes. -/
def State.bytesOf (s : State) (o : Obj) (i : Nat) : List Byte :=
  match o.ty with
  | .blob n => s.blobValue o.reg i n
  | t => le t.size (s.value o.reg i)

/-- A read request with its offset (R455): the code, and the whole value. -/
def State.readEntry (s : State) (q : LexReq) (off : Nat) : State × Abort × List Byte :=
  match s.target q false with
  | .refused a => (s, a, [])
  | .count n => if off < 4 then (s, .ok, le 4 n) else (s, .range, [])
  | .place o i =>
    if o.reg = Reg.attestReport ∧ s.security.attest.isSome = true then (s, .busy, [])
    else if o.reg = Reg.debugChallenge ∧ off = 0 then
      let (s, b) := s.drawChallenge
      (s.setBlob Reg.debugChallenge 0 b, .ok, b)
    else
      let b := s.bytesOf o i
      if off < b.length then (s, .ok, b) else (s, .range, [])

/-! ### Effects of writes -/

/-- What a command brings with a write beside its value: the outcome of a Keep write, the fuse that fails, the level of
BOOT_SEL, or the content of a signed object as the verifier finds it. -/
inductive Extra
  | plain
  | store (rewrites : Nat) (failed : Bool)
  | confirm (failsAt : Option Nat)
  | boot (bootSel : Nat)
  | statement (st : Statement)
  | package (p : FwPackage)
deriving DecidableEq, Repr

/-- The states of the range rows follow owner and side while the pair is configured (R131, R132, log 37). -/
def State.renewRows (s : State) : State :=
  let s := s.each mirrorRows (fun s r =>
    let v := if s.rowLen r = 0 ∨ s.get Reg.rangeOwner r = s.side then 0 else 2
    if s.rowState r = v then s else s.setRow r v)
  s.renewMirrored

/-- MIRROR_COMMAND (R128, R130, R148). -/
def State.mirrorCommand (s : State) (v : Nat) : State :=
  match v with
  | 1 =>
    let s := s.modMirror (fun m => { m with wanted := true })
    let s := if s.mirrorState = .unpaired ∨ s.mirrorState = .mismatch then
        (s.modMirror (fun m => { m with helloSent := false })).setMirror .connecting
      else s
    s.pairTry
  | 2 => ((s.leaseRelease 2).setMirror .unpaired).modMirror (fun m => { m with wanted := false, helloSent := false, hello := none })
  | _ => s.takeoverRequest

/-- ADOPT_PARTNER (R149): every conflicting row takes the partner's owner and generation and is REPLICA, and pairing begins
again. -/
def State.adoptPartner (s : State) : State :=
  let s := match s.mirror.hello with
    | some h => s.each s.mirror.conflicts (fun s r =>
        let c := h.claim s.side r
        ((s.set Reg.rangeGeneration r c.1).set Reg.rangeOwner r c.2).setRow r 2)
    | none => s
  (s.modMirror (fun m => { m with conflicts := [], helloSent := false })).pairTry

/-- RANGE_COMMAND of row r (R133, R149). -/
def State.rangeCommand (s : State) (who : Requester) (r v : Nat) : State × Abort :=
  match v with
  | 1 =>
    let s := (s.modMirror (fun m => { m with handover := some ⟨r, who, s.now, none⟩ })).rowLater r 2
    (s.waitFor who Reg.rangeCommand, .later)
  | 2 => (s.takeRows [r], .ok)
  | _ => (s.adoptPartner, .ok)

/-- A commit or a withdrawal of extent row r (R195 to R197): at once in Setup, and when the row is not valid and stays so
(R72); else with its METADATA seal. -/
def State.extentWrite (s : State) (who : Requester) (r : Nat) (e : Ext) : State × Abort :=
  match s.extentCheck r e with
  | .ok =>
    if s.image = .setup ∨ (s.get Reg.extValid r = 0 ∧ e.valid = false ∧ s.keep.extNext.all (fun x => x.1 != r) = true) then
      (s.applyExtent r e, .ok)
    else ((s.requestSeal (.extent r e.record who)).waitFor who Reg.extValid, .later)
  | a => (s, a)

/-- CTX_COMMAND of context n (Table 5.7). -/
def State.ctxCommand (s : State) (n v : Nat) : State × Abort :=
  match v with
  | 1 => (match s.ctxOpenCheck n with
    | .ok => (s.ctxOpenNow n, .ok)
    | a => (s, a))
  | 2 => (s.ctxCloseNow n, .ok)
  | 3 => (s.ctxAbortNow n, .ok)
  | _ => (s.ctxResumeNow n, .ok)

/-- INST_COMMAND of instance i (Table 9.2): it returns at b, at once when it joins a reset that has begun. -/
def State.instCommand (s : State) (who : Requester) (i v : Nat) : State × Abort :=
  let drain := if v = 1 then s.flrDrains i else v == 2
  let begun := (s.resetJob i).any (fun j => j.begun.isSome)
  let s := s.askReset i 4 drain
  if begun then (s, .ok) else (s.waitFor who (instWait i), .later)

/-- QUEUE_ENABLE of pool queue j (R252, R257): 1 enables an idle queue and lets held records go (R95, R220); 0 takes
effect at the next clause boundary. -/
def State.queueEnableWrite (s : State) (j v : Nat) : State :=
  if v = 0 then
    if s.get Reg.queueEnable j = 1 then s.putQrun j { s.qrun j with disabling := true } else s
  else if s.get Reg.queueEnable j = 1 then s.putQrun j { s.qrun j with disabling := false }
  else
    let s := s.enableQueue j
    let mine := s.events.held.filter (fun h => s.mgmtQueue h.i == some j)
    let s := s.modEvents (fun e => { e with held := e.held.filter (fun h => !(mine.contains h)) })
    s.each mine (fun s h => s.recordMgmt h.i h.type h.about h.source h.payload)

/-- GATE_COMMAND COMMIT of port p (R238): the staged list waits for the end of the present cycle, or for GATE_BASE. -/
def State.gateCommitNow (s : State) (p : Nat) : State :=
  let l : List (Nat × Nat) := (List.range (s.get Reg.gateRows p)).map (fun k =>
    (s.get Reg.gateDuration (64 * p + k), s.get Reg.gateOpen (64 * p + k)))
  s.putPort p { s.port p with gateNext := some l }

/-- LEX_COMMAND (R457, R459). -/
def State.lexCommand (s : State) (v : Nat) (x : Extra) : State × Abort :=
  match v with
  | 1 => (match x with
    | .store n failed => s.storeSet n failed
    | _ => s.storeSet 0 false)
  | 2 => (s.formatSet, .ok)
  | _ => (s.reloadSet, .ok)

/-- FW_COMMAND (Table 17.5); RESTART is a cold reset from inside. -/
def State.fwCommandWrite (s : State) (v : Nat) (x : Extra) : State × Abort :=
  match v with
  | 4 =>
    let b := match x with | .boot b => b | _ => s.security.bootSel
    if s.security.recovery then (s.coldStart b s.host.perstLow, .ok) else (s, .state)
  | _ => s.fwCommand (match x with | .confirm f => f | _ => none) v

/-- PAIR_ID, PAIR_SIDE and MIRROR_RANGES are written. With PAIR_ID 0 the engine is UNPAIRED (Table 6.2). -/
def State.writePair (s : State) (r i v : Nat) : State :=
  let s := (s.set r i v).renewRows
  if r = Reg.pairId ∧ v = 0 then (s.setMirror .unpaired).modMirror (fun m => { m with wanted := false }) else s

/-- The commands of groups 1 to 8 and their writes with an effect of their own; none for a plain register. -/
def State.applyLow (s : State) (who : Requester) (r i v : Nat) (b : List Byte) : Option (State × Abort) :=
  if r = Reg.imageCommand then some (s.imageCommand who v)
  else if r = Reg.mirrorCommand then some (s.mirrorCommand v, .ok)
  else if r = Reg.rangeCommand then some (s.rangeCommand who i v)
  else if r = Reg.pairId ∨ r = Reg.pairSide ∨ r = Reg.rangeBaseSeg ∨ r = Reg.rangeSegments ∨ r = Reg.rangeOwner then
    some (s.writePair r i v, .ok)
  else if r = Reg.extValid then some (s.extentWrite who i { s.ext i with valid := v == 1 })
  else if r = Reg.extRecord then some (s.extentWrite who i (extOf b))
  else if r = Reg.ctxCommand then some (s.ctxCommand i v)
  else if r = Reg.dwordEnable then some (s.dwordEnableWrite i (v == 1), .ok)
  else if r = Reg.instCommand then some (s.instCommand who i v)
  else if r = Reg.gateCommand then some (s.gateCommitNow i, .ok)
  else if r = Reg.queueEnable then some (s.queueEnableWrite i v, .ok)
  else if r = Reg.holdPf then some (s.holdPfWrite i (v == 1), .ok)
  else if r = Reg.wakeStatus then some (s.wakeClear v, .ok)
  else if r = Reg.chCommand then some (s.chanCommand i v, .ok)
  else if r = Reg.chRingShadow then some (s.shadowWrite i false v, .ok)
  else if r = Reg.chCtrlShadow then some (s.shadowWrite i true v, .ok)
  else none

/-- The commands of groups A to F, the same way. -/
def State.applyHigh (s : State) (p : Path) (who : Requester) (r i v : Nat) (b : List Byte) (x : Extra) :
    Option (State × Abort) :=
  if r = Reg.linkCommand then some (if v = 1 then s.linkRetrain i else s.declareDown i 8, .ok)
  else if r = Reg.laneCommand then some (s.linkEqUpdate i, .ok)
  else if r = Reg.prbsCommand then some (if v = 1 then s.prbsStart i else s.prbsEnd i, .ok)
  else if r = Reg.powerRequest then some (s.powerRequest v (match p with | .field _ => 1 | _ => 0), .ok)
  else if r = Reg.replanCommand then some (s.restoreCaps, .ok)
  else if r = Reg.ownerKey then some (s.enrol b, .ok)
  else if r = Reg.ownerStatement then
    some (s.statement p who (match x with | .statement st => st | _ => s.statementOf b))
  else if r = Reg.configLock then some ((s.set Reg.configLock 0 v).storeOwn, .ok)
  else if r = Reg.fwPackage then some (s.packageEnds (match x with | .package k => k | _ => packageOf b))
  else if r = Reg.fwCommand then some (s.fwCommandWrite v x)
  else if r = Reg.attestNonce then some (s.attestStart p b)
  else if r = Reg.debugState then some (s.debugLocks, .ok)
  else if r = Reg.lexCommand then some (s.lexCommand v x)
  else if r = Reg.fieldAccess then some (s.writeFieldAccess v, .ok)
  else none

/-- A write that has passed its checks takes effect. FIRMWARE sets a read-only entry as it stands (R451). -/
def State.applyWrite (s : State) (p : Path) (who : Requester) (x : Extra) (o : Obj) (i : Nat) (b : List Byte) :
    State × Abort :=
  let v := fromLe (b.take 8)
  match o.acc, o.ty with
  | .ro, .blob _ => (s.setBlob o.reg i b, .ok)
  | .ro, _ => (s.set o.reg i v, .ok)
  | _, _ =>
    match (if o.reg < 0x9000000 then s.applyLow who o.reg i v b else s.applyHigh p who o.reg i v b x) with
    | some t => t
    | none => (s.putLive o.reg i v, .ok)

/-- A write request of a whole value: its checks and its effect. -/
def State.writeEntry (s : State) (q : LexReq) (who : Requester) (x : Extra) (b : List Byte) : State × Abort :=
  match s.target q true with
  | .refused a => (s, a)
  | .count _ => (s, .readOnly)
  | .place o i =>
    match s.checkValue q o i b with
    | .ok => s.applyWrite q.path who x o i b
    | a => (s, a)

/-! ### Requests and their answers -/

/-- One request has been taken (LEX_REQUESTS). -/
def State.countRequest (s : State) : State := s.bump Reg.lexRequests

/-- The result of a write reaches its requester, unless it comes later. -/
def State.settle (t : State × Abort) (who : Requester) : State :=
  match t.2 with
  | .later => t.1
  | a => t.1.answer who a

/-- A write request of a whole value is taken and answered. -/
def State.lexWrite (s : State) (q : LexReq) (who : Requester) (x : Extra) (b : List Byte) : State :=
  State.settle (s.countRequest.writeEntry q who x b) who

/-! ### SIGNED_CONFIG (R440) -/

/-- The first entry of a body (Table 17.7): index, row, value, and the rest; none when it is malformed. -/
def configEntry (b : List Byte) : Option (Nat × Nat × List Byte × List Byte) :=
  let n := field b 8 4
  let whole := 16 + (n + 7) / 8 * 8
  if b.length < 16 ∨ n = 0 ∨ 4096 < n ∨ b.length < whole then none
  else some (field b 0 4, field b 4 4, slice b 16 n, b.drop whole)

/-- A SIGNED_CONFIG ends: STATEMENT_RESULT, the store, and the answer to the statement. -/
def State.configEnds (s : State) (who : Requester) (n : Nat) (a : Abort) : State :=
  let s := s.set Reg.statementResult 0 (n % 65536 + 65536 * a.code)
  let s := (s.modLexicon (fun l => { l with config := none, configAnswer := none })).storeOwn
  s.answer who .ok

/-- An entry of the config has its answer: the next one follows, or the run ends at the first refusal. -/
def State.configAnswered (s : State) (c : Nat) : State :=
  match s.lexicon.config with
  | none => s
  | some (p, who, rest, n) =>
    let s := s.modLexicon (fun l => { l with configAnswer := none })
    if c = 0 then s.modLexicon (fun l => { l with config := some (p, who, rest, n + 1) })
    else
      let s := s.set Reg.statementResult 0 (n % 65536 + 65536 * c)
      let s := (s.modLexicon (fun l => { l with config := none })).storeOwn
      s.answer who .ok

/-- The entries of a running SIGNED_CONFIG are applied in order, until one waits or the run ends; `fuel` bounds the
steps. -/
def State.configGo : Nat → State → State
  | 0, s => s
  | f + 1, s =>
    match s.lexicon.configAnswer with
    | some c => State.configGo f (s.configAnswered c)
    | none =>
      match s.lexicon.config with
      | none => s
      | some (p, who, rest, n) =>
        let me : Requester := .config p n
        if rest.isEmpty then s.configEnds who n .ok
        else if s.lexicon.waiting.any (fun w => w.who == me) then s
        else match configEntry rest with
          | none => s.configEnds who n .type
          | some (index, row, value, tail) =>
            let s := s.modLexicon (fun l => { l with config := some (p, who, tail, n) })
            let t := s.countRequest.writeEntry ⟨p, index, row, true⟩ me .plain value
            match t.2 with
            | .later => t.1
            | a =>
              let s := if a = .ok then t.1 else t.1.bump Reg.lexAborts
              State.configGo f (s.modLexicon (fun l => { l with configAnswer := some a.code }))

/-- A running SIGNED_CONFIG goes on. -/
def State.runConfig (s : State) : State :=
  match s.lexicon.config with
  | none => s
  | some (_, _, rest, _) => State.configGo (2 * rest.length + 4) s

end Sys2Proof.Machine
end

