-- ==== Sys2Proof/Machine/Port.lean ====
section
/-!
DEFINITION. How requests reach the Lexicon (spec/18_lexicon.md): requests that a command names by their path, the host
Lexicon ports (R460, R461), segmented writes (R455), Clezel frames (R464 to R467), and the field port's own frames and
states (R462, R468).
-/
namespace Sys2Proof.Machine

/-! ### Requests that a command names -/

/-- A write request: the entry, what the command brings beside the value, and the value. -/
structure Ask where
  q : LexReq
  extra : Extra
  value : List Byte
deriving DecidableEq, Repr

/-- The write of value v to unit or row i of register r. -/
def askOf (p : Path) (r i : Nat) (v : List Byte) (x : Extra := .plain) : Ask :=
  let n := match Reg.obj r with | some o => o.name i | none => (r, 0xFFFFFFFF)
  ⟨⟨p, n.1, n.2, false⟩, x, v⟩

/-- The channel command of a request. -/
def chanAsk (v : ChanVia) (cmd : Nat) : Option Ask :=
  match v with
  | .lexicon p k => some (askOf p Reg.chCommand k [BitVec.ofNat 8 cmd])
  | .block _ _ _ => none

/-- The write request that a command stands for. A statement is as long as Table 17.2 makes it, and a package is not
empty. -/
def requestOf : Instr → Option Ask
  | .format p => some (askOf p Reg.imageCommand 0 [1])
  | .commit p => some (askOf p Reg.imageCommand 0 [2])
  | .retry p => some (askOf p Reg.imageCommand 0 [3])
  | .abandon p => some (askOf p Reg.imageCommand 0 [4])
  | .semicolon p => some (askOf p Reg.imageCommand 0 [5])
  | .ctxOpen p n => some (askOf p Reg.ctxCommand n [1])
  | .ctxClose p n => some (askOf p Reg.ctxCommand n [2])
  | .ctxAbort p n => some (askOf p Reg.ctxCommand n [3])
  | .ctxResume p n => some (askOf p Reg.ctxCommand n [4])
  | .dwordEnable p i on => some (askOf p Reg.dwordEnable i (le 1 (b2n on)))
  | .pair p => some (askOf p Reg.mirrorCommand 0 [1])
  | .unpair p => some (askOf p Reg.mirrorCommand 0 [2])
  | .takeover p => some (askOf p Reg.mirrorCommand 0 [3])
  | .handover p r => some (askOf p Reg.rangeCommand r [1])
  | .forceTakeover p r => some (askOf p Reg.rangeCommand r [2])
  | .adoptPartner p r => some (askOf p Reg.rangeCommand r [3])
  | .witnessNodeWrite p node => some (askOf p Reg.witnessNode 0 (le 1 node))
  | .extentCommit p row record => some (match record with
    | some b => askOf p Reg.extRecord row b
    | none => askOf p Reg.extValid row [1])
  | .extentWithdraw p row => some (askOf p Reg.extValid row [0])
  | .instReset p i => some (askOf p Reg.instCommand i [1])
  | .instResetDrain p i => some (askOf p Reg.instCommand i [2])
  | .instResetSquash p i => some (askOf p Reg.instCommand i [3])
  | .gateCommit p port => some (askOf p Reg.gateCommand port [1])
  | .queueEnable p j => some (askOf p Reg.queueEnable j [1])
  | .queueDisable p j => some (askOf p Reg.queueEnable j [0])
  | .holdPfWrite p i on => some (askOf p Reg.holdPf i (le 1 (b2n on)))
  | .wakeStatusClear p v => some (askOf p Reg.wakeStatus 0 (le 4 v))
  | .dmaEnable v => chanAsk v 1
  | .dmaDisable v => chanAsk v 2
  | .dmaResume v => chanAsk v 3
  | .dmaSkip v => chanAsk v 4
  | .dmaAbort v => chanAsk v 5
  | .shadowWrite v ctrl x => (match v with
    | .lexicon p k => some (askOf p (if ctrl then Reg.chCtrlShadow else Reg.chRingShadow) k (le 8 x))
    | .block _ _ _ => none)
  | .retrain p u => some (askOf p Reg.linkCommand u [1])
  | .linkCommandDown p u => some (askOf p Reg.linkCommand u [2])
  | .linkEnableWrite p u on => some (askOf p Reg.linkEnable u (le 1 (b2n on)))
  | .eqUpdate p u => some (askOf p Reg.laneCommand u [1])
  | .prbsStart p u => some (askOf p Reg.prbsCommand u [1])
  | .prbsStop p u => some (askOf p Reg.prbsCommand u [2])
  | .powerRequest p target => some (askOf p Reg.powerRequest 0 (le 1 target))
  | .restoreCaps p => some (askOf p Reg.replanCommand 0 [1])
  | .fwPackage p pkg => some (askOf p Reg.fwPackage 0 [0] (.package pkg))
  | .activate p => some (askOf p Reg.fwCommand 0 [1])
  | .confirm p failsAt => some (askOf p Reg.fwCommand 0 [2] (.confirm failsAt))
  | .invalidate p => some (askOf p Reg.fwCommand 0 [3])
  | .fwRestart p bootSel => some (askOf p Reg.fwCommand 0 [4] (.boot bootSel))
  | .ownerKeyEnrol p key => some (askOf p Reg.ownerKey 0 key)
  | .ownerReplace p st => some (askOf p Reg.ownerStatement 0 (zeros (1376 + st.body.length)) (.statement st))
  | .ownerRelease p st => some (askOf p Reg.ownerStatement 0 (zeros (1376 + st.body.length)) (.statement st))
  | .signedConfig p st => some (askOf p Reg.ownerStatement 0 (zeros (1376 + st.body.length)) (.statement st))
  | .debugUnlock p st => some (askOf p Reg.ownerStatement 0 (zeros (1376 + st.body.length)) (.statement st))
  | .configLockWrite p on => some (askOf p Reg.configLock 0 (le 1 (b2n on)))
  | .attestNonce p nonce => some (askOf p Reg.attestNonce 0 nonce)
  | .debugLock p v => some (askOf p Reg.debugState 0 (le 1 v))
  | .registerWrite p index row value => some ⟨⟨p, index, row, false⟩, .plain, value⟩
  | .store p n failed => some (askOf p Reg.lexCommand 0 [1] (.store n failed))
  | .lexFormat p => some (askOf p Reg.lexCommand 0 [2])
  | .reload p => some (askOf p Reg.lexCommand 0 [3])
  | _ => none

/-- The request of a command runs, and is answered to its path. -/
def State.runAsk (s : State) (a : Ask) : State := (s.lexWrite a.q (.direct a.q.path) a.extra a.value).runConfig

/-- A request comes by a path: a host port takes it in its turn, before the cut and while its function decodes (in
recovery only the PF's); the field port answers STATE from the cut; FIRMWARE has none in recovery (R432, R470, R471). -/
def State.lexCall (s : State) (p : Path) (c : Instr) (f : State → State) : State :=
  match p with
  | .hostPf => if s.cutPassed || !(s.lexOn 0) then s else s.posted c f
  | .hostVf i => if i.val = 0 ∨ s.cutPassed = true ∨ s.security.recovery = true ∨ s.lexOn i.val = false then s else s.posted c f
  | .field _ =>
    if !s.fieldSends then s
    else
      let s := s.wake 8
      if s.cutPassed then s.answer (.direct p) .state else f s
  | .firmware => if s.security.recovery then s else f s

/-- A command that stands for a write request. -/
def State.direct (s : State) (c : Instr) : State :=
  match requestOf c with
  | some a => s.lexCall a.q.path c (fun s => s.runAsk a)
  | none => s

/-- DEBUG_CHALLENGE is read by its path (R444). -/
def State.challengeRead (s : State) (p : Path) : State :=
  let t := s.countRequest.readEntry ⟨p, Reg.debugChallenge, 0xFFFFFFFF, false⟩ 0
  t.1.answer (.direct p) t.2.1 t.2.2.length 0 t.2.2

/-! ### Segmented writes (R455) -/

/-- The open transfer of a port. -/
def State.transferOf (s : State) (p : PortId) : Option Transfer := s.lexicon.transfers.find? (fun t => t.port == p)

/-- The transfer of a port closes. -/
def State.closeTransfer (s : State) (p : PortId) : State :=
  s.modLexicon (fun l => { l with transfers := l.transfers.filter (fun t => t.port != p) })

/-- The transfer of a port is abandoned: FIELD_SEG_LAPSED counts those of field nodes. -/
def State.abandonTransfer (s : State) (p : PortId) : State :=
  match s.transferOf p with
  | none => s
  | some _ =>
    let s := s.closeTransfer p
    match p with | .node _ => s.bump Reg.fieldSegLapsed | .host _ => s

/-- The transfer of a port holds `got`. -/
def State.putTransfer (s : State) (p : PortId) (q : LexReq) (got : List Byte) : State :=
  let s := s.closeTransfer p
  s.modLexicon (fun l => { l with transfers := l.transfers ++ [⟨p, q.index, q.row, got, s.clauseNow⟩] })

/-- The first of several segments: what can be checked of it now is (R453). A package goes into its slot at once
(R433). -/
def State.firstSegment (s : State) (p : PortId) (q : LexReq) (o : Obj) (i : Nat) (b : List Byte) : State × Abort :=
  if o.limit < b.length then (s, .type)
  else if o.reg = Reg.fwPackage then
    (if s.legalIn o i 0 then ((s.putTransfer p q b).packageBegins, .ok) else (s, .state))
  else (s.putTransfer p q b, .ok)

/-- A write of `b` at an offset of a value, `last` when the value ends with it. -/
def State.segment (s : State) (p : PortId) (q : LexReq) (who : Requester) (off : Nat) (last : Bool) (b : List Byte) :
    State × Abort :=
  let s := if off = 0 then s.abandonTransfer p else s
  if off = 0 ∧ last = true then s.writeEntry q who .plain b
  else
    match s.target q true with
    | .refused a => (s, a)
    | .count _ => (s, .readOnly)
    | .place o i =>
      if off = 0 then (if s.guardHolds q o 0 then (s, .locked) else s.firstSegment p q o i b)
      else match s.transferOf p with
        | none => (s, if s.guardHolds q o 0 then .locked else .range)
        | some t =>
          if t.index ≠ q.index ∨ t.row ≠ q.row ∨ off ≠ t.got.length then (s.abandonTransfer p, .range)
          else if last then (s.closeTransfer p).writeEntry q who .plain (t.got ++ b)
          else if o.limit < (t.got ++ b).length then (s.abandonTransfer p, .type)
          else (s.putTransfer p q (t.got ++ b), .ok)

/-- SEGMENT_LAPSE (R455): 1 s without a further segment. -/
def State.segmentLapse (s : State) (p : PortId) : State :=
  match s.transferOf p with
  | some t => if s.due (128 * t.cyc + msCycles 1000) then s.abandonTransfer p else s
  | none => s

/-! ### The host Lexicon ports (R460, R461) -/

/-- The path of the port of instance i. -/
def portPath (i : Fin 256) : Path := if i.val = 0 then .hostPf else .hostVf i

/-- A REQUEST is written on the port of instance i: while BUSY it is discarded and counted; a LENGTH of 0 or above 2,048
completes at once with TYPE and no other effect (R461). `word` and `row` are the words of REQUEST and ROW. -/
def State.portRequest (s : State) (i : Nat) (notify : Bool) (word row len : Nat) (f : State → Requester → State) : State :=
  if (s.lexPort i).busy then s.bump Reg.lexPortCollisions i
  else
    let s := s.withdraw i 0x0F8
    let n := (s.lexPort i).serial + 1
    let s := s.putLexPort i { s.lexPort i with
      busy := true, notify := notify, serial := n, request := word / 2 ^ 48 * 2 ^ 48 + word % 2 ^ 28, row := row }
    if len = 0 ∨ 2048 < len then s.portDone i notify .type 0 [] else f s (.port i notify n)

/-- The REQUEST word (Table 18.7). -/
def requestWord (op : Nat) (notify last : Bool) (len index : Nat) : Nat :=
  b2n notify * 2 ^ 63 + b2n last * 2 ^ 62 + op * 2 ^ 60 + len % 4096 * 2 ^ 48 + index % 2 ^ 28

/-- The ROW word (Table 18.6). -/
def rowWord (row off : Nat) : Nat := off * 4294967296 + row % 4294967296

/-- A read request on the port of instance i. -/
def State.portRead (s : State) (i : Fin 256) (notify : Bool) (index row off len : Nat) : State :=
  s.portRequest i.val notify (requestWord 1 notify false len index) (rowWord row off) len (fun s who =>
    let t := s.countRequest.readEntry ⟨portPath i, index, row, false⟩ off
    t.1.answer who t.2.1 t.2.2.length off ((t.2.2.drop off).take len))

/-- A write request on the port of instance i, of the first `len` bytes of DATA. -/
def State.portWrite (s : State) (i : Fin 256) (notify last : Bool) (index row off len : Nat) (data : List Byte) : State :=
  s.portRequest i.val notify (requestWord 2 notify last len index) (rowWord row off) len (fun s who =>
    let b := slice data 0 len
    let s := s.putLexPort i.val { s.lexPort i.val with data := data ++ (s.lexPort i.val).data.drop data.length }
    (State.settle (s.countRequest.segment (.host i) ⟨portPath i, index, row, false⟩ who off last b) who).runConfig)

/-- A REQUEST reaches the port of instance i: before the cut, while its function decodes, in its turn (R171, R432). -/
def State.portCall (s : State) (i : Nat) (c : Instr) (f : State → State) : State :=
  if s.cutPassed then s
  else if s.lexOn i && (i == 0 || !s.security.recovery) then s.posted c f
  else s.unsupported i 0 8 true

/-! ### Clezel frames (R464 to R467) -/

/-- One second in clauses. -/
def secondClauses : Nat := 1953125

/-- A WRITE that changes the number of this node is answered under the old number (R470). -/
def State.settleFrame (old : Nat) (t : State × Abort) (who : Requester) : State :=
  let new := t.1.get Reg.fieldNodeId
  if new = old then State.settle t who
  else (State.settle (t.1.set Reg.fieldNodeId 0 old, t.2) who).set Reg.fieldNodeId 0 new

/-- A READ or WRITE frame of a node is executed (R466). -/
def State.frameRuns (s : State) (write : Bool) (prio src seq : Nat) (node : Fin 128) (b : List Byte) : State :=
  let q : LexReq := ⟨.field node, field b 0 4, field b 4 4, false⟩
  let off := field b 8 4
  let who : Requester := .frame prio src seq off
  if s.cutPassed then s.answer who .state
  else if write then
    let n := field b 12 2
    if b.length < 16 ∨ n = 0 ∨ 48 < n ∨ b.length < 16 + n then s.answer who .type
    else
      let t := s.countRequest.segment (.node node) q who off (bit (field b 14 2) 0) (slice b 16 n)
      (State.settleFrame (s.get Reg.fieldNodeId) t who).runConfig
  else if b.length < 12 then s.answer who .type
  else
    let t := s.countRequest.readEntry q off
    t.1.answer who t.2.1 t.2.2.length off ((t.2.2.drop off).take 52)

/-- A READ or WRITE frame is received (R465, R467): a broadcast, or one without a source, is ignored; a repeat of the
request whose response is kept gets that response, and a repeat of one in progress nothing. -/
def State.frameRequest (s : State) (write : Bool) (prio dest src seq : Nat) (node : Fin 128) (b : List Byte) : State :=
  let me := s.get Reg.fieldNodeId
  if s.get Reg.fieldAccess = 0 ∨ s.get Reg.canState = 2 ∨ (dest ≠ 0 ∧ dest ≠ me) then s
  else if dest = 0 then (s.bump Reg.fieldFramesRx).bump Reg.fieldIgnored
  else
    let s := s.frameIn
    if src = 0 then s.bump Reg.fieldIgnored
    else
      let key := keptKey src seq
      let new (s : State) : State :=
        let s := s.modLexicon (fun l => { l with kept := Tbl.put l.kept key ⟨seq, b2n write, b, 0, [], s.clauseNow, true⟩ })
        s.frameRuns write prio src seq node b
      match Tbl.find s.lexicon.kept key with
      | some k =>
        if k.fn = b2n write ∧ k.request = b ∧ (k.pending = true ∨ s.clauseNow < k.cyc + secondClauses) then
          let s := s.bump Reg.fieldDuplicates
          if k.pending then s else (s.emit (.frame k.id (canPad k.response))).bump Reg.fieldFramesTx
        else new s
      | none => new s

/-! ### The field port's own frames and states (R462, R468) -/

/-- GOV_WORST (Table 8.7). -/
def State.govWorst (s : State) : Nat := s.activeCarriers.foldl (fun a c => max a (s.get Reg.govState c)) 0

/-- The data field of a HEARTBEAT (Table 18.13). -/
def State.heartbeatData (s : State) : List Byte :=
  layout [(1, s.get Reg.imageState), (1, s.powerState), (1, s.get Reg.mirrorState), (1, s.govWorst),
    (1, s.get Reg.restartPhase), (1, s.get Reg.leaseState),
    (2, (List.range 16).foldl (fun a g => if (s.attention g).isEmpty then a else a + 2 ^ g) 0)]

/-- HEARTBEAT (R468): FIELD_HEARTBEAT ms after the last. -/
def State.heartbeat (s : State) : State :=
  let ms := s.get Reg.fieldHeartbeat
  if ms ≠ 0 ∧ s.fieldSends = true ∧ s.due (s.lexicon.heartbeatAt + msCycles ms) = true then
    (s.modLexicon (fun l => { l with heartbeatAt := s.now })).sendFrame 6 8 0 s.heartbeatData
  else s

/-- CAN_BUS_OFF (R462): a controller that is not in standby enters bus-off. -/
def State.busOff (s : State) : State :=
  if s.get Reg.fieldAccess = 0 ∨ s.get Reg.canState = 2 then s
  else
    let s := (s.set Reg.canState 0 2).bump Reg.canBusOffs
    if s.security.recovery then s else s.raise 0 0x0F9 1

/-- BUS_OFF_RECOVERY (R462). -/
def State.busOffEnds (s : State) : State :=
  if s.get Reg.canState = 2 then (s.set Reg.canState 0 0).withdrawUnit 0 0x0F9 1 else s

/-! ### Commands of this chapter -/

/-- LEXICON_READ (R453). -/
def execLexiconRead (i : Fin 256) (notify : Bool) (index row off len : Nat) (s : State) : Host.Outcome State Fault Refusal :=
  actRom s (fun s => s.portCall i.val (.lexiconRead i notify index row off len)
    (fun s => s.portRead i notify index row off len))

/-- LEXICON_WRITE (R453). -/
def execLexiconWrite (i : Fin 256) (notify last : Bool) (index row off : Nat) (data : List Byte) (s : State) :
    Host.Outcome State Fault Refusal :=
  actRom s (fun s => s.portCall i.val (.lexiconWrite i notify last index row off data)
    (fun s => s.portWrite i notify last index row off data.length data))

/-- REGISTER_WRITE (R453). -/
def execRegisterWrite (p : Path) (index row : Nat) (value : List Byte) (s : State) : Host.Outcome State Fault Refusal :=
  actRom s (fun s => s.direct (.registerWrite p index row value))

/-- SEGMENT_LAPSE (R455). -/
def execSegmentLapse (port : PortId) (s : State) : Host.Outcome State Fault Refusal :=
  actRom s (fun s => s.segmentLapse port)

/-- STORE (R457). -/
def execStore (p : Path) (rewrites : Nat) (failed : Bool) (s : State) : Host.Outcome State Fault Refusal :=
  actRom s (fun s => s.direct (.store p rewrites failed))

/-- LEX_FORMAT (R459). -/
def execLexFormat (p : Path) (s : State) : Host.Outcome State Fault Refusal := actRom s (fun s => s.direct (.lexFormat p))

/-- RELOAD (R459). -/
def execReload (p : Path) (s : State) : Host.Outcome State Fault Refusal := actRom s (fun s => s.direct (.reload p))

/-- CLEZEL_READ (R466). -/
def execClezelRead (prio : Fin 8) (dest src : Fin 128) (seq : Fin 256) (data : List Byte) (s : State) :
    Host.Outcome State Fault Refusal :=
  actRom s (fun s => s.frameRequest false prio.val dest.val src.val seq.val src data)

/-- CLEZEL_WRITE (R466). -/
def execClezelWrite (prio : Fin 8) (dest src : Fin 128) (seq : Fin 256) (data : List Byte) (s : State) :
    Host.Outcome State Fault Refusal :=
  actRom s (fun s => s.frameRequest true prio.val dest.val src.val seq.val src data)

/-- HEARTBEAT (R468): none in recovery (R471). -/
def execHeartbeat (s : State) : Host.Outcome State Fault Refusal := act s State.heartbeat

/-- CAN_BUS_OFF (R462). -/
def execCanBusOff (s : State) : Host.Outcome State Fault Refusal := actRom s State.busOff

/-- BUS_OFF_RECOVERY (R462). -/
def execBusOffRecovery (s : State) : Host.Outcome State Fault Refusal := actRom s State.busOffEnds

end Sys2Proof.Machine
end

