-- ==== Sys2Proof/Machine/Pages.lean ====
section
/-!
DEFINITION. The pages of BAR0 and VF BAR0, and the doorbell BARs (spec/08_windows.md R200 to R202, Tables 8.4 to 8.8;
Table 11.6, Tables 12.1 to 12.4, Table 18.6, R107): what a read returns and what a write does.
-/
namespace Sys2Proof.Machine

/-! ### The layout (Tables 8.4 and 8.5) -/

/-- A page of BAR0. -/
inductive Page
  | fast | lexicon | claim | pending | doorbells | channels | msix | pba | attention (g : Nat) | reserved
deriving DecidableEq, Repr

/-- The page of PF BAR0 that an offset lies in, and the offset in the page (Table 8.4). -/
def pfPage (off : Nat) : Page × Nat :=
  let o := off % 0x1000
  if off < sliceBase 0 + 0x1000 then (.fast, o)
  else if sliceBase 4 ≤ off ∧ off < sliceBase 4 + 0x1000 then (.msix, o)
  else if sliceBase 4 + 0x1000 ≤ off ∧ off < sliceBase 4 + 0x2000 then (.pba, o)
  else if sliceBase 4 + 0x2000 ≤ off ∧ off < sliceBase 4 + 0x3000 then (.claim, o)
  else if sliceBase 4 + 0x3000 ≤ off ∧ off < sliceBase 4 + 0x4000 then (.pending, o)
  else if sliceBase 4 + 0x4000 ≤ off ∧ off < sliceBase 4 + 0x4200 then (.doorbells, o)
  else if sliceBase 5 ≤ off ∧ off < sliceBase 5 + 0x10000 then (.channels, off - sliceBase 5)
  else if sliceBase 15 ≤ off ∧ off < sliceBase 15 + 0x1000 then (.lexicon, o)
  else if off / 0x1000 % 0x100 = 0xFF then (.attention (off / 0x100000), o)
  else (.reserved, o)

/-- The page of VF BAR0 that an offset lies in, and the offset in the page (Table 8.5). -/
def vfPage (off : Nat) : Page × Nat :=
  let o := off % 0x1000
  match off / 0x1000 with
  | 0 => (.fast, o)
  | 1 => (.lexicon, o)
  | 2 => (.claim, o)
  | 3 => (.pending, o)
  | 4 => if o < 0x200 then (.doorbells, o) else (.reserved, o)
  | 5 => (.channels, o)
  | 6 => (.channels, 0x1000 + o)
  | 8 => if o < 0x400 then (.msix, o) else (.reserved, o)
  | 9 => (.pba, o)
  | _ => (.reserved, o)

/-- The page of BAR0 of function i that an offset lies in. -/
def pageAt (i off : Nat) : Page × Nat := if i = 0 then pfPage off else vfPage off

/-! ### What the pages show -/

/-- The STATE word (Table 8.7). -/
def State.stateWord (s : State) : Nat :=
  fromLe (layout [(1, s.get Reg.imageState), (1, s.govWorst), (1, s.get Reg.restartPhase), (1, s.get Reg.mirrorState),
    (1, s.powerState)])

/-- The WINDOW_INFO word of instance i (Table 8.8). -/
def State.windowInfo (s : State) (i : Nat) : Nat :=
  fromLe (layout [(1, if i = 0 then s.host.pfWin else s.host.vfWin), (1, (s.validExts i).length), (2, b2n s.windowsOpen),
    (4, s.get Reg.hostFaults i)])

/-- A set of numbers below 64 times the words as bits: word w of it. -/
def wordOf (l : List Nat) (w : Nat) : Nat :=
  ((l.filter (fun n => decide (n / 64 = w))).eraseDups).foldl (fun a n => a + 2 ^ (n % 64)) 0

/-- The vector that R269 would choose for a message of instance i through route set `set` with masks ignored. -/
def State.routeFree (s : State) (i set : Nat) : Nat :=
  let r := 2 * i + set
  let all := (List.range 8).filterMap (fun m => (s.routeMember r m).map (fun cv => (m, cv)))
  let last := Tbl.getD s.events.lastMember r 7
  let rank (m : Nat × Nat × Nat) : Nat := s.cpuPrio m.2.1 * 8 + (m.1 + 7 - last) % 8
  ((bestOf (fun a b => decide (rank a < rank b)) all).map (fun m => m.2.2)).getD 0

/-- The vectors of instance i whose PBA bits are set: of the decisions that wait only on a mask (R268). -/
def State.pbaVectors (s : State) (i : Nat) : List Nat :=
  if s.mayIssue i then
    (if (s.claimable i).isSome && !(s.events.outstanding.mem i) then [s.routeFree i 0] else []) ++
    (s.events.decided.filter (fun q => s.queueOwner q == some i && !(s.recordWaits q))).filterMap (fun q =>
      let route := s.get Reg.queueRoute q
      if bit route 8 then some (s.routeFree i 1)
      else if bits route 7 0 < s.get Reg.effMsixVectors i then some (bits route 7 0) else none)
  else []

/-- The entries of the MSI-X table of function i (Tables 7.3 and 7.4). -/
def State.msixEntries (s : State) (i : Nat) : Nat := if i = 0 then 256 else min 64 (s.get Reg.effMsixVectors i)

/-- An 8-byte word of the MSI-X table: address, or data and vector control. -/
def State.msixPage (s : State) (i o : Nat) : Nat :=
  let v := o / 16
  if s.msixEntries i ≤ v then 0
  else if o % 16 < 8 then s.msixWord i v 0 + 4294967296 * s.msixWord i v 1
  else s.msixWord i v 2 + 4294967296 * b2n (!(s.host.vecOpen.mem (i * 256 + v)))

/-- An 8-byte word of the claim/complete page (Table 11.6); the claim is no part of it. -/
def State.claimPage (s : State) (i o : Nat) : Nat :=
  if o = 0x10 then (s.running i).getD 0xFF + 65536 * (s.claimedOf i).length
  else if o = 0x18 then b2n (s.events.selfHold.mem i) + 2 * s.get Reg.holdPf i
  else if 0x40 ≤ o ∧ o < (if i = 0 then 0x60 else 0x48) then
    wordOf ((s.events.inflight.filter (fun x => x.1 == i)).map (·.2.1)) ((o - 0x40) / 8)
  else if 0x400 ≤ o ∧ o < 0x480 then wordOf (s.pendingOf i) ((o - 0x400) / 8)
  else if 0x480 ≤ o ∧ o < 0x500 then wordOf (s.claimedOf i) ((o - 0x480) / 8)
  else if 0x800 ≤ o ∧ o < 0xA00 ∧ i = 0 then Tbl.getD s.events.cpuPrio ((o - 0x800) / 8) 0
  else 0

/-- The queue pending word of instance i (R258). -/
def State.pendingPage (s : State) (i : Nat) : Nat :=
  wordOf ((List.range (min 64 (s.get Reg.effQueueCount i))).filter (fun j =>
    s.get Reg.queueProd (s.get Reg.effQueueFirst i + j) != s.get Reg.queueCons (s.get Reg.effQueueFirst i + j))) 0

/-- A queue doorbell as read (Table 11.3). -/
def State.doorbellPage (s : State) (i j : Nat) : Nat :=
  if j < s.get Reg.effQueueCount i then
    let q := s.get Reg.effQueueFirst i + j
    s.get Reg.queueProd q + 9223372036854775808 * b2n (s.qrun q).armed
  else 0

/-- The STATUS word of channel k (Table 12.2). -/
def State.chanStatus (s : State) (k : Nat) : Nat :=
  s.get Reg.chState k + 8 * b2n (bit (s.get Reg.chCtrlShadow k) 63) + 16 * (s.chan k).bursts.length +
  256 * s.get Reg.chReqCount k + 4294967296 * s.get Reg.chCons k

/-- An 8-byte word of a channel block (Table 12.1). -/
def State.chanPage (s : State) (i o : Nat) : Nat :=
  match s.chanOf i (o / 0x400) with
  | none => 0
  | some k =>
    let o := o % 0x400
    if o = 0 then s.get Reg.chProd k
    else if o = 0x08 then s.chanStatus k
    else if o = 0x40 then s.get Reg.chRingShadow k
    else if o = 0x48 then s.get Reg.chCtrlShadow k
    else if o = 0x80 then s.get Reg.chRingActive k
    else if o = 0x88 then s.get Reg.chCtrlActive k % 9223372036854775808
    else if 0xC0 ≤ o ∧ o < 0xD8 then field (s.blob Reg.chFault k) (o - 0xC0) 8
    else 0

/-- An 8-byte word of the host Lexicon port of instance i (Tables 18.6 to 18.8). -/
def State.lexPage (s : State) (i o : Nat) : Nat :=
  let p := s.lexPort i
  if o = 0 then p.request
  else if o = 0x08 then p.row
  else if o = 0x10 then b2n p.busy + 256 * p.abort + 65536 * p.count + 2 ^ 36 * p.length
  else if o = 0x18 then p.size
  else if 0x800 ≤ o then field p.data (o - 0x800) 8
  else 0

/-- An aligned 8-byte word of BAR0 of function i; every offset not listed reads as zero (R200). -/
def State.pageWord (s : State) (i off : Nat) : Nat :=
  match pageAt i off with
  | (.fast, o) =>
    if o = 0 then s.clauseNow else if o = 0x08 then s.stateWord else if o = 0x10 then s.windowInfo i
    else if o = 0x18 then s.get Reg.epoch else 0
  | (.lexicon, o) => s.lexPage i o
  | (.claim, o) => s.claimPage i o
  | (.pending, o) => if o = 0 then s.pendingPage i else 0
  | (.doorbells, o) => s.doorbellPage i (o / 8)
  | (.channels, o) => s.chanPage i o
  | (.msix, o) => s.msixPage i o
  | (.pba, o) => if o < 0x20 then wordOf (s.pbaVectors i) (o / 8) else 0
  | (.attention g, o) => if o < 0x10 then wordOf (s.attention g) (o / 8) else 0
  | (.reserved, _) => 0

/-- A read of `len` bytes within one aligned word of BAR0 of instance i: one completion (R170). An 8-byte read of the
CLAIM word is a claim; a shorter one returns zeros and claims nothing (R265). -/
def State.pageRead (s : State) (i off len tag : Nat) : State :=
  let base := off / 8 * 8
  if pageAt i base = (.claim, 0) then
    (if len = 8 then (s.claimNow i).answerRead i tag .sc 8 (le 8 (s.claimWord i))
     else s.answerRead i tag .sc len (zeros len))
  else s.answerRead i tag .sc len (slice (le 8 (s.pageWord i base)) (off % 8) len)

/-- A read of BAR4 of instance i (R107): 8 bytes at a slot of a context return its DURABLE, any other read zeros. -/
def State.bar4Read (s : State) (i off len tag : Nat) : State :=
  s.answerRead i tag .sc len (
    if len = 8 ∧ off % 8 = 0 ∧ off / 8 < s.get Reg.effCtxCount i then
      le 8 (s.get Reg.ctxDurable (s.get Reg.effCtxFirst i + off / 8))
    else zeros len)

/-! ### Writes -/

/-- The enabled bytes of a write. -/
def enabledBytes (data : List (Option Byte)) : Nat := (data.filter (·.isSome)).length

/-- The word `old` with the enabled bytes of a write at byte `at8` of it. -/
def mergeWord (old at8 : Nat) (data : List (Option Byte)) : Nat :=
  fromLe ((le 8 old).zipIdx.map (fun x =>
    if at8 ≤ x.2 then ((data[x.2 - at8]?).bind id).getD x.1 else x.1))

/-- Byte b of the word is written. -/
def writesByte (at8 : Nat) (data : List (Option Byte)) (b : Nat) : Bool :=
  decide (at8 ≤ b) && (data[b - at8]?).any (·.isSome)

/-- A word of the MSI-X table is written; a change of the mask bit masks or unmasks the vector (R270). -/
def State.msixWrite (s : State) (i o at8 : Nat) (data : List (Option Byte)) : State :=
  let v := o / 16
  if s.msixEntries i ≤ v then s
  else
    let w := mergeWord (s.msixPage i o) at8 data
    let put (s : State) (k x : Nat) : State :=
      { s with host := { s.host with msixTable := Tbl.put s.host.msixTable ((i * 256 + v) * 4 + k) x } }
    if o % 16 < 8 then put (put s 0 (w % 4294967296 / 4 * 4)) 1 (w / 4294967296)
    else
      let open' := s.host.vecOpen.mem (i * 256 + v)
      let s := put s 2 (w % 4294967296)
      if open' = bit w 32 then
        (if bit w 32 then s.msixMask i (.vector (Fin.ofNat 256 v)) else s.msixUnmask i (.vector (Fin.ofNat 256 v)))
      else s

/-- A word of the claim/complete page is written (Table 11.6). -/
def State.claimWrite (s : State) (i o at8 : Nat) (data : List (Option Byte)) : State :=
  if o = 0x08 then s.complete i (enabledBytes data) (mergeWord 0 at8 data)
  else if o = 0x18 then (if writesByte at8 data 0 then s.selfHoldWrite i (mergeWord 0 at8 data) else s)
  else if 0x800 ≤ o ∧ o < 0xA00 ∧ i = 0 then
    let w := mergeWord (Tbl.getD s.events.cpuPrio ((o - 0x800) / 8) 0) at8 data
    s.modEvents (fun e => { e with cpuPrio := Tbl.put e.cpuPrio ((o - 0x800) / 8) w })
  else s

/-- A word of a channel block is written (Table 12.1). -/
def State.chanWrite (s : State) (i o at8 : Nat) (data : List (Option Byte)) : State :=
  let j := o / 0x400
  let f := o % 0x400
  let v := mergeWord 0 at8 data
  if f = 0 then s.dmaDoorbell i j (enabledBytes data) v
  else if f = 0x10 then s.blockCommand i j (enabledBytes data) (v % 8)
  else if f = 0x18 then s.softPulse i j v
  else if f = 0x40 ∨ f = 0x48 then
    match s.chanOf i j with
    | some k => s.shadowWrite k (f == 0x48)
        (mergeWord (s.get (if f = 0x48 then Reg.chCtrlShadow else Reg.chRingShadow) k) at8 data)
    | none => s.ignoreDoorbell i
  else s

/-- The REQUEST on the port of instance i starts (R461). -/
def State.lexStart (s : State) (i : Fin 256) (w : Nat) : State :=
  let p := s.lexPort i.val
  let n := bits w 59 48
  match bits w 61 60 with
  | 1 => s.portRead i (bit w 63) (bits w 27 0) (bits p.row 31 0) (bits p.row 63 32) n
  | 2 => s.portWrite i (bit w 63) (bit w 62) (bits w 27 0) (bits p.row 31 0) (bits p.row 63 32) n p.data
  | _ => s.portRequest i.val (bit w 63) w p.row 0 (fun s _ => s)

/-- A word of the host Lexicon port is written (R461); while BUSY the write is discarded and counted. -/
def State.lexWritePage (s : State) (i : Fin 256) (o at8 : Nat) (data : List (Option Byte)) : State :=
  let p := s.lexPort i.val
  if o ≠ 0 ∧ o ≠ 0x08 ∧ o < 0x800 then s
  else if p.busy then s.bump Reg.lexPortCollisions i.val
  else if o = 0 then s.lexStart i (mergeWord p.request at8 data)
  else if o = 0x08 then s.putLexPort i.val { p with row := mergeWord p.row at8 data }
  else
    let w := le 8 (mergeWord (field p.data (o - 0x800) 8) at8 data)
    s.putLexPort i.val { p with data := slice p.data 0 (o - 0x800) ++ w ++ p.data.drop (o - 0x800 + 8) }

/-- A write within one aligned word of BAR0 of instance i takes effect; writes to other offsets are discarded (R200). -/
def State.pageWrite (s : State) (i : Fin 256) (off : Nat) (data : List (Option Byte)) : State :=
  let at8 := off % 8
  match pageAt i.val (off / 8 * 8) with
  | (.lexicon, o) => s.lexWritePage i o at8 data
  | (.claim, o) => s.claimWrite i.val o at8 data
  | (.doorbells, o) => s.queueDoorbell i.val (o / 8) (enabledBytes data) (mergeWord 0 at8 data)
  | (.channels, o) => s.chanWrite i.val o at8 data
  | (.msix, o) => s.msixWrite i.val o at8 data
  | _ => s

/-- A write of BAR0 is a doorbell: outside A0 its arrival latches wake source 13 (Table 11.9). -/
def doorbellAt (i off : Nat) : Bool :=
  match pageAt i (off / 8 * 8) with
  | (.doorbells, _) => true
  | (.channels, o) => o % 0x400 == 0
  | _ => false

/-- An offset lies in the host Lexicon port of function i. -/
def inLexPage (i off : Nat) : Bool := (pageAt i off).1 == .lexicon

/-- An access to a BAR of function i is decoded (row 5 of Table 7.8, R214, R432). -/
def State.accepts (s : State) (i : Nat) (b : Bar) (off : Nat) : Bool :=
  if b = .bar0 ∧ inLexPage i off = true then s.lexOn i && (i == 0 || !s.security.recovery) else s.decodes i

/-- An access breaks row 7 of Table 7.8. -/
def bar0Breaks (b : Bar) (off len : Nat) : Bool := b == .bar0 && decide (8 < off % 8 + len)

end Sys2Proof.Machine
end

