-- ==== Sys2Proof/Machine/ConfigSpace.lean ====
section
/-!
DEFINITION. What the host port reports of itself (spec/07_host_port.md): the identifiers of Table 7.2, the capability
chains of Tables 7.3 and 7.4 with their device values, the BAR sizes that may be chosen, the credits of Table 7.6, and the
readiness times. The spec gives offsets, IDs, sizes and values; the places of the fields within a register are those of the
base specification (PRESUMED, log 96). No command of the table reads configuration space: `State.configWord` says what a
read of it returns.
-/
namespace Sys2Proof.Machine

/-! ### Capability chains -/

/-- A capability structure: its offset, its ID and its size. -/
structure Capability where
  offset : Nat
  id : Nat
  size : Nat
deriving DecidableEq, Repr

/-- The PF's capability chain (Table 7.3). -/
def pfCapabilities : List Capability :=
  [⟨0x040, 0x01, 0x08⟩, ⟨0x050, 0x11, 0x0C⟩, ⟨0x060, 0x10, 0x3C⟩, ⟨0x100, 0x0001, 0x48⟩, ⟨0x148, 0x0003, 0x0C⟩,
   ⟨0x158, 0x0004, 0x10⟩, ⟨0x168, 0x000E, 0x08⟩, ⟨0x170, 0x0010, 0x40⟩, ⟨0x1B0, 0x0015, 0x10⟩, ⟨0x1C0, 0x0024, 0x10⟩,
   ⟨0x1D0, 0x0018, 0x08⟩, ⟨0x1D8, 0x001E, 0x10⟩, ⟨0x1E8, 0x0022, 0x0C⟩, ⟨0x200, 0x0019, 0x30⟩, ⟨0x230, 0x0025, 0x10⟩,
   ⟨0x240, 0x0026, 0x30⟩, ⟨0x270, 0x002A, 0x30⟩, ⟨0x2A0, 0x0031, 0x20⟩, ⟨0x2C0, 0x0027, 0x48⟩, ⟨0x310, 0x002F, 0x0C⟩,
   ⟨0x320, 0x0032, 0x20⟩]

/-- A VF's capability chain (Table 7.4). -/
def vfCapabilities : List Capability :=
  [⟨0x050, 0x11, 0x0C⟩, ⟨0x060, 0x10, 0x3C⟩, ⟨0x100, 0x0001, 0x48⟩, ⟨0x148, 0x000E, 0x08⟩]

/-- The capability chain of function i. -/
def capabilitiesOf (i : Nat) : List Capability := if i = 0 then pfCapabilities else vfCapabilities

/-- The capability that a register offset lies in. -/
def capabilityAt (i off : Nat) : Option Capability :=
  (capabilitiesOf i).find? (fun c => decide (c.offset ≤ off) && decide (off < c.offset + c.size))

/-- The next pointer of a capability: the next of its list in table order, zero in the last (R163). Capabilities below
0x100 and from 0x100 on are two lists, as the base specification has them. -/
def nextOf (i : Nat) (c : Capability) : Nat :=
  (((capabilitiesOf i).find? (fun d => decide (c.offset < d.offset) &&
    (decide (d.offset < 0x100) == decide (c.offset < 0x100)))).map (·.offset)).getD 0

/-- The first word of a capability. -/
def capabilityHeader (i : Nat) (c : Capability) : Nat :=
  if c.offset < 0x100 then c.id + 0x100 * nextOf i c else c.id + 0x10000 + 0x100000 * nextOf i c

/-! ### Values (Tables 7.1, 7.3, 7.6, 7.10) -/

/-- The times of Readiness Time Reporting in µs: reset, DL_Up, FLR, D3hot to D0 (R179). -/
def readinessMicroseconds : List Nat := [1000, 1000, 100000, 1000]

/-- The entries of Power Budgeting in 0.1 W: D0 maximum, D0 typical, D0 in A1, D3hot in A3 (Table 7.3). -/
def powerBudget : List Nat := [720, 550, 140, 55]

/-- L1 (Table 7.1), in µs: the range of its exit latency, common-mode restore time and T_POWER_ON. -/
def l1ExitLatency : Nat × Nat := (8, 16)
def commonModeRestore : Nat := 10
def tPowerOn : Nat := 40

/-- The maximum snoop and no-snoop latency in ns (Table 7.3). -/
def maxLatency : Nat := 1000000

/-- Lane margining (Table 7.1): timing steps and their span in 0.01 UI, voltage steps and their span in mV. -/
def marginTiming : Nat × Nat := (32, 50)
def marginVoltage : Nat × Nat := (64, 250)

/-- Receive credits (Table 7.6): posted header, posted data, non-posted header, non-posted data, with their scale
factors; completions have infinite credits. -/
def creditTable : List (Nat × Nat) := [(256, 1), (4096, 4), (512, 1), (128, 1)]

/-- The credits advertised (R168): with Scaled Flow Control those of the table, without it at most the largest unscaled
ones, 127 headers and 2,047 data credits (PRESUMED, log 96). -/
def creditsAdvertised (scaled : Bool) : List Nat :=
  creditTable.zipIdx.map (fun x => if scaled then x.1.1 else min x.1.1 (if x.2 % 2 = 0 then 127 else 2047))

/-! ### Registers -/

/-- The base and the kind of a 64-bit BAR: its low word. -/
def barLow (base : Nat) (prefetchable : Bool) : Nat := base % 4294967296 / 16 * 16 + 4 + 8 * b2n prefetchable

/-- A word of the header of function i (Table 7.2). A VF's IDs and BARs are those of the SR-IOV rules. -/
def State.headerWord (s : State) (i off : Nat) : Nat :=
  let b := s.host.bases
  let pf (v : Nat) : Nat := if i = 0 then v else 0
  match off with
  | 0x00 => if i = 0 then 0x1FB4 + 0x10000 * 0x7208 else 0xFFFFFFFF
  | 0x04 => 4 * b2n (s.host.busMaster.mem i) + 0x100000
  | 0x08 => 0x10 + 0x100 * 0x058000
  | 0x10 => pf (barLow b.pf0 false)
  | 0x14 => pf (b.pf0 / 4294967296)
  | 0x18 => pf (barLow b.pf2 true)
  | 0x1C => pf (b.pf2 / 4294967296)
  | 0x20 => pf (barLow b.pf4 false)
  | 0x24 => pf (b.pf4 / 4294967296)
  | 0x2C => s.host.subVendor + 0x10000 * s.host.subId
  | 0x34 => if i = 0 then 0x40 else 0x50
  | _ => 0

/-- Word `o` of the MSI-X capability of function i. -/
def State.msixCapWord (s : State) (i o : Nat) : Nat :=
  match o with
  | 4 => if i = 0 then 0x400000 else 0x8000
  | 8 => if i = 0 then 0x401000 else 0x9000
  | _ => 0x10000 * (s.msixEntries i - 1) + 0x40000000 * b2n (s.host.fnMask.mem i) +
    0x80000000 * b2n (s.host.msixEnable.mem i)

/-- Word `o` of the PCI Express capability: an endpoint with 512 B of payload, Extended Tag, role-based error reporting and
FLR; x16 at 64 GT/s with ASPM L1; Completion Timeout ranges A to D and Disable, LTR, and 10-bit tags. -/
def State.expressWord (s : State) (o : Nat) : Nat :=
  match o with
  | 0x00 => 0x20000
  | 0x04 => 2 + 0x20 + 0x8000 + 0x10000000
  | 0x08 => 0x1000 * (Nat.log2 s.host.mrrs - 7)
  | 0x0C => 6 + 0x10 * 16 + 0x800 + 0x20000 + 0x40000
  | 0x10 => 0x10000 * (s.get Reg.hostLinkRate + 0x10 * s.get Reg.hostLinkWidth)
  | 0x24 => 0xF + 0x10 + 0x800 + 0x10000 + 0x20000
  | 0x28 => 0x1000 * b2n s.host.tag10
  | _ => 0

/-- Word `o` of the SR-IOV capability (Tables 7.2 and 7.5). -/
def State.sriovWord (s : State) (o : Nat) : Nat :=
  let b := s.host.bases
  match o with
  | 0x08 => b2n s.host.vfEnable + 8 * b2n s.host.vfMem + 0x10
  | 0x0C => 255 + 0x10000 * 255
  | 0x10 => s.host.numVfs
  | 0x14 => 1 + 0x10000 * 1
  | 0x18 => 0x10000 * 0x7209
  | 0x1C => 0x11
  | 0x20 => 1
  | 0x24 => barLow b.vf0 false
  | 0x28 => b.vf0 / 4294967296
  | 0x2C => barLow b.vf2 true
  | 0x30 => b.vf2 / 4294967296
  | 0x34 => barLow b.vf4 false
  | 0x38 => b.vf4 / 4294967296
  | _ => 0

/-- The sizes that a Resizable BAR offers, as capability bits: 2^n MiB is bit n + 4 (R166). -/
def resizeSizes (low high : Nat) : Nat := (List.range (high + 1 - low)).foldl (fun a n => a + 2 ^ (low + n + 4)) 0

/-- Word `o` of a capability of function i. -/
def State.capabilityWord (s : State) (i : Nat) (c : Capability) (o : Nat) : Nat :=
  if o = 0 ∧ c.id ≠ 0x11 ∧ c.id ≠ 0x10 ∧ c.id ≠ 0x01 then capabilityHeader i c
  else if c.offset < 0x100 then
    (if o = 0 then capabilityHeader i c else 0) +
    (match c.id with
     | 0x01 => if o = 0 then 0xC0030000 else 3 * b2n s.host.d3 + 8 + 0x100 * b2n s.host.pmeEn + 0x8000 * b2n s.events.pmeStatus
     | 0x11 => s.msixCapWord i o
     | _ => s.expressWord o)
  else match c.id with
  | 0x0001 => if o = 4 then Tbl.getD s.host.aerFatal i 0 else if o = 0x10 then Tbl.getD s.host.aerCorr i 0 else 0
  | 0x0003 => s.get Reg.deviceSerial / 4294967296 ^ (o / 4 - 1) % 4294967296
  | 0x0004 => if o = 8 then powerBudget.headD 0 else 0
  | 0x0010 => s.sriovWord o
  | 0x0015 => if o = 4 then resizeSizes 16 22 else if o = 8 then 2 + 0x20 + 0x100 * s.host.pfWin else 0
  | 0x0024 => if o = 4 then resizeSizes 10 22 else if o = 8 then 2 + 0x20 + 0x100 * s.host.vfWin else 0
  | 0x0022 => if o = 4 then 0x80000000 else 0
  | 0x002F => if o = 4 then 0x30 else if o = 8 then 0x20 * b2n s.host.tag14 else 0
  | _ => 0

/-- The 4-byte word of configuration space of function i at an offset: header, capabilities, and zero elsewhere. -/
def State.configWord (s : State) (i off : Nat) : Nat :=
  let o := off / 4 * 4
  if o < 0x40 then s.headerWord i o
  else match capabilityAt i o with
    | some c => s.capabilityWord i c (o - c.offset)
    | none => 0

end Sys2Proof.Machine
end

