-- ==== Sys2Proof/Machine/Posted.lean ====
section
/-!
DEFINITION. The posted path of the host port (R24, R113, R171): what the host sends takes effect in the order of its
arrival, behind a write that waits for the governor or a publish that waits for an entry; and the commands that come by
the fast-path pages, the doorbells and the MSI-X tables.
-/
namespace Sys2Proof.Machine

/-! ### The commands of the posted path -/

/-- The instance of a command of the fast-path pages, of BAR4, of a channel block or of an MSI-X table. -/
def pageOf : Instr → Option Nat
  | .appendPublish i _ _ _ _ => some i
  | .appendTrim i _ _ _ _ => some i
  | .queueDoorbell i _ _ _ => some i
  | .complete i _ _ => some i
  | .selfHoldWrite i _ => some i
  | .msixMask i _ => some i
  | .msixUnmask i _ => some i
  | .dmaDoorbell i _ _ _ => some i
  | .softPulse i _ _ => some i
  | .dmaEnable (.block i _ _) => some i
  | .dmaDisable (.block i _ _) => some i
  | .dmaResume (.block i _ _) => some i
  | .dmaSkip (.block i _ _) => some i
  | .dmaAbort (.block i _ _) => some i
  | .shadowWrite (.block i _ _) _ _ => some i
  | _ => none

/-- The instance whose host Lexicon port a command uses. -/
def lexInstOf : Instr → Option Nat
  | .lexiconRead i _ _ _ _ _ => some i
  | .lexiconWrite i _ _ _ _ _ _ => some i
  | .debugChallengeRead p => (match p with | .hostPf => some 0 | .hostVf i => some i | _ => none)
  | c => (match requestOf c with
    | some a => (match a.q.path with | .hostPf => some 0 | .hostVf i => some i | _ => none)
    | none => none)

/-- The instance of a write of BAR0 or BAR4 that the posted path holds, unless its Lexicon port still takes it. -/
def State.barWriteOf (s : State) : Instr → Option Nat
  | .hostWrite _ ⟨.bar2, _⟩ _ _ _ => none
  | .hostWrite i ⟨b, off⟩ _ _ _ => if b = .bar0 ∧ inLexPage i.val off = true ∧ s.lexOn i.val = true then none else some i.val
  | _ => none

/-- A command that waited is no longer accepted: its instance is RESETTING (R214). Accepted image writes and reads go
on. -/
def State.waitsInVain (s : State) (c : Instr) : Bool :=
  match (pageOf c).orElse (fun _ => s.barWriteOf c) with
  | some i => s.resetting i
  | none => match lexInstOf c with
    | some i => s.resetting i && !(s.lexOn i)
    | none => false

/-- SHADOW_RING or SHADOW_CTRL of a channel block of instance i is written; of a shorter write the low bytes change
(log 43). -/
def State.blockShadow (s : State) (i j size : Nat) (ctrl : Bool) (v : Nat) : State :=
  match s.chanOf i j with
  | some k =>
    let old := s.get (if ctrl then Reg.chCtrlShadow else Reg.chRingShadow) k
    let m := 256 ^ min size 8
    s.shadowWrite k ctrl (old / m * m + v % m)
  | none => s.ignoreDoorbell i

/-- A doorbell write of BAR4 (R106): bit 63 of its value parts publish and trim; none while it waits. -/
def State.takeDoorbell (s : State) (i off : Nat) (data : List (Option Byte)) : Option State :=
  let v := fromLe (data.map (·.getD 0))
  let x := v % 9223372036854775808
  let all := data.all (·.isSome)
  let trim := bit v 63
  if s.doorbellWaits i off data.length all trim x then none else some (s.appendDoorbell i off data.length all trim x)

/-- A host write at the head of the posted path, at its offset in its BAR. A write of BAR0 or BAR4 whose buffered payload
has an uncorrectable ECC error is discarded (row 13, log 97). -/
def State.takeHostWrite (s : State) (i : Fin 256) (b : Bar) (off : Nat) (data : List (Option Byte)) (eccBad : Bool) :
    Option State :=
  match b with
  | .bar2 => s.tryWrite i off data eccBad
  | .bar0 => if eccBad then some ((s.aerUncor 0 22).raise 0 0x004 0) else some (s.pageWrite i off data)
  | .bar4 => if eccBad then some ((s.aerUncor 0 22).raise 0 0x004 0) else s.takeDoorbell i off data

/-- A host read at the head of the posted path, at its offset in its BAR. -/
def State.takeHostRead (s : State) (i : Fin 256) (b : Bar) (off len tag : Nat) : State :=
  match b with
  | .bar2 => s.hostReadNow (.hostRead i ⟨b, off⟩ len tag) i off len tag
  | .bar0 => s.pageRead i off len tag
  | .bar4 => s.bar4Read i off len tag

/-- A command at the head of the posted path takes effect; none while it has to wait. -/
def State.takeNow (s : State) (c : Instr) : Option State :=
  match c with
  | .hostWrite i ⟨b, off⟩ data _ eccBad => s.takeHostWrite i b off data eccBad
  | .hostRead i ⟨b, off⟩ len tag => some (s.takeHostRead i b off len tag)
  | .appendPublish i off len all v =>
    if s.doorbellWaits i off len all false v then none else some (s.appendDoorbell i off len all false v)
  | .appendTrim i off len all v => some (s.appendDoorbell i off len all true v)
  | .queueDoorbell i j size v => some (s.queueDoorbell i j size v)
  | .claim i size => some (s.claim i size)
  | .complete i size v => some (s.complete i size v)
  | .selfHoldWrite i v => some (s.selfHoldWrite i v)
  | .msixMask i what => some (s.msixMask i what)
  | .msixUnmask i what => some (s.msixUnmask i what)
  | .dmaDoorbell i j size v => some (s.dmaDoorbell i j size v)
  | .softPulse i j v => some (s.softPulse i j v)
  | .dmaEnable (.block i j size) => some (s.blockCommand i j size 1)
  | .dmaDisable (.block i j size) => some (s.blockCommand i j size 2)
  | .dmaResume (.block i j size) => some (s.blockCommand i j size 3)
  | .dmaSkip (.block i j size) => some (s.blockCommand i j size 4)
  | .dmaAbort (.block i j size) => some (s.blockCommand i j size 5)
  | .shadowWrite (.block i j size) ctrl v => some (s.blockShadow i j size ctrl v)
  | .lexiconRead i notify index row off len => some (s.portRead i notify index row off len)
  | .lexiconWrite i notify last index row off data => some (s.portWrite i notify last index row off data.length data)
  | .debugChallengeRead p => some (s.challengeRead p)
  | c => match requestOf c with
    | some a => some (s.runAsk a)
    | none => some s

/-- The waiting commands are taken in order until one has to wait. -/
def State.postedGo (s : State) : List Instr → State
  | [] => s
  | c :: r =>
    if s.waitsInVain c then s.postedGo r
    else match s.takeNow c with
      | some t => t.postedGo r
      | none => s.modHost (fun h => { h with posted := c :: r })

/-- The posted path is tried again. -/
def State.runPosted (s : State) : State := (s.modHost (fun h => { h with posted := [] })).postedGo s.host.posted

/-- A command of the posted path arrives while nothing waits there: it is taken, or waits. -/
def State.takeOrWait (s : State) (c : Instr) : State :=
  s.posted c (fun s => match s.takeNow c with
    | some t => t
    | none => s.modHost (fun h => { h with posted := [c] }))

/-- An access to a BAR of instance i: before the cut, and while the function decodes (rows 4 and 5 of Table 7.8). -/
def State.barCall (s : State) (i size : Nat) (write : Bool) (c : Instr) : State :=
  s.beforeCut (fun s => if s.decodes i then s.takeOrWait c else s.unsupported i 0 size write)

/-- An access to a page of BAR0: one of more than 8 bytes falls under row 7. -/
def State.pageCall (s : State) (i size : Nat) (write : Bool) (c : Instr) : State :=
  if size = 0 ∨ 8 < size then s.beforeCut (fun s => s.badTlp .bar0Shape i 0 write) else s.barCall i size write c

/-- The arrival of a doorbell outside A0 latches wake source 13. -/
def State.doorbellCall (s : State) (f : State → State) : State := s.beforeCut (fun s => f (s.wakeOutsideA0 13))

/-- A write of BAR4 lies in it and has the form of a memory write (R157). -/
def State.bar4Call (s : State) (i off len : Nat) (c : Instr) : State :=
  if len = 0 ∨ 2 ^ (if i = 0 then s.host.pfBar4 else s.host.vfBar4) < off + len then s
  else s.beforeCut (fun s =>
    if 512 < len then s.badTlp .malformed i 0 true
    else s.doorbellCall (fun s => s.barCall i len true c))

/-! ### Host reads and writes -/

/-- HOST_READ (R170, R107, R200). The request was decoded at arrival: what waits keeps its offset (Table 7.11). A request
that no BAR decodes is not the block's. A request may cross a 4 KiB boundary, as in the worked example of R173 (DEDUCED,
log 46). -/
def execHostRead (i : Fin 256) (a : BusAddr) (len tag : Nat) (s : State) : Host.Outcome State Fault Refusal :=
  actRom s (fun s => s.beforeCut (fun s =>
    match s.barOffset i.val a.bar a.addr len with
    | none => s
    | some off =>
      if 4096 < len then s.badTlp .malformed i.val tag false
      else
        let s := if a.bar = .bar2 then s.wakeOutsideA0 14 else s
        if !(s.accepts i.val a.bar off) || bar0Breaks a.bar off len then s.unsupported i.val tag len false
        else s.takeOrWait (.hostRead i ⟨a.bar, off⟩ len tag)))

/-- The wake source that the arrival of a write of a BAR latches outside A0 (Table 11.9). -/
def State.writeWakes (s : State) (i : Nat) (bar : Bar) (off : Nat) : State :=
  match bar with
  | .bar2 => s.wakeOutsideA0 14
  | .bar4 => s.wakeOutsideA0 13
  | .bar0 => if doorbellAt i off then s.wakeOutsideA0 13 else s

/-- HOST_WRITE (R54, R106, R200): rows 2 and 5 to 7 of Table 7.8 decide at arrival, the rest when the write's turn in the
posted path comes. -/
def execHostWrite (i : Fin 256) (a : BusAddr) (data : List (Option Byte)) (ep eccBad : Bool) (s : State) :
    Host.Outcome State Fault Refusal :=
  actRom s (fun s => s.beforeCut (fun s =>
    match s.barOffset i.val a.bar a.addr data.length with
    | none => s
    | some off =>
      if 512 < data.length ∨ enablesFit off data = false then s.badTlp .malformed i.val 0 true
      else
        let s := s.writeWakes i.val a.bar off
        if !(s.accepts i.val a.bar off) then s.unsupported i.val 0 data.length true
        else if ep then s.aerUncor i.val 12
        else if bar0Breaks a.bar off data.length then s.unsupported i.val 0 data.length true
        else s.takeOrWait (.hostWrite i ⟨a.bar, off⟩ data ep eccBad)))

/-! ### Commands of the pages -/

/-- APPEND_PUBLISH (R108). -/
def execAppendPublish (i : Fin 256) (off len : Nat) (allBytes : Bool) (value : Nat) (s : State) :
    Host.Outcome State Fault Refusal :=
  actRom s (fun s => s.bar4Call i off len (.appendPublish i off len allBytes value))

/-- APPEND_TRIM (R108). -/
def execAppendTrim (i : Fin 256) (off len : Nat) (allBytes : Bool) (value : Nat) (s : State) :
    Host.Outcome State Fault Refusal :=
  actRom s (fun s => s.bar4Call i off len (.appendTrim i off len allBytes value))

/-- APPEND_COAL_TIMEOUT (R115). -/
def execAppendCoalTimeout (n : Nat) (s : State) : Host.Outcome State Fault Refusal :=
  act s (fun s => s.beforeCut (fun s => s.appendCoalExpiry n))

/-- PENDING_ENTRY_FREE (R113): the waiting publish is tried again, and what waits behind it follows. -/
def execPendingEntryFree (s : State) : Host.Outcome State Fault Refusal := act s (fun s => s.beforeCut State.runPosted)

/-- GOVERNOR_ADMIT (R54): what waits for the governor is tried again: received copies, DMA writes and the posted path, and
reads behind it. -/
def execGovernorAdmit (s : State) : Host.Outcome State Fault Refusal :=
  act s (fun s => s.beforeCut (fun s => ((s.runRxWait.pumpAllWrites).runPosted).runReadWait))

/-- QUEUE_DOORBELL (R254). -/
def execQueueDoorbell (i : Fin 256) (j : Nat) (size value : Nat) (s : State) : Host.Outcome State Fault Refusal :=
  actRom s (fun s => s.doorbellCall (fun s => s.pageCall i size true (.queueDoorbell i j size value)))

/-- QUEUE_COAL_TIMEOUT (R259). -/
def execQueueCoalTimeout (j : Fin 4096) (s : State) : Host.Outcome State Fault Refusal :=
  act s (fun s => s.beforeCut (fun s => s.queueCoalExpiry j))

/-- CLAIM (R265): a read, in its turn behind posted writes (R171). -/
def execClaim (i : Fin 256) (size : Nat) (s : State) : Host.Outcome State Fault Refusal :=
  actRom s (fun s => s.pageCall i size false (.claim i size))

/-- COMPLETE (R266). -/
def execComplete (i : Fin 256) (size value : Nat) (s : State) : Host.Outcome State Fault Refusal :=
  actRom s (fun s => s.pageCall i size true (.complete i size value))

/-- SELF_HOLD_WRITE (R271). -/
def execSelfHoldWrite (i : Fin 256) (value : Nat) (s : State) : Host.Outcome State Fault Refusal :=
  actRom s (fun s => s.pageCall i 8 true (.selfHoldWrite i value))

/-- A mask is written: in the MSI-X table, on the posted path, or in configuration space. -/
def State.maskCall (s : State) (i : Nat) (what : MaskWhat) (c : Instr) (f : State → State) : State :=
  match what with
  | .vector _ => s.pageCall i 4 true c
  | _ => s.configCall i f

/-- MSIX_MASK (R270). -/
def execMsixMask (i : Fin 256) (what : MaskWhat) (s : State) : Host.Outcome State Fault Refusal :=
  actRom s (fun s => s.maskCall i what (.msixMask i what) (fun s => s.msixMask i what))

/-- MSIX_UNMASK (R268). -/
def execMsixUnmask (i : Fin 256) (what : MaskWhat) (s : State) : Host.Outcome State Fault Refusal :=
  actRom s (fun s => s.maskCall i what (.msixUnmask i what) (fun s => s.msixUnmask i what))

/-- INFLIGHT_EXPIRY (R270). -/
def execInflightExpiry (i : Fin 256) (vec : Fin 256) (s : State) : Host.Outcome State Fault Refusal :=
  act s (fun s => s.inflightExpiry i vec)

/-! ### The wake watcher (R273) -/

/-- WAKE_LATCH (R273): a source of Table 11.9; host doorbells, window accesses and records count outside A0 only. -/
def execWakeLatch (src : Fin 32) (s : State) : Host.Outcome State Fault Refusal :=
  actRom s (fun s =>
    if src.val = 13 ∨ src.val = 14 ∨ src.val = 19 then s.wakeOutsideA0 src
    else if src.val < 22 then s.wake src else s)

/-- WAKE_TIMER_EXPIRY (R273). -/
def execWakeTimerExpiry (s : State) : Host.Outcome State Fault Refusal :=
  act s (fun s => if s.get Reg.wakeTimer ≠ 0 ∧ s.get Reg.wakeTimer = s.clauseNow then s.wake 16 else s)

/-- The edge of DMA_GPIO_MODE (Table 12.15): 0 rising, 1 falling, 2 both, 3 none. -/
def gpioEdge (mode : Nat) (was now : Bool) : Bool :=
  match mode with
  | 0 => !was && now
  | 1 => was && !now
  | 2 => was != now
  | _ => false

/-- A GPIO has shown a level for 320 ns: wake source n by WAKE_GPIO_MODE, line 0x40 + n by DMA_GPIO_MODE. Before the first
level the ball is low, by its pull (Table 19.3). -/
def State.gpioInput (s : State) (n : Nat) (level : Bool) : State :=
  let was := bit s.events.gpio n
  let s := s.modEvents (fun e => { e with gpio := setBit e.gpio n level })
  let s := s.onlyIf (gpioMeets (bits (s.get Reg.wakeGpioMode) (2 * n + 1) (2 * n)) was level) (fun s => s.wake n)
  s.onlyIf (gpioEdge (bits (s.get Reg.dmaGpioMode) (2 * n + 1) (2 * n)) was level && !s.security.recovery)
    (fun s => s.pulseLine (0x40 + n))

/-- GPIO_INPUT (R273). -/
def execGpioInput (n : Fin 8) (level : Bool) (s : State) : Host.Outcome State Fault Refusal :=
  actRom s (fun s => s.gpioInput n level)

/-! ### DMA (R279, R287, R289, R295, R298) -/

/-- DMA_DOORBELL (R279). -/
def execDmaDoorbell (i : Fin 256) (j size value : Nat) (s : State) : Host.Outcome State Fault Refusal :=
  actRom s (fun s => s.doorbellCall (fun s => s.pageCall i size true (.dmaDoorbell i j size value)))

/-- A channel command or a shadow write, through the block of its channel or through the Lexicon. -/
def State.chanCall (s : State) (v : ChanVia) (c : Instr) : State :=
  match v with
  | .block i _ size => s.pageCall i size true c
  | .lexicon _ _ => s.direct c

/-- DMA_ENABLE (R298). -/
def execDmaEnable (v : ChanVia) (s : State) : Host.Outcome State Fault Refusal := actRom s (fun s => s.chanCall v (.dmaEnable v))

/-- DMA_DISABLE (R298). -/
def execDmaDisable (v : ChanVia) (s : State) : Host.Outcome State Fault Refusal :=
  actRom s (fun s => s.chanCall v (.dmaDisable v))

/-- DMA_RESUME (R298). -/
def execDmaResume (v : ChanVia) (s : State) : Host.Outcome State Fault Refusal := actRom s (fun s => s.chanCall v (.dmaResume v))

/-- DMA_SKIP (R298). -/
def execDmaSkip (v : ChanVia) (s : State) : Host.Outcome State Fault Refusal := actRom s (fun s => s.chanCall v (.dmaSkip v))

/-- DMA_ABORT (R298). -/
def execDmaAbort (v : ChanVia) (s : State) : Host.Outcome State Fault Refusal := actRom s (fun s => s.chanCall v (.dmaAbort v))

/-- SHADOW_WRITE (R289). -/
def execShadowWrite (v : ChanVia) (ctrl : Bool) (value : Nat) (s : State) : Host.Outcome State Fault Refusal :=
  actRom s (fun s => s.chanCall v (.shadowWrite v ctrl value))

/-- SOFT_PULSE (R295). -/
def execSoftPulse (i : Fin 256) (j value : Nat) (s : State) : Host.Outcome State Fault Refusal :=
  actRom s (fun s => s.pageCall i 8 true (.softPulse i j value))

/-- EVENT_FABRIC_PULSE (R287): lines 0x5B to 0xBF never pulse (Table 12.11). -/
def execEventFabricPulse (line : Fin 256) (s : State) : Host.Outcome State Fault Refusal :=
  act s (fun s => if 0x5B ≤ line.val ∧ line.val < 0xC0 then s else s.pulseLine line)

/-- DMA_BURST_ISSUE (R286). -/
def execDmaBurstIssue (s : State) : Host.Outcome State Fault Refusal := act s State.burstIssue

end Sys2Proof.Machine
end

