-- ==== Sys2Proof/Machine/Boundary.lean ====
section
/-!
DEFINITION. The clause tick (spec/02_clause_tick.md): the work list of Table 2.2 with its deferral (R40 to R44), what
takes effect at a clause boundary, the cut (R61 to R64), and the loss and return of the timebase (R38, R39).
-/
namespace Sys2Proof.Machine

/-- The clock's own state changed by `f`. -/
def State.modClock (s : State) (f : Clock → Clock) : State := { s with clock := f s.clock }

/-- CLAUSE_COUNT advances (R36). -/
def State.advance (s : State) : State := s.modClock (fun c => { c with clause := c.clause + 1, sub := 0, fired := [] })

/-! ### What takes effect at a boundary -/

/-- A seal that fell due in the clause before is written (step 5 of Table 3.2). -/
def State.sealFalls (s : State) : State :=
  if s.persist.sealDue then (s.modPersist (fun p => { p with sealDue := false })).requestSeal .semicolon else s

/-- Queues disabled in the clause before (R257). -/
def State.queuesEnd (s : State) : State :=
  s.each (s.events.run.filter (fun x => x.2.disabling)) (fun s x => s.disableQueue x.1)

/-- Written values, weights, rows, extents and openings that wait for the boundary. -/
def State.boundaryEffects (s : State) : State :=
  let s := s.applyLate
  let s := { s with sched := { s.sched with weightWait := [] } }
  let s := (s.applyRows.applyWitness.applyExtents).windowOpens
  ((s.sendBegins.sealFalls).handoverPump.queuesEnd).drainQueues

/-! ### The items of Table 2.2 -/

/-- The channels whose shadow set is armed. -/
def State.armed (s : State) : List Nat := (s.rowsOf Reg.chCtrlShadow).filter (fun k => bit (s.get Reg.chCtrlShadow k) 63)

/-- The timer lines that pulse at this boundary (Table 12.11). -/
def State.timersDue (s : State) : List Nat :=
  (List.range 8).filter (fun n =>
    let p := s.get Reg.timerPeriod n
    p != 0 && s.clauseNow % p == s.get Reg.timerPhase n)

/-- Item 3: hand-overs (R290) and timer pulses. -/
def State.item3 (s : State) : State :=
  let s := s.each s.armed (fun s k => s.handOver k)
  s.each s.timersDue (fun s n => s.pulseLine (0x48 + n))

/-- A list may start its cycle at this boundary (R237). -/
def State.gateStarts (s : State) (p : Nat) (l : List (Nat × Nat)) : Bool :=
  let base := s.get Reg.gateBase p
  gateCycle l != 0 && decide (base ≤ s.clauseNow) && (s.clauseNow - base) % gateCycle l == 0

/-- Item 4 for port p: the running cycle ends or a list starts (R237, R238). -/
def State.gateStep (s : State) (p : Nat) : State :=
  let q := s.port p
  let next := q.gateNext.getD q.gate
  if s.get Reg.gateEnable p = 1 ∧ q.gateRuns = true then
    if (s.clauseNow - q.gateAt) % gateCycle q.gate = 0 then
      s.putPort p { q with gate := next, gateNext := none, gateAt := s.clauseNow }
    else s
  else if s.get Reg.gateEnable p = 1 ∧ s.gateStarts p next = true then
    s.putPort p { q with gate := next, gateNext := none, gateAt := s.clauseNow, gateRuns := true }
  else
    let q := { q with gateRuns := false }
    let q := if q.gateNext.isSome && s.gateStarts p next then { q with gate := next, gateNext := none } else q
    if q = s.port p then s else s.putPort p q

/-- Item 4: the gate control lists. -/
def State.item4 (s : State) : State := s.each (List.range 10) (fun s p => s.gateStep p)

/-- The rate and the burst of a port, service or governor bucket by its key. -/
def State.bucketRate (s : State) (key : Nat) : Nat × Nat :=
  if key < 10 then (s.get Reg.portRate key, s.get Reg.portBurst key)
  else if key < 2000 then
    let p := (key - 1000) / 64
    let v := (key - 1000) % 64
    (s.svcRateNow p v, s.get Reg.svcBurst (svcRow p v))
  else (s.govRate (key - 2000), 16384)

/-- Item 6: the buckets of ports, services and governor write shapers are refilled (R233); one that has never been used is
full, and the write shaper of a carrier outside SHAPING keeps its tokens (R235). -/
def State.item6 (s : State) : State :=
  s.each ((s.sched.buckets.map (·.1)).filter (fun k => decide (k < 10000))) (fun s k =>
    if decide (2000 ≤ k) && !(s.shaping (k - 2000)) then s.hold k (s.bucketRate k).2
    else s.refill k (s.bucketRate k).1 (s.bucketRate k).2)

/-- A wake GPIO in a level mode latches while its level holds (R273). -/
def State.gpioLevels (s : State) : State :=
  s.each ((List.range 8).filter (fun n =>
    let m := bits (s.get Reg.wakeGpioMode) (2 * n + 1) (2 * n)
    decide (2 ≤ m) && gpioMeets m false (bit s.events.gpio n))) (fun s n => s.wake n)

/-- Item 7: the scan of the wake watcher (R274). The coalescing timers and the ageing of masks are commands of their own. -/
def State.item7 (s : State) : State := s.wakeCopy

/-- One sample of a detector (R389): its run of samples, whether it is reported, and a change of the report. -/
def detect (raw : Bool) (run : Nat) (reported : Bool) : Nat × Bool × Bool :=
  if raw = reported then (0, reported, false)
  else if (if raw then 2 else 8) ≤ run + 1 then (0, raw, true)
  else (run + 1, reported, false)

/-- Whether a lane's detectors report: not in electrical idle, and not on a DISABLED link (R389). -/
def State.detects (s : State) (n : Nat) : Bool :=
  !(bit (s.get Reg.laneStatus n) 6) && s.linkState (linkOf n) != .disabled

/-- The report of a detector of lane n changes: count, source and receive-good mask. -/
def State.reportLane (s : State) (n : Nat) (count source : Nat) (asserted : Bool) : State :=
  if asserted then
    let u := linkOf n
    let x := s.laneNum u (n - firstLane u)
    let s := (s.bump count n).raise 0 source n
    if (s.train u).step = 0 then s else s.modTrain u (fun t => { t with good := setBit t.good x false })
  else s.withdrawUnit 0 source n

/-- Item 12 for lane n. -/
def State.sampleLane (s : State) (n : Nat) : State :=
  let l := s.lane n
  let on := s.detects n
  let a := if on then detect l.losRaw l.losRun l.losReported else (0, false, l.losReported)
  let b := if on then detect l.lolRaw l.lolRun l.lolReported else (0, false, l.lolReported)
  let s := s.modLane n (fun l => { l with losRun := a.1, losReported := a.2.1, lolRun := b.1, lolReported := b.2.1 })
  let s := if a.2.2 then s.reportLane n Reg.losCount 0x0C0 a.2.1 else s
  if b.2.2 then s.reportLane n Reg.lolCount 0x0C1 b.2.1 else s

/-- Item 12: the lanes whose detectors assert, or have not long ceased to. -/
def State.item12 (s : State) : State :=
  s.each ((s.lanes.filter (fun x => x.2.losRaw || x.2.lolRaw || x.2.losReported || x.2.lolReported ||
    x.2.losRun != 0 || x.2.lolRun != 0)).map (·.1)) (fun s n => s.sampleLane n)

/-- Item 11: the seconds of the CRC error counts, and what a carrier link can send by now. -/
def State.item11 (s : State) : State :=
  let s := s.each (s.links.map (·.1)) (fun s u => s.crcRoll u)
  s.each ((s.links.filter (fun x => decide (x.1 < 16) && !(x.2.queue.isEmpty))).map (·.1)) (fun s u => s.pump u)

/-- Item 13: the watcher's request, and one step of the power manager; from the cut a transition goes no further. -/
def State.item13 (s : State) : State := if s.cutPassed then s else s.wakeAsks.powerStep

/-- An item runs; `elapsed` clauses since it ran last. Items 1, 2, 8, 9 and 10 have no work here: the cut and the count
stand with the boundary, and their timers are commands of their own. -/
def State.runItem (s : State) (elapsed : Nat) : Nat → State
  | 3 => s.item3
  | 4 => s.item4
  | 5 => s.governorItem elapsed
  | 6 => s.item6
  | 7 => s.item7
  | 11 => s.item11
  | 12 => s.item12
  | 13 => s.item13
  | _ => s

/-! ### Deferral (R40 to R44) -/

/-- The work budget of a clause in core cycles (R33). -/
def clauseBudget : Nat := 1000

/-- Items with their cycles run in order from `used` cycles on: what starts within the budget with its cycles, what does
not, and the cycles used after them. -/
def startWithin : Nat → List (Nat × Nat) → List (Nat × Nat) × List Nat × Nat
  | used, [] => ([], [], used)
  | used, (k, c) :: r =>
    if used < clauseBudget then
      let t := startWithin (used + c) r
      ((k, c) :: t.1, t.2.1, t.2.2)
    else
      let t := startWithin used r
      (t.1, k :: t.2.1, t.2.2)

/-- More than 32 coalescing timers of one slot are due, or of earlier slots: item 7 or 8 leaves a pass to the next clause
(R44). -/
def over32 (deadlines : List Nat) (now : Nat) : Bool :=
  decide (32 < (deadlines.filter (· == now)).length) || decide (32 < (deadlines.filter (fun d => decide (d < now))).length)

/-- An item has been deferred in this clause: its count grows, and in the fourth clause in a row source 0x013 is raised
(R42). -/
def State.deferItem (s : State) (k : Nat) : State :=
  let n := Tbl.getD s.clock.streak k 0 + 1
  let s := (s.modClock (fun c => { c with streak := Tbl.put c.streak k n })).bump Reg.itemDeferrals k
  if n = 4 then s.raise 0 0x013 0 else s

/-- The largest value of a measure. -/
def State.peak (s : State) (r i v : Nat) : State := if s.get r i < v then s.set r i v else s

/-- The items that run, in their order; each counts the clauses since it ran last (R41). -/
def State.runItems (s : State) : List Nat → State
  | [] => s
  | k :: r =>
    let elapsed := s.clauseNow - Tbl.getD s.clock.ran k 0
    ((s.modClock (fun c => { c with ran := Tbl.put c.ran k c.clause })).runItem elapsed k).runItems r

/-- The clause work list: `cycles` are those that items 1 to 13 take, then the carried passes. -/
def State.workList (s : State) (cycles : List Nat) : State :=
  let cost (k : Nat) : Nat := cycles.getD (k - 1) 0
  let fixed := cost 1 + cost 2 + cost 3 + cost 4
  let passes := cycles.drop 13
  let n := s.clock.carried.length
  let old := startWithin fixed (s.clock.carried.zipIdx.map (fun x => (x.1, passes.getD x.2 0)))
  let timers := (if (s.queueDeadlines.any (· < s.clauseNow)) then [7] else []) ++
    (if (s.ctxDeadlines.any (· < s.clauseNow)) then [8] else [])
  let extra := if old.2.2 < clauseBudget then timers.zip (passes.drop n) else []
  let carry := old.2.2 + extra.foldl (fun a x => a + x.2) 0
  let own := startWithin carry ([5, 6, 7, 8, 9, 10, 11, 12, 13].map (fun k => (k, cost k)))
  let s := s.each ([1, 2, 3, 4].map (fun k => (k, cost k)) ++ old.1 ++ extra ++ own.1) (fun s x =>
    s.peak Reg.itemCyclesMax x.1 (min x.2 65535))
  let s := s.peak Reg.clauseCarryMax 0 (min (carry - fixed) 65535)
  let s := s.runItems ([3, 4] ++ old.1.map (·.1) ++ own.1.map (·.1))
  let left := old.2.1 ++ own.2.1
  let late := (left ++ (if over32 s.queueDeadlines s.clauseNow then [7] else []) ++
    (if over32 s.ctxDeadlines s.clauseNow then [8] else [])).eraseDups
  let s := s.modClock (fun c => { c with carried := left, streak := c.streak.filter (fun x => late.contains x.1) })
  let s := s.each late (fun s k => s.deferItem k)
  if late.isEmpty then s else s.bump Reg.clauseOverruns

/-! ### The cut (R61 to R64) -/

/-- The effects of the cut outside the Full Stop: pauses not yet acknowledged are abandoned (Table 14.14), resets end
without a record (Table 9.5), PRBS tests stop (R390), and an attestation is abandoned (R443). -/
def State.cutRest (s : State) : State :=
  let s := s.each (s.links.map (·.1)) (fun s u => s.abandonPause u)
  let s := s.each s.resets (fun s j =>
    let s := if s.resetting j.i then s.set Reg.instState j.i 1 else s
    s.modHost (fun h => { h with flr := h.flr.remove j.i }))
  let s := { s with resets := [] }
  let s := s.each ((s.training.filter (fun x => x.2.prbs)).map (·.1)) (fun s u => s.prbsEnd u)
  s.modSecurity (fun x => { x with attest := none, sealWaits := none })

/-- Writes received complete before the cut, in their order: each is accepted, up to one that the governor or the retain
buffer holds, which was never accepted, and all behind it (R3, R22, Table 3.3). -/
def State.cutWrites (s : State) : List Instr → State
  | .hostWrite i ⟨b, off⟩ data _ eccBad :: r =>
    match s.takeHostWrite i b off data eccBad with
    | some t => t.cutWrites r
    | none => if b = .bar2 then s else s.cutWrites r
  | _ => s

/-- Copies that the partner's links have delivered whole are applied, whatever the governor says (Table 3.3). -/
def State.cutCopies (s : State) : List Instr → State
  | [] => s
  | .mcopy pl _ seq ia data :: r => ((s.rxAtCut false seq ia data).copyLeaves pl false seq).cutCopies r
  | .rcopy pl _ seq ia data :: r => ((s.rxAtCut true seq ia data).copyLeaves pl true seq).cutCopies r
  | _ :: r => s.cutCopies r

/-- What has been received before the cut, and what was sealed before it (R196), counts before it. -/
def State.cutTakes (s : State) : State :=
  let s := s.applyRows.applyWitness.applyExtents
  let waits := bufferedOf (65536 - s.postedBytes) 256 s.host.posted
  let s := (s.modHost (fun h => { h with posted := [] })).cutWrites (waits.filter (fun c => (Instr.bufferedWrite c).isSome))
  s.cutCopies s.mirror.rxWait

/-- The boundary at which the cut falls. -/
def State.cutHere (s : State) : State :=
  ((s.cutTakes).modPower (fun p => { p with cutDone := true })).cutNow.cutRest

/-! ### The boundary -/

/-- The core clock stays gated (R401): in A2 with nothing to handle. -/
def State.staysGated (s : State) : Bool :=
  s.clock.gated && s.get Reg.wakeStatus == 0 && s.power.trans.isNone && s.power.pending.isNone && !s.power.detected

/-- A gated clause: items 1 and 2 alone run, and SEMICOLON_INTERVAL does not count (R402). -/
def State.gatedClause (s : State) : State := s.modPersist (fun p => { p with lastStart := p.lastStart + 1 })

/-- LTR (Table 7.12): the value for the present activity, at most once in 1,000 clauses, when it differs from the last sent
(log 45). -/
def State.sendLtr (s : State) : State :=
  let busy := (s.rowsOf Reg.queueEnable).any (fun q => s.get Reg.queueEnable q == 1) ||
    (s.rowsOf Reg.chState).any (fun k => s.chanState k != .disabled)
  let v := s.get (if busy then Reg.ltrActiveNs else Reg.ltrIdleNs)
  if s.get Reg.hostLinkStatus = 2 ∧ v ≠ s.host.ltrValue ∧ (s.host.ltrAt = 0 ∨ s.host.ltrAt + 1000 ≤ s.clauseNow) then
    (s.emit (.ltr v)).modHost (fun h => { h with ltrAt := s.clauseNow, ltrValue := v })
  else s

/-- The rest of a clause: the posted path, its credits, and what waits for the host link. -/
def State.boundaryEnd (s : State) : State :=
  let s := if s.host.posted.isEmpty then s else s.bump Reg.hostCreditWait
  ((s.sendLtr.wakeSignal).runPosted).runReadWait.runConfig

/-- A clause boundary outside recovery, its count advanced. From the cut on the work list goes on (R40), and what the
host port does not. -/
def State.boundaryWork (s : State) (cycles : List Nat) : State :=
  let s := if s.power.detected && !s.power.cutDone then s.cutHere else s
  if s.cutPassed then s.applyLate.workList cycles
  else
    let s := s.gpioLevels
    if s.staysGated then s.gatedClause else ((s.boundaryEffects).workList cycles).boundaryEnd

/-- CLAUSE_BOUNDARY (R40). In recovery the count alone advances. -/
def State.boundary (s : State) (cycles : List Nat) : State :=
  let s := s.advance.skipSets
  if s.security.recovery then s else s.boundaryWork cycles

/-- CLAUSE_BOUNDARY (R40). -/
def execClauseBoundary (cycles : List Nat) (s : State) : Host.Outcome State Fault Refusal :=
  actRom s (fun s => s.boundary cycles)

/-- CUT (R64): the clause boundary after a detection. -/
def execCut (s : State) : Host.Outcome State Fault Refusal :=
  act s (fun s => if s.power.detected && !s.power.cutDone then s.boundary [] else s)

/-! ### The timebase (R38, R39) -/

/-- The timebase goes to the holdover oscillator: source 0x012, the lease's end comes earlier (R144), and the power manager
returns to A0. -/
def State.lockLostNow (s : State) : State :=
  let before := s.get Reg.timebaseStatus
  let s := (s.set Reg.timebaseStatus 0 1).modClock (fun c => { c with steadySince := none })
  if before = 1 ∨ s.security.recovery = true then s
  else
    let s := if before = 0 then s.leaseHoldover else s
    (s.raise 0 0x012 0).powerRequest 0 4

/-- TIMEBASE_LOCK_LOSS (R38). -/
def execTimebaseLockLoss (s : State) : Host.Outcome State Fault Refusal := actRom s State.lockLostNow

/-- TIMEBASE_RELOCK (R39): the PLL has locked again, or has stayed locked for 1,000,000 clauses. -/
def execTimebaseRelock (steady : Bool) (s : State) : Host.Outcome State Fault Refusal :=
  actRom s (fun s =>
    if steady then
      (if s.get Reg.timebaseStatus = 2 ∧ s.clock.steadySince.any (fun t => decide (t + 1000000 ≤ s.clauseNow)) = true then
        (s.set Reg.timebaseStatus 0 0).modClock (fun c => { c with steadySince := none })
      else s)
    else if s.get Reg.timebaseStatus = 1 then
      (s.set Reg.timebaseStatus 0 2).modClock (fun c => { c with steadySince := some s.clauseNow })
    else s)

/-! ### Semicolon triggers (R58) -/

/-- SEMICOLON_INTERVAL_ELAPSED (R58). -/
def execSemicolonIntervalElapsed (s : State) : Host.Outcome State Fault Refusal :=
  act s (fun s =>
    let ms := s.get Reg.semicolonInterval
    if s.govActive && ms != 0 && s.persist.holdLeft == 0 && s.due (128 * s.persist.lastStart + msCycles ms) then
      s.modPersist (fun p => { p with trigger := true })
    else s)

/-- SEMICOLON_START (R58): at a boundary with a trigger standing and no Semicolon running. -/
def execSemicolonStart (s : State) : Host.Outcome State Fault Refusal :=
  act s (fun s => if s.mayStartSemicolon then s.startSemicolon else s)

/-! ### Completions that a waiting request or a SIGNED_CONFIG may stand behind -/

/-- SEAL_COMPLETE (R68). -/
def execSealComplete (corrected rewrites : Nat) (failed : Bool) (s : State) : Host.Outcome State Fault Refusal :=
  act s (fun s => (s.sealReady corrected rewrites failed).runConfig)

/-- ATTEST_SIGNED (R443): the signature ends, and a seal that waited for it follows (R425). -/
def execAttestSigned (s : State) : Host.Outcome State Fault Refusal := act s (fun s => s.signed.runConfig)

/-- MSTATE (R133). -/
def execMstate (pl : Fin 2) (confirm : Bool) (row : Fin 16) (generation : Nat) (owner : Fin 2) (s : State) :
    Host.Outcome State Fault Refusal :=
  act s (fun s =>
    let s := s.consume (16 + pl.val) (fun m => m.op == 0x56)
    (s.untilOpen 0 row.val (fun s => s.gotMstate confirm row generation owner)).runConfig)

/-- IDENT (R325). -/
def execIdent (c : Fin 8) (l : Fin 2) (body : List Byte) (s : State) : Host.Outcome State Fault Refusal :=
  act s (fun s =>
    let s := s.consume (2 * c.val + l.val) (fun m => m.op == 0x22)
    (s.gotIdent c l body).runConfig)

/-- HANDOVER_TIMEOUT (R133). -/
def execHandoverTimeout (s : State) : Host.Outcome State Fault Refusal := act s (fun s => s.handoverExpiry.runConfig)

end Sys2Proof.Machine
end

