-- ==== Sys2Proof/Machine/Requests.lean ====
section
/-!
DEFINITION. The commands that reach the chip as one Lexicon request on a named path: each is the write request of
`requestOf`, taken by its path (`State.lexCall`), checked as R453 says and with the effect of its own operation.
-/
namespace Sys2Proof.Machine

/-! ### The image (spec/03, spec/04) -/

/-- FORMAT (R78): IMAGE_COMMAND 1 by a path. -/
def execFormat (p : Path) (s : State) : Host.Outcome State Fault Refusal :=
  actRom s (fun s => s.direct (.format p))

/-- COMMIT (R16, R79): IMAGE_COMMAND 2. -/
def execCommit (p : Path) (s : State) : Host.Outcome State Fault Refusal :=
  actRom s (fun s => s.direct (.commit p))

/-- RETRY (R82): IMAGE_COMMAND 3. -/
def execRetry (p : Path) (s : State) : Host.Outcome State Fault Refusal :=
  actRom s (fun s => s.direct (.retry p))

/-- ABANDON (R18): IMAGE_COMMAND 4. -/
def execAbandon (p : Path) (s : State) : Host.Outcome State Fault Refusal :=
  actRom s (fun s => s.direct (.abandon p))

/-- SEMICOLON (R58, R59): IMAGE_COMMAND 5. -/
def execSemicolon (p : Path) (s : State) : Host.Outcome State Fault Refusal :=
  actRom s (fun s => s.direct (.semicolon p))

/-! ### Append contexts (spec/05) -/

/-- CTX_OPEN (R121): CTX_COMMAND 1 of context n. -/
def execCtxOpen (p : Path) (n : Nat) (s : State) : Host.Outcome State Fault Refusal :=
  actRom s (fun s => s.direct (.ctxOpen p n))

/-- CTX_CLOSE (R121): CTX_COMMAND 2. -/
def execCtxClose (p : Path) (n : Nat) (s : State) : Host.Outcome State Fault Refusal :=
  actRom s (fun s => s.direct (.ctxClose p n))

/-- CTX_ABORT (R121): CTX_COMMAND 3. -/
def execCtxAbort (p : Path) (n : Nat) (s : State) : Host.Outcome State Fault Refusal :=
  actRom s (fun s => s.direct (.ctxAbort p n))

/-- CTX_RESUME (R121): CTX_COMMAND 4. -/
def execCtxResume (p : Path) (n : Nat) (s : State) : Host.Outcome State Fault Refusal :=
  actRom s (fun s => s.direct (.ctxResume p n))

/-- DWORD_ENABLE (R116). -/
def execDwordEnable (p : Path) (i : Fin 256) (on : Bool) (s : State) : Host.Outcome State Fault Refusal :=
  actRom s (fun s => s.direct (.dwordEnable p i on))

/-! ### The mirror (spec/06) -/

/-- PAIR (R128): MIRROR_COMMAND 1. -/
def execPair (p : Path) (s : State) : Host.Outcome State Fault Refusal :=
  actRom s (fun s => s.direct (.pair p))

/-- UNPAIR (R130): MIRROR_COMMAND 2. -/
def execUnpair (p : Path) (s : State) : Host.Outcome State Fault Refusal :=
  actRom s (fun s => s.direct (.unpair p))

/-- TAKEOVER (R148): MIRROR_COMMAND 3. -/
def execTakeover (p : Path) (s : State) : Host.Outcome State Fault Refusal :=
  actRom s (fun s => s.direct (.takeover p))

/-- HANDOVER (R133): RANGE_COMMAND 1 of row r. -/
def execHandover (p : Path) (r : Fin 16) (s : State) : Host.Outcome State Fault Refusal :=
  actRom s (fun s => s.direct (.handover p r))

/-- FORCE_TAKEOVER (R149): RANGE_COMMAND 2. -/
def execForceTakeover (p : Path) (r : Fin 16) (s : State) : Host.Outcome State Fault Refusal :=
  actRom s (fun s => s.direct (.forceTakeover p r))

/-- ADOPT_PARTNER (R149): RANGE_COMMAND 3. -/
def execAdoptPartner (p : Path) (r : Fin 16) (s : State) : Host.Outcome State Fault Refusal :=
  actRom s (fun s => s.direct (.adoptPartner p r))

/-- WITNESS_NODE_WRITE (R147). -/
def execWitnessNodeWrite (p : Path) (node : Nat) (s : State) : Host.Outcome State Fault Refusal :=
  actRom s (fun s => s.direct (.witnessNodeWrite p node))

/-! ### Instances, extents and resets (spec/08, spec/09) -/

/-- EXTENT_COMMIT (R195): VALID = 1, or EXT_RECORD. -/
def execExtentCommit (p : Path) (row : Nat) (record : Option (List Byte)) (s : State) : Host.Outcome State Fault Refusal :=
  actRom s (fun s => s.direct (.extentCommit p row record))

/-- EXTENT_WITHDRAW (R197): VALID = 0. -/
def execExtentWithdraw (p : Path) (row : Nat) (s : State) : Host.Outcome State Fault Refusal :=
  actRom s (fun s => s.direct (.extentWithdraw p row))

/-- INST_RESET (R213): INST_COMMAND 1. -/
def execInstReset (p : Path) (i : Fin 256) (s : State) : Host.Outcome State Fault Refusal :=
  actRom s (fun s => s.direct (.instReset p i))

/-- INST_RESET_DRAIN (R213): INST_COMMAND 2. -/
def execInstResetDrain (p : Path) (i : Fin 256) (s : State) : Host.Outcome State Fault Refusal :=
  actRom s (fun s => s.direct (.instResetDrain p i))

/-- INST_RESET_SQUASH (R213): INST_COMMAND 3. -/
def execInstResetSquash (p : Path) (i : Fin 256) (s : State) : Host.Outcome State Fault Refusal :=
  actRom s (fun s => s.direct (.instResetSquash p i))

/-! ### The schedulers, queues and events (spec/10, spec/11) -/

/-- GATE_COMMIT (R238): GATE_COMMAND 1. -/
def execGateCommit (p : Path) (port : Fin 10) (s : State) : Host.Outcome State Fault Refusal :=
  actRom s (fun s => s.direct (.gateCommit p port))

/-- QUEUE_ENABLE (R252). -/
def execQueueEnable (p : Path) (j : Fin 4096) (s : State) : Host.Outcome State Fault Refusal :=
  actRom s (fun s => s.direct (.queueEnable p j))

/-- QUEUE_DISABLE (R257). -/
def execQueueDisable (p : Path) (j : Fin 4096) (s : State) : Host.Outcome State Fault Refusal :=
  actRom s (fun s => s.direct (.queueDisable p j))

/-- HOLD_PF_WRITE (R271). -/
def execHoldPfWrite (p : Path) (i : Fin 256) (on : Bool) (s : State) : Host.Outcome State Fault Refusal :=
  actRom s (fun s => s.direct (.holdPfWrite p i on))

/-- WAKE_STATUS_CLEAR (R273). -/
def execWakeStatusClear (p : Path) (value : Nat) (s : State) : Host.Outcome State Fault Refusal :=
  actRom s (fun s => s.direct (.wakeStatusClear p value))

/-! ### The TREYR links (spec/14, spec/15) -/

/-- RETRAIN (R386): LINK_COMMAND 1 of link u. -/
def execRetrain (p : Path) (u : Fin 18) (s : State) : Host.Outcome State Fault Refusal :=
  actRom s (fun s => s.direct (.retrain p u))

/-- LINK_COMMAND_DOWN (R363): LINK_COMMAND 2. -/
def execLinkCommandDown (p : Path) (u : Fin 18) (s : State) : Host.Outcome State Fault Refusal :=
  actRom s (fun s => s.direct (.linkCommandDown p u))

/-- LINK_ENABLE_WRITE (R363). -/
def execLinkEnableWrite (p : Path) (u : Fin 18) (on : Bool) (s : State) : Host.Outcome State Fault Refusal :=
  actRom s (fun s => s.direct (.linkEnableWrite p u on))

/-- EQ_UPDATE (R386): LANE_COMMAND 1. -/
def execEqUpdate (p : Path) (u : Fin 18) (s : State) : Host.Outcome State Fault Refusal :=
  actRom s (fun s => s.direct (.eqUpdate p u))

/-- PRBS_START (R390): PRBS_COMMAND 1. -/
def execPrbsStart (p : Path) (u : Fin 18) (s : State) : Host.Outcome State Fault Refusal :=
  actRom s (fun s => s.direct (.prbsStart p u))

/-- PRBS_STOP (R390): PRBS_COMMAND 2. -/
def execPrbsStop (p : Path) (u : Fin 18) (s : State) : Host.Outcome State Fault Refusal :=
  actRom s (fun s => s.direct (.prbsStop p u))

/-! ### Power (spec/16) -/

/-- POWER_REQUEST (R403). -/
def execPowerRequest (p : Path) (target : Fin 4) (s : State) : Host.Outcome State Fault Refusal :=
  actRom s (fun s => s.direct (.powerRequest p target))

/-- RESTORE_CAPS (R418): REPLAN_COMMAND 1. -/
def execRestoreCaps (p : Path) (s : State) : Host.Outcome State Fault Refusal :=
  actRom s (fun s => s.direct (.restoreCaps p))

/-! ### Security (spec/17) -/

/-- FW_PACKAGE (R433). -/
def execFwPackage (p : Path) (pkg : FwPackage) (s : State) : Host.Outcome State Fault Refusal :=
  actRom s (fun s => s.direct (.fwPackage p pkg))

/-- ACTIVATE (R434): FW_COMMAND 1. -/
def execActivate (p : Path) (s : State) : Host.Outcome State Fault Refusal :=
  actRom s (fun s => s.direct (.activate p))

/-- CONFIRM (R438): FW_COMMAND 2. -/
def execConfirm (p : Path) (failsAt : Option Nat) (s : State) : Host.Outcome State Fault Refusal :=
  actRom s (fun s => s.direct (.confirm p failsAt))

/-- INVALIDATE (R434): FW_COMMAND 3. -/
def execInvalidate (p : Path) (s : State) : Host.Outcome State Fault Refusal :=
  actRom s (fun s => s.direct (.invalidate p))

/-- FW_RESTART (R434): FW_COMMAND 4. -/
def execFwRestart (p : Path) (bootSel : Fin 4) (s : State) : Host.Outcome State Fault Refusal :=
  actRom s (fun s => s.direct (.fwRestart p bootSel))

/-- OWNER_KEY_ENROL (R435). -/
def execOwnerKeyEnrol (p : Path) (key : List Byte) (s : State) : Host.Outcome State Fault Refusal :=
  actRom s (fun s => s.direct (.ownerKeyEnrol p key))

/-- OWNER_REPLACE (R435): KIND 3. -/
def execOwnerReplace (p : Path) (st : Statement) (s : State) : Host.Outcome State Fault Refusal :=
  actRom s (fun s => s.direct (.ownerReplace p st))

/-- OWNER_RELEASE (R435): KIND 4. -/
def execOwnerRelease (p : Path) (st : Statement) (s : State) : Host.Outcome State Fault Refusal :=
  actRom s (fun s => s.direct (.ownerRelease p st))

/-- SIGNED_CONFIG (R440): KIND 5. -/
def execSignedConfig (p : Path) (st : Statement) (s : State) : Host.Outcome State Fault Refusal :=
  actRom s (fun s => s.direct (.signedConfig p st))

/-- DEBUG_UNLOCK (R444): KIND 6. -/
def execDebugUnlock (p : Path) (st : Statement) (s : State) : Host.Outcome State Fault Refusal :=
  actRom s (fun s => s.direct (.debugUnlock p st))

/-- CONFIG_LOCK_WRITE (R439). -/
def execConfigLockWrite (p : Path) (on : Bool) (s : State) : Host.Outcome State Fault Refusal :=
  actRom s (fun s => s.direct (.configLockWrite p on))

/-- ATTEST_NONCE (R443). -/
def execAttestNonce (p : Path) (nonce : List Byte) (s : State) : Host.Outcome State Fault Refusal :=
  actRom s (fun s => s.direct (.attestNonce p nonce))

/-- DEBUG_LOCK (R444): a write of DEBUG_STATE. -/
def execDebugLock (p : Path) (value : Nat) (s : State) : Host.Outcome State Fault Refusal :=
  actRom s (fun s => s.direct (.debugLock p value))

/-- DEBUG_CHALLENGE_READ (R444): the challenge is read by a path. -/
def execDebugChallengeRead (p : Path) (s : State) : Host.Outcome State Fault Refusal :=
  actRom s (fun s => s.lexCall p (.debugChallengeRead p) (fun s => s.challengeRead p))

end Sys2Proof.Machine
end

