-- ==== Sys2Proof/Machine/Dispatch.lean ====
section
/-!
DEFINITION. One arm for each command: its meaning, by one direct call.
-/
namespace Sys2Proof.Machine

def exec (i : Instr) (s : State) : Host.Outcome State Fault Refusal :=
  match i with
  | .clauseBoundary cycles => Sys2Proof.Machine.execClauseBoundary cycles s
  | .timebaseLockLoss => Sys2Proof.Machine.execTimebaseLockLoss s
  | .timebaseRelock steady => Sys2Proof.Machine.execTimebaseRelock steady s
  | .refclkLoss ref => Sys2Proof.Machine.execRefclkLoss ref s
  | .powerOnReset bootSel perstHigh => Sys2Proof.Machine.execPowerOnReset bootSel perstHigh s
  | .porNAssert => Sys2Proof.Machine.execPorNAssert s
  | .perstNAssert => Sys2Proof.Machine.execPerstNAssert s
  | .hotReset dlDown => Sys2Proof.Machine.execHotReset dlDown s
  | .pfailNInput high cyc => Sys2Proof.Machine.execPfailNInput high cyc s
  | .powerFailDetect vsense cyc => Sys2Proof.Machine.execPowerFailDetect vsense cyc s
  | .cut => Sys2Proof.Machine.execCut s
  | .saveResend c => Sys2Proof.Machine.execSaveResend c s
  | .warmRestart bootSel => Sys2Proof.Machine.execWarmRestart bootSel s
  | .format p => Sys2Proof.Machine.execFormat p s
  | .commit p => Sys2Proof.Machine.execCommit p s
  | .retry p => Sys2Proof.Machine.execRetry p s
  | .abandon p => Sys2Proof.Machine.execAbandon p s
  | .semicolon p => Sys2Proof.Machine.execSemicolon p s
  | .semicolonIntervalElapsed => Sys2Proof.Machine.execSemicolonIntervalElapsed s
  | .semicolonStart => Sys2Proof.Machine.execSemicolonStart s
  | .ckptStatus c l done error epoch count front => Sys2Proof.Machine.execCkptStatus c l done error epoch count front s
  | .ckptStatusTimeout c => Sys2Proof.Machine.execCkptStatusTimeout c s
  | .stuckCkptResend c => Sys2Proof.Machine.execStuckCkptResend c s
  | .sealComplete corrected rewrites failed => Sys2Proof.Machine.execSealComplete corrected rewrites failed s
  | .holdupReport c l energy rate cost => Sys2Proof.Machine.execHoldupReport c l energy rate cost s
  | .holdupStale c => Sys2Proof.Machine.execHoldupStale c s
  | .governorAdmit => Sys2Proof.Machine.execGovernorAdmit s
  | .carrierWaitExpiry => Sys2Proof.Machine.execCarrierWaitExpiry s
  | .readyTimeout c => Sys2Proof.Machine.execReadyTimeout c s
  | .restoreStatus c l ready touch sweep done error epoch val => Sys2Proof.Machine.execRestoreStatus c l ready touch sweep done error epoch val s
  | .touchTimeout id => Sys2Proof.Machine.execTouchTimeout id s
  | .hostRead inst a len tag => Sys2Proof.Machine.execHostRead inst a len tag s
  | .hostWrite inst a data ep eccBad => Sys2Proof.Machine.execHostWrite inst a data ep eccBad s
  | .malformedRequest k inst posted tag => Sys2Proof.Machine.execMalformedRequest k inst posted tag s
  | .hostCompletion tag data => Sys2Proof.Machine.execHostCompletion tag data s
  | .hostCompletionTimeout tag k => Sys2Proof.Machine.execHostCompletionTimeout tag k s
  | .vfEnableSet mse => Sys2Proof.Machine.execVfEnableSet mse s
  | .vfEnableClear => Sys2Proof.Machine.execVfEnableClear s
  | .numvfsWrite n => Sys2Proof.Machine.execNumvfsWrite n s
  | .pfFlr => Sys2Proof.Machine.execPfFlr s
  | .vfFlr inst => Sys2Proof.Machine.execVfFlr inst s
  | .barResize vf enc decode => Sys2Proof.Machine.execBarResize vf enc decode s
  | .pfD3hotEntry pmeEn => Sys2Proof.Machine.execPfD3hotEntry pmeEn s
  | .pfD0Return => Sys2Proof.Machine.execPfD0Return s
  | .msixMask inst what => Sys2Proof.Machine.execMsixMask inst what s
  | .msixUnmask inst what => Sys2Proof.Machine.execMsixUnmask inst what s
  | .busMasterChange inst on => Sys2Proof.Machine.execBusMasterChange inst on s
  | .appendPublish inst off len allBytes value => Sys2Proof.Machine.execAppendPublish inst off len allBytes value s
  | .appendTrim inst off len allBytes value => Sys2Proof.Machine.execAppendTrim inst off len allBytes value s
  | .pendingEntryFree => Sys2Proof.Machine.execPendingEntryFree s
  | .appendCoalTimeout n => Sys2Proof.Machine.execAppendCoalTimeout n s
  | .ctxOpen p n => Sys2Proof.Machine.execCtxOpen p n s
  | .ctxClose p n => Sys2Proof.Machine.execCtxClose p n s
  | .ctxAbort p n => Sys2Proof.Machine.execCtxAbort p n s
  | .ctxResume p n => Sys2Proof.Machine.execCtxResume p n s
  | .dwordEnable p inst on => Sys2Proof.Machine.execDwordEnable p inst on s
  | .pair p => Sys2Proof.Machine.execPair p s
  | .unpair p => Sys2Proof.Machine.execUnpair p s
  | .takeover p => Sys2Proof.Machine.execTakeover p s
  | .handover p r => Sys2Proof.Machine.execHandover p r s
  | .handoverTimeout => Sys2Proof.Machine.execHandoverTimeout s
  | .forceTakeover p r => Sys2Proof.Machine.execForceTakeover p r s
  | .adoptPartner p r => Sys2Proof.Machine.execAdoptPartner p r s
  | .mcopy pl resend seq ia data => Sys2Proof.Machine.execMcopy pl resend seq ia data s
  | .mack pl seq => Sys2Proof.Machine.execMack pl seq s
  | .mnak pl reason seq ia => Sys2Proof.Machine.execMnak pl reason seq ia s
  | .rcopy pl last seq ia data => Sys2Proof.Machine.execRcopy pl last seq ia data s
  | .rack pl seq => Sys2Proof.Machine.execRack pl seq s
  | .pairHello pl body => Sys2Proof.Machine.execPairHello pl body s
  | .mstate pl confirm row generation owner => Sys2Proof.Machine.execMstate pl confirm row generation owner s
  | .cutNotice pl epoch => Sys2Proof.Machine.execCutNotice pl epoch s
  | .rmap pl first block => Sys2Proof.Machine.execRmap pl first block s
  | .holdNotice pl entering => Sys2Proof.Machine.execHoldNotice pl entering s
  | .rangeDesc pl row base segments => Sys2Proof.Machine.execRangeDesc pl row base segments s
  | .mirrorAckTimeout => Sys2Proof.Machine.execMirrorAckTimeout s
  | .splitDeclared => Sys2Proof.Machine.execSplitDeclared s
  | .leaseRequestDue => Sys2Proof.Machine.execLeaseRequestDue s
  | .leaseGrant side pairId req result term => Sys2Proof.Machine.execLeaseGrant side pairId req result term s
  | .takeoverGrant side pairId req result => Sys2Proof.Machine.execTakeoverGrant side pairId req result s
  | .leaseLapse => Sys2Proof.Machine.execLeaseLapse s
  | .leaseNoGrant => Sys2Proof.Machine.execLeaseNoGrant s
  | .takeoverRetry => Sys2Proof.Machine.execTakeoverRetry s
  | .witnessNodeWrite p node => Sys2Proof.Machine.execWitnessNodeWrite p node s
  | .extentCommit p row record => Sys2Proof.Machine.execExtentCommit p row record s
  | .extentWithdraw p row => Sys2Proof.Machine.execExtentWithdraw p row s
  | .instReset p inst => Sys2Proof.Machine.execInstReset p inst s
  | .instResetDrain p inst => Sys2Proof.Machine.execInstResetDrain p inst s
  | .instResetSquash p inst => Sys2Proof.Machine.execInstResetSquash p inst s
  | .resetBegin inst => Sys2Proof.Machine.execResetBegin inst s
  | .drainEscalation inst => Sys2Proof.Machine.execDrainEscalation inst s
  | .resetComplete inst => Sys2Proof.Machine.execResetComplete inst s
  | .schedulerGrant g => Sys2Proof.Machine.execSchedulerGrant g s
  | .redHoldExpiry port svc inst => Sys2Proof.Machine.execRedHoldExpiry port svc inst s
  | .gateCommit p port => Sys2Proof.Machine.execGateCommit p port s
  | .sample j => Sys2Proof.Machine.execSample j s
  | .queueDoorbell inst j size value => Sys2Proof.Machine.execQueueDoorbell inst j size value s
  | .queueEnable p j => Sys2Proof.Machine.execQueueEnable p j s
  | .queueDisable p j => Sys2Proof.Machine.execQueueDisable p j s
  | .queueCoalTimeout j => Sys2Proof.Machine.execQueueCoalTimeout j s
  | .claim inst size => Sys2Proof.Machine.execClaim inst size s
  | .complete inst size value => Sys2Proof.Machine.execComplete inst size value s
  | .selfHoldWrite inst value => Sys2Proof.Machine.execSelfHoldWrite inst value s
  | .holdPfWrite p inst on => Sys2Proof.Machine.execHoldPfWrite p inst on s
  | .inflightExpiry inst vec => Sys2Proof.Machine.execInflightExpiry inst vec s
  | .wakeLatch src => Sys2Proof.Machine.execWakeLatch src s
  | .wakeStatusClear p value => Sys2Proof.Machine.execWakeStatusClear p value s
  | .wakeTimerExpiry => Sys2Proof.Machine.execWakeTimerExpiry s
  | .gpioInput n level => Sys2Proof.Machine.execGpioInput n level s
  | .dmaDoorbell inst j size value => Sys2Proof.Machine.execDmaDoorbell inst j size value s
  | .dmaEnable v => Sys2Proof.Machine.execDmaEnable v s
  | .dmaDisable v => Sys2Proof.Machine.execDmaDisable v s
  | .dmaResume v => Sys2Proof.Machine.execDmaResume v s
  | .dmaSkip v => Sys2Proof.Machine.execDmaSkip v s
  | .dmaAbort v => Sys2Proof.Machine.execDmaAbort v s
  | .softPulse inst j value => Sys2Proof.Machine.execSoftPulse inst j value s
  | .shadowWrite v ctrl value => Sys2Proof.Machine.execShadowWrite v ctrl value s
  | .eventFabricPulse line => Sys2Proof.Machine.execEventFabricPulse line s
  | .dmaBurstIssue => Sys2Proof.Machine.execDmaBurstIssue s
  | .carrierCpl c l tag poison data => Sys2Proof.Machine.execCarrierCpl c l tag poison data s
  | .carrierAck c l tag bitmap => Sys2Proof.Machine.execCarrierAck c l tag bitmap s
  | .controlAck c l op epoch => Sys2Proof.Machine.execControlAck c l op epoch s
  | .carrierNak c l tag reason => Sys2Proof.Machine.execCarrierNak c l tag reason s
  | .retryRound c seg => Sys2Proof.Machine.execRetryRound c seg s
  | .tagTimeout c l => Sys2Proof.Machine.execTagTimeout c l s
  | .ident c l body => Sys2Proof.Machine.execIdent c l body s
  | .health c l urgent body => Sys2Proof.Machine.execHealth c l urgent body s
  | .healthStale c => Sys2Proof.Machine.execHealthStale c s
  | .wakeResend c => Sys2Proof.Machine.execWakeResend c s
  | .wakeTimeout c => Sys2Proof.Machine.execWakeTimeout c s
  | .fuReceive u fu codeError => Sys2Proof.Machine.execFuReceive u fu codeError s
  | .nakFu u fu codeError => Sys2Proof.Machine.execNakFu u fu codeError s
  | .replayMarker u m => Sys2Proof.Machine.execReplayMarker u m s
  | .nakRepeat u => Sys2Proof.Machine.execNakRepeat u s
  | .ackTimeout u => Sys2Proof.Machine.execAckTimeout u s
  | .creditTimeout u vc => Sys2Proof.Machine.execCreditTimeout u vc s
  | .init u role vcs idx token version => Sys2Proof.Machine.execInit u role vcs idx token version s
  | .initEcho u token cyc => Sys2Proof.Machine.execInitEcho u token cyc s
  | .initTimeout u => Sys2Proof.Machine.execInitTimeout u s
  | .pauseStart u reason width rate => Sys2Proof.Machine.execPauseStart u reason width rate s
  | .pauseReq u reason width rate => Sys2Proof.Machine.execPauseReq u reason width rate s
  | .pauseAck u => Sys2Proof.Machine.execPauseAck u s
  | .resume u e onOff token width rate => Sys2Proof.Machine.execResume u e onOff token width rate s
  | .resumeEcho u token cyc => Sys2Proof.Machine.execResumeEcho u token cyc s
  | .downSet u cause => Sys2Proof.Machine.execDownSet u cause s
  | .pauseLimitExpiry u => Sys2Proof.Machine.execPauseLimitExpiry u s
  | .laneLockLoss lane los lol cyc => Sys2Proof.Machine.execLaneLockLoss lane los lol cyc s
  | .lanesReady u => Sys2Proof.Machine.execLanesReady u s
  | .linkDownTimeExpiry u => Sys2Proof.Machine.execLinkDownTimeExpiry u s
  | .retrain p u => Sys2Proof.Machine.execRetrain p u s
  | .linkCommandDown p u => Sys2Proof.Machine.execLinkCommandDown p u s
  | .linkEnableWrite p u on => Sys2Proof.Machine.execLinkEnableWrite p u on s
  | .trainingStart u => Sys2Proof.Machine.execTrainingStart u s
  | .tsCap lane rates laneNo numbering mask eqFull => Sys2Proof.Machine.execTsCap lane rates laneNo numbering mask eqFull s
  | .tsRate u rate token => Sys2Proof.Machine.execTsRate u rate token s
  | .tsReady lane rate mask token => Sys2Proof.Machine.execTsReady lane rate mask token s
  | .eqReq lane cm1 cp1 preset iteration => Sys2Proof.Machine.execEqReq lane cm1 cp1 preset iteration s
  | .eqAck lane cm1 cp1 c0 clipped width height => Sys2Proof.Machine.execEqAck lane cm1 cp1 c0 clipped width height s
  | .eqDone lane cm1 cp1 width height => Sys2Proof.Machine.execEqDone lane cm1 cp1 width height s
  | .trainingTimeout u => Sys2Proof.Machine.execTrainingTimeout u s
  | .trainingRetry u => Sys2Proof.Machine.execTrainingRetry u s
  | .eqUpdate p u => Sys2Proof.Machine.execEqUpdate p u s
  | .eyeScan lane width height => Sys2Proof.Machine.execEyeScan lane width height s
  | .prbsStart p u => Sys2Proof.Machine.execPrbsStart p u s
  | .prbsStop p u => Sys2Proof.Machine.execPrbsStop p u s
  | .powerRequest p target => Sys2Proof.Machine.execPowerRequest p target s
  | .stepTimeout => Sys2Proof.Machine.execStepTimeout s
  | .patrolPass sensors => Sys2Proof.Machine.execPatrolPass sensors s
  | .sensorSample sensors alarm10us => Sys2Proof.Machine.execSensorSample sensors alarm10us s
  | .replan oscillators => Sys2Proof.Machine.execReplan oscillators s
  | .restoreCaps p => Sys2Proof.Machine.execRestoreCaps p s
  | .avsStep ok => Sys2Proof.Machine.execAvsStep ok s
  | .avsRetry ok => Sys2Proof.Machine.execAvsRetry ok s
  | .testModeInput high => Sys2Proof.Machine.execTestModeInput high s
  | .fwPackage p pkg => Sys2Proof.Machine.execFwPackage p pkg s
  | .activate p => Sys2Proof.Machine.execActivate p s
  | .confirm p failsAt => Sys2Proof.Machine.execConfirm p failsAt s
  | .invalidate p => Sys2Proof.Machine.execInvalidate p s
  | .fwRestart p bootSel => Sys2Proof.Machine.execFwRestart p bootSel s
  | .ownerKeyEnrol p key => Sys2Proof.Machine.execOwnerKeyEnrol p key s
  | .ownerReplace p st => Sys2Proof.Machine.execOwnerReplace p st s
  | .ownerRelease p st => Sys2Proof.Machine.execOwnerRelease p st s
  | .signedConfig p st => Sys2Proof.Machine.execSignedConfig p st s
  | .debugUnlock p st => Sys2Proof.Machine.execDebugUnlock p st s
  | .configLockWrite p on => Sys2Proof.Machine.execConfigLockWrite p on s
  | .attestNonce p nonce => Sys2Proof.Machine.execAttestNonce p nonce s
  | .attestSigned => Sys2Proof.Machine.execAttestSigned s
  | .debugChallengeRead p => Sys2Proof.Machine.execDebugChallengeRead p s
  | .debugLock p value => Sys2Proof.Machine.execDebugLock p value s
  | .lexiconRead inst notify index row off len => Sys2Proof.Machine.execLexiconRead inst notify index row off len s
  | .lexiconWrite inst notify last index row off data => Sys2Proof.Machine.execLexiconWrite inst notify last index row off data s
  | .registerWrite p index row value => Sys2Proof.Machine.execRegisterWrite p index row value s
  | .segmentLapse port => Sys2Proof.Machine.execSegmentLapse port s
  | .store p rewrites failed => Sys2Proof.Machine.execStore p rewrites failed s
  | .lexFormat p => Sys2Proof.Machine.execLexFormat p s
  | .reload p => Sys2Proof.Machine.execReload p s
  | .clezelRead prio dest src seq data => Sys2Proof.Machine.execClezelRead prio dest src seq data s
  | .clezelWrite prio dest src seq data => Sys2Proof.Machine.execClezelWrite prio dest src seq data s
  | .heartbeat => Sys2Proof.Machine.execHeartbeat s
  | .canBusOff => Sys2Proof.Machine.execCanBusOff s
  | .perstNRelease => Sys2Proof.Machine.execPerstNRelease s
  | .hostLinkStatusChange status rate width flit => Sys2Proof.Machine.execHostLinkStatusChange status rate width flit s
  | .refclkReturn ref => Sys2Proof.Machine.execRefclkReturn ref s
  | .controlSetResend u => Sys2Proof.Machine.execControlSetResend u s
  | .trainingLaneWait u => Sys2Proof.Machine.execTrainingLaneWait u s
  | .busOffRecovery => Sys2Proof.Machine.execBusOffRecovery s
  | .pmeTurnOff => Sys2Proof.Machine.execPmeTurnOff s

end Sys2Proof.Machine
end

