-- ==== Sys2Proof/Safety.lean ====
section
/-!
DEFINITION. What the statements are made of: a safe run, the state a command acts in, the part of the state that a
command leaves alone, and when a request that a command brings is taken.
-/
namespace Sys2Proof.Machine

/-! ### Runs -/

/-- A state is safe: from it the block never stops with a fault or a refusal, however many of the waiting commands it
takes. -/
def State.safe (s : State) : Prop := ∀ n : Nat, ∃ t : State, Host.Core.run Sys2Proof.core n s = .next t

/-- POR_N is high and the firmware runs (R36, R432). -/
def State.awake (s : State) : Bool := s.clock.powered && !s.security.recovery

/-- The block is awake and the host is heard: the cut has not fallen (Table 3.3, R471). -/
def State.hears (s : State) : Bool := s.awake && !s.cutPassed

/-! ### Recovery -/

/-- The commands that act only while the firmware runs: in recovery they find nothing to act on (R432, R471). -/
def Instr.needsFirmware : Instr → Bool
  | .cut | .saveResend .. | .warmRestart .. | .semicolonIntervalElapsed | .semicolonStart | .ckptStatus ..
  | .ckptStatusTimeout .. | .stuckCkptResend .. | .sealComplete .. | .holdupReport .. | .holdupStale ..
  | .governorAdmit | .carrierWaitExpiry | .readyTimeout .. | .restoreStatus .. | .touchTimeout ..
  | .hostCompletion .. | .hostCompletionTimeout .. | .vfEnableSet .. | .vfEnableClear | .numvfsWrite ..
  | .vfFlr .. | .barResize .. | .pendingEntryFree | .appendCoalTimeout .. | .handoverTimeout | .mcopy ..
  | .mack .. | .mnak .. | .rcopy .. | .rack .. | .pairHello .. | .mstate .. | .cutNotice .. | .rmap ..
  | .holdNotice .. | .rangeDesc .. | .mirrorAckTimeout | .splitDeclared | .leaseRequestDue | .leaseGrant ..
  | .takeoverGrant .. | .leaseLapse | .leaseNoGrant | .takeoverRetry | .resetBegin .. | .drainEscalation ..
  | .resetComplete .. | .schedulerGrant .. | .redHoldExpiry .. | .sample .. | .queueCoalTimeout ..
  | .inflightExpiry .. | .wakeTimerExpiry | .eventFabricPulse .. | .dmaBurstIssue | .carrierCpl ..
  | .carrierAck .. | .controlAck .. | .carrierNak .. | .retryRound .. | .tagTimeout .. | .ident .. | .health ..
  | .healthStale .. | .wakeResend .. | .wakeTimeout .. | .fuReceive .. | .nakFu .. | .replayMarker ..
  | .nakRepeat .. | .ackTimeout .. | .creditTimeout .. | .init .. | .initEcho .. | .initTimeout ..
  | .pauseStart .. | .pauseReq .. | .pauseAck .. | .resume .. | .resumeEcho .. | .downSet ..
  | .pauseLimitExpiry .. | .laneLockLoss .. | .lanesReady .. | .linkDownTimeExpiry .. | .trainingStart ..
  | .tsCap .. | .tsRate .. | .tsReady .. | .eqReq .. | .eqAck .. | .eqDone .. | .trainingTimeout ..
  | .trainingRetry .. | .eyeScan .. | .stepTimeout | .patrolPass .. | .sensorSample .. | .replan ..
  | .avsStep .. | .avsRetry .. | .testModeInput .. | .attestSigned | .heartbeat | .controlSetResend ..
  | .trainingLaneWait .. => true
  | _ => false

/-! ### What a command leaves alone -/

/-- The parts of the state beside the register file and the waiting commands. `egress` is port 9 of the scheduler with
the numbers of its entries, `ports` the other ports, `flow` the buckets, samplers and weights; `frames` is the count of
Clezel frames, `lexicon` the rest of the Lexicon's own state. -/
inductive Part
  | blobs | clock | egress | ports | flow | persist | gov | keep | stop | restore | append | mirror | carriers | links
  | training | lanes | line | host | resets | events | dma | power | security | lexicon | frames | draws | outbox
deriving DecidableEq, Repr

/-- Registers and parts of the state. -/
structure Footprint where
  regs : List Nat
  parts : List Part
deriving DecidableEq, Repr

/-- The value of a part unless the footprint holds it. -/
def Footprint.keep {α : Type} (f : Footprint) (p : Part) (v d : α) : α := if p ∈ f.parts then d else v

/-- The state with everything in the footprint blanked out, and with the balls, which follow the rest. Two states that
are equal so differ at most in the footprint. -/
def State.outside (s : State) (f : Footprint) : State :=
  { pending := s.pending
    regs := s.regs.filter (fun x => !(f.regs.contains (x.1 / 4294967296)))
    blobs := f.keep .blobs s.blobs []
    clock := f.keep .clock s.clock Clock.reset
    sched :=
      { ports := f.keep .ports (f.keep .egress s.sched.ports (s.sched.ports.filter (fun x => x.1 != 9)))
          (f.keep .egress (s.sched.ports.filter (fun x => x.1 == 9)) [])
        buckets := f.keep .flow s.sched.buckets []
        samplers := f.keep .flow s.sched.samplers []
        nextId := f.keep .egress s.sched.nextId 0
        weightWait := f.keep .flow s.sched.weightWait [] }
    persist := f.keep .persist s.persist Persist.reset
    gov := f.keep .gov s.gov []
    keep := f.keep .keep s.keep Keep.blank
    stop := f.keep .stop s.stop FullStop.reset
    restore := f.keep .restore s.restore Restore.reset
    append := f.keep .append s.append Append.reset
    mirror := f.keep .mirror s.mirror Mirror.reset
    carriers := f.keep .carriers s.carriers []
    links := f.keep .links s.links []
    training := f.keep .training s.training []
    lanes := f.keep .lanes s.lanes []
    line := f.keep .line s.line ⟨[], [], 0⟩
    host := f.keep .host s.host HostPort.reset
    resets := f.keep .resets s.resets []
    events := f.keep .events s.events Events.reset
    dma := f.keep .dma s.dma Dma.reset
    power := f.keep .power s.power Power.reset
    security := f.keep .security s.security Security.reset
    lexicon := { f.keep .lexicon s.lexicon { Lexicon.reset with frameSeq := s.lexicon.frameSeq } with
                 frameSeq := f.keep .frames s.lexicon.frameSeq 0 }
    pins := State.reset.pins
    draws := f.keep .draws s.draws 0
    outbox := f.keep .outbox s.outbox [] }

/-- From s to t nothing has changed outside a footprint but the balls, which follow the rest. -/
def State.changesOnly (s t : State) (f : Footprint) : Prop := t.outside f = s.outside f

/-- A footprint and more. -/
def Footprint.plus (f : Footprint) (regs : List Nat) (parts : List Part) : Footprint := ⟨regs ++ f.regs, parts ++ f.parts⟩

/-- No register and no part. -/
def Footprint.none : Footprint := ⟨[], []⟩

/-- What a raised source, a record and a pulse of the event fabric may change (R250 to R274, R287, R469): the counts and
queues of the event controller, its messages and records on port 9, the wake latches, and an EVENT frame. -/
def Footprint.event : Footprint :=
  { regs := [Reg.mgmtCount, Reg.wakeStatus, Reg.wakeCount, Reg.fieldFramesTx, Reg.queueProd, Reg.queueLost,
      Reg.queueDiscarded, Reg.recordsWritten, Reg.recordsLost, Reg.recordsDiscarded, Reg.eventsDropped, Reg.redHolds,
      Reg.linePulses, Reg.chReqCount, Reg.chReqOverflows]
    parts := [.events, .egress, .frames, .outbox] }

/-- What taking and answering a Lexicon request may change beside the effect of the request (R453): its counts, and what
an event may. -/
def Footprint.request : Footprint :=
  { regs := Reg.lexRequests :: Reg.lexAborts :: Footprint.event.regs, parts := Footprint.event.parts }

/-- What a message that joins a carrier port or port 8 may change beside: the ports, and the count of entries that wait
behind an earlier one (R225, R243). -/
def Footprint.message : Footprint := Footprint.request.plus [Reg.hazardWaits] [.ports]

/-- What a write that has all its acknowledgements, or loses one, may change (R111 to R113, R118): the fences that wait for
it, their contexts and counts. -/
def Footprint.durable : Footprint := Footprint.message.plus
  [Reg.ctxDurable, Reg.ctxState, Reg.ctxError, Reg.appendContextsOpen, Reg.appendPending, Reg.appendErrors,
    Reg.instPending, Reg.instanceErrors] [.append]

/-- What the mirror engine may change as its state, its copies and its resync move (R128 to R151): with its own part what
copies resolved by marking make durable, the lease, and the entries of the scheduler that it takes and gives. -/
def Footprint.mirrors : Footprint := Footprint.durable.plus
  [Reg.mirrorState, Reg.leaseState, Reg.rangeGeneration, Reg.rangeOwner, Reg.greenBytes, Reg.yellowBytes, Reg.redBytes]
  [.mirror, .flow]

/-- What a DMA channel may change as it fetches, halts or comes to rest (R278 to R298), with the image accesses that wait
for their slice. -/
def Footprint.channels : Footprint := Footprint.message.plus
  [Reg.chState, Reg.chProd, Reg.chCons, Reg.chReqCount, Reg.chDescriptors, Reg.dmaHalts, Reg.restoreHeldBytes,
    Reg.restoreTouches, Reg.restoreTouchPending, Reg.greenBytes, Reg.yellowBytes, Reg.redBytes]
  [.dma, .blobs, .carriers, .host, .restore, .flow]

/-- In SPLIT the owned rows of t act, from the next clause, as lease and policy say (R146). -/
def State.rowsFenced (s t : State) : Prop :=
  s.mirrorState = .split → ∀ r, r < 16 → s.ownsRow r = true → s.rowState r ≠ 2 → Tbl.find t.mirror.rowNext r = some
    (b2n (t.get Reg.leaseState == 3 || (t.get Reg.leaseState != 1 && s.get Reg.leasePolicy == 0)))

/-- From s to t the partner has gone away (R151, R148): every copy is resolved by marking, the round of checks ends, and
with AUTO_TAKEOVER and a witness a takeover is asked for. -/
def State.partnerAway (s t : State) : Prop :=
  t.mirrorState = .peerAway ∧ t.mirror.helloSent = false ∧ t.mirror.hello = none ∧ t.mirror.retain = [] ∧
  (∀ k ∈ s.mirror.retain, t.mirror.map.mem k.seg = true) ∧
  t.mirror.takeoverAt = (if s.get Reg.autoTakeover = 1 ∧ s.get Reg.witnessNode ≠ 0 then some s.now else none) ∧
  s.changesOnly t (Footprint.mirrors.plus [] [.links])

/-- What a reset of the host port leaves (R178, R181): its functions at their reset values and nothing of a read waiting,
and for every instance a reset that the port asks for, by squash at once or at the next clause boundary (R221). -/
def State.portReset (t : State) : Prop :=
  t.host.busMaster = [] ∧ t.host.msixEnable = [] ∧ t.host.fnMask = [] ∧ t.host.vecOpen = [] ∧ t.host.vfEnable = false ∧
  t.host.vfMem = false ∧ t.host.numVfs = 0 ∧ t.host.d3 = false ∧ t.host.bus = 0 ∧ t.host.readWait = [] ∧
  ∀ i : Fin 256, ∃ j ∈ t.resets, j.i = i.val ∧ j.kind = 5 ∧ j.port = true ∧ (j.drain = true → j.joinAt ≠ none)

/-! ### Requests that a command brings -/

/-- A request by path p is taken at once: a host port is heard, before the cut, while its function decodes and nothing is
before it; the field port while it may send; FIRMWARE while it runs (R432, R470, R471). -/
def State.serves (s : State) : Path → Bool
  | .hostPf => !s.cutPassed && s.lexOn 0 && s.host.posted.isEmpty
  | .hostVf i => i.val != 0 && !s.cutPassed && !s.security.recovery && s.lexOn i.val && s.host.posted.isEmpty
  | .field _ => s.fieldSends && !s.cutPassed
  | .firmware => !s.security.recovery

/-- The state that a request by path p finds: the frame of a field node has latched wake source 8 (R273). -/
def State.reached (s : State) : Path → State
  | .field _ => s.wake 8
  | _ => s

/-- The state in which a request by path p is checked: the request is counted. -/
def State.taken (s : State) (p : Path) : State := (s.reached p).countRequest

/-- The checks of R453 pass for a write request, in the state in which it is checked. -/
def State.passes (s : State) (a : Ask) : Bool :=
  match s.target a.q true with
  | .place o i => s.checkValue a.q o i a.value == .ok
  | _ => false

/-- The write request that a command brings is taken at once and passes its checks, with no SIGNED_CONFIG under way. -/
def State.allows (s : State) (c : Instr) : Bool :=
  match requestOf c with
  | some a => s.clock.powered && s.serves a.q.path && s.lexicon.config.isNone && (s.taken a.q.path).passes a
  | none => false

/-- The last that has left the block is the answer of a request by path p, with the code of Table 18.3. -/
def State.answered (s : State) (p : Path) (a : Abort) : Prop := s.outbox.getLast? = some (.lexAnswer p a.code [])

end Sys2Proof.Machine
end

