-- ==== Sys2Proof/Certificates/Slice0/Obligations.lean ====
section
/-!
DEFINITION. The statements about the block that the provers prove. Each names the rules of spec/ that it formalises; a
clause that rests on a choice of the model names the log entry.
-/
open Sys2Proof Sys2Proof.Machine Host

/-! ### The block as a whole -/

/-- A step takes the command at the front of the queue and is that command on the state with the rest of the queue.
With no command waiting the block idles (log 1: the model's choice). -/
def Obligations.StepTakesTheFront : Prop :=
  (∀ (c : Instr) (rest : List Instr) (s : State),
    step { s with pending := c :: rest } = exec c { s with pending := rest }) ∧
  (∀ s : State, s.pending = [] → step s = .next s)

/-- Every command answers a next state, leaves the queue of waiting commands as it was, and drives the balls as the state
it leaves drives them.
However many commands wait, no run of the block stops with a fault or a refusal. -/
def Obligations.EveryCommandAnswers : Prop :=
  (∀ (c : Instr) (s : State), ∃ t, exec c s = .next t ∧ t.pending = s.pending ∧ t.pins = pinsOf t) ∧
  (∀ s : State, s.safe)

/-- The balls of Table 19.3 that follow registers follow them after every step: CAN_STBY is high only while FIELD_ACCESS is
0 (R462), THERM_ALERT_N and PE_WAKE_N pull low with their latches (R416, R274), a GPIO output shows GPIO_OUT (Table 19.14),
and all are released while POR_N is low. -/
def Obligations.BallsFollowTheState : Prop :=
  ∀ s t : State, s.pins = pinsOf s → step s = .next t → t.pins = pinsOf t

/-- The balls follow the state at reset. -/
def Obligations.BallsFollowAtReset : Prop :=
  State.reset.pins = pinsOf State.reset

/-- While POR_N is low nothing but its release acts (Table 19.7): every other command leaves the state as it is.
In recovery the commands that the firmware serves find nothing to act on (R432). -/
def Obligations.PorAndRecoveryHoldTheBlock : Prop :=
  (∀ (c : Instr) (s : State), s.clock.powered = false → (∀ b h, c ≠ .powerOnReset b h) → exec c s = .next (s.after s)) ∧
  (∀ (c : Instr) (s : State), s.security.recovery = true → Instr.needsFirmware c = true → exec c s = .next (s.after s))

/-! ### The clause tick (spec/02) -/

/-- CLAUSE_BOUNDARY (R36, R40): CLAUSE_COUNT advances by one, and SKP sets go out on the lines that are due one (R374). In
recovery nothing else happens. From the cut on the values written for the boundary and the work list go on, without the host
port. Before it, unless the core clock stays gated (R401, R402), the level wakes latch, what waits for a boundary takes
effect, the work list runs and the posted path follows; the boundary at which the cut falls is `CutSealsTheImage`'s.
TIMEBASE_LOCK_LOSS (R38): TIMEBASE_STATUS is 1 (holdover); from another state the firmware raises source 0x012 and asks the
power manager for A0, and from lock the lease's end comes earlier (R144). TIMEBASE_RELOCK (R39): from holdover it is 2 once
the PLL has locked, and 0 once it has stayed locked for 1,000,000 clauses; otherwise nothing changes. -/
def Obligations.ClausesAreCounted : Prop :=
  (∀ (cycles : List Nat) (s u : State), s.clock.powered = true → u = s.advance.skipSets →
    (u.clock = { s.clock with clause := s.clock.clause + 1, sub := 0, fired := [] } ∧
      s.changesOnly u ⟨[], [.clock, .line, .outbox]⟩) ∧
    (s.security.recovery = true → exec (.clauseBoundary cycles) s = .next (s.after u)) ∧
    (s.security.recovery = false → (s.power.detected = false ∨ s.power.cutDone = true) →
      (s.cutPassed = true → exec (.clauseBoundary cycles) s = .next (s.after (u.applyLate.workList cycles))) ∧
      (s.cutPassed = false → u.gpioLevels.staysGated = true → exec (.clauseBoundary cycles) s = .next (s.after
        { u.gpioLevels with persist := { u.gpioLevels.persist with lastStart := u.gpioLevels.persist.lastStart + 1 } })) ∧
      (s.cutPassed = false → u.gpioLevels.staysGated = false → exec (.clauseBoundary cycles) s =
        .next (s.after ((u.gpioLevels.boundaryEffects).workList cycles).boundaryEnd)))) ∧
  (∀ (s u : State), s.clock.powered = true →
    u = { s.set Reg.timebaseStatus 0 1 with clock := { s.clock with steadySince := none } } →
    (s.get Reg.timebaseStatus = 1 ∨ s.security.recovery = true → exec .timebaseLockLoss s = .next (s.after u)) ∧
    (s.security.recovery = false → s.get Reg.timebaseStatus = 2 →
      exec .timebaseLockLoss s = .next (s.after ((u.raise 0 0x012 0).powerRequest 0 4))) ∧
    (s.security.recovery = false → s.get Reg.timebaseStatus = 0 → exec .timebaseLockLoss s = .next (s.after
      ((State.raise { u with mirror := { s.mirror with
          leaseUntil := s.mirror.leaseUntil.map (fun e => e - msCycles s.mirror.leaseT / 50) } } 0 0x012 0).powerRequest
        0 4)))) ∧
  (∀ s : State, s.clock.powered = true →
    (s.get Reg.timebaseStatus = 1 → exec (.timebaseRelock false) s = .next (s.after
      { s.set Reg.timebaseStatus 0 2 with clock := { s.clock with steadySince := some s.clock.clause } })) ∧
    (s.get Reg.timebaseStatus ≠ 1 → exec (.timebaseRelock false) s = .next (s.after s)) ∧
    (∀ c, s.get Reg.timebaseStatus = 2 → s.clock.steadySince = some c → c + 1000000 ≤ s.clock.clause →
      exec (.timebaseRelock true) s = .next (s.after
        { s.set Reg.timebaseStatus 0 0 with clock := { s.clock with steadySince := none } })) ∧
    (s.get Reg.timebaseStatus ≠ 2 ∨ (∀ c, s.clock.steadySince = some c → s.clock.clause < c + 1000000) →
      exec (.timebaseRelock true) s = .next (s.after s)))

/-! ### Resets of the chip (spec/02, spec/07, spec/17, spec/19) -/

/-- The release of POR_N (R36, R482): whatever the block was doing, only the Keep store, the waiting commands and the
model's own record of outputs and draws decide what it is afterwards.
POR_N low (R482, R496): every register and buffer is at its reset value, and the Keep store stands but for a seal
being written, which is torn. -/
def Obligations.PorClearsTheBlock : Prop :=
  (∀ (b : Fin 4) (h : Bool) (s t : State), s.keep = t.keep → s.pending = t.pending → s.draws = t.draws →
    s.outbox = t.outbox → exec (.powerOnReset b h) s = exec (.powerOnReset b h) t) ∧
  (∀ s : State, s.clock.powered = true → exec .porNAssert s = .next (s.after
    { State.reset with
      regs := [], events := Events.reset, clock := { Clock.reset with powered := false }
      keep := { s.keep with job := none, waiting := [], extNext := [] }
      draws := s.draws, outbox := s.outbox }))

/-- The boot of a new part (R36, R430, R432, R458): BOOT_SEL 0 and 1 run slot 0, with every register at its default but
KEEP_ECC_CORRECTED, which counts the load's read of the Keep store (R73), and source 0x0FA pending; 2 and 3 find no good
slot, and the ROM stays in recovery. -/
def Obligations.NewPartBoots : Prop :=
  ∀ (h : Bool) (s : State), s.keep = Keep.blank → s.pending = [] → s.draws = 0 → s.outbox = [] →
    (∀ b : Fin 4, b.val < 2 → exec (.powerOnReset b h) s = .next (s.after (State.keepRead
      { State.reset with
        host := { HostPort.reset with perstLow := !h }
        security := { Security.reset with bootSel := b.val } }))) ∧
    (∀ b : Fin 4, 2 ≤ b.val → exec (.powerOnReset b h) s = .next (s.after
      { State.reset with
        regs := [], events := Events.reset
        host := { HostPort.reset with perstLow := !h }
        security := { Security.reset with bootSel := b.val, recovery := true } }))

/-- PERST_N_ASSERT, HOT_RESET and the loss of the host's reference (R178, R181): before the cut the functions take their
reset values and all 256 instances are reset by squash; the link is down after PERST_N, DL_Down and the loss, and PERST_N
also loads the BAR sizes and clears the sticky status; nothing of the image moves. After the cut only the link's state
follows. PERST_N low already and a reference lost already change nothing.
PERST_N_RELEASE (R179) lets the port train and latches wake source 21; REFCLK_RETURN (R181) and the loss of a Treyr reference
(R395) move their bit of REFCLK_STATUS and raise source 0x012. -/
def Obligations.HostResetsTheFunctions : Prop :=
  (∀ s : State, s.clock.powered = true → s.cutPassed = false →
    (s.host.perstLow = false → ∃ t, exec .perstNAssert s = .next t ∧ t.portReset ∧ t.get Reg.hostLinkStatus = 0 ∧
      t.host.perstLow = true ∧ t.host.pmeEn = false ∧ t.host.aerFatal = [] ∧ t.host.aerCorr = [] ∧
      t.host.pfWin = s.get Reg.pfWindowDefault ∧ t.host.vfWin = s.get Reg.vfWindowDefault ∧
      s.changesOnly t (Footprint.event.plus [Reg.hostLinkStatus] [.host, .resets, .power])) ∧
    (∃ t, exec (.hotReset false) s = .next t ∧ t.portReset ∧ s.changesOnly t ⟨[], [.host, .resets, .power]⟩) ∧
    (∃ t, exec (.hotReset true) s = .next t ∧ t.portReset ∧ t.get Reg.hostLinkStatus = 0 ∧
      s.changesOnly t (Footprint.event.plus [Reg.hostLinkStatus] [.host, .resets, .power])) ∧
    (bit (s.get Reg.refclkStatus) 0 = true → ∃ t, exec (.refclkLoss 0) s = .next t ∧ t.portReset ∧
      t.get Reg.hostLinkStatus = 0 ∧ bit (t.get Reg.refclkStatus) 0 = false ∧
      s.changesOnly t (Footprint.event.plus [Reg.hostLinkStatus, Reg.refclkStatus] [.host, .resets, .power]))) ∧
  (∀ s : State, s.clock.powered = true → s.cutPassed = true →
    (s.host.perstLow = false → exec .perstNAssert s =
      .next (s.after (State.hostLinkDown { s with host := { s.host with perstLow := true } }))) ∧
    exec (.hotReset false) s = .next (s.after s) ∧
    exec (.hotReset true) s = .next (s.after s.hostLinkDown) ∧
    (bit (s.get Reg.refclkStatus) 0 = true → exec (.refclkLoss 0) s =
      .next (s.after ((s.putBit Reg.refclkStatus 0 0 false).raise 0 0x012 0).hostLinkDown))) ∧
  (∀ s : State, s.clock.powered = true →
    (s.host.perstLow = true → exec .perstNAssert s = .next (s.after s)) ∧
    (s.host.perstLow = false → exec .perstNRelease s = .next (s.after s)) ∧
    (s.host.perstLow = true → exec .perstNRelease s = .next (s.after
      (let u := State.wake { s with host := { s.host with perstLow := false } } 21
       { u with events := { u.events with peWake := false } }))) ∧
    (∀ r : Fin 3, bit (s.get Reg.refclkStatus) r = false →
      exec (.refclkLoss r) s = .next (s.after s) ∧
      exec (.refclkReturn r) s = .next (s.after ((s.putBit Reg.refclkStatus 0 r true).raise 0 0x012 0))) ∧
    (∀ r : Fin 3, bit (s.get Reg.refclkStatus) r = true → exec (.refclkReturn r) s = .next (s.after s)) ∧
    (∀ r : Fin 3, r ≠ 0 → bit (s.get Reg.refclkStatus) r = true →
      exec (.refclkLoss r) s = .next (s.after (((s.putBit Reg.refclkStatus 0 r false).raise 0 0x012 0).refLost r))))

/-! ### Power failure (spec/03, spec/16) -/

/-- PFAIL_N_INPUT (R412): a fall starts the filter; a return before the filter time is a glitch, counted while the input is
a source and raised as 0x0D2 at most once in 1,000 clauses; after a detection the return starts the clear time (R414), once
the comparator reads good (log 32). POWER_FAIL_DETECT (R61): PFAIL_N low for PFAIL_FILTER, or the comparator, where
PFAIL_SOURCES enables it; the detection stands from there, and a second one is ignored.
WARM_RESTART (R414): once the device is quiet after the cut, PFAIL_N and the supply have been clear for
PFAIL_RETURN_TIME and TJ_MAX is below TJ_ALERT, the block starts again at clause 0 with the Keep store's banks and PERST_N as
they were; before that nothing happens. -/
def Obligations.PowerFailsAndReturns : Prop :=
  (∀ (cyc : Fin 128) (s u : State), s.clock.powered = true → u = s.atCycle cyc.val →
    (exec (.pfailNInput s.power.pfailHigh cyc) s = .next (s.after u)) ∧
    (s.power.pfailHigh = true → exec (.pfailNInput false cyc) s = .next (s.after
      { u with power := { u.power with pfailHigh := false, lowSince := some u.now } })) ∧
    (s.power.pfailHigh = false → s.power.detected = false →
      (u.pfailLow = true ∨ bit (s.get Reg.pfailSources) 0 = false) →
      exec (.pfailNInput true cyc) s = .next (s.after
        { u with power := { u.power with pfailHigh := true, lowSince := none } })) ∧
    (∀ c, s.power.pfailHigh = false → s.power.detected = false → u.pfailLow = false →
      bit (s.get Reg.pfailSources) 0 = true → s.power.glitchAt = some c → s.clock.clause < c + 1000 →
      exec (.pfailNInput true cyc) s = .next (s.after (State.bump
        { u with power := { u.power with pfailHigh := true, lowSince := none } } Reg.pfailGlitches))) ∧
    (s.power.pfailHigh = false → s.power.detected = false → u.pfailLow = false →
      bit (s.get Reg.pfailSources) 0 = true → (∀ c, s.power.glitchAt = some c → c + 1000 ≤ s.clock.clause) →
      exec (.pfailNInput true cyc) s = .next (s.after ((State.bump
        { u with power := { u.power with pfailHigh := true, lowSince := none, glitchAt := some s.clock.clause } }
        Reg.pfailGlitches).raise 0 0x0D2 0))) ∧
    (s.power.pfailHigh = false → s.power.detected = true → s.power.vsenseOk = true →
      (u.pfailLow = true ∨ s.power.clearSince = none) → exec (.pfailNInput true cyc) s = .next (s.after
        { u with power := { u.power with pfailHigh := true, lowSince := none, clearSince := some u.now } })) ∧
    (s.power.pfailHigh = false → s.power.detected = true →
      (s.power.vsenseOk = false ∨ (u.pfailLow = false ∧ s.power.clearSince ≠ none)) →
      exec (.pfailNInput true cyc) s = .next (s.after
        { u with power := { u.power with pfailHigh := true, lowSince := none } })) ∧
    (∀ v, s.power.detected = true → exec (.powerFailDetect v cyc) s = .next (s.after u)) ∧
    (∀ v, bit (s.get Reg.pfailSources) (b2n v) = false → exec (.powerFailDetect v cyc) s = .next (s.after u)) ∧
    (s.power.detected = false → bit (s.get Reg.pfailSources) 0 = true → u.pfailLow = true →
      exec (.powerFailDetect false cyc) s = .next (s.after
        { u with
          clock := { u.clock with gated := false }
          power := { u.power with detected := true, clearSince := none } })) ∧
    (s.power.detected = false → u.pfailLow = false →
      exec (.powerFailDetect false cyc) s = .next (s.after u)) ∧
    (s.power.detected = false → bit (s.get Reg.pfailSources) 1 = true →
      exec (.powerFailDetect true cyc) s = .next (s.after
        { u with
          clock := { u.clock with gated := false }
          power := { u.power with detected := true, vsenseOk := false, clearSince := some u.now } }))) ∧
  (∀ (b : Fin 4) (s : State), s.awake = true →
    (∀ t0, s.power.detected = true → s.power.cutDone = true → s.keep.job = none →
      (s.stop.active = false ∨ s.stop.stateAtCut = 4 ∨ s.stop.quiet = true) → s.pfailLow = false →
      s.power.clearSince = some t0 → s.due (t0 + 250000 * s.get Reg.pfailReturnTime) = true →
      signed32 (s.get Reg.tjMax) < 65536 * (s.get Reg.tjAlert : Int) → ∃ t, exec (.warmRestart b) s = .next t ∧ t.clock.clause = 0 ∧ t.clock.powered = true ∧
      t.power.detected = false ∧ t.power.cutDone = false ∧ t.power.pfailHigh = s.power.pfailHigh ∧
      t.host.perstLow = s.host.perstLow ∧ t.host.busMaster = [] ∧ t.keep.bank0 = s.keep.bank0 ∧
      t.keep.bank1 = s.keep.bank1 ∧ t.security.bootSel = b.val) ∧
    (∀ t0, (s.power.detected = false ∨ s.power.cutDone = false ∨ s.keep.job ≠ none ∨ s.pfailLow = true ∨
        65536 * (s.get Reg.tjAlert : Int) ≤ signed32 (s.get Reg.tjMax) ∨ s.power.clearSince = none ∨
        (s.power.clearSince = some t0 ∧ s.due (t0 + 250000 * s.get Reg.pfailReturnTime) = false) ∨
        (s.stop.active = true ∧ s.stop.stateAtCut ≠ 4 ∧ s.stop.quiet = false)) →
      exec (.warmRestart b) s = .next (s.after s)))

/-- CUT (R62, R64, R299): the first clause boundary after a detection. What was received whole before it is taken first (R3,
Table 3.3). Then the cut has passed, resets end, and what waited for the host or for a seal is dropped; from Open, Quiesced
and Restoring the image is Sealed and its windows close, and the Full Stop starts (from Restoring once the carriers have
been checked): from Open and Restoring with the write of its seal. In Unformed, Setup and Fault there is nothing to keep and
the image state stands. The work list of the boundary then runs. With no detection standing nothing falls.
SAVE_RESEND (R66): 10 µs after SAVE last went to a carrier that has not acknowledged it, it goes again on each of its links
that is up; otherwise nothing goes. -/
def Obligations.CutSealsTheImage : Prop :=
  (∀ s w : State, s.awake = true → w = s.advance.skipSets.cutTakes →
    ((s.power.detected = false ∨ s.power.cutDone = true) → exec .cut s = .next (s.after s)) ∧
    (s.power.detected = true → s.power.cutDone = false → ∃ v : State, exec .cut s = .next (s.after (v.applyLate.workList [])) ∧
      (∀ cycles, exec (.clauseBoundary cycles) s = .next (s.after (v.applyLate.workList cycles))) ∧
      v.power.cutDone = true ∧ v.host.posted = [] ∧ v.host.readWait = [] ∧ v.mirror.rxWait = [] ∧ v.resets = [] ∧
      v.keep.waiting = [] ∧ v.persist.running = false ∧ v.get Reg.semicolonState = 0 ∧ v.lexicon.waiting = [] ∧
      v.security.attest = none ∧ (∀ n, n < 262144 → v.ctxState n ≠ .opened ∧ v.ctxState n ≠ .closing) ∧ v.append.pubs = [] ∧
      (w.image = .unformed ∨ w.image = .setup ∨ w.image = .fault →
        v.image = w.image ∧ v.stop = w.stop ∧ v.keep.job = none) ∧
      (w.image = .opened ∨ w.image = .quiesced ∨ w.image = .restoring →
        v.image = .sealed ∧ v.get Reg.windowOpen = 0) ∧
      (w.image = .opened ∨ w.image = .quiesced ∨ (w.image = .restoring ∧ 2 < w.get Reg.restartPhase) →
        v.stop.active = true ∧ v.stop.stateAtCut = w.image.code ∧ v.stop.epoch = w.get Reg.epoch) ∧
      (w.image = .quiesced ∨ (w.image = .restoring ∧ w.get Reg.restartPhase ≤ 2) → v.keep.job = none) ∧
      (w.image = .opened ∨ (w.image = .restoring ∧ 2 < w.get Reg.restartPhase) →
        ∃ j, v.keep.job = some j ∧ j.purpose = .fullStop ∧ j.intent.kind = 4 ∧ j.intent.state = w.image.code))) ∧
  (∀ (c : Fin 8) (s : State) (late : List Nat), s.awake = true →
    late = [0, 1].filter (fun l => s.linkIsUp (2 * c.val + l)) →
    (s.stop.active = true → s.stop.quiet = false → c.val < s.get Reg.activeCarriers → late ≠ [] →
      bit s.stop.saveAck (2 * c.val) = false → bit s.stop.saveAck (2 * c.val + 1) = false →
      s.due (Tbl.getD s.stop.sentAt c.val 0 + 2500) = true →
      exec (.saveResend c) s = .next (s.after
        (let u := s.each late (fun s l => s.sendCarrier c.val false l
          { op := 0x15, flags := b2n (s.stop.stateAtCut == 4), p0 := s.stop.epoch, p1 := Tbl.getD s.stop.marks c.val 0 })
         { u with stop := { u.stop with sentAt := Tbl.put u.stop.sentAt c.val s.now } }))) ∧
    ((s.stop.active = false ∨ s.stop.quiet = true ∨ s.get Reg.activeCarriers ≤ c.val ∨ late = [] ∨
        bit s.stop.saveAck (2 * c.val) = true ∨ bit s.stop.saveAck (2 * c.val + 1) = true ∨
        s.due (Tbl.getD s.stop.sentAt c.val 0 + 2500) = false) →
      exec (.saveResend c) s = .next (s.after s)))

/-! ### The image commands (spec/01, spec/03, spec/04) -/

/-- FORMAT (R78): from Unformed and Fault to Setup, with the intent records of both banks erased and nothing of the image
left: no context, no dirty segment, no held byte. At debug level 2 it is LOCKED (R444); while a seal is written, BUSY (log
27). ABANDON (R18): from Setup to Unformed.
COMMIT (R16, R442): with a sound geometry a new IMAGE_ID is drawn and goes with the geometry to every active carrier,
and the request waits for the first seal; an unsound one is answered RANGE, a carrier that has not reported STATE.
RETRY (R82, R79): from Fault and in A0, the restart runs again from step 3 with the latest complete seal: Restoring with
the carriers asked for IDENT; without a complete seal, or with a bank that cannot be read, Fault with its cause (Table 4.2).
Outside A0 it is answered STATE (log 28). -/
def Obligations.ImageCommands : Prop :=
  (∀ (p : Path) (s : State),
    (s.allows (.format p) = true → (s.image = .unformed ∨ s.image = .fault) ∧
      (s.get Reg.debugState ≠ 2 → s.keep.job = none → ∃ t, exec (.format p) s = .next t ∧ t.answered p .ok ∧
        t.image = .setup ∧
        (∃ i, t.keep.bank0.intent = some i ∧ i.kind = 0) ∧ (∃ i, t.keep.bank1.intent = some i ∧ i.kind = 0) ∧
        (∀ n, n < 262144 → t.ctxState n = .closed) ∧ t.get Reg.appendContextsOpen = 0 ∧ t.append.pubs = [] ∧
        t.persist.dirty = [] ∧ t.persist.closing = [] ∧ t.persist.running = false ∧ t.restore.held = [] ∧
        (∀ c, c < 8 → t.get Reg.govDirty c = 0) ∧
        s.changesOnly t (Footprint.request.plus [Reg.imageState, Reg.ctxDurable, Reg.ctxTail, Reg.ctxHead,
          Reg.ctxRingBase, Reg.ctxRingSize, Reg.ctxState, Reg.ctxPolicy, Reg.ctxNotify, Reg.ctxError,
          Reg.ctxCoalCount, Reg.ctxCoalTime, Reg.ctxQueue, Reg.ctxUserTag, Reg.appendContextsOpen,
          Reg.restoreHeldBytes, Reg.govDirty, Reg.ckptPersisted, Reg.instPending, Reg.appendPending] [.keep, .append, .persist, .restore])) ∧
      (s.get Reg.debugState = 2 → exec (.format p) s = .next (s.after
        (((s.taken p).bump Reg.lexAborts).emit (.lexAnswer p 13 [])))) ∧
      (s.get Reg.debugState ≠ 2 → s.keep.job ≠ none → exec (.format p) s = .next (s.after
        (((s.taken p).bump Reg.lexAborts).emit (.lexAnswer p 9 []))))) ∧
    (s.allows (.abandon p) = true → s.image = .setup ∧
      ∃ t, exec (.abandon p) s = .next t ∧ t.answered p .ok ∧ t.image = .unformed ∧
        s.changesOnly t (Footprint.request.plus [Reg.imageState] []))) ∧
  (∀ (p : Path) (s : State), s.allows (.commit p) = true → s.image = .setup ∧
    (s.geometryCheck = .ok → ∃ t, exec (.commit p) s = .next t ∧
      t.image = .setup ∧ t.blob Reg.imageId = le 16 (Config.imageId s.draws) ∧ t.draws = s.draws + 1 ∧
      t.lexicon.waiting = s.lexicon.waiting ++ [⟨.direct p, Reg.imageCommand⟩] ∧
      (∀ c, c < s.get Reg.activeCarriers → (t.car c).assigned = false) ∧
      s.changesOnly t (Footprint.message.plus [] [.blobs, .draws, .carriers, .lexicon])) ∧
    (s.get Reg.activeCarriers = 0 ∨ s.get Reg.imageSegments = 0 → exec (.commit p) s = .next (s.after
      (((s.taken p).bump Reg.lexAborts).emit (.lexAnswer p 7 [])))) ∧
    (∀ a, s.geometryCheck = a → a ≠ .ok → exec (.commit p) s = .next (s.after
      (((s.taken p).bump Reg.lexAborts).emit (.lexAnswer p a.code []))))) ∧
  (∀ (p : Path) (s : State), s.allows (.retry p) = true → s.image = .fault ∧
    (s.get Reg.powerState = 0 → s.power.trans = none →
      (∀ b r, s.keep.latest = some b → (s.keep.bank b).complete = some r → (s.keep.bank b).readable = true →
        ∃ t, exec (.retry p) s = .next t ∧ t.answered p .ok ∧ t.image = .restoring ∧ t.get Reg.restartPhase = 2 ∧
          t.get Reg.activeCarriers = r.carriers ∧ t.get Reg.imageSegments = r.segments ∧
          t.get Reg.sealSequence = r.seq ∧ t.get Reg.keepBank = b ∧ t.blob Reg.imageId = le 16 r.imageId ∧
          t.restore.bank = some b ∧ t.restore.epoch = s.keep.cutEpoch ∧ t.stop = FullStop.reset ∧ t.keep = s.keep) ∧
      (∀ b r, s.keep.latest = some b → (s.keep.bank b).complete = some r → (s.keep.bank b).readable = false →
        ∃ t, exec (.retry p) s = .next t ∧ t.answered p .ok ∧ t.image = .fault ∧ t.get Reg.faultCause = 0x0109) ∧
      (s.keep.latest = none →
        ∃ t, exec (.retry p) s = .next t ∧ t.answered p .ok ∧ t.image = .fault ∧ t.get Reg.faultCause = 0x0101)) ∧
    (s.get Reg.powerState ≠ 0 ∨ s.power.trans ≠ none → exec (.retry p) s = .next (s.after
      (((s.taken p).bump Reg.lexAborts).emit (.lexAnswer p 8 [])))))

/-! ### Semicolons (spec/03) -/

/-- SEMICOLON (R58, R59, R60) sets a trigger, which the Semicolons of a Hold that are still to come satisfy, or sends CKPT_BEGIN
at once to the carriers of a stuck Semicolon, their attempts counted anew.
SEMICOLON_INTERVAL_ELAPSED (R58) sets a trigger once SEMICOLON_INTERVAL has passed since the last start.
SEMICOLON_START (R58): with a trigger standing and no Semicolon running, the open plane becomes the closing one and the
other opens empty, EPOCH advances, every carrier's progress starts again, and CKPT_BEGIN follows from the next clause. -/
def Obligations.SemicolonsStart : Prop :=
  (∀ (p : Path) (s : State), s.allows (.semicolon p) = true →
    (s.get Reg.semicolonState ≠ 3 → s.persist.holdLeft = 0 → exec (.semicolon p) s = .next (s.after
      (let u := s.taken p
       { u with persist := { u.persist with trigger := true } }.emit (.lexAnswer p 0 [])))) ∧
    (s.get Reg.semicolonState ≠ 3 → 0 < s.persist.holdLeft →
      exec (.semicolon p) s = .next (s.after ((s.taken p).emit (.lexAnswer p 0 [])))) ∧
    (s.get Reg.semicolonState = 3 → ∃ t, exec (.semicolon p) s = .next t ∧
      t.answered p .ok ∧ t.get Reg.semicolonState = 1 ∧
      (∀ c, c < s.get Reg.activeCarriers → (s.semi c).stuck = true →
        (t.semi c).stuck = false ∧ (t.semi c).attempts = 0 ∧ (t.semi c).begun = true ∧ (t.semi c).trying = true ∧
        (t.semi c).sentAt = s.now))) ∧
  (∀ s : State, s.awake = true →
    (s.govActive = true → s.get Reg.semicolonInterval ≠ 0 → s.persist.holdLeft = 0 →
      s.due (128 * s.persist.lastStart + 250000 * s.get Reg.semicolonInterval) = true →
      exec .semicolonIntervalElapsed s = .next (s.after { s with persist := { s.persist with trigger := true } })) ∧
    (s.govActive = false ∨ s.get Reg.semicolonInterval = 0 ∨ 0 < s.persist.holdLeft ∨
        s.due (128 * s.persist.lastStart + 250000 * s.get Reg.semicolonInterval) = false →
      exec .semicolonIntervalElapsed s = .next (s.after s))) ∧
  (∀ s : State, s.awake = true →
    (s.govActive = true → s.persist.running = false → s.persist.triggersHeld = false → s.semicolonWanted = true →
      ∃ t, exec .semicolonStart s = .next t ∧
      t.persist.closing = s.persist.dirty ∧ t.persist.dirty = [] ∧ t.persist.openB = !s.persist.openB ∧
      t.persist.count = s.persist.dirty.card ∧ t.persist.epoch = s.get Reg.epoch ∧
      t.get Reg.epoch = (s.get Reg.epoch + 1) % 4294967296 ∧ t.get Reg.semicolonState = 1 ∧
      t.persist.running = true ∧ t.persist.trigger = false ∧ t.persist.lastStart = s.clock.clause ∧
      t.persist.beginDue = some (s.clock.clause + 1) ∧
      (∀ c, c < s.get Reg.activeCarriers → t.get Reg.ckptPersisted c = 0) ∧
      s.changesOnly t (Footprint.event.plus [Reg.epoch, Reg.semicolonState, Reg.ckptPersisted, Reg.govDirty,
        Reg.govState] [.persist])) ∧
    (s.persist.running = true ∨ s.persist.triggersHeld = true ∨ s.govActive = false ∨ s.semicolonWanted = false →
      exec .semicolonStart s = .next (s.after s)))

/-- CKPT_STATUS (R320): a status of an epoch before the running one, or one that comes once all are done, changes nothing, one of
a later epoch is a protocol error (R330); a good one is P(c), and when it is the last carrier's DONE the closing plane
empties, DIRTY_CLEAR goes out and the seal falls due.
CKPT_STATUS_TIMEOUT (R59): with a link of the carrier up and no status for 1,250 µs CKPT_BEGIN goes again, unless the attempt
that has run out without progress was the third: then the Semicolon is stuck. STUCK_CKPT_RESEND (R59): each second
CKPT_BEGIN goes again. -/
def Obligations.CheckpointProgress : Prop :=
  ∀ (c : Fin 8) (l : Fin 2) (s u : State), s.awake = true →
    u = s.consume (2 * c.val + l.val) (fun m => m.op == 0x14) →
    (∀ d e ep n f, s.persist.running = false → exec (.ckptStatus c l d e ep n f) s = .next (s.after u)) ∧
    (∀ d e ep n f, below32 s.persist.epoch ep = false →
      (s.persist.sealDue = true ∨ s.get Reg.semicolonState = 2 ∨ below32 ep s.persist.epoch = true) →
      exec (.ckptStatus c l d e ep n f) s = .next (s.after u)) ∧
    (∀ d e ep n f, s.persist.running = true → below32 s.persist.epoch ep = true → ep ≠ s.persist.epoch →
      exec (.ckptStatus c l d e ep n f) s = .next (s.after ((u.bump Reg.protocolErrors c.val).raise 0 0x080 c.val))) ∧
    (∀ d e n f, s.persist.running = true → s.persist.sealDue = false → s.get Reg.semicolonState ≠ 2 →
      (d = true → n = s.persist.count) → e = false → ∃ t, exec (.ckptStatus c l d e s.persist.epoch n f) s = .next t ∧
        t.get Reg.ckptPersisted c.val = n ∧ (t.semi c.val).front = f ∧ (t.semi c.val).statusAt = s.now ∧
        (t.semi c.val).done = ((s.semi c.val).done || d) ∧
        ((s.semi c.val).countAtSend < n → (t.semi c.val).stuck = false ∧ (t.semi c.val).attempts = 0)) ∧
    (∀ f, s.persist.running = true → s.persist.sealDue = false → s.get Reg.semicolonState = 1 →
      c.val < s.get Reg.activeCarriers → (∀ k, k < s.get Reg.activeCarriers → k ≠ c.val → (s.semi k).done = true) →
      ∃ t, exec (.ckptStatus c l true false s.persist.epoch s.persist.count f) s = .next t ∧
        t.get Reg.ckptPersisted c.val = s.persist.count ∧ (t.semi c.val).done = true ∧ t.persist.closing = [] ∧
        t.persist.sealDue = true ∧ t.get Reg.semicolonState = 2) ∧
    (s.ckptRuns c.val = true → (s.semi c.val).stuck = false → s.carrierHasUp c.val = true →
      s.due (max (s.semi c.val).sentAt (s.semi c.val).statusAt + 312500) = true →
      ((s.semi c.val).trying = false →
        exec (.ckptStatusTimeout c) s = .next (s.after (s.ckptBegin c.val true))) ∧
      ((s.semi c.val).trying = true → (s.semi c.val).attempts < 2 → exec (.ckptStatusTimeout c) s = .next (s.after
        ((s.putSemi c.val { s.semi c.val with attempts := (s.semi c.val).attempts + 1, trying := false }).ckptBegin
          c.val true))) ∧
      ((s.semi c.val).trying = true → 2 ≤ (s.semi c.val).attempts → exec (.ckptStatusTimeout c) s = .next (s.after
        (((s.putSemi c.val { s.semi c.val with stuck := true, trying := false, attempts := 3, sentAt := s.now }).set
          Reg.semicolonState 0 3).raise 0 0x022 c.val)))) ∧
    (s.ckptRuns c.val = false ∨ (s.semi c.val).stuck = true ∨ s.carrierHasUp c.val = false →
      exec (.ckptStatusTimeout c) s = .next (s.after s)) ∧
    (s.ckptRuns c.val = true → (s.semi c.val).stuck = true → s.due ((s.semi c.val).sentAt + 250000000) = true →
      exec (.stuckCkptResend c) s = .next (s.after
        ((s.putSemi c.val { s.semi c.val with
            sentAt := s.now, countAtSend := s.get Reg.ckptPersisted c.val, begun := true, trying := false
            darkAt := if s.carrierHasUp c.val then none else some s.now }).sendCarrier c.val true 0
          { op := 0x13, p0 := s.persist.epoch, p1 := s.persist.count }))) ∧
    (s.ckptRuns c.val = false ∨ (s.semi c.val).stuck = false ∨ s.due ((s.semi c.val).sentAt + 250000000) = false →
      exec (.stuckCkptResend c) s = .next (s.after s))

/-- SEAL_COMPLETE (R68, R72, R73, R498): the seal being written is complete in its bank with its signed record, and the next
that waits starts. The seal of a COMMIT opens the image at epoch 1 (log 100) and answers the request; that of a Semicolon ends
it and counts it; that of an extent lets the row take effect; that of the Full Stop leaves the device quiet. A failed write
raises 0x023: a COMMIT is answered STORE_FAIL and the image stays in Setup, and in Open a Semicolon's takes the image to Fault
with cause 0x0002.
With no seal under way, or while VDD_KEEP is too low to write the Keep store (R483), nothing ends; while the root of trust
signs an attestation, the seal waits for it (R443). -/
def Obligations.SealsComplete : Prop :=
  (∀ (s : State) (j : SealJob), s.awake = true → s.keep.job = some j → s.keepLow = false → s.attestSigns = false →
    s.lexicon.config = none →
    (∀ corr rew, s.keep.waiting = [] → ∃ t, exec (.sealComplete corr rew false) s = .next t ∧ t.keep.job = none ∧
      (∃ r, (t.keep.bank j.bank).complete = some r ∧ r.seq = j.intent.seq ∧ r.kind = j.intent.kind ∧
        r.epoch = j.intent.epoch ∧ r.carriers = s.get Reg.activeCarriers) ∧
      t.get Reg.sealSequence = j.intent.seq ∧ t.get Reg.keepBank = j.bank ∧
      (∀ who, j.purpose = .commit who → s.image = .setup →
        t.image = .opened ∧ t.get Reg.epoch = 1 ∧ t.get Reg.windowOpen = 1 ∧ t.persist.dirty = []) ∧
      (j.purpose = .semicolon → t.persist.running = false ∧ t.persist.count = 0 ∧ t.get Reg.semicolonState = 0 ∧
        t.persist.holdLeft = s.persist.holdLeft - 1 ∧ t.image = s.image) ∧
      (∀ r b who, j.purpose = .extent r b who → t.keep.extNext = s.keep.extNext ++ [(r, b)]) ∧
      (j.purpose = .fullStop → t.stop.quiet = true)) ∧
    (∀ corr rew, s.keep.waiting = [] → ∃ t, exec (.sealComplete corr rew true) s = .next t ∧ t.keep.job = none ∧
      t.get Reg.sealSequence = s.get Reg.sealSequence ∧
      (∀ p, j.purpose = .commit (.direct p) → t.image = s.image ∧ t.answered p .storeFail) ∧
      (j.purpose = .semicolon → s.image = .opened → t.image = .fault ∧ t.get Reg.faultCause = 0x0002 ∧
        t.get Reg.windowOpen = 0) ∧
      (j.purpose = .fullStop → t.stop.quiet = true)) ∧
    (∀ corr rew failed p rest, s.keep.waiting = p :: rest → ∃ t, exec (.sealComplete corr rew failed) s = .next t ∧
      t.keep.waiting = rest ∧ ∃ k, t.keep.job = some k ∧ k.purpose = p)) ∧
  (∀ (corr rew : Nat) (failed : Bool) (s : State), s.awake = true → s.lexicon.config = none →
    (s.keep.job = none ∨ s.keepLow = true → exec (.sealComplete corr rew failed) s = .next (s.after s)) ∧
    (s.keep.job ≠ none → s.keepLow = false → s.attestSigns = true → exec (.sealComplete corr rew failed) s =
      .next (s.after { s with security := { s.security with sealWaits := some (corr, rew, failed) } })))

/-! ### The governor (spec/03) and the touch-first restore (spec/04) -/

/-- HOLDUP_REPORT (R50, R51, R420): the figures and the time of the report are kept, eight reports at most, the budget is to
be recomputed, and HOLDUP_DERATE follows the slope of the reports when it moves by 0.5 % or more; nothing after the cut.
HOLDUP_STALE (R52): no report for GOV_REPORT_MAX_AGE marks the energy stale and raises 0x021.
GOVERNOR_ADMIT (R54): the write at the head of the posted path that the governor now admits is accepted, in its turn
before what follows it; one that it still holds keeps its place. After the cut nothing is admitted. PENDING_ENTRY_FREE
(R113) tries the publish at the head in the same way. -/
def Obligations.GovernorFollowsReports : Prop :=
  (∀ (c : Fin 8) (l : Fin 2) (e r k d : Nat) (s u : State), s.awake = true →
    u = s.consume (2 * c.val + l.val) (fun m => m.op == 0x20) →
    d = derateOf ((s.now, e) :: (s.govCar c.val).reports.take 7) (s.get Reg.holdupLookahead) →
    (s.cutPassed = true → exec (.holdupReport c l e r k) s = .next (s.after u)) ∧
    (s.cutPassed = false → ∃ t, exec (.holdupReport c l e r k) s = .next t ∧
      t.get Reg.holdupEnergy c.val = e ∧ t.get Reg.holdupSaveRate c.val = r ∧ t.get Reg.holdupSaveEnergy c.val = k ∧
      (t.govCar c.val).reports = (s.now, e) :: (s.govCar c.val).reports.take 7 ∧
      (t.govCar c.val).stale = false ∧ (t.govCar c.val).recompute = true ∧
      t.get Reg.holdupDerate c.val = (if 1000 * (max d (s.get Reg.holdupDerate c.val) -
        min d (s.get Reg.holdupDerate c.val)) < 5 * 65536 then s.get Reg.holdupDerate c.val else d) ∧
      s.changesOnly t (Footprint.event.plus [Reg.holdupEnergy, Reg.holdupSaveRate, Reg.holdupSaveEnergy,
        Reg.holdupDerate, Reg.replans] [.gov, .links])) ∧
    ((s.govCar c.val).stale = false → (s.linkIsUp (2 * c.val) || s.linkIsUp (2 * c.val + 1)) = true →
      s.due ((((s.govCar c.val).reports.head?.map (·.1)).getD 0) + 250000 * s.get Reg.govReportMaxAge) = true →
      exec (.holdupStale c) s = .next (s.after (State.raise
        { s with gov := Tbl.put s.gov c.val { s.govCar c.val with stale := true, recompute := true } } 0 0x021 c.val))) ∧
    ((s.govCar c.val).stale = true ∨ (s.linkIsUp (2 * c.val) || s.linkIsUp (2 * c.val + 1)) = false ∨
      s.due ((((s.govCar c.val).reports.head?.map (·.1)).getD 0) + 250000 * s.get Reg.govReportMaxAge) = false →
      exec (.holdupStale c) s = .next (s.after s))) ∧
  (∀ (i : Fin 256) (off : Nat) (data : List (Option Byte)) (ep ecc : Bool) (rest : List Instr) (s u : State),
    s.awake = true → u = { s with host := { s.host with posted := [] } } →
    (s.cutPassed = true → exec .governorAdmit s = .next (s.after s) ∧ exec .pendingEntryFree s = .next (s.after s)) ∧
    (∀ v, s.cutPassed = false → s.host.posted = .hostWrite i ⟨.bar2, off⟩ data ep ecc :: rest →
      u.tryWrite i.val off data ecc = some v →
      exec .pendingEntryFree s = .next (s.after (v.postedGo rest)) ∧
      (s.mirror.rxWait = [] → s.dma.chans = [] →
        exec .governorAdmit s = .next (s.after (v.postedGo rest).runReadWait))) ∧
    (s.cutPassed = false → s.host.posted = .hostWrite i ⟨.bar2, off⟩ data ep ecc :: rest →
      u.tryWrite i.val off data ecc = none →
      exec .pendingEntryFree s = .next (s.after s) ∧
      (s.mirror.rxWait = [] → s.dma.chans = [] → s.host.readWait = [] → exec .governorAdmit s = .next (s.after s))) ∧
    (∀ o n a v, s.cutPassed = false → s.host.posted = .appendPublish i o n a v :: rest → s.resetting i.val = false →
      u.doorbellWaits i.val o n a false v = false →
      exec .pendingEntryFree s = .next (s.after ((u.appendDoorbell i.val o n a false v).postedGo rest))))

/-- CARRIER_WAIT_EXPIRY (R82): RESTART_CARRIER_WAIT after the restart began, the carrier checks run with what has come. A
carrier that has sent no IDENT fails check 3, and the image goes to Fault with cause 0x0102; when every carrier passes, the
sweep begins in the epoch after the cut. READY_TIMEOUT (R82, check 8): 500 ms after the sweep PROMOTE a carrier without
READY takes the image to Fault with cause 0x010B.
RESTORE_STATUS (R85, R95, R199, R499): READY of the last carrier lets the windows open at the next clause boundary; one of
a wrong epoch is a protocol error; a sweep that ends leaves no part held for that carrier, and with the last slice of the
last carrier the image is Open. TOUCH_TIMEOUT (R91): a host read held for RESTORE_TOUCH_LIMIT is completed as poisoned data
and source 0x026 is raised. -/
def Obligations.ImageIsRestored : Prop :=
  (∀ (c : Fin 8) (s : State), s.awake = true →
    (s.image = .restoring → s.get Reg.restartPhase = 2 →
      s.due (s.restore.startAt + 250000 * s.get Reg.restartCarrierWait) = true →
      (c.val < s.get Reg.activeCarriers → s.identified c.val = false → ∃ t, exec .carrierWaitExpiry s = .next t ∧
        t.image = .fault ∧ t.get Reg.faultCause = 0x0102 ∧ t.get Reg.restartCarrierStatus c.val = 3 ∧
        t.get Reg.windowOpen = 0) ∧
      (∀ e, s.restore.epoch = some e → (∀ k, k < s.get Reg.activeCarriers → s.carrierCheck (some e) k = none) →
        ∃ t, exec .carrierWaitExpiry s = .next t ∧ t.image = .restoring ∧ t.get Reg.restartPhase = 3 ∧
          t.get Reg.epoch = (e + 1) % 4294967296 ∧ t.restore.epoch = some e ∧ t.restore.sweepAt = s.now ∧
          t.persist.dirty = [] ∧ t.persist.running = false)) ∧
    (s.image ≠ .restoring ∨ s.get Reg.restartPhase ≠ 2 ∨
        s.due (s.restore.startAt + 250000 * s.get Reg.restartCarrierWait) = false →
      exec .carrierWaitExpiry s = .next (s.after s)) ∧
    (s.image = .restoring → s.get Reg.restartPhase = 3 → c.val < s.get Reg.activeCarriers →
      (s.car c.val).ready = false → s.due (s.restore.sweepAt + 125000000) = true →
      ∃ t, exec (.readyTimeout c) s = .next t ∧ t.image = .fault ∧ t.get Reg.faultCause = 0x010B ∧
        t.get Reg.restartCarrierStatus c.val = 10 ∧ t.get Reg.windowOpen = 0) ∧
    (s.image ≠ .restoring ∨ (s.car c.val).ready = true ∨ s.due (s.restore.sweepAt + 125000000) = false →
      exec (.readyTimeout c) s = .next (s.after s))) ∧
  (∀ (c : Fin 8) (l : Fin 2) (s u : State), s.awake = true → s.host.readWait = [] →
    u = s.consume (2 * c.val + l.val) (fun m => m.op == 0x16) →
    (∀ r tc sw d er ep v, s.image = .restoring → 3 ≤ s.get Reg.restartPhase →
      ep ≠ (s.restore.epoch.getD 0 + 1) % 4294967296 →
      exec (.restoreStatus c l r tc sw d er ep v) s = .next (s.after
        (((u.bump Reg.protocolErrors c.val).raise 0 0x080 c.val).runReadWait))) ∧
    (∀ v, s.image = .restoring → s.get Reg.restartPhase = 3 → s.restore.openAt = none →
      (∀ k, k < s.get Reg.activeCarriers → k ≠ c.val → (s.car k).ready = true) →
      ∃ t, exec (.restoreStatus c l true false false false false ((s.restore.epoch.getD 0 + 1) % 4294967296) v) s = .next t ∧
        (t.car c.val).ready = true ∧ t.restore.openAt = some (s.clock.clause + 1) ∧
        s.changesOnly t (Footprint.none.plus [] [.carriers, .restore, .links, .host])) ∧
    (∀ v, s.image = .restoring → s.get Reg.restartPhase = 4 → c.val < s.get Reg.activeCarriers →
      0 < s.get Reg.imageSegments → (s.car c.val).resident = [] →
      (∀ k, k < s.get Reg.activeCarriers → k ≠ c.val → (s.car k).resident = [(0, s.get Reg.imageSegments)]) →
      ∃ t, exec (.restoreStatus c l false false false true false ((s.restore.epoch.getD 0 + 1) % 4294967296) v) s = .next t ∧
        t.image = .opened ∧ t.get Reg.restartPhase = 5 ∧ t.get Reg.restoreResident = s.get Reg.imageSegments ∧
        (∀ h ∈ t.restore.held, h.car = c.val → s.get Reg.imageSegments ≤ h.seg)) ∧
    (∀ id h ia n job part, s.restore.held.find? (fun x => x.order == id) = some h →
      h.work = .image false ia n [] false (.hostRead job part) →
      s.due (h.cyc + 250 * s.get Reg.restoreTouchLimit) = true →
      exec (.touchTimeout id) s = .next (s.after
        ((((State.bump { s with restore := { s.restore with held := s.restore.held.filter (fun x => x.order != id) } }
          Reg.restoreTouchTimeouts).raise 0 0x026 (carrierOf (s.get Reg.activeCarriers) ia)).readData job part [] 2
          0).runReadWait))) ∧
    (∀ id, s.restore.held.find? (fun x => x.order == id) = none → exec (.touchTimeout id) s = .next (s.after s)))

/-! ### Accesses of the host (spec/07, spec/08) -/

/-- HOST_READ (R107, R164, R167, R170, R174, R191, R200): a read that no BAR decodes whole is not the block's. One of more
than 4,096 bytes is malformed; one to a function that does not decode, or of BAR0 across an 8-byte word, is answered UR. It
takes its turn behind what the host has posted (R171). Of BAR2: a read whose parts all pass is started, with one part for
each run within an extent and a 256-byte line, and its tag waits for the completions; it waits where no place is free (R92,
R168); to a closed window or with a failing part it is answered UR or CA as Table 7.8 says. Of BAR4: one completion with
DURABLE of the slot's context, and zeros elsewhere. Of BAR0: one completion with the word of the fast-path page. After the
cut nothing is answered. -/
def Obligations.HostReads : Prop :=
  ∀ (i : Fin 256) (b : Bar) (addr len tag : Nat) (s u : State), s.clock.powered = true →
    (s.cutPassed = true → exec (.hostRead i ⟨b, addr⟩ len tag) s = .next (s.after s)) ∧
    (s.cutPassed = false →
      ((len = 0 ∨ addr < s.barBase i.val b ∨ s.barBase i.val b + s.barSize i.val b < addr + len) →
        exec (.hostRead i ⟨b, addr⟩ len tag) s = .next (s.after s)) ∧
      (∀ off, 0 < len → addr = s.barBase i.val b + off → off + len ≤ s.barSize i.val b →
        u = (if b = .bar2 then s.wakeOutsideA0 14 else s) →
        (4096 < len → exec (.hostRead i ⟨b, addr⟩ len tag) s = .next (s.after ((s.aerUncor 0 18).raise 0 0x004 0))) ∧
        (len ≤ 4096 → u.accepts i.val b off = false ∨ bar0Breaks b off len = true →
          exec (.hostRead i ⟨b, addr⟩ len tag) s = .next (s.after
            (((u.aerUncor i.val 20).aerCor i.val 13).answerRead i.val tag .ur len []))) ∧
        (len ≤ 4096 → u.accepts i.val b off = true → bar0Breaks b off len = false → u.host.posted ≠ [] →
          exec (.hostRead i ⟨b, addr⟩ len tag) s = .next (s.after
            { u with host := { u.host with posted := u.host.posted ++ [.hostRead i ⟨b, off⟩ len tag] } })) ∧
        (len ≤ 4096 → u.accepts i.val b off = true → bar0Breaks b off len = false → u.host.posted = [] →
          (b = .bar4 → exec (.hostRead i ⟨b, addr⟩ len tag) s = .next (s.after (u.answerRead i.val tag .sc len
            (if len = 8 ∧ off % 8 = 0 ∧ off / 8 < s.get Reg.effCtxCount i.val then
              le 8 (s.get Reg.ctxDurable (s.get Reg.effCtxFirst i.val + off / 8)) else zeros len)))) ∧
          (b = .bar0 → pageAt i.val (off / 8 * 8) ≠ (.claim, 0) → exec (.hostRead i ⟨b, addr⟩ len tag) s =
            .next (s.after (u.answerRead i.val tag .sc len
              (slice (le 8 (s.pageWord i.val (off / 8 * 8))) (off % 8) len)))) ∧
          (b = .bar0 → pageAt i.val (off / 8 * 8) = (.claim, 0) → len = 8 → exec (.hostRead i ⟨b, addr⟩ len tag) s =
            .next (s.after ((u.claimNow i.val).answerRead i.val tag .sc 8 (le 8 (s.claimWord i.val))))) ∧
          (b = .bar2 → (u.host.readWait ≠ [] ∨ u.readRoom i.val off len = false) →
            exec (.hostRead i ⟨b, addr⟩ len tag) s = .next (s.after
              { u with host := { u.host with readWait := u.host.readWait ++ [.hostRead i ⟨b, off⟩ len tag] } })) ∧
          (b = .bar2 → u.host.readWait = [] → u.readRoom i.val off len = true →
            (u.windowsOpen = false → exec (.hostRead i ⟨b, addr⟩ len tag) s = .next (s.after
              (u.refuseAccess i.val tag len false off ⟨8, 1, u.get Reg.imageState⟩ none))) ∧
            (∀ p f, u.windowsOpen = true →
              u.decidingFault i.val false (u.partsOf i.val off len) = some (p, f) →
              exec (.hostRead i ⟨b, addr⟩ len tag) s = .next (s.after
                (u.refuseAccess i.val tag len false p.w f p.row))) ∧
            (u.windowsOpen = true → u.decidingFault i.val false (u.partsOf i.val off len) = none →
              ∃ t, exec (.hostRead i ⟨b, addr⟩ len tag) s = .next t ∧
                t.host.reads = s.host.reads ++ [⟨s.host.nextRead, i.val, tag, off, len, s.now,
                  (u.partsOf i.val off len).map (fun p => ⟨p.ia, p.len, none, 0, false⟩)⟩] ∧
                t.host.nextRead = s.host.nextRead + 1 ∧
                s.changesOnly t (Footprint.message.plus [Reg.restoreHeldBytes, Reg.restoreTouchPending,
                  Reg.restoreTouches, Reg.greenBytes, Reg.yellowBytes, Reg.redBytes]
                  [.host, .restore, .carriers, .flow]))))))

/-- HOST_WRITE (R48, R54, R106, R111, R164, R167, R174, R200): a write that no BAR decodes whole is not the block's. One of more
than 512 bytes, or with gaps that no TLP can have, is malformed; one to a function that does not decode, a poisoned one, and
one of BAR0 across an 8-byte word are refused with the error that Table 7.8 names. It takes its turn behind what the host has
posted (R171). Of BAR2: one whose parts all pass and that finds room is accepted: its segments are dirty and it takes the next
write number of its instance; without room it waits, and with it everything the host posts after it; one that fails a test is
refused. Of BAR4 it is a doorbell, of BAR0 a write of the fast-path page; with an uncorrectable error in the buffer either
is discarded with the fatal error of row 13 (log 97). -/
def Obligations.HostWrites : Prop :=
  ∀ (i : Fin 256) (b : Bar) (addr : Nat) (data : List (Option Byte)) (ecc : Bool) (s u : State), s.clock.powered = true →
    (∀ ep, s.cutPassed = true → exec (.hostWrite i ⟨b, addr⟩ data ep ecc) s = .next (s.after s)) ∧
    (∀ ep, s.cutPassed = false →
      (data = [] ∨ addr < s.barBase i.val b ∨ s.barBase i.val b + s.barSize i.val b < addr + data.length) →
      exec (.hostWrite i ⟨b, addr⟩ data ep ecc) s = .next (s.after s)) ∧
    (∀ off, s.cutPassed = false → 0 < data.length → addr = s.barBase i.val b + off →
      off + data.length ≤ s.barSize i.val b → u = s.writeWakes i.val b off →
      (∀ ep, 512 < data.length ∨ enablesFit off data = false →
        exec (.hostWrite i ⟨b, addr⟩ data ep ecc) s = .next (s.after ((s.aerUncor 0 18).raise 0 0x004 0))) ∧
      (data.length ≤ 512 → enablesFit off data = true →
        (∀ ep, u.accepts i.val b off = false →
          exec (.hostWrite i ⟨b, addr⟩ data ep ecc) s = .next (s.after (u.aerUncor i.val 20))) ∧
        (u.accepts i.val b off = true →
          exec (.hostWrite i ⟨b, addr⟩ data true ecc) s = .next (s.after (u.aerUncor i.val 12))) ∧
        (u.accepts i.val b off = true → bar0Breaks b off data.length = true →
          exec (.hostWrite i ⟨b, addr⟩ data false ecc) s = .next (s.after (u.aerUncor i.val 20))) ∧
        (u.accepts i.val b off = true → bar0Breaks b off data.length = false → u.host.posted ≠ [] →
          exec (.hostWrite i ⟨b, addr⟩ data false ecc) s = .next (s.after
            { u with host := { u.host with posted := u.host.posted ++ [.hostWrite i ⟨b, off⟩ data false ecc] } })) ∧
        (u.accepts i.val b off = true → bar0Breaks b off data.length = false → u.host.posted = [] →
          (b = .bar0 → exec (.hostWrite i ⟨b, addr⟩ data false false) s = .next (s.after (u.pageWrite i off data))) ∧
          (∀ v, b = .bar4 → u.takeDoorbell i.val off data = some v →
            exec (.hostWrite i ⟨b, addr⟩ data false false) s = .next (s.after v)) ∧
          (b = .bar4 → u.takeDoorbell i.val off data = none → exec (.hostWrite i ⟨b, addr⟩ data false false) s =
            .next (s.after { u with host := { u.host with posted := [.hostWrite i ⟨b, off⟩ data false false] } })) ∧
          (b ≠ .bar2 → exec (.hostWrite i ⟨b, addr⟩ data false true) s =
            .next (s.after ((u.aerUncor 0 22).raise 0 0x004 0))) ∧
          (b = .bar2 →
            (u.windowsOpen = false → exec (.hostWrite i ⟨b, addr⟩ data false ecc) s = .next (s.after
              (u.refuseAccess i.val 0 data.length true off ⟨8, 1, u.get Reg.imageState⟩ none))) ∧
            (u.windowsOpen = true → u.persist.writesStopped = true → exec (.hostWrite i ⟨b, addr⟩ data false ecc) s =
              .next (s.after { u with host := { u.host with posted := [.hostWrite i ⟨b, off⟩ data false ecc] } })) ∧
            (∀ p f, u.windowsOpen = true → u.persist.writesStopped = false →
              u.decidingFault i.val true (u.partsOf i.val off data.length) = some (p, f) →
              exec (.hostWrite i ⟨b, addr⟩ data false ecc) s = .next (s.after
                (u.refuseAccess i.val 0 data.length true p.w f p.row))) ∧
            (∀ ps, u.windowsOpen = true → u.persist.writesStopped = false → ps = u.partsOf i.val off data.length →
              u.decidingFault i.val true ps = none →
              (u.writeRoom ps (u.copyRuns (ps.map (fun p => (p.ia, partData off data p)))) data.length = false →
                exec (.hostWrite i ⟨b, addr⟩ data false ecc) s = .next (s.after
                  { u with host := { u.host with posted := [.hostWrite i ⟨b, off⟩ data false ecc] } })) ∧
              (u.writeRoom ps (u.copyRuns (ps.map (fun p => (p.ia, partData off data p)))) data.length = true →
                exec (.hostWrite i ⟨b, addr⟩ data false true) s = .next (s.after
                  (((u.aerUncor 0 22).raise 0 0x004 0).acceptWrite i.val off data true ps)) ∧
                ∃ t, exec (.hostWrite i ⟨b, addr⟩ data false false) s = .next t ∧ t.lastWrite i.val = s.lastWrite i.val + 1 ∧
                  (∀ p ∈ ps, t.persist.dirty.mem (segmentOf p.ia) = true) ∧ t.host = s.host ∧ t.keep = s.keep ∧
                  t.image = s.image))))))

/-- MALFORMED_REQUEST (R174): each kind of Table 7.8 sets its bit of the AER status, of the function or of the PF, a fatal one
raises source 0x004, and an unsupported read is answered UR.
HOST_COMPLETION (R169): data of a read that the block has sent is gathered until its length is there, and then serves
its descriptor or its burst; a tag that is not outstanding is an Unexpected Completion. HOST_COMPLETION_TIMEOUT (R174):
the read ends, and its descriptor or burst fails with cause 1 for a timeout, 2 for UR, 3 for CA and 4 for poison. -/
def Obligations.OtherRequestsOfTheHost : Prop :=
  (∀ (i : Fin 256) (posted : Bool) (tag : Nat) (s : State), s.clock.powered = true →
    (∀ k, s.cutPassed = true → exec (.malformedRequest k i posted tag) s = .next (s.after s)) ∧
    (s.cutPassed = false →
      (∀ k b, (k, b) ∈ [(BadTlp.malformed, 18), (.flowControlProtocol, 13), (.receiverOverflow, 17),
          (.dataLinkProtocol, 4)] →
        exec (.malformedRequest k i posted tag) s = .next (s.after ((s.aerUncor 0 b).raise 0 0x004 0))) ∧
      exec (.malformedRequest .bufferEcc i true tag) s = .next (s.after ((s.aerUncor 0 22).raise 0 0x004 0)) ∧
      exec (.malformedRequest .bufferEcc i false tag) s = .next (s.after (s.bufferPoison i.val tag)) ∧
      (∀ k b, (k, b) ∈ [(BadTlp.receiverError, 0), (.badTlp, 6), (.badDllp, 7), (.replayTimer, 12), (.replayRollover, 8),
          (.correctedEcc, 14)] →
        exec (.malformedRequest k i posted tag) s = .next (s.after (s.aerCor 0 b))) ∧
      (∀ k, k ∈ [BadTlp.unsupported, .decodeDisabled, .bar0Shape] →
        exec (.malformedRequest k i true tag) s = .next (s.after (s.aerUncor i.val 20)) ∧
        exec (.malformedRequest k i false tag) s = .next (s.after
          (((s.aerUncor i.val 20).aerCor i.val 13).answerRead i.val tag .ur 0 []))) ∧
      (s.decodes i.val = true →
        exec (.malformedRequest .poisonedWrite i posted tag) s = .next (s.after (s.aerUncor i.val 12))) ∧
      (s.decodes i.val = false →
        exec (.malformedRequest .poisonedWrite i posted tag) s = .next (s.after (s.aerUncor i.val 20))) ∧
      exec (.malformedRequest .unexpectedCompletion i posted tag) s = .next (s.after ((s.aerUncor 0 16).aerCor 0 13)))) ∧
  (∀ (tag : Nat) (data : List Byte) (s : State), s.awake = true → s.cutPassed = false →
    (s.outstanding tag = none →
      exec (.hostCompletion tag data) s = .next (s.after ((s.aerUncor 0 16).aerCor 0 13)) ∧
      (∀ k, exec (.hostCompletionTimeout tag k) s = .next (s.after ((s.aerUncor 0 16).aerCor 0 13)))) ∧
    (∀ r, s.outstanding tag = some r →
      (r.got.length + data.length < r.len → exec (.hostCompletion tag data) s = .next (s.after
        { s with host := { s.host with reqs := s.host.reqs.map (fun q =>
          if q.tag = tag then { q with got := r.got ++ data } else q) } })) ∧
      (∀ ch id, r.len ≤ r.got.length + data.length → r.what = .descriptor ch id →
        exec (.hostCompletion tag data) s = .next (s.after
          ((s.dropFetch tag).descData ch id (slice (r.got ++ data) 0 r.len)))) ∧
      (∀ ch b sl, r.len ≤ r.got.length + data.length → r.what = .dmaRead ch b sl →
        exec (.hostCompletion tag data) s = .next (s.after
          ((s.dropFetch tag).dmaData ch b sl (slice (r.got ++ data) 0 r.len)))) ∧
      (∀ ch id, r.what = .descriptor ch id →
        exec (.hostCompletionTimeout tag .timeout) s = .next (s.after
          (((s.aerUncor r.i 14).dropFetch tag).dmaReadFails ch id 0 1)) ∧
        exec (.hostCompletionTimeout tag .ur) s = .next (s.after ((s.dropFetch tag).dmaReadFails ch id 0 2)) ∧
        exec (.hostCompletionTimeout tag .ca) s = .next (s.after ((s.dropFetch tag).dmaReadFails ch id 0 3)) ∧
        exec (.hostCompletionTimeout tag .poisoned) s = .next (s.after
          (((s.aerUncor r.i 12).dropFetch tag).dmaReadFails ch id 0 4))) ∧
      (∀ ch b sl, r.what = .dmaRead ch b sl →
        exec (.hostCompletionTimeout tag .timeout) s = .next (s.after
          (((s.aerUncor r.i 14).dropFetch tag).dmaReadFails ch b sl 1)) ∧
        exec (.hostCompletionTimeout tag .ur) s = .next (s.after ((s.dropFetch tag).dmaReadFails ch b sl 2)) ∧
        exec (.hostCompletionTimeout tag .ca) s = .next (s.after ((s.dropFetch tag).dmaReadFails ch b sl 3)) ∧
        exec (.hostCompletionTimeout tag .poisoned) s = .next (s.after
          (((s.aerUncor r.i 12).dropFetch tag).dmaReadFails ch b sl 4)))))

/-! ### Functions and their configuration (spec/07, spec/09, spec/11) -/

/-- VF_ENABLE_SET (R212, R209): VFs 1 to NumVFs are live, and those that were not have their staged fields in effect.
VF_ENABLE_CLEAR (R212, R213): every live VF is asked to reset with kind 3. NUMVFS_WRITE: NumVFs, discarded while VF Enable
is 1.
PF_FLR and VF_FLR (R213): the function is asked to reset with kind 2 or 1, in its FLR_MODE, and stops answering at once;
a PF FLR takes every live VF with it. An FLR of a VF that is not there changes nothing.
During an FLR of the function each is answered with Request Retry Status (R180); after the cut nothing happens. -/
def Obligations.FunctionsComeAndGo : Prop :=
  (∀ (m : Bool) (n : Fin 256) (s : State), s.awake = true →
    (s.cutPassed = true → exec (.vfEnableSet m) s = .next (s.after s) ∧ exec .vfEnableClear s = .next (s.after s) ∧
      exec (.numvfsWrite n) s = .next (s.after s)) ∧
    (s.cutPassed = false → s.flrRuns 0 = true →
      exec (.vfEnableSet m) s = .next (s.after (s.emit (.requestRetry 0))) ∧
      exec .vfEnableClear s = .next (s.after (s.emit (.requestRetry 0))) ∧
      exec (.numvfsWrite n) s = .next (s.after (s.emit (.requestRetry 0)))) ∧
    (s.cutPassed = false → s.flrRuns 0 = false →
      (s.host.vfEnable = false → ∃ t, exec (.vfEnableSet m) s = .next t ∧
        t.host.vfEnable = true ∧ t.host.vfMem = m ∧ t.host.numVfs = s.host.numVfs ∧
        (∀ i, 1 ≤ i → i ≤ s.host.numVfs → i < 256 → t.live i = true) ∧
        (∀ i x, 1 ≤ i → i ≤ s.host.numVfs → i < 256 → s.live i = false → x ∈ stagedFields → t.get x.2 i = s.get x.1 i) ∧
        s.changesOnly t (Footprint.none.plus (Reg.instState :: Reg.leafWeight :: stagedFields.map (·.2)) [.host, .flow])) ∧
      (s.host.vfEnable = true → exec (.vfEnableSet m) s = .next (s.after
        { s with host := { s.host with vfMem := m } })) ∧
      (s.host.vfEnable = true → ∃ t, exec .vfEnableClear s = .next t ∧ t.host.vfEnable = false ∧
        t.host.vfMem = false ∧
        (∀ i : Fin 256, i ≠ 0 → s.live i.val = true → ∃ j ∈ t.resets, j.i = i.val ∧ j.kind = 3 ∧ j.func = true) ∧
        s.changesOnly t (Footprint.none.plus [] [.host, .resets])) ∧
      (s.host.vfEnable = false → exec .vfEnableClear s = .next (s.after s)) ∧
      (s.host.vfEnable = false → exec (.numvfsWrite n) s = .next (s.after
        { s with host := { s.host with numVfs := n.val } })) ∧
      (s.host.vfEnable = true → exec (.numvfsWrite n) s = .next (s.after s)))) ∧
  (∀ (i : Fin 256) (s : State), s.hears = true →
    (s.flrRuns 0 = false → ∃ t, exec .pfFlr s = .next t ∧ t.host.vfEnable = false ∧ t.host.flr.mem 0 = true ∧
      (∃ j ∈ t.resets, j.i = 0 ∧ j.kind = 2 ∧ j.pf = true) ∧
      (∀ k : Fin 256, k ≠ 0 → s.live k.val = true →
        t.host.flr.mem k.val = true ∧ ∃ j ∈ t.resets, j.i = k.val ∧ j.kind = 2 ∧ j.func = true) ∧
      s.changesOnly t (Footprint.none.plus [] [.host, .resets])) ∧
    (s.flrRuns 0 = true → exec .pfFlr s = .next (s.after (s.emit (.requestRetry 0)))) ∧
    (i ≠ 0 → s.configOn i.val = true → ∃ t, exec (.vfFlr i) s = .next t ∧ t.host.flr.mem i.val = true ∧
      (∃ j ∈ t.resets, j.i = i.val ∧ j.kind = 1 ∧ j.func = true ∧
        (s.resetJob i.val = none → j.drain = (s.get Reg.flrMode i.val == 1))) ∧
      s.changesOnly t (Footprint.none.plus [] [.host, .resets])) ∧
    (s.live i.val = true → s.flrRuns i.val = true →
      exec (.vfFlr i) s = .next (s.after (s.emit (.requestRetry i.val)))) ∧
    ((i = 0 ∧ s.flrRuns 0 = false) ∨ s.live i.val = false → exec (.vfFlr i) s = .next (s.after s)))

/-- BAR_RESIZE (R166): the size is taken only while memory decode is disabled and when it is listed; otherwise it is refused
and counted. BUS_MASTER_CHANGE (R182): set, it lets the function's records and messages go. PF_D3HOT_ENTRY, PF_D0_RETURN
(R182, R403): the PF's power state, and the request for A2 or A0. During an FLR of the function they are answered with Request
Retry Status (R180). PME_TURN_OFF (R157) is answered. HOST_LINK_STATUS_CHANGE (R159, R181, R184): LINK_STATUS, the rate no
higher than LINK_RATE_MAX let the link train to, and source 0x001 on a change; a link that goes down resets as a hot reset;
nothing comes up while PERST_N is low or the reference is lost.
MSIX_MASK (R270) and MSIX_UNMASK (R268): a vector's mask in the MSI-X table, in its turn behind the posted writes; Function
Mask and MSI-X Enable in the configuration space. Masked, what waits in egress of the vectors is withdrawn; unmasked, what
waited is issued. INFLIGHT_EXPIRY (R270): a vector's bit ends two clauses after its message left, when item 7 is not
deferred (R41). -/
def Obligations.HostConfiguresTheBlock : Prop :=
  (∀ (i : Fin 256) (s : State), s.hears = true →
    (s.flrRuns 0 = true →
      (∀ vf enc d, exec (.barResize vf enc d) s = .next (s.after (s.emit (.requestRetry 0)))) ∧
      (∀ e, exec (.pfD3hotEntry e) s = .next (s.after (s.emit (.requestRetry 0)))) ∧
      exec .pfD0Return s = .next (s.after (s.emit (.requestRetry 0)))) ∧
    (s.flrRuns 0 = false →
      (∀ enc, exec (.barResize false enc true) s = .next (s.after (s.bump Reg.hostResizeRefused))) ∧
      (∀ enc d, s.host.vfMem = true → exec (.barResize true enc d) s = .next (s.after (s.bump Reg.hostResizeRefused))) ∧
      (∀ (vf : Bool) enc d, enc < (if vf then 10 else 16) ∨ 22 < enc →
        exec (.barResize vf enc d) s = .next (s.after (s.bump Reg.hostResizeRefused))) ∧
      (∀ enc d, s.host.vfMem = false → 10 ≤ enc → enc ≤ 22 → exec (.barResize true enc d) s = .next (s.after
        { s with host := { s.host with vfWin := enc } })) ∧
      (∀ enc, 16 ≤ enc → enc ≤ 22 → exec (.barResize false enc false) s = .next (s.after
        { s with host := { s.host with pfWin := enc } })) ∧
      (∀ e, s.host.d3 = true ∨ s.get Reg.patrolOnD3 ≠ 1 → exec (.pfD3hotEntry e) s = .next (s.after
        (State.wakeSignal { s with host := { s.host with d3 := true, pmeEn := e } }))) ∧
      (∀ e, s.host.d3 = false → s.get Reg.patrolOnD3 = 1 → exec (.pfD3hotEntry e) s = .next (s.after
        ((State.wakeSignal { s with host := { s.host with d3 := true, pmeEn := e } }).powerRequest 2 3))) ∧
      (s.get Reg.powerState ≠ 2 → exec .pfD0Return s = .next (s.after { s with host := { s.host with d3 := false } })) ∧
      (s.get Reg.powerState = 2 → exec .pfD0Return s = .next (s.after
        (State.powerRequest { s with host := { s.host with d3 := false } } 0 3)))) ∧
    (∀ on, s.live i.val = false → exec (.busMasterChange i on) s = .next (s.after s)) ∧
    (∀ on, s.live i.val = true → s.flrRuns i.val = true →
      exec (.busMasterChange i on) s = .next (s.after (s.emit (.requestRetry i.val)))) ∧
    (s.configOn i.val = true → exec (.busMasterChange i false) s = .next (s.after
      { s with host := { s.host with busMaster := s.host.busMaster.remove i.val } })) ∧
    (s.configOn i.val = true → exec (.busMasterChange i true) s = .next (s.after
      ((State.retryOverflows { s with host := { s.host with busMaster := s.host.busMaster.add i.val } } i.val).retryMessages
        i.val))) ∧
    exec .pmeTurnOff s = .next (s.after (s.emit .pmeToAck)) ∧
    (∀ st r w f, 4 < st ∨ (st ≠ 0 ∧ (s.host.perstLow = true ∨ bit (s.get Reg.refclkStatus) 0 = false)) →
      exec (.hostLinkStatusChange st r w f) s = .next (s.after s)) ∧
    (∀ r w f, s.get Reg.hostLinkStatus = 0 → exec (.hostLinkStatusChange 0 r w f) s = .next (s.after s)) ∧
    (∀ r w f, s.get Reg.hostLinkStatus ≠ 0 → ∃ t, exec (.hostLinkStatusChange 0 r w f) s = .next t ∧
      t.portReset ∧ t.get Reg.hostLinkStatus = 0 ∧
      s.changesOnly t (Footprint.event.plus [Reg.hostLinkStatus] [.host, .resets, .power])) ∧
    (∀ (st r w : Nat) (f : Bool), 0 < st → st ≤ 4 → s.host.perstLow = false → bit (s.get Reg.refclkStatus) 0 = true →
      ∃ t, exec (.hostLinkStatusChange st r w f) s = .next t ∧ t.get Reg.hostLinkStatus = st ∧
        t.host.rateCap = (if st = 1 ∨ s.get Reg.hostLinkStatus = 0 then s.get Reg.hostLinkRateMax else s.host.rateCap) ∧
        t.get Reg.hostLinkRate = min r (min t.host.rateCap (if f then 6 else 5)) ∧
        t.get Reg.hostLinkWidth = (if w = 1 ∨ w = 2 ∨ w = 4 ∨ w = 8 ∨ w = 16 then w else s.get Reg.hostLinkWidth) ∧
        t.get Reg.hostLinkFlit = b2n f ∧
        t.get Reg.mgmtCount 1 = (if st = s.get Reg.hostLinkStatus then s.get Reg.mgmtCount 1
          else sat 255 (s.get Reg.mgmtCount 1 + 1)) ∧
        s.changesOnly t (Footprint.event.plus [Reg.hostLinkStatus, Reg.hostLinkRate, Reg.hostLinkWidth,
          Reg.hostLinkFlit, Reg.hostRecoveries] [.host]))) ∧
  (∀ (i : Fin 256) (v : Fin 256) (s : State), s.hears = true →
    (s.decodes i.val = true → s.host.posted = [] →
      exec (.msixMask i (.vector v)) s = .next (s.after (State.withdrawMessages
        { s with host := { s.host with vecOpen := s.host.vecOpen.remove (i.val * 256 + v.val) } } i.val
        (fun w => w == v.val))) ∧
      exec (.msixUnmask i (.vector v)) s = .next (s.after (State.retryMessages
        { s with host := { s.host with vecOpen := s.host.vecOpen.add (i.val * 256 + v.val) } } i.val))) ∧
    (s.decodes i.val = true → s.host.posted ≠ [] →
      exec (.msixMask i (.vector v)) s = .next (s.after
        { s with host := { s.host with posted := s.host.posted ++ [.msixMask i (.vector v)] } }) ∧
      exec (.msixUnmask i (.vector v)) s = .next (s.after
        { s with host := { s.host with posted := s.host.posted ++ [.msixUnmask i (.vector v)] } })) ∧
    (s.configOn i.val = true →
      exec (.msixMask i .functionMask) s = .next (s.after (State.withdrawMessages
        { s with host := { s.host with fnMask := s.host.fnMask.add i.val } } i.val (fun _ => true))) ∧
      exec (.msixUnmask i .functionMask) s = .next (s.after (State.retryMessages
        { s with host := { s.host with fnMask := s.host.fnMask.remove i.val } } i.val)) ∧
      exec (.msixMask i .msixEnable) s = .next (s.after (State.withdrawMessages
        { s with host := { s.host with msixEnable := s.host.msixEnable.remove i.val } } i.val (fun _ => true))) ∧
      exec (.msixUnmask i .msixEnable) s = .next (s.after (State.retryMessages
        { s with host := { s.host with msixEnable := s.host.msixEnable.add i.val } } i.val))) ∧
    (s.itemHeld 7 = true → exec (.inflightExpiry i v) s = .next (s.after s)) ∧
    (s.itemHeld 7 = false → ∃ t, exec (.inflightExpiry i v) s = .next t ∧
      (∀ c, (i.val, v.val, c) ∈ t.events.inflight ↔
        ((i.val, v.val, c) ∈ s.events.inflight ∧ s.clock.clause < c + 2)) ∧
      (∀ k w c, (k ≠ i.val ∨ w ≠ v.val) → ((k, w, c) ∈ t.events.inflight ↔ (k, w, c) ∈ s.events.inflight)) ∧
      t.events.decided = s.events.decided ∧ s.changesOnly t (Footprint.none.plus [] [.events])))

/-! ### Durable append (spec/05) -/

/-- APPEND_PUBLISH (R105, R108, R111 to R113): a doorbell that is one aligned 8-byte write to a slot of the instance moves the
tail. With no write of the instance outstanding the new tail is durable at once; with one outstanding the publish is pending
behind it, with the number of the last write as its fence. What breaks a rule of R108 leaves the context as it is and is
reported with its code.
APPEND_TRIM (R108): a trim between head and DURABLE moves the head at once; one below the head is error 6, one beyond
DURABLE error 5. APPEND_COAL_TIMEOUT (R115): COAL_TIME after U rose from zero the context notifies, in a pass of item 8 that
has room for it (R44), and U is zero again. -/
def Obligations.DoorbellsMoveTheLog : Prop :=
  (∀ (i : Fin 256) (off n x : Nat) (s u : State), s.hears = true → u = s.wakeOutsideA0 13 → u.decodes i.val = true →
    s.host.posted = [] → off % 8 = 0 → off + 8 ≤ 2 ^ (if i.val = 0 then s.host.pfBar4 else s.host.vfBar4) →
    off / 8 < s.get Reg.effCtxCount i.val → n = s.get Reg.effCtxFirst i.val + off / 8 → s.govActive = true →
    (s.ctxState n = .opened → x % 8 = 0 → s.get Reg.ctxTail n ≤ x →
      x - s.get Reg.ctxHead n ≤ 2 ^ (12 + s.get Reg.ctxRingSize n) - 8 →
      (s.append.writes = [] → s.append.pubs = [] → s.get Reg.ctxDurable n ≤ x → 0 < s.get Reg.pendingMax i.val →
        ∃ t, exec (.appendPublish i off 8 true x) s = .next t ∧ t.get Reg.ctxTail n = x ∧ t.get Reg.ctxDurable n = x ∧
          t.append.pubs = [] ∧ t.get Reg.appendPending = 0 ∧
          s.changesOnly t (Footprint.event.plus [Reg.ctxTail, Reg.ctxDurable, Reg.appendPending, Reg.instPending]
            [.append])) ∧
      (s.localFrontier i.val < s.lastWrite i.val → s.append.pubs = [] → 0 < s.get Reg.pendingMax i.val →
        ∃ t, exec (.appendPublish i off 8 true x) s = .next t ∧ t.get Reg.ctxTail n = x ∧
          t.append.pubs = [⟨n, i.val, s.lastWrite i.val, x, 1, s.clock.clause, s.get Reg.ctxPolicy n == 1, false⟩] ∧
          t.get Reg.appendPending = 1 ∧ t.get Reg.instPending i.val = 1 ∧
          s.changesOnly t (Footprint.event.plus [Reg.ctxTail, Reg.appendPending, Reg.instPending] [.append])) ∧
      (u.pubRoom i.val n = false → exec (.appendPublish i off 8 true x) s = .next (s.after
        { u with host := { u.host with posted := [.appendPublish i off 8 true x] } }))) ∧
    (s.ctxState n = .opened → x % 8 ≠ 0 →
      exec (.appendPublish i off 8 true x) s = .next (s.after (u.appendError n 7 (x + 0)))) ∧
    (s.ctxState n = .opened → x % 8 = 0 → x < s.get Reg.ctxTail n →
      exec (.appendPublish i off 8 true x) s = .next (s.after (u.appendError n 2 (x + 0)))) ∧
    (s.ctxState n = .opened → x % 8 = 0 → s.get Reg.ctxTail n ≤ x →
      2 ^ (12 + s.get Reg.ctxRingSize n) - 8 < x - s.get Reg.ctxHead n →
      exec (.appendPublish i off 8 true x) s = .next (s.after (u.appendError n 3 (x + 0)))) ∧
    (s.ctxState n = .closing ∨ s.ctxState n = .error →
      exec (.appendPublish i off 8 true x) s = .next (s.after (u.appendError n 4 (x + 0)))) ∧
    (s.ctxState n = .closed ∨ s.ctxState n = .frozen →
      exec (.appendPublish i off 8 true x) s = .next (s.after (u.appendIgnore i.val)))) ∧
  (∀ (i : Fin 256) (off n x : Nat) (s u : State), s.hears = true → u = s.wakeOutsideA0 13 →
    (u.decodes i.val = true → s.host.posted = [] → off % 8 = 0 →
      off + 8 ≤ 2 ^ (if i.val = 0 then s.host.pfBar4 else s.host.vfBar4) →
      off / 8 < s.get Reg.effCtxCount i.val → n = s.get Reg.effCtxFirst i.val + off / 8 → s.govActive = true →
      s.ctxState n = .opened → x % 8 = 0 →
      (s.get Reg.ctxHead n ≤ x → x ≤ s.get Reg.ctxDurable n →
        exec (.appendTrim i off 8 true x) s = .next (s.after (u.set Reg.ctxHead n x))) ∧
      (x < s.get Reg.ctxHead n → exec (.appendTrim i off 8 true x) s = .next (s.after
        (u.appendError n 6 (x + 9223372036854775808)))) ∧
      (s.get Reg.ctxHead n ≤ x → s.get Reg.ctxDurable n < x → exec (.appendTrim i off 8 true x) s = .next (s.after
        (u.appendError n 5 (x + 9223372036854775808))))) ∧
    (∀ d, d = (s.ctxRun n).since + s.get Reg.ctxCoalTime n →
      ((s.ctxRun n).u ≠ 0 → s.get Reg.ctxCoalCount n ≠ 1 → s.expiryRuns 8 d (s.ctxDeadlines.all (d ≤ ·)) = true →
        ∃ t, exec (.appendCoalTimeout n) s = .next t ∧ t = s.after ((s.expiryDone 8 d).notifyCtx n) ∧ (t.ctxRun n).u = 0 ∧
          s.changesOnly t (Footprint.event.plus [] [.append, .clock])) ∧
      ((s.ctxRun n).u = 0 ∨ s.get Reg.ctxCoalCount n = 1 ∨ s.clock.clause < d ∨
          s.expiryRuns 8 d (s.ctxDeadlines.all (d ≤ ·)) = false →
        exec (.appendCoalTimeout n) s = .next (s.after s))))

/-- The context commands (R121, Table 5.7): OPEN takes head and tail from DURABLE, unless a check of R102 or R119 answers its
code; CLOSE waits for the last pending publish; ABORT closes at once and drops what is pending; RESUME takes the tail of the
newest publish still pending, or DURABLE.
DWORD_ENABLE (R116): set from 0 to 1, the durability word of every open context of the instance that asks for words is
written; cleared, or set while it stands, it is only stored. -/
def Obligations.ContextsAreCommanded : Prop :=
  (∀ (p : Path) (n : Nat) (s : State),
    (s.allows (.ctxOpen p n) = true → s.ctxState n = .closed ∧
      ((s.taken p).ctxOpenCheck n = .ok → ∃ t, exec (.ctxOpen p n) s = .next t ∧ t.answered p .ok ∧
        t.ctxState n = .opened ∧ t.get Reg.ctxHead n = s.get Reg.ctxDurable n ∧
        t.get Reg.ctxTail n = s.get Reg.ctxDurable n ∧
        t.get Reg.appendContextsOpen = s.get Reg.appendContextsOpen + 1 ∧
        s.changesOnly t (Footprint.request.plus [Reg.ctxState, Reg.ctxHead, Reg.ctxTail,
          Reg.appendContextsOpen] [.append])) ∧
      (∀ a, (s.taken p).ctxOpenCheck n = a → a ≠ .ok → exec (.ctxOpen p n) s = .next (s.after
        (((s.taken p).bump Reg.lexAborts).emit (.lexAnswer p a.code []))))) ∧
    (s.allows (.ctxClose p n) = true → (s.ctxState n = .opened ∨ s.ctxState n = .error) ∧
      ∃ t, exec (.ctxClose p n) s = .next t ∧ t.answered p .ok ∧
        t.ctxState n = (if s.ctxPending n then .closing else .closed) ∧ t.append.pubs = s.append.pubs ∧
        s.changesOnly t (Footprint.request.plus [Reg.ctxState, Reg.appendContextsOpen] [.append])) ∧
    (s.allows (.ctxAbort p n) = true →
      (s.ctxState n = .opened ∨ s.ctxState n = .closing ∨ s.ctxState n = .error) ∧
      ∃ t, exec (.ctxAbort p n) s = .next t ∧ t.answered p .ok ∧ t.ctxState n = .closed ∧ t.ctxPending n = false ∧
        t.get Reg.ctxTail n = s.get Reg.ctxDurable n ∧ t.get Reg.appendPending = t.append.pubs.length ∧
        s.changesOnly t (Footprint.request.plus [Reg.ctxState, Reg.ctxTail, Reg.appendContextsOpen, Reg.appendPending,
          Reg.instPending] [.append])) ∧
    (s.allows (.ctxResume p n) = true → s.ctxState n = .error ∧
      ∃ t, exec (.ctxResume p n) s = .next t ∧ t.answered p .ok ∧ t.ctxState n = .opened ∧ t.get Reg.ctxError n = 0 ∧
        t.get Reg.ctxTail n = (match s.newestPub n with | some b => b.tail | none => s.get Reg.ctxDurable n) ∧
        s.changesOnly t (Footprint.request.plus [Reg.ctxState, Reg.ctxTail, Reg.ctxError, Reg.appendContextsOpen] []))) ∧
  (∀ (p : Path) (i : Fin 256) (s u v : State), u = s.taken p → v = u.set Reg.dwordEnable i.val 1 →
    (s.allows (.dwordEnable p i false) = true → exec (.dwordEnable p i false) s = .next (s.after
      ((u.set Reg.dwordEnable i.val 0).emit (.lexAnswer p 0 [])))) ∧
    (s.allows (.dwordEnable p i true) = true → s.get Reg.dwordEnable i.val ≠ 0 →
      exec (.dwordEnable p i true) s = .next (s.after (v.emit (.lexAnswer p 0 [])))) ∧
    (s.allows (.dwordEnable p i true) = true → s.get Reg.dwordEnable i.val = 0 →
      exec (.dwordEnable p i true) s = .next (s.after
        ((v.each ((v.rowsOf Reg.ctxState).filter (fun n =>
            v.ctxOwner n == some i.val && v.ctxState n == .opened && bit (v.get Reg.ctxNotify n) 1))
          (fun s n => s.writeDword n false)).emit (.lexAnswer p 0 [])))))

/-! ### The mirror's commands (spec/06) -/

/-- PAIR (R128): from UNPAIRED or MISMATCH the engine is CONNECTING and wants a partner; PAIR_HELLO leaves at once when the
governor is active and a partner link is up. UNPAIR (R130, R137): UNPAIRED, with every unresolved copy marked in the map
and none retained.
ADOPT_PARTNER (R149): in MISMATCH every conflicting row takes the owner and the generation that the partner's hello
claims, and is REPLICA. -/
def Obligations.PairsAreCommanded : Prop :=
  (∀ (p : Path) (s u : State), u = s.taken p →
    (s.allows (.pair p) = true →
      (s.image = .setup ∨ s.image = .opened ∨ s.image = .restoring) ∧ s.get Reg.pairId ≠ 0 ∧
      exec (.pair p) s = .next (s.after ((u.mirrorCommand 1).emit (.lexAnswer p 0 []))) ∧
      (s.mirrorState = .unpaired ∨ s.mirrorState = .mismatch → s.mirror.hello = none →
        ∃ t, exec (.pair p) s = .next t ∧ t.answered p .ok ∧ t.mirrorState = .connecting ∧ t.mirror.wanted = true ∧
          t.mirror.helloSent = (s.govActive && s.anyPartnerUp) ∧ t.mirror.retain = s.mirror.retain ∧
          s.changesOnly t (Footprint.message.plus [Reg.mirrorState] [.mirror]))) ∧
    (s.allows (.unpair p) = true → (s.image = .setup ∨ s.image = .opened ∨ s.image = .restoring) ∧
      ∃ t, exec (.unpair p) s = .next t ∧ t.answered p .ok ∧ t.mirrorState = .unpaired ∧ t.mirror.wanted = false ∧
        t.mirror.helloSent = false ∧ t.mirror.hello = none ∧
        (s.mirrorState ≠ .unpaired → t.mirror.retain = [] ∧
          ∀ c ∈ s.mirror.retain, t.mirror.map.mem c.seg = true) ∧
        (∀ g, s.mirror.map.mem g = true → t.mirror.map.mem g = true) ∧
        s.changesOnly t Footprint.mirrors)) ∧
  (∀ (p : Path) (r : Fin 16) (s : State), s.allows (.adoptPartner p r) = true → s.mirrorState = .mismatch ∧
    exec (.adoptPartner p r) s = .next (s.after ((s.taken p).adoptPartner.emit (.lexAnswer p 0 []))) ∧
    (∀ h, s.mirror.hello = some h → (∀ k ∈ s.mirror.conflicts, k < 16) →
      ∃ t, exec (.adoptPartner p r) s = .next t ∧ t.answered p .ok ∧
        (∀ k ∈ s.mirror.conflicts, t.get Reg.rangeGeneration k = (h.claim s.side k).1 ∧
          t.get Reg.rangeOwner k = (h.claim s.side k).2 ∧ t.rowState k = 2) ∧
        (∀ k, k < 16 → k ∉ s.mirror.conflicts → t.rowState k = s.rowState k) ∧
        s.changesOnly t (Footprint.mirrors.plus [Reg.rangeState] [])))

/-- TAKEOVER (R148): a TAKEOVER_REQUEST leaves with the next REQ_NUM, and its time counts. HANDOVER (R133): the row is
REPLICA from the next clause, and the request is answered when the partner confirms, or with BUSY after 100 ms
(HANDOVER_TIMEOUT), when the row is OWNER again. FORCE_TAKEOVER (R149): the row is taken at the next clause boundary.
WITNESS_NODE_WRITE (R147): the number is in force from the next clause boundary. -/
def Obligations.TakeoverCommands : Prop :=
  ∀ (p : Path) (r : Fin 16) (s u : State), u = s.taken p →
    (s.allows (.takeover p) = true →
      s.image = .opened ∧ (s.mirrorState = .split ∨ s.mirrorState = .peerAway) ∧ s.get Reg.witnessNode ≠ 0 ∧
      exec (.takeover p) s = .next (s.after
        (((u.sendLease 3 (u.get Reg.leasePolicy) u.mirrorState.code u.nextReq 0 0).modMirror (fun m => { m with
            takeoverReq := u.nextReq
            takeoverAt := some (u.sendLease 3 (u.get Reg.leasePolicy) u.mirrorState.code u.nextReq 0 0).now })).emit
          (.lexAnswer p 0 [])))) ∧
    (s.allows (.handover p r) = true →
      s.rowLen r.val ≠ 0 ∧ s.rowState r.val = 0 ∧ s.mirrorState = .paired ∧
      exec (.handover p r) s = .next (s.after
        ((u.modMirror (fun m => { m with
            handover := some ⟨r.val, .direct p, u.now, none⟩
            rowNext := Tbl.put m.rowNext r.val 2 })).waitFor (.direct p) Reg.rangeCommand))) ∧
    (s.allows (.forceTakeover p r) = true →
      s.rowLen r.val ≠ 0 ∧ s.rowState r.val = 2 ∧ s.mirrorState = .split ∧
      exec (.forceTakeover p r) s = .next (s.after
        ((u.modMirror (fun m => { m with ownNext := (m.ownNext ++ [r.val]).eraseDups })).emit (.lexAnswer p 0 [])))) ∧
    (∀ n, s.allows (.witnessNodeWrite p n) = true → exec (.witnessNodeWrite p n) s = .next (s.after
      ((u.modMirror (fun m => { m with witnessNext := some (n % 256) })).emit (.lexAnswer p 0 [])))) ∧
    (∀ h, s.awake = true → s.lexicon.config = none → s.mirror.handover = some h → s.due (h.begun + 25000000) = true →
      exec .handoverTimeout s = .next (s.after
        ((s.modMirror (fun m => { m with handover := none, rowNext := Tbl.put m.rowNext h.row 0 })).finish h.who
          Reg.rangeCommand .busy))) ∧
    (∀ h, s.awake = true → s.lexicon.config = none → s.mirror.handover = some h → s.due (h.begun + 25000000) = false →
      exec .handoverTimeout s = .next (s.after s)) ∧
    (s.awake = true → s.lexicon.config = none → s.mirror.handover = none →
      exec .handoverTimeout s = .next (s.after s))

/-- A received MCOPY or RCOPY (R136, R140, R151, R152). While a restarting side has not reached window open it is answered
MNAK 3. A copy without the form of Table 6.4 changes nothing but its receive room. Behind waiting copies it waits, and keeps
its room and its credit. Otherwise it is refused with MNAK and its reason (a refused MCOPY counts as seen, log 20); known
already, it is acknowledged again; with room it is an image write in this side's dirty set; without room it waits. -/
def Obligations.CopiesReceived : Prop :=
  ∀ (pl : Fin 2) (again : Bool) (seq ia : Nat) (data : List Byte) (s : State), s.awake = true →
    (s.image = .restoring → s.windowsOpen = false →
      exec (.mcopy pl again seq ia data) s = .next (s.after ((s.copyLeaves pl false seq).sendMnak 3 seq ia)) ∧
      exec (.rcopy pl again seq ia data) s = .next (s.after ((s.copyLeaves pl true seq).sendMnak 3 seq ia))) ∧
    (s.image ≠ .restoring ∨ s.windowsOpen = true →
      (s.copyForm false ia data.length = false →
        exec (.mcopy pl again seq ia data) s = .next (s.after (s.copyLeaves pl false seq))) ∧
      (s.copyForm true ia data.length = false →
        exec (.rcopy pl again seq ia data) s = .next (s.after (s.copyLeaves pl true seq))) ∧
      (s.copyForm false ia data.length = true → s.mirror.rxWait ≠ [] →
        exec (.mcopy pl again seq ia data) s = .next (s.after (s.modMirror (fun m => { m with
          rxWait := m.rxWait ++ [.mcopy pl again seq ia data] })))) ∧
      (s.copyForm true ia data.length = true → s.mirror.rxWait ≠ [] →
        exec (.rcopy pl again seq ia data) s = .next (s.after (s.modMirror (fun m => { m with
          rxWait := m.rxWait ++ [.rcopy pl again seq ia data] })))) ∧
      (s.mirror.rxWait = [] →
        (∀ e, s.rxRefusal ia = some e →
          (s.copyForm false ia data.length = true → s.govActive = false →
            exec (.mcopy pl again seq ia data) s = .next (s.after ((s.sendMnak e seq ia).copyLeaves pl false seq))) ∧
          (s.copyForm false ia data.length = true → s.govActive = true →
            exec (.mcopy pl again seq ia data) s = .next (s.after ((((s.sendMnak e seq ia).modMirror (fun m => { m with
              rxSeen := m.rxSeen ++ [seq] })).sendMack).copyLeaves pl false seq))) ∧
          (s.copyForm true ia data.length = true →
            exec (.rcopy pl again seq ia data) s = .next (s.after (((s.sendMnak e seq ia).modMirror (fun m => { m with
              rcopyStop := some (m.rcopyStop.getD seq) })).copyLeaves pl true seq)))) ∧
        (s.rxRefusal ia = none →
          (s.copyForm false ia data.length = true → s.rxRepeat false seq = true →
            exec (.mcopy pl again seq ia data) s = .next (s.after
              (((s.modMirror (fun m => { m with mackDue := true })).sendMack).copyLeaves pl false seq))) ∧
          (s.copyForm true ia data.length = true → s.rxRepeat true seq = true →
            exec (.rcopy pl again seq ia data) s = .next (s.after (s.sendRack.copyLeaves pl true seq))) ∧
          (s.copyForm false ia data.length = true → s.rxRepeat false seq = false → s.rxRoom (rxParts ia data) = false →
            exec (.mcopy pl again seq ia data) s = .next (s.after (s.modMirror (fun m => { m with
              rxWait := [.mcopy pl again seq ia data] })))) ∧
          (s.copyForm true ia data.length = true → s.rxRepeat true seq = false → s.rxRoom (rxParts ia data) = false →
            exec (.rcopy pl again seq ia data) s = .next (s.after (s.modMirror (fun m => { m with
              rxWait := [.rcopy pl again seq ia data] })))) ∧
          (s.copyForm false ia data.length = true → s.rxRepeat false seq = false → s.rxRoom (rxParts ia data) = true →
            ∃ t, exec (.mcopy pl again seq ia data) s = .next t ∧
              t.mirror.rx = s.mirror.rx ++ [⟨seq, (rxParts ia data).length, false⟩] ∧
              t.mirror.rxSeen = s.mirror.rxSeen ++ [seq] ∧ t.persist.dirty.mem (segmentOf ia) = true ∧
              s.changesOnly t (Footprint.message.plus [Reg.govDirty, Reg.govState, Reg.restoreHeldBytes,
                Reg.restoreTouches, Reg.restoreTouchPending, Reg.greenBytes, Reg.yellowBytes, Reg.redBytes]
                [.mirror, .persist, .restore, .carriers, .links, .flow])) ∧
          (s.copyForm true ia data.length = true → s.rxRepeat true seq = false → s.rxRoom (rxParts ia data) = true →
            ∃ t, exec (.rcopy pl again seq ia data) s = .next t ∧ t.mirror.rcopyRx = seq ∧
              t.mirror.rx = s.mirror.rx ++ [⟨seq, (rxParts ia data).length, true⟩] ∧
              t.mirror.rxSeen = s.mirror.rxSeen ∧ t.persist.dirty.mem (segmentOf ia) = true ∧
              t.mirror.peerMap.mem (segmentOf ia) = true ∧
              t.mirrorState = (if s.mirrorState = .paired then .resync else s.mirrorState) ∧
              s.changesOnly t (Footprint.message.plus [Reg.mirrorState, Reg.govDirty, Reg.govState, Reg.restoreHeldBytes,
                Reg.restoreTouches, Reg.restoreTouchPending, Reg.greenBytes, Reg.yellowBytes, Reg.redBytes]
                [.mirror, .persist, .restore, .carriers, .links, .flow])))))

/-- MACK (R137): every copy up to SEQ in serial order leaves the retain buffer with its mirror acknowledgement. MNAK (R137):
reasons 1 and 2 make the state MISMATCH, and every copy is resolved by marking; otherwise the copy refused is marked, and
PAIRED becomes RESYNC. MIRROR_ACK_TIMEOUT (R137): the copies that have waited too long are counted and marked, not while
INTERRUPTED, and not while item 9 is deferred (R41). RACK (R140): the resync copies up to SEQ are acknowledged; with the last
of a segment that has not been marked again its bit clears, and with the last bit, on both sides, RESYNC ends in PAIRED.
A restarting side answers the messages with MNAK 3 (R152). -/
def Obligations.CopiesAreResolved : Prop :=
  (∀ (pl : Fin 2) (seq : Nat) (s : State), s.awake = true → s.image = .restoring → s.windowsOpen = false →
    exec (.mack pl seq) s = .next (s.after
      ((s.consume (16 + pl.val) (fun m => m.op == 0x51)).sendMnak 3 seq 0)) ∧
    (∀ e ia, exec (.mnak pl e seq ia) s = .next (s.after
      ((s.consume (16 + pl.val) (fun m => m.op == 0x52)).sendMnak 3 seq ia))) ∧
    exec (.rack pl seq) s = .next (s.after
      ((s.consume (16 + pl.val) (fun m => m.op == 0x54)).sendMnak 3 seq 0))) ∧
  (∀ (pl : Fin 2) (seq : Nat) (s : State), s.awake = true → s.image ≠ .restoring ∨ s.windowsOpen = true →
    (∃ t, exec (.mack pl seq) s = .next t ∧
      t.mirror.retain = s.mirror.retain.filter (fun c => !(c.seq == seq || below32 c.seq seq)) ∧
      t.mirror.map = s.mirror.map ∧ t.mirrorState = s.mirrorState ∧
      s.changesOnly t (Footprint.durable.plus [] [.mirror, .links])) ∧
    (∀ e ia, e = 1 ∨ e = 2 → s.mirrorState ≠ .unpaired → s.mirrorState ≠ .mismatch → s.cutPassed = false →
      ∃ t, exec (.mnak pl e seq ia) s = .next t ∧ t.mirrorState = .mismatch ∧ t.mirror.retain = [] ∧
        (∀ c ∈ s.mirror.retain, t.mirror.map.mem c.seg = true) ∧
        s.changesOnly t (Footprint.mirrors.plus [] [.links])) ∧
    (∀ e ia, (e ≠ 1 ∧ e ≠ 2) ∨ s.mirrorState = .unpaired ∨ s.mirrorState = .mismatch ∨ s.cutPassed = true →
      ∃ t, exec (.mnak pl e seq ia) s = .next t ∧
      t.mirror.retain = s.mirror.retain.filter (fun c => !(c.seq == seq && c.ia == ia)) ∧
      (∀ c ∈ s.mirror.retain, c.seq = seq → c.ia = ia → t.mirror.map.mem c.seg = true ∧
        (s.mirrorState = .paired → (s.rowOf c.seg).isSome = true → t.mirrorState = .resync)) ∧
      s.changesOnly t (Footprint.mirrors.plus [] [.links])) ∧
    (s.mirror.resyncMarked = false → ∃ t, exec (.rack pl seq) s = .next t ∧
      t.mirror.rcopies = s.mirror.rcopies.filter (fun x => !(x.1 == seq || below32 x.1 seq)) ∧
      s.changesOnly t (Footprint.mirrors.plus [] [.links])) ∧
    (∀ q g, s.mirror.rcopies = [(q, g, true)] → s.mirror.resyncSeg = some g → s.mirror.resyncMarked = false →
      (q = seq ∨ below32 q seq = true) → ∃ t, exec (.rack pl seq) s = .next t ∧ t.mirror.rcopies = [] ∧
        t.mirror.map = s.mirror.map.remove g ∧
        (s.mirror.map.remove g = [] → s.mirror.peerMap = [] → s.mirrorState = .resync → s.mirror.resyncRead = false →
          s.anyPartnerUp = true → s.cutPassed = false → t.mirrorState = .paired)) ∧
    (s.mirror.resyncMarked = true → exec (.rack pl seq) s = .next (s.after
      (((s.consume (16 + pl.val) (fun m => m.op == 0x54)).modMirror (fun m => { m with
        rcopies := m.rcopies.filter (fun x => !(x.1 == seq || below32 x.1 seq)) })).resyncPump)))) ∧
  (∀ s : State, s.awake = true →
    (s.itemHeld 9 = true ∨ s.mirrorState = .interrupted ∨ s.mirror.retain.any (fun c =>
        c.sentAt.any (fun t => s.due (t + usCycles (s.get Reg.mirrorAckTimeout)))) = false →
      exec .mirrorAckTimeout s = .next (s.after s)) ∧
    (∀ late : Copy → Bool, late = (fun c => c.sentAt.any (fun t => s.due (t + usCycles (s.get Reg.mirrorAckTimeout)))) →
      s.itemHeld 9 = false → s.mirrorState ≠ .interrupted → s.mirror.retain.any late = true →
      ∃ t, exec .mirrorAckTimeout s = .next t ∧
        t.mirror.retain = s.mirror.retain.filter (fun c => !(late c)) ∧
        (∀ c ∈ s.mirror.retain, late c = true → t.mirror.map.mem c.seg = true) ∧
        t.get Reg.mirrorAckTimeouts =
          sat 4294967295 (s.get Reg.mirrorAckTimeouts + (s.mirror.retain.filter late).length) ∧
        s.changesOnly t (Footprint.mirrors.plus [Reg.mirrorAckTimeouts] [])))

/-! ### Pairing, notices and the split (spec/06) -/

/-- PAIR_HELLO (R128, R129): a body that is not of Table 6.1, or one that comes to a side that does not want a partner,
changes nothing. Otherwise it begins a new round of checks: another PAIR_ID or the same side is MISMATCH; before this
side's own hello has gone it goes now, or the body waits; and with RANGE_DESCs still to come they are awaited.
RANGE_DESC (R129): before the hello, or before the last of the rows it announces, the row is kept. With the last row the
checks end: rows that differ, or lie outside the smaller image, are MISMATCH; so is a row with equal generations and two
owners, and it is a conflict. Otherwise each row takes the higher generation with its owner, is OWNER or REPLICA from the
next clause, the sequences start again, and the state is PAIRED, or RESYNC while the map of either side holds marks. A
restarting side answers RANGE_DESC with MNAK 3 (R152). -/
def Obligations.PairsAreChecked : Prop :=
  (∀ (pl : Fin 2) (b : List Byte) (h : Hello) (s u : State), s.awake = true → h = helloOf b →
    u = s.consume (16 + pl.val) (fun m => m.op == 0x55) →
    (b.length ≠ 128 ∨ s.mirror.wanted = false ∨ s.mirrorState = .unpaired ∨ s.cutPassed = true →
      exec (.pairHello pl b) s = .next (s.after u)) ∧
    (b.length = 128 → s.mirror.wanted = true → s.mirrorState ≠ .unpaired → s.cutPassed = false →
      (s.mirror.helloSent = false → exec (.pairHello pl b) s = .next (s.after
        (u.modMirror (fun m => { m with hello := some h, peerRows := [] })).pairTry)) ∧
      (s.mirror.helloSent = false → s.mayPair = false → exec (.pairHello pl b) s = .next (s.after
        (u.modMirror (fun m => { m with hello := some h, peerRows := [] })))) ∧
      (s.mirror.helloSent = true → h.pairId ≠ s.get Reg.pairId ∨ h.side ≠ 1 - s.side →
        ∃ t, exec (.pairHello pl b) s = .next t ∧ t.mirrorState = .mismatch ∧ t.mirror.helloSent = false ∧
          t.mirror.conflicts = [] ∧ s.changesOnly t (Footprint.mirrors.plus [] [.links])) ∧
      (s.mirror.helloSent = true → h.pairId = s.get Reg.pairId → h.side = 1 - s.side → 0 < h.ranges →
        exec (.pairHello pl b) s = .next (s.after
          (u.modMirror (fun m => { m with hello := some h, peerRows := [] })))))) ∧
  (∀ (pl : Fin 2) (row : Fin 16) (base n : Nat) (rows : Tbl (Nat × Nat)) (s u : State), s.awake = true →
    s.image ≠ .restoring ∨ s.windowsOpen = true →
    u = s.consume (16 + pl.val) (fun m => m.op == 0x5A) → rows = Tbl.put s.mirror.peerRows row.val (base, n) →
    (s.mirror.hello = none ∨ s.mirror.helloSent = false → exec (.rangeDesc pl row base n) s = .next (s.after
      (u.modMirror (fun m => { m with peerRows := rows })))) ∧
    (∀ h, s.mirror.hello = some h → s.mirror.helloSent = true → h.pairId = s.get Reg.pairId → h.side = 1 - s.side →
      (rows.length < h.ranges → exec (.rangeDesc pl row base n) s = .next (s.after
        (u.modMirror (fun m => { m with peerRows := rows })))) ∧
      (h.ranges ≤ rows.length → (∃ k, k < 16 ∧ (Tbl.find rows k = none ∧ s.rowLen k ≠ 0 ∨
          ∃ x, Tbl.find rows k = some x ∧ (x.2 ≠ s.rowLen k ∨
            x.2 ≠ 0 ∧ (x.1 ≠ s.rowBase k ∨ min s.segments h.segments < x.1 + x.2)))) →
        ∃ t, exec (.rangeDesc pl row base n) s = .next t ∧ t.mirrorState = .mismatch ∧ t.mirror.conflicts = [] ∧
          s.changesOnly t (Footprint.mirrors.plus [] [.links])) ∧
      (h.ranges ≤ rows.length → (∀ k, k < 16 → (Tbl.find rows k = none ∧ s.rowLen k = 0) ∨
          ∃ x, Tbl.find rows k = some x ∧ x.2 = s.rowLen k ∧
            (x.2 = 0 ∨ x.1 = s.rowBase k ∧ x.1 + x.2 ≤ min s.segments h.segments)) →
        ((∃ k, k < 16 ∧ s.rowLen k ≠ 0 ∧ (h.claim s.side k).1 = s.get Reg.rangeGeneration k ∧
            (h.claim s.side k).2 ≠ s.get Reg.rangeOwner k) →
          ∃ t, exec (.rangeDesc pl row base n) s = .next t ∧ t.mirrorState = .mismatch ∧
            (∀ k, k ∈ t.mirror.conflicts ↔ (k < 16 ∧ s.rowLen k ≠ 0 ∧
              (h.claim s.side k).1 = s.get Reg.rangeGeneration k ∧
              (h.claim s.side k).2 ≠ s.get Reg.rangeOwner k)) ∧
            s.changesOnly t (Footprint.mirrors.plus [] [.links])) ∧
        ((∀ k, k < 16 → s.rowLen k ≠ 0 → (h.claim s.side k).1 = s.get Reg.rangeGeneration k →
            (h.claim s.side k).2 = s.get Reg.rangeOwner k) →
          ∃ t, exec (.rangeDesc pl row base n) s = .next t ∧
            t.mirrorState = (if t.mapsClear then .paired else .resync) ∧
            (∀ k, k < 16 → s.rowLen k ≠ 0 →
              t.get Reg.rangeGeneration k = max (s.get Reg.rangeGeneration k) (h.claim s.side k).1 ∧
              t.get Reg.rangeOwner k = (if s.get Reg.rangeGeneration k < (h.claim s.side k).1 then (h.claim s.side k).2
                else s.get Reg.rangeOwner k) ∧
              Tbl.find t.mirror.rowNext k = some (if t.ownsRow k then 0 else 2)) ∧
            t.mirror.retain = [] ∧ t.mirror.txSeq = 0 ∧ t.mirror.rxDone = 4294967295 ∧ t.mirror.rx = [] ∧
            t.mirror.hello = none ∧ t.mirror.helloSent = false ∧
            s.changesOnly t (Footprint.mirrors.plus [] [.links]))))) ∧
  (∀ (pl : Fin 2) (row : Fin 16) (base n : Nat) (s : State), s.awake = true → s.image = .restoring →
    s.windowsOpen = false → exec (.rangeDesc pl row base n) s = .next (s.after
      ((s.consume (16 + pl.val) (fun m => m.op == 0x5A)).sendMnak 3 n (row.val + 16 * base))))

/-- MSTATE (R133): the row of the next generation that the partner hands over is OWNER here at once, and confirmed; the
confirmation of this side's handover gives the row away and answers the request. A restarting side answers MNAK 3 (R152);
another generation, or an MSTATE after the cut, changes nothing.
CUT_NOTICE and HOLD_NOTICE entering (R151): the partner is away: PEER_AWAY, every copy resolved by marking, and with
AUTO_TAKEOVER and a witness a takeover is asked for. HOLD_NOTICE leaving latches wake source 11, and lets pairing start from
PEER_AWAY. UNPAIRED, with the partner away already, or after the cut the first two change nothing; a restarting side answers MNAK 3 (R152). RMAP (R140): the
bits of rows that this side owns are marked.
SPLIT_DECLARED (R142, R146): SPLIT_TIME after the second link went down an INTERRUPTED pair is SPLIT: every copy is
resolved by marking, source 0x041 is raised, and each owned row is FENCED or OWNER from the next clause as the lease and the
policy say. Before that, in another state, or while item 9 is deferred (R41), nothing changes. -/
def Obligations.PairsHandOverAndSplit : Prop :=
  (∀ (pl : Fin 2) (r : Fin 16) (s u : State), s.awake = true → s.lexicon.config = none →
    u = s.consume (16 + pl.val) (fun m => m.op == 0x56) →
    (∀ c g o, s.image = .restoring → s.windowsOpen = false →
      exec (.mstate pl c r g o) s = .next (s.after (u.sendMnak 3 0 r.val))) ∧
    (∀ c g (o : Fin 2), s.image ≠ .restoring ∨ s.windowsOpen = true →
      (g ≠ (s.get Reg.rangeGeneration r.val + 1) % 4294967296 ∨ s.cutPassed = true →
        exec (.mstate pl c r g o) s = .next (s.after u)) ∧
      (g = (s.get Reg.rangeGeneration r.val + 1) % 4294967296 → s.cutPassed = false →
        (s.side = o.val → s.ownsRow r.val = false → s.rowLen r.val ≠ 0 → s.mirrorState ≠ .split →
          exec (.mstate pl false r g o) s = .next (s.after
            ((((u.set Reg.rangeOwner r.val o.val).set Reg.rangeGeneration r.val g).set Reg.rangeState r.val 0).sendPartner
              { op := 0x56, flags := 1, p1 := r.val + 16 * g + o.val * 9223372036854775808 }))) ∧
        (s.side ≠ o.val ∨ s.ownsRow r.val = true ∨ s.rowLen r.val = 0 ∨ s.mirrorState = .split →
          exec (.mstate pl false r g o) s = .next (s.after u)) ∧
        (∀ h, s.mirror.handover = some h → h.row = r.val → h.sentAt.isSome = true → o.val = 1 - s.side →
          exec (.mstate pl true r g o) s = .next (s.after
            ((((u.set Reg.rangeOwner r.val o.val).set Reg.rangeGeneration r.val g).modMirror (fun m => { m with
              handover := none })).finish h.who Reg.rangeCommand .ok))) ∧
        (∀ h, s.mirror.handover = some h → h.row ≠ r.val ∨ h.sentAt = none ∨ o.val ≠ 1 - s.side →
          exec (.mstate pl true r g o) s = .next (s.after u)) ∧
        (s.mirror.handover = none → exec (.mstate pl true r g o) s = .next (s.after u))))) ∧
  (∀ (pl : Fin 2) (s u v : State), s.awake = true → u = s.consume (16 + pl.val) (fun m => m.op == 0x59) →
    v = s.consume (16 + pl.val) (fun m => m.op == 0x58) →
    (s.image = .restoring → s.windowsOpen = false →
      (∀ e, exec (.cutNotice pl e) s = .next (s.after
        ((s.consume (16 + pl.val) (fun m => m.op == 0x57)).sendMnak 3 0 e))) ∧
      (∀ e, exec (.holdNotice pl e) s = .next (s.after (u.sendMnak 3 0 0))) ∧
      (∀ f b, exec (.rmap pl f b) s = .next (s.after (v.sendMnak 3 0 f)))) ∧
    (s.image ≠ .restoring ∨ s.windowsOpen = true →
      (s.mirrorState = .unpaired ∨ s.mirrorState = .peerAway ∨ s.cutPassed = true →
        (∀ e, exec (.cutNotice pl e) s = .next (s.after (s.consume (16 + pl.val) (fun m => m.op == 0x57)))) ∧
        exec (.holdNotice pl true) s = .next (s.after u)) ∧
      (s.mirrorState ≠ .unpaired → s.mirrorState ≠ .peerAway → s.cutPassed = false →
        (∀ e, ∃ t, exec (.cutNotice pl e) s = .next t ∧ s.partnerAway t) ∧
        ∃ t, exec (.holdNotice pl true) s = .next t ∧ s.partnerAway t) ∧
      (s.mirrorState ≠ .peerAway → exec (.holdNotice pl false) s = .next (s.after (u.wake 11))) ∧
      (s.mirrorState = .peerAway → exec (.holdNotice pl false) s = .next (s.after (u.wake 11).pairTry)) ∧
      (∀ f b, ∃ t, exec (.rmap pl f b) s = .next t ∧
        (∀ k, k < 512 → bit (b.getD (k / 8) 0).toNat (k % 8) = true → (s.rowOf (f + k)).any s.ownsRow = true →
          t.mirror.map.mem (f + k) = true) ∧
        (∀ g, s.mirror.map.mem g = true → t.mirror.map.mem g = true) ∧ t.mirror.retain = s.mirror.retain ∧
        s.changesOnly t (Footprint.mirrors.plus [] [.links])))) ∧
  (∀ s : State, s.awake = true →
    (s.itemHeld 9 = false → s.mirrorState = .interrupted →
      s.mirror.downAt.any (fun t => s.due (t + msCycles (s.get Reg.splitTime))) = true →
      ∃ t, exec .splitDeclared s = .next t ∧ t.mirrorState = .split ∧ t.mirror.retain = [] ∧
        (∀ c ∈ s.mirror.retain, t.mirror.map.mem c.seg = true) ∧
        t.get Reg.mgmtCount 0x041 = sat 255 (s.get Reg.mgmtCount 0x041 + 1) ∧
        (∀ r, r < 16 → s.ownsRow r = true → s.rowState r ≠ 2 → Tbl.find t.mirror.rowNext r = some
          (b2n (s.get Reg.leaseState == 3 || (s.get Reg.leaseState != 1 && s.get Reg.leasePolicy == 0)))) ∧
        (s.get Reg.autoTakeover = 1 → s.get Reg.witnessNode ≠ 0 → t.mirror.takeoverReq = s.nextReq) ∧
        s.changesOnly t Footprint.mirrors) ∧
    (s.itemHeld 9 = true ∨ s.mirrorState ≠ .interrupted ∨
        s.mirror.downAt.any (fun t => s.due (t + msCycles (s.get Reg.splitTime))) = false →
      exec .splitDeclared s = .next (s.after s)))

/-! ### The witness lease (spec/06) -/

/-- LEASE_REQUEST_DUE (R144, Table 6.5): a quarter of LEASE_TERM after the last request a LEASE_REQUEST leaves with the next
REQ_NUM. LEASE_GRANT (R144): the answer of that request makes the lease valid for the lesser term less the guard, counted
from the request, and in holdover less a fiftieth; result 3 loses the lease. What is not addressed to this side, its pair
and its request changes nothing.
LEASE_LAPSE (R144): at its end a valid lease is LAPSED and 0x042 is raised, or gone where there is no witness any more.
The times of the lease are not tested while item 9 is deferred (R41).
LEASE_NO_GRANT (R144): 50 ms after a request without its answer 0x043 is raised, once. TAKEOVER_GRANT (R148): the answer with
result 0 in SPLIT or PEER_AWAY takes every row that the partner owns from the next clause. TAKEOVER_RETRY (R148): with
AUTO_TAKEOVER the request goes again. -/
def Obligations.TheLeaseRuns : Prop :=
  (∀ s : State, s.awake = true →
    (s.itemHeld 9 = false → s.leaseRuns = true → (∀ t0, s.mirror.leaseSentAt = some t0 →
        s.due (t0 + msCycles (s.get Reg.leaseTerm) / 4) = true) →
      ∃ t, exec .leaseRequestDue s = .next t ∧ t.mirror.leaseReq = s.nextReq ∧ t.mirror.leaseSentAt = some s.now ∧
        t.mirror.leaseAnswered = false ∧
        t.outbox = s.outbox ++ (if s.fieldSends then [.frame
          (clezelId 1 0xC (s.get Reg.witnessNode) (s.get Reg.fieldNodeId) s.lexicon.frameSeq)
          (layout [(1, 1), (1, s.side), (1, s.get Reg.leasePolicy), (1, s.mirrorState.code), (8, s.get Reg.pairId),
            (4, s.nextReq), (1, 0), (1, 0), (2, 0), (4, s.get Reg.leaseTerm)])] else []) ∧
        s.changesOnly t (Footprint.none.plus [Reg.fieldFramesTx] [.mirror, .frames, .outbox])) ∧
    (s.itemHeld 9 = true ∨ s.leaseRuns = false ∨ (∃ t0, s.mirror.leaseSentAt = some t0 ∧
        s.due (t0 + msCycles (s.get Reg.leaseTerm) / 4) = false) →
      exec .leaseRequestDue s = .next (s.after s)) ∧
    (∀ (side : Fin 2) id q res term, s.fieldSends = false ∨ s.grantForUs side.val id q s.mirror.leaseReq = false ∨
        s.get Reg.witnessNode = 0 ∨ s.mirror.leaseAnswered = true →
      exec (.leaseGrant side id q res term) s = .next (s.after s.grantFrame)) ∧
    (∀ (side : Fin 2) id q res term, s.fieldSends = true → s.grantForUs side.val id q s.mirror.leaseReq = true →
      s.get Reg.witnessNode ≠ 0 → s.mirror.leaseAnswered = false →
      ∃ t, exec (.leaseGrant side id q res term) s = .next t ∧ t.mirror.leaseAnswered = true ∧
        t.mirror.noGrantRaised = false ∧
        (res = 0 → t.get Reg.leaseState = (if s.get Reg.leaseState = 3 then 3 else 1) ∧
          t.mirror.leaseUntil = some (s.mirror.leaseSentAt.getD 0 + msCycles (min (s.get Reg.leaseTerm) term) -
            (msCycles (s.get Reg.leaseGuard) + (if s.get Reg.timebaseStatus = 0 then 0
              else msCycles (min (s.get Reg.leaseTerm) term) / 50))) ∧ s.rowsFenced t) ∧
        (res = 3 → t.get Reg.leaseState = 3 ∧ t.mirror.leaseUntil = s.mirror.leaseUntil ∧ s.rowsFenced t) ∧
        (res ≠ 0 → res ≠ 3 → t.get Reg.leaseState = s.get Reg.leaseState ∧
          t.mirror.leaseUntil = s.mirror.leaseUntil) ∧
        s.changesOnly t (Footprint.event.plus [Reg.leaseState, Reg.fieldFramesRx] [.mirror]))) ∧
  (∀ s : State, s.awake = true →
    (s.itemHeld 9 = true ∨ s.mirror.leaseUntil.any (fun t => s.due t) = false → exec .leaseLapse s = .next (s.after s)) ∧
    (s.itemHeld 9 = false → s.mirror.leaseUntil.any (fun t => s.due t) = true → s.get Reg.leaseState ≠ 1 → exec .leaseLapse s = .next (s.after
      (s.modMirror (fun m => { m with leaseUntil := none })))) ∧
    (s.itemHeld 9 = false → s.mirror.leaseUntil.any (fun t => s.due t) = true → s.get Reg.leaseState = 1 →
      ∃ t, exec .leaseLapse s = .next t ∧ t.mirror.leaseUntil = none ∧
        t.get Reg.leaseState = (if s.get Reg.witnessNode = 0 then 0 else 2) ∧
        t.get Reg.mgmtCount 0x042 = (if s.get Reg.witnessNode = 0 then s.get Reg.mgmtCount 0x042
          else sat 255 (s.get Reg.mgmtCount 0x042 + 1)) ∧ s.rowsFenced t ∧
        s.changesOnly t (Footprint.event.plus [Reg.leaseState] [.mirror])) ∧
    (s.itemHeld 9 = false → s.get Reg.witnessNode ≠ 0 → s.mirror.leaseAnswered = false → s.mirror.noGrantRaised = false →
      s.mirror.leaseSentAt.any (fun t => s.due (t + 12500000)) = true → exec .leaseNoGrant s = .next (s.after
        ((s.modMirror (fun m => { m with noGrantRaised := true })).raise 0 0x043 0))) ∧
    (s.itemHeld 9 = true ∨ s.get Reg.witnessNode = 0 ∨ s.mirror.leaseAnswered = true ∨ s.mirror.noGrantRaised = true ∨
        s.mirror.leaseSentAt.any (fun t => s.due (t + 12500000)) = false →
      exec .leaseNoGrant s = .next (s.after s)) ∧
    (∀ (side : Fin 2) id q res, s.fieldSends = false ∨ s.grantForUs side.val id q s.mirror.takeoverReq = false ∨
        s.get Reg.witnessNode = 0 →
      exec (.takeoverGrant side id q res) s = .next (s.after s.grantFrame)) ∧
    (∀ (side : Fin 2) id q res, s.fieldSends = true → s.grantForUs side.val id q s.mirror.takeoverReq = true →
      s.get Reg.witnessNode ≠ 0 →
      (res = 0 → s.mirrorState = .split ∨ s.mirrorState = .peerAway →
        ∃ t, exec (.takeoverGrant side id q res) s = .next t ∧ t.mirror.takeoverAt = none ∧
          (∀ r, r ∈ t.mirror.ownNext ↔ (r ∈ s.mirror.ownNext ∨ (r < 16 ∧ s.rowLen r ≠ 0 ∧ s.ownsRow r = false))) ∧
          s.changesOnly t (Footprint.event.plus [Reg.fieldFramesRx] [.mirror])) ∧
      (res ≠ 0 ∨ (s.mirrorState ≠ .split ∧ s.mirrorState ≠ .peerAway) →
        exec (.takeoverGrant side id q res) s = .next (s.after (s.grantFrame.withdraw 0 0x043)))) ∧
    (s.get Reg.autoTakeover = 1 → s.get Reg.witnessNode ≠ 0 → s.mirrorState = .split ∨ s.mirrorState = .peerAway →
      s.mirror.takeoverAt.any (fun t => s.due (t + msCycles (s.get Reg.takeoverRetry))) = true →
      ∃ t, exec .takeoverRetry s = .next t ∧ t.mirror.takeoverReq = s.nextReq ∧ t.mirror.takeoverAt = some s.now ∧
        s.changesOnly t (Footprint.none.plus [Reg.fieldFramesTx] [.mirror, .frames, .outbox])) ∧
    (s.get Reg.autoTakeover ≠ 1 ∨ s.get Reg.witnessNode = 0 ∨ (s.mirrorState ≠ .split ∧ s.mirrorState ≠ .peerAway) ∨
        s.mirror.takeoverAt.any (fun t => s.due (t + msCycles (s.get Reg.takeoverRetry))) = false →
      exec .takeoverRetry s = .next (s.after s)))

/-! ### Extents (spec/08) -/

/-- EXTENT_COMMIT and EXTENT_WITHDRAW (R195 to R197): in Setup the row takes the record at once; in the other states it
takes it with its METADATA seal, and the request waits; a row that is not valid and stays so takes it at once, with no seal
(R72). A record that breaks a rule of R195 or R197 is answered its code,
and the row stays as it is. The rights, kind and mirror field of a written record are those of Table 8.1. -/
def Obligations.ExtentsAreCommitted : Prop :=
  ∀ (p : Path) (row : Nat) (s u : State), u = s.taken p →
    (∀ c e, ((c = .extentCommit p row none ∧ e = { s.ext row with valid := true }) ∨
        (∃ b, c = .extentCommit p row (some b) ∧ e = extOf b) ∨
        (c = .extentWithdraw p row ∧ e = { s.ext row with valid := false })) → s.allows c = true →
      (u.extentCheck row e = .ok → s.image = .setup ∨ (s.get Reg.extValid row = 0 ∧ e.valid = false ∧
          ∀ x ∈ s.keep.extNext, x.1 ≠ row) → ∃ t, exec c s = .next t ∧ t.answered p .ok ∧ t.ext row = e ∧
        t.get Reg.extMirror row = (if e.valid then s.mirrorField e.ia e.bytes else 0) ∧
        (∀ r, r < 16384 → r ≠ row → t.ext r = s.ext r ∧ t.get Reg.extMirror r = s.get Reg.extMirror r) ∧
        s.changesOnly t (Footprint.request.plus [Reg.extWinBase, Reg.extIaBase, Reg.extPages, Reg.extRights,
          Reg.extKind, Reg.extContext, Reg.extTag, Reg.extValid, Reg.extMirror, Reg.extentsValid] [])) ∧
      (u.extentCheck row e = .ok → s.image ≠ .setup → s.get Reg.extValid row ≠ 0 ∨ e.valid = true ∨
          (∃ x ∈ s.keep.extNext, x.1 = row) → exec c s = .next (s.after
        ((u.requestSeal (.extent row e.record (.direct p))).waitFor (.direct p) Reg.extValid))) ∧
      (∀ a, u.extentCheck row e = a → a ≠ .ok → exec c s = .next (s.after
        ((u.bump Reg.lexAborts).emit (.lexAnswer p a.code [])))))

/-! ### Resets of an instance (spec/09) -/

/-- INST_RESET, INST_RESET_DRAIN and INST_RESET_SQUASH (R213, R221): a reset of kind 4 is asked for, to drain as FLR_MODE says,
to drain, or to squash. While none is under way, or before its boundary, the request waits for it, and the mildest of the
triggers does not win; one that has begun is joined at once.
RESET_BEGIN (R214, Table 9.3): at the boundary after its trigger the reset begins: the function stops answering, its reads
in progress go, a squash closes every context at once and a drain lets none stay OPEN. DRAIN_ESCALATION (R217, R221): past
DRAIN_LIMIT, or joined by a squash, a drain that is not quiet goes on as a squash.
RESET_COMPLETE (R209, R218, R219): with the reset quiet, from the clause after it began, the staged fields are in effect
together, the pending sources, the queues' and the durability enable are clear, and after an FLR or the clearing of VF Enable
the function's configuration too (R178), LAST_RESET holds Table 9.4, and a VF is live again while VF Enable and NumVFs ask for it. Before that nothing changes. -/
def Obligations.InstancesAreReset : Prop :=
  (∀ (p : Path) (i : Fin 256) (c : Instr) (d : Bool) (s u : State), u = s.taken p →
    ((c = .instReset p i ∧ d = (s.get Reg.flrMode i.val == 1)) ∨ (c = .instResetDrain p i ∧ d = true) ∨
      (c = .instResetSquash p i ∧ d = false)) → s.allows c = true → s.live i.val = true ∧
    (s.resetJob i.val = none → exec c s = .next (s.after
      (State.waitFor { u with resets := u.resets ++
        [⟨i.val, 4, d, d, s.clock.clause, none, b2n (!d), none, false, false, false, 0, 0, 0, 0, 0, none⟩] } (.direct p)
        (Reg.key Reg.instCommand i.val)))) ∧
    (∀ j, s.resetJob i.val = some j → j.begun = none → exec c s = .next (s.after
      ((u.putReset { j with kind := 4, drain := j.drain && d, asked := j.drain && d, outcome := b2n (!(j.drain && d))
        }).waitFor (.direct p) (Reg.key Reg.instCommand i.val)))) ∧
    (∀ j b, s.resetJob i.val = some j → j.begun = some b → exec c s = .next (s.after
      ((u.putReset { j with kind := 4, joinAt := if j.drain && !d && j.joinAt.isNone then some s.clock.clause else j.joinAt }).emit (.lexAnswer p 0 []))))) ∧
  (∀ (i : Fin 256) (j : ResetJob) (s : State), s.hears = true → s.resetJob i.val = some j →
    (j.begun = none → j.since < s.clock.clause → ∃ t, exec (.resetBegin i) s = .next t ∧
      (∃ k, t.resetJob i.val = some k ∧ k.begun = some s.clock.clause ∧ k.kind = j.kind ∧ k.drain = j.drain) ∧
      t.host.flr.mem i.val = true ∧ (s.live i.val = true → t.get Reg.instState i.val = 2) ∧
      (j.drain = false → (∀ x ∈ t.host.reads, x.i ≠ i.val) ∧
        ∀ n, n < 262144 → s.ctxOwner n = some i.val → t.ctxState n = .closed) ∧
      (j.drain = true → ∀ n, n < 262144 → s.ctxOwner n = some i.val →
        t.ctxState n ≠ .opened ∧ t.ctxState n ≠ .error) ∧
      s.changesOnly t (Footprint.message.plus [Reg.instState, Reg.appendContextsOpen, Reg.appendPending, Reg.ctxState,
        Reg.ctxTail, Reg.instPending, Reg.chCons, Reg.chDescriptors, Reg.chState, Reg.dmaHalts, Reg.greenBytes,
        Reg.yellowBytes, Reg.redBytes, Reg.restoreHeldBytes, Reg.restoreTouches, Reg.restoreTouchPending]
        [.append, .blobs, .carriers, .dma, .host, .lexicon, .resets, .restore, .flow])) ∧
    (j.begun ≠ none ∨ s.clock.clause ≤ j.since → exec (.resetBegin i) s = .next (s.after s)) ∧
    (∀ b, j.begun = some b → j.drain = true → b < s.clock.clause → s.quiet j = false →
      (j.joinAt.any (fun t => decide (t < s.clock.clause)) = true ∨ s.past (128 * b + msCycles (s.get Reg.drainLimit i.val)) = true) →
      ∃ t, exec (.drainEscalation i) s = .next t ∧
        (∃ k, t.resetJob i.val = some k ∧ k.drain = false ∧ k.outcome =
          (if j.joinAt.any (fun t => decide (t < s.clock.clause)) then 3 else 2)) ∧
        t.get Reg.resetEscalations = sat 4294967295 (s.get Reg.resetEscalations + 1) ∧
        (∀ n, n < 262144 → s.ctxOwner n = some i.val → t.ctxState n = .closed) ∧
        s.changesOnly t (Footprint.message.plus [Reg.resetEscalations, Reg.appendContextsOpen, Reg.appendPending,
          Reg.ctxState, Reg.ctxTail, Reg.instPending, Reg.chCons, Reg.chDescriptors, Reg.chState, Reg.dmaHalts,
          Reg.greenBytes, Reg.yellowBytes, Reg.redBytes, Reg.restoreHeldBytes, Reg.restoreTouches,
          Reg.restoreTouchPending] [.append, .blobs, .carriers, .dma, .host, .lexicon, .resets, .restore, .flow])) ∧
    (j.begun = none ∨ j.drain = false ∨ s.quiet j = true ∨ (∃ b, j.begun = some b ∧ s.clock.clause ≤ b) ∨
        (j.joinAt.any (fun t => decide (t < s.clock.clause)) = false ∧ ∀ b, j.begun = some b → s.past (128 * b + msCycles (s.get Reg.drainLimit i.val)) = false) →
      exec (.drainEscalation i) s = .next (s.after s))) ∧
  (∀ (i : Fin 256) (j : ResetJob) (s : State), s.hears = true → s.resetJob i.val = some j →
    (j.begun.any (fun b => decide (b < s.clock.clause)) = true → s.quiet j = true →
      (j.pf = false ∨ ∀ k ∈ s.resets, k.i = 0 ∨ (k.begun.isSome && s.quiet k) = true) →
      ∃ t, exec (.resetComplete i) s = .next t ∧ t.resetJob i.val = none ∧
        (∀ x ∈ stagedFields, t.get x.2 i.val = s.get x.1 i.val) ∧ t.get Reg.dwordEnable i.val = 0 ∧
        (j.kind = 5 ∨ i = 0 → s.events.pend.wf none = true →
          ∀ n, n < 1024 → t.events.pend.mem (srcKey i.val n) = false) ∧
        t.blob Reg.lastReset i.val = s.resetReport j ∧ t.host.flr = s.host.flr.remove i.val ∧
        (∀ q ∈ s.queuesOf i.val, t.get Reg.queueEnable q = 0) ∧
        (j.func = true → t.host.busMaster = s.host.busMaster.remove i.val ∧
          t.host.msixEnable = s.host.msixEnable.remove i.val ∧ t.host.fnMask = s.host.fnMask.remove i.val) ∧
        (j.func = false → t.host.busMaster = s.host.busMaster ∧ t.host.msixEnable = s.host.msixEnable) ∧
        (j.pf = true → t.host.numVfs = 0 ∧ t.host.d3 = false ∧ t.host.pfWin = s.get Reg.pfWindowDefault ∧
          t.host.vfWin = s.get Reg.vfWindowDefault) ∧
        t.get Reg.instState i.val = (if i = 0 then 1
          else b2n (s.live i.val && s.host.vfEnable && decide (i.val ≤ if j.pf then 0 else s.host.numVfs))) ∧
        s.changesOnly t (Footprint.message.plus ([Reg.instState, Reg.dwordEnable, Reg.queueEnable, Reg.queueCons, Reg.chState,
          Reg.chProd, Reg.chCons, Reg.chReqCount, Reg.chCtrlShadow, Reg.leafWeight, Reg.greenBytes, Reg.yellowBytes,
          Reg.redBytes] ++ stagedFields.map (·.2)) [.append, .blobs, .dma, .host, .resets, .flow])) ∧
    (j.begun.any (fun b => decide (b < s.clock.clause)) = false ∨ s.quiet j = false ∨
        (j.pf = true ∧ ∃ k ∈ s.resets, k.i ≠ 0 ∧ (k.begun.isSome && s.quiet k) = false) →
      exec (.resetComplete i) s = .next (s.after s)))

/-! ### The scheduler (spec/10) -/

/-- SCHEDULER_GRANT (R227, R228, R242, R246): before the cut a port grants an eligible head that its downstream can take and
that no earlier entry holds back; service 7 comes before every other. The DIRTY_SETs of the segment of a granted image write
go first (R25). From the cut only service 7 and the image writes of ports 0 to 7 go, oldest first, and FINAL follows a
carrier's last write. The entry granted is charged and leaves; with none that may go nothing changes. The cycle at which
the command comes is the model's (log 105). -/
def Obligations.GrantsAreEligible : Prop :=
  ∀ (p : Fin 10) (cyc : Fin 128) (e : Entry) (s u g : State), s.awake = true →
    u = s.atCycle (max s.clock.sub cyc.val) → g = ((u.announceFirst e).granted p e).leave p e →
    (s.cutPassed = false → u.chooseGrant p (u.portTakes p) = none → exec (.schedulerGrant ⟨p, cyc⟩) s = .next (s.after u)) ∧
    (s.cutPassed = false → u.chooseGrant p (u.portTakes p) = some e →
      exec (.schedulerGrant ⟨p, cyc⟩) s = .next (s.after (if g.cutPassed = true ∧ p.val < 8 then g.sendFinal p else g)) ∧
      e ∈ (u.port p).entries ∧ u.portTakes p e = true ∧ u.hazard p e = false ∧
      (e.svc ≠ 7 → u.leafFlows (leafRow p e.svc e.i) = true ∧ u.gateLets p e.svc (u.charged p e.payload) = true ∧
        u.flows (portBucket p) (u.get Reg.portRate p) (u.get Reg.portBurst p) = true ∧
        ∀ c ∈ u.candidates p (u.portTakes p), c.1.svc ≠ 7) ∧
      (∀ n addr v, p = 9 → e.work = .dword n addr v → ∃ t, exec (.schedulerGrant ⟨p, cyc⟩) s = .next t ∧
        t.outbox = s.outbox ++ [.hostWrite addr (le 8 v)] ∧
        (∀ x ∈ (t.port 9).entries ++ (t.port 9).outside, x.id ≠ e.id) ∧
        s.changesOnly t (Footprint.none.plus [Reg.leafGranted, Reg.redHolds, Reg.hazardWaits, Reg.greenBytes,
          Reg.yellowBytes, Reg.redBytes] [.clock, .egress, .ports, .flow, .outbox]))) ∧
    (s.cutPassed = true → p.val = 9 → exec (.schedulerGrant ⟨p, cyc⟩) s = .next (s.after u)) ∧
    (s.cutPassed = true → u.chooseAtCut p = none → exec (.schedulerGrant ⟨p, cyc⟩) s = .next (s.after u)) ∧
    (s.cutPassed = true → u.chooseAtCut p = some e → u.portTakes p e = false →
      exec (.schedulerGrant ⟨p, cyc⟩) s = .next (s.after u)) ∧
    (s.cutPassed = true → u.chooseAtCut p = some e → u.portTakes p e = true →
      (e.svc = 7 ∨ (p.val < 8 ∧ e.work.imageRange.any (·.1) = true ∧ ∀ x ∈ (u.port p).entries, x.svc ≠ 7)) ∧
      exec (.schedulerGrant ⟨p, cyc⟩) s = .next (s.after (if g.cutPassed = true ∧ p.val < 8 then g.sendFinal p else g)))

/-- RED_HOLD_EXPIRY (R241): a red head held its time counts as yellow. GATE_COMMIT (R238): the staged rows of the port wait for
the end of its cycle. SAMPLE (R245): at the end of a sampler's period its record of Table 10.4 goes to its queue, and the
period starts again. -/
def Obligations.HoldsGatesAndSamples : Prop :=
  ∀ (p : Fin 10) (v : Fin 8) (i : Fin 256) (j : Fin 16) (path : Path) (s u : State), u = s.taken path →
    (s.awake = true →
      (∀ h e, Tbl.find (s.port p).heads (headKey v i) = some h → (s.port p).entry h.id = some e →
        (e.color = 2 → s.redHeld p e h = false → exec (.redHoldExpiry p v i) s = .next (s.after
          (s.putPort p { s.port p with
            entries := (s.port p).entries.map (fun x => if x.id = e.id then { x with color := 1 } else x) }))) ∧
        (e.color ≠ 2 ∨ s.redHeld p e h = true → exec (.redHoldExpiry p v i) s = .next (s.after s))) ∧
      (Tbl.find (s.port p).heads (headKey v i) = none → exec (.redHoldExpiry p v i) s = .next (s.after s)) ∧
      (∀ t0, t0 = Tbl.getD s.sched.samplers j Sampler.reset →
        (s.get Reg.sampleEnable j ≠ 1 ∨ s.clock.clause < t0.start + s.get Reg.samplePeriod j →
          exec (.sample j) s = .next (s.after s)) ∧
        (∀ x es, s.get Reg.sampleEnable j = 1 → t0.start + s.get Reg.samplePeriod j ≤ s.clock.clause →
          x = s.get Reg.samplePort j → es = (s.port x).entries.filter (fun e => s.sampleMeets j e) →
          exec (.sample j) s = .next (s.after
            (State.recordTo
              { s with sched := { s.sched with samplers := Tbl.put s.sched.samplers j ⟨s.clock.clause, 0, 0⟩ } }
              (s.get Reg.sampleQueue j) 0x7E 0 0x058
              (layout [(1, x), (1, s.get Reg.sampleService j), (2, s.get Reg.sampleInstance j), (4, es.length),
                (4, sat 4294967295 (es.foldl (fun a e => a + s.charged x e.payload) 0)), (4, t0.maxDelay),
                (4, t0.grants), (1, s.sampleFlags j x), (3, 0)])))))) ∧
    (s.allows (.gateCommit path p) = true → s.gateListOk p = true ∧
      exec (.gateCommit path p) s = .next (s.after
        ((u.putPort p { u.port p with
          gateNext := some ((List.range (s.get Reg.gateRows p)).map (fun k =>
            (s.get Reg.gateDuration (64 * p + k), s.get Reg.gateOpen (64 * p + k)))) }).emit (.lexAnswer path 0 []))))

/-! ### Pages, queues and sources (spec/07, spec/11) -/

/-- What the host sends to the fast-path pages of a live function takes its turn (R171, R201, Table 7.8): an access of no or
more than 8 bytes falls under row 7, one to a function that does not decode under rows 4 and 5, and behind waiting writes it
waits. Doorbells outside A0 latch wake source 13 as they arrive (R273).
CLAIM (R265): the read returns the claimable source of highest priority with its count and priority, clears the count, and
claims it; with none it returns 0x3FF and is counted. COMPLETE (R266) ends the claim of the source it names, and is counted
where there is none. SELF_HOLD_WRITE (R271) sets or releases the instance's own hold. Accesses of 1 to 7 bytes read zero and
write nothing. -/
def Obligations.PagesTakeTheirTurn : Prop :=
  (∀ (c : Instr) (i : Fin 256) (size : Nat) (write : Bool) (s u : State), s.hears = true →
    ((∃ j v, c = .queueDoorbell i j size v ∧ write = true ∧ u = s.wakeOutsideA0 13) ∨
      (∃ j v, c = .dmaDoorbell i j size v ∧ write = true ∧ u = s.wakeOutsideA0 13) ∨
      (c = .claim i size ∧ write = false ∧ u = s) ∨ (∃ v, c = .complete i size v ∧ write = true ∧ u = s) ∨
      (∃ v, c = .selfHoldWrite i v ∧ size = 8 ∧ write = true ∧ u = s) ∨
      (∃ j v, c = .softPulse i j v ∧ size = 8 ∧ write = true ∧ u = s) ∨
      (∃ j, c ∈ [.dmaEnable (.block i j size), .dmaDisable (.block i j size), .dmaResume (.block i j size),
        .dmaSkip (.block i j size), .dmaAbort (.block i j size)] ∧ write = true ∧ u = s) ∨
      (∃ j ctrl v, c = .shadowWrite (.block i j size) ctrl v ∧ write = true ∧ u = s)) →
    (size = 0 ∨ 8 < size → exec c s = .next (s.after (u.badTlp .bar0Shape i 0 write))) ∧
    (0 < size → size ≤ 8 → u.decodes i = false → exec c s = .next (s.after (u.unsupported i 0 size write))) ∧
    (0 < size → size ≤ 8 → u.decodes i = true → s.host.posted ≠ [] → exec c s = .next (s.after
      { u with host := { u.host with posted := u.host.posted ++ [c] } }))) ∧
  (∀ (i : Fin 256) (size v k : Nat) (s : State), s.hears = true → s.decodes i = true → s.host.posted = [] → 0 < size →
    size ≤ 8 → k = i * 1024 + v % 1024 →
    (size ≠ 8 → exec (.claim i size) s = .next (s.after (s.emit (.word i 0))) ∧
      exec (.complete i size v) s = .next (s.after s)) ∧
    (size = 8 → s.claimable i = none → exec (.claim i size) s = .next (s.after
      ((((s.modEvents (fun e => { e with outstanding := e.outstanding.remove i })).bump
        Reg.spuriousClaims).emit (.word i 0x3FF))))) ∧
    (∀ n, size = 8 → s.claimable i = some n → ∃ t, exec (.claim i size) s = .next t ∧
      t.outbox = s.outbox ++ [.word i (s.get Reg.mgmtCount (i * 1024 + n) * 4294967296 + s.priority n * 65536 + n)] ∧
      t.get Reg.mgmtCount (i * 1024 + n) = 0 ∧ t.events.pend = s.events.pend.remove (i * 1024 + n) ∧
      t.events.claimed = s.events.claimed.add (i * 1024 + n) ∧ s.changesOnly t Footprint.event) ∧
    (size = 8 → s.events.claimed.mem k = true → exec (.complete i size v) s = .next (s.after
      ((s.modEvents (fun e => { e with claimed := e.claimed.remove k })).testMgmt i))) ∧
    (size = 8 → s.events.claimed.mem k = false → exec (.complete i size v) s = .next (s.after
      (s.bump Reg.badCompletes))) ∧
    (∃ t, exec (.selfHoldWrite i v) s = .next t ∧
      t.events.selfHold = (if bit v 0 then s.events.selfHold.add i else s.events.selfHold.remove i) ∧
      t.get Reg.holdEffective i = b2n (t.events.selfHold.mem i || s.get Reg.holdPf i == 1) ∧
      s.changesOnly t (Footprint.event.plus [Reg.holdEffective] [])))

/-- QUEUE_DOORBELL (R254, R255, R259): the consumer count of an enabled queue of the instance moves by no more than the queue
holds; a doorbell of another size, or to a queue that the instance does not hold, is ignored, and one beyond PROD refused.
Once it has moved, an armed queue with COAL_COUNT or more unconsumed decides its message. QUEUE_COAL_TIMEOUT (R259): after
COAL_TIME it decides whatever the count, in item 7 of the clause, the oldest first (R44).
QUEUE_ENABLE (R252, R220): an idle queue starts with both counters zero, armed, and the records held for it follow.
QUEUE_DISABLE (R257): an enabled queue is disabled at the next clause boundary. HOLD_PF_WRITE (R271): HOLD_EFFECTIVE follows
both holds. -/
def Obligations.QueuesRun : Prop :=
  (∀ (i : Fin 256) (j q size v d fill n : Nat) (k : Fin 4096) (s u : State), s.hears = true → u = s.wakeOutsideA0 13 →
    q = u.get Reg.effQueueFirst i + j → d = (v % 4294967296 + 4294967296 - u.get Reg.queueCons q) % 4294967296 →
    fill = (u.get Reg.queueProd q + 4294967296 - v % 4294967296) % 4294967296 → n = sat 255 fill →
    (u.decodes i = true → s.host.posted = [] → 0 < size → size ≤ 8 →
      (size ≠ 8 ∨ u.get Reg.effQueueCount i ≤ j ∨ u.get Reg.queueEnable q = 0 →
        exec (.queueDoorbell i j size v) s = .next (s.after
          ((u.bump Reg.hostDoorbellIgnored i).raise i 0x010 0))) ∧
      (size = 8 → j < u.get Reg.effQueueCount i → u.get Reg.queueEnable q ≠ 0 →
        (u.queueFill q < d → exec (.queueDoorbell i j size v) s = .next (s.after
          ((u.bump Reg.queueDoorbellsRefused).raise i 0x060 0))) ∧
        (d ≤ u.queueFill q → ∃ t, exec (.queueDoorbell i j size v) s = .next t ∧
          t.get Reg.queueCons q = v % 4294967296 ∧
          (u.get Reg.queueLost q ≠ 0 → fill < u.queuePlaces q → u.host.busMaster.mem ((u.queueOwner q).getD 0) = true →
            t.get Reg.queueLost q = 0) ∧
          (u.get Reg.queueLost q = 0 →
            (((u.qrun q).armed || bit v 63) = true → 0 < n → u.get Reg.queueCoalCount q ≤ n →
              (t.qrun q).armed = false ∧ (t.qrun q).u = 0) ∧
            (((u.qrun q).armed || bit v 63) = false ∨ n = 0 ∨ n < u.get Reg.queueCoalCount q →
              (t.qrun q).armed = ((u.qrun q).armed || bit v 63) ∧ (t.qrun q).u = n)) ∧
          s.changesOnly t (Footprint.event.plus [Reg.queueCons] [])))) ∧
    (∀ b, b = (s.qrun k).since + s.get Reg.queueCoalTime k →
      ((s.qrun k).armed = true → (s.qrun k).u ≠ 0 → s.get Reg.queueCoalCount k ≠ 1 →
        s.expiryRuns 7 b (s.queueDeadlines.all (b ≤ ·)) = true →
        ∃ t, exec (.queueCoalTimeout k) s = .next t ∧ t = s.after ((s.expiryDone 7 b).decideQueue k true) ∧
          (t.qrun k).u = 0 ∧ (t.qrun k).armed = false ∧ s.changesOnly t (Footprint.event.plus [] [.clock])) ∧
      ((s.qrun k).armed = false ∨ (s.qrun k).u = 0 ∨ s.get Reg.queueCoalCount k = 1 ∨ s.clock.clause < b ∨
          s.expiryRuns 7 b (s.queueDeadlines.all (b ≤ ·)) = false →
        exec (.queueCoalTimeout k) s = .next (s.after s)))) ∧
  (∀ (p : Path) (k : Fin 4096) (i : Fin 256) (s u : State), u = s.taken p →
    (s.allows (.queueEnable p k) = true → (s.queueOwner k).any (fun i => s.live i) = true ∧
      exec (.queueEnable p k) s = .next (s.after ((u.queueEnableWrite k 1).emit (.lexAnswer p 0 []))) ∧
      (s.get Reg.queueEnable k ≠ 1 → s.events.held = [] → ∃ t, exec (.queueEnable p k) s = .next t ∧
        t.get Reg.queueEnable k = 1 ∧ t.get Reg.queueProd k = 0 ∧ t.get Reg.queueCons k = 0 ∧
        (t.qrun k).armed = true ∧ (t.qrun k).u = 0 ∧
        s.changesOnly t (Footprint.request.plus [Reg.queueEnable, Reg.queueCons] []))) ∧
    (s.allows (.queueDisable p k) = true →
      (s.get Reg.queueEnable k = 1 → exec (.queueDisable p k) s = .next (s.after
        ((u.putQrun k { u.qrun k with disabling := true }).emit (.lexAnswer p 0 [])))) ∧
      (s.get Reg.queueEnable k ≠ 1 → exec (.queueDisable p k) s = .next (s.after (u.emit (.lexAnswer p 0 []))))) ∧
    (∀ on, s.allows (.holdPfWrite p i on) = true → ∃ t, exec (.holdPfWrite p i on) s = .next t ∧ t.answered p .ok ∧
      t.get Reg.holdPf i = b2n on ∧ t.get Reg.holdEffective i = b2n (s.events.selfHold.mem i || on) ∧
      s.changesOnly t (Footprint.request.plus [Reg.holdPf, Reg.holdEffective] [])))

/-- WAKE_LATCH (R273, Table 11.9): an enabled source latches its bit and is counted once; sources 13, 14 and 19 only outside
A0. WAKE_STATUS_CLEAR (R273): the bits written as one are cleared. WAKE_TIMER_EXPIRY: source 16 latches in the clause of
WAKE_TIMER. GPIO_INPUT (R273, Table 12.15): the level is kept, the wake source latches as WAKE_GPIO_MODE says, and the line
pulses as DMA_GPIO_MODE says. -/
def Obligations.WakeSourcesLatch : Prop :=
  ∀ (b : Fin 32) (n : Fin 8) (lvl : Bool) (p : Path) (s u : State), s.clock.powered = true → u = s.taken p →
    (b.val < 22 → ((b.val ≠ 13 ∧ b.val ≠ 14 ∧ b.val ≠ 19) ∨ s.get Reg.powerState ≠ 0) →
      bit (s.get Reg.wakeEnable) b = true → bit (s.get Reg.wakeStatus) b = false →
      ∃ t, exec (.wakeLatch b) s = .next t ∧ t.get Reg.wakeStatus = s.get Reg.wakeStatus + 2 ^ b.val ∧
        t.get Reg.wakeCount = sat 4294967295 (s.get Reg.wakeCount + 1) ∧ s.changesOnly t Footprint.event) ∧
    (22 ≤ b.val ∨ ((b.val = 13 ∨ b.val = 14 ∨ b.val = 19) ∧ s.get Reg.powerState = 0) ∨
        bit (s.get Reg.wakeEnable) b = false ∨ bit (s.get Reg.wakeStatus) b = true →
      exec (.wakeLatch b) s = .next (s.after s)) ∧
    (∀ v, s.allows (.wakeStatusClear p v) = true → ∃ t, exec (.wakeStatusClear p v) s = .next t ∧ t.answered p .ok ∧
      t.get Reg.wakeStatus = u.get Reg.wakeStatus - Nat.land (u.get Reg.wakeStatus) (v % 4294967296) ∧
      s.changesOnly t Footprint.request) ∧
    (s.security.recovery = false →
      (s.get Reg.wakeTimer ≠ 0 → s.get Reg.wakeTimer = s.clock.clause →
        exec .wakeTimerExpiry s = .next (s.after (s.wake 16))) ∧
      (s.get Reg.wakeTimer = 0 ∨ s.get Reg.wakeTimer ≠ s.clock.clause →
        exec .wakeTimerExpiry s = .next (s.after s))) ∧
    (∀ was v w, was = bit s.events.gpio n → v = s.modEvents (fun e => { e with gpio := setBit e.gpio n lvl }) →
      w = (if gpioMeets (bits (s.get Reg.wakeGpioMode) (2 * n + 1) (2 * n)) was lvl then v.wake n else v) →
      exec (.gpioInput n lvl) s = .next (s.after
        (if gpioEdge (bits (s.get Reg.dmaGpioMode) (2 * n + 1) (2 * n)) was lvl ∧ s.security.recovery = false then
          w.pulseLine (0x40 + n) else w)))

/-! ### The DMA engine (spec/12) -/

/-- DMA_DOORBELL (R279, R280, R287): the producer index of an enabled channel of the instance moves within its ring, and an
idle channel goes on: it fetches its next descriptor, or waits for a request. Any other doorbell is ignored and counted.
SOFT_PULSE (R295): a soft line that the instance owns pulses. EVENT_FABRIC_PULSE (R287): a line pulses and is counted; the
reserved ones never do.
DMA_BURST_ISSUE (R286 to R288): what waits between descriptors and for writes is tried; then, where fewer than 32 bursts
are in flight and the engine is not held, the next burst of a channel that may issue one leaves, and that channel has had
its turn. -/
def Obligations.ChannelsRun : Prop :=
  (∀ (i : Fin 256) (j size v k a : Nat) (l : Fin 256) (s u : State), s.hears = true → u = s.wakeOutsideA0 13 →
    a = (u.get Reg.chProd k + 4294967296 - u.get Reg.chCons k) % 4294967296 +
      (v % 4294967296 + 4294967296 - u.get Reg.chProd k) % 4294967296 →
    (u.decodes i = true → s.host.posted = [] → 0 < size → size ≤ 8 →
      (u.chanOf i j = none → exec (.dmaDoorbell i j size v) s = .next (s.after
        ((u.bump Reg.hostDoorbellIgnored i).raise i 0x010 0))) ∧
      (u.chanOf i j = some k →
        (size ≠ 8 ∨ u.chanState k = .disabled ∨ ringSize (u.get Reg.chRingActive k) < a →
          exec (.dmaDoorbell i j size v) s = .next (s.after ((u.bump Reg.hostDoorbellIgnored i).raise i 0x010 0))) ∧
        (size = 8 → u.chanState k ≠ .disabled → a ≤ ringSize (u.get Reg.chRingActive k) →
          exec (.dmaDoorbell i j size v) s = .next (s.after ((u.set Reg.chProd k (v % 4294967296)).chanNext k)) ∧
          (u.chanState k = .idle → (u.chan k).fetching = none → (u.chan k).desc = none → (u.chan k).paid = false →
            v % 4294967296 ≠ u.get Reg.chCons k → s.dma.held = false → u.resetting (u.chanInst k) = false →
            ∃ t, exec (.dmaDoorbell i j size v) s = .next t ∧ t.get Reg.chProd k = v % 4294967296 ∧
              (u.reqMode k = 1 → u.get Reg.chReqCount k = 0 → u.descRoom k = true → t.chanState k = .waiting) ∧
              (u.reqMode k ≠ 1 → bit (u.get Reg.chRingActive k) 4 = false → t.chanState k = .running ∧
                (t.chan k).fetching = some (s.dma.nextBurst + 1) ∧
                t.host.reqs = s.host.reqs ++ [⟨s.host.nextTag, false, .descriptor k (s.dma.nextBurst + 1), u.chanInst k,
                  ringBase (u.get Reg.chRingActive k) + 64 * (u.get Reg.chCons k % ringSize (u.get Reg.chRingActive k)),
                  64, []⟩]) ∧
              s.changesOnly t Footprint.channels)))) ∧
    (s.decodes i = true → s.host.posted = [] →
      (s.chanOf i j = none ∨ v % 256 < 0xC0 ∨ s.get Reg.lineOwner (v % 256) ≠ i → exec (.softPulse i j v) s = .next
        (s.after ((s.bump Reg.hostDoorbellIgnored i).raise i 0x010 0))) ∧
      (s.chanOf i j ≠ none → 0xC0 ≤ v % 256 → s.get Reg.lineOwner (v % 256) = i →
        ∃ t, exec (.softPulse i j v) s = .next t ∧
          t.get Reg.linePulses (v % 256) = sat 4294967295 (s.get Reg.linePulses (v % 256) + 1) ∧
          s.changesOnly t Footprint.channels)) ∧
    (0x5B ≤ l.val → l.val < 0xC0 → exec (.eventFabricPulse l) s = .next (s.after s)) ∧
    (l.val < 0x5B ∨ 0xC0 ≤ l.val → ∃ t, exec (.eventFabricPulse l) s = .next t ∧
      t.get Reg.linePulses l = sat 4294967295 (s.get Reg.linePulses l + 1) ∧ s.changesOnly t Footprint.channels)) ∧
  (∀ (s v : State), s.awake = true → v = s.chansNext.pumpAllWrites →
    (v.chooseChan = none → exec .dmaBurstIssue s = .next (s.after v)) ∧
    (∀ k, v.chooseChan = some k → v.mayBurst k = true ∧ v.burstsInFlight < 32 ∧ v.dma.held = false ∧
      v.cutPassed = false ∧ ∃ t, exec .dmaBurstIssue s = .next t ∧ t.dma.last = k ∧
        s.changesOnly t (Footprint.channels.plus [Reg.govDirty, Reg.govState] [.persist])))

/-- DMA_ENABLE, DMA_DISABLE, DMA_RESUME, DMA_SKIP and DMA_ABORT (R298, Table 12.10): legal in the channel's state, by the
Lexicon or by COMMAND of the block, each has its effect; by the block one that is not legal is ignored and counted. ENABLE
makes a channel IDLE with its indices and requests zero; DISABLE and ABORT let it come to rest; RESUME runs a halted one
again, and SKIP passes its descriptor.
SHADOW_WRITE (R289): a shadow word is written with its fields, reserved bits zero; of a shorter write of the block the low
bytes change (log 43). While the pair is armed only a write of SHADOW_CTRL that clears ARM is taken; another is refused,
counted and raised. By the Lexicon an armed pair answers BUSY, so that an allowed write finds it free. -/
def Obligations.ChannelsAreCommanded : Prop :=
  (∀ (c : ChanVia → Instr) (n : Nat) (s : State),
    ((c = .dmaEnable ∧ n = 1) ∨ (c = .dmaDisable ∧ n = 2) ∨ (c = .dmaResume ∧ n = 3) ∨ (c = .dmaSkip ∧ n = 4) ∨
      (c = .dmaAbort ∧ n = 5)) →
    (∀ p (k : Fin 64), s.allows (c (.lexicon p k)) = true → s.chanLegal k n = true ∧
      exec (c (.lexicon p k)) s = .next (s.after (((s.taken p).chanCommand k n).emit (.lexAnswer p 0 [])))) ∧
    (∀ (i : Fin 256) j size, s.hears = true → s.decodes i = true → s.host.posted = [] → 0 < size → size ≤ 8 →
      (s.chanOf i j = none ∨ size ≠ 8 ∨ (∃ k, s.chanOf i j = some k ∧ s.chanLegal k n = false) →
        exec (c (.block i j size)) s = .next (s.after ((s.bump Reg.hostDoorbellIgnored i).raise i 0x010 0))) ∧
      (∀ k, size = 8 → s.chanOf i j = some k → s.chanLegal k n = true →
        exec (c (.block i j size)) s = .next (s.after (s.chanCommand k n)))) ∧
    (∀ k, s.chanLegal k n = true →
      (n = 1 → s.chanState k = .disabled ∧ (s.chanCommand k n).chanState k = .idle ∧
        (s.chanCommand k n).get Reg.chProd k = 0 ∧ (s.chanCommand k n).get Reg.chCons k = 0 ∧
        (s.chanCommand k n).get Reg.chReqCount k = 0) ∧
      (n = 2 → (s.chanCommand k n).chanState k =
        (if (s.chan k).desc.isNone && (s.chan k).fetching.isNone then .disabled else .stopping)) ∧
      (n = 3 → (s.chan k).desc ≠ none → (s.chanCommand k n).chanState k = .running) ∧
      (n = 4 → (s.chanCommand k n).get Reg.chCons k = (s.get Reg.chCons k + 1) % 4294967296) ∧
      (n = 5 → (s.chanCommand k n).chanState k = (if (s.chan k).bursts = [] then .disabled else .stopping)) ∧
      s.changesOnly (s.chanCommand k n) Footprint.channels)) ∧
  (∀ (ctrl : Bool) (x reg : Nat) (s : State), reg = (if ctrl then Reg.chCtrlShadow else Reg.chRingShadow) →
    (∀ p (k : Fin 64), s.allows (.shadowWrite (.lexicon p k) ctrl x) = true →
      exec (.shadowWrite (.lexicon p k) ctrl x) s = .next (s.after
        (((s.taken p).set reg k (shadowFields ctrl (x % 18446744073709551616))).emit (.lexAnswer p 0 [])))) ∧
    (∀ (i : Fin 256) j size, s.hears = true → s.decodes i = true → s.host.posted = [] → 0 < size → size ≤ 8 →
      (s.chanOf i j = none → exec (.shadowWrite (.block i j size) ctrl x) s = .next (s.after
        ((s.bump Reg.hostDoorbellIgnored i).raise i 0x010 0))) ∧
      (∀ k y, s.chanOf i j = some k → y = s.get reg k / 256 ^ size * 256 ^ size + x % 256 ^ size →
        (bit (s.get Reg.chCtrlShadow k) 63 = false ∨ (ctrl = true ∧ bit y 63 = false) →
          exec (.shadowWrite (.block i j size) ctrl x) s = .next (s.after (s.set reg k (shadowFields ctrl y)))) ∧
        (bit (s.get Reg.chCtrlShadow k) 63 = true → ctrl = false ∨ bit y 63 = true →
          exec (.shadowWrite (.block i j size) ctrl x) s = .next (s.after
            ((s.bump Reg.chShadowRefused k).raise (s.chanInst k) 0x073 k))))))

/-! ### The carrier engine (spec/13) -/

/-- CARRIER_CPL (R310): data for a tag of a read retires the tag, and its owner gets its bytes, as poisoned data where a bit
of POISON says so; a form that is not that of the request is a protocol error, and so is a tag that no read has, unless the
pair has failed over within 1 ms. CARRIER_ACK (R310): a bitmap without bit 0 is a protocol error; else the tag of every
write that it acknowledges retires, in the order of the bitmap, and no other does. -/
def Obligations.RequestsComplete : Prop :=
  ∀ (c : Fin 8) (l : Fin 2) (tag : Nat) (s : State), s.awake = true →
    (∀ (poison : Nat) (data : List Byte) (u v : State), v = u.retire c tag →
      u = s.consume (2 * c.val + l.val) (fun m => (m.op == 0x80 || m.op == 0x81) && m.tag == tag) →
      ((∀ r, u.request c tag = some r → r.reads = false) →
        exec (.carrierCpl c l tag poison data) s = .next (s.after
          (if (u.car c).failoverAt.any (fun t => decide (u.now ≤ t + msCycles 1)) then u
           else (u.bump Reg.protocolErrors c).raise 0 0x080 c))) ∧
      (∀ r n, u.request c tag = some r → r.reads = true → n = r.msg.p0 + 1 →
        (data.length ≠ 64 * n ∨ 2 ^ n ≤ poison → exec (.carrierCpl c l tag poison data) s = .next (s.after
          ((u.bump Reg.protocolErrors c).raise 0 0x080 c))) ∧
        (data.length = 64 * n → poison < 2 ^ n → exec (.carrierCpl c l tag poison data) s = .next (s.after
          (v.ownData r.own (slice data (localOf u.carrierCount r.ia % 64) r.len)
            (((List.range n).find? (fun k => bit poison k)).map
              (fun k => 64 * k - localOf u.carrierCount r.ia % 64)))))) ∧
      v.request c tag = none ∧ v.get Reg.tagsOutstanding c = (v.car c).reqs.length ∧
      (v.car c).reqs = (u.car c).reqs.filter (fun r => r.tag != tag)) ∧
    (∀ (bitmap : Nat) (u : State), u = s.consume (2 * c.val + l.val) (fun m => m.op == 0x82 && m.tag == tag) →
      (bit bitmap 0 = false ∨ 65536 ≤ bitmap → exec (.carrierAck c l tag bitmap) s = .next (s.after
        ((u.bump Reg.protocolErrors c).raise 0 0x080 c))) ∧
      (bit bitmap 0 = true → bitmap < 65536 → ∃ t, exec (.carrierAck c l tag bitmap) s = .next t ∧
        (∀ k < 16, bit bitmap k = true → (∀ r, u.request c ((tag + k) % 65536) = some r → r.reads = false) →
          t.request c ((tag + k) % 65536) = none) ∧
        (∀ x, (∀ k < 16, bit bitmap k = true → x ≠ (tag + k) % 65536) ∨
            (∃ r, u.request c x = some r ∧ r.reads = true) → t.request c x = u.request c x) ∧
        s.changesOnly t (Footprint.mirrors.plus
          [Reg.protocolErrors, Reg.tagsOutstanding, Reg.carrierState, Reg.affinity]
          [.carriers, .links])))

/-- CARRIER_NAK (R311, R312): a reason of none of the five is a protocol error. Reasons 3 to 5, and reason 1 of a read whose
retries are used up, give the tag up: it retires, is counted in REQUESTS_FAILED and raises 0x081. Any other NAK holds the
request for the round of its slice, the second clause boundary from now where none is set. RETRY_ROUND (R312): then the
NAKed requests of the slice go again on its link, the first with RETRY, and the round is over. CONTROL_ACK (R321, R328): of
SELF_REFRESH and of WAKE it moves the carrier into and out of self-refresh; of nothing that is acknowledged so it is a
protocol error. -/
def Obligations.RequestsAreRetried : Prop :=
  ∀ (c : Fin 8) (l : Fin 2) (s : State), s.awake = true →
    (∀ (tag reason : Nat) (u : State), u = s.consume (2 * c.val + l.val) (fun m => m.op == 0x83 && m.tag == tag) →
      (reason = 0 ∨ 5 < reason → exec (.carrierNak c l tag reason) s = .next (s.after
        ((u.bump Reg.protocolErrors c).raise 0 0x080 c))) ∧
      (1 ≤ reason → reason ≤ 5 → u.request c tag = none → exec (.carrierNak c l tag reason) s = .next (s.after
        (if (u.car c).failoverAt.any (fun t => decide (u.now ≤ t + msCycles 1)) then u
         else (u.bump Reg.protocolErrors c).raise 0 0x080 c))) ∧
      (∀ r n, 1 ≤ reason → reason ≤ 5 → u.request c tag = some r → n = r.attempts + b2n (reason == 1) →
        (3 ≤ reason ∨ (reason = 1 ∧ r.reads = true ∧ s.get Reg.nakRetries c < n) →
          exec (.carrierNak c l tag reason) s = .next (s.after
            (((((u.bump Reg.naksReceived c).retire c r.tag).bump Reg.requestsFailed c).raise 0 0x081 c).ownFailed r.own))) ∧
        (reason = 2 ∨ (reason = 1 ∧ (r.reads = false ∨ n ≤ s.get Reg.nakRetries c)) →
          ∃ t, exec (.carrierNak c l tag reason) s = .next t ∧
            (t.car c).reqs = (u.car c).reqs.map (fun q =>
              if q.tag = tag then { q with attempts := n, naked := reason } else q) ∧
            (t.car c).rounds = (if (Tbl.find (u.car c).rounds r.seg).isSome then (u.car c).rounds
              else Tbl.put (u.car c).rounds r.seg (s.clauseNow + 2)) ∧
            s.changesOnly t (Footprint.none.plus [Reg.naksReceived] [.links, .carriers])))) ∧
    (∀ seg : Nat,
      (∀ t k, Tbl.find (s.car c).rounds seg = some t → s.requestLink c seg = some k → t ≤ s.clauseNow →
        ∃ v, exec (.retryRound c seg) s = .next v ∧
          (v.car c).rounds = Tbl.erase (s.car c).rounds seg ∧
          (v.car c).reqs = (s.car c).reqs.map (fun r =>
            if r.seg = seg ∧ r.naked ≠ 0 then { r with naked := 0, link := k } else r) ∧
          s.changesOnly v (Footprint.message.plus [Reg.fusSent, Reg.replays, Reg.replayedFus] [.carriers, .links])) ∧
      ((Tbl.find (s.car c).rounds seg = none ∨ s.requestLink c seg = none ∨
          ∃ t, Tbl.find (s.car c).rounds seg = some t ∧ s.clauseNow < t) →
        exec (.retryRound c seg) s = .next (s.after s))) ∧
    (∀ (op epoch : Nat) (u : State),
      u = s.consume (2 * c.val + l.val) (fun m => m.op == 0x82 && bit m.flags 0 && m.p0 == op) →
      (op = 0x30 → exec (.controlAck c l op epoch) s = .next (s.after
        ((u.modCar c (fun k => if k.srAsked then { k with selfRefresh := true, srAsked := false } else k)).renewCarrier c))) ∧
      (op = 0x31 → exec (.controlAck c l op epoch) s = .next (s.after
        ((u.modCar c (fun k => { k with selfRefresh := false, wakeFirst := none })).renewCarrier c))) ∧
      (op = 0x15 → s.stop.active = true → epoch = s.stop.epoch →
        exec (.controlAck c l op epoch) s = .next (s.after (u.saveAcked c l))) ∧
      ((op ≠ 0x15 ∧ op ≠ 0x30 ∧ op ≠ 0x31) ∨ (op = 0x15 ∧ s.stop.active = true ∧ epoch ≠ s.stop.epoch) →
        exec (.controlAck c l op epoch) s = .next (s.after ((u.bump Reg.protocolErrors c).raise 0 0x080 c))))

/-- IDENT (R325): a body that is not of Table 13.5 is a protocol error; else it is the carrier's IDENT body, the link has
identified itself, and the capacity is the body's; what waits for it goes on. HEALTH (R327): 64 bytes with a legal
condition become HEALTH_BODY and wipe the carrier's staleness; a condition other than 0 raises 0x084, 0 withdraws it, and an
urgent one latches wake source 12. HEALTH_STALE (R327): 5 s without a body the carrier's health is stale, and 0x084 is
raised, once.
TAG_TIMEOUT (R317): a request of a link that is UP has waited TAG_TIMEOUT, source 0x082 is raised, and the
link is declared down with cause 9, in item 10 of the clause.
WAKE_RESEND (R408, R328): 10 ms after a WAKE without its acknowledgement it goes again, and 0x086 is raised. WAKE_TIMEOUT
(R408): 50 ms after the first one both links are declared down and the carrier is lost. From the cut neither acts. -/
def Obligations.CarriersReport : Prop :=
  (∀ (c : Fin 8) (l : Fin 2) (s : State), s.awake = true →
    (∀ (b : List Byte) (u : State), u = s.consume (2 * c.val + l.val) (fun m => m.op == 0x22) →
      (identForm b = false → exec (.ident c l b) s = .next (s.after
        ((u.bump Reg.protocolErrors c).raise 0 0x080 c).runConfig)) ∧
      (identForm b = true → b.length = 128 ∧ exec (.ident c l b) s = .next (s.after
        ((((((u.setBlob Reg.identBody c b).modCar c (fun k => { k with
          ident0 := k.ident0 || l.val == 0, ident1 := k.ident1 || l.val == 1, capacity := field b 25 1,
          assigned := k.assigned || (bit (field b 6 1) 3 && field b 8 16 == fromLe (s.blob Reg.imageId)) })).renewCarrier
            c).checksIfPresent).commitPump).runConfig)))) ∧
    (∀ (urgent : Bool) (b : List Byte) (u : State), u = s.consume (2 * c.val + l.val) (fun m => m.op == 0x21) →
      (b.length ≠ 64 ∨ 16 ≤ field b 0 4 → exec (.health c l urgent b) s = .next (s.after
        ((u.bump Reg.protocolErrors c).raise 0 0x080 c))) ∧
      (∀ w v, w = (u.setBlob Reg.healthBody c b).modCar c (fun k => { k with healthAt := s.now, healthStale := false }) →
        v = (if urgent then w.wake 12 else w) → b.length = 64 →
        (field b 0 4 = 0 → exec (.health c l urgent b) s = .next (s.after (v.withdrawUnit 0 0x084 c))) ∧
        (1 ≤ field b 0 4 → field b 0 4 < 16 → exec (.health c l urgent b) s = .next (s.after (v.raise 0 0x084 c))))) ∧
    ((s.car c).healthStale = false → s.carrierReachable c = true → s.due ((s.car c).healthAt + msCycles 5000) = true →
      exec (.healthStale c) s = .next (s.after
        ((s.modCar c (fun k => { k with healthStale := true })).raise 0 0x084 c))) ∧
    ((s.car c).healthStale = true ∨ s.carrierReachable c = false ∨ s.due ((s.car c).healthAt + msCycles 5000) = false →
      exec (.healthStale c) s = .next (s.after s))) ∧
  (∀ (c : Fin 8) (l : Fin 2) (s : State), s.awake = true →
    (s.linkState (2 * c.val + l.val) = .up → s.itemHeld 10 = false →
      (∃ r ∈ (s.car c).reqs, r.link = l.val ∧ s.due (r.sentAt + usCycles (s.get Reg.tagTimeout c)) = true) →
      exec (.tagTimeout c l) s = .next (s.after ((s.raise 0 0x082 c).declareDown (2 * c.val + l.val) 9))) ∧
    (s.linkState (2 * c.val + l.val) ≠ .up ∨ s.itemHeld 10 = true ∨
        (∀ r ∈ (s.car c).reqs, r.link = l.val → s.due (r.sentAt + usCycles (s.get Reg.tagTimeout c)) = false) →
      exec (.tagTimeout c l) s = .next (s.after s)) ∧
    ((s.car c).wakeFirst ≠ none → s.due ((s.car c).wakeAt + msCycles 10) = true → s.cutPassed = false →
      exec (.wakeResend c) s = .next (s.after ((s.raise 0 0x086 c).sendWake c))) ∧
    ((s.car c).wakeFirst = none ∨ s.due ((s.car c).wakeAt + msCycles 10) = false ∨ s.cutPassed = true →
      exec (.wakeResend c) s = .next (s.after s)) ∧
    (∀ t0 u, (s.car c).wakeFirst = some t0 → s.due (t0 + msCycles 50) = true → s.cutPassed = false →
      u = (((s.raise 0 0x086 c).modCar c (fun k => { k with wakeFirst := none })).declareDown (2 * c.val) 9).declareDown
        (2 * c.val + 1) 9 →
      exec (.wakeTimeout c) s = .next (s.after (if u.get Reg.carrierState c = 5 then u else u.carrierLost c))) ∧
    ((s.car c).wakeFirst = none ∨ s.cutPassed = true ∨
        (∃ t0, (s.car c).wakeFirst = some t0 ∧ s.due (t0 + msCycles 50) = false) →
      exec (.wakeTimeout c) s = .next (s.after s)))

/-! ### The Treyr link layer (spec/14) -/

/-- FU_RECEIVE and NAK_FU (R341, R344, R345, R347): a link that is not UP or PAUSED, or waits for a replay, takes no flow
unit. One that fails its check is counted, and the receiver waits and asks for a replay with a NAK. One that passes is
counted and its CONTROL word used, where it is legal; the duplicates of a replay are dropped, a HEADER or DATA unit in
sequence advances E, what it acknowledges of RMAP tells the partner's map (R140), a NAK has what it names replayed, and what breaks the form of the stream takes the link down.
REPLAY_MARKER (R347): the replay begins at most 1,024 flow units back, which are duplicates, or a receiver that does not wait asks for it again.
NAK_REPEAT (R344): a receiver that waits asks again at every fourth clause boundary, in item 11. -/
def Obligations.FlowUnitsAreReceived : Prop :=
  ∀ (u : Fin 18) (s : State) (listens : Bool), s.awake = true →
    listens = ((s.linkState u == .up || s.linkState u == .paused) && !(s.link u).resuming) →
    (∀ (c : Instr) fu e w v control type, (c = .fuReceive u fu e ∨ c = .nakFu u fu e) → v = s.bump Reg.fusReceived u →
      w = (e || fu.length != 72 ||
        field fu 68 4 != fuCrc (((s.link u).e + 4096 - (s.link u).dup) % 4096) (slice fu 0 68)) →
      control = field fu 64 4 → type = bits control 19 16 →
      (listens = false ∨ (s.link u).waiting = true → exec c s = .next (s.after s)) ∧
      (listens = true → (s.link u).waiting = false → w = true → ∃ t, exec c s = .next t ∧
        t.get Reg.crcErrors u = (s.bump Reg.crcErrors u).get Reg.crcErrors u ∧
        (t.link u).waiting = true ∧ (t.link u).dup = 0 ∧ (t.link u).nakAt = s.clauseNow ∧ (t.link u).e = (s.link u).e ∧
        t.get Reg.naksSent u = (s.bump Reg.naksSent u).get Reg.naksSent u ∧
        s.changesOnly t (Footprint.event.plus [Reg.crcErrors, Reg.fusSent, Reg.naksSent] [.links, .line])) ∧
      (listens = true → (s.link u).waiting = false → w = false →
        (4 ≤ type ∨ v.useControl u control = none → exec c s = .next (s.after (v.linkProtocol u))) ∧
        (∀ x (maps : State → State), type < 4 → v.useControl u control = some x →
          maps = (fun z => if u.val < 16 then z else z.mapsTaken (((s.link u).sent.take
            ((s.link u).sent.length - (x.link u).sent.length)).flatMap (·.msgs))) →
          (type = 0 → exec c s = .next (s.after (((maps x).pump u).pauseTry u))) ∧
          (∀ y, type = 1 → y = (maps x).bump Reg.linkNaksReceived u → exec c s = .next (s.after
            (((if (y.link u).replayDue.isSome then y else y.replayNow u (bits control 31 20) false).pump u).pauseTry u))) ∧
          (2 ≤ type → 0 < (s.link u).dup → exec c s = .next (s.after
            (((maps (x.modLink u (fun l => { l with dup := l.dup - 1 }))).pump u).pauseTry u))) ∧
          (2 ≤ type → (s.link u).dup = 0 →
            (x.acceptFu u type (bits control 15 13) (slice fu 0 64) = none →
              exec c s = .next (s.after (x.linkProtocol u))) ∧
            (∀ y, x.acceptFu u type (bits control 15 13) (slice fu 0 64) = some y →
              (y.link u).e = ((s.link u).e + 1) % 4096 ∧
              exec c s = .next (s.after (((maps y).pump u).pauseTry u))))))) ∧
    (∀ m d, d = ((s.link u).e + 4096 - m % 4096) % 4096 →
      (listens = false → exec (.replayMarker u m) s = .next (s.after s)) ∧
      (listens = true → d ≤ 1024 → exec (.replayMarker u m) s = .next (s.after
        (s.modLink u (fun l => { l with waiting := false, dup := d })))) ∧
      (listens = true → 1024 < d → (s.link u).waiting = true → exec (.replayMarker u m) s = .next (s.after s)) ∧
      (listens = true → 1024 < d → (s.link u).waiting = false → exec (.replayMarker u m) s = .next (s.after
        ((s.modLink u (fun l => { l with waiting := true, dup := 0 })).sendNak u)))) ∧
    (listens = true → (s.link u).waiting = true → (s.link u).nakAt + 4 ≤ s.clauseNow → s.itemHeld 11 = false →
      exec (.nakRepeat u) s = .next (s.after (s.sendNak u))) ∧
    (listens = false ∨ (s.link u).waiting = false ∨ s.clauseNow < (s.link u).nakAt + 4 ∨ s.itemHeld 11 = true →
      exec (.nakRepeat u) s = .next (s.after s))

/-- ACK_TIMEOUT (R348): the oldest flow unit has stood for the effective timeout at a boundary, and a replay from it begins;
after four in a row the link is declared down with cause 2. CREDIT_TIMEOUT (R355): a group has waited for flow control, and
the link is declared down with cause 3, but for the channels of MCOPY and RCOPY of a partner link. INIT_TIMEOUT (R358):
1 ms after its step 1 a link that is not UP is DOWN again. PAUSE_LIMIT_EXPIRY (R360) and LINK_DOWN_TIME_EXPIRY (R362) declare
the link down with causes 5 and 1. CONTROL_SET_RESEND (R359): the set whose answer is awaited goes again after 10 µs,
INIT and RESUME with a fresh TOKEN. The first two are work of item 11 of the clause. -/
def Obligations.LinkTimersExpire : Prop :=
  ∀ (u : Fin 18) (s : State) (l : Link), s.awake = true → l = s.link u →
    (∀ late, late = ((s.linkState u == .up || s.linkState u == .paused) && !l.resuming && !l.buf.isEmpty &&
        l.replayDue.isNone && s.past (l.sentTimes.headD s.now + ceilDiv (s.ackLimit u) 4) && !(s.itemHeld 11)) →
      (late = false → exec (.ackTimeout u) s = .next (s.after s)) ∧
      (late = true → 4 ≤ l.ackTries → exec (.ackTimeout u) s = .next (s.after (s.declareDown u 2))) ∧
      (late = true → l.ackTries < 4 → exec (.ackTimeout u) s = .next (s.after
        (((s.modLink u (fun l => { l with ackTries := l.ackTries + 1 })).bump Reg.ackTimeouts u).replayNow u l.o false)))) ∧
    (∀ (vc : Fin 8) t free, free = (u.val < 16 ∨ (vc.val ≠ 0 ∧ partnerVc 0x53 (s.vcsOf u) ≠ some vc.val)) →
      (Tbl.find l.heldSince vc = none ∨ s.linkState u ≠ .up ∨ ¬ free ∨ s.itemHeld 11 = true ∨ (Tbl.find l.heldSince vc = some t ∧
          s.past (t + usCycles (s.get Reg.creditTimeout u)) = false) →
        exec (.creditTimeout u vc) s = .next (s.after s)) ∧
      (s.linkState u = .up → free → s.itemHeld 11 = false → Tbl.find l.heldSince vc = some t →
        s.past (t + usCycles (s.get Reg.creditTimeout u)) = true →
        exec (.creditTimeout u vc) s = .next (s.after (s.declareDown u 3)))) ∧
    (s.linkState u = .init → s.due (l.initAt + 250000) = true → ∃ t, exec (.initTimeout u) s = .next t ∧
      t.linkState u = .down ∧ t.get Reg.linkWidth u = 0 ∧ t.get Reg.linkRate u = 0 ∧
      t.train u = freshTrain false (s.get Reg.trainRateMax u) ∧
      s.changesOnly t (Footprint.event.plus [Reg.linkState, Reg.linksUp, Reg.linkWidth, Reg.linkRate] [.training])) ∧
    (s.linkState u ≠ .init ∨ s.due (l.initAt + 250000) = false → exec (.initTimeout u) s = .next (s.after s)) ∧
    (∀ p, l.pause = some p → s.linkState u = .paused → s.due (p.startAt + usCycles (s.get Reg.pauseLimit u)) = true →
      exec (.pauseLimitExpiry u) s = .next (s.after (s.declareDown u 5))) ∧
    (l.pause = none ∨ s.linkState u ≠ .paused ∨
        (∃ p, l.pause = some p ∧ s.due (p.startAt + usCycles (s.get Reg.pauseLimit u)) = false) →
      exec (.pauseLimitExpiry u) s = .next (s.after s)) ∧
    (s.linkState u = .recovering → l.resuming = false → s.due (l.lossAt + usCycles (s.get Reg.linkDownTime u)) = true →
      exec (.linkDownTimeExpiry u) s = .next (s.after (s.declareDown u 1))) ∧
    (s.linkState u ≠ .recovering ∨ l.resuming = true ∨
        s.due (l.lossAt + usCycles (s.get Reg.linkDownTime u)) = false →
      exec (.linkDownTimeExpiry u) s = .next (s.after s)) ∧
    (s.due (l.ctrlAt + 2500) = false → exec (.controlSetResend u) s = .next (s.after s)) ∧
    (s.due (l.ctrlAt + 2500) = true → ∀ v : State, v = s.drawn.modLink u (fun l =>
        { l with token := Config.token s.draws % 256, tokenAt := s.now, ctrlAt := s.now }) →
      (s.linkState u = .init → exec (.controlSetResend u) s = .next (s.after (v.sendInit u))) ∧
      (s.linkState u ≠ .init → l.resuming = true → l.resumeEchoed = false →
        exec (.controlSetResend u) s = .next (s.after (v.sendResume u))) ∧
      (∀ p x, s.linkState u = .paused → l.resuming = false ∨ l.resumeEchoed = true → l.pause = some p →
        x = (if p.ours && !p.reqSeen then s.sendPause u 0x42 p else s) →
        (p.ackSeen = true ∨ (p.ours = false ∧ p.ackSent = false) →
          exec (.controlSetResend u) s = .next (s.after s)) ∧
        (p.ackSeen = false → p.ours = true ∨ p.ackSent = true → exec (.controlSetResend u) s = .next (s.after
          ((if p.ackSent then x.sendPause u 0x43 p else x).modLink u (fun l => { l with ctrlAt := s.now }))))) ∧
      (s.linkState u ≠ .init → l.resuming = false ∨ l.resumeEchoed = true →
        s.linkState u ≠ .paused ∨ l.pause = none → exec (.controlSetResend u) s = .next (s.after s)))

/-- A link that is declared down is DOWN, without width and rate, with its cause and its count (R363). DOWN_SET (R363): the
far end's declaration takes a link down with cause 7. LINK_COMMAND DOWN does it with cause 8 (Table 14.17), and LINK_ENABLE 0
leaves the link DISABLED; 1 lets a disabled link train. RETRAIN (R386) asks for a pause with reason 3 at the rate in force.
LANE_LOCK_LOSS (R362): a selected lane of a link that is UP, or PAUSED before its lanes change, makes it RECOVERING; any
other loss moves the lane's own bits. -/
def Obligations.LinksGoDown : Prop :=
  ∀ (u : Fin 18) (s : State),
    (∀ cause t, t = s.declareDown u cause → t.linkState u = .down ∧ t.get Reg.linkWidth u = 0 ∧ t.get Reg.linkRate u = 0 ∧
      t.get Reg.lastDownCause u = cause ∧ t.get Reg.linkDowns u = (s.bump Reg.linkDowns u).get Reg.linkDowns u) ∧
    (∀ cause, s.awake = true → s.linkIsUp u = true ∨ s.linkState u = .init →
      exec (.downSet u cause) s = .next (s.after (s.declareDown u 7))) ∧
    (∀ cause, s.awake = true → s.linkState u = .down ∨ s.linkState u = .disabled →
      exec (.downSet u cause) s = .next (s.after s)) ∧
    (∀ p, s.allows (.linkCommandDown p u) = true → exec (.linkCommandDown p u) s = .next (s.after
      (((s.taken p).declareDown u 8).emit (.lexAnswer p 0 [])))) ∧
    (∀ p v, v = (s.taken p).set Reg.linkEnable u 0 → s.allows (.linkEnableWrite p u false) = true →
      exec (.linkEnableWrite p u false) s = .next (s.after
        ((if v.linkState u = .disabled then v else (v.declareDown u 8).setLinkState u .disabled).emit
          (.lexAnswer p 0 [])))) ∧
    (∀ p v, v = (s.taken p).set Reg.linkEnable u 1 → s.allows (.linkEnableWrite p u true) = true →
      exec (.linkEnableWrite p u true) s = .next (s.after
        ((if v.linkState u = .disabled then
            ((v.prbsEnd u).setLinkState u .down).putTrain u (freshTrain false (s.get Reg.trainRateMax u)) else v).emit
          (.lexAnswer p 0 [])))) ∧
    (∀ p v, v = s.taken p → s.allows (.retrain p u) = true →
      (v.linkIsUp u = false → exec (.retrain p u) s = .next (s.after (v.emit (.lexAnswer p 0 [])))) ∧
      (v.linkIsUp u = true → exec (.retrain p u) s = .next (s.after
        ((v.askPause u 3 (if v.powerState = 0 then log2w (nominalWidth u) else 0) (v.get Reg.linkRate u)).emit
          (.lexAnswer p 0 []))))) ∧
    (∀ (n : Fin 80) los lol (cyc : Fin 128) x v drop, s.awake = true → u.val = linkOf n →
      x = s.laneNum u (n - firstLane u) →
      v = ((s.atCycle cyc).modLane n (fun l => { l with losRaw := los, lolRaw := lol })).laneBits n
        [(0, !los), (1, !los && !lol), (2, false), (3, false)] →
      drop = v.modTrain u (fun t =>
        { t with good := setBit t.good x false, readyLanes := setBit t.readyLanes x false }) →
      (s.linkState u = .up ∨ (s.linkState u = .paused ∧ ∀ p, (s.link u).pause = some p → (p.ackSent && p.ackSeen) = false) →
        exec (.laneLockLoss n los lol cyc) s = .next (s.after
          (if bit (s.get Reg.laneStatus n) 4 then v.enterRecovering u (2 ^ x) else v))) ∧
      ((s.linkState u = .paused ∧ ∃ p, (s.link u).pause = some p ∧ (p.ackSent && p.ackSeen) = true) ∨
          (s.linkState u ≠ .up ∧ s.linkState u ≠ .paused) →
        exec (.laneLockLoss n los lol cyc) s = .next (s.after drop)) ∧
      (v.enterRecovering u (2 ^ x)).linkState u = .recovering ∧
      ((v.enterRecovering u (2 ^ x)).link u).lossAt = 128 * s.clock.clause + cyc.val)

/-- INIT (R358): in INIT, what the far end says is checked, and its TOKEN goes back; a set that does not fit is a link
protocol error, raised once, and the link waits on; a link that is UP answers a set that fits (log 103). INIT_ECHO (R353, R358): this end's TOKEN measures the round trip, from
which LINK_RTT and LINK_HEADROOM follow; above 1,000 ns the link is declared down with cause 10. With both done the link is
UP. LANES_READY (R358, R362, R388): trained lanes begin INIT; in a pause or a recovery RESUME follows at the width that the
lanes give. -/
def Obligations.LinksComeUp : Prop :=
  ∀ (u : Fin 18) (s : State), s.awake = true →
    (∀ role vcs idx token version, s.linkState u ≠ .init → s.linkState u ≠ .up →
      exec (.init u role vcs idx token version) s = .next (s.after s)) ∧
    (∀ role vcs idx token version fits, s.linkState u = .init →
      fits = (role = (if u.val < 16 then 2 else 3) ∧ idx = (if u.val < 16 then u.val % 2 else u.val - 16) ∧ version = 1 ∧
        (u.val < 16 ∨ vcs = s.get Reg.linkVcs u)) →
      (fits → exec (.init u role vcs idx token version) s = .next (s.after
        (((s.sendCtrl u 0x41 0 0 token 0).modLink u (fun l => { l with checked := true })).initDone u))) ∧
      (¬ fits → ∃ t, exec (.init u role vcs idx token version) s = .next t ∧ t.linkState u = .init ∧
        (t.link u).badCheck = true ∧ t.get Reg.linkProtocolErrors u =
          (s.bump Reg.linkProtocolErrors u).get Reg.linkProtocolErrors u ∧
        s.changesOnly t (Footprint.event.plus [Reg.linkProtocolErrors] [.links]))) ∧
    (∀ role vcs idx token version, s.linkState u = .up →
      (role = (if u.val < 16 then 2 else 3) → idx = (if u.val < 16 then u.val % 2 else u.val - 16) → version = 1 →
        u.val < 16 ∨ vcs = s.get Reg.linkVcs u →
        exec (.init u role vcs idx token version) s = .next (s.after (s.sendCtrl u 0x41 0 0 token 0))) ∧
      (role ≠ (if u.val < 16 then 2 else 3) ∨ idx ≠ (if u.val < 16 then u.val % 2 else u.val - 16) ∨ version ≠ 1 ∨
          (16 ≤ u.val ∧ vcs ≠ s.get Reg.linkVcs u) →
        exec (.init u role vcs idx token version) s = .next (s.after s))) ∧
    (∀ token (cyc : Fin 128) v, v = s.atCycle cyc →
      (s.linkState u ≠ .init ∨ token ≠ (s.link u).token ∨ (s.link u).echoed = true →
        exec (.initEcho u token cyc) s = .next (s.after v)) ∧
      (∀ w, s.linkState u = .init → token = (s.link u).token → (s.link u).echoed = false →
        w = v.takeRtt u (s.get Reg.linkWidth u) (s.get Reg.linkRate u) →
        w.get Reg.linkRtt u = min (4 * (128 * s.clock.clause + cyc.val - (s.link u).tokenAt)) 4294967295 ∧
        (1000 < w.get Reg.linkRtt u → exec (.initEcho u token cyc) s = .next (s.after (w.declareDown u 10))) ∧
        (w.get Reg.linkRtt u ≤ 1000 → exec (.initEcho u token cyc) s = .next (s.after
          ((w.modLink u (fun l => { l with echoed := true })).initDone u))))) ∧
    ((s.link u).checked = true → (s.link u).echoed = true → s.initDone u = s.linkUp u) ∧
    ((s.link u).checked = false ∨ (s.link u).echoed = false → s.initDone u = s) ∧
    (s.linkState u = .down → exec (.lanesReady u) s = .next (s.after
      (if (s.train u).step = 7 then s.enterInit u else s))) ∧
    (s.linkState u = .up ∨ s.linkState u = .init ∨ s.linkState u = .disabled →
      exec (.lanesReady u) s = .next (s.after s)) ∧
    (∀ limit v, s.linkState u = .recovering ∨ s.linkState u = .paused →
      limit = (if s.linkState u = .recovering then (s.train u).limit else match (s.link u).pause with
        | some p => 2 ^ (p.width % 4)
        | none => nominalWidth u) →
      v = (if (s.train u).step = 6 then s.readyAgain u limit else s) →
      exec (.lanesReady u) s = .next (s.after (if (v.train u).step = 7 then v.resumeStart u else v)))

/-- PAUSE_START and PAUSE_REQ (R359, R360): a pause that is wanted, or that the far end of a partner link asks for, makes a
link that is UP PAUSED, unless the other link of the pair is, or the cut has fallen; where two requests cross, side A's
prevails. PAUSE_ACK (R359): with the acknowledgements of both ends the lanes change. RESUME (R361): the far end's E frees
what it has, its TOKEN goes back, and with RESUME_ECHO (R353) the link is UP again; an E outside what is out is a link
protocol error, and a round trip above 1,000 ns takes the link down. -/
def Obligations.LinksPause : Prop :=
  ∀ (u : Fin 18) (s : State), s.awake = true →
    (∀ reason width rate, (s.link u).wantPause = some (reason, width, rate) → s.linkState u = .up →
      s.linkState (otherLink u) ≠ .paused → s.cutPassed = false →
      exec (.pauseStart u reason width rate) s = .next (s.after (s.pauseEnter u reason width rate true))) ∧
    (∀ reason width rate, (s.link u).wantPause ≠ some (reason, width, rate) ∨ s.linkState u ≠ .up ∨
        s.linkState (otherLink u) = .paused ∨ s.cutPassed = true →
      exec (.pauseStart u reason width rate) s = .next (s.after s)) ∧
    (∀ reason width rate,
      (u.val < 16 → exec (.pauseReq u reason width rate) s = .next (s.after s)) ∧
      (16 ≤ u.val → s.linkState u = .up → exec (.pauseReq u reason width rate) s = .next (s.after
        (s.pauseEnter u reason (width % 4) (rate % 8) false))) ∧
      (∀ p, 16 ≤ u.val → s.linkState u ≠ .up → (s.link u).pause = some p →
        (s.linkState u = .paused → p.ours = true → p.ackSent = false → s.get Reg.pairSide = 1 →
          p.width ≠ width % 4 ∨ p.rate ≠ rate % 8 → exec (.pauseReq u reason width rate) s = .next (s.after
            ((s.modLink u (fun l => { l with
              pause := some { p with
                reason := reason, width := width % 4, rate := rate % 8, ours := false, reqSeen := true },
              wantPause := some (p.reason, p.width, p.rate) })).pauseTry u))) ∧
        (s.linkState u = .paused → p.ours = true →
          p.ackSent = true ∨ s.get Reg.pairSide ≠ 1 ∨ (p.width = width % 4 ∧ p.rate = rate % 8) →
          exec (.pauseReq u reason width rate) s = .next (s.after
            (s.modLink u (fun l => { l with pause := some { p with reqSeen := true } })))) ∧
        (s.linkState u ≠ .paused ∨ p.ours = false →
          exec (.pauseReq u reason width rate) s = .next (s.after s))) ∧
      (s.linkState u ≠ .up → (s.link u).pause = none →
        exec (.pauseReq u reason width rate) s = .next (s.after s))) ∧
    (∀ p v, (s.link u).pause = some p → v = s.modLink u (fun l => { l with pause := some { p with ackSeen := true } }) →
      s.linkState u = .paused → p.ackSeen = false →
      exec (.pauseAck u) s = .next (s.after (if p.ackSent then v.laneChange u p else v))) ∧
    ((s.link u).pause = none ∨ s.linkState u ≠ .paused ∨ (∃ p, (s.link u).pause = some p ∧ p.ackSeen = true) →
      exec (.pauseAck u) s = .next (s.after s)) ∧
    (∀ e b token width rate v, v = (if s.linkState u = .up then s.enterRecovering u 0 else s) →
      (v.linkState u = .recovering ∨ (v.linkState u = .paused ∧ ∃ p, (s.link u).pause = some p ∧
          p.ackSent = true ∧ p.ackSeen = true) →
        ((v.link u).ackValid e = false → exec (.resume u e b token width rate) s = .next (s.after (v.linkProtocol u))) ∧
        ((v.link u).ackValid e = true → exec (.resume u e b token width rate) s = .next (s.after
          ((((v.ackTo u e).sendCtrl u 0x45 0 0 token 0).modLink u
            (fun l => { l with resumeSeen := true, resumeE := e })).resumeDone u)))) ∧
      (s.linkState u = .down ∨ s.linkState u = .init ∨ s.linkState u = .disabled ∨
          (s.linkState u = .paused ∧ ∀ p, (s.link u).pause = some p → p.ackSent = false ∨ p.ackSeen = false) →
        exec (.resume u e b token width rate) s = .next (s.after s))) ∧
    (∀ token (cyc : Fin 128) v, v = s.atCycle cyc →
      ((s.link u).resuming = false ∨ (s.link u).resumeEchoed = true ∨ token ≠ (s.link u).token →
        exec (.resumeEcho u token cyc) s = .next (s.after v)) ∧
      (∀ w, (s.link u).resuming = true → (s.link u).resumeEchoed = false → token = (s.link u).token →
        w = v.takeRtt u (s.train u).width (s.train u).rate →
        (1000 < w.get Reg.linkRtt u → exec (.resumeEcho u token cyc) s = .next (s.after (w.declareDown u 10))) ∧
        (w.get Reg.linkRtt u ≤ 1000 → exec (.resumeEcho u token cyc) s = .next (s.after
          ((w.modLink u (fun l => { l with resumeEchoed := true })).resumeDone u)))))

/-! ### The Treyr lanes (spec/15) -/

/-- TRAINING_START (R380, R363, R395): a link that is DOWN, not held and with its reference, begins to train from
TRAIN_RATE_MAX; TRAINING_RETRY (R381) does so 10 ms after an attempt failed at rate code 1. TRAINING_TIMEOUT (R380): 20 ms
after its step 1 an attempt fails, and the next lower common rate is tried. TRAINING_LANE_WAIT (R380): 100 µs after its
first good lane the numbering end chooses the rate. TS_CAP (R380): a sound lane in step 1 is detected, locked and good, and
with every lane good both ways the numbering end goes on. TS_RATE (R381): the numbering end sees its choice come back, the
other takes it and echoes it. TS_READY (R383, R388): a lane in step 6 at the chosen rate is ready. -/
def Obligations.LinksTrain : Prop :=
  ∀ (u : Fin 18) (s : State) (tr : Training) (v : State), s.awake = true → tr = s.train u →
    v = s.modTrain u (fun t => { t with ceiling := s.get Reg.trainRateMax u }) →
    (∀ may, may = (s.linkState u = .down ∧ tr.step = 0 ∧ tr.held = false ∧ tr.failed = false ∧ s.hasRef u = true) →
      (may → exec (.trainingStart u) s = .next (s.after (v.trainBegin u))) ∧
      (¬ may → exec (.trainingStart u) s = .next (s.after s))) ∧
    (∀ may, may = (s.linkState u = .down ∧ tr.failed = true ∧ s.hasRef u = true ∧
        s.due (tr.failAt + 2500000) = true) →
      (may → exec (.trainingRetry u) s = .next (s.after (v.trainBegin u))) ∧
      (¬ may → exec (.trainingRetry u) s = .next (s.after s))) ∧
    (∀ t, t = v.trainBegin u → (t.train u).step = 1 ∧ (t.train u).startAt = s.now ∧ (t.train u).good = 0 ∧
      (t.train u).ceiling = s.get Reg.trainRateMax u ∧
      t.get Reg.trainings u = (s.bump Reg.trainings u).get Reg.trainings u ∧
      (∀ n ∈ allLanes u, t.get Reg.txCoeff n = txCoeffOf (preset 0)) ∧
      s.changesOnly t (Footprint.none.plus [Reg.trainings, Reg.laneStatus, Reg.txCoeff] [.training, .lanes, .line, .outbox])) ∧
    (∀ late, late = ((s.linkState u = .down ∨ s.linkState u = .disabled) ∧ 1 ≤ tr.step ∧ tr.step ≤ 6 ∧
        s.due (tr.startAt + 5000000) = true) →
      (¬ late → exec (.trainingTimeout u) s = .next (s.after s)) ∧
      (late → tr.rate = 0 ∨ tr.prbs = true → exec (.trainingTimeout u) s = .next (s.after (s.trainBegin u))) ∧
      (late → tr.rate ≠ 0 → tr.prbs = false →
        (highestRate tr.farRates (tr.rate - 1) = none → exec (.trainingTimeout u) s = .next (s.after
          (s.modTrain u (fun t => { t with step := 0, failed := true, failAt := s.now })))) ∧
        (∀ r, highestRate tr.farRates (tr.rate - 1) = some r → r < tr.rate ∧
          exec (.trainingTimeout u) s = .next (s.after
            (((s.modTrain u (fun t => { t with ceiling := r })).bump Reg.rateFallbacks u).trainBegin u))))) ∧
    (∀ may, may = (tr.step = 1 ∧ s.numbers u = true ∧ tr.firstGoodAt.any (fun g => s.due (g + 25000)) = true) →
      (may → exec (.trainingLaneWait u) s = .next (s.after (s.chooseRate u))) ∧
      (¬ may → exec (.trainingLaneWait u) s = .next (s.after s))) ∧
    (∀ (n : Fin 80) rates no numbering mask e w, w = s.modLane n (fun l => { l with losRaw := false, lolRaw := false }) →
      u.val = linkOf n →
      (tr.step ≠ 1 ∨ s.laneSound n = false → exec (.tsCap n rates no numbering mask e) s = .next (s.after w)) ∧
      (tr.step = 1 → s.laneSound n = true → s.numbers u = true → ∀ t, t = { tr with
            good := setBit tr.good (n - firstLane u) true, farRates := rates, farGood := mask % 256,
            firstGoodAt := some (tr.firstGoodAt.getD s.now) } →
        ∃ y, exec (.tsCap n rates no numbering mask e) s = .next
            (s.after (if t.good = fullMask u ∧ t.farGood = fullMask u then y.chooseRate u else y)) ∧
          y.train u = t ∧ (∀ k < 3, bit (y.get Reg.laneStatus n) k = true) ∧
          s.changesOnly y (Footprint.none.plus [Reg.laneStatus] [.training, .lanes, .line, .outbox])) ∧
      (∀ x, tr.step = 1 → s.laneSound n = true → s.numbers u = false →
        x = (if numbering then no % 8 else (s.lane n).laneNo) → ∃ y,
          exec (.tsCap n rates no numbering mask e) s = .next (s.after y) ∧ (y.lane n).laneNo = x ∧
          y.train u = { tr with
            good := setBit tr.good x true, farRates := rates, farGood := mask % 256,
            firstGoodAt := some (tr.firstGoodAt.getD s.now) } ∧ (∀ k < 3, bit (y.get Reg.laneStatus n) k = true) ∧
          s.changesOnly y (Footprint.none.plus [Reg.laneStatus] [.training, .lanes, .line, .outbox]))) ∧
    (∀ rate token,
      (s.numbers u = true → exec (.tsRate u rate token) s = .next (s.after
        (if tr.step = 3 ∧ rate = tr.rate ∧ token = tr.token then s.rateChange u else s))) ∧
      (s.numbers u = false → exec (.tsRate u rate token) s = .next (s.after
        (if tr.step = 1 ∧ 1 ≤ rate ∧ rate ≤ 5 then
          ((s.modTrain u (fun t => { t with step := 3, rate := rate, token := token })).sendRate u).rateChange u
         else s)))) ∧
    (∀ (n : Fin 80) rate mask token w x, u.val = linkOf n →
      w = s.modLane n (fun l => { l with losRaw := false, lolRaw := false }) →
      x = (if s.linkState u = .up then w.enterRecovering u 0 else w) →
      ((x.train u).step ≠ 6 ∨ rate ≠ (x.train u).rate ∨ x.laneSound n = false ∨ x.linkState u = .init ∨
          x.linkState u = .disabled ∨ (x.linkState u = .down ∧ token ≠ (x.train u).token) →
        exec (.tsReady n rate mask token) s = .next (s.after x)) ∧
      ((x.train u).step = 6 → rate = (x.train u).rate → x.laneSound n = true →
        (x.linkState u = .down → token = (x.train u).token →
          exec (.tsReady n rate mask token) s = .next (s.after (x.gotReady n mask))) ∧
        (x.linkState u = .paused ∨ x.linkState u = .recovering →
          exec (.tsReady n rate mask token) s = .next (s.after (x.noteReady n mask true)))))

/-- EQ_REQ (R385): in step 5 the coefficients asked for, held to their limits, are this transmitter's, and are answered.
EQ_DONE (R385): the far end has chosen. EQ_ACK (R385): the eye then measured is kept where it is the best; whether the
receiver asks again, and for what, is open, and from the 32nd request on it ends. EYE_SCAN (R392): the scan of a selected
lane that is due gives EYE_WIDTH and EYE_HEIGHT, and four low ones in a row ask for an update. EQ_UPDATE (R386) asks for a
pause with reason 4. PRBS_START and PRBS_STOP (R390): a test trains the link at PRBS_RATE with its counters at zero, and
ends with 0x0C4. -/
def Obligations.LanesAreTuned : Prop :=
  ∀ (u : Fin 18) (s : State),
    (∀ (n : Fin 80) cm1 cp1 p it want c, s.awake = true → u.val = linkOf n →
      want = (if p ≤ 7 then preset p else (cm1 % 256, cp1 % 256)) → c = (clipTap 8 want.1, clipTap 16 want.2) →
      ((s.train u).step ≠ 5 → exec (.eqReq n cm1 cp1 p it) s = .next (s.after s)) ∧
      ((s.train u).step = 5 → exec (.eqReq n cm1 cp1 p it) s = .next (s.after
        ((s.set Reg.txCoeff n (txCoeffOf c)).sendSet n 9 c.1 c.2 (mainTap c) (b2n (c != want)))))) ∧
    (∀ (n : Fin 80) cm1 cp1 w h, s.awake = true → u.val = linkOf n →
      ((s.train u).step ≠ 5 → exec (.eqDone n cm1 cp1 w h) s = .next (s.after s)) ∧
      ((s.train u).step = 5 → exec (.eqDone n cm1 cp1 w h) s = .next (s.after
        (((s.set Reg.txCoeff n (txCoeffOf (clipTap 8 cm1, clipTap 16 cp1))).modTrain u (fun t =>
          { t with eqDoneLanes := setBit t.eqDoneLanes (s.laneNum u (n - firstLane u)) true })).eqEnd u
            (!(s.linkIsUp u)))))) ∧
    (∀ (n : Fin 80) cm1 cp1 c0 clip w h l v, s.awake = true → u.val = linkOf n → l = s.lane n →
      v = (if l.eqIter = 1 ∨ betterEye (s.get Reg.eyeMinWidth u) (s.get Reg.eyeMinHeight u) (w, h) l.best = true then
          s.modLane n (fun l => { l with best := (w, h), bestCoeff := (cm1 % 256, cp1 % 256) }) else s) →
      ((s.train u).step ≠ 5 ∨ l.eqIter = 0 → exec (.eqAck n cm1 cp1 c0 clip w h) s = .next (s.after
        (s.eqEnd u (!(s.linkIsUp u))))) ∧
      ((s.train u).step = 5 → l.eqIter ≠ 0 →
        (Config.eqChoice s.draws % 2 = 0 ∨ 32 ≤ l.eqIter → exec (.eqAck n cm1 cp1 c0 clip w h) s = .next (s.after
          ((v.drawn.eqFinish n).eqEnd u (!(s.linkIsUp u))))) ∧
        (Config.eqChoice s.draws % 2 = 1 → l.eqIter < 32 → ∃ a b, exec (.eqAck n cm1 cp1 c0 clip w h) s = .next (s.after
          (((v.drawn.modLane n (fun l => { l with eqIter := l.eqIter + 1 })).sendSet n 8 a b 255
            (l.eqIter + 1)).eqEnd u (!(s.linkIsUp u))))))) ∧
    (∀ (n : Fin 80) w h, s.awake = true → u.val = linkOf n →
      (s.powerState ≠ 0 ∨ s.linkState u ≠ .up ∨ bit (s.get Reg.laneStatus n) 4 = false ∨ s.get Reg.eyePeriod u = 0 ∨
          ((s.lane n).scanned = true ∧ s.due ((s.lane n).scanAt + msCycles (s.get Reg.eyePeriod u)) = false) →
        exec (.eyeScan n w h) s = .next (s.after s)) ∧
      (s.powerState = 0 → s.linkState u = .up → bit (s.get Reg.laneStatus n) 4 = true → s.get Reg.eyePeriod u ≠ 0 →
        (s.lane n).scanned = false ∨ s.due ((s.lane n).scanAt + msCycles (s.get Reg.eyePeriod u)) = true →
        ∃ t, exec (.eyeScan n w h) s = .next t ∧ t.get Reg.eyeWidth n = min w 64 ∧ t.get Reg.eyeHeight n = min h 65535 ∧
          (t.lane n).scanned = true ∧ (t.lane n).scanAt = s.now ∧
          (t.lane n).low = (if s.get Reg.eyeMinWidth u ≤ w ∧ s.get Reg.eyeMinHeight u ≤ h then 0
            else (s.lane n).low + 1) ∧
          s.changesOnly t (Footprint.event.plus [Reg.eyeWidth, Reg.eyeHeight, Reg.linkState, Reg.linksUp]
            [.lanes, .links, .line, .persist]))) ∧
    (∀ p, s.allows (.eqUpdate p u) = true → exec (.eqUpdate p u) s = .next (s.after
      (((s.taken p).askPause u 4 (log2w ((s.taken p).get Reg.linkWidth u)) ((s.taken p).get Reg.linkRate u)).emit
        (.lexAnswer p 0 [])))) ∧
    (∀ p, s.allows (.prbsStart p u) = true → ∃ t, exec (.prbsStart p u) s = .next t ∧ t.get Reg.prbsState u = 1 ∧
      (t.train u).prbs = true ∧ (t.train u).step = 1 ∧
      (∀ n ∈ allLanes u, t.get Reg.prbsErrors n = 0 ∧ t.get Reg.prbsBits n = 0 ∧ t.get Reg.prbsLocked n = 0) ∧
      s.changesOnly t (Footprint.request.plus [Reg.prbsBits, Reg.prbsErrors, Reg.prbsLocked, Reg.prbsState, Reg.trainings,
        Reg.laneStatus, Reg.txCoeff] [.training, .lanes, .line])) ∧
    (∀ p v, v = s.taken p → s.allows (.prbsStop p u) = true →
      (v.get Reg.prbsState u ≠ 1 → v.get Reg.prbsState u ≠ 2 →
        exec (.prbsStop p u) s = .next (s.after (v.emit (.lexAnswer p 0 [])))) ∧
      (v.get Reg.prbsState u = 1 ∨ v.get Reg.prbsState u = 2 → ∃ t, exec (.prbsStop p u) s = .next t ∧
        t.get Reg.prbsState u = 3 ∧ (t.train u).prbs = false ∧ (t.train u).step = 0 ∧
        (∀ r n, r = Reg.prbsBits ∨ r = Reg.prbsErrors ∨ r = Reg.prbsLocked → v.prbsTests n = false ∨ n ∉ allLanes u →
          t.get r n = s.get r n) ∧
        s.changesOnly t (Footprint.request.plus [Reg.prbsState, Reg.prbsBits, Reg.prbsErrors, Reg.prbsLocked]
          [.training, .line])))

/-! ### Power and ageing (spec/16) -/

/-- POWER_REQUEST (R403, R406, R407): to the present state nothing happens; to another a transition of Table 16.2 starts, by
way of A0 where none joins the two; during a transition its target is no news, A0 aborts or follows it, and another target
waits in place of an earlier one. From the cut on the host's is not heard, and the field port's is answered STATE (R471).
STEP_TIMEOUT (R404): a step up to the last abort point that has waited its time without
agreement refuses the transition, with reason 8 where only acknowledgements of SELF_REFRESH are missing, else 7. -/
def Obligations.PowerStatesAreAsked : Prop :=
  ∀ s : State,
    (∀ (g : Fin 4) (n : Fin 128), s.clock.powered = true → s.cutPassed = true →
      exec (.powerRequest .hostPf g) s = .next (s.after s) ∧
      (s.fieldSends = false → exec (.powerRequest (.field n) g) s = .next (s.after s)) ∧
      (s.fieldSends = true → exec (.powerRequest (.field n) g) s = .next (s.after
        (((s.wake 8).bump Reg.lexAborts).emit (.lexAnswer (.field n) 8 []))))) ∧
    (∀ p (g : Fin 4) u cause, s.allows (.powerRequest p g) = true → u = s.taken p → s.cutPassed = false →
      cause = (match p with | .field _ => 1 | _ => 0) →
      (u.power.trans = none → g.val = u.powerState →
        exec (.powerRequest p g) s = .next (s.after (u.emit (.lexAnswer p 0 [])))) ∧
      (∀ code, u.power.trans = none → transCode u.powerState g = some code → exec (.powerRequest p g) s = .next (s.after
        ({ u with power := { u.power with trans := some ⟨code, g, u.powerState, cause, u.get Reg.wakeStatus,
            transSteps code, s.clauseNow, s.now, false, [], false, false⟩ } }.emit (.lexAnswer p 0 [])))) ∧
      (∀ code, u.power.trans = none → g.val ≠ u.powerState → transCode u.powerState g = none →
        transCode u.powerState 0 = some code → exec (.powerRequest p g) s = .next (s.after
        ({ u with power := { u.power with
            trans := some ⟨code, 0, u.powerState, cause, u.get Reg.wakeStatus, transSteps code, s.clauseNow, s.now,
              false, [], false, false⟩
            pending := some (g.val, cause, u.get Reg.wakeStatus) } }.emit (.lexAnswer p 0 [])))) ∧
      (∀ t, u.power.trans = some t →
        (g.val = t.target → exec (.powerRequest p g) s = .next (s.after (u.emit (.lexAnswer p 0 [])))) ∧
        (g.val ≠ t.target → g.val = 0 → exec (.powerRequest p g) s = .next (s.after
          ({ u with power := (if t.committed then { u.power with exitNext := some (cause, u.get Reg.wakeStatus) }
              else { u.power with trans := some { t with aborted := true } }) }.emit (.lexAnswer p 0 [])))) ∧
        (∀ v, g.val ≠ t.target → g.val ≠ 0 →
          v = (match u.power.pending with | some x => u.entryRefused x.1 10 0 0 0 0 | none => u) →
          exec (.powerRequest p g) s = .next (s.after
            ({ v with power := { v.power with pending := some (g.val, cause, u.get Reg.wakeStatus) } }.emit
              (.lexAnswer p 0 [])))))) ∧
    (s.awake = true →
      (∀ t step rest, s.power.trans = some t → t.todo = step :: rest → t.entered = true → 2 ≤ step →
        step ≤ lastAbort t.code → s.cutPassed = false → s.notAgreeing t.code step ≠ 0 →
        s.due (t.stepAt + msCycles (s.get Reg.stepTimeout step)) = true →
        (step = 7 → (∀ c ∈ s.activeCarriers, (s.car c).reqs = []) → exec .stepTimeout s = .next (s.after
          (s.refuseTrans t 8 7 (s.activeCarriers.foldl (fun a c => if (s.car c).selfRefresh then a else a + 2 ^ c) 0)))) ∧
        (step ≠ 7 ∨ (∃ c ∈ s.activeCarriers, (s.car c).reqs ≠ []) → exec .stepTimeout s = .next (s.after
          (s.refuseTrans t 7 step (s.notAgreeing t.code step))))) ∧
      (s.cutPassed = true ∨ s.power.trans = none ∨ (∃ t, s.power.trans = some t ∧ (t.entered = false ∨ t.todo = [] ∨
          ∃ step rest, t.todo = step :: rest ∧ (step < 2 ∨ lastAbort t.code < step ∨ s.notAgreeing t.code step = 0 ∨
            s.due (t.stepAt + msCycles (s.get Reg.stepTimeout step)) = false))) →
        exec .stepTimeout s = .next (s.after s)))

/-- PATROL_PASS (R410): in A2, with no transition and no power-fail indication, a pass that is due is counted, the passes
that fell due before it are overruns, and its rows run in order. SENSOR_SAMPLE (R416): outside A2, every 2,048 clauses, the
17 readings become SENSOR_VALUE, and what follows from them is done. REPLAN (R418): outside A2, every REPLAN_PERIOD, the
16 oscillators are read, and the rules run. RESTORE_CAPS (R418) sets every cap to rate code 5. AVS_STEP and AVS_RETRY (R419):
64 clauses after the last write, and every 2,048 after three failures in a row, the voltage moves by at most 5 mV toward
AVS_TARGET; the third failure raises 0x0E2 and a success withdraws it. -/
def Obligations.TheChipIsWatched : Prop :=
  ∀ s : State,
    (s.awake = true →
      (∀ sensors k v due, due = (s.powerState = 2 ∧ s.power.trans = none ∧ s.cutPassed = false ∧ s.power.detected = false ∧
          s.past (128 * s.power.patrolFrom + s.power.patrolNext * msCycles (s.get Reg.patrolPeriod)) = true) →
        k = max s.power.patrolNext (128 * (s.clauseNow - s.power.patrolFrom) / msCycles (s.get Reg.patrolPeriod)) →
        v = ((s.bump Reg.patrolOverruns 0 (k - s.power.patrolNext)).modPower
          (fun p => { p with patrolNext := k + 1 })).bump Reg.patrolPasses →
        (¬ due → exec (.patrolPass sensors) s = .next (s.after s)) ∧
        (due → exec (.patrolPass sensors) s = .next (s.after (v.patrolRows sensors (List.range 32))))) ∧
      (∀ sensors b due v, due = (s.powerState ≠ 2 ∧ s.due (s.power.sampleAt + 262144) = true ∧ sensors.length = 17) →
        v = (s.modPower (fun p => { p with sampleAt := s.now })).readings 0 sensors →
        (¬ due → exec (.sensorSample sensors b) s = .next (s.after s)) ∧
        (due → (∀ n < 17, v.get Reg.sensorValue n = sensors.getD n 0 % 4294967296) ∧
          exec (.sensorSample sensors b) s = .next (s.after (v.sampled b)))) ∧
      (∀ osc due v, due = (s.powerState ≠ 2 ∧ s.due (s.power.replanAt + msCycles (s.get Reg.replanPeriod)) = true ∧
          osc.length = 16) →
        v = (s.modPower (fun p => { p with replanAt := s.now })).readings 17 osc →
        (¬ due → exec (.replan osc) s = .next (s.after s)) ∧
        (due → (∀ n < 16, v.get Reg.sensorValue (17 + n) = osc.getD n 0 % 4294967296) ∧
          exec (.replan osc) s = .next (s.after v.replan.1))) ∧
      (∀ (c : Bool → Instr) ok due mv, ((c = .avsStep ∧ due = (s.power.avsFails < 3 ∧
          s.power.avsMv ≠ s.get Reg.avsTarget ∧ s.due (s.power.avsAt + 8192) = true)) ∨
          (c = .avsRetry ∧ due = (3 ≤ s.power.avsFails ∧ s.due (s.power.avsAt + 262144) = true))) →
        mv = toward s.power.avsMv (s.get Reg.avsTarget) →
        (mv ≤ s.power.avsMv + 5 ∧ s.power.avsMv ≤ mv + 5) ∧
        (¬ due → exec (c ok) s = .next (s.after s)) ∧
        (due → ∃ t, exec (c ok) s = .next t ∧ t.power.avsAt = s.now ∧
          (ok = true → t.power.avsMv = mv ∧ t.power.avsFails = 0) ∧
          (ok = false → t.power.avsMv = s.power.avsMv ∧ t.power.avsFails = s.power.avsFails + 1 ∧
            t.get Reg.mgmtCount 0x0E2 = (if s.power.avsFails = 2 then (s.bump Reg.mgmtCount 0x0E2).get Reg.mgmtCount 0x0E2
              else s.get Reg.mgmtCount 0x0E2)) ∧
          s.changesOnly t (Footprint.event.plus [] [.power])))) ∧
    (∀ p v, s.allows (.restoreCaps p) = true →
      v = (s.taken p).each (List.range 18) (fun s u => s.set Reg.linkRateCap u 5) →
      (∀ u < 18, v.get Reg.linkRateCap u = 5) ∧ exec (.restoreCaps p) s = .next (s.after
        ((v.each (List.range 18) (fun s u => s.settleLink u)).emit (.lexAnswer p 0 []))))

/-! ### Security (spec/17) -/

/-- FW_PACKAGE (R433, R429): a package that verifies, of a ROLLBACK_STEP that is not used up, makes its slot good; any other
leaves it not good, and is answered SIGNATURE. ACTIVATE (R434): FW_PREFERRED names the other slot, and is stored. CONFIRM
(R438): fuses up to the running step are blown in order; one that fails ends it with STORE_FAIL and 0x0F5. INVALIDATE (R434)
erases the other slot. RESTART (R432) leaves recovery as a cold reset does. -/
def Obligations.FirmwareIsInstalled : Prop :=
  ∀ (p : Path) (s u : State), u = s.taken p →
    (∀ k f, f = ⟨1, k.version, k.step, k.codeDigest, k.certOk && k.headerOk && k.digestOk⟩ →
      s.allows (.fwPackage p k) = true →
      (f.good s.keep.fuses = true → exec (.fwPackage p k) s = .next (s.after
        ((u.putSlot u.packageSlot f).emit (.lexAnswer p 0 [])))) ∧
      (f.good s.keep.fuses = false → exec (.fwPackage p k) s = .next (s.after
        (((u.putSlot u.packageSlot { f with status := 2, certOk := false }).bump Reg.lexAborts).emit
          (.lexAnswer p 11 []))))) ∧
    (s.allows (.activate p) = true → (s.fwSlot s.otherSlot).good s.keep.fuses = true ∧
      ∃ t, exec (.activate p) s = .next t ∧ t.keep.preferred = s.otherSlot ∧ t.keep.fuses = s.keep.fuses ∧
        t.keep.slot0 = s.keep.slot0 ∧ t.keep.slot1 = s.keep.slot1 ∧
        (s.security.recovery = true → t.security.namedSlot = s.otherSlot) ∧
        s.changesOnly t (Footprint.request.plus [Reg.setCopy, Reg.setGeneration, Reg.keepRewrites, Reg.keepEccCorrected]
          [.keep, .security, .draws])) ∧
    (∀ fails step stop, step = min 64 (s.fwSlot (s.get Reg.fwActiveSlot)).step →
      stop = (match fails with | some k => if s.keep.fuses ≤ k ∧ k < step then k else step | none => step) →
      s.allows (.confirm p fails) = true → s.get Reg.fwActiveSlot = s.keep.preferred ∧
      ∃ t, exec (.confirm p fails) s = .next t ∧ t.keep = { s.keep with fuses := max s.keep.fuses stop } ∧
        (stop = step → t.answered p .ok) ∧ (stop < step → t.answered p .storeFail) ∧
        (∀ k, .fuse k ∈ t.outbox ↔ (.fuse k ∈ s.outbox ∨ (s.keep.fuses ≤ k ∧ k < stop))) ∧
        s.changesOnly t (Footprint.request.plus [] [.keep])) ∧
    (s.allows (.invalidate p) = true → exec (.invalidate p) s = .next (s.after
      ((if s.security.recovery then (u.putSlot u.otherSlot ⟨0, 0, 0, 0, false⟩).modSecurity
          (fun x => { x with namedSlot := u.otherSlot })
        else u.putSlot u.otherSlot ⟨0, 0, 0, 0, false⟩).emit (.lexAnswer p 0 [])))) ∧
    (∀ b : Fin 4, s.allows (.fwRestart p b) = true → s.security.recovery = true ∧
      exec (.fwRestart p b) s = .next (s.after ((u.coldStart b s.host.perstLow).emit (.lexAnswer p 0 []))))

/-- OWNER_KEY_ENROL (R435): without an owner the key is taken, and stored. A statement (R427, R435 to R437, R444): in an image
state that is not its own it is refused with STATE; one that does not verify under the key its kind asks for, is not newer
than the last, or names no open challenge, is counted, raises 0x0F2 and is refused with SIGNATURE; a valid one has its effect:
a new owner, none, a signed configuration that runs, or a debug level with 0x0F3; at level 2, which disables the identity key, a report in progress ends (log 104). CONFIG_LOCK_WRITE (R439) sets the lock, and
it is stored. -/
def Obligations.TheOwnerDecides : Prop :=
  ∀ (p : Path) (s u : State), u = s.taken p →
    (∀ key, s.allows (.ownerKeyEnrol p key) = true → key.length = 1793 ∧ s.get Reg.ownerState = 0 ∧
      exec (.ownerKeyEnrol p key) s = .next (s.after (({ u with keep := { u.keep with
        ownerKey := key, ownerShadow := keyDigest key } }.set Reg.ownerState 0 1).storeOwn.emit (.lexAnswer p 0 [])))) ∧
    (∀ (c : Instr) st v, (c = .ownerReplace p st ∨ c = .ownerRelease p st ∨ c = .signedConfig p st ∨ c = .debugUnlock p st) →
      s.allows c = true → v = (if st.kind = 6 then u else { u with keep := { u.keep with counter := st.counter } }) →
      (bit (statementStates st) s.image.code = false → exec c s = .next (s.after
        ((u.bump Reg.lexAborts).emit (.lexAnswer p 8 [])))) ∧
      (bit (statementStates st) s.image.code = true → (st.kind = 4 ∧ st.signer = .manufacturing ∧ s.keep.job ≠ none) →
        exec c s = .next (s.after ((u.bump Reg.lexAborts).emit (.lexAnswer p 9 [])))) ∧
      (bit (statementStates st) s.image.code = true → ¬ (st.kind = 4 ∧ st.signer = .manufacturing ∧ s.keep.job ≠ none) →
        (u.statementValid st = false → exec c s = .next (s.after
          ((((u.bump Reg.verifyFailures).raise 0 0x0F2 0).bump Reg.lexAborts).emit (.lexAnswer p 11 [])))) ∧
        (u.statementValid st = true → st.formOk = true ∧ st.serialOk = true ∧ st.sigOk = true ∧
          (st.kind ≠ 6 → s.keep.counter < st.counter) ∧
          (st.kind = 6 → u.security.challenge = some (field st.body 0 32)) ∧
          (statementFits st = false → exec c s = .next (s.after
            (((if st.kind = 6 then v else v.storeOwn).bump Reg.lexAborts).emit (.lexAnswer p 7 [])))) ∧
          (statementFits st = true →
            (st.kind = 3 → exec c s = .next (s.after (({ v with keep := { v.keep with
              ownerKey := st.body, ownerShadow := keyDigest st.body } }.set Reg.ownerState 0 1).storeOwn.emit
                (.lexAnswer p 0 [])))) ∧
            (st.kind = 4 → exec c s = .next (s.after
              ((if st.signer = .manufacturing then v.mfgRelease.dropOwner else v.dropOwner).storeOwn.emit
                (.lexAnswer p 0 [])))) ∧
            (st.kind = 5 → exec c s = .next (s.after ((v.storeOwn.modLexicon
              (fun l => { l with config := some (p, .direct p, st.body, 0) })).runConfig))) ∧
            (st.kind = 6 → exec c s = .next (s.after
              ((({ v with security := { v.security with
                  attest := if field st.body 32 1 = 2 then none else v.security.attest } }.set Reg.debugState 0
                (field st.body 32 1)).raise 0 0x0F3 0).emit (.lexAnswer p 0 [])))))))) ∧
    (∀ on, s.allows (.configLockWrite p on) = true → s.get Reg.ownerState = 1 ∧ exec (.configLockWrite p on) s =
      .next (s.after ((u.set Reg.configLock 0 (b2n on)).storeOwn.emit (.lexAnswer p 0 []))))

/-- ATTEST_NONCE (R443): a report starts and is counted, of what the chip is now; with a bank write in progress it is put together
when its signature begins (log 104). One already in progress is BUSY, and debug level 2 is LOCKED. ATTEST_SIGNED (R443): the
report is there, with its signature, for the path that asked, and a seal that waited for it follows (R425). DEBUG_CHALLENGE_READ
(R444): a new challenge is drawn, voids the one before, and is the answer. DEBUG_LOCK (R444) returns to level 0.
TEST_MODE_INPUT (R445): high at another level than 2 raises 0x0F4, once. -/
def Obligations.TheChipAttests : Prop :=
  ∀ (p : Path) (s u : State), u = s.taken p →
    (∀ nonce, s.allows (.attestNonce p nonce) = true → nonce.length = 32 ∧
      (s.get Reg.debugState = 2 → exec (.attestNonce p nonce) s = .next (s.after
        ((u.bump Reg.lexAborts).emit (.lexAnswer p 13 [])))) ∧
      (s.get Reg.debugState ≠ 2 → s.security.attest ≠ none → exec (.attestNonce p nonce) s = .next (s.after
        ((u.bump Reg.lexAborts).emit (.lexAnswer p 9 [])))) ∧
      (∀ v inst body, s.get Reg.debugState ≠ 2 → s.security.attest = none → v = u.bump Reg.attestCount →
        inst = (match p with | .hostVf i => i.val | _ => 0) →
        body = (if s.keep.job = none then some (v.attestation inst nonce) else none) →
        exec (.attestNonce p nonce) s = .next (s.after
          ({ v with security := { v.security with attest := some ⟨p, nonce, body⟩ } }.emit (.lexAnswer p 0 []))))) ∧
    (s.awake = true →
      (s.security.attest.any (·.body.isSome) = false → s.security.sealWaits = none → s.lexicon.config = none →
        exec .attestSigned s = .next (s.after s)) ∧
      (∀ n b c r f, s.security.attest = some ⟨p, n, some b⟩ → s.security.sealWaits = some (c, r, f) →
        s.lexicon.config = none → exec .attestSigned s = .next (s.after
          (((s.attestEnds.modSecurity (fun x => { x with sealWaits := none })).sealReady c r f).runConfig))) ∧
      (∀ n b, s.security.attest = some ⟨p, n, some b⟩ → s.security.sealWaits = none → s.lexicon.config = none →
        ∃ t, exec .attestSigned s = .next t ∧ t.security.attest = none ∧
        t.blob Reg.attestReport = b ++ le 1280 (Config.signature b) ∧
        t.security.reportFor = (match p with | .hostVf i => some i.val | _ => none) ∧
        t.get Reg.signatures = (s.bump Reg.signatures).get Reg.signatures ∧
        s.changesOnly t (Footprint.none.plus [Reg.signatures] [.blobs, .security])) ∧
      (∀ high, high = true ∧ s.get Reg.debugState ≠ 2 ∧ s.security.testSeen = false →
        exec (.testModeInput high) s = .next (s.after
          ((s.raise 0 0x0F4 0).modSecurity (fun x => { x with testSeen := true })))) ∧
      (∀ high, high = false ∨ s.get Reg.debugState = 2 ∨ s.security.testSeen = true →
        exec (.testModeInput high) s = .next (s.after s))) ∧
    (∀ a, s.clock.powered = true → s.serves p = true → a ≠ .ok →
      u.target ⟨p, Reg.debugChallenge, 0xFFFFFFFF, false⟩ false = .refused a → exec (.debugChallengeRead p) s = .next (s.after ((u.bump Reg.lexAborts).emit (.lexAnswer p a.code [])))) ∧
    (∀ i v, s.clock.powered = true → s.serves p = true →
      u.target ⟨p, Reg.debugChallenge, 0xFFFFFFFF, false⟩ false = .place i v →
      ∃ t, exec (.debugChallengeRead p) s = .next t ∧
        t.security.challenge = some (Config.challenge s.draws % 2 ^ 256) ∧
        t.outbox.getLast? = some (.lexAnswer p 0 (le 32 (Config.challenge s.draws))) ∧ t.draws = s.draws + 1 ∧
        s.changesOnly t (Footprint.request.plus [] [.security, .draws, .blobs])) ∧
    (∀ v, s.allows (.debugLock p v) = true → exec (.debugLock p v) s = .next (s.after
      (((u.set Reg.debugState 0 0).withdraw 0 0x0F3).emit (.lexAnswer p 0 []))))

/-! ### The Lexicon (spec/18) -/

/-- R453, of every command that stands for a write request, by whatever path: a request whose entry is not there, not
reached or not writable, or whose value is locked, of a wrong length, out of range, not legal now or busy, changes nothing
but the counts of requests and of aborts, and is answered with its code. -/
def Obligations.RefusedRequestsChangeNothing : Prop :=
  ∀ (c : Instr) (a : Ask) (x : Abort) (s u : State), requestOf c = some a → u = s.taken a.q.path →
    s.clock.powered = true → s.serves a.q.path = true → s.lexicon.config = none → x ≠ .ok → x ≠ .later →
    (u.target a.q true = .refused x ∨ (x = .readOnly ∧ ∃ n, u.target a.q true = .count n) ∨
      ∃ o i, u.target a.q true = .place o i ∧ u.checkValue a.q o i a.value = x) →
    exec c s = .next (s.after ((u.bump Reg.lexAborts).emit (.lexAnswer a.q.path x.code [])))

/-- REGISTER_WRITE (R451, R453): an allowed value is its register's, without reserved bits (R11), for some objects from
the next clause on (R100, R412), and FIRMWARE sets a read-only entry. STORE (R457): the
copy not in use takes the stored objects that differ from their defaults, a generation on, and is in use; a word that fails
twice, or VDD_KEEP low (R483), leaves it not correct, with STORE_FAIL and 0x0FB. FORMAT and RELOAD (R459) give every stored object its default, or
its value of the copy in use. -/
def Obligations.TheSetIsKept : Prop :=
  ∀ (p : Path) (s u : State), u = s.taken p →
    (∀ index row b o k, s.allows (.registerWrite p index row b) = true → Reg.lookup index = .entry o k →
      (o.acc = .ro → (∀ n, o.ty ≠ .blob n) → exec (.registerWrite p index row b) s = .next (s.after
        ((u.set o.reg (o.place k row) (fromLe (b.take 8))).emit (.lexAnswer p 0 [])))) ∧
      (o.reg ∈ [Reg.leaseTerm, Reg.leasePolicy, Reg.autoTakeover, Reg.takeoverRetry, Reg.tagTimeout, Reg.nakRetries,
          Reg.ackTimeout, Reg.creditTimeout, Reg.pauseLimit, Reg.linkDownTime, Reg.eyePeriod, Reg.trainRateMax,
          Reg.patrolPeriod, Reg.replanPeriod, Reg.holdupLookahead, Reg.fieldHeartbeat,
          Reg.semicolonInterval, Reg.wakePrio] → exec (.registerWrite p index row b) s = .next (s.after
        ((u.set o.reg (o.place k row) (fromLe (b.take 8))).emit (.lexAnswer p 0 [])))) ∧
      (o.reg ∈ [Reg.wakeEnable, Reg.wakePin] → exec (.registerWrite p index row b) s = .next (s.after
        ((u.set o.reg (o.place k row) (fromLe (b.take 8) % 2 ^ 22)).emit (.lexAnswer p 0 [])))) ∧
      (o.reg ∈ [Reg.restoreTouchLimit, Reg.restoreProgressStep, Reg.pfailFilter, Reg.porFilter, Reg.perstFilter] →
        exec (.registerWrite p index row b) s = .next (s.after
          ((u.setLate o.reg (o.place k row) (fromLe (b.take 8))).emit (.lexAnswer p 0 []))))) ∧
    (∀ n failed, s.allows (.store p n failed) = true → ∃ t, exec (.store p n failed) s = .next t ∧
      (failed = false → s.keepLow = false → ∃ copy, copy = StoredCopy.mk true (t.get Reg.setGeneration) s.setEntries ∧
        t.get Reg.setCopy = (if s.get Reg.setCopy = 0 then 1 else 0) ∧
        t.keep = (if s.get Reg.setCopy = 0 then { s.keep with copyB := copy } else { s.keep with copyA := copy }) ∧
        t.get Reg.setGeneration = (match s.get Reg.setCopy with
          | 0 => s.keep.copyA.generation + 1
          | 1 => s.keep.copyB.generation + 1
          | _ => max s.keep.copyA.generation s.keep.copyB.generation + 1) ∧ t.answered p .ok) ∧
      (failed = true ∨ s.keepLow = true → t.get Reg.setCopy = s.get Reg.setCopy ∧ t.answered p .storeFail ∧
        t.keep = (if s.get Reg.setCopy = 0 then { s.keep with copyB := { s.keep.copyB with correct := false } }
          else { s.keep with copyA := { s.keep.copyA with correct := false } })) ∧
      s.changesOnly t (Footprint.request.plus [Reg.keepRewrites, Reg.keepEccCorrected, Reg.setCopy, Reg.setGeneration]
        [.keep, .draws])) ∧
    (s.allows (.lexFormat p) = true → exec (.lexFormat p) s = .next (s.after
      ((u.applySet []).emit (.lexAnswer p 0 [])))) ∧
    (s.allows (.reload p) = true → s.get Reg.setCopy ≠ 0 → s.get Reg.setCopy ≠ 1 → exec (.reload p) s = .next (s.after
      ((u.keepRead.applySet []).emit (.lexAnswer p 0 [])))) ∧
    (∀ copy plain v, s.allows (.reload p) = true → u.copyInUse = some copy →
      plain = copy.entries.filter (fun e => !(ownEntry e)) →
      v = u.keepRead.set Reg.setSkipped 0 (plain.filter (fun e => (entryTarget e).isNone)).length →
      exec (.reload p) s = .next (s.after ((v.applySet (plain.filterMap entryTarget)).emit (.lexAnswer p 0 []))))

/-- LEXICON_READ and LEXICON_WRITE (R453, R460, R461): before the cut a port that is not busy takes a REQUEST, whose result is
its STATUS, SIZE and DATA, with 0x0F8 where NOTIFY asks; while it is BUSY the request is counted and dropped, and a LENGTH
that is 0 or above 2,048 ends it with TYPE. SEGMENT_LAPSE (R455): a segmented write without a further segment for 1 s is
abandoned. -/
def Obligations.PortsServeRequests : Prop :=
  ∀ (i : Fin 256) (notify last : Bool) (index row off len : Nat) (b : List Byte) (c : Instr) (n : Nat) (s v : State),
    ((c = .lexiconRead i notify index row off len ∧ n = len) ∨
      (c = .lexiconWrite i notify last index row off b ∧ n = b.length)) → s.clock.powered = true →
    (s.cutPassed = true → exec c s = .next (s.after s)) ∧
    (s.cutPassed = false → s.lexOn i = false ∨ (i.val ≠ 0 ∧ s.security.recovery = true) →
      exec c s = .next (s.after (s.unsupported i 0 8 true))) ∧
    (s.cutPassed = false → s.lexOn i = true → i.val = 0 ∨ s.security.recovery = false → s.host.posted = [] →
      ((s.lexPort i).busy = true → exec c s = .next (s.after (s.bump Reg.lexPortCollisions i))) ∧
      ((s.lexPort i).busy = false → n = 0 ∨ 2048 < n → ∃ t, exec c s = .next t ∧
        (t.lexPort i).busy = false ∧ (t.lexPort i).abort = 6 ∧ (t.lexPort i).length = 0 ∧ (t.lexPort i).size = 0 ∧
        (t.lexPort i).data = (s.lexPort i).data ∧ (t.lexPort i).count = ((s.lexPort i).count + 1) % 65536 ∧
        s.changesOnly t (Footprint.event.plus [] [.lexicon])) ∧
      (v = ((s.withdraw i 0x0F8).putLexPort i { s.lexPort i with
          busy := true, notify := notify, serial := (s.lexPort i).serial + 1 }).countRequest →
        (s.lexPort i).busy = false → 1 ≤ n → n ≤ 2048 →
        (∀ a, c = .lexiconRead i notify index row off len → v.target ⟨portPath i, index, row, false⟩ false = .refused a →
          ∃ t, exec c s = .next t ∧ (t.lexPort i).busy = false ∧ (t.lexPort i).abort = a.code ∧
            (t.lexPort i).length = 0 ∧ (t.lexPort i).data = (s.lexPort i).data ∧
            s.changesOnly t (Footprint.request.plus [] [.lexicon])) ∧
        (∀ o j value, c = .lexiconRead i notify index row off len →
          v.target ⟨portPath i, index, row, false⟩ false = .place o j → o.reg ≠ Reg.attestReport →
          o.reg ≠ Reg.debugChallenge → value = v.bytesOf o j →
          ∃ t, exec c s = .next t ∧ (t.lexPort i).busy = false ∧
            (off < value.length → (t.lexPort i).abort = 0 ∧ (t.lexPort i).size = value.length ∧
              (t.lexPort i).data = (value.drop off).take len ++
                (s.lexPort i).data.drop ((value.drop off).take len).length) ∧
            (value.length ≤ off → (t.lexPort i).abort = 7) ∧
            s.changesOnly t (Footprint.request.plus [] [.lexicon])) ∧
        (∀ z, z = (s.withdraw i 0x0F8).putLexPort i { s.lexPort i with
              busy := true, notify := notify, serial := (s.lexPort i).serial + 1,
              request := requestWord 2 notify last n index / 2 ^ 48 * 2 ^ 48 + requestWord 2 notify last n index % 2 ^ 28,
              row := rowWord row off, data := b ++ (s.lexPort i).data.drop n } →
          c = .lexiconWrite i notify last index row off b → exec c s = .next (s.after
          (State.settle (z.countRequest.segment
            (.host i) ⟨portPath i, index, row, false⟩ (.port i notify ((s.lexPort i).serial + 1)) off last b)
            (.port i notify ((s.lexPort i).serial + 1))).runConfig)))) ∧
    (∀ port t, s.transferOf port = some t → s.due (128 * t.cyc + 250000000) = true →
      ∃ w, exec (.segmentLapse port) s = .next w ∧
        w.lexicon.transfers = s.lexicon.transfers.filter (fun t => t.port != port) ∧
        s.changesOnly w (Footprint.none.plus [Reg.fieldSegLapsed] [.lexicon])) ∧
    (∀ port, (s.transferOf port = none ∨ ∃ t, s.transferOf port = some t ∧ s.due (128 * t.cyc + 250000000) = false) →
      exec (.segmentLapse port) s = .next (s.after s))

/-- CLEZEL_READ and CLEZEL_WRITE (R465 to R467): a frame for another node is not received; a broadcast, or one without a source,
is counted and ignored; a repeat of the request whose RESPONSE is kept gets that RESPONSE again within 1 s, and a repeat of
one in progress nothing. Any other is kept and executed: a data field too short, and any request from the cut on, is
answered at once. HEARTBEAT (R468) leaves every FIELD_HEARTBEAT ms. CAN_BUS_OFF and BUS_OFF_RECOVERY (R462) move CAN_STATE. -/
def Obligations.TheFieldPortAnswers : Prop :=
  ∀ s : State, s.clock.powered = true →
    (∀ (c : Instr) (w : Bool) (prio : Fin 8) (dest src : Fin 128) (seq : Fin 256) (b : List Byte) (u v : State) (key me : Nat),
      ((c = .clezelRead prio dest src seq b ∧ w = false) ∨ (c = .clezelWrite prio dest src seq b ∧ w = true)) →
      me = s.get Reg.fieldNodeId → key = src.val * 256 + seq.val → u = (s.bump Reg.fieldFramesRx).wake 8 →
      v = u.modLexicon (fun l => { l with kept := Tbl.put l.kept key ⟨seq, b2n w, b, 0, [], s.clauseNow, true⟩ }) →
      (s.get Reg.fieldAccess = 0 ∨ s.get Reg.canState = 2 ∨ (dest.val ≠ 0 ∧ dest.val ≠ me) →
        exec c s = .next (s.after s)) ∧
      (s.get Reg.fieldAccess ≠ 0 → s.get Reg.canState ≠ 2 →
        (dest.val = 0 → exec c s = .next (s.after ((s.bump Reg.fieldFramesRx).bump Reg.fieldIgnored))) ∧
        (dest.val ≠ 0 → dest.val = me →
          (src.val = 0 → exec c s = .next (s.after (u.bump Reg.fieldIgnored))) ∧
          (src.val ≠ 0 →
            (∀ k, Tbl.find s.lexicon.kept key = some k → k.fn = b2n w → k.request = b →
              (k.pending = true → exec c s = .next (s.after (u.bump Reg.fieldDuplicates))) ∧
              (k.pending = false → s.clauseNow < k.cyc + 1953125 → exec c s = .next (s.after
                ((((u.bump Reg.fieldDuplicates).emit (.frame k.id (canPad k.response)))).bump Reg.fieldFramesTx)))) ∧
            ((∀ k, Tbl.find s.lexicon.kept key = some k → k.fn ≠ b2n w ∨ k.request ≠ b ∨
                (k.pending = false ∧ k.cyc + 1953125 ≤ s.clauseNow)) →
              exec c s = .next (s.after (v.frameRuns w prio src seq src b)) ∧
              (∀ n, b.length < (if w then 16 else 12) → n = (if s.cutPassed then 8 else 6) → s.fieldSends = true →
                ∃ t, exec c s = .next t ∧ t.outbox.getLast? = some (.frame (clezelId prio 3 src me seq)
                    (canPad (responseData n true (field b 8 4) 0 []))) ∧
                  s.changesOnly t (Footprint.request.plus [Reg.fieldFramesRx, Reg.lexAborts] [.lexicon]))))))) ∧
    (s.security.recovery = false → s.get Reg.fieldHeartbeat ≠ 0 → s.fieldSends = true →
      s.due (s.lexicon.heartbeatAt + msCycles (s.get Reg.fieldHeartbeat)) = true → exec .heartbeat s = .next (s.after
        ((s.modLexicon (fun l => { l with heartbeatAt := s.now })).sendFrame 6 8 0 s.heartbeatData))) ∧
    (s.security.recovery = true ∨ s.get Reg.fieldHeartbeat = 0 ∨ s.fieldSends = false ∨
        s.due (s.lexicon.heartbeatAt + msCycles (s.get Reg.fieldHeartbeat)) = false →
      exec .heartbeat s = .next (s.after s)) ∧
    (s.get Reg.fieldAccess = 0 ∨ s.get Reg.canState = 2 → exec .canBusOff s = .next (s.after s)) ∧
    (s.get Reg.fieldAccess ≠ 0 → s.get Reg.canState ≠ 2 → ∃ t, exec .canBusOff s = .next t ∧ t.get Reg.canState = 2 ∧
      t.get Reg.canBusOffs = (s.bump Reg.canBusOffs).get Reg.canBusOffs ∧
      s.changesOnly t (Footprint.event.plus [Reg.canState, Reg.canBusOffs] [])) ∧
    (s.get Reg.canState ≠ 2 → exec .busOffRecovery s = .next (s.after s)) ∧
    (s.get Reg.canState = 2 → exec .busOffRecovery s = .next (s.after
      ((s.set Reg.canState 0 0).withdrawUnit 0 0x0F9 1)))
end

