-- ==== Sys2Proof/Laws/Dispatch.lean ====
section
/-!
SUPPORT. `exec` of each command is its meaning.
-/
namespace Sys2Proof.Machine

variable (s : State)

@[simp] theorem exec_clauseBoundary : ∀ cycles, exec (.clauseBoundary cycles) s = Sys2Proof.Machine.execClauseBoundary cycles s :=
  fun _ => rfl
@[simp] theorem exec_timebaseLockLoss : exec (.timebaseLockLoss) s = Sys2Proof.Machine.execTimebaseLockLoss s :=
  rfl
@[simp] theorem exec_timebaseRelock : ∀ steady, exec (.timebaseRelock steady) s = Sys2Proof.Machine.execTimebaseRelock steady s :=
  fun _ => rfl
@[simp] theorem exec_refclkLoss : ∀ ref, exec (.refclkLoss ref) s = Sys2Proof.Machine.execRefclkLoss ref s :=
  fun _ => rfl
@[simp] theorem exec_powerOnReset : ∀ bootSel perstHigh, exec (.powerOnReset bootSel perstHigh) s = Sys2Proof.Machine.execPowerOnReset bootSel perstHigh s :=
  fun _ _ => rfl
@[simp] theorem exec_porNAssert : exec (.porNAssert) s = Sys2Proof.Machine.execPorNAssert s :=
  rfl
@[simp] theorem exec_perstNAssert : exec (.perstNAssert) s = Sys2Proof.Machine.execPerstNAssert s :=
  rfl
@[simp] theorem exec_hotReset : ∀ dlDown, exec (.hotReset dlDown) s = Sys2Proof.Machine.execHotReset dlDown s :=
  fun _ => rfl
@[simp] theorem exec_pfailNInput : ∀ high cyc, exec (.pfailNInput high cyc) s = Sys2Proof.Machine.execPfailNInput high cyc s :=
  fun _ _ => rfl
@[simp] theorem exec_powerFailDetect : ∀ vsense cyc, exec (.powerFailDetect vsense cyc) s = Sys2Proof.Machine.execPowerFailDetect vsense cyc s :=
  fun _ _ => rfl
@[simp] theorem exec_cut : exec (.cut) s = Sys2Proof.Machine.execCut s :=
  rfl
@[simp] theorem exec_saveResend : ∀ c, exec (.saveResend c) s = Sys2Proof.Machine.execSaveResend c s :=
  fun _ => rfl
@[simp] theorem exec_warmRestart : ∀ bootSel, exec (.warmRestart bootSel) s = Sys2Proof.Machine.execWarmRestart bootSel s :=
  fun _ => rfl
@[simp] theorem exec_format : ∀ p, exec (.format p) s = Sys2Proof.Machine.execFormat p s :=
  fun _ => rfl
@[simp] theorem exec_commit : ∀ p, exec (.commit p) s = Sys2Proof.Machine.execCommit p s :=
  fun _ => rfl
@[simp] theorem exec_retry : ∀ p, exec (.retry p) s = Sys2Proof.Machine.execRetry p s :=
  fun _ => rfl
@[simp] theorem exec_abandon : ∀ p, exec (.abandon p) s = Sys2Proof.Machine.execAbandon p s :=
  fun _ => rfl
@[simp] theorem exec_semicolon : ∀ p, exec (.semicolon p) s = Sys2Proof.Machine.execSemicolon p s :=
  fun _ => rfl
@[simp] theorem exec_semicolonIntervalElapsed : exec (.semicolonIntervalElapsed) s = Sys2Proof.Machine.execSemicolonIntervalElapsed s :=
  rfl
@[simp] theorem exec_semicolonStart : exec (.semicolonStart) s = Sys2Proof.Machine.execSemicolonStart s :=
  rfl
@[simp] theorem exec_ckptStatus : ∀ c l done error epoch count front, exec (.ckptStatus c l done error epoch count front) s = Sys2Proof.Machine.execCkptStatus c l done error epoch count front s :=
  fun _ _ _ _ _ _ _ => rfl
@[simp] theorem exec_ckptStatusTimeout : ∀ c, exec (.ckptStatusTimeout c) s = Sys2Proof.Machine.execCkptStatusTimeout c s :=
  fun _ => rfl
@[simp] theorem exec_stuckCkptResend : ∀ c, exec (.stuckCkptResend c) s = Sys2Proof.Machine.execStuckCkptResend c s :=
  fun _ => rfl
@[simp] theorem exec_sealComplete : ∀ corrected rewrites failed, exec (.sealComplete corrected rewrites failed) s = Sys2Proof.Machine.execSealComplete corrected rewrites failed s :=
  fun _ _ _ => rfl
@[simp] theorem exec_holdupReport : ∀ c l energy rate cost, exec (.holdupReport c l energy rate cost) s = Sys2Proof.Machine.execHoldupReport c l energy rate cost s :=
  fun _ _ _ _ _ => rfl
@[simp] theorem exec_holdupStale : ∀ c, exec (.holdupStale c) s = Sys2Proof.Machine.execHoldupStale c s :=
  fun _ => rfl
@[simp] theorem exec_governorAdmit : exec (.governorAdmit) s = Sys2Proof.Machine.execGovernorAdmit s :=
  rfl
@[simp] theorem exec_carrierWaitExpiry : exec (.carrierWaitExpiry) s = Sys2Proof.Machine.execCarrierWaitExpiry s :=
  rfl
@[simp] theorem exec_readyTimeout : ∀ c, exec (.readyTimeout c) s = Sys2Proof.Machine.execReadyTimeout c s :=
  fun _ => rfl
@[simp] theorem exec_restoreStatus : ∀ c l ready touch sweep done error epoch val, exec (.restoreStatus c l ready touch sweep done error epoch val) s = Sys2Proof.Machine.execRestoreStatus c l ready touch sweep done error epoch val s :=
  fun _ _ _ _ _ _ _ _ _ => rfl
@[simp] theorem exec_touchTimeout : ∀ id, exec (.touchTimeout id) s = Sys2Proof.Machine.execTouchTimeout id s :=
  fun _ => rfl
@[simp] theorem exec_hostRead : ∀ inst a len tag, exec (.hostRead inst a len tag) s = Sys2Proof.Machine.execHostRead inst a len tag s :=
  fun _ _ _ _ => rfl
@[simp] theorem exec_hostWrite : ∀ inst a data ep eccBad, exec (.hostWrite inst a data ep eccBad) s = Sys2Proof.Machine.execHostWrite inst a data ep eccBad s :=
  fun _ _ _ _ _ => rfl
@[simp] theorem exec_malformedRequest : ∀ k inst posted tag, exec (.malformedRequest k inst posted tag) s = Sys2Proof.Machine.execMalformedRequest k inst posted tag s :=
  fun _ _ _ _ => rfl
@[simp] theorem exec_hostCompletion : ∀ tag data, exec (.hostCompletion tag data) s = Sys2Proof.Machine.execHostCompletion tag data s :=
  fun _ _ => rfl
@[simp] theorem exec_hostCompletionTimeout : ∀ tag k, exec (.hostCompletionTimeout tag k) s = Sys2Proof.Machine.execHostCompletionTimeout tag k s :=
  fun _ _ => rfl
@[simp] theorem exec_vfEnableSet : ∀ mse, exec (.vfEnableSet mse) s = Sys2Proof.Machine.execVfEnableSet mse s :=
  fun _ => rfl
@[simp] theorem exec_vfEnableClear : exec (.vfEnableClear) s = Sys2Proof.Machine.execVfEnableClear s :=
  rfl
@[simp] theorem exec_numvfsWrite : ∀ n, exec (.numvfsWrite n) s = Sys2Proof.Machine.execNumvfsWrite n s :=
  fun _ => rfl
@[simp] theorem exec_pfFlr : exec (.pfFlr) s = Sys2Proof.Machine.execPfFlr s :=
  rfl
@[simp] theorem exec_vfFlr : ∀ inst, exec (.vfFlr inst) s = Sys2Proof.Machine.execVfFlr inst s :=
  fun _ => rfl
@[simp] theorem exec_barResize : ∀ vf enc decode, exec (.barResize vf enc decode) s = Sys2Proof.Machine.execBarResize vf enc decode s :=
  fun _ _ _ => rfl
@[simp] theorem exec_pfD3hotEntry : ∀ pmeEn, exec (.pfD3hotEntry pmeEn) s = Sys2Proof.Machine.execPfD3hotEntry pmeEn s :=
  fun _ => rfl
@[simp] theorem exec_pfD0Return : exec (.pfD0Return) s = Sys2Proof.Machine.execPfD0Return s :=
  rfl
@[simp] theorem exec_msixMask : ∀ inst what, exec (.msixMask inst what) s = Sys2Proof.Machine.execMsixMask inst what s :=
  fun _ _ => rfl
@[simp] theorem exec_msixUnmask : ∀ inst what, exec (.msixUnmask inst what) s = Sys2Proof.Machine.execMsixUnmask inst what s :=
  fun _ _ => rfl
@[simp] theorem exec_busMasterChange : ∀ inst on, exec (.busMasterChange inst on) s = Sys2Proof.Machine.execBusMasterChange inst on s :=
  fun _ _ => rfl
@[simp] theorem exec_appendPublish : ∀ inst off len allBytes value, exec (.appendPublish inst off len allBytes value) s = Sys2Proof.Machine.execAppendPublish inst off len allBytes value s :=
  fun _ _ _ _ _ => rfl
@[simp] theorem exec_appendTrim : ∀ inst off len allBytes value, exec (.appendTrim inst off len allBytes value) s = Sys2Proof.Machine.execAppendTrim inst off len allBytes value s :=
  fun _ _ _ _ _ => rfl
@[simp] theorem exec_pendingEntryFree : exec (.pendingEntryFree) s = Sys2Proof.Machine.execPendingEntryFree s :=
  rfl
@[simp] theorem exec_appendCoalTimeout : ∀ n, exec (.appendCoalTimeout n) s = Sys2Proof.Machine.execAppendCoalTimeout n s :=
  fun _ => rfl
@[simp] theorem exec_ctxOpen : ∀ p n, exec (.ctxOpen p n) s = Sys2Proof.Machine.execCtxOpen p n s :=
  fun _ _ => rfl
@[simp] theorem exec_ctxClose : ∀ p n, exec (.ctxClose p n) s = Sys2Proof.Machine.execCtxClose p n s :=
  fun _ _ => rfl
@[simp] theorem exec_ctxAbort : ∀ p n, exec (.ctxAbort p n) s = Sys2Proof.Machine.execCtxAbort p n s :=
  fun _ _ => rfl
@[simp] theorem exec_ctxResume : ∀ p n, exec (.ctxResume p n) s = Sys2Proof.Machine.execCtxResume p n s :=
  fun _ _ => rfl
@[simp] theorem exec_dwordEnable : ∀ p inst on, exec (.dwordEnable p inst on) s = Sys2Proof.Machine.execDwordEnable p inst on s :=
  fun _ _ _ => rfl
@[simp] theorem exec_pair : ∀ p, exec (.pair p) s = Sys2Proof.Machine.execPair p s :=
  fun _ => rfl
@[simp] theorem exec_unpair : ∀ p, exec (.unpair p) s = Sys2Proof.Machine.execUnpair p s :=
  fun _ => rfl
@[simp] theorem exec_takeover : ∀ p, exec (.takeover p) s = Sys2Proof.Machine.execTakeover p s :=
  fun _ => rfl
@[simp] theorem exec_handover : ∀ p r, exec (.handover p r) s = Sys2Proof.Machine.execHandover p r s :=
  fun _ _ => rfl
@[simp] theorem exec_handoverTimeout : exec (.handoverTimeout) s = Sys2Proof.Machine.execHandoverTimeout s :=
  rfl
@[simp] theorem exec_forceTakeover : ∀ p r, exec (.forceTakeover p r) s = Sys2Proof.Machine.execForceTakeover p r s :=
  fun _ _ => rfl
@[simp] theorem exec_adoptPartner : ∀ p r, exec (.adoptPartner p r) s = Sys2Proof.Machine.execAdoptPartner p r s :=
  fun _ _ => rfl
@[simp] theorem exec_mcopy : ∀ pl resend seq ia data, exec (.mcopy pl resend seq ia data) s = Sys2Proof.Machine.execMcopy pl resend seq ia data s :=
  fun _ _ _ _ _ => rfl
@[simp] theorem exec_mack : ∀ pl seq, exec (.mack pl seq) s = Sys2Proof.Machine.execMack pl seq s :=
  fun _ _ => rfl
@[simp] theorem exec_mnak : ∀ pl reason seq ia, exec (.mnak pl reason seq ia) s = Sys2Proof.Machine.execMnak pl reason seq ia s :=
  fun _ _ _ _ => rfl
@[simp] theorem exec_rcopy : ∀ pl last seq ia data, exec (.rcopy pl last seq ia data) s = Sys2Proof.Machine.execRcopy pl last seq ia data s :=
  fun _ _ _ _ _ => rfl
@[simp] theorem exec_rack : ∀ pl seq, exec (.rack pl seq) s = Sys2Proof.Machine.execRack pl seq s :=
  fun _ _ => rfl
@[simp] theorem exec_pairHello : ∀ pl body, exec (.pairHello pl body) s = Sys2Proof.Machine.execPairHello pl body s :=
  fun _ _ => rfl
@[simp] theorem exec_mstate : ∀ pl confirm row generation owner, exec (.mstate pl confirm row generation owner) s = Sys2Proof.Machine.execMstate pl confirm row generation owner s :=
  fun _ _ _ _ _ => rfl
@[simp] theorem exec_cutNotice : ∀ pl epoch, exec (.cutNotice pl epoch) s = Sys2Proof.Machine.execCutNotice pl epoch s :=
  fun _ _ => rfl
@[simp] theorem exec_rmap : ∀ pl first block, exec (.rmap pl first block) s = Sys2Proof.Machine.execRmap pl first block s :=
  fun _ _ _ => rfl
@[simp] theorem exec_holdNotice : ∀ pl entering, exec (.holdNotice pl entering) s = Sys2Proof.Machine.execHoldNotice pl entering s :=
  fun _ _ => rfl
@[simp] theorem exec_rangeDesc : ∀ pl row base segments, exec (.rangeDesc pl row base segments) s = Sys2Proof.Machine.execRangeDesc pl row base segments s :=
  fun _ _ _ _ => rfl
@[simp] theorem exec_mirrorAckTimeout : exec (.mirrorAckTimeout) s = Sys2Proof.Machine.execMirrorAckTimeout s :=
  rfl
@[simp] theorem exec_splitDeclared : exec (.splitDeclared) s = Sys2Proof.Machine.execSplitDeclared s :=
  rfl
@[simp] theorem exec_leaseRequestDue : exec (.leaseRequestDue) s = Sys2Proof.Machine.execLeaseRequestDue s :=
  rfl
@[simp] theorem exec_leaseGrant : ∀ side pairId req result term, exec (.leaseGrant side pairId req result term) s = Sys2Proof.Machine.execLeaseGrant side pairId req result term s :=
  fun _ _ _ _ _ => rfl
@[simp] theorem exec_takeoverGrant : ∀ side pairId req result, exec (.takeoverGrant side pairId req result) s = Sys2Proof.Machine.execTakeoverGrant side pairId req result s :=
  fun _ _ _ _ => rfl
@[simp] theorem exec_leaseLapse : exec (.leaseLapse) s = Sys2Proof.Machine.execLeaseLapse s :=
  rfl
@[simp] theorem exec_leaseNoGrant : exec (.leaseNoGrant) s = Sys2Proof.Machine.execLeaseNoGrant s :=
  rfl
@[simp] theorem exec_takeoverRetry : exec (.takeoverRetry) s = Sys2Proof.Machine.execTakeoverRetry s :=
  rfl
@[simp] theorem exec_witnessNodeWrite : ∀ p node, exec (.witnessNodeWrite p node) s = Sys2Proof.Machine.execWitnessNodeWrite p node s :=
  fun _ _ => rfl
@[simp] theorem exec_extentCommit : ∀ p row record, exec (.extentCommit p row record) s = Sys2Proof.Machine.execExtentCommit p row record s :=
  fun _ _ _ => rfl
@[simp] theorem exec_extentWithdraw : ∀ p row, exec (.extentWithdraw p row) s = Sys2Proof.Machine.execExtentWithdraw p row s :=
  fun _ _ => rfl
@[simp] theorem exec_instReset : ∀ p inst, exec (.instReset p inst) s = Sys2Proof.Machine.execInstReset p inst s :=
  fun _ _ => rfl
@[simp] theorem exec_instResetDrain : ∀ p inst, exec (.instResetDrain p inst) s = Sys2Proof.Machine.execInstResetDrain p inst s :=
  fun _ _ => rfl
@[simp] theorem exec_instResetSquash : ∀ p inst, exec (.instResetSquash p inst) s = Sys2Proof.Machine.execInstResetSquash p inst s :=
  fun _ _ => rfl
@[simp] theorem exec_resetBegin : ∀ inst, exec (.resetBegin inst) s = Sys2Proof.Machine.execResetBegin inst s :=
  fun _ => rfl
@[simp] theorem exec_drainEscalation : ∀ inst, exec (.drainEscalation inst) s = Sys2Proof.Machine.execDrainEscalation inst s :=
  fun _ => rfl
@[simp] theorem exec_resetComplete : ∀ inst, exec (.resetComplete inst) s = Sys2Proof.Machine.execResetComplete inst s :=
  fun _ => rfl
@[simp] theorem exec_schedulerGrant : ∀ g, exec (.schedulerGrant g) s = Sys2Proof.Machine.execSchedulerGrant g s :=
  fun _ => rfl
@[simp] theorem exec_redHoldExpiry : ∀ port svc inst, exec (.redHoldExpiry port svc inst) s = Sys2Proof.Machine.execRedHoldExpiry port svc inst s :=
  fun _ _ _ => rfl
@[simp] theorem exec_gateCommit : ∀ p port, exec (.gateCommit p port) s = Sys2Proof.Machine.execGateCommit p port s :=
  fun _ _ => rfl
@[simp] theorem exec_sample : ∀ j, exec (.sample j) s = Sys2Proof.Machine.execSample j s :=
  fun _ => rfl
@[simp] theorem exec_queueDoorbell : ∀ inst j size value, exec (.queueDoorbell inst j size value) s = Sys2Proof.Machine.execQueueDoorbell inst j size value s :=
  fun _ _ _ _ => rfl
@[simp] theorem exec_queueEnable : ∀ p j, exec (.queueEnable p j) s = Sys2Proof.Machine.execQueueEnable p j s :=
  fun _ _ => rfl
@[simp] theorem exec_queueDisable : ∀ p j, exec (.queueDisable p j) s = Sys2Proof.Machine.execQueueDisable p j s :=
  fun _ _ => rfl
@[simp] theorem exec_queueCoalTimeout : ∀ j, exec (.queueCoalTimeout j) s = Sys2Proof.Machine.execQueueCoalTimeout j s :=
  fun _ => rfl
@[simp] theorem exec_claim : ∀ inst size, exec (.claim inst size) s = Sys2Proof.Machine.execClaim inst size s :=
  fun _ _ => rfl
@[simp] theorem exec_complete : ∀ inst size value, exec (.complete inst size value) s = Sys2Proof.Machine.execComplete inst size value s :=
  fun _ _ _ => rfl
@[simp] theorem exec_selfHoldWrite : ∀ inst value, exec (.selfHoldWrite inst value) s = Sys2Proof.Machine.execSelfHoldWrite inst value s :=
  fun _ _ => rfl
@[simp] theorem exec_holdPfWrite : ∀ p inst on, exec (.holdPfWrite p inst on) s = Sys2Proof.Machine.execHoldPfWrite p inst on s :=
  fun _ _ _ => rfl
@[simp] theorem exec_inflightExpiry : ∀ inst vec, exec (.inflightExpiry inst vec) s = Sys2Proof.Machine.execInflightExpiry inst vec s :=
  fun _ _ => rfl
@[simp] theorem exec_wakeLatch : ∀ src, exec (.wakeLatch src) s = Sys2Proof.Machine.execWakeLatch src s :=
  fun _ => rfl
@[simp] theorem exec_wakeStatusClear : ∀ p value, exec (.wakeStatusClear p value) s = Sys2Proof.Machine.execWakeStatusClear p value s :=
  fun _ _ => rfl
@[simp] theorem exec_wakeTimerExpiry : exec (.wakeTimerExpiry) s = Sys2Proof.Machine.execWakeTimerExpiry s :=
  rfl
@[simp] theorem exec_gpioInput : ∀ n level, exec (.gpioInput n level) s = Sys2Proof.Machine.execGpioInput n level s :=
  fun _ _ => rfl
@[simp] theorem exec_dmaDoorbell : ∀ inst j size value, exec (.dmaDoorbell inst j size value) s = Sys2Proof.Machine.execDmaDoorbell inst j size value s :=
  fun _ _ _ _ => rfl
@[simp] theorem exec_dmaEnable : ∀ v, exec (.dmaEnable v) s = Sys2Proof.Machine.execDmaEnable v s :=
  fun _ => rfl
@[simp] theorem exec_dmaDisable : ∀ v, exec (.dmaDisable v) s = Sys2Proof.Machine.execDmaDisable v s :=
  fun _ => rfl
@[simp] theorem exec_dmaResume : ∀ v, exec (.dmaResume v) s = Sys2Proof.Machine.execDmaResume v s :=
  fun _ => rfl
@[simp] theorem exec_dmaSkip : ∀ v, exec (.dmaSkip v) s = Sys2Proof.Machine.execDmaSkip v s :=
  fun _ => rfl
@[simp] theorem exec_dmaAbort : ∀ v, exec (.dmaAbort v) s = Sys2Proof.Machine.execDmaAbort v s :=
  fun _ => rfl
@[simp] theorem exec_softPulse : ∀ inst j value, exec (.softPulse inst j value) s = Sys2Proof.Machine.execSoftPulse inst j value s :=
  fun _ _ _ => rfl
@[simp] theorem exec_shadowWrite : ∀ v ctrl value, exec (.shadowWrite v ctrl value) s = Sys2Proof.Machine.execShadowWrite v ctrl value s :=
  fun _ _ _ => rfl
@[simp] theorem exec_eventFabricPulse : ∀ line, exec (.eventFabricPulse line) s = Sys2Proof.Machine.execEventFabricPulse line s :=
  fun _ => rfl
@[simp] theorem exec_dmaBurstIssue : exec (.dmaBurstIssue) s = Sys2Proof.Machine.execDmaBurstIssue s :=
  rfl
@[simp] theorem exec_carrierCpl : ∀ c l tag poison data, exec (.carrierCpl c l tag poison data) s = Sys2Proof.Machine.execCarrierCpl c l tag poison data s :=
  fun _ _ _ _ _ => rfl
@[simp] theorem exec_carrierAck : ∀ c l tag bitmap, exec (.carrierAck c l tag bitmap) s = Sys2Proof.Machine.execCarrierAck c l tag bitmap s :=
  fun _ _ _ _ => rfl
@[simp] theorem exec_controlAck : ∀ c l op epoch, exec (.controlAck c l op epoch) s = Sys2Proof.Machine.execControlAck c l op epoch s :=
  fun _ _ _ _ => rfl
@[simp] theorem exec_carrierNak : ∀ c l tag reason, exec (.carrierNak c l tag reason) s = Sys2Proof.Machine.execCarrierNak c l tag reason s :=
  fun _ _ _ _ => rfl
@[simp] theorem exec_retryRound : ∀ c seg, exec (.retryRound c seg) s = Sys2Proof.Machine.execRetryRound c seg s :=
  fun _ _ => rfl
@[simp] theorem exec_tagTimeout : ∀ c l, exec (.tagTimeout c l) s = Sys2Proof.Machine.execTagTimeout c l s :=
  fun _ _ => rfl
@[simp] theorem exec_ident : ∀ c l body, exec (.ident c l body) s = Sys2Proof.Machine.execIdent c l body s :=
  fun _ _ _ => rfl
@[simp] theorem exec_health : ∀ c l urgent body, exec (.health c l urgent body) s = Sys2Proof.Machine.execHealth c l urgent body s :=
  fun _ _ _ _ => rfl
@[simp] theorem exec_healthStale : ∀ c, exec (.healthStale c) s = Sys2Proof.Machine.execHealthStale c s :=
  fun _ => rfl
@[simp] theorem exec_wakeResend : ∀ c, exec (.wakeResend c) s = Sys2Proof.Machine.execWakeResend c s :=
  fun _ => rfl
@[simp] theorem exec_wakeTimeout : ∀ c, exec (.wakeTimeout c) s = Sys2Proof.Machine.execWakeTimeout c s :=
  fun _ => rfl
@[simp] theorem exec_fuReceive : ∀ u fu codeError, exec (.fuReceive u fu codeError) s = Sys2Proof.Machine.execFuReceive u fu codeError s :=
  fun _ _ _ => rfl
@[simp] theorem exec_nakFu : ∀ u fu codeError, exec (.nakFu u fu codeError) s = Sys2Proof.Machine.execNakFu u fu codeError s :=
  fun _ _ _ => rfl
@[simp] theorem exec_replayMarker : ∀ u m, exec (.replayMarker u m) s = Sys2Proof.Machine.execReplayMarker u m s :=
  fun _ _ => rfl
@[simp] theorem exec_nakRepeat : ∀ u, exec (.nakRepeat u) s = Sys2Proof.Machine.execNakRepeat u s :=
  fun _ => rfl
@[simp] theorem exec_ackTimeout : ∀ u, exec (.ackTimeout u) s = Sys2Proof.Machine.execAckTimeout u s :=
  fun _ => rfl
@[simp] theorem exec_creditTimeout : ∀ u vc, exec (.creditTimeout u vc) s = Sys2Proof.Machine.execCreditTimeout u vc s :=
  fun _ _ => rfl
@[simp] theorem exec_init : ∀ u role vcs idx token version, exec (.init u role vcs idx token version) s = Sys2Proof.Machine.execInit u role vcs idx token version s :=
  fun _ _ _ _ _ _ => rfl
@[simp] theorem exec_initEcho : ∀ u token cyc, exec (.initEcho u token cyc) s = Sys2Proof.Machine.execInitEcho u token cyc s :=
  fun _ _ _ => rfl
@[simp] theorem exec_initTimeout : ∀ u, exec (.initTimeout u) s = Sys2Proof.Machine.execInitTimeout u s :=
  fun _ => rfl
@[simp] theorem exec_pauseStart : ∀ u reason width rate, exec (.pauseStart u reason width rate) s = Sys2Proof.Machine.execPauseStart u reason width rate s :=
  fun _ _ _ _ => rfl
@[simp] theorem exec_pauseReq : ∀ u reason width rate, exec (.pauseReq u reason width rate) s = Sys2Proof.Machine.execPauseReq u reason width rate s :=
  fun _ _ _ _ => rfl
@[simp] theorem exec_pauseAck : ∀ u, exec (.pauseAck u) s = Sys2Proof.Machine.execPauseAck u s :=
  fun _ => rfl
@[simp] theorem exec_resume : ∀ u e onOff token width rate, exec (.resume u e onOff token width rate) s = Sys2Proof.Machine.execResume u e onOff token width rate s :=
  fun _ _ _ _ _ _ => rfl
@[simp] theorem exec_resumeEcho : ∀ u token cyc, exec (.resumeEcho u token cyc) s = Sys2Proof.Machine.execResumeEcho u token cyc s :=
  fun _ _ _ => rfl
@[simp] theorem exec_downSet : ∀ u cause, exec (.downSet u cause) s = Sys2Proof.Machine.execDownSet u cause s :=
  fun _ _ => rfl
@[simp] theorem exec_pauseLimitExpiry : ∀ u, exec (.pauseLimitExpiry u) s = Sys2Proof.Machine.execPauseLimitExpiry u s :=
  fun _ => rfl
@[simp] theorem exec_laneLockLoss : ∀ lane los lol cyc, exec (.laneLockLoss lane los lol cyc) s = Sys2Proof.Machine.execLaneLockLoss lane los lol cyc s :=
  fun _ _ _ _ => rfl
@[simp] theorem exec_lanesReady : ∀ u, exec (.lanesReady u) s = Sys2Proof.Machine.execLanesReady u s :=
  fun _ => rfl
@[simp] theorem exec_linkDownTimeExpiry : ∀ u, exec (.linkDownTimeExpiry u) s = Sys2Proof.Machine.execLinkDownTimeExpiry u s :=
  fun _ => rfl
@[simp] theorem exec_retrain : ∀ p u, exec (.retrain p u) s = Sys2Proof.Machine.execRetrain p u s :=
  fun _ _ => rfl
@[simp] theorem exec_linkCommandDown : ∀ p u, exec (.linkCommandDown p u) s = Sys2Proof.Machine.execLinkCommandDown p u s :=
  fun _ _ => rfl
@[simp] theorem exec_linkEnableWrite : ∀ p u on, exec (.linkEnableWrite p u on) s = Sys2Proof.Machine.execLinkEnableWrite p u on s :=
  fun _ _ _ => rfl
@[simp] theorem exec_trainingStart : ∀ u, exec (.trainingStart u) s = Sys2Proof.Machine.execTrainingStart u s :=
  fun _ => rfl
@[simp] theorem exec_tsCap : ∀ lane rates laneNo numbering mask eqFull, exec (.tsCap lane rates laneNo numbering mask eqFull) s = Sys2Proof.Machine.execTsCap lane rates laneNo numbering mask eqFull s :=
  fun _ _ _ _ _ _ => rfl
@[simp] theorem exec_tsRate : ∀ u rate token, exec (.tsRate u rate token) s = Sys2Proof.Machine.execTsRate u rate token s :=
  fun _ _ _ => rfl
@[simp] theorem exec_tsReady : ∀ lane rate mask token, exec (.tsReady lane rate mask token) s = Sys2Proof.Machine.execTsReady lane rate mask token s :=
  fun _ _ _ _ => rfl
@[simp] theorem exec_eqReq : ∀ lane cm1 cp1 preset iteration, exec (.eqReq lane cm1 cp1 preset iteration) s = Sys2Proof.Machine.execEqReq lane cm1 cp1 preset iteration s :=
  fun _ _ _ _ _ => rfl
@[simp] theorem exec_eqAck : ∀ lane cm1 cp1 c0 clipped width height, exec (.eqAck lane cm1 cp1 c0 clipped width height) s = Sys2Proof.Machine.execEqAck lane cm1 cp1 c0 clipped width height s :=
  fun _ _ _ _ _ _ _ => rfl
@[simp] theorem exec_eqDone : ∀ lane cm1 cp1 width height, exec (.eqDone lane cm1 cp1 width height) s = Sys2Proof.Machine.execEqDone lane cm1 cp1 width height s :=
  fun _ _ _ _ _ => rfl
@[simp] theorem exec_trainingTimeout : ∀ u, exec (.trainingTimeout u) s = Sys2Proof.Machine.execTrainingTimeout u s :=
  fun _ => rfl
@[simp] theorem exec_trainingRetry : ∀ u, exec (.trainingRetry u) s = Sys2Proof.Machine.execTrainingRetry u s :=
  fun _ => rfl
@[simp] theorem exec_eqUpdate : ∀ p u, exec (.eqUpdate p u) s = Sys2Proof.Machine.execEqUpdate p u s :=
  fun _ _ => rfl
@[simp] theorem exec_eyeScan : ∀ lane width height, exec (.eyeScan lane width height) s = Sys2Proof.Machine.execEyeScan lane width height s :=
  fun _ _ _ => rfl
@[simp] theorem exec_prbsStart : ∀ p u, exec (.prbsStart p u) s = Sys2Proof.Machine.execPrbsStart p u s :=
  fun _ _ => rfl
@[simp] theorem exec_prbsStop : ∀ p u, exec (.prbsStop p u) s = Sys2Proof.Machine.execPrbsStop p u s :=
  fun _ _ => rfl
@[simp] theorem exec_powerRequest : ∀ p target, exec (.powerRequest p target) s = Sys2Proof.Machine.execPowerRequest p target s :=
  fun _ _ => rfl
@[simp] theorem exec_stepTimeout : exec (.stepTimeout) s = Sys2Proof.Machine.execStepTimeout s :=
  rfl
@[simp] theorem exec_patrolPass : ∀ sensors, exec (.patrolPass sensors) s = Sys2Proof.Machine.execPatrolPass sensors s :=
  fun _ => rfl
@[simp] theorem exec_sensorSample : ∀ sensors alarm10us, exec (.sensorSample sensors alarm10us) s = Sys2Proof.Machine.execSensorSample sensors alarm10us s :=
  fun _ _ => rfl
@[simp] theorem exec_replan : ∀ oscillators, exec (.replan oscillators) s = Sys2Proof.Machine.execReplan oscillators s :=
  fun _ => rfl
@[simp] theorem exec_restoreCaps : ∀ p, exec (.restoreCaps p) s = Sys2Proof.Machine.execRestoreCaps p s :=
  fun _ => rfl
@[simp] theorem exec_avsStep : ∀ ok, exec (.avsStep ok) s = Sys2Proof.Machine.execAvsStep ok s :=
  fun _ => rfl
@[simp] theorem exec_avsRetry : ∀ ok, exec (.avsRetry ok) s = Sys2Proof.Machine.execAvsRetry ok s :=
  fun _ => rfl
@[simp] theorem exec_testModeInput : ∀ high, exec (.testModeInput high) s = Sys2Proof.Machine.execTestModeInput high s :=
  fun _ => rfl
@[simp] theorem exec_fwPackage : ∀ p pkg, exec (.fwPackage p pkg) s = Sys2Proof.Machine.execFwPackage p pkg s :=
  fun _ _ => rfl
@[simp] theorem exec_activate : ∀ p, exec (.activate p) s = Sys2Proof.Machine.execActivate p s :=
  fun _ => rfl
@[simp] theorem exec_confirm : ∀ p failsAt, exec (.confirm p failsAt) s = Sys2Proof.Machine.execConfirm p failsAt s :=
  fun _ _ => rfl
@[simp] theorem exec_invalidate : ∀ p, exec (.invalidate p) s = Sys2Proof.Machine.execInvalidate p s :=
  fun _ => rfl
@[simp] theorem exec_fwRestart : ∀ p bootSel, exec (.fwRestart p bootSel) s = Sys2Proof.Machine.execFwRestart p bootSel s :=
  fun _ _ => rfl
@[simp] theorem exec_ownerKeyEnrol : ∀ p key, exec (.ownerKeyEnrol p key) s = Sys2Proof.Machine.execOwnerKeyEnrol p key s :=
  fun _ _ => rfl
@[simp] theorem exec_ownerReplace : ∀ p st, exec (.ownerReplace p st) s = Sys2Proof.Machine.execOwnerReplace p st s :=
  fun _ _ => rfl
@[simp] theorem exec_ownerRelease : ∀ p st, exec (.ownerRelease p st) s = Sys2Proof.Machine.execOwnerRelease p st s :=
  fun _ _ => rfl
@[simp] theorem exec_signedConfig : ∀ p st, exec (.signedConfig p st) s = Sys2Proof.Machine.execSignedConfig p st s :=
  fun _ _ => rfl
@[simp] theorem exec_debugUnlock : ∀ p st, exec (.debugUnlock p st) s = Sys2Proof.Machine.execDebugUnlock p st s :=
  fun _ _ => rfl
@[simp] theorem exec_configLockWrite : ∀ p on, exec (.configLockWrite p on) s = Sys2Proof.Machine.execConfigLockWrite p on s :=
  fun _ _ => rfl
@[simp] theorem exec_attestNonce : ∀ p nonce, exec (.attestNonce p nonce) s = Sys2Proof.Machine.execAttestNonce p nonce s :=
  fun _ _ => rfl
@[simp] theorem exec_attestSigned : exec (.attestSigned) s = Sys2Proof.Machine.execAttestSigned s :=
  rfl
@[simp] theorem exec_debugChallengeRead : ∀ p, exec (.debugChallengeRead p) s = Sys2Proof.Machine.execDebugChallengeRead p s :=
  fun _ => rfl
@[simp] theorem exec_debugLock : ∀ p value, exec (.debugLock p value) s = Sys2Proof.Machine.execDebugLock p value s :=
  fun _ _ => rfl
@[simp] theorem exec_lexiconRead : ∀ inst notify index row off len, exec (.lexiconRead inst notify index row off len) s = Sys2Proof.Machine.execLexiconRead inst notify index row off len s :=
  fun _ _ _ _ _ _ => rfl
@[simp] theorem exec_lexiconWrite : ∀ inst notify last index row off data, exec (.lexiconWrite inst notify last index row off data) s = Sys2Proof.Machine.execLexiconWrite inst notify last index row off data s :=
  fun _ _ _ _ _ _ _ => rfl
@[simp] theorem exec_registerWrite : ∀ p index row value, exec (.registerWrite p index row value) s = Sys2Proof.Machine.execRegisterWrite p index row value s :=
  fun _ _ _ _ => rfl
@[simp] theorem exec_segmentLapse : ∀ port, exec (.segmentLapse port) s = Sys2Proof.Machine.execSegmentLapse port s :=
  fun _ => rfl
@[simp] theorem exec_store : ∀ p rewrites failed, exec (.store p rewrites failed) s = Sys2Proof.Machine.execStore p rewrites failed s :=
  fun _ _ _ => rfl
@[simp] theorem exec_lexFormat : ∀ p, exec (.lexFormat p) s = Sys2Proof.Machine.execLexFormat p s :=
  fun _ => rfl
@[simp] theorem exec_reload : ∀ p, exec (.reload p) s = Sys2Proof.Machine.execReload p s :=
  fun _ => rfl
@[simp] theorem exec_clezelRead : ∀ prio dest src seq data, exec (.clezelRead prio dest src seq data) s = Sys2Proof.Machine.execClezelRead prio dest src seq data s :=
  fun _ _ _ _ _ => rfl
@[simp] theorem exec_clezelWrite : ∀ prio dest src seq data, exec (.clezelWrite prio dest src seq data) s = Sys2Proof.Machine.execClezelWrite prio dest src seq data s :=
  fun _ _ _ _ _ => rfl
@[simp] theorem exec_heartbeat : exec (.heartbeat) s = Sys2Proof.Machine.execHeartbeat s :=
  rfl
@[simp] theorem exec_canBusOff : exec (.canBusOff) s = Sys2Proof.Machine.execCanBusOff s :=
  rfl
@[simp] theorem exec_perstNRelease : exec (.perstNRelease) s = Sys2Proof.Machine.execPerstNRelease s :=
  rfl
@[simp] theorem exec_hostLinkStatusChange : ∀ status rate width flit, exec (.hostLinkStatusChange status rate width flit) s = Sys2Proof.Machine.execHostLinkStatusChange status rate width flit s :=
  fun _ _ _ _ => rfl
@[simp] theorem exec_refclkReturn : ∀ ref, exec (.refclkReturn ref) s = Sys2Proof.Machine.execRefclkReturn ref s :=
  fun _ => rfl
@[simp] theorem exec_controlSetResend : ∀ u, exec (.controlSetResend u) s = Sys2Proof.Machine.execControlSetResend u s :=
  fun _ => rfl
@[simp] theorem exec_trainingLaneWait : ∀ u, exec (.trainingLaneWait u) s = Sys2Proof.Machine.execTrainingLaneWait u s :=
  fun _ => rfl
@[simp] theorem exec_busOffRecovery : exec (.busOffRecovery) s = Sys2Proof.Machine.execBusOffRecovery s :=
  rfl
@[simp] theorem exec_pmeTurnOff : exec (.pmeTurnOff) s = Sys2Proof.Machine.execPmeTurnOff s :=
  rfl

/-- Every command but the release of POR_N acts only while POR_N is high. -/
theorem exec_rom (c : Instr) (n : ∀ b h, c ≠ .powerOnReset b h) : ∃ f, exec c s = actRom s f := by
  cases c with
  | clauseBoundary => exact ⟨_, by rw [exec_clauseBoundary, execClauseBoundary]⟩
  | timebaseLockLoss => exact ⟨_, by rw [exec_timebaseLockLoss, execTimebaseLockLoss]⟩
  | timebaseRelock => exact ⟨_, by rw [exec_timebaseRelock, execTimebaseRelock]⟩
  | refclkLoss => exact ⟨_, by rw [exec_refclkLoss, execRefclkLoss]⟩
  | powerOnReset b h => exact absurd rfl (n b h)
  | porNAssert => exact ⟨_, by rw [exec_porNAssert, execPorNAssert]⟩
  | perstNAssert => exact ⟨_, by rw [exec_perstNAssert, execPerstNAssert]⟩
  | hotReset => exact ⟨_, by rw [exec_hotReset, execHotReset]⟩
  | pfailNInput => exact ⟨_, by rw [exec_pfailNInput, execPfailNInput]⟩
  | powerFailDetect => exact ⟨_, by rw [exec_powerFailDetect, execPowerFailDetect]⟩
  | cut => exact ⟨_, by rw [exec_cut, execCut, act]⟩
  | saveResend => exact ⟨_, by rw [exec_saveResend, execSaveResend, act]⟩
  | warmRestart => exact ⟨_, by rw [exec_warmRestart, execWarmRestart, act]⟩
  | format => exact ⟨_, by rw [exec_format, execFormat]⟩
  | commit => exact ⟨_, by rw [exec_commit, execCommit]⟩
  | retry => exact ⟨_, by rw [exec_retry, execRetry]⟩
  | abandon => exact ⟨_, by rw [exec_abandon, execAbandon]⟩
  | semicolon => exact ⟨_, by rw [exec_semicolon, execSemicolon]⟩
  | semicolonIntervalElapsed => exact ⟨_, by rw [exec_semicolonIntervalElapsed, execSemicolonIntervalElapsed, act]⟩
  | semicolonStart => exact ⟨_, by rw [exec_semicolonStart, execSemicolonStart, act]⟩
  | ckptStatus => exact ⟨_, by rw [exec_ckptStatus, execCkptStatus, act]⟩
  | ckptStatusTimeout => exact ⟨_, by rw [exec_ckptStatusTimeout, execCkptStatusTimeout, act]⟩
  | stuckCkptResend => exact ⟨_, by rw [exec_stuckCkptResend, execStuckCkptResend, act]⟩
  | sealComplete => exact ⟨_, by rw [exec_sealComplete, execSealComplete, act]⟩
  | holdupReport => exact ⟨_, by rw [exec_holdupReport, execHoldupReport, act]⟩
  | holdupStale => exact ⟨_, by rw [exec_holdupStale, execHoldupStale, act]⟩
  | governorAdmit => exact ⟨_, by rw [exec_governorAdmit, execGovernorAdmit, act]⟩
  | carrierWaitExpiry => exact ⟨_, by rw [exec_carrierWaitExpiry, execCarrierWaitExpiry, act]⟩
  | readyTimeout => exact ⟨_, by rw [exec_readyTimeout, execReadyTimeout, act]⟩
  | restoreStatus => exact ⟨_, by rw [exec_restoreStatus, execRestoreStatus, act]⟩
  | touchTimeout => exact ⟨_, by rw [exec_touchTimeout, execTouchTimeout, act]⟩
  | hostRead => exact ⟨_, by rw [exec_hostRead, execHostRead]⟩
  | hostWrite => exact ⟨_, by rw [exec_hostWrite, execHostWrite]⟩
  | malformedRequest => exact ⟨_, by rw [exec_malformedRequest, execMalformedRequest]⟩
  | hostCompletion => exact ⟨_, by rw [exec_hostCompletion, execHostCompletion, act]⟩
  | hostCompletionTimeout => exact ⟨_, by rw [exec_hostCompletionTimeout, execHostCompletionTimeout.eq_def, act]⟩
  | vfEnableSet => exact ⟨_, by rw [exec_vfEnableSet, execVfEnableSet, act]⟩
  | vfEnableClear => exact ⟨_, by rw [exec_vfEnableClear, execVfEnableClear, act]⟩
  | numvfsWrite => exact ⟨_, by rw [exec_numvfsWrite, execNumvfsWrite, act]⟩
  | pfFlr => exact ⟨_, by rw [exec_pfFlr, execPfFlr]⟩
  | vfFlr => exact ⟨_, by rw [exec_vfFlr, execVfFlr, act]⟩
  | barResize => exact ⟨_, by rw [exec_barResize, execBarResize, act]⟩
  | pfD3hotEntry => exact ⟨_, by rw [exec_pfD3hotEntry, execPfD3hotEntry]⟩
  | pfD0Return => exact ⟨_, by rw [exec_pfD0Return, execPfD0Return]⟩
  | msixMask => exact ⟨_, by rw [exec_msixMask, execMsixMask]⟩
  | msixUnmask => exact ⟨_, by rw [exec_msixUnmask, execMsixUnmask]⟩
  | busMasterChange => exact ⟨_, by rw [exec_busMasterChange, execBusMasterChange]⟩
  | appendPublish => exact ⟨_, by rw [exec_appendPublish, execAppendPublish]⟩
  | appendTrim => exact ⟨_, by rw [exec_appendTrim, execAppendTrim]⟩
  | pendingEntryFree => exact ⟨_, by rw [exec_pendingEntryFree, execPendingEntryFree, act]⟩
  | appendCoalTimeout => exact ⟨_, by rw [exec_appendCoalTimeout, execAppendCoalTimeout, act]⟩
  | ctxOpen => exact ⟨_, by rw [exec_ctxOpen, execCtxOpen]⟩
  | ctxClose => exact ⟨_, by rw [exec_ctxClose, execCtxClose]⟩
  | ctxAbort => exact ⟨_, by rw [exec_ctxAbort, execCtxAbort]⟩
  | ctxResume => exact ⟨_, by rw [exec_ctxResume, execCtxResume]⟩
  | dwordEnable => exact ⟨_, by rw [exec_dwordEnable, execDwordEnable]⟩
  | pair => exact ⟨_, by rw [exec_pair, execPair]⟩
  | unpair => exact ⟨_, by rw [exec_unpair, execUnpair]⟩
  | takeover => exact ⟨_, by rw [exec_takeover, execTakeover]⟩
  | handover => exact ⟨_, by rw [exec_handover, execHandover]⟩
  | handoverTimeout => exact ⟨_, by rw [exec_handoverTimeout, execHandoverTimeout, act]⟩
  | forceTakeover => exact ⟨_, by rw [exec_forceTakeover, execForceTakeover]⟩
  | adoptPartner => exact ⟨_, by rw [exec_adoptPartner, execAdoptPartner]⟩
  | mcopy => exact ⟨_, by rw [exec_mcopy, execMcopy, act]⟩
  | mack => exact ⟨_, by rw [exec_mack, execMack, act]⟩
  | mnak => exact ⟨_, by rw [exec_mnak, execMnak, act]⟩
  | rcopy => exact ⟨_, by rw [exec_rcopy, execRcopy, act]⟩
  | rack => exact ⟨_, by rw [exec_rack, execRack, act]⟩
  | pairHello => exact ⟨_, by rw [exec_pairHello, execPairHello, act]⟩
  | mstate => exact ⟨_, by rw [exec_mstate, execMstate, act]⟩
  | cutNotice => exact ⟨_, by rw [exec_cutNotice, execCutNotice, act]⟩
  | rmap => exact ⟨_, by rw [exec_rmap, execRmap, act]⟩
  | holdNotice => exact ⟨_, by rw [exec_holdNotice, execHoldNotice, act]⟩
  | rangeDesc => exact ⟨_, by rw [exec_rangeDesc, execRangeDesc, act]⟩
  | mirrorAckTimeout => exact ⟨_, by rw [exec_mirrorAckTimeout, execMirrorAckTimeout, actItem, act]⟩
  | splitDeclared => exact ⟨_, by rw [exec_splitDeclared, execSplitDeclared, actItem, act]⟩
  | leaseRequestDue => exact ⟨_, by rw [exec_leaseRequestDue, execLeaseRequestDue, actItem, act]⟩
  | leaseGrant => exact ⟨_, by rw [exec_leaseGrant, execLeaseGrant, act]⟩
  | takeoverGrant => exact ⟨_, by rw [exec_takeoverGrant, execTakeoverGrant, act]⟩
  | leaseLapse => exact ⟨_, by rw [exec_leaseLapse, execLeaseLapse, actItem, act]⟩
  | leaseNoGrant => exact ⟨_, by rw [exec_leaseNoGrant, execLeaseNoGrant, actItem, act]⟩
  | takeoverRetry => exact ⟨_, by rw [exec_takeoverRetry, execTakeoverRetry, act]⟩
  | witnessNodeWrite => exact ⟨_, by rw [exec_witnessNodeWrite, execWitnessNodeWrite]⟩
  | extentCommit => exact ⟨_, by rw [exec_extentCommit, execExtentCommit]⟩
  | extentWithdraw => exact ⟨_, by rw [exec_extentWithdraw, execExtentWithdraw]⟩
  | instReset => exact ⟨_, by rw [exec_instReset, execInstReset]⟩
  | instResetDrain => exact ⟨_, by rw [exec_instResetDrain, execInstResetDrain]⟩
  | instResetSquash => exact ⟨_, by rw [exec_instResetSquash, execInstResetSquash]⟩
  | resetBegin => exact ⟨_, by rw [exec_resetBegin, execResetBegin, act]⟩
  | drainEscalation => exact ⟨_, by rw [exec_drainEscalation, execDrainEscalation, act]⟩
  | resetComplete => exact ⟨_, by rw [exec_resetComplete, execResetComplete, act]⟩
  | schedulerGrant => exact ⟨_, by rw [exec_schedulerGrant, execSchedulerGrant, act]⟩
  | redHoldExpiry => exact ⟨_, by rw [exec_redHoldExpiry, execRedHoldExpiry, act]⟩
  | gateCommit => exact ⟨_, by rw [exec_gateCommit, execGateCommit]⟩
  | sample => exact ⟨_, by rw [exec_sample, execSample, act]⟩
  | queueDoorbell => exact ⟨_, by rw [exec_queueDoorbell, execQueueDoorbell]⟩
  | queueEnable => exact ⟨_, by rw [exec_queueEnable, execQueueEnable]⟩
  | queueDisable => exact ⟨_, by rw [exec_queueDisable, execQueueDisable]⟩
  | queueCoalTimeout => exact ⟨_, by rw [exec_queueCoalTimeout, execQueueCoalTimeout, act]⟩
  | claim => exact ⟨_, by rw [exec_claim, execClaim]⟩
  | complete => exact ⟨_, by rw [exec_complete, execComplete]⟩
  | selfHoldWrite => exact ⟨_, by rw [exec_selfHoldWrite, execSelfHoldWrite]⟩
  | holdPfWrite => exact ⟨_, by rw [exec_holdPfWrite, execHoldPfWrite]⟩
  | inflightExpiry => exact ⟨_, by rw [exec_inflightExpiry, execInflightExpiry, act]⟩
  | wakeLatch => exact ⟨_, by rw [exec_wakeLatch, execWakeLatch]⟩
  | wakeStatusClear => exact ⟨_, by rw [exec_wakeStatusClear, execWakeStatusClear]⟩
  | wakeTimerExpiry => exact ⟨_, by rw [exec_wakeTimerExpiry, execWakeTimerExpiry, act]⟩
  | gpioInput => exact ⟨_, by rw [exec_gpioInput, execGpioInput]⟩
  | dmaDoorbell => exact ⟨_, by rw [exec_dmaDoorbell, execDmaDoorbell]⟩
  | dmaEnable => exact ⟨_, by rw [exec_dmaEnable, execDmaEnable]⟩
  | dmaDisable => exact ⟨_, by rw [exec_dmaDisable, execDmaDisable]⟩
  | dmaResume => exact ⟨_, by rw [exec_dmaResume, execDmaResume]⟩
  | dmaSkip => exact ⟨_, by rw [exec_dmaSkip, execDmaSkip]⟩
  | dmaAbort => exact ⟨_, by rw [exec_dmaAbort, execDmaAbort]⟩
  | softPulse => exact ⟨_, by rw [exec_softPulse, execSoftPulse]⟩
  | shadowWrite => exact ⟨_, by rw [exec_shadowWrite, execShadowWrite]⟩
  | eventFabricPulse => exact ⟨_, by rw [exec_eventFabricPulse, execEventFabricPulse, act]⟩
  | dmaBurstIssue => exact ⟨_, by rw [exec_dmaBurstIssue, execDmaBurstIssue, act]⟩
  | carrierCpl => exact ⟨_, by rw [exec_carrierCpl, execCarrierCpl, act]⟩
  | carrierAck => exact ⟨_, by rw [exec_carrierAck, execCarrierAck, act]⟩
  | controlAck => exact ⟨_, by rw [exec_controlAck, execControlAck, act]⟩
  | carrierNak => exact ⟨_, by rw [exec_carrierNak, execCarrierNak, act]⟩
  | retryRound => exact ⟨_, by rw [exec_retryRound, execRetryRound, act]⟩
  | tagTimeout => exact ⟨_, by rw [exec_tagTimeout, execTagTimeout, actItem, act]⟩
  | ident => exact ⟨_, by rw [exec_ident, execIdent, act]⟩
  | health => exact ⟨_, by rw [exec_health, execHealth, act]⟩
  | healthStale => exact ⟨_, by rw [exec_healthStale, execHealthStale, act]⟩
  | wakeResend => exact ⟨_, by rw [exec_wakeResend, execWakeResend, act]⟩
  | wakeTimeout => exact ⟨_, by rw [exec_wakeTimeout, execWakeTimeout, act]⟩
  | fuReceive => exact ⟨_, by rw [exec_fuReceive, execFuReceive, act]⟩
  | nakFu => exact ⟨_, by rw [exec_nakFu, execNakFu, act]⟩
  | replayMarker => exact ⟨_, by rw [exec_replayMarker, execReplayMarker, act]⟩
  | nakRepeat => exact ⟨_, by rw [exec_nakRepeat, execNakRepeat, actItem, act]⟩
  | ackTimeout => exact ⟨_, by rw [exec_ackTimeout, execAckTimeout, actItem, act]⟩
  | creditTimeout => exact ⟨_, by rw [exec_creditTimeout, execCreditTimeout, actItem, act]⟩
  | init => exact ⟨_, by rw [exec_init, execInit, act]⟩
  | initEcho => exact ⟨_, by rw [exec_initEcho, execInitEcho, act]⟩
  | initTimeout => exact ⟨_, by rw [exec_initTimeout, execInitTimeout, act]⟩
  | pauseStart => exact ⟨_, by rw [exec_pauseStart, execPauseStart, act]⟩
  | pauseReq => exact ⟨_, by rw [exec_pauseReq, execPauseReq, act]⟩
  | pauseAck => exact ⟨_, by rw [exec_pauseAck, execPauseAck, act]⟩
  | resume => exact ⟨_, by rw [exec_resume, execResume, act]⟩
  | resumeEcho => exact ⟨_, by rw [exec_resumeEcho, execResumeEcho, act]⟩
  | downSet => exact ⟨_, by rw [exec_downSet, execDownSet, act]⟩
  | pauseLimitExpiry => exact ⟨_, by rw [exec_pauseLimitExpiry, execPauseLimitExpiry, act]⟩
  | laneLockLoss => exact ⟨_, by rw [exec_laneLockLoss, execLaneLockLoss, act]⟩
  | lanesReady => exact ⟨_, by rw [exec_lanesReady, execLanesReady, act]⟩
  | linkDownTimeExpiry => exact ⟨_, by rw [exec_linkDownTimeExpiry, execLinkDownTimeExpiry, act]⟩
  | retrain => exact ⟨_, by rw [exec_retrain, execRetrain]⟩
  | linkCommandDown => exact ⟨_, by rw [exec_linkCommandDown, execLinkCommandDown]⟩
  | linkEnableWrite => exact ⟨_, by rw [exec_linkEnableWrite, execLinkEnableWrite]⟩
  | trainingStart => exact ⟨_, by rw [exec_trainingStart, execTrainingStart, act]⟩
  | tsCap => exact ⟨_, by rw [exec_tsCap, execTsCap, act]⟩
  | tsRate => exact ⟨_, by rw [exec_tsRate, execTsRate, act]⟩
  | tsReady => exact ⟨_, by rw [exec_tsReady, execTsReady, act]⟩
  | eqReq => exact ⟨_, by rw [exec_eqReq, execEqReq, act]⟩
  | eqAck => exact ⟨_, by rw [exec_eqAck, execEqAck, act]⟩
  | eqDone => exact ⟨_, by rw [exec_eqDone, execEqDone, act]⟩
  | trainingTimeout => exact ⟨_, by rw [exec_trainingTimeout, execTrainingTimeout, act]⟩
  | trainingRetry => exact ⟨_, by rw [exec_trainingRetry, execTrainingRetry, act]⟩
  | eqUpdate => exact ⟨_, by rw [exec_eqUpdate, execEqUpdate]⟩
  | eyeScan => exact ⟨_, by rw [exec_eyeScan, execEyeScan, act]⟩
  | prbsStart => exact ⟨_, by rw [exec_prbsStart, execPrbsStart]⟩
  | prbsStop => exact ⟨_, by rw [exec_prbsStop, execPrbsStop]⟩
  | powerRequest => exact ⟨_, by rw [exec_powerRequest, execPowerRequest]⟩
  | stepTimeout => exact ⟨_, by rw [exec_stepTimeout, execStepTimeout, act]⟩
  | patrolPass => exact ⟨_, by rw [exec_patrolPass, execPatrolPass, act]⟩
  | sensorSample => exact ⟨_, by rw [exec_sensorSample, execSensorSample, act]⟩
  | replan => exact ⟨_, by rw [exec_replan, execReplan, act]⟩
  | restoreCaps => exact ⟨_, by rw [exec_restoreCaps, execRestoreCaps]⟩
  | avsStep => exact ⟨_, by rw [exec_avsStep, execAvsStep, act]⟩
  | avsRetry => exact ⟨_, by rw [exec_avsRetry, execAvsRetry, act]⟩
  | testModeInput => exact ⟨_, by rw [exec_testModeInput, execTestModeInput, act]⟩
  | fwPackage => exact ⟨_, by rw [exec_fwPackage, execFwPackage]⟩
  | activate => exact ⟨_, by rw [exec_activate, execActivate]⟩
  | confirm => exact ⟨_, by rw [exec_confirm, execConfirm]⟩
  | invalidate => exact ⟨_, by rw [exec_invalidate, execInvalidate]⟩
  | fwRestart => exact ⟨_, by rw [exec_fwRestart, execFwRestart]⟩
  | ownerKeyEnrol => exact ⟨_, by rw [exec_ownerKeyEnrol, execOwnerKeyEnrol]⟩
  | ownerReplace => exact ⟨_, by rw [exec_ownerReplace, execOwnerReplace]⟩
  | ownerRelease => exact ⟨_, by rw [exec_ownerRelease, execOwnerRelease]⟩
  | signedConfig => exact ⟨_, by rw [exec_signedConfig, execSignedConfig]⟩
  | debugUnlock => exact ⟨_, by rw [exec_debugUnlock, execDebugUnlock]⟩
  | configLockWrite => exact ⟨_, by rw [exec_configLockWrite, execConfigLockWrite]⟩
  | attestNonce => exact ⟨_, by rw [exec_attestNonce, execAttestNonce]⟩
  | attestSigned => exact ⟨_, by rw [exec_attestSigned, execAttestSigned, act]⟩
  | debugChallengeRead => exact ⟨_, by rw [exec_debugChallengeRead, execDebugChallengeRead]⟩
  | debugLock => exact ⟨_, by rw [exec_debugLock, execDebugLock]⟩
  | lexiconRead => exact ⟨_, by rw [exec_lexiconRead, execLexiconRead]⟩
  | lexiconWrite => exact ⟨_, by rw [exec_lexiconWrite, execLexiconWrite]⟩
  | registerWrite => exact ⟨_, by rw [exec_registerWrite, execRegisterWrite]⟩
  | segmentLapse => exact ⟨_, by rw [exec_segmentLapse, execSegmentLapse]⟩
  | store => exact ⟨_, by rw [exec_store, execStore]⟩
  | lexFormat => exact ⟨_, by rw [exec_lexFormat, execLexFormat]⟩
  | reload => exact ⟨_, by rw [exec_reload, execReload]⟩
  | clezelRead => exact ⟨_, by rw [exec_clezelRead, execClezelRead]⟩
  | clezelWrite => exact ⟨_, by rw [exec_clezelWrite, execClezelWrite]⟩
  | heartbeat => exact ⟨_, by rw [exec_heartbeat, execHeartbeat, act]⟩
  | canBusOff => exact ⟨_, by rw [exec_canBusOff, execCanBusOff]⟩
  | perstNRelease => exact ⟨_, by rw [exec_perstNRelease, execPerstNRelease]⟩
  | hostLinkStatusChange => exact ⟨_, by rw [exec_hostLinkStatusChange, execHostLinkStatusChange]⟩
  | refclkReturn => exact ⟨_, by rw [exec_refclkReturn, execRefclkReturn]⟩
  | controlSetResend => exact ⟨_, by rw [exec_controlSetResend, execControlSetResend, act]⟩
  | trainingLaneWait => exact ⟨_, by rw [exec_trainingLaneWait, execTrainingLaneWait, act]⟩
  | busOffRecovery => exact ⟨_, by rw [exec_busOffRecovery, execBusOffRecovery]⟩
  | pmeTurnOff => exact ⟨_, by rw [exec_pmeTurnOff, execPmeTurnOff]⟩

/-- The commands that only the firmware serves. -/
theorem exec_act (c : Instr) (n : Instr.needsFirmware c = true) : ∃ f, exec c s = act s f := by
  cases c with
  | cut => exact ⟨_, by rw [exec_cut, execCut]⟩
  | saveResend => exact ⟨_, by rw [exec_saveResend, execSaveResend]⟩
  | warmRestart => exact ⟨_, by rw [exec_warmRestart, execWarmRestart]⟩
  | semicolonIntervalElapsed => exact ⟨_, by rw [exec_semicolonIntervalElapsed, execSemicolonIntervalElapsed]⟩
  | semicolonStart => exact ⟨_, by rw [exec_semicolonStart, execSemicolonStart]⟩
  | ckptStatus => exact ⟨_, by rw [exec_ckptStatus, execCkptStatus]⟩
  | ckptStatusTimeout => exact ⟨_, by rw [exec_ckptStatusTimeout, execCkptStatusTimeout]⟩
  | stuckCkptResend => exact ⟨_, by rw [exec_stuckCkptResend, execStuckCkptResend]⟩
  | sealComplete => exact ⟨_, by rw [exec_sealComplete, execSealComplete]⟩
  | holdupReport => exact ⟨_, by rw [exec_holdupReport, execHoldupReport]⟩
  | holdupStale => exact ⟨_, by rw [exec_holdupStale, execHoldupStale]⟩
  | governorAdmit => exact ⟨_, by rw [exec_governorAdmit, execGovernorAdmit]⟩
  | carrierWaitExpiry => exact ⟨_, by rw [exec_carrierWaitExpiry, execCarrierWaitExpiry]⟩
  | readyTimeout => exact ⟨_, by rw [exec_readyTimeout, execReadyTimeout]⟩
  | restoreStatus => exact ⟨_, by rw [exec_restoreStatus, execRestoreStatus]⟩
  | touchTimeout => exact ⟨_, by rw [exec_touchTimeout, execTouchTimeout]⟩
  | hostCompletion => exact ⟨_, by rw [exec_hostCompletion, execHostCompletion]⟩
  | hostCompletionTimeout => exact ⟨_, by rw [exec_hostCompletionTimeout, execHostCompletionTimeout.eq_def]⟩
  | vfEnableSet => exact ⟨_, by rw [exec_vfEnableSet, execVfEnableSet]⟩
  | vfEnableClear => exact ⟨_, by rw [exec_vfEnableClear, execVfEnableClear]⟩
  | numvfsWrite => exact ⟨_, by rw [exec_numvfsWrite, execNumvfsWrite]⟩
  | vfFlr => exact ⟨_, by rw [exec_vfFlr, execVfFlr]⟩
  | barResize => exact ⟨_, by rw [exec_barResize, execBarResize]⟩
  | pendingEntryFree => exact ⟨_, by rw [exec_pendingEntryFree, execPendingEntryFree]⟩
  | appendCoalTimeout => exact ⟨_, by rw [exec_appendCoalTimeout, execAppendCoalTimeout]⟩
  | handoverTimeout => exact ⟨_, by rw [exec_handoverTimeout, execHandoverTimeout]⟩
  | mcopy => exact ⟨_, by rw [exec_mcopy, execMcopy]⟩
  | mack => exact ⟨_, by rw [exec_mack, execMack]⟩
  | mnak => exact ⟨_, by rw [exec_mnak, execMnak]⟩
  | rcopy => exact ⟨_, by rw [exec_rcopy, execRcopy]⟩
  | rack => exact ⟨_, by rw [exec_rack, execRack]⟩
  | pairHello => exact ⟨_, by rw [exec_pairHello, execPairHello]⟩
  | mstate => exact ⟨_, by rw [exec_mstate, execMstate]⟩
  | cutNotice => exact ⟨_, by rw [exec_cutNotice, execCutNotice]⟩
  | rmap => exact ⟨_, by rw [exec_rmap, execRmap]⟩
  | holdNotice => exact ⟨_, by rw [exec_holdNotice, execHoldNotice]⟩
  | rangeDesc => exact ⟨_, by rw [exec_rangeDesc, execRangeDesc]⟩
  | mirrorAckTimeout => exact ⟨_, by rw [exec_mirrorAckTimeout, execMirrorAckTimeout, actItem]⟩
  | splitDeclared => exact ⟨_, by rw [exec_splitDeclared, execSplitDeclared, actItem]⟩
  | leaseRequestDue => exact ⟨_, by rw [exec_leaseRequestDue, execLeaseRequestDue, actItem]⟩
  | leaseGrant => exact ⟨_, by rw [exec_leaseGrant, execLeaseGrant]⟩
  | takeoverGrant => exact ⟨_, by rw [exec_takeoverGrant, execTakeoverGrant]⟩
  | leaseLapse => exact ⟨_, by rw [exec_leaseLapse, execLeaseLapse, actItem]⟩
  | leaseNoGrant => exact ⟨_, by rw [exec_leaseNoGrant, execLeaseNoGrant, actItem]⟩
  | takeoverRetry => exact ⟨_, by rw [exec_takeoverRetry, execTakeoverRetry]⟩
  | resetBegin => exact ⟨_, by rw [exec_resetBegin, execResetBegin]⟩
  | drainEscalation => exact ⟨_, by rw [exec_drainEscalation, execDrainEscalation]⟩
  | resetComplete => exact ⟨_, by rw [exec_resetComplete, execResetComplete]⟩
  | schedulerGrant => exact ⟨_, by rw [exec_schedulerGrant, execSchedulerGrant]⟩
  | redHoldExpiry => exact ⟨_, by rw [exec_redHoldExpiry, execRedHoldExpiry]⟩
  | sample => exact ⟨_, by rw [exec_sample, execSample]⟩
  | queueCoalTimeout => exact ⟨_, by rw [exec_queueCoalTimeout, execQueueCoalTimeout]⟩
  | inflightExpiry => exact ⟨_, by rw [exec_inflightExpiry, execInflightExpiry]⟩
  | wakeTimerExpiry => exact ⟨_, by rw [exec_wakeTimerExpiry, execWakeTimerExpiry]⟩
  | eventFabricPulse => exact ⟨_, by rw [exec_eventFabricPulse, execEventFabricPulse]⟩
  | dmaBurstIssue => exact ⟨_, by rw [exec_dmaBurstIssue, execDmaBurstIssue]⟩
  | carrierCpl => exact ⟨_, by rw [exec_carrierCpl, execCarrierCpl]⟩
  | carrierAck => exact ⟨_, by rw [exec_carrierAck, execCarrierAck]⟩
  | controlAck => exact ⟨_, by rw [exec_controlAck, execControlAck]⟩
  | carrierNak => exact ⟨_, by rw [exec_carrierNak, execCarrierNak]⟩
  | retryRound => exact ⟨_, by rw [exec_retryRound, execRetryRound]⟩
  | tagTimeout => exact ⟨_, by rw [exec_tagTimeout, execTagTimeout, actItem]⟩
  | ident => exact ⟨_, by rw [exec_ident, execIdent]⟩
  | health => exact ⟨_, by rw [exec_health, execHealth]⟩
  | healthStale => exact ⟨_, by rw [exec_healthStale, execHealthStale]⟩
  | wakeResend => exact ⟨_, by rw [exec_wakeResend, execWakeResend]⟩
  | wakeTimeout => exact ⟨_, by rw [exec_wakeTimeout, execWakeTimeout]⟩
  | fuReceive => exact ⟨_, by rw [exec_fuReceive, execFuReceive]⟩
  | nakFu => exact ⟨_, by rw [exec_nakFu, execNakFu]⟩
  | replayMarker => exact ⟨_, by rw [exec_replayMarker, execReplayMarker]⟩
  | nakRepeat => exact ⟨_, by rw [exec_nakRepeat, execNakRepeat, actItem]⟩
  | ackTimeout => exact ⟨_, by rw [exec_ackTimeout, execAckTimeout, actItem]⟩
  | creditTimeout => exact ⟨_, by rw [exec_creditTimeout, execCreditTimeout, actItem]⟩
  | init => exact ⟨_, by rw [exec_init, execInit]⟩
  | initEcho => exact ⟨_, by rw [exec_initEcho, execInitEcho]⟩
  | initTimeout => exact ⟨_, by rw [exec_initTimeout, execInitTimeout]⟩
  | pauseStart => exact ⟨_, by rw [exec_pauseStart, execPauseStart]⟩
  | pauseReq => exact ⟨_, by rw [exec_pauseReq, execPauseReq]⟩
  | pauseAck => exact ⟨_, by rw [exec_pauseAck, execPauseAck]⟩
  | resume => exact ⟨_, by rw [exec_resume, execResume]⟩
  | resumeEcho => exact ⟨_, by rw [exec_resumeEcho, execResumeEcho]⟩
  | downSet => exact ⟨_, by rw [exec_downSet, execDownSet]⟩
  | pauseLimitExpiry => exact ⟨_, by rw [exec_pauseLimitExpiry, execPauseLimitExpiry]⟩
  | laneLockLoss => exact ⟨_, by rw [exec_laneLockLoss, execLaneLockLoss]⟩
  | lanesReady => exact ⟨_, by rw [exec_lanesReady, execLanesReady]⟩
  | linkDownTimeExpiry => exact ⟨_, by rw [exec_linkDownTimeExpiry, execLinkDownTimeExpiry]⟩
  | trainingStart => exact ⟨_, by rw [exec_trainingStart, execTrainingStart]⟩
  | tsCap => exact ⟨_, by rw [exec_tsCap, execTsCap]⟩
  | tsRate => exact ⟨_, by rw [exec_tsRate, execTsRate]⟩
  | tsReady => exact ⟨_, by rw [exec_tsReady, execTsReady]⟩
  | eqReq => exact ⟨_, by rw [exec_eqReq, execEqReq]⟩
  | eqAck => exact ⟨_, by rw [exec_eqAck, execEqAck]⟩
  | eqDone => exact ⟨_, by rw [exec_eqDone, execEqDone]⟩
  | trainingTimeout => exact ⟨_, by rw [exec_trainingTimeout, execTrainingTimeout]⟩
  | trainingRetry => exact ⟨_, by rw [exec_trainingRetry, execTrainingRetry]⟩
  | eyeScan => exact ⟨_, by rw [exec_eyeScan, execEyeScan]⟩
  | stepTimeout => exact ⟨_, by rw [exec_stepTimeout, execStepTimeout]⟩
  | patrolPass => exact ⟨_, by rw [exec_patrolPass, execPatrolPass]⟩
  | sensorSample => exact ⟨_, by rw [exec_sensorSample, execSensorSample]⟩
  | replan => exact ⟨_, by rw [exec_replan, execReplan]⟩
  | avsStep => exact ⟨_, by rw [exec_avsStep, execAvsStep]⟩
  | avsRetry => exact ⟨_, by rw [exec_avsRetry, execAvsRetry]⟩
  | testModeInput => exact ⟨_, by rw [exec_testModeInput, execTestModeInput]⟩
  | attestSigned => exact ⟨_, by rw [exec_attestSigned, execAttestSigned]⟩
  | heartbeat => exact ⟨_, by rw [exec_heartbeat, execHeartbeat]⟩
  | controlSetResend => exact ⟨_, by rw [exec_controlSetResend, execControlSetResend]⟩
  | trainingLaneWait => exact ⟨_, by rw [exec_trainingLaneWait, execTrainingLaneWait]⟩
  | _ => cases n

end Sys2Proof.Machine
end

