-- ==== Sys2Proof/Laws/State.lean ====
section
/-!
SUPPORT. What each update of the state leaves in each field: one lemma per update and field, so that no proof unfolds a
record update; and reading a register after a write.
-/
namespace Sys2Proof.Machine

variable (s : State)

/-! ### set -/

@[simp] theorem State.set_pending (r i v : Nat) : (s.set r i v).pending = s.pending := rfl
@[simp] theorem State.set_regs (r i v : Nat) : (s.set r i v).regs = Tbl.put s.regs (Reg.key r i) v := rfl
@[simp] theorem State.set_blobs (r i v : Nat) : (s.set r i v).blobs = s.blobs := rfl
@[simp] theorem State.set_clock (r i v : Nat) : (s.set r i v).clock = s.clock := rfl
@[simp] theorem State.set_sched (r i v : Nat) : (s.set r i v).sched = s.sched := rfl
@[simp] theorem State.set_persist (r i v : Nat) : (s.set r i v).persist = s.persist := rfl
@[simp] theorem State.set_gov (r i v : Nat) : (s.set r i v).gov = s.gov := rfl
@[simp] theorem State.set_keep (r i v : Nat) : (s.set r i v).keep = s.keep := rfl
@[simp] theorem State.set_stop (r i v : Nat) : (s.set r i v).stop = s.stop := rfl
@[simp] theorem State.set_restore (r i v : Nat) : (s.set r i v).restore = s.restore := rfl
@[simp] theorem State.set_append (r i v : Nat) : (s.set r i v).append = s.append := rfl
@[simp] theorem State.set_mirror (r i v : Nat) : (s.set r i v).mirror = s.mirror := rfl
@[simp] theorem State.set_carriers (r i v : Nat) : (s.set r i v).carriers = s.carriers := rfl
@[simp] theorem State.set_links (r i v : Nat) : (s.set r i v).links = s.links := rfl
@[simp] theorem State.set_training (r i v : Nat) : (s.set r i v).training = s.training := rfl
@[simp] theorem State.set_lanes (r i v : Nat) : (s.set r i v).lanes = s.lanes := rfl
@[simp] theorem State.set_line (r i v : Nat) : (s.set r i v).line = s.line := rfl
@[simp] theorem State.set_host (r i v : Nat) : (s.set r i v).host = s.host := rfl
@[simp] theorem State.set_resets (r i v : Nat) : (s.set r i v).resets = s.resets := rfl
@[simp] theorem State.set_events (r i v : Nat) : (s.set r i v).events = s.events := rfl
@[simp] theorem State.set_dma (r i v : Nat) : (s.set r i v).dma = s.dma := rfl
@[simp] theorem State.set_power (r i v : Nat) : (s.set r i v).power = s.power := rfl
@[simp] theorem State.set_security (r i v : Nat) : (s.set r i v).security = s.security := rfl
@[simp] theorem State.set_lexicon (r i v : Nat) : (s.set r i v).lexicon = s.lexicon := rfl
@[simp] theorem State.set_pins (r i v : Nat) : (s.set r i v).pins = s.pins := rfl
@[simp] theorem State.set_draws (r i v : Nat) : (s.set r i v).draws = s.draws := rfl
@[simp] theorem State.set_outbox (r i v : Nat) : (s.set r i v).outbox = s.outbox := rfl
@[simp] theorem State.set_blob (r i v : Nat) (x j : Nat) : (s.set r i v).blob x j = s.blob x j := rfl

/-! ### after -/

@[simp] theorem State.after_pending (t : State) : (s.after t).pending = s.pending := rfl
@[simp] theorem State.after_regs (t : State) : (s.after t).regs = t.regs := rfl
@[simp] theorem State.after_blobs (t : State) : (s.after t).blobs = t.blobs := rfl
@[simp] theorem State.after_clock (t : State) : (s.after t).clock = t.clock := rfl
@[simp] theorem State.after_sched (t : State) : (s.after t).sched = t.sched := rfl
@[simp] theorem State.after_persist (t : State) : (s.after t).persist = t.persist := rfl
@[simp] theorem State.after_gov (t : State) : (s.after t).gov = t.gov := rfl
@[simp] theorem State.after_keep (t : State) : (s.after t).keep = t.keep := rfl
@[simp] theorem State.after_stop (t : State) : (s.after t).stop = t.stop := rfl
@[simp] theorem State.after_restore (t : State) : (s.after t).restore = t.restore := rfl
@[simp] theorem State.after_append (t : State) : (s.after t).append = t.append := rfl
@[simp] theorem State.after_mirror (t : State) : (s.after t).mirror = t.mirror := rfl
@[simp] theorem State.after_carriers (t : State) : (s.after t).carriers = t.carriers := rfl
@[simp] theorem State.after_links (t : State) : (s.after t).links = t.links := rfl
@[simp] theorem State.after_training (t : State) : (s.after t).training = t.training := rfl
@[simp] theorem State.after_lanes (t : State) : (s.after t).lanes = t.lanes := rfl
@[simp] theorem State.after_line (t : State) : (s.after t).line = t.line := rfl
@[simp] theorem State.after_host (t : State) : (s.after t).host = t.host := rfl
@[simp] theorem State.after_resets (t : State) : (s.after t).resets = t.resets := rfl
@[simp] theorem State.after_events (t : State) : (s.after t).events = t.events := rfl
@[simp] theorem State.after_dma (t : State) : (s.after t).dma = t.dma := rfl
@[simp] theorem State.after_power (t : State) : (s.after t).power = t.power := rfl
@[simp] theorem State.after_security (t : State) : (s.after t).security = t.security := rfl
@[simp] theorem State.after_lexicon (t : State) : (s.after t).lexicon = t.lexicon := rfl
@[simp] theorem State.after_pins (t : State) : (s.after t).pins = pinsOf t := rfl
@[simp] theorem State.after_draws (t : State) : (s.after t).draws = t.draws := rfl
@[simp] theorem State.after_outbox (t : State) : (s.after t).outbox = t.outbox := rfl
@[simp] theorem State.after_get (t : State) (x j : Nat) : (s.after t).get x j = t.get x j := rfl
@[simp] theorem State.after_blob (t : State) (x j : Nat) : (s.after t).blob x j = t.blob x j := rfl
@[simp] theorem State.after_image (t : State) : (s.after t).image = t.image := rfl
@[simp] theorem State.after_mirrorState (t : State) : (s.after t).mirrorState = t.mirrorState := rfl
@[simp] theorem State.after_powerState (t : State) : (s.after t).powerState = t.powerState := rfl
@[simp] theorem State.after_linkState (t : State) (u : Nat) : (s.after t).linkState u = t.linkState u := rfl
@[simp] theorem State.after_ctxState (t : State) (n : Nat) : (s.after t).ctxState n = t.ctxState n := rfl
@[simp] theorem State.after_chanState (t : State) (k : Nat) : (s.after t).chanState k = t.chanState k := rfl
@[simp] theorem State.after_car (t : State) (c : Nat) : (s.after t).car c = t.car c := rfl
@[simp] theorem State.after_link (t : State) (u : Nat) : (s.after t).link u = t.link u := rfl
@[simp] theorem State.after_train (t : State) (u : Nat) : (s.after t).train u = t.train u := rfl
@[simp] theorem State.after_lane (t : State) (n : Nat) : (s.after t).lane n = t.lane n := rfl
@[simp] theorem State.after_port (t : State) (p : Nat) : (s.after t).port p = t.port p := rfl
@[simp] theorem State.after_chan (t : State) (k : Nat) : (s.after t).chan k = t.chan k := rfl
@[simp] theorem State.after_qrun (t : State) (q : Nat) : (s.after t).qrun q = t.qrun q := rfl
@[simp] theorem State.after_semi (t : State) (c : Nat) : (s.after t).semi c = t.semi c := rfl

/-! ### setBlob -/

@[simp] theorem State.setBlob_pending (r i : Nat) (v : List Byte) : (s.setBlob r i v).pending = s.pending := rfl
@[simp] theorem State.setBlob_regs (r i : Nat) (v : List Byte) : (s.setBlob r i v).regs = s.regs := rfl
@[simp] theorem State.setBlob_blobs (r i : Nat) (v : List Byte) : (s.setBlob r i v).blobs = Tbl.put s.blobs (Reg.key r i) v := rfl
@[simp] theorem State.setBlob_clock (r i : Nat) (v : List Byte) : (s.setBlob r i v).clock = s.clock := rfl
@[simp] theorem State.setBlob_sched (r i : Nat) (v : List Byte) : (s.setBlob r i v).sched = s.sched := rfl
@[simp] theorem State.setBlob_persist (r i : Nat) (v : List Byte) : (s.setBlob r i v).persist = s.persist := rfl
@[simp] theorem State.setBlob_gov (r i : Nat) (v : List Byte) : (s.setBlob r i v).gov = s.gov := rfl
@[simp] theorem State.setBlob_keep (r i : Nat) (v : List Byte) : (s.setBlob r i v).keep = s.keep := rfl
@[simp] theorem State.setBlob_stop (r i : Nat) (v : List Byte) : (s.setBlob r i v).stop = s.stop := rfl
@[simp] theorem State.setBlob_restore (r i : Nat) (v : List Byte) : (s.setBlob r i v).restore = s.restore := rfl
@[simp] theorem State.setBlob_append (r i : Nat) (v : List Byte) : (s.setBlob r i v).append = s.append := rfl
@[simp] theorem State.setBlob_mirror (r i : Nat) (v : List Byte) : (s.setBlob r i v).mirror = s.mirror := rfl
@[simp] theorem State.setBlob_carriers (r i : Nat) (v : List Byte) : (s.setBlob r i v).carriers = s.carriers := rfl
@[simp] theorem State.setBlob_links (r i : Nat) (v : List Byte) : (s.setBlob r i v).links = s.links := rfl
@[simp] theorem State.setBlob_training (r i : Nat) (v : List Byte) : (s.setBlob r i v).training = s.training := rfl
@[simp] theorem State.setBlob_lanes (r i : Nat) (v : List Byte) : (s.setBlob r i v).lanes = s.lanes := rfl
@[simp] theorem State.setBlob_line (r i : Nat) (v : List Byte) : (s.setBlob r i v).line = s.line := rfl
@[simp] theorem State.setBlob_host (r i : Nat) (v : List Byte) : (s.setBlob r i v).host = s.host := rfl
@[simp] theorem State.setBlob_resets (r i : Nat) (v : List Byte) : (s.setBlob r i v).resets = s.resets := rfl
@[simp] theorem State.setBlob_events (r i : Nat) (v : List Byte) : (s.setBlob r i v).events = s.events := rfl
@[simp] theorem State.setBlob_dma (r i : Nat) (v : List Byte) : (s.setBlob r i v).dma = s.dma := rfl
@[simp] theorem State.setBlob_power (r i : Nat) (v : List Byte) : (s.setBlob r i v).power = s.power := rfl
@[simp] theorem State.setBlob_security (r i : Nat) (v : List Byte) : (s.setBlob r i v).security = s.security := rfl
@[simp] theorem State.setBlob_lexicon (r i : Nat) (v : List Byte) : (s.setBlob r i v).lexicon = s.lexicon := rfl
@[simp] theorem State.setBlob_pins (r i : Nat) (v : List Byte) : (s.setBlob r i v).pins = s.pins := rfl
@[simp] theorem State.setBlob_draws (r i : Nat) (v : List Byte) : (s.setBlob r i v).draws = s.draws := rfl
@[simp] theorem State.setBlob_outbox (r i : Nat) (v : List Byte) : (s.setBlob r i v).outbox = s.outbox := rfl
@[simp] theorem State.setBlob_get (r i : Nat) (v : List Byte) (x j : Nat) : (s.setBlob r i v).get x j = s.get x j := rfl

/-! ### atCycle -/

@[simp] theorem State.atCycle_pending (c : Nat) : (s.atCycle c).pending = s.pending := rfl
@[simp] theorem State.atCycle_regs (c : Nat) : (s.atCycle c).regs = s.regs := rfl
@[simp] theorem State.atCycle_blobs (c : Nat) : (s.atCycle c).blobs = s.blobs := rfl
@[simp] theorem State.atCycle_clock (c : Nat) : (s.atCycle c).clock = { s.clock with sub := c % 128 } := rfl
@[simp] theorem State.atCycle_sched (c : Nat) : (s.atCycle c).sched = s.sched := rfl
@[simp] theorem State.atCycle_persist (c : Nat) : (s.atCycle c).persist = s.persist := rfl
@[simp] theorem State.atCycle_gov (c : Nat) : (s.atCycle c).gov = s.gov := rfl
@[simp] theorem State.atCycle_keep (c : Nat) : (s.atCycle c).keep = s.keep := rfl
@[simp] theorem State.atCycle_stop (c : Nat) : (s.atCycle c).stop = s.stop := rfl
@[simp] theorem State.atCycle_restore (c : Nat) : (s.atCycle c).restore = s.restore := rfl
@[simp] theorem State.atCycle_append (c : Nat) : (s.atCycle c).append = s.append := rfl
@[simp] theorem State.atCycle_mirror (c : Nat) : (s.atCycle c).mirror = s.mirror := rfl
@[simp] theorem State.atCycle_carriers (c : Nat) : (s.atCycle c).carriers = s.carriers := rfl
@[simp] theorem State.atCycle_links (c : Nat) : (s.atCycle c).links = s.links := rfl
@[simp] theorem State.atCycle_training (c : Nat) : (s.atCycle c).training = s.training := rfl
@[simp] theorem State.atCycle_lanes (c : Nat) : (s.atCycle c).lanes = s.lanes := rfl
@[simp] theorem State.atCycle_line (c : Nat) : (s.atCycle c).line = s.line := rfl
@[simp] theorem State.atCycle_host (c : Nat) : (s.atCycle c).host = s.host := rfl
@[simp] theorem State.atCycle_resets (c : Nat) : (s.atCycle c).resets = s.resets := rfl
@[simp] theorem State.atCycle_events (c : Nat) : (s.atCycle c).events = s.events := rfl
@[simp] theorem State.atCycle_dma (c : Nat) : (s.atCycle c).dma = s.dma := rfl
@[simp] theorem State.atCycle_power (c : Nat) : (s.atCycle c).power = s.power := rfl
@[simp] theorem State.atCycle_security (c : Nat) : (s.atCycle c).security = s.security := rfl
@[simp] theorem State.atCycle_lexicon (c : Nat) : (s.atCycle c).lexicon = s.lexicon := rfl
@[simp] theorem State.atCycle_pins (c : Nat) : (s.atCycle c).pins = s.pins := rfl
@[simp] theorem State.atCycle_draws (c : Nat) : (s.atCycle c).draws = s.draws := rfl
@[simp] theorem State.atCycle_outbox (c : Nat) : (s.atCycle c).outbox = s.outbox := rfl
@[simp] theorem State.atCycle_get (c : Nat) (x j : Nat) : (s.atCycle c).get x j = s.get x j := rfl
@[simp] theorem State.atCycle_blob (c : Nat) (x j : Nat) : (s.atCycle c).blob x j = s.blob x j := rfl

/-! ### emit -/

@[simp] theorem State.emit_pending (e : Emit) : (s.emit e).pending = s.pending := rfl
@[simp] theorem State.emit_regs (e : Emit) : (s.emit e).regs = s.regs := rfl
@[simp] theorem State.emit_blobs (e : Emit) : (s.emit e).blobs = s.blobs := rfl
@[simp] theorem State.emit_clock (e : Emit) : (s.emit e).clock = s.clock := rfl
@[simp] theorem State.emit_sched (e : Emit) : (s.emit e).sched = s.sched := rfl
@[simp] theorem State.emit_persist (e : Emit) : (s.emit e).persist = s.persist := rfl
@[simp] theorem State.emit_gov (e : Emit) : (s.emit e).gov = s.gov := rfl
@[simp] theorem State.emit_keep (e : Emit) : (s.emit e).keep = s.keep := rfl
@[simp] theorem State.emit_stop (e : Emit) : (s.emit e).stop = s.stop := rfl
@[simp] theorem State.emit_restore (e : Emit) : (s.emit e).restore = s.restore := rfl
@[simp] theorem State.emit_append (e : Emit) : (s.emit e).append = s.append := rfl
@[simp] theorem State.emit_mirror (e : Emit) : (s.emit e).mirror = s.mirror := rfl
@[simp] theorem State.emit_carriers (e : Emit) : (s.emit e).carriers = s.carriers := rfl
@[simp] theorem State.emit_links (e : Emit) : (s.emit e).links = s.links := rfl
@[simp] theorem State.emit_training (e : Emit) : (s.emit e).training = s.training := rfl
@[simp] theorem State.emit_lanes (e : Emit) : (s.emit e).lanes = s.lanes := rfl
@[simp] theorem State.emit_line (e : Emit) : (s.emit e).line = s.line := rfl
@[simp] theorem State.emit_host (e : Emit) : (s.emit e).host = s.host := rfl
@[simp] theorem State.emit_resets (e : Emit) : (s.emit e).resets = s.resets := rfl
@[simp] theorem State.emit_events (e : Emit) : (s.emit e).events = s.events := rfl
@[simp] theorem State.emit_dma (e : Emit) : (s.emit e).dma = s.dma := rfl
@[simp] theorem State.emit_power (e : Emit) : (s.emit e).power = s.power := rfl
@[simp] theorem State.emit_security (e : Emit) : (s.emit e).security = s.security := rfl
@[simp] theorem State.emit_lexicon (e : Emit) : (s.emit e).lexicon = s.lexicon := rfl
@[simp] theorem State.emit_pins (e : Emit) : (s.emit e).pins = s.pins := rfl
@[simp] theorem State.emit_draws (e : Emit) : (s.emit e).draws = s.draws := rfl
@[simp] theorem State.emit_outbox (e : Emit) : (s.emit e).outbox = s.outbox ++ [e] := rfl
@[simp] theorem State.emit_get (e : Emit) (x j : Nat) : (s.emit e).get x j = s.get x j := rfl
@[simp] theorem State.emit_blob (e : Emit) (x j : Nat) : (s.emit e).blob x j = s.blob x j := rfl

/-! ### drawn -/

@[simp] theorem State.drawn_pending : (s.drawn).pending = s.pending := rfl
@[simp] theorem State.drawn_regs : (s.drawn).regs = s.regs := rfl
@[simp] theorem State.drawn_blobs : (s.drawn).blobs = s.blobs := rfl
@[simp] theorem State.drawn_clock : (s.drawn).clock = s.clock := rfl
@[simp] theorem State.drawn_sched : (s.drawn).sched = s.sched := rfl
@[simp] theorem State.drawn_persist : (s.drawn).persist = s.persist := rfl
@[simp] theorem State.drawn_gov : (s.drawn).gov = s.gov := rfl
@[simp] theorem State.drawn_keep : (s.drawn).keep = s.keep := rfl
@[simp] theorem State.drawn_stop : (s.drawn).stop = s.stop := rfl
@[simp] theorem State.drawn_restore : (s.drawn).restore = s.restore := rfl
@[simp] theorem State.drawn_append : (s.drawn).append = s.append := rfl
@[simp] theorem State.drawn_mirror : (s.drawn).mirror = s.mirror := rfl
@[simp] theorem State.drawn_carriers : (s.drawn).carriers = s.carriers := rfl
@[simp] theorem State.drawn_links : (s.drawn).links = s.links := rfl
@[simp] theorem State.drawn_training : (s.drawn).training = s.training := rfl
@[simp] theorem State.drawn_lanes : (s.drawn).lanes = s.lanes := rfl
@[simp] theorem State.drawn_line : (s.drawn).line = s.line := rfl
@[simp] theorem State.drawn_host : (s.drawn).host = s.host := rfl
@[simp] theorem State.drawn_resets : (s.drawn).resets = s.resets := rfl
@[simp] theorem State.drawn_events : (s.drawn).events = s.events := rfl
@[simp] theorem State.drawn_dma : (s.drawn).dma = s.dma := rfl
@[simp] theorem State.drawn_power : (s.drawn).power = s.power := rfl
@[simp] theorem State.drawn_security : (s.drawn).security = s.security := rfl
@[simp] theorem State.drawn_lexicon : (s.drawn).lexicon = s.lexicon := rfl
@[simp] theorem State.drawn_pins : (s.drawn).pins = s.pins := rfl
@[simp] theorem State.drawn_draws : (s.drawn).draws = s.draws + 1 := rfl
@[simp] theorem State.drawn_outbox : (s.drawn).outbox = s.outbox := rfl
@[simp] theorem State.drawn_get (x j : Nat) : (s.drawn).get x j = s.get x j := rfl
@[simp] theorem State.drawn_blob (x j : Nat) : (s.drawn).blob x j = s.blob x j := rfl

/-! ### modClock -/

@[simp] theorem State.modClock_pending (f : Clock → Clock) : (s.modClock f).pending = s.pending := rfl
@[simp] theorem State.modClock_regs (f : Clock → Clock) : (s.modClock f).regs = s.regs := rfl
@[simp] theorem State.modClock_blobs (f : Clock → Clock) : (s.modClock f).blobs = s.blobs := rfl
@[simp] theorem State.modClock_clock (f : Clock → Clock) : (s.modClock f).clock = f s.clock := rfl
@[simp] theorem State.modClock_sched (f : Clock → Clock) : (s.modClock f).sched = s.sched := rfl
@[simp] theorem State.modClock_persist (f : Clock → Clock) : (s.modClock f).persist = s.persist := rfl
@[simp] theorem State.modClock_gov (f : Clock → Clock) : (s.modClock f).gov = s.gov := rfl
@[simp] theorem State.modClock_keep (f : Clock → Clock) : (s.modClock f).keep = s.keep := rfl
@[simp] theorem State.modClock_stop (f : Clock → Clock) : (s.modClock f).stop = s.stop := rfl
@[simp] theorem State.modClock_restore (f : Clock → Clock) : (s.modClock f).restore = s.restore := rfl
@[simp] theorem State.modClock_append (f : Clock → Clock) : (s.modClock f).append = s.append := rfl
@[simp] theorem State.modClock_mirror (f : Clock → Clock) : (s.modClock f).mirror = s.mirror := rfl
@[simp] theorem State.modClock_carriers (f : Clock → Clock) : (s.modClock f).carriers = s.carriers := rfl
@[simp] theorem State.modClock_links (f : Clock → Clock) : (s.modClock f).links = s.links := rfl
@[simp] theorem State.modClock_training (f : Clock → Clock) : (s.modClock f).training = s.training := rfl
@[simp] theorem State.modClock_lanes (f : Clock → Clock) : (s.modClock f).lanes = s.lanes := rfl
@[simp] theorem State.modClock_line (f : Clock → Clock) : (s.modClock f).line = s.line := rfl
@[simp] theorem State.modClock_host (f : Clock → Clock) : (s.modClock f).host = s.host := rfl
@[simp] theorem State.modClock_resets (f : Clock → Clock) : (s.modClock f).resets = s.resets := rfl
@[simp] theorem State.modClock_events (f : Clock → Clock) : (s.modClock f).events = s.events := rfl
@[simp] theorem State.modClock_dma (f : Clock → Clock) : (s.modClock f).dma = s.dma := rfl
@[simp] theorem State.modClock_power (f : Clock → Clock) : (s.modClock f).power = s.power := rfl
@[simp] theorem State.modClock_security (f : Clock → Clock) : (s.modClock f).security = s.security := rfl
@[simp] theorem State.modClock_lexicon (f : Clock → Clock) : (s.modClock f).lexicon = s.lexicon := rfl
@[simp] theorem State.modClock_pins (f : Clock → Clock) : (s.modClock f).pins = s.pins := rfl
@[simp] theorem State.modClock_draws (f : Clock → Clock) : (s.modClock f).draws = s.draws := rfl
@[simp] theorem State.modClock_outbox (f : Clock → Clock) : (s.modClock f).outbox = s.outbox := rfl
@[simp] theorem State.modClock_get (f : Clock → Clock) (x j : Nat) : (s.modClock f).get x j = s.get x j := rfl
@[simp] theorem State.modClock_blob (f : Clock → Clock) (x j : Nat) : (s.modClock f).blob x j = s.blob x j := rfl

/-! ### putPort -/

@[simp] theorem State.putPort_pending (p : Nat) (q : Port) : (s.putPort p q).pending = s.pending := rfl
@[simp] theorem State.putPort_regs (p : Nat) (q : Port) : (s.putPort p q).regs = s.regs := rfl
@[simp] theorem State.putPort_blobs (p : Nat) (q : Port) : (s.putPort p q).blobs = s.blobs := rfl
@[simp] theorem State.putPort_clock (p : Nat) (q : Port) : (s.putPort p q).clock = s.clock := rfl
@[simp] theorem State.putPort_sched (p : Nat) (q : Port) : (s.putPort p q).sched = { s.sched with ports := Tbl.put s.sched.ports p q } := rfl
@[simp] theorem State.putPort_persist (p : Nat) (q : Port) : (s.putPort p q).persist = s.persist := rfl
@[simp] theorem State.putPort_gov (p : Nat) (q : Port) : (s.putPort p q).gov = s.gov := rfl
@[simp] theorem State.putPort_keep (p : Nat) (q : Port) : (s.putPort p q).keep = s.keep := rfl
@[simp] theorem State.putPort_stop (p : Nat) (q : Port) : (s.putPort p q).stop = s.stop := rfl
@[simp] theorem State.putPort_restore (p : Nat) (q : Port) : (s.putPort p q).restore = s.restore := rfl
@[simp] theorem State.putPort_append (p : Nat) (q : Port) : (s.putPort p q).append = s.append := rfl
@[simp] theorem State.putPort_mirror (p : Nat) (q : Port) : (s.putPort p q).mirror = s.mirror := rfl
@[simp] theorem State.putPort_carriers (p : Nat) (q : Port) : (s.putPort p q).carriers = s.carriers := rfl
@[simp] theorem State.putPort_links (p : Nat) (q : Port) : (s.putPort p q).links = s.links := rfl
@[simp] theorem State.putPort_training (p : Nat) (q : Port) : (s.putPort p q).training = s.training := rfl
@[simp] theorem State.putPort_lanes (p : Nat) (q : Port) : (s.putPort p q).lanes = s.lanes := rfl
@[simp] theorem State.putPort_line (p : Nat) (q : Port) : (s.putPort p q).line = s.line := rfl
@[simp] theorem State.putPort_host (p : Nat) (q : Port) : (s.putPort p q).host = s.host := rfl
@[simp] theorem State.putPort_resets (p : Nat) (q : Port) : (s.putPort p q).resets = s.resets := rfl
@[simp] theorem State.putPort_events (p : Nat) (q : Port) : (s.putPort p q).events = s.events := rfl
@[simp] theorem State.putPort_dma (p : Nat) (q : Port) : (s.putPort p q).dma = s.dma := rfl
@[simp] theorem State.putPort_power (p : Nat) (q : Port) : (s.putPort p q).power = s.power := rfl
@[simp] theorem State.putPort_security (p : Nat) (q : Port) : (s.putPort p q).security = s.security := rfl
@[simp] theorem State.putPort_lexicon (p : Nat) (q : Port) : (s.putPort p q).lexicon = s.lexicon := rfl
@[simp] theorem State.putPort_pins (p : Nat) (q : Port) : (s.putPort p q).pins = s.pins := rfl
@[simp] theorem State.putPort_draws (p : Nat) (q : Port) : (s.putPort p q).draws = s.draws := rfl
@[simp] theorem State.putPort_outbox (p : Nat) (q : Port) : (s.putPort p q).outbox = s.outbox := rfl
@[simp] theorem State.putPort_get (p : Nat) (q : Port) (x j : Nat) : (s.putPort p q).get x j = s.get x j := rfl
@[simp] theorem State.putPort_blob (p : Nat) (q : Port) (x j : Nat) : (s.putPort p q).blob x j = s.blob x j := rfl

/-! ### putBucket -/

@[simp] theorem State.putBucket_pending (k : Nat) (b : Bucket) : (s.putBucket k b).pending = s.pending := rfl
@[simp] theorem State.putBucket_regs (k : Nat) (b : Bucket) : (s.putBucket k b).regs = s.regs := rfl
@[simp] theorem State.putBucket_blobs (k : Nat) (b : Bucket) : (s.putBucket k b).blobs = s.blobs := rfl
@[simp] theorem State.putBucket_clock (k : Nat) (b : Bucket) : (s.putBucket k b).clock = s.clock := rfl
@[simp] theorem State.putBucket_sched (k : Nat) (b : Bucket) : (s.putBucket k b).sched = { s.sched with buckets := Tbl.put s.sched.buckets k b } := rfl
@[simp] theorem State.putBucket_persist (k : Nat) (b : Bucket) : (s.putBucket k b).persist = s.persist := rfl
@[simp] theorem State.putBucket_gov (k : Nat) (b : Bucket) : (s.putBucket k b).gov = s.gov := rfl
@[simp] theorem State.putBucket_keep (k : Nat) (b : Bucket) : (s.putBucket k b).keep = s.keep := rfl
@[simp] theorem State.putBucket_stop (k : Nat) (b : Bucket) : (s.putBucket k b).stop = s.stop := rfl
@[simp] theorem State.putBucket_restore (k : Nat) (b : Bucket) : (s.putBucket k b).restore = s.restore := rfl
@[simp] theorem State.putBucket_append (k : Nat) (b : Bucket) : (s.putBucket k b).append = s.append := rfl
@[simp] theorem State.putBucket_mirror (k : Nat) (b : Bucket) : (s.putBucket k b).mirror = s.mirror := rfl
@[simp] theorem State.putBucket_carriers (k : Nat) (b : Bucket) : (s.putBucket k b).carriers = s.carriers := rfl
@[simp] theorem State.putBucket_links (k : Nat) (b : Bucket) : (s.putBucket k b).links = s.links := rfl
@[simp] theorem State.putBucket_training (k : Nat) (b : Bucket) : (s.putBucket k b).training = s.training := rfl
@[simp] theorem State.putBucket_lanes (k : Nat) (b : Bucket) : (s.putBucket k b).lanes = s.lanes := rfl
@[simp] theorem State.putBucket_line (k : Nat) (b : Bucket) : (s.putBucket k b).line = s.line := rfl
@[simp] theorem State.putBucket_host (k : Nat) (b : Bucket) : (s.putBucket k b).host = s.host := rfl
@[simp] theorem State.putBucket_resets (k : Nat) (b : Bucket) : (s.putBucket k b).resets = s.resets := rfl
@[simp] theorem State.putBucket_events (k : Nat) (b : Bucket) : (s.putBucket k b).events = s.events := rfl
@[simp] theorem State.putBucket_dma (k : Nat) (b : Bucket) : (s.putBucket k b).dma = s.dma := rfl
@[simp] theorem State.putBucket_power (k : Nat) (b : Bucket) : (s.putBucket k b).power = s.power := rfl
@[simp] theorem State.putBucket_security (k : Nat) (b : Bucket) : (s.putBucket k b).security = s.security := rfl
@[simp] theorem State.putBucket_lexicon (k : Nat) (b : Bucket) : (s.putBucket k b).lexicon = s.lexicon := rfl
@[simp] theorem State.putBucket_pins (k : Nat) (b : Bucket) : (s.putBucket k b).pins = s.pins := rfl
@[simp] theorem State.putBucket_draws (k : Nat) (b : Bucket) : (s.putBucket k b).draws = s.draws := rfl
@[simp] theorem State.putBucket_outbox (k : Nat) (b : Bucket) : (s.putBucket k b).outbox = s.outbox := rfl
@[simp] theorem State.putBucket_get (k : Nat) (b : Bucket) (x j : Nat) : (s.putBucket k b).get x j = s.get x j := rfl
@[simp] theorem State.putBucket_blob (k : Nat) (b : Bucket) (x j : Nat) : (s.putBucket k b).blob x j = s.blob x j := rfl

/-! ### modPersist -/

@[simp] theorem State.modPersist_pending (f : Persist → Persist) : (s.modPersist f).pending = s.pending := rfl
@[simp] theorem State.modPersist_regs (f : Persist → Persist) : (s.modPersist f).regs = s.regs := rfl
@[simp] theorem State.modPersist_blobs (f : Persist → Persist) : (s.modPersist f).blobs = s.blobs := rfl
@[simp] theorem State.modPersist_clock (f : Persist → Persist) : (s.modPersist f).clock = s.clock := rfl
@[simp] theorem State.modPersist_sched (f : Persist → Persist) : (s.modPersist f).sched = s.sched := rfl
@[simp] theorem State.modPersist_persist (f : Persist → Persist) : (s.modPersist f).persist = f s.persist := rfl
@[simp] theorem State.modPersist_gov (f : Persist → Persist) : (s.modPersist f).gov = s.gov := rfl
@[simp] theorem State.modPersist_keep (f : Persist → Persist) : (s.modPersist f).keep = s.keep := rfl
@[simp] theorem State.modPersist_stop (f : Persist → Persist) : (s.modPersist f).stop = s.stop := rfl
@[simp] theorem State.modPersist_restore (f : Persist → Persist) : (s.modPersist f).restore = s.restore := rfl
@[simp] theorem State.modPersist_append (f : Persist → Persist) : (s.modPersist f).append = s.append := rfl
@[simp] theorem State.modPersist_mirror (f : Persist → Persist) : (s.modPersist f).mirror = s.mirror := rfl
@[simp] theorem State.modPersist_carriers (f : Persist → Persist) : (s.modPersist f).carriers = s.carriers := rfl
@[simp] theorem State.modPersist_links (f : Persist → Persist) : (s.modPersist f).links = s.links := rfl
@[simp] theorem State.modPersist_training (f : Persist → Persist) : (s.modPersist f).training = s.training := rfl
@[simp] theorem State.modPersist_lanes (f : Persist → Persist) : (s.modPersist f).lanes = s.lanes := rfl
@[simp] theorem State.modPersist_line (f : Persist → Persist) : (s.modPersist f).line = s.line := rfl
@[simp] theorem State.modPersist_host (f : Persist → Persist) : (s.modPersist f).host = s.host := rfl
@[simp] theorem State.modPersist_resets (f : Persist → Persist) : (s.modPersist f).resets = s.resets := rfl
@[simp] theorem State.modPersist_events (f : Persist → Persist) : (s.modPersist f).events = s.events := rfl
@[simp] theorem State.modPersist_dma (f : Persist → Persist) : (s.modPersist f).dma = s.dma := rfl
@[simp] theorem State.modPersist_power (f : Persist → Persist) : (s.modPersist f).power = s.power := rfl
@[simp] theorem State.modPersist_security (f : Persist → Persist) : (s.modPersist f).security = s.security := rfl
@[simp] theorem State.modPersist_lexicon (f : Persist → Persist) : (s.modPersist f).lexicon = s.lexicon := rfl
@[simp] theorem State.modPersist_pins (f : Persist → Persist) : (s.modPersist f).pins = s.pins := rfl
@[simp] theorem State.modPersist_draws (f : Persist → Persist) : (s.modPersist f).draws = s.draws := rfl
@[simp] theorem State.modPersist_outbox (f : Persist → Persist) : (s.modPersist f).outbox = s.outbox := rfl
@[simp] theorem State.modPersist_get (f : Persist → Persist) (x j : Nat) : (s.modPersist f).get x j = s.get x j := rfl
@[simp] theorem State.modPersist_blob (f : Persist → Persist) (x j : Nat) : (s.modPersist f).blob x j = s.blob x j := rfl

/-! ### putGov -/

@[simp] theorem State.putGov_pending (c : Nat) (g : GovCar) : (s.putGov c g).pending = s.pending := rfl
@[simp] theorem State.putGov_regs (c : Nat) (g : GovCar) : (s.putGov c g).regs = s.regs := rfl
@[simp] theorem State.putGov_blobs (c : Nat) (g : GovCar) : (s.putGov c g).blobs = s.blobs := rfl
@[simp] theorem State.putGov_clock (c : Nat) (g : GovCar) : (s.putGov c g).clock = s.clock := rfl
@[simp] theorem State.putGov_sched (c : Nat) (g : GovCar) : (s.putGov c g).sched = s.sched := rfl
@[simp] theorem State.putGov_persist (c : Nat) (g : GovCar) : (s.putGov c g).persist = s.persist := rfl
@[simp] theorem State.putGov_gov (c : Nat) (g : GovCar) : (s.putGov c g).gov = Tbl.put s.gov c g := rfl
@[simp] theorem State.putGov_keep (c : Nat) (g : GovCar) : (s.putGov c g).keep = s.keep := rfl
@[simp] theorem State.putGov_stop (c : Nat) (g : GovCar) : (s.putGov c g).stop = s.stop := rfl
@[simp] theorem State.putGov_restore (c : Nat) (g : GovCar) : (s.putGov c g).restore = s.restore := rfl
@[simp] theorem State.putGov_append (c : Nat) (g : GovCar) : (s.putGov c g).append = s.append := rfl
@[simp] theorem State.putGov_mirror (c : Nat) (g : GovCar) : (s.putGov c g).mirror = s.mirror := rfl
@[simp] theorem State.putGov_carriers (c : Nat) (g : GovCar) : (s.putGov c g).carriers = s.carriers := rfl
@[simp] theorem State.putGov_links (c : Nat) (g : GovCar) : (s.putGov c g).links = s.links := rfl
@[simp] theorem State.putGov_training (c : Nat) (g : GovCar) : (s.putGov c g).training = s.training := rfl
@[simp] theorem State.putGov_lanes (c : Nat) (g : GovCar) : (s.putGov c g).lanes = s.lanes := rfl
@[simp] theorem State.putGov_line (c : Nat) (g : GovCar) : (s.putGov c g).line = s.line := rfl
@[simp] theorem State.putGov_host (c : Nat) (g : GovCar) : (s.putGov c g).host = s.host := rfl
@[simp] theorem State.putGov_resets (c : Nat) (g : GovCar) : (s.putGov c g).resets = s.resets := rfl
@[simp] theorem State.putGov_events (c : Nat) (g : GovCar) : (s.putGov c g).events = s.events := rfl
@[simp] theorem State.putGov_dma (c : Nat) (g : GovCar) : (s.putGov c g).dma = s.dma := rfl
@[simp] theorem State.putGov_power (c : Nat) (g : GovCar) : (s.putGov c g).power = s.power := rfl
@[simp] theorem State.putGov_security (c : Nat) (g : GovCar) : (s.putGov c g).security = s.security := rfl
@[simp] theorem State.putGov_lexicon (c : Nat) (g : GovCar) : (s.putGov c g).lexicon = s.lexicon := rfl
@[simp] theorem State.putGov_pins (c : Nat) (g : GovCar) : (s.putGov c g).pins = s.pins := rfl
@[simp] theorem State.putGov_draws (c : Nat) (g : GovCar) : (s.putGov c g).draws = s.draws := rfl
@[simp] theorem State.putGov_outbox (c : Nat) (g : GovCar) : (s.putGov c g).outbox = s.outbox := rfl
@[simp] theorem State.putGov_get (c : Nat) (g : GovCar) (x j : Nat) : (s.putGov c g).get x j = s.get x j := rfl
@[simp] theorem State.putGov_blob (c : Nat) (g : GovCar) (x j : Nat) : (s.putGov c g).blob x j = s.blob x j := rfl

/-! ### modKeep -/

@[simp] theorem State.modKeep_pending (f : Keep → Keep) : (s.modKeep f).pending = s.pending := rfl
@[simp] theorem State.modKeep_regs (f : Keep → Keep) : (s.modKeep f).regs = s.regs := rfl
@[simp] theorem State.modKeep_blobs (f : Keep → Keep) : (s.modKeep f).blobs = s.blobs := rfl
@[simp] theorem State.modKeep_clock (f : Keep → Keep) : (s.modKeep f).clock = s.clock := rfl
@[simp] theorem State.modKeep_sched (f : Keep → Keep) : (s.modKeep f).sched = s.sched := rfl
@[simp] theorem State.modKeep_persist (f : Keep → Keep) : (s.modKeep f).persist = s.persist := rfl
@[simp] theorem State.modKeep_gov (f : Keep → Keep) : (s.modKeep f).gov = s.gov := rfl
@[simp] theorem State.modKeep_keep (f : Keep → Keep) : (s.modKeep f).keep = f s.keep := rfl
@[simp] theorem State.modKeep_stop (f : Keep → Keep) : (s.modKeep f).stop = s.stop := rfl
@[simp] theorem State.modKeep_restore (f : Keep → Keep) : (s.modKeep f).restore = s.restore := rfl
@[simp] theorem State.modKeep_append (f : Keep → Keep) : (s.modKeep f).append = s.append := rfl
@[simp] theorem State.modKeep_mirror (f : Keep → Keep) : (s.modKeep f).mirror = s.mirror := rfl
@[simp] theorem State.modKeep_carriers (f : Keep → Keep) : (s.modKeep f).carriers = s.carriers := rfl
@[simp] theorem State.modKeep_links (f : Keep → Keep) : (s.modKeep f).links = s.links := rfl
@[simp] theorem State.modKeep_training (f : Keep → Keep) : (s.modKeep f).training = s.training := rfl
@[simp] theorem State.modKeep_lanes (f : Keep → Keep) : (s.modKeep f).lanes = s.lanes := rfl
@[simp] theorem State.modKeep_line (f : Keep → Keep) : (s.modKeep f).line = s.line := rfl
@[simp] theorem State.modKeep_host (f : Keep → Keep) : (s.modKeep f).host = s.host := rfl
@[simp] theorem State.modKeep_resets (f : Keep → Keep) : (s.modKeep f).resets = s.resets := rfl
@[simp] theorem State.modKeep_events (f : Keep → Keep) : (s.modKeep f).events = s.events := rfl
@[simp] theorem State.modKeep_dma (f : Keep → Keep) : (s.modKeep f).dma = s.dma := rfl
@[simp] theorem State.modKeep_power (f : Keep → Keep) : (s.modKeep f).power = s.power := rfl
@[simp] theorem State.modKeep_security (f : Keep → Keep) : (s.modKeep f).security = s.security := rfl
@[simp] theorem State.modKeep_lexicon (f : Keep → Keep) : (s.modKeep f).lexicon = s.lexicon := rfl
@[simp] theorem State.modKeep_pins (f : Keep → Keep) : (s.modKeep f).pins = s.pins := rfl
@[simp] theorem State.modKeep_draws (f : Keep → Keep) : (s.modKeep f).draws = s.draws := rfl
@[simp] theorem State.modKeep_outbox (f : Keep → Keep) : (s.modKeep f).outbox = s.outbox := rfl
@[simp] theorem State.modKeep_get (f : Keep → Keep) (x j : Nat) : (s.modKeep f).get x j = s.get x j := rfl
@[simp] theorem State.modKeep_blob (f : Keep → Keep) (x j : Nat) : (s.modKeep f).blob x j = s.blob x j := rfl

/-! ### modRestore -/

@[simp] theorem State.modRestore_pending (f : Restore → Restore) : (s.modRestore f).pending = s.pending := rfl
@[simp] theorem State.modRestore_regs (f : Restore → Restore) : (s.modRestore f).regs = s.regs := rfl
@[simp] theorem State.modRestore_blobs (f : Restore → Restore) : (s.modRestore f).blobs = s.blobs := rfl
@[simp] theorem State.modRestore_clock (f : Restore → Restore) : (s.modRestore f).clock = s.clock := rfl
@[simp] theorem State.modRestore_sched (f : Restore → Restore) : (s.modRestore f).sched = s.sched := rfl
@[simp] theorem State.modRestore_persist (f : Restore → Restore) : (s.modRestore f).persist = s.persist := rfl
@[simp] theorem State.modRestore_gov (f : Restore → Restore) : (s.modRestore f).gov = s.gov := rfl
@[simp] theorem State.modRestore_keep (f : Restore → Restore) : (s.modRestore f).keep = s.keep := rfl
@[simp] theorem State.modRestore_stop (f : Restore → Restore) : (s.modRestore f).stop = s.stop := rfl
@[simp] theorem State.modRestore_restore (f : Restore → Restore) : (s.modRestore f).restore = f s.restore := rfl
@[simp] theorem State.modRestore_append (f : Restore → Restore) : (s.modRestore f).append = s.append := rfl
@[simp] theorem State.modRestore_mirror (f : Restore → Restore) : (s.modRestore f).mirror = s.mirror := rfl
@[simp] theorem State.modRestore_carriers (f : Restore → Restore) : (s.modRestore f).carriers = s.carriers := rfl
@[simp] theorem State.modRestore_links (f : Restore → Restore) : (s.modRestore f).links = s.links := rfl
@[simp] theorem State.modRestore_training (f : Restore → Restore) : (s.modRestore f).training = s.training := rfl
@[simp] theorem State.modRestore_lanes (f : Restore → Restore) : (s.modRestore f).lanes = s.lanes := rfl
@[simp] theorem State.modRestore_line (f : Restore → Restore) : (s.modRestore f).line = s.line := rfl
@[simp] theorem State.modRestore_host (f : Restore → Restore) : (s.modRestore f).host = s.host := rfl
@[simp] theorem State.modRestore_resets (f : Restore → Restore) : (s.modRestore f).resets = s.resets := rfl
@[simp] theorem State.modRestore_events (f : Restore → Restore) : (s.modRestore f).events = s.events := rfl
@[simp] theorem State.modRestore_dma (f : Restore → Restore) : (s.modRestore f).dma = s.dma := rfl
@[simp] theorem State.modRestore_power (f : Restore → Restore) : (s.modRestore f).power = s.power := rfl
@[simp] theorem State.modRestore_security (f : Restore → Restore) : (s.modRestore f).security = s.security := rfl
@[simp] theorem State.modRestore_lexicon (f : Restore → Restore) : (s.modRestore f).lexicon = s.lexicon := rfl
@[simp] theorem State.modRestore_pins (f : Restore → Restore) : (s.modRestore f).pins = s.pins := rfl
@[simp] theorem State.modRestore_draws (f : Restore → Restore) : (s.modRestore f).draws = s.draws := rfl
@[simp] theorem State.modRestore_outbox (f : Restore → Restore) : (s.modRestore f).outbox = s.outbox := rfl
@[simp] theorem State.modRestore_get (f : Restore → Restore) (x j : Nat) : (s.modRestore f).get x j = s.get x j := rfl
@[simp] theorem State.modRestore_blob (f : Restore → Restore) (x j : Nat) : (s.modRestore f).blob x j = s.blob x j := rfl

/-! ### modAppend -/

@[simp] theorem State.modAppend_pending (f : Append → Append) : (s.modAppend f).pending = s.pending := rfl
@[simp] theorem State.modAppend_regs (f : Append → Append) : (s.modAppend f).regs = s.regs := rfl
@[simp] theorem State.modAppend_blobs (f : Append → Append) : (s.modAppend f).blobs = s.blobs := rfl
@[simp] theorem State.modAppend_clock (f : Append → Append) : (s.modAppend f).clock = s.clock := rfl
@[simp] theorem State.modAppend_sched (f : Append → Append) : (s.modAppend f).sched = s.sched := rfl
@[simp] theorem State.modAppend_persist (f : Append → Append) : (s.modAppend f).persist = s.persist := rfl
@[simp] theorem State.modAppend_gov (f : Append → Append) : (s.modAppend f).gov = s.gov := rfl
@[simp] theorem State.modAppend_keep (f : Append → Append) : (s.modAppend f).keep = s.keep := rfl
@[simp] theorem State.modAppend_stop (f : Append → Append) : (s.modAppend f).stop = s.stop := rfl
@[simp] theorem State.modAppend_restore (f : Append → Append) : (s.modAppend f).restore = s.restore := rfl
@[simp] theorem State.modAppend_append (f : Append → Append) : (s.modAppend f).append = f s.append := rfl
@[simp] theorem State.modAppend_mirror (f : Append → Append) : (s.modAppend f).mirror = s.mirror := rfl
@[simp] theorem State.modAppend_carriers (f : Append → Append) : (s.modAppend f).carriers = s.carriers := rfl
@[simp] theorem State.modAppend_links (f : Append → Append) : (s.modAppend f).links = s.links := rfl
@[simp] theorem State.modAppend_training (f : Append → Append) : (s.modAppend f).training = s.training := rfl
@[simp] theorem State.modAppend_lanes (f : Append → Append) : (s.modAppend f).lanes = s.lanes := rfl
@[simp] theorem State.modAppend_line (f : Append → Append) : (s.modAppend f).line = s.line := rfl
@[simp] theorem State.modAppend_host (f : Append → Append) : (s.modAppend f).host = s.host := rfl
@[simp] theorem State.modAppend_resets (f : Append → Append) : (s.modAppend f).resets = s.resets := rfl
@[simp] theorem State.modAppend_events (f : Append → Append) : (s.modAppend f).events = s.events := rfl
@[simp] theorem State.modAppend_dma (f : Append → Append) : (s.modAppend f).dma = s.dma := rfl
@[simp] theorem State.modAppend_power (f : Append → Append) : (s.modAppend f).power = s.power := rfl
@[simp] theorem State.modAppend_security (f : Append → Append) : (s.modAppend f).security = s.security := rfl
@[simp] theorem State.modAppend_lexicon (f : Append → Append) : (s.modAppend f).lexicon = s.lexicon := rfl
@[simp] theorem State.modAppend_pins (f : Append → Append) : (s.modAppend f).pins = s.pins := rfl
@[simp] theorem State.modAppend_draws (f : Append → Append) : (s.modAppend f).draws = s.draws := rfl
@[simp] theorem State.modAppend_outbox (f : Append → Append) : (s.modAppend f).outbox = s.outbox := rfl
@[simp] theorem State.modAppend_get (f : Append → Append) (x j : Nat) : (s.modAppend f).get x j = s.get x j := rfl
@[simp] theorem State.modAppend_blob (f : Append → Append) (x j : Nat) : (s.modAppend f).blob x j = s.blob x j := rfl

/-! ### modMirror -/

@[simp] theorem State.modMirror_pending (f : Mirror → Mirror) : (s.modMirror f).pending = s.pending := rfl
@[simp] theorem State.modMirror_regs (f : Mirror → Mirror) : (s.modMirror f).regs = s.regs := rfl
@[simp] theorem State.modMirror_blobs (f : Mirror → Mirror) : (s.modMirror f).blobs = s.blobs := rfl
@[simp] theorem State.modMirror_clock (f : Mirror → Mirror) : (s.modMirror f).clock = s.clock := rfl
@[simp] theorem State.modMirror_sched (f : Mirror → Mirror) : (s.modMirror f).sched = s.sched := rfl
@[simp] theorem State.modMirror_persist (f : Mirror → Mirror) : (s.modMirror f).persist = s.persist := rfl
@[simp] theorem State.modMirror_gov (f : Mirror → Mirror) : (s.modMirror f).gov = s.gov := rfl
@[simp] theorem State.modMirror_keep (f : Mirror → Mirror) : (s.modMirror f).keep = s.keep := rfl
@[simp] theorem State.modMirror_stop (f : Mirror → Mirror) : (s.modMirror f).stop = s.stop := rfl
@[simp] theorem State.modMirror_restore (f : Mirror → Mirror) : (s.modMirror f).restore = s.restore := rfl
@[simp] theorem State.modMirror_append (f : Mirror → Mirror) : (s.modMirror f).append = s.append := rfl
@[simp] theorem State.modMirror_mirror (f : Mirror → Mirror) : (s.modMirror f).mirror = f s.mirror := rfl
@[simp] theorem State.modMirror_carriers (f : Mirror → Mirror) : (s.modMirror f).carriers = s.carriers := rfl
@[simp] theorem State.modMirror_links (f : Mirror → Mirror) : (s.modMirror f).links = s.links := rfl
@[simp] theorem State.modMirror_training (f : Mirror → Mirror) : (s.modMirror f).training = s.training := rfl
@[simp] theorem State.modMirror_lanes (f : Mirror → Mirror) : (s.modMirror f).lanes = s.lanes := rfl
@[simp] theorem State.modMirror_line (f : Mirror → Mirror) : (s.modMirror f).line = s.line := rfl
@[simp] theorem State.modMirror_host (f : Mirror → Mirror) : (s.modMirror f).host = s.host := rfl
@[simp] theorem State.modMirror_resets (f : Mirror → Mirror) : (s.modMirror f).resets = s.resets := rfl
@[simp] theorem State.modMirror_events (f : Mirror → Mirror) : (s.modMirror f).events = s.events := rfl
@[simp] theorem State.modMirror_dma (f : Mirror → Mirror) : (s.modMirror f).dma = s.dma := rfl
@[simp] theorem State.modMirror_power (f : Mirror → Mirror) : (s.modMirror f).power = s.power := rfl
@[simp] theorem State.modMirror_security (f : Mirror → Mirror) : (s.modMirror f).security = s.security := rfl
@[simp] theorem State.modMirror_lexicon (f : Mirror → Mirror) : (s.modMirror f).lexicon = s.lexicon := rfl
@[simp] theorem State.modMirror_pins (f : Mirror → Mirror) : (s.modMirror f).pins = s.pins := rfl
@[simp] theorem State.modMirror_draws (f : Mirror → Mirror) : (s.modMirror f).draws = s.draws := rfl
@[simp] theorem State.modMirror_outbox (f : Mirror → Mirror) : (s.modMirror f).outbox = s.outbox := rfl
@[simp] theorem State.modMirror_get (f : Mirror → Mirror) (x j : Nat) : (s.modMirror f).get x j = s.get x j := rfl
@[simp] theorem State.modMirror_blob (f : Mirror → Mirror) (x j : Nat) : (s.modMirror f).blob x j = s.blob x j := rfl

/-! ### modCar -/

@[simp] theorem State.modCar_pending (c : Nat) (f : Carrier → Carrier) : (s.modCar c f).pending = s.pending := rfl
@[simp] theorem State.modCar_regs (c : Nat) (f : Carrier → Carrier) : (s.modCar c f).regs = s.regs := rfl
@[simp] theorem State.modCar_blobs (c : Nat) (f : Carrier → Carrier) : (s.modCar c f).blobs = s.blobs := rfl
@[simp] theorem State.modCar_clock (c : Nat) (f : Carrier → Carrier) : (s.modCar c f).clock = s.clock := rfl
@[simp] theorem State.modCar_sched (c : Nat) (f : Carrier → Carrier) : (s.modCar c f).sched = s.sched := rfl
@[simp] theorem State.modCar_persist (c : Nat) (f : Carrier → Carrier) : (s.modCar c f).persist = s.persist := rfl
@[simp] theorem State.modCar_gov (c : Nat) (f : Carrier → Carrier) : (s.modCar c f).gov = s.gov := rfl
@[simp] theorem State.modCar_keep (c : Nat) (f : Carrier → Carrier) : (s.modCar c f).keep = s.keep := rfl
@[simp] theorem State.modCar_stop (c : Nat) (f : Carrier → Carrier) : (s.modCar c f).stop = s.stop := rfl
@[simp] theorem State.modCar_restore (c : Nat) (f : Carrier → Carrier) : (s.modCar c f).restore = s.restore := rfl
@[simp] theorem State.modCar_append (c : Nat) (f : Carrier → Carrier) : (s.modCar c f).append = s.append := rfl
@[simp] theorem State.modCar_mirror (c : Nat) (f : Carrier → Carrier) : (s.modCar c f).mirror = s.mirror := rfl
@[simp] theorem State.modCar_carriers (c : Nat) (f : Carrier → Carrier) : (s.modCar c f).carriers = Tbl.put s.carriers c (f (s.car c)) := rfl
@[simp] theorem State.modCar_links (c : Nat) (f : Carrier → Carrier) : (s.modCar c f).links = s.links := rfl
@[simp] theorem State.modCar_training (c : Nat) (f : Carrier → Carrier) : (s.modCar c f).training = s.training := rfl
@[simp] theorem State.modCar_lanes (c : Nat) (f : Carrier → Carrier) : (s.modCar c f).lanes = s.lanes := rfl
@[simp] theorem State.modCar_line (c : Nat) (f : Carrier → Carrier) : (s.modCar c f).line = s.line := rfl
@[simp] theorem State.modCar_host (c : Nat) (f : Carrier → Carrier) : (s.modCar c f).host = s.host := rfl
@[simp] theorem State.modCar_resets (c : Nat) (f : Carrier → Carrier) : (s.modCar c f).resets = s.resets := rfl
@[simp] theorem State.modCar_events (c : Nat) (f : Carrier → Carrier) : (s.modCar c f).events = s.events := rfl
@[simp] theorem State.modCar_dma (c : Nat) (f : Carrier → Carrier) : (s.modCar c f).dma = s.dma := rfl
@[simp] theorem State.modCar_power (c : Nat) (f : Carrier → Carrier) : (s.modCar c f).power = s.power := rfl
@[simp] theorem State.modCar_security (c : Nat) (f : Carrier → Carrier) : (s.modCar c f).security = s.security := rfl
@[simp] theorem State.modCar_lexicon (c : Nat) (f : Carrier → Carrier) : (s.modCar c f).lexicon = s.lexicon := rfl
@[simp] theorem State.modCar_pins (c : Nat) (f : Carrier → Carrier) : (s.modCar c f).pins = s.pins := rfl
@[simp] theorem State.modCar_draws (c : Nat) (f : Carrier → Carrier) : (s.modCar c f).draws = s.draws := rfl
@[simp] theorem State.modCar_outbox (c : Nat) (f : Carrier → Carrier) : (s.modCar c f).outbox = s.outbox := rfl
@[simp] theorem State.modCar_get (c : Nat) (f : Carrier → Carrier) (x j : Nat) : (s.modCar c f).get x j = s.get x j := rfl
@[simp] theorem State.modCar_blob (c : Nat) (f : Carrier → Carrier) (x j : Nat) : (s.modCar c f).blob x j = s.blob x j := rfl

/-! ### putLink -/

@[simp] theorem State.putLink_pending (u : Nat) (l : Link) : (s.putLink u l).pending = s.pending := rfl
@[simp] theorem State.putLink_regs (u : Nat) (l : Link) : (s.putLink u l).regs = s.regs := rfl
@[simp] theorem State.putLink_blobs (u : Nat) (l : Link) : (s.putLink u l).blobs = s.blobs := rfl
@[simp] theorem State.putLink_clock (u : Nat) (l : Link) : (s.putLink u l).clock = s.clock := rfl
@[simp] theorem State.putLink_sched (u : Nat) (l : Link) : (s.putLink u l).sched = s.sched := rfl
@[simp] theorem State.putLink_persist (u : Nat) (l : Link) : (s.putLink u l).persist = s.persist := rfl
@[simp] theorem State.putLink_gov (u : Nat) (l : Link) : (s.putLink u l).gov = s.gov := rfl
@[simp] theorem State.putLink_keep (u : Nat) (l : Link) : (s.putLink u l).keep = s.keep := rfl
@[simp] theorem State.putLink_stop (u : Nat) (l : Link) : (s.putLink u l).stop = s.stop := rfl
@[simp] theorem State.putLink_restore (u : Nat) (l : Link) : (s.putLink u l).restore = s.restore := rfl
@[simp] theorem State.putLink_append (u : Nat) (l : Link) : (s.putLink u l).append = s.append := rfl
@[simp] theorem State.putLink_mirror (u : Nat) (l : Link) : (s.putLink u l).mirror = s.mirror := rfl
@[simp] theorem State.putLink_carriers (u : Nat) (l : Link) : (s.putLink u l).carriers = s.carriers := rfl
@[simp] theorem State.putLink_links (u : Nat) (l : Link) : (s.putLink u l).links = Tbl.put s.links u l := rfl
@[simp] theorem State.putLink_training (u : Nat) (l : Link) : (s.putLink u l).training = s.training := rfl
@[simp] theorem State.putLink_lanes (u : Nat) (l : Link) : (s.putLink u l).lanes = s.lanes := rfl
@[simp] theorem State.putLink_line (u : Nat) (l : Link) : (s.putLink u l).line = s.line := rfl
@[simp] theorem State.putLink_host (u : Nat) (l : Link) : (s.putLink u l).host = s.host := rfl
@[simp] theorem State.putLink_resets (u : Nat) (l : Link) : (s.putLink u l).resets = s.resets := rfl
@[simp] theorem State.putLink_events (u : Nat) (l : Link) : (s.putLink u l).events = s.events := rfl
@[simp] theorem State.putLink_dma (u : Nat) (l : Link) : (s.putLink u l).dma = s.dma := rfl
@[simp] theorem State.putLink_power (u : Nat) (l : Link) : (s.putLink u l).power = s.power := rfl
@[simp] theorem State.putLink_security (u : Nat) (l : Link) : (s.putLink u l).security = s.security := rfl
@[simp] theorem State.putLink_lexicon (u : Nat) (l : Link) : (s.putLink u l).lexicon = s.lexicon := rfl
@[simp] theorem State.putLink_pins (u : Nat) (l : Link) : (s.putLink u l).pins = s.pins := rfl
@[simp] theorem State.putLink_draws (u : Nat) (l : Link) : (s.putLink u l).draws = s.draws := rfl
@[simp] theorem State.putLink_outbox (u : Nat) (l : Link) : (s.putLink u l).outbox = s.outbox := rfl
@[simp] theorem State.putLink_get (u : Nat) (l : Link) (x j : Nat) : (s.putLink u l).get x j = s.get x j := rfl
@[simp] theorem State.putLink_blob (u : Nat) (l : Link) (x j : Nat) : (s.putLink u l).blob x j = s.blob x j := rfl

/-! ### modLink -/

@[simp] theorem State.modLink_pending (u : Nat) (f : Link → Link) : (s.modLink u f).pending = s.pending := rfl
@[simp] theorem State.modLink_regs (u : Nat) (f : Link → Link) : (s.modLink u f).regs = s.regs := rfl
@[simp] theorem State.modLink_blobs (u : Nat) (f : Link → Link) : (s.modLink u f).blobs = s.blobs := rfl
@[simp] theorem State.modLink_clock (u : Nat) (f : Link → Link) : (s.modLink u f).clock = s.clock := rfl
@[simp] theorem State.modLink_sched (u : Nat) (f : Link → Link) : (s.modLink u f).sched = s.sched := rfl
@[simp] theorem State.modLink_persist (u : Nat) (f : Link → Link) : (s.modLink u f).persist = s.persist := rfl
@[simp] theorem State.modLink_gov (u : Nat) (f : Link → Link) : (s.modLink u f).gov = s.gov := rfl
@[simp] theorem State.modLink_keep (u : Nat) (f : Link → Link) : (s.modLink u f).keep = s.keep := rfl
@[simp] theorem State.modLink_stop (u : Nat) (f : Link → Link) : (s.modLink u f).stop = s.stop := rfl
@[simp] theorem State.modLink_restore (u : Nat) (f : Link → Link) : (s.modLink u f).restore = s.restore := rfl
@[simp] theorem State.modLink_append (u : Nat) (f : Link → Link) : (s.modLink u f).append = s.append := rfl
@[simp] theorem State.modLink_mirror (u : Nat) (f : Link → Link) : (s.modLink u f).mirror = s.mirror := rfl
@[simp] theorem State.modLink_carriers (u : Nat) (f : Link → Link) : (s.modLink u f).carriers = s.carriers := rfl
@[simp] theorem State.modLink_links (u : Nat) (f : Link → Link) : (s.modLink u f).links = Tbl.put s.links u (f (s.link u)) := rfl
@[simp] theorem State.modLink_training (u : Nat) (f : Link → Link) : (s.modLink u f).training = s.training := rfl
@[simp] theorem State.modLink_lanes (u : Nat) (f : Link → Link) : (s.modLink u f).lanes = s.lanes := rfl
@[simp] theorem State.modLink_line (u : Nat) (f : Link → Link) : (s.modLink u f).line = s.line := rfl
@[simp] theorem State.modLink_host (u : Nat) (f : Link → Link) : (s.modLink u f).host = s.host := rfl
@[simp] theorem State.modLink_resets (u : Nat) (f : Link → Link) : (s.modLink u f).resets = s.resets := rfl
@[simp] theorem State.modLink_events (u : Nat) (f : Link → Link) : (s.modLink u f).events = s.events := rfl
@[simp] theorem State.modLink_dma (u : Nat) (f : Link → Link) : (s.modLink u f).dma = s.dma := rfl
@[simp] theorem State.modLink_power (u : Nat) (f : Link → Link) : (s.modLink u f).power = s.power := rfl
@[simp] theorem State.modLink_security (u : Nat) (f : Link → Link) : (s.modLink u f).security = s.security := rfl
@[simp] theorem State.modLink_lexicon (u : Nat) (f : Link → Link) : (s.modLink u f).lexicon = s.lexicon := rfl
@[simp] theorem State.modLink_pins (u : Nat) (f : Link → Link) : (s.modLink u f).pins = s.pins := rfl
@[simp] theorem State.modLink_draws (u : Nat) (f : Link → Link) : (s.modLink u f).draws = s.draws := rfl
@[simp] theorem State.modLink_outbox (u : Nat) (f : Link → Link) : (s.modLink u f).outbox = s.outbox := rfl
@[simp] theorem State.modLink_get (u : Nat) (f : Link → Link) (x j : Nat) : (s.modLink u f).get x j = s.get x j := rfl
@[simp] theorem State.modLink_blob (u : Nat) (f : Link → Link) (x j : Nat) : (s.modLink u f).blob x j = s.blob x j := rfl

/-! ### putTrain -/

@[simp] theorem State.putTrain_pending (u : Nat) (t : Training) : (s.putTrain u t).pending = s.pending := rfl
@[simp] theorem State.putTrain_regs (u : Nat) (t : Training) : (s.putTrain u t).regs = s.regs := rfl
@[simp] theorem State.putTrain_blobs (u : Nat) (t : Training) : (s.putTrain u t).blobs = s.blobs := rfl
@[simp] theorem State.putTrain_clock (u : Nat) (t : Training) : (s.putTrain u t).clock = s.clock := rfl
@[simp] theorem State.putTrain_sched (u : Nat) (t : Training) : (s.putTrain u t).sched = s.sched := rfl
@[simp] theorem State.putTrain_persist (u : Nat) (t : Training) : (s.putTrain u t).persist = s.persist := rfl
@[simp] theorem State.putTrain_gov (u : Nat) (t : Training) : (s.putTrain u t).gov = s.gov := rfl
@[simp] theorem State.putTrain_keep (u : Nat) (t : Training) : (s.putTrain u t).keep = s.keep := rfl
@[simp] theorem State.putTrain_stop (u : Nat) (t : Training) : (s.putTrain u t).stop = s.stop := rfl
@[simp] theorem State.putTrain_restore (u : Nat) (t : Training) : (s.putTrain u t).restore = s.restore := rfl
@[simp] theorem State.putTrain_append (u : Nat) (t : Training) : (s.putTrain u t).append = s.append := rfl
@[simp] theorem State.putTrain_mirror (u : Nat) (t : Training) : (s.putTrain u t).mirror = s.mirror := rfl
@[simp] theorem State.putTrain_carriers (u : Nat) (t : Training) : (s.putTrain u t).carriers = s.carriers := rfl
@[simp] theorem State.putTrain_links (u : Nat) (t : Training) : (s.putTrain u t).links = s.links := rfl
@[simp] theorem State.putTrain_training (u : Nat) (t : Training) : (s.putTrain u t).training = Tbl.put s.training u t := rfl
@[simp] theorem State.putTrain_lanes (u : Nat) (t : Training) : (s.putTrain u t).lanes = s.lanes := rfl
@[simp] theorem State.putTrain_line (u : Nat) (t : Training) : (s.putTrain u t).line = s.line := rfl
@[simp] theorem State.putTrain_host (u : Nat) (t : Training) : (s.putTrain u t).host = s.host := rfl
@[simp] theorem State.putTrain_resets (u : Nat) (t : Training) : (s.putTrain u t).resets = s.resets := rfl
@[simp] theorem State.putTrain_events (u : Nat) (t : Training) : (s.putTrain u t).events = s.events := rfl
@[simp] theorem State.putTrain_dma (u : Nat) (t : Training) : (s.putTrain u t).dma = s.dma := rfl
@[simp] theorem State.putTrain_power (u : Nat) (t : Training) : (s.putTrain u t).power = s.power := rfl
@[simp] theorem State.putTrain_security (u : Nat) (t : Training) : (s.putTrain u t).security = s.security := rfl
@[simp] theorem State.putTrain_lexicon (u : Nat) (t : Training) : (s.putTrain u t).lexicon = s.lexicon := rfl
@[simp] theorem State.putTrain_pins (u : Nat) (t : Training) : (s.putTrain u t).pins = s.pins := rfl
@[simp] theorem State.putTrain_draws (u : Nat) (t : Training) : (s.putTrain u t).draws = s.draws := rfl
@[simp] theorem State.putTrain_outbox (u : Nat) (t : Training) : (s.putTrain u t).outbox = s.outbox := rfl
@[simp] theorem State.putTrain_get (u : Nat) (t : Training) (x j : Nat) : (s.putTrain u t).get x j = s.get x j := rfl
@[simp] theorem State.putTrain_blob (u : Nat) (t : Training) (x j : Nat) : (s.putTrain u t).blob x j = s.blob x j := rfl

/-! ### modTrain -/

@[simp] theorem State.modTrain_pending (u : Nat) (f : Training → Training) : (s.modTrain u f).pending = s.pending := rfl
@[simp] theorem State.modTrain_regs (u : Nat) (f : Training → Training) : (s.modTrain u f).regs = s.regs := rfl
@[simp] theorem State.modTrain_blobs (u : Nat) (f : Training → Training) : (s.modTrain u f).blobs = s.blobs := rfl
@[simp] theorem State.modTrain_clock (u : Nat) (f : Training → Training) : (s.modTrain u f).clock = s.clock := rfl
@[simp] theorem State.modTrain_sched (u : Nat) (f : Training → Training) : (s.modTrain u f).sched = s.sched := rfl
@[simp] theorem State.modTrain_persist (u : Nat) (f : Training → Training) : (s.modTrain u f).persist = s.persist := rfl
@[simp] theorem State.modTrain_gov (u : Nat) (f : Training → Training) : (s.modTrain u f).gov = s.gov := rfl
@[simp] theorem State.modTrain_keep (u : Nat) (f : Training → Training) : (s.modTrain u f).keep = s.keep := rfl
@[simp] theorem State.modTrain_stop (u : Nat) (f : Training → Training) : (s.modTrain u f).stop = s.stop := rfl
@[simp] theorem State.modTrain_restore (u : Nat) (f : Training → Training) : (s.modTrain u f).restore = s.restore := rfl
@[simp] theorem State.modTrain_append (u : Nat) (f : Training → Training) : (s.modTrain u f).append = s.append := rfl
@[simp] theorem State.modTrain_mirror (u : Nat) (f : Training → Training) : (s.modTrain u f).mirror = s.mirror := rfl
@[simp] theorem State.modTrain_carriers (u : Nat) (f : Training → Training) : (s.modTrain u f).carriers = s.carriers := rfl
@[simp] theorem State.modTrain_links (u : Nat) (f : Training → Training) : (s.modTrain u f).links = s.links := rfl
@[simp] theorem State.modTrain_training (u : Nat) (f : Training → Training) : (s.modTrain u f).training = Tbl.put s.training u (f (s.train u)) := rfl
@[simp] theorem State.modTrain_lanes (u : Nat) (f : Training → Training) : (s.modTrain u f).lanes = s.lanes := rfl
@[simp] theorem State.modTrain_line (u : Nat) (f : Training → Training) : (s.modTrain u f).line = s.line := rfl
@[simp] theorem State.modTrain_host (u : Nat) (f : Training → Training) : (s.modTrain u f).host = s.host := rfl
@[simp] theorem State.modTrain_resets (u : Nat) (f : Training → Training) : (s.modTrain u f).resets = s.resets := rfl
@[simp] theorem State.modTrain_events (u : Nat) (f : Training → Training) : (s.modTrain u f).events = s.events := rfl
@[simp] theorem State.modTrain_dma (u : Nat) (f : Training → Training) : (s.modTrain u f).dma = s.dma := rfl
@[simp] theorem State.modTrain_power (u : Nat) (f : Training → Training) : (s.modTrain u f).power = s.power := rfl
@[simp] theorem State.modTrain_security (u : Nat) (f : Training → Training) : (s.modTrain u f).security = s.security := rfl
@[simp] theorem State.modTrain_lexicon (u : Nat) (f : Training → Training) : (s.modTrain u f).lexicon = s.lexicon := rfl
@[simp] theorem State.modTrain_pins (u : Nat) (f : Training → Training) : (s.modTrain u f).pins = s.pins := rfl
@[simp] theorem State.modTrain_draws (u : Nat) (f : Training → Training) : (s.modTrain u f).draws = s.draws := rfl
@[simp] theorem State.modTrain_outbox (u : Nat) (f : Training → Training) : (s.modTrain u f).outbox = s.outbox := rfl
@[simp] theorem State.modTrain_get (u : Nat) (f : Training → Training) (x j : Nat) : (s.modTrain u f).get x j = s.get x j := rfl
@[simp] theorem State.modTrain_blob (u : Nat) (f : Training → Training) (x j : Nat) : (s.modTrain u f).blob x j = s.blob x j := rfl

/-! ### modLane -/

@[simp] theorem State.modLane_pending (n : Nat) (f : Lane → Lane) : (s.modLane n f).pending = s.pending := rfl
@[simp] theorem State.modLane_regs (n : Nat) (f : Lane → Lane) : (s.modLane n f).regs = s.regs := rfl
@[simp] theorem State.modLane_blobs (n : Nat) (f : Lane → Lane) : (s.modLane n f).blobs = s.blobs := rfl
@[simp] theorem State.modLane_clock (n : Nat) (f : Lane → Lane) : (s.modLane n f).clock = s.clock := rfl
@[simp] theorem State.modLane_sched (n : Nat) (f : Lane → Lane) : (s.modLane n f).sched = s.sched := rfl
@[simp] theorem State.modLane_persist (n : Nat) (f : Lane → Lane) : (s.modLane n f).persist = s.persist := rfl
@[simp] theorem State.modLane_gov (n : Nat) (f : Lane → Lane) : (s.modLane n f).gov = s.gov := rfl
@[simp] theorem State.modLane_keep (n : Nat) (f : Lane → Lane) : (s.modLane n f).keep = s.keep := rfl
@[simp] theorem State.modLane_stop (n : Nat) (f : Lane → Lane) : (s.modLane n f).stop = s.stop := rfl
@[simp] theorem State.modLane_restore (n : Nat) (f : Lane → Lane) : (s.modLane n f).restore = s.restore := rfl
@[simp] theorem State.modLane_append (n : Nat) (f : Lane → Lane) : (s.modLane n f).append = s.append := rfl
@[simp] theorem State.modLane_mirror (n : Nat) (f : Lane → Lane) : (s.modLane n f).mirror = s.mirror := rfl
@[simp] theorem State.modLane_carriers (n : Nat) (f : Lane → Lane) : (s.modLane n f).carriers = s.carriers := rfl
@[simp] theorem State.modLane_links (n : Nat) (f : Lane → Lane) : (s.modLane n f).links = s.links := rfl
@[simp] theorem State.modLane_training (n : Nat) (f : Lane → Lane) : (s.modLane n f).training = s.training := rfl
@[simp] theorem State.modLane_lanes (n : Nat) (f : Lane → Lane) : (s.modLane n f).lanes = Tbl.put s.lanes n (f (s.lane n)) := rfl
@[simp] theorem State.modLane_line (n : Nat) (f : Lane → Lane) : (s.modLane n f).line = s.line := rfl
@[simp] theorem State.modLane_host (n : Nat) (f : Lane → Lane) : (s.modLane n f).host = s.host := rfl
@[simp] theorem State.modLane_resets (n : Nat) (f : Lane → Lane) : (s.modLane n f).resets = s.resets := rfl
@[simp] theorem State.modLane_events (n : Nat) (f : Lane → Lane) : (s.modLane n f).events = s.events := rfl
@[simp] theorem State.modLane_dma (n : Nat) (f : Lane → Lane) : (s.modLane n f).dma = s.dma := rfl
@[simp] theorem State.modLane_power (n : Nat) (f : Lane → Lane) : (s.modLane n f).power = s.power := rfl
@[simp] theorem State.modLane_security (n : Nat) (f : Lane → Lane) : (s.modLane n f).security = s.security := rfl
@[simp] theorem State.modLane_lexicon (n : Nat) (f : Lane → Lane) : (s.modLane n f).lexicon = s.lexicon := rfl
@[simp] theorem State.modLane_pins (n : Nat) (f : Lane → Lane) : (s.modLane n f).pins = s.pins := rfl
@[simp] theorem State.modLane_draws (n : Nat) (f : Lane → Lane) : (s.modLane n f).draws = s.draws := rfl
@[simp] theorem State.modLane_outbox (n : Nat) (f : Lane → Lane) : (s.modLane n f).outbox = s.outbox := rfl
@[simp] theorem State.modLane_get (n : Nat) (f : Lane → Lane) (x j : Nat) : (s.modLane n f).get x j = s.get x j := rfl
@[simp] theorem State.modLane_blob (n : Nat) (f : Lane → Lane) (x j : Nat) : (s.modLane n f).blob x j = s.blob x j := rfl

/-! ### modHost -/

@[simp] theorem State.modHost_pending (f : HostPort → HostPort) : (s.modHost f).pending = s.pending := rfl
@[simp] theorem State.modHost_regs (f : HostPort → HostPort) : (s.modHost f).regs = s.regs := rfl
@[simp] theorem State.modHost_blobs (f : HostPort → HostPort) : (s.modHost f).blobs = s.blobs := rfl
@[simp] theorem State.modHost_clock (f : HostPort → HostPort) : (s.modHost f).clock = s.clock := rfl
@[simp] theorem State.modHost_sched (f : HostPort → HostPort) : (s.modHost f).sched = s.sched := rfl
@[simp] theorem State.modHost_persist (f : HostPort → HostPort) : (s.modHost f).persist = s.persist := rfl
@[simp] theorem State.modHost_gov (f : HostPort → HostPort) : (s.modHost f).gov = s.gov := rfl
@[simp] theorem State.modHost_keep (f : HostPort → HostPort) : (s.modHost f).keep = s.keep := rfl
@[simp] theorem State.modHost_stop (f : HostPort → HostPort) : (s.modHost f).stop = s.stop := rfl
@[simp] theorem State.modHost_restore (f : HostPort → HostPort) : (s.modHost f).restore = s.restore := rfl
@[simp] theorem State.modHost_append (f : HostPort → HostPort) : (s.modHost f).append = s.append := rfl
@[simp] theorem State.modHost_mirror (f : HostPort → HostPort) : (s.modHost f).mirror = s.mirror := rfl
@[simp] theorem State.modHost_carriers (f : HostPort → HostPort) : (s.modHost f).carriers = s.carriers := rfl
@[simp] theorem State.modHost_links (f : HostPort → HostPort) : (s.modHost f).links = s.links := rfl
@[simp] theorem State.modHost_training (f : HostPort → HostPort) : (s.modHost f).training = s.training := rfl
@[simp] theorem State.modHost_lanes (f : HostPort → HostPort) : (s.modHost f).lanes = s.lanes := rfl
@[simp] theorem State.modHost_line (f : HostPort → HostPort) : (s.modHost f).line = s.line := rfl
@[simp] theorem State.modHost_host (f : HostPort → HostPort) : (s.modHost f).host = f s.host := rfl
@[simp] theorem State.modHost_resets (f : HostPort → HostPort) : (s.modHost f).resets = s.resets := rfl
@[simp] theorem State.modHost_events (f : HostPort → HostPort) : (s.modHost f).events = s.events := rfl
@[simp] theorem State.modHost_dma (f : HostPort → HostPort) : (s.modHost f).dma = s.dma := rfl
@[simp] theorem State.modHost_power (f : HostPort → HostPort) : (s.modHost f).power = s.power := rfl
@[simp] theorem State.modHost_security (f : HostPort → HostPort) : (s.modHost f).security = s.security := rfl
@[simp] theorem State.modHost_lexicon (f : HostPort → HostPort) : (s.modHost f).lexicon = s.lexicon := rfl
@[simp] theorem State.modHost_pins (f : HostPort → HostPort) : (s.modHost f).pins = s.pins := rfl
@[simp] theorem State.modHost_draws (f : HostPort → HostPort) : (s.modHost f).draws = s.draws := rfl
@[simp] theorem State.modHost_outbox (f : HostPort → HostPort) : (s.modHost f).outbox = s.outbox := rfl
@[simp] theorem State.modHost_get (f : HostPort → HostPort) (x j : Nat) : (s.modHost f).get x j = s.get x j := rfl
@[simp] theorem State.modHost_blob (f : HostPort → HostPort) (x j : Nat) : (s.modHost f).blob x j = s.blob x j := rfl

/-! ### modEvents -/

@[simp] theorem State.modEvents_pending (f : Events → Events) : (s.modEvents f).pending = s.pending := rfl
@[simp] theorem State.modEvents_regs (f : Events → Events) : (s.modEvents f).regs = s.regs := rfl
@[simp] theorem State.modEvents_blobs (f : Events → Events) : (s.modEvents f).blobs = s.blobs := rfl
@[simp] theorem State.modEvents_clock (f : Events → Events) : (s.modEvents f).clock = s.clock := rfl
@[simp] theorem State.modEvents_sched (f : Events → Events) : (s.modEvents f).sched = s.sched := rfl
@[simp] theorem State.modEvents_persist (f : Events → Events) : (s.modEvents f).persist = s.persist := rfl
@[simp] theorem State.modEvents_gov (f : Events → Events) : (s.modEvents f).gov = s.gov := rfl
@[simp] theorem State.modEvents_keep (f : Events → Events) : (s.modEvents f).keep = s.keep := rfl
@[simp] theorem State.modEvents_stop (f : Events → Events) : (s.modEvents f).stop = s.stop := rfl
@[simp] theorem State.modEvents_restore (f : Events → Events) : (s.modEvents f).restore = s.restore := rfl
@[simp] theorem State.modEvents_append (f : Events → Events) : (s.modEvents f).append = s.append := rfl
@[simp] theorem State.modEvents_mirror (f : Events → Events) : (s.modEvents f).mirror = s.mirror := rfl
@[simp] theorem State.modEvents_carriers (f : Events → Events) : (s.modEvents f).carriers = s.carriers := rfl
@[simp] theorem State.modEvents_links (f : Events → Events) : (s.modEvents f).links = s.links := rfl
@[simp] theorem State.modEvents_training (f : Events → Events) : (s.modEvents f).training = s.training := rfl
@[simp] theorem State.modEvents_lanes (f : Events → Events) : (s.modEvents f).lanes = s.lanes := rfl
@[simp] theorem State.modEvents_line (f : Events → Events) : (s.modEvents f).line = s.line := rfl
@[simp] theorem State.modEvents_host (f : Events → Events) : (s.modEvents f).host = s.host := rfl
@[simp] theorem State.modEvents_resets (f : Events → Events) : (s.modEvents f).resets = s.resets := rfl
@[simp] theorem State.modEvents_events (f : Events → Events) : (s.modEvents f).events = f s.events := rfl
@[simp] theorem State.modEvents_dma (f : Events → Events) : (s.modEvents f).dma = s.dma := rfl
@[simp] theorem State.modEvents_power (f : Events → Events) : (s.modEvents f).power = s.power := rfl
@[simp] theorem State.modEvents_security (f : Events → Events) : (s.modEvents f).security = s.security := rfl
@[simp] theorem State.modEvents_lexicon (f : Events → Events) : (s.modEvents f).lexicon = s.lexicon := rfl
@[simp] theorem State.modEvents_pins (f : Events → Events) : (s.modEvents f).pins = s.pins := rfl
@[simp] theorem State.modEvents_draws (f : Events → Events) : (s.modEvents f).draws = s.draws := rfl
@[simp] theorem State.modEvents_outbox (f : Events → Events) : (s.modEvents f).outbox = s.outbox := rfl
@[simp] theorem State.modEvents_get (f : Events → Events) (x j : Nat) : (s.modEvents f).get x j = s.get x j := rfl
@[simp] theorem State.modEvents_blob (f : Events → Events) (x j : Nat) : (s.modEvents f).blob x j = s.blob x j := rfl

/-! ### putChan -/

@[simp] theorem State.putChan_pending (k : Nat) (c : Chan) : (s.putChan k c).pending = s.pending := rfl
@[simp] theorem State.putChan_regs (k : Nat) (c : Chan) : (s.putChan k c).regs = s.regs := rfl
@[simp] theorem State.putChan_blobs (k : Nat) (c : Chan) : (s.putChan k c).blobs = s.blobs := rfl
@[simp] theorem State.putChan_clock (k : Nat) (c : Chan) : (s.putChan k c).clock = s.clock := rfl
@[simp] theorem State.putChan_sched (k : Nat) (c : Chan) : (s.putChan k c).sched = s.sched := rfl
@[simp] theorem State.putChan_persist (k : Nat) (c : Chan) : (s.putChan k c).persist = s.persist := rfl
@[simp] theorem State.putChan_gov (k : Nat) (c : Chan) : (s.putChan k c).gov = s.gov := rfl
@[simp] theorem State.putChan_keep (k : Nat) (c : Chan) : (s.putChan k c).keep = s.keep := rfl
@[simp] theorem State.putChan_stop (k : Nat) (c : Chan) : (s.putChan k c).stop = s.stop := rfl
@[simp] theorem State.putChan_restore (k : Nat) (c : Chan) : (s.putChan k c).restore = s.restore := rfl
@[simp] theorem State.putChan_append (k : Nat) (c : Chan) : (s.putChan k c).append = s.append := rfl
@[simp] theorem State.putChan_mirror (k : Nat) (c : Chan) : (s.putChan k c).mirror = s.mirror := rfl
@[simp] theorem State.putChan_carriers (k : Nat) (c : Chan) : (s.putChan k c).carriers = s.carriers := rfl
@[simp] theorem State.putChan_links (k : Nat) (c : Chan) : (s.putChan k c).links = s.links := rfl
@[simp] theorem State.putChan_training (k : Nat) (c : Chan) : (s.putChan k c).training = s.training := rfl
@[simp] theorem State.putChan_lanes (k : Nat) (c : Chan) : (s.putChan k c).lanes = s.lanes := rfl
@[simp] theorem State.putChan_line (k : Nat) (c : Chan) : (s.putChan k c).line = s.line := rfl
@[simp] theorem State.putChan_host (k : Nat) (c : Chan) : (s.putChan k c).host = s.host := rfl
@[simp] theorem State.putChan_resets (k : Nat) (c : Chan) : (s.putChan k c).resets = s.resets := rfl
@[simp] theorem State.putChan_events (k : Nat) (c : Chan) : (s.putChan k c).events = s.events := rfl
@[simp] theorem State.putChan_dma (k : Nat) (c : Chan) : (s.putChan k c).dma = { s.dma with chans := Tbl.put s.dma.chans k c } := rfl
@[simp] theorem State.putChan_power (k : Nat) (c : Chan) : (s.putChan k c).power = s.power := rfl
@[simp] theorem State.putChan_security (k : Nat) (c : Chan) : (s.putChan k c).security = s.security := rfl
@[simp] theorem State.putChan_lexicon (k : Nat) (c : Chan) : (s.putChan k c).lexicon = s.lexicon := rfl
@[simp] theorem State.putChan_pins (k : Nat) (c : Chan) : (s.putChan k c).pins = s.pins := rfl
@[simp] theorem State.putChan_draws (k : Nat) (c : Chan) : (s.putChan k c).draws = s.draws := rfl
@[simp] theorem State.putChan_outbox (k : Nat) (c : Chan) : (s.putChan k c).outbox = s.outbox := rfl
@[simp] theorem State.putChan_get (k : Nat) (c : Chan) (x j : Nat) : (s.putChan k c).get x j = s.get x j := rfl
@[simp] theorem State.putChan_blob (k : Nat) (c : Chan) (x j : Nat) : (s.putChan k c).blob x j = s.blob x j := rfl

/-! ### modPower -/

@[simp] theorem State.modPower_pending (f : Power → Power) : (s.modPower f).pending = s.pending := rfl
@[simp] theorem State.modPower_regs (f : Power → Power) : (s.modPower f).regs = s.regs := rfl
@[simp] theorem State.modPower_blobs (f : Power → Power) : (s.modPower f).blobs = s.blobs := rfl
@[simp] theorem State.modPower_clock (f : Power → Power) : (s.modPower f).clock = s.clock := rfl
@[simp] theorem State.modPower_sched (f : Power → Power) : (s.modPower f).sched = s.sched := rfl
@[simp] theorem State.modPower_persist (f : Power → Power) : (s.modPower f).persist = s.persist := rfl
@[simp] theorem State.modPower_gov (f : Power → Power) : (s.modPower f).gov = s.gov := rfl
@[simp] theorem State.modPower_keep (f : Power → Power) : (s.modPower f).keep = s.keep := rfl
@[simp] theorem State.modPower_stop (f : Power → Power) : (s.modPower f).stop = s.stop := rfl
@[simp] theorem State.modPower_restore (f : Power → Power) : (s.modPower f).restore = s.restore := rfl
@[simp] theorem State.modPower_append (f : Power → Power) : (s.modPower f).append = s.append := rfl
@[simp] theorem State.modPower_mirror (f : Power → Power) : (s.modPower f).mirror = s.mirror := rfl
@[simp] theorem State.modPower_carriers (f : Power → Power) : (s.modPower f).carriers = s.carriers := rfl
@[simp] theorem State.modPower_links (f : Power → Power) : (s.modPower f).links = s.links := rfl
@[simp] theorem State.modPower_training (f : Power → Power) : (s.modPower f).training = s.training := rfl
@[simp] theorem State.modPower_lanes (f : Power → Power) : (s.modPower f).lanes = s.lanes := rfl
@[simp] theorem State.modPower_line (f : Power → Power) : (s.modPower f).line = s.line := rfl
@[simp] theorem State.modPower_host (f : Power → Power) : (s.modPower f).host = s.host := rfl
@[simp] theorem State.modPower_resets (f : Power → Power) : (s.modPower f).resets = s.resets := rfl
@[simp] theorem State.modPower_events (f : Power → Power) : (s.modPower f).events = s.events := rfl
@[simp] theorem State.modPower_dma (f : Power → Power) : (s.modPower f).dma = s.dma := rfl
@[simp] theorem State.modPower_power (f : Power → Power) : (s.modPower f).power = f s.power := rfl
@[simp] theorem State.modPower_security (f : Power → Power) : (s.modPower f).security = s.security := rfl
@[simp] theorem State.modPower_lexicon (f : Power → Power) : (s.modPower f).lexicon = s.lexicon := rfl
@[simp] theorem State.modPower_pins (f : Power → Power) : (s.modPower f).pins = s.pins := rfl
@[simp] theorem State.modPower_draws (f : Power → Power) : (s.modPower f).draws = s.draws := rfl
@[simp] theorem State.modPower_outbox (f : Power → Power) : (s.modPower f).outbox = s.outbox := rfl
@[simp] theorem State.modPower_get (f : Power → Power) (x j : Nat) : (s.modPower f).get x j = s.get x j := rfl
@[simp] theorem State.modPower_blob (f : Power → Power) (x j : Nat) : (s.modPower f).blob x j = s.blob x j := rfl

/-! ### modSecurity -/

@[simp] theorem State.modSecurity_pending (f : Security → Security) : (s.modSecurity f).pending = s.pending := rfl
@[simp] theorem State.modSecurity_regs (f : Security → Security) : (s.modSecurity f).regs = s.regs := rfl
@[simp] theorem State.modSecurity_blobs (f : Security → Security) : (s.modSecurity f).blobs = s.blobs := rfl
@[simp] theorem State.modSecurity_clock (f : Security → Security) : (s.modSecurity f).clock = s.clock := rfl
@[simp] theorem State.modSecurity_sched (f : Security → Security) : (s.modSecurity f).sched = s.sched := rfl
@[simp] theorem State.modSecurity_persist (f : Security → Security) : (s.modSecurity f).persist = s.persist := rfl
@[simp] theorem State.modSecurity_gov (f : Security → Security) : (s.modSecurity f).gov = s.gov := rfl
@[simp] theorem State.modSecurity_keep (f : Security → Security) : (s.modSecurity f).keep = s.keep := rfl
@[simp] theorem State.modSecurity_stop (f : Security → Security) : (s.modSecurity f).stop = s.stop := rfl
@[simp] theorem State.modSecurity_restore (f : Security → Security) : (s.modSecurity f).restore = s.restore := rfl
@[simp] theorem State.modSecurity_append (f : Security → Security) : (s.modSecurity f).append = s.append := rfl
@[simp] theorem State.modSecurity_mirror (f : Security → Security) : (s.modSecurity f).mirror = s.mirror := rfl
@[simp] theorem State.modSecurity_carriers (f : Security → Security) : (s.modSecurity f).carriers = s.carriers := rfl
@[simp] theorem State.modSecurity_links (f : Security → Security) : (s.modSecurity f).links = s.links := rfl
@[simp] theorem State.modSecurity_training (f : Security → Security) : (s.modSecurity f).training = s.training := rfl
@[simp] theorem State.modSecurity_lanes (f : Security → Security) : (s.modSecurity f).lanes = s.lanes := rfl
@[simp] theorem State.modSecurity_line (f : Security → Security) : (s.modSecurity f).line = s.line := rfl
@[simp] theorem State.modSecurity_host (f : Security → Security) : (s.modSecurity f).host = s.host := rfl
@[simp] theorem State.modSecurity_resets (f : Security → Security) : (s.modSecurity f).resets = s.resets := rfl
@[simp] theorem State.modSecurity_events (f : Security → Security) : (s.modSecurity f).events = s.events := rfl
@[simp] theorem State.modSecurity_dma (f : Security → Security) : (s.modSecurity f).dma = s.dma := rfl
@[simp] theorem State.modSecurity_power (f : Security → Security) : (s.modSecurity f).power = s.power := rfl
@[simp] theorem State.modSecurity_security (f : Security → Security) : (s.modSecurity f).security = f s.security := rfl
@[simp] theorem State.modSecurity_lexicon (f : Security → Security) : (s.modSecurity f).lexicon = s.lexicon := rfl
@[simp] theorem State.modSecurity_pins (f : Security → Security) : (s.modSecurity f).pins = s.pins := rfl
@[simp] theorem State.modSecurity_draws (f : Security → Security) : (s.modSecurity f).draws = s.draws := rfl
@[simp] theorem State.modSecurity_outbox (f : Security → Security) : (s.modSecurity f).outbox = s.outbox := rfl
@[simp] theorem State.modSecurity_get (f : Security → Security) (x j : Nat) : (s.modSecurity f).get x j = s.get x j := rfl
@[simp] theorem State.modSecurity_blob (f : Security → Security) (x j : Nat) : (s.modSecurity f).blob x j = s.blob x j := rfl

/-! ### modLexicon -/

@[simp] theorem State.modLexicon_pending (f : Lexicon → Lexicon) : (s.modLexicon f).pending = s.pending := rfl
@[simp] theorem State.modLexicon_regs (f : Lexicon → Lexicon) : (s.modLexicon f).regs = s.regs := rfl
@[simp] theorem State.modLexicon_blobs (f : Lexicon → Lexicon) : (s.modLexicon f).blobs = s.blobs := rfl
@[simp] theorem State.modLexicon_clock (f : Lexicon → Lexicon) : (s.modLexicon f).clock = s.clock := rfl
@[simp] theorem State.modLexicon_sched (f : Lexicon → Lexicon) : (s.modLexicon f).sched = s.sched := rfl
@[simp] theorem State.modLexicon_persist (f : Lexicon → Lexicon) : (s.modLexicon f).persist = s.persist := rfl
@[simp] theorem State.modLexicon_gov (f : Lexicon → Lexicon) : (s.modLexicon f).gov = s.gov := rfl
@[simp] theorem State.modLexicon_keep (f : Lexicon → Lexicon) : (s.modLexicon f).keep = s.keep := rfl
@[simp] theorem State.modLexicon_stop (f : Lexicon → Lexicon) : (s.modLexicon f).stop = s.stop := rfl
@[simp] theorem State.modLexicon_restore (f : Lexicon → Lexicon) : (s.modLexicon f).restore = s.restore := rfl
@[simp] theorem State.modLexicon_append (f : Lexicon → Lexicon) : (s.modLexicon f).append = s.append := rfl
@[simp] theorem State.modLexicon_mirror (f : Lexicon → Lexicon) : (s.modLexicon f).mirror = s.mirror := rfl
@[simp] theorem State.modLexicon_carriers (f : Lexicon → Lexicon) : (s.modLexicon f).carriers = s.carriers := rfl
@[simp] theorem State.modLexicon_links (f : Lexicon → Lexicon) : (s.modLexicon f).links = s.links := rfl
@[simp] theorem State.modLexicon_training (f : Lexicon → Lexicon) : (s.modLexicon f).training = s.training := rfl
@[simp] theorem State.modLexicon_lanes (f : Lexicon → Lexicon) : (s.modLexicon f).lanes = s.lanes := rfl
@[simp] theorem State.modLexicon_line (f : Lexicon → Lexicon) : (s.modLexicon f).line = s.line := rfl
@[simp] theorem State.modLexicon_host (f : Lexicon → Lexicon) : (s.modLexicon f).host = s.host := rfl
@[simp] theorem State.modLexicon_resets (f : Lexicon → Lexicon) : (s.modLexicon f).resets = s.resets := rfl
@[simp] theorem State.modLexicon_events (f : Lexicon → Lexicon) : (s.modLexicon f).events = s.events := rfl
@[simp] theorem State.modLexicon_dma (f : Lexicon → Lexicon) : (s.modLexicon f).dma = s.dma := rfl
@[simp] theorem State.modLexicon_power (f : Lexicon → Lexicon) : (s.modLexicon f).power = s.power := rfl
@[simp] theorem State.modLexicon_security (f : Lexicon → Lexicon) : (s.modLexicon f).security = s.security := rfl
@[simp] theorem State.modLexicon_lexicon (f : Lexicon → Lexicon) : (s.modLexicon f).lexicon = f s.lexicon := rfl
@[simp] theorem State.modLexicon_pins (f : Lexicon → Lexicon) : (s.modLexicon f).pins = s.pins := rfl
@[simp] theorem State.modLexicon_draws (f : Lexicon → Lexicon) : (s.modLexicon f).draws = s.draws := rfl
@[simp] theorem State.modLexicon_outbox (f : Lexicon → Lexicon) : (s.modLexicon f).outbox = s.outbox := rfl
@[simp] theorem State.modLexicon_get (f : Lexicon → Lexicon) (x j : Nat) : (s.modLexicon f).get x j = s.get x j := rfl
@[simp] theorem State.modLexicon_blob (f : Lexicon → Lexicon) (x j : Nat) : (s.modLexicon f).blob x j = s.blob x j := rfl

/-! ### Tables -/

theorem Tbl.find_put_same {α : Type} (t : Tbl α) (k : Nat) (v : α) : Tbl.find (Tbl.put t k v) k = some v := by
  induction t with
  | nil => simp [Tbl.put, Tbl.find]
  | cons x r ih =>
    obtain ⟨a, w⟩ := x
    unfold Tbl.put
    split
    · simp [Tbl.find]
    · split
      · simp [Tbl.find]
      · simp_all [Tbl.find]

theorem Tbl.find_put_other {α : Type} (t : Tbl α) (k j : Nat) (v : α) (h : k ≠ j) :
    Tbl.find (Tbl.put t k v) j = Tbl.find t j := by
  induction t with
  | nil => simp [Tbl.put, Tbl.find, h]
  | cons x r ih =>
    obtain ⟨a, w⟩ := x
    unfold Tbl.put
    split
    · simp_all [Tbl.find]
    · split
      · simp [Tbl.find, h]
      · simp_all [Tbl.find]

@[simp] theorem Tbl.getD_put_same {α : Type} (t : Tbl α) (k : Nat) (v d : α) : Tbl.getD (Tbl.put t k v) k d = v := by
  simp [Tbl.getD, Tbl.find_put_same]

theorem Tbl.getD_put_other {α : Type} (t : Tbl α) (k j : Nat) (v d : α) (h : k ≠ j) :
    Tbl.getD (Tbl.put t k v) j d = Tbl.getD t j d := by
  simp [Tbl.getD, Tbl.find_put_other t k j v h]

/-! ### Reading after a write -/

@[simp] theorem State.get_set_same (r i v : Nat) : (s.set r i v).get r i = v := by
  simp [State.get, State.set]

theorem State.get_set_other (r i v q j : Nat) (h : Reg.key r i ≠ Reg.key q j) : (s.set r i v).get q j = s.get q j := by
  simp [State.get, State.set, Tbl.getD_put_other _ _ _ _ _ h]

theorem State.get_set (r i v q j : Nat) :
    (s.set r i v).get q j = if Reg.key r i = Reg.key q j then v else s.get q j := by
  split
  · rename_i h; simp [State.get, State.set, ← h]
  · rename_i h; exact State.get_set_other s r i v q j h

/-- Places of different registers differ, and so do different places of one register. -/
theorem Reg.key_ne (r i q j : Nat) (hi : i < 4294967296) (hj : j < 4294967296) (h : r ≠ q ∨ i ≠ j) :
    Reg.key r i ≠ Reg.key q j := by
  unfold Reg.key; omega

@[simp] theorem State.blob_setBlob_same (r i : Nat) (v : List Byte) : (s.setBlob r i v).blob r i = v := by
  simp [State.blob, State.setBlob]

@[simp] theorem State.car_modCar_same (c : Nat) (f : Carrier → Carrier) : (s.modCar c f).car c = f (s.car c) := by
  simp [State.car, State.modCar]

@[simp] theorem State.link_putLink_same (u : Nat) (l : Link) : (s.putLink u l).link u = l := by
  simp [State.link, State.putLink]

@[simp] theorem State.link_modLink_same (u : Nat) (f : Link → Link) : (s.modLink u f).link u = f (s.link u) := by
  simp [State.link, State.modLink, State.putLink]

@[simp] theorem State.train_putTrain_same (u : Nat) (t : Training) : (s.putTrain u t).train u = t := by
  simp [State.train, State.putTrain]

@[simp] theorem State.train_modTrain_same (u : Nat) (f : Training → Training) :
    (s.modTrain u f).train u = f (s.train u) := by
  simp [State.train, State.modTrain, State.putTrain]

@[simp] theorem State.lane_modLane_same (n : Nat) (f : Lane → Lane) : (s.modLane n f).lane n = f (s.lane n) := by
  simp [State.lane, State.modLane]

@[simp] theorem State.port_putPort_same (p : Nat) (q : Port) : (s.putPort p q).port p = q := by
  simp [State.port, State.putPort]

@[simp] theorem State.chan_putChan_same (k : Nat) (c : Chan) : (s.putChan k c).chan k = c := by
  simp [State.chan, State.putChan]

/-! ### Updates made of other updates -/

@[simp] theorem State.bump_eq (r i n : Nat) : s.bump r i n =
    s.set r i (sat (match Reg.obj r with | some o => o.ty.max | none => 4294967295) (s.get r i + n)) := rfl
@[simp] theorem State.putBit_eq (r i b : Nat) (v : Bool) : s.putBit r i b v = s.set r i (setBit (s.get r i) b v) := rfl
@[simp] theorem State.putLexPort_eq (i : Nat) (p : LexPort) : s.putLexPort i p =
    s.modLexicon (fun l => { l with ports := Tbl.put l.ports i p }) := rfl
@[simp] theorem State.putCtxRun_eq (n : Nat) (r : CtxRun) : s.putCtxRun n r =
    s.modAppend (fun a => { a with run := Tbl.put a.run n r }) := rfl
@[simp] theorem State.putQrun_eq (q : Nat) (r : QRun) : s.putQrun q r =
    s.modEvents (fun e => { e with run := Tbl.put e.run q r }) := rfl
@[simp] theorem State.putSemi_eq (c : Nat) (t : SemiCar) : s.putSemi c t =
    s.modPersist (fun p => { p with cars := Tbl.put p.cars c t }) := rfl
@[simp] theorem State.modChan_eq (k : Nat) (f : Chan → Chan) : s.modChan k f = s.putChan k (f (s.chan k)) := rfl
@[simp] theorem State.each_nil {α : Type} (f : State → α → State) : s.each [] f = s := rfl
@[simp] theorem State.each_cons {α : Type} (a : α) (l : List α) (f : State → α → State) :
    s.each (a :: l) f = (f s a).each l f := rfl
@[simp] theorem State.onlyIf_true (f : State → State) : s.onlyIf true f = f s := rfl
@[simp] theorem State.onlyIf_false (f : State → State) : s.onlyIf false f = s := rfl

/-! ### Answers -/

/-- The command queue of an answer is the one the command found, and the balls are those that the state drives. -/
theorem done_spec (t : State) : done s t = .next (s.after t) := rfl

/-- A command that acts in recovery too. -/
theorem actRom_powered (f : State → State) (h : s.clock.powered = true) : actRom s f = done s (f s) := by
  simp [actRom, h]

/-- While POR_N is low nothing but the balls can change. -/
theorem actRom_unpowered (f : State → State) (h : s.clock.powered = false) : actRom s f = done s s := by
  simp [actRom, h]

/-- A command that acts while the firmware runs. -/
theorem act_awake (f : State → State) (h : s.clock.powered = true) (r : s.security.recovery = false) :
    act s f = done s (f s) := by
  simp [act, actRom, h, r]

/-- In recovery such a command finds nothing to act on. -/
theorem act_recovery (f : State → State) (r : s.security.recovery = true) : act s f = done s s := by
  simp [act, actRom, r]

theorem act_unpowered (f : State → State) (h : s.clock.powered = false) : act s f = done s s := by
  simp [act, actRom, h]

/-- Before the cut the host's part is served, after it nothing changes. -/
@[simp] theorem State.beforeCut_open (f : State → State) (h : s.cutPassed = false) : s.beforeCut f = f s := by
  simp [State.beforeCut, h]

@[simp] theorem State.beforeCut_cut (f : State → State) (h : s.cutPassed = true) : s.beforeCut f = s := by
  simp [State.beforeCut, h]

end Sys2Proof.Machine
end

