-- ==== Sys2Proof/Laws/Footprint.lean ====
section
/-!
SUPPORT. What the shared operations can change, each said once as an equality outside a footprint: an update of a part
in the footprint is not seen outside it, and the events, records and answers of the block stay inside theirs.
-/
namespace Sys2Proof.Machine

variable (s : State) (f : Footprint)

/-! ### Tables -/

/-- The register of a key. -/
@[simp] theorem Reg.key_reg (r i : Nat) : Reg.key r i / 4294967296 = r := by
  unfold Reg.key; omega

theorem Tbl.filter_put {α : Type} (t : Tbl α) (k : Nat) (v : α) (p : Nat → Bool) (h : p k = false) :
    (Tbl.put t k v).filter (fun x => p x.1) = t.filter (fun x => p x.1) := by
  induction t with
  | nil => simp [Tbl.put, h]
  | cons x r ih =>
    obtain ⟨a, w⟩ := x
    unfold Tbl.put
    split
    · rename_i e; subst e; simp [h]
    · split
      · simp [List.filter_cons, h]
      · simp [List.filter_cons, ih]

theorem Tbl.find_filter {α : Type} (t : Tbl α) (k : Nat) (p : Nat → Bool) (h : p k = true) :
    Tbl.find (t.filter (fun x => p x.1)) k = Tbl.find t k := by
  induction t with
  | nil => rfl
  | cons x r ih =>
    obtain ⟨a, w⟩ := x
    by_cases e : a = k
    · subst e; simp [h, Tbl.find]
    · by_cases q : p a = true <;> simp [q, Tbl.find, e, ih]

/-! ### Updates inside a footprint -/

theorem State.outside_set (r i v : Nat) (h : r ∈ f.regs) : (s.set r i v).outside f = s.outside f := by
  have e := Tbl.filter_put s.regs (Reg.key r i) v (fun k => !(f.regs.contains (k / 4294967296))) (by simp [h])
  simp only [State.outside, State.set, e]

theorem State.outside_bump (r i n : Nat) (h : r ∈ f.regs) : (s.bump r i n).outside f = s.outside f :=
  State.outside_set s f _ _ _ h

theorem State.outside_setBlob (r i : Nat) (v : List Byte) (h : Part.blobs ∈ f.parts) :
    (s.setBlob r i v).outside f = s.outside f := by simp [State.outside, Footprint.keep, h]

theorem State.outside_atCycle (c : Nat) (h : Part.clock ∈ f.parts) :
    (s.atCycle c).outside f = s.outside f := by simp [State.outside, Footprint.keep, h]

theorem State.outside_emit (e : Emit) (h : Part.outbox ∈ f.parts) :
    (s.emit e).outside f = s.outside f := by simp [State.outside, Footprint.keep, h]

theorem State.outside_drawn  (h : Part.draws ∈ f.parts) :
    (s.drawn).outside f = s.outside f := by simp [State.outside, Footprint.keep, h]

theorem State.outside_modClock (g : Clock → Clock) (h : Part.clock ∈ f.parts) :
    (s.modClock g).outside f = s.outside f := by simp [State.outside, Footprint.keep, h]

theorem State.outside_putBucket (k : Nat) (b : Bucket) (h : Part.flow ∈ f.parts) :
    (s.putBucket k b).outside f = s.outside f := by simp [State.outside, Footprint.keep, h]

theorem State.outside_modPersist (g : Persist → Persist) (h : Part.persist ∈ f.parts) :
    (s.modPersist g).outside f = s.outside f := by simp [State.outside, Footprint.keep, h]

theorem State.outside_putGov (c : Nat) (g : GovCar) (h : Part.gov ∈ f.parts) :
    (s.putGov c g).outside f = s.outside f := by simp [State.outside, Footprint.keep, h]

theorem State.outside_modKeep (g : Keep → Keep) (h : Part.keep ∈ f.parts) :
    (s.modKeep g).outside f = s.outside f := by simp [State.outside, Footprint.keep, h]

theorem State.outside_modRestore (g : Restore → Restore) (h : Part.restore ∈ f.parts) :
    (s.modRestore g).outside f = s.outside f := by simp [State.outside, Footprint.keep, h]

theorem State.outside_modAppend (g : Append → Append) (h : Part.append ∈ f.parts) :
    (s.modAppend g).outside f = s.outside f := by simp [State.outside, Footprint.keep, h]

theorem State.outside_modMirror (g : Mirror → Mirror) (h : Part.mirror ∈ f.parts) :
    (s.modMirror g).outside f = s.outside f := by simp [State.outside, Footprint.keep, h]

theorem State.outside_modCar (c : Nat) (g : Carrier → Carrier) (h : Part.carriers ∈ f.parts) :
    (s.modCar c g).outside f = s.outside f := by simp [State.outside, Footprint.keep, h]

theorem State.outside_putLink (u : Nat) (l : Link) (h : Part.links ∈ f.parts) :
    (s.putLink u l).outside f = s.outside f := by simp [State.outside, Footprint.keep, h]

theorem State.outside_modLink (u : Nat) (g : Link → Link) (h : Part.links ∈ f.parts) :
    (s.modLink u g).outside f = s.outside f := by simp [State.outside, Footprint.keep, h]

theorem State.outside_putTrain (u : Nat) (t : Training) (h : Part.training ∈ f.parts) :
    (s.putTrain u t).outside f = s.outside f := by simp [State.outside, Footprint.keep, h]

theorem State.outside_modTrain (u : Nat) (g : Training → Training) (h : Part.training ∈ f.parts) :
    (s.modTrain u g).outside f = s.outside f := by simp [State.outside, Footprint.keep, h]

theorem State.outside_modLane (n : Nat) (g : Lane → Lane) (h : Part.lanes ∈ f.parts) :
    (s.modLane n g).outside f = s.outside f := by simp [State.outside, Footprint.keep, h]

theorem State.outside_modHost (g : HostPort → HostPort) (h : Part.host ∈ f.parts) :
    (s.modHost g).outside f = s.outside f := by simp [State.outside, Footprint.keep, h]

theorem State.outside_modEvents (g : Events → Events) (h : Part.events ∈ f.parts) :
    (s.modEvents g).outside f = s.outside f := by simp [State.outside, Footprint.keep, h]

theorem State.outside_putChan (k : Nat) (c : Chan) (h : Part.dma ∈ f.parts) :
    (s.putChan k c).outside f = s.outside f := by simp [State.outside, Footprint.keep, h]

theorem State.outside_modPower (g : Power → Power) (h : Part.power ∈ f.parts) :
    (s.modPower g).outside f = s.outside f := by simp [State.outside, Footprint.keep, h]

theorem State.outside_modSecurity (g : Security → Security) (h : Part.security ∈ f.parts) :
    (s.modSecurity g).outside f = s.outside f := by simp [State.outside, Footprint.keep, h]

theorem State.outside_modLexicon (g : Lexicon → Lexicon) (h : Part.lexicon ∈ f.parts) (q : Part.frames ∈ f.parts) :
    (s.modLexicon g).outside f = s.outside f := by simp [State.outside, Footprint.keep, h, q]

theorem State.outside_putPort9 (q : Port) (h : Part.egress ∈ f.parts) : (s.putPort 9 q).outside f = s.outside f := by
  have e := Tbl.filter_put s.sched.ports 9 q (fun k => k != 9) rfl
  simp [State.outside, Footprint.keep, h, e]

theorem State.outside_putPort (p : Nat) (q : Port) (h : Part.ports ∈ f.parts) (w : p ≠ 9 ∨ Part.egress ∈ f.parts) :
    (s.putPort p q).outside f = s.outside f := by
  rcases w with w | w
  · have e := Tbl.filter_put s.sched.ports p q (fun k => k == 9) (by simp [w])
    by_cases m : Part.egress ∈ f.parts <;> simp [State.outside, Footprint.keep, h, m, e]
  · simp [State.outside, Footprint.keep, h, w]

theorem Tbl.filter_dropRegs (rs : List Nat) (t : Tbl Nat) (p : Nat → Bool) (h : ∀ r ∈ rs, p r = false) :
    (Tbl.dropRegs rs t).filter (fun x => p (x.1 / 4294967296)) = t.filter (fun x => p (x.1 / 4294967296)) := by
  unfold Tbl.dropRegs
  rw [List.filter_filter]
  apply List.filter_congr
  intro x _
  by_cases m : x.1 / 4294967296 ∈ rs
  · simp [h _ m]
  · simp [m]

theorem State.outside_clearRegs (rs : List Nat) (h : ∀ r ∈ rs, r ∈ f.regs) :
    (s.clearRegs rs).outside f = s.outside f := by
  have e := Tbl.filter_dropRegs rs s.regs (fun k => !(f.regs.contains k)) (by simpa using h)
  simp only [State.outside, State.clearRegs, e]

/-! ### What is the same outside a footprint -/

theorem State.get_of_outside {s t : State} {f : Footprint} (h : t.outside f = s.outside f) (r i : Nat)
    (n : r ∉ f.regs) : t.get r i = s.get r i := by
  have e : (t.outside f).regs = (s.outside f).regs := by rw [h]
  have q (x : State) : Tbl.find (x.outside f).regs (Reg.key r i) = Tbl.find x.regs (Reg.key r i) :=
    Tbl.find_filter x.regs (Reg.key r i) (fun k => !(f.regs.contains (k / 4294967296))) (by simp [n])
  unfold State.get Tbl.getD
  rw [← q t, ← q s, e]

theorem State.pending_of_outside {s t : State} {f : Footprint} (h : t.outside f = s.outside f) :
    t.pending = s.pending := by
  have e := congrArg State.pending h
  simpa [State.outside] using e

theorem State.blobs_of_outside {s t : State} {f : Footprint} (h : t.outside f = s.outside f) (n : Part.blobs ∉ f.parts) :
    t.blobs = s.blobs := by
  have e := congrArg State.blobs h
  simpa [State.outside, Footprint.keep, n] using e

theorem State.clock_of_outside {s t : State} {f : Footprint} (h : t.outside f = s.outside f) (n : Part.clock ∉ f.parts) :
    t.clock = s.clock := by
  have e := congrArg State.clock h
  simpa [State.outside, Footprint.keep, n] using e

theorem State.persist_of_outside {s t : State} {f : Footprint} (h : t.outside f = s.outside f) (n : Part.persist ∉ f.parts) :
    t.persist = s.persist := by
  have e := congrArg State.persist h
  simpa [State.outside, Footprint.keep, n] using e

theorem State.gov_of_outside {s t : State} {f : Footprint} (h : t.outside f = s.outside f) (n : Part.gov ∉ f.parts) :
    t.gov = s.gov := by
  have e := congrArg State.gov h
  simpa [State.outside, Footprint.keep, n] using e

theorem State.keep_of_outside {s t : State} {f : Footprint} (h : t.outside f = s.outside f) (n : Part.keep ∉ f.parts) :
    t.keep = s.keep := by
  have e := congrArg State.keep h
  simpa [State.outside, Footprint.keep, n] using e

theorem State.stop_of_outside {s t : State} {f : Footprint} (h : t.outside f = s.outside f) (n : Part.stop ∉ f.parts) :
    t.stop = s.stop := by
  have e := congrArg State.stop h
  simpa [State.outside, Footprint.keep, n] using e

theorem State.restore_of_outside {s t : State} {f : Footprint} (h : t.outside f = s.outside f) (n : Part.restore ∉ f.parts) :
    t.restore = s.restore := by
  have e := congrArg State.restore h
  simpa [State.outside, Footprint.keep, n] using e

theorem State.append_of_outside {s t : State} {f : Footprint} (h : t.outside f = s.outside f) (n : Part.append ∉ f.parts) :
    t.append = s.append := by
  have e := congrArg State.append h
  simpa [State.outside, Footprint.keep, n] using e

theorem State.mirror_of_outside {s t : State} {f : Footprint} (h : t.outside f = s.outside f) (n : Part.mirror ∉ f.parts) :
    t.mirror = s.mirror := by
  have e := congrArg State.mirror h
  simpa [State.outside, Footprint.keep, n] using e

theorem State.carriers_of_outside {s t : State} {f : Footprint} (h : t.outside f = s.outside f) (n : Part.carriers ∉ f.parts) :
    t.carriers = s.carriers := by
  have e := congrArg State.carriers h
  simpa [State.outside, Footprint.keep, n] using e

theorem State.links_of_outside {s t : State} {f : Footprint} (h : t.outside f = s.outside f) (n : Part.links ∉ f.parts) :
    t.links = s.links := by
  have e := congrArg State.links h
  simpa [State.outside, Footprint.keep, n] using e

theorem State.training_of_outside {s t : State} {f : Footprint} (h : t.outside f = s.outside f) (n : Part.training ∉ f.parts) :
    t.training = s.training := by
  have e := congrArg State.training h
  simpa [State.outside, Footprint.keep, n] using e

theorem State.lanes_of_outside {s t : State} {f : Footprint} (h : t.outside f = s.outside f) (n : Part.lanes ∉ f.parts) :
    t.lanes = s.lanes := by
  have e := congrArg State.lanes h
  simpa [State.outside, Footprint.keep, n] using e

theorem State.line_of_outside {s t : State} {f : Footprint} (h : t.outside f = s.outside f) (n : Part.line ∉ f.parts) :
    t.line = s.line := by
  have e := congrArg State.line h
  simpa [State.outside, Footprint.keep, n] using e

theorem State.host_of_outside {s t : State} {f : Footprint} (h : t.outside f = s.outside f) (n : Part.host ∉ f.parts) :
    t.host = s.host := by
  have e := congrArg State.host h
  simpa [State.outside, Footprint.keep, n] using e

theorem State.resets_of_outside {s t : State} {f : Footprint} (h : t.outside f = s.outside f) (n : Part.resets ∉ f.parts) :
    t.resets = s.resets := by
  have e := congrArg State.resets h
  simpa [State.outside, Footprint.keep, n] using e

theorem State.events_of_outside {s t : State} {f : Footprint} (h : t.outside f = s.outside f) (n : Part.events ∉ f.parts) :
    t.events = s.events := by
  have e := congrArg State.events h
  simpa [State.outside, Footprint.keep, n] using e

theorem State.dma_of_outside {s t : State} {f : Footprint} (h : t.outside f = s.outside f) (n : Part.dma ∉ f.parts) :
    t.dma = s.dma := by
  have e := congrArg State.dma h
  simpa [State.outside, Footprint.keep, n] using e

theorem State.power_of_outside {s t : State} {f : Footprint} (h : t.outside f = s.outside f) (n : Part.power ∉ f.parts) :
    t.power = s.power := by
  have e := congrArg State.power h
  simpa [State.outside, Footprint.keep, n] using e

theorem State.security_of_outside {s t : State} {f : Footprint} (h : t.outside f = s.outside f) (n : Part.security ∉ f.parts) :
    t.security = s.security := by
  have e := congrArg State.security h
  simpa [State.outside, Footprint.keep, n] using e

theorem State.draws_of_outside {s t : State} {f : Footprint} (h : t.outside f = s.outside f) (n : Part.draws ∉ f.parts) :
    t.draws = s.draws := by
  have e := congrArg State.draws h
  simpa [State.outside, Footprint.keep, n] using e

theorem State.outbox_of_outside {s t : State} {f : Footprint} (h : t.outside f = s.outside f) (n : Part.outbox ∉ f.parts) :
    t.outbox = s.outbox := by
  have e := congrArg State.outbox h
  simpa [State.outside, Footprint.keep, n] using e

theorem State.config_of_outside {s t : State} {f : Footprint} (h : t.outside f = s.outside f) (n : Part.lexicon ∉ f.parts) :
    t.lexicon.config = s.lexicon.config := by
  have e := congrArg (fun x => x.lexicon.config) h
  simpa [State.outside, Footprint.keep, n] using e

theorem State.ports_of_outside {s t : State} {f : Footprint} (h : t.outside f = s.outside f) (n : Part.ports ∉ f.parts)
    (p : Nat) (q : p ≠ 9) : t.port p = s.port p := by
  have w (x : State) : Tbl.find (x.outside f).sched.ports p = Tbl.find x.sched.ports p := by
    by_cases m : Part.egress ∈ f.parts
    · simpa [State.outside, Footprint.keep, n, m] using Tbl.find_filter x.sched.ports p (fun k => k != 9) (by simp [q])
    · simp [State.outside, Footprint.keep, n, m]
  unfold State.port Tbl.getD
  rw [← w t, ← w s, h]

/-! ### Larger footprints -/

theorem Footprint.keep_keep {α : Type} {e f : Footprint} {p : Part} (h : p ∈ e.parts → p ∈ f.parts) (v d : α) :
    f.keep p (e.keep p v d) d = f.keep p v d := by
  unfold Footprint.keep
  by_cases m : p ∈ f.parts
  · simp [m]
  · have n : p ∉ e.parts := fun x => m (h x)
    simp [m, n]

/-- What is the same outside a footprint is the same outside a larger one. -/
theorem State.outside_mono {e f : Footprint} (hr : ∀ r ∈ e.regs, r ∈ f.regs) (hp : ∀ p ∈ e.parts, p ∈ f.parts)
    {s t : State} (h : t.outside e = s.outside e) : t.outside f = s.outside f := by
  have w (x : State) : x.outside f = (x.outside e).outside f := by
    have hq (p : Part) : p ∈ e.parts → p ∈ f.parts := hp p
    have regs : x.regs.filter (fun y => !(f.regs.contains (y.1 / 4294967296))) =
        (x.regs.filter (fun y => !(e.regs.contains (y.1 / 4294967296)))).filter
          (fun y => !(f.regs.contains (y.1 / 4294967296))) := by
      rw [List.filter_filter]
      apply List.filter_congr
      intro y _
      by_cases m : y.1 / 4294967296 ∈ e.regs
      · simp [hr _ m]
      · simp [m]
    have ports : (x.outside f).sched = ((x.outside e).outside f).sched := by
      simp only [State.outside, Footprint.keep]
      have a := hq .ports
      have b := hq .egress
      have c := hq .flow
      by_cases a1 : Part.ports ∈ e.parts <;> by_cases a2 : Part.ports ∈ f.parts <;>
        by_cases b1 : Part.egress ∈ e.parts <;> by_cases b2 : Part.egress ∈ f.parts <;>
        by_cases c1 : Part.flow ∈ e.parts <;> by_cases c2 : Part.flow ∈ f.parts <;>
        simp_all [List.filter_filter]
    have lex : (x.outside f).lexicon = ((x.outside e).outside f).lexicon := by
      simp only [State.outside, Footprint.keep]
      have a := hq .lexicon
      have b := hq .frames
      by_cases a1 : Part.lexicon ∈ e.parts <;> by_cases a2 : Part.lexicon ∈ f.parts <;>
        by_cases b1 : Part.frames ∈ e.parts <;> by_cases b2 : Part.frames ∈ f.parts <;> simp_all
    have eta (y : State) : y.outside f = { (y.outside f) with sched := (y.outside f).sched, lexicon := (y.outside f).lexicon } := rfl
    rw [eta x, ports, lex]
    simp only [State.outside, ← regs, Footprint.keep_keep (hq _)]
  rw [w t, w s, h]

/-- A fold keeps what each of its steps keeps. -/
theorem State.outside_each {α : Type} (l : List α) (g : State → α → State)
    (h : ∀ (s : State) (a : α), (g s a).outside f = s.outside f) : (s.each l g).outside f = s.outside f := by
  induction l generalizing s with
  | nil => rfl
  | cons a l ih => rw [State.each_cons, ih, h]

theorem State.outside_ite {p : Prop} [Decidable p] {x y z : State} (hx : x.outside f = z.outside f)
    (hy : y.outside f = z.outside f) : (if p then x else y).outside f = z.outside f := by
  split
  · exact hx
  · exact hy

theorem State.outside_onlyIf (b : Bool) (g : State → State) (h : (g s).outside f = s.outside f) :
    (s.onlyIf b g).outside f = s.outside f := by
  cases b
  · rfl
  · exact h

/-! ### Changes only -/

theorem State.changesOnly.refl : s.changesOnly s f := rfl

theorem State.changesOnly.trans {s t u : State} {f : Footprint} (a : s.changesOnly t f) (b : t.changesOnly u f) :
    s.changesOnly u f := Eq.trans b a

theorem State.changesOnly.mono {e f : Footprint} {s t : State} (h : s.changesOnly t e)
    (hr : ∀ r ∈ e.regs, r ∈ f.regs) (hp : ∀ p ∈ e.parts, p ∈ f.parts) : s.changesOnly t f :=
  State.outside_mono hr hp h

/-- The command queue and the balls of an answer. -/
theorem State.changesOnly_after {t : State} (h : s.changesOnly t f) : s.changesOnly (s.after t) f := by
  have q : t.pending = s.pending := State.pending_of_outside h
  have e : (s.after t).outside f = t.outside f := by
    unfold State.after
    rw [← q]; rfl
  exact e.trans h

end Sys2Proof.Machine
end

