-- ==== Sys2Proof/Laws/Events.lean ====
section
/-!
SUPPORT. What a raised source, a record, a message and a pulse can change: nothing outside `Footprint.event`.
-/
namespace Sys2Proof.Machine

variable (s : State)

/-- An entry that joins port 9. -/
@[simp] theorem State.event_makeHead (e : Entry) (t : Nat) :
    (s.makeHead 9 e t).outside .event = s.outside .event := by
  unfold State.makeHead
  dsimp only
  split
  · rw [State.bump, State.outside_set _ _ _ _ _ (by decide), State.outside_putPort9 _ _ _ (by decide)]
  · rw [State.outside_putPort9 _ _ _ (by decide)]

@[simp] theorem State.event_enter (e : Entry) : (s.enter 9 e).outside .event = s.outside .event := by
  have m : meterRow 9 e.svc e.i = none := rfl
  unfold State.enter
  simp only [m, Nat.reduceLeDiff, decide_false, Bool.and_false, Bool.false_eq_true, if_false]
  split
  · rw [State.event_makeHead, State.outside_putPort9 _ _ _ (by decide)]
  · rw [State.outside_putPort9 _ _ _ (by decide)]

@[simp] theorem State.event_nextId (n : Nat) :
    ({ s with sched := { s.sched with nextId := n } } : State).outside .event = s.outside .event := by
  simp [State.outside, Footprint.keep, Footprint.event]

@[simp] theorem State.event_enqueue (svc i : Nat) (w : Work) (n : Nat) :
    (s.enqueue 9 svc i w n).outside .event = s.outside .event := by
  unfold State.enqueue
  split
  · rfl
  · dsimp only
    split <;> simp (disch := decide) [State.outside_putPort9]

@[simp] theorem State.event_renewHeads : (s.renewHeads 9).outside .event = s.outside .event := by
  apply State.outside_each
  intro s kh
  dsimp only
  split
  · rfl
  · split <;> simp (disch := decide) [State.outside_putPort9]

@[simp] theorem State.event_admitOutside : (s.admitOutside 9).outside .event = s.outside .event := by
  apply State.outside_each
  intro s e
  split
  · simp (disch := decide) [State.outside_putPort9]
  · rfl

/-- Taking messages from port 9 frees no place of another port (R226). -/
theorem State.event_removeEntries (g : Entry → Bool) (h : ∀ e, g e = true → e.svc = 7) :
    (s.removeEntries 9 g).outside .event = s.outside .event := by
  have none : (s.port 9).entries.any (fun e => g e && e.svc != 7) = false := by
    simpa using fun e _ => h e
  unfold State.removeEntries
  simp (disch := decide) [none, State.outside_putPort9]

@[simp] theorem State.event_sendMsix (i a v : Nat) (m q : Option Nat) :
    (s.sendMsix i a v m q).outside .event = s.outside .event := by
  unfold State.sendMsix
  cases m <;> simp (disch := decide) [State.outside_modEvents]

@[simp] theorem State.event_testMgmt (i : Nat) : (s.testMgmt i).outside .event = s.outside .event := by
  unfold State.testMgmt
  split
  · split <;> simp (disch := decide) [State.outside_modEvents]
  · rfl

@[simp] theorem State.event_issueQueue (q : Nat) : (s.issueQueue q).outside .event = s.outside .event := by
  unfold State.issueQueue
  split
  · rfl
  · split
    · rfl
    · dsimp only
      split <;> simp (disch := decide) [State.outside_modEvents]

@[simp] theorem State.event_retryMessages (i : Nat) : (s.retryMessages i).outside .event = s.outside .event := by
  unfold State.retryMessages
  rw [State.outside_each _ _ _ _ (fun s q => by simp), State.event_testMgmt]

@[simp] theorem State.event_withdrawMessages (i : Nat) (c : Nat → Bool) :
    (s.withdrawMessages i c).outside .event = s.outside .event := by
  unfold State.withdrawMessages
  dsimp only
  rw [State.outside_each, State.event_removeEntries]
  · intro e
    cases e.work <;> simp +contextual
  intro s q
  cases q <;> simp (disch := decide) [State.outside_modEvents]

@[simp] theorem State.event_wakeSignal : s.wakeSignal.outside .event = s.outside .event := by
  unfold State.wakeSignal
  dsimp only
  split
  · simp (disch := decide) [State.outside_modEvents]
  · split
    · simp (disch := decide) [State.outside_modEvents]
    · split
      · split
        · rw [State.outside_emit _ _ _ (by decide), State.outside_modEvents _ _ _ (by decide)]
        · rw [State.outside_modEvents _ _ _ (by decide)]
      · rfl

@[simp] theorem State.event_wake (b : Nat) : (s.wake b).outside .event = s.outside .event := by
  unfold State.wake
  split <;> simp (disch := decide) [State.outside_set]

@[simp] theorem State.event_wakeOutsideA0 (b : Nat) : (s.wakeOutsideA0 b).outside .event = s.outside .event := by
  unfold State.wakeOutsideA0
  split <;> simp

@[simp] theorem State.event_sendFrame (p n d : Nat) (b : List Byte) :
    (s.sendFrame p n d b).outside .event = s.outside .event := by
  have e (s : State) (n : Nat) : ({ s with lexicon := { s.lexicon with frameSeq := n } } : State).outside .event =
      s.outside .event := by simp [State.outside, Footprint.keep, Footprint.event]
  unfold State.sendFrame
  dsimp only
  rw [State.outside_bump _ _ _ _ _ (by decide), e, State.outside_emit _ _ _ (by decide)]

@[simp] theorem State.event_fieldEvent (n : Nat) : (s.fieldEvent n).outside .event = s.outside .event := by
  unfold State.fieldEvent
  dsimp only
  split <;> simp (disch := decide) [State.outside_modEvents]

/-- A raised source stays inside the footprint of events. -/
@[simp] theorem State.event_raise (i n u : Nat) : (s.raise i n u).outside .event = s.outside .event := by
  unfold State.raise
  dsimp only
  rw [State.event_testMgmt]
  have keep (b : Prop) [Decidable b] (x y : State) (h : x.outside .event = y.outside .event) :
      (if b then x else y).outside .event = y.outside .event := by split <;> simp [h]
  rw [keep _ _ _ (State.event_fieldEvent _ _), keep _ _ _ (State.event_wake _ _), keep _ _ _ (State.event_wake _ _),
    keep _ _ _ (State.outside_modEvents _ _ _ (by decide)), State.outside_bump _ _ _ _ _ (by decide)]

@[simp] theorem State.event_keepPending (i n u : Nat) : (s.keepPending i n u).outside .event = s.outside .event := by
  unfold State.keepPending
  split <;> simp

@[simp] theorem State.event_withdraw (i n : Nat) : (s.withdraw i n).outside .event = s.outside .event := by
  unfold State.withdraw
  split
  · dsimp only
    rw [State.event_testMgmt]
    split
    · split
      · rw [State.outside_modEvents _ _ _ (by decide), State.event_removeEntries _ _ (by simp +contextual),
          State.outside_modEvents _ _ _ (by decide)]
      · rw [State.outside_modEvents _ _ _ (by decide)]
    · rw [State.outside_modEvents _ _ _ (by decide)]
  · rfl

@[simp] theorem State.event_withdrawUnit (i n u : Nat) :
    (s.withdrawUnit i n u).outside .event = s.outside .event := by
  unfold State.withdrawUnit
  dsimp only
  split <;> simp (disch := decide) [State.outside_modEvents]

/-- A pulse of the event fabric, with the requests it makes and the overflows it raises. -/
@[simp] theorem State.event_pulse (l : Nat) : (s.pulse l).outside .event = s.outside .event := by
  unfold State.pulse
  dsimp only
  rw [State.outside_each]
  · simp (disch := decide) [State.outside_set]
  · intro s k
    split
    · rfl
    · split <;> simp (disch := decide) [State.outside_set]

@[simp] theorem State.event_putQrun (q : Nat) (r : QRun) : (s.putQrun q r).outside .event = s.outside .event :=
  State.outside_modEvents _ _ _ (by decide)

@[simp] theorem State.event_decideQueue (q : Nat) (b : Bool) :
    (s.decideQueue q b).outside .event = s.outside .event := by
  unfold State.decideQueue
  dsimp only
  split
  · rw [State.event_issueQueue]
    split <;> simp (disch := decide) [State.outside_modEvents]
  · rfl

@[simp] theorem State.event_writeRecord (q v t a n : Nat) (b : List Byte) :
    (s.writeRecord q v t a n b).outside .event = s.outside .event := by
  unfold State.writeRecord
  dsimp only
  rw [State.event_decideQueue]
  split <;> (try rw [State.event_wakeOutsideA0]) <;>
    rw [State.event_putQrun, State.event_enqueue] <;> simp (disch := decide) [State.outside_set]

@[simp] theorem State.event_loseRecord (q t : Nat) : (s.loseRecord q t).outside .event = s.outside .event := by
  unfold State.loseRecord
  dsimp only
  split <;> (try rw [State.event_raise]) <;> rw [State.event_putQrun] <;> simp (disch := decide) [State.outside_set]

@[simp] theorem State.event_recordTo (q t a n : Nat) (b : List Byte) :
    (s.recordTo q t a n b).outside .event = s.outside .event := by
  unfold State.recordTo
  split
  · rfl
  · split
    · simp (disch := decide) [State.outside_set]
    · split <;> simp

/-- A record for the management queue of an instance stays inside the footprint of events. -/
@[simp] theorem State.event_recordMgmt (i t a n : Nat) (b : List Byte) :
    (s.recordMgmt i t a n b).outside .event = s.outside .event := by
  unfold State.recordMgmt
  split
  · simp
  · split
    · rfl
    · simp (disch := decide) [State.outside_set]

@[simp] theorem State.event_overflowRecord (q : Nat) : (s.overflowRecord q).outside .event = s.outside .event := by
  unfold State.overflowRecord
  split
  · dsimp only
    rw [State.event_withdraw, State.event_putQrun, State.outside_set _ _ _ _ _ (by decide), State.event_writeRecord]
  · rfl

/-- IMAGE_STATE and what its change raises. -/
theorem State.setImage_outside (v : ImageState) :
    (s.setImage v).outside .event = (s.set Reg.imageState 0 v.code).outside .event ∨ s.image = v ∧ s.setImage v = s := by
  unfold State.setImage
  split
  · right; exact ⟨by assumption, rfl⟩
  · left
    dsimp only
    split <;> simp

end Sys2Proof.Machine
end

