-- ==== Sys2Proof/Laws/Requests.lean ====
section
/-!
SUPPORT. What a Lexicon request does, said once: the path takes it, its checks pass, its effect follows, and its answer
leaves.
-/
namespace Sys2Proof.Machine

variable (s : State)

/-- What an event stays inside, a request stays inside. -/
theorem State.outside_request_event {s t : State} (h : t.outside .event = s.outside .event) :
    t.outside .request = s.outside .request := by
  exact State.outside_mono (by decide) (by decide) h

/-! ### Taking a request -/

theorem State.lexCall_serves (p : Path) (c : Instr) (g : State → State) (h : s.serves p = true) :
    s.lexCall p c g = g (s.reached p) := by
  cases p with
  | hostPf =>
    simp only [State.serves, Bool.and_eq_true, Bool.not_eq_true'] at h
    simp [State.lexCall, State.reached, State.posted, h]
  | hostVf i =>
    simp only [State.serves, Bool.and_eq_true, Bool.not_eq_true', bne_iff_ne, ne_eq] at h
    simp [State.lexCall, State.reached, State.posted, h]
  | field n =>
    simp only [State.serves, Bool.and_eq_true, Bool.not_eq_true'] at h
    have e : (s.wake 8).cutPassed = s.cutPassed := by
      unfold State.cutPassed State.image
      rw [State.get_of_outside (State.event_wake s 8) _ _ (by decide),
        State.power_of_outside (State.event_wake s 8) (by decide)]
    simp [State.lexCall, State.reached, h, e]
  | firmware =>
    simp only [State.serves, Bool.not_eq_true'] at h
    simp [State.lexCall, State.reached, h]

/-- The state in which a request is checked differs from the one before by what a request may. -/
@[simp] theorem State.request_taken (p : Path) : (s.taken p).outside .request = s.outside .request := by
  have e : (s.reached p).outside .event = s.outside .event := by cases p <;> simp [State.reached]
  rw [State.taken, State.countRequest, State.outside_bump _ _ _ _ _ (by decide)]
  exact State.outside_request_event e

/-- A register outside the footprint of requests reads in that state as before. -/
theorem State.get_taken (p : Path) (r i : Nat) (h : r ∉ Footprint.request.regs) : (s.taken p).get r i = s.get r i :=
  State.get_of_outside (State.request_taken s p) r i h

theorem State.runConfig_none (h : s.lexicon.config = none) : s.runConfig = s := by
  simp [State.runConfig, h]

/-! ### The place of a request -/

/-- The object and the place that a request reaches are those of its index and row. -/
theorem State.target_place {q : LexReq} {w : Bool} {o : Obj} {i : Nat} (h : s.target q w = .place o i) :
    ∃ u, Reg.lookup q.index = .entry o u ∧ i = o.place u q.row := by
  unfold State.target at h
  split at h
  · cases h
  · cases h
  · split at h
    · cases h
    · split at h
      · cases h
      · split at h
        · split at h <;> cases h
        · split at h <;> (try split at h) <;> cases h
  · rename_i o' u e
    dsimp only at h
    split at h
    · cases h
    · split at h
      · cases h
      · split at h
        · cases h
        · split at h
          · cases h
          · split at h
            · cases h
            · split at h
              · cases h
              · cases h; exact ⟨u, e, rfl⟩

/-! ### A command that stands for a write request -/

/-- A request that is taken and passes its checks has the effect of its write, and its answer follows. -/
theorem State.direct_spec {c : Instr} {a : Ask} (hr : requestOf c = some a) (h : s.allows c = true) :
    ∃ o u, Reg.lookup a.q.index = .entry o u ∧
      (s.taken a.q.path).checkValue a.q o (o.place u a.q.row) a.value = .ok ∧
      s.direct c = (State.settle ((s.taken a.q.path).applyWrite a.q.path (.direct a.q.path) a.extra o
        (o.place u a.q.row) a.value) (.direct a.q.path)).runConfig := by
  simp only [State.allows, hr, Bool.and_eq_true] at h
  obtain ⟨⟨⟨_, hs⟩, _⟩, hp⟩ := h
  unfold State.passes at hp
  split at hp
  · rename_i o i ht
    obtain ⟨u, hl, hi⟩ := State.target_place _ ht
    subst hi
    have hv : (s.taken a.q.path).checkValue a.q o (o.place u a.q.row) a.value = .ok := by simpa using hp
    refine ⟨o, u, hl, hv, ?_⟩
    have e : s.direct c = (State.settle ((s.taken a.q.path).writeEntry a.q (.direct a.q.path) a.extra a.value)
        (.direct a.q.path)).runConfig := by
      simp only [State.direct, hr]
      rw [State.lexCall_serves _ _ _ _ hs]
      rfl
    rw [e]
    simp only [State.writeEntry, ht, hv]
  · cases hp

/-- What has held of a value whose checks pass (R453). -/
theorem State.checkValue_ok {q : LexReq} {o : Obj} {i : Nat} {b : List Byte} (h : s.checkValue q o i b = .ok) :
    o.lengthOk b.length = true ∧ s.guardHolds q o (fromLe (b.take 8)) = false ∧
      (o.acc ≠ .ro → s.rangeCheck o i (fromLe (b.take 8)) = .ok ∧ s.legalIn o i (fromLe (b.take 8)) = true ∧
        s.writeBusy q.signed o.reg i (fromLe (b.take 8)) = false) := by
  unfold State.checkValue at h
  dsimp only at h
  split at h
  · cases h
  · split at h
    · cases h
    · split at h
      · cases h
      · rename_i a b' c
        refine ⟨by simpa using c, by simpa using b', ?_⟩
        intro n
        split at h
        · contradiction
        · split at h
          · rename_i e
            split at h
            · cases h
            · split at h
              · cases h
              · split at h
                · cases h
                · rename_i l w
                  exact ⟨e, by simpa using l, by simpa using w⟩
          · exact absurd h (by assumption)

/-- The same, where the object of the index is known. -/
theorem State.direct_at {c : Instr} {a : Ask} {o : Obj} {u : Nat} (hr : requestOf c = some a) (h : s.allows c = true)
    (hl : Reg.lookup a.q.index = .entry o u) :
    (s.taken a.q.path).checkValue a.q o (o.place u a.q.row) a.value = .ok ∧
      s.direct c = (State.settle ((s.taken a.q.path).applyWrite a.q.path (.direct a.q.path) a.extra o
        (o.place u a.q.row) a.value) (.direct a.q.path)).runConfig := by
  obtain ⟨o', u', e, hv, hd⟩ := State.direct_spec s hr h
  rw [hl] at e
  cases e
  exact ⟨hv, hd⟩

/-- A command that is allowed acts on a block that has power, with no SIGNED_CONFIG under way. -/
theorem State.allows_powered {c : Instr} (h : s.allows c = true) : s.clock.powered = true ∧ s.lexicon.config = none := by
  unfold State.allows at h
  split at h
  · simp only [Bool.and_eq_true, Option.isNone_iff_eq_none] at h
    exact ⟨h.1.1.1, h.1.2⟩
  · cases h

/-- A write that is answered OK at once: what the command leaves. -/
theorem State.direct_ok {c : Instr} {a : Ask} {o : Obj} {u : Nat} {v : State} (hr : requestOf c = some a)
    (h : s.allows c = true) (hl : Reg.lookup a.q.index = .entry o u)
    (he : (s.taken a.q.path).applyWrite a.q.path (.direct a.q.path) a.extra o (o.place u a.q.row) a.value = (v, .ok))
    (hc : v.lexicon.config = none) :
    actRom s (fun s => s.direct c) = .next (s.after (v.emit (.lexAnswer a.q.path 0 []))) := by
  have e := (State.direct_at s hr h hl).2
  rw [he] at e
  have k : (v.emit (.lexAnswer a.q.path 0 [])).lexicon.config = none := hc
  have e2 : s.direct c = v.emit (.lexAnswer a.q.path 0 []) := by
    rw [e]
    show (v.emit (.lexAnswer a.q.path 0 [])).runConfig = _
    rw [State.runConfig_none _ k]
  rw [actRom_powered _ _ (State.allows_powered s h).1, e2]
  rfl

/-- The answer OK of a request that a command brought by itself. -/
theorem State.settle_ok (p : Path) : State.settle (s, .ok) (.direct p) = s.emit (.lexAnswer p 0 []) := rfl

end Sys2Proof.Machine
end

