-- ==== Sys2Proof/Laws/Messages.lean ====
section
/-!
SUPPORT. What an entry that joins a port of the scheduler can change: nothing outside `Footprint.message`, where the entry
is one of service 7, which no meter colours.
-/
namespace Sys2Proof.Machine

variable (s : State)

@[simp] theorem State.message_makeHead (p : Nat) (e : Entry) (t : Nat) :
    (s.makeHead p e t).outside .message = s.outside .message := by
  unfold State.makeHead
  dsimp only
  split
  · rw [State.bump, State.outside_set _ _ _ _ _ (by decide), State.outside_putPort _ _ _ _ (by decide) (.inr (by decide))]
  · rw [State.outside_putPort _ _ _ _ (by decide) (.inr (by decide))]

@[simp] theorem State.message_enter (p : Nat) (e : Entry) (h : e.svc = 7) :
    (s.enter p e).outside .message = s.outside .message := by
  have m : meterRow p e.svc e.i = none := by simp [meterRow, h]
  have ite (b : Bool) (x : State) : (if b = true then x.bump Reg.hazardWaits else x).outside .message = x.outside .message := by
    cases b
    · rfl
    · exact State.outside_bump _ _ _ _ _ (by decide)
  unfold State.enter
  simp only [m]
  apply State.outside_ite
  · rw [State.message_makeHead, State.outside_putPort _ _ _ _ (by decide) (.inr (by decide)), ite]
  · rw [State.outside_putPort _ _ _ _ (by decide) (.inr (by decide)), ite]

@[simp] theorem State.message_enqueue (p i : Nat) (w : Work) (n : Nat) :
    (s.enqueue p 7 i w n).outside .message = s.outside .message := by
  have e (x : Nat) : ({ s with sched := { s.sched with nextId := x } } : State).outside .message = s.outside .message := by
    simp [State.outside, Footprint.keep, Footprint.message, Footprint.plus, Footprint.request, Footprint.event]
  unfold State.enqueue
  apply State.outside_ite
  · rfl
  dsimp only
  split
  · rw [State.message_enter _ _ _ rfl, e]
  · rw [State.outside_putPort _ _ _ _ (by decide) (.inr (by decide)), e]

/-- A carrier message. -/
@[simp] theorem State.message_sendCarrier (c : Nat) (b : Bool) (l : Nat) (m : Msg) :
    (s.sendCarrier c b l m).outside .message = s.outside .message := State.message_enqueue s _ _ _ _

/-- A partner message of service 7. -/
@[simp] theorem State.message_sendPartner (m : Msg) : (s.sendPartner m).outside .message = s.outside .message :=
  State.message_enqueue s _ _ _ _

/-- What an event stays inside, a message stays inside. -/
theorem State.message_of_event {s t : State} (h : t.outside .event = s.outside .event) :
    t.outside .message = s.outside .message := State.outside_mono (by decide) (by decide) h

/-- What a request stays inside, a message stays inside. -/
theorem State.message_of_request {s t : State} (h : t.outside .request = s.outside .request) :
    t.outside .message = s.outside .message := State.outside_mono (by decide) (by decide) h

end Sys2Proof.Machine
end

