-- ==== Sys2Proof/Laws/Objects.lean ====
section
/-!
SUPPORT. The index and the row by which each command of a subsystem is named, and the entry of the dictionary behind them.
-/
namespace Sys2Proof.Machine

set_option maxRecDepth 8000

theorem Reg.ask_imageCommand (p : Path) (i : Nat) (v : List Byte) (x : Extra) :
    askOf p Reg.imageCommand i v x = ⟨⟨p, Reg.imageCommand, 0xFFFFFFFF, false⟩, x, v⟩ := by rfl
theorem Reg.lookup_imageCommand : Reg.lookup Reg.imageCommand = .entry ⟨Reg.imageCommand, 0, 0, .u8, .wo, 0, (.between 1 5), 127, .none⟩ 0 := by rfl

theorem Reg.ask_ctxCommand (p : Path) (i : Nat) (v : List Byte) (x : Extra) :
    askOf p Reg.ctxCommand i v x = ⟨⟨p, Reg.ctxCommand, i, false⟩, x, v⟩ := by rfl
theorem Reg.lookup_ctxCommand : Reg.lookup Reg.ctxCommand = .entry ⟨Reg.ctxCommand, 0, 262144, .u8, .wo, 0, (.between 1 4), 14, .none⟩ 0 := by rfl

theorem Reg.ask_dwordEnable (p : Path) (i : Nat) (v : List Byte) (x : Extra) :
    askOf p Reg.dwordEnable i v x = ⟨⟨p, Reg.dwordEnable, i, false⟩, x, v⟩ := by rfl
theorem Reg.lookup_dwordEnable : Reg.lookup Reg.dwordEnable = .entry ⟨Reg.dwordEnable, 0, 256, .bool, .rw, 0, (.between 0 1), 14, .volatile⟩ 0 := by rfl

theorem Reg.ask_mirrorCommand (p : Path) (i : Nat) (v : List Byte) (x : Extra) :
    askOf p Reg.mirrorCommand i v x = ⟨⟨p, Reg.mirrorCommand, 0xFFFFFFFF, false⟩, x, v⟩ := by rfl
theorem Reg.lookup_mirrorCommand : Reg.lookup Reg.mirrorCommand = .entry ⟨Reg.mirrorCommand, 0, 0, .u8, .wo, 0, (.between 1 3), 127, .none⟩ 0 := by rfl

theorem Reg.ask_rangeCommand (p : Path) (i : Nat) (v : List Byte) (x : Extra) :
    askOf p Reg.rangeCommand i v x = ⟨⟨p, Reg.rangeCommand, i, false⟩, x, v⟩ := by rfl
theorem Reg.lookup_rangeCommand : Reg.lookup Reg.rangeCommand = .entry ⟨Reg.rangeCommand, 0, 16, .u8, .wo, 0, (.between 1 3), 8, .none⟩ 0 := by rfl

theorem Reg.ask_witnessNode (p : Path) (i : Nat) (v : List Byte) (x : Extra) :
    askOf p Reg.witnessNode i v x = ⟨⟨p, Reg.witnessNode, 0xFFFFFFFF, false⟩, x, v⟩ := by rfl
theorem Reg.lookup_witnessNode : Reg.lookup Reg.witnessNode = .entry ⟨Reg.witnessNode, 0, 0, .u8, .rw, 0, (.between 0 127), 78, .stored⟩ 0 := by rfl

theorem Reg.ask_extRecord (p : Path) (i : Nat) (v : List Byte) (x : Extra) :
    askOf p Reg.extRecord i v x = ⟨⟨p, Reg.extRecord, i, false⟩, x, v⟩ := by rfl
theorem Reg.lookup_extRecord : Reg.lookup Reg.extRecord = .entry ⟨Reg.extRecord, 0, 16384, (.blob 32), .rw, 0, (.oneOf [32]), 14, .sealed⟩ 0 := by rfl

theorem Reg.ask_extValid (p : Path) (i : Nat) (v : List Byte) (x : Extra) :
    askOf p Reg.extValid i v x = ⟨⟨p, Reg.extValid, i, false⟩, x, v⟩ := by rfl
theorem Reg.lookup_extValid : Reg.lookup Reg.extValid = .entry ⟨Reg.extValid, 0, 16384, .bool, .rw, 0, (.between 0 1), 14, .sealed⟩ 0 := by rfl

theorem Reg.ask_instCommand (p : Path) (i : Nat) (v : List Byte) (x : Extra) :
    askOf p Reg.instCommand i v x = ⟨⟨p, Reg.instCommand, i, false⟩, x, v⟩ := by rfl
theorem Reg.lookup_instCommand : Reg.lookup Reg.instCommand = .entry ⟨Reg.instCommand, 0, 256, .u8, .wo, 0, (.between 1 3), 95, .none⟩ 0 := by rfl

theorem Reg.ask_gateCommand (p : Path) (i : Nat) (v : List Byte) (x : Extra) :
    askOf p Reg.gateCommand i v x = ⟨⟨p, Reg.gateCommand + 65536 * i, 0xFFFFFFFF, false⟩, x, v⟩ := by rfl
theorem Reg.lookup_gateCommand : ∀ i : Fin 10, Reg.lookup (Reg.gateCommand + 65536 * i) =
    .entry ⟨Reg.gateCommand, 10, 0, .u8, .wo, 0, (.between 1 1), 95, .none⟩ i := by decide

theorem Reg.ask_queueEnable (p : Path) (i : Nat) (v : List Byte) (x : Extra) :
    askOf p Reg.queueEnable i v x = ⟨⟨p, Reg.queueEnable, i, false⟩, x, v⟩ := by rfl
theorem Reg.lookup_queueEnable : Reg.lookup Reg.queueEnable = .entry ⟨Reg.queueEnable, 0, 4096, .bool, .rw, 0, (.between 0 1), 95, .volatile⟩ 0 := by rfl

theorem Reg.ask_holdPf (p : Path) (i : Nat) (v : List Byte) (x : Extra) :
    askOf p Reg.holdPf i v x = ⟨⟨p, Reg.holdPf, i, false⟩, x, v⟩ := by rfl
theorem Reg.lookup_holdPf : Reg.lookup Reg.holdPf = .entry ⟨Reg.holdPf, 0, 256, .bool, .rw, 0, (.between 0 1), 95, .volatile⟩ 0 := by rfl

theorem Reg.ask_wakeStatus (p : Path) (i : Nat) (v : List Byte) (x : Extra) :
    askOf p Reg.wakeStatus i v x = ⟨⟨p, Reg.wakeStatus, 0xFFFFFFFF, false⟩, x, v⟩ := by rfl
theorem Reg.lookup_wakeStatus : Reg.lookup Reg.wakeStatus = .entry ⟨Reg.wakeStatus, 0, 0, .u32, .rw, 0, .any, 127, .volatile⟩ 0 := by rfl

theorem Reg.ask_chCommand (p : Path) (i : Nat) (v : List Byte) (x : Extra) :
    askOf p Reg.chCommand i v x = ⟨⟨p, Reg.chCommand + 65536 * i, 0xFFFFFFFF, false⟩, x, v⟩ := by rfl
theorem Reg.lookup_chCommand : ∀ i : Fin 64, Reg.lookup (Reg.chCommand + 65536 * i) =
    .entry ⟨Reg.chCommand, 64, 0, .u8, .wo, 0, (.between 1 5), 95, .none⟩ i := by decide

theorem Reg.ask_chCtrlShadow (p : Path) (i : Nat) (v : List Byte) (x : Extra) :
    askOf p Reg.chCtrlShadow i v x = ⟨⟨p, Reg.chCtrlShadow + 65536 * i, 0xFFFFFFFF, false⟩, x, v⟩ := by rfl
theorem Reg.lookup_chCtrlShadow : ∀ i : Fin 64, Reg.lookup (Reg.chCtrlShadow + 65536 * i) =
    .entry ⟨Reg.chCtrlShadow, 64, 0, .u64, .rw, 0, .any, 95, .volatile⟩ i := by decide

theorem Reg.ask_chRingShadow (p : Path) (i : Nat) (v : List Byte) (x : Extra) :
    askOf p Reg.chRingShadow i v x = ⟨⟨p, Reg.chRingShadow + 65536 * i, 0xFFFFFFFF, false⟩, x, v⟩ := by rfl
theorem Reg.lookup_chRingShadow : ∀ i : Fin 64, Reg.lookup (Reg.chRingShadow + 65536 * i) =
    .entry ⟨Reg.chRingShadow, 64, 0, .u64, .rw, 0, .any, 95, .volatile⟩ i := by decide

theorem Reg.ask_linkCommand (p : Path) (i : Nat) (v : List Byte) (x : Extra) :
    askOf p Reg.linkCommand i v x = ⟨⟨p, Reg.linkCommand + 65536 * i, 0xFFFFFFFF, false⟩, x, v⟩ := by rfl
theorem Reg.lookup_linkCommand : ∀ i : Fin 18, Reg.lookup (Reg.linkCommand + 65536 * i) =
    .entry ⟨Reg.linkCommand, 18, 0, .u8, .wo, 0, (.between 1 2), 95, .none⟩ i := by decide

theorem Reg.ask_linkEnable (p : Path) (i : Nat) (v : List Byte) (x : Extra) :
    askOf p Reg.linkEnable i v x = ⟨⟨p, Reg.linkEnable + 65536 * i, 0xFFFFFFFF, false⟩, x, v⟩ := by rfl
theorem Reg.lookup_linkEnable : ∀ i : Fin 18, Reg.lookup (Reg.linkEnable + 65536 * i) =
    .entry ⟨Reg.linkEnable, 18, 0, .bool, .rw, 1, (.between 0 1), 95, .stored⟩ i := by decide

theorem Reg.ask_laneCommand (p : Path) (i : Nat) (v : List Byte) (x : Extra) :
    askOf p Reg.laneCommand i v x = ⟨⟨p, Reg.laneCommand, i, false⟩, x, v⟩ := by rfl
theorem Reg.lookup_laneCommand : Reg.lookup Reg.laneCommand = .entry ⟨Reg.laneCommand, 0, 18, .u8, .wo, 0, (.between 1 1), 95, .none⟩ 0 := by rfl

theorem Reg.ask_prbsCommand (p : Path) (i : Nat) (v : List Byte) (x : Extra) :
    askOf p Reg.prbsCommand i v x = ⟨⟨p, Reg.prbsCommand, i, false⟩, x, v⟩ := by rfl
theorem Reg.lookup_prbsCommand : Reg.lookup Reg.prbsCommand = .entry ⟨Reg.prbsCommand, 0, 18, .u8, .wo, 0, (.between 1 2), 95, .none⟩ 0 := by rfl

theorem Reg.ask_powerRequest (p : Path) (i : Nat) (v : List Byte) (x : Extra) :
    askOf p Reg.powerRequest i v x = ⟨⟨p, Reg.powerRequest, 0xFFFFFFFF, false⟩, x, v⟩ := by rfl
theorem Reg.lookup_powerRequest : Reg.lookup Reg.powerRequest = .entry ⟨Reg.powerRequest, 0, 0, .u8, .wo, 0, (.between 0 3), 95, .none⟩ 0 := by rfl

theorem Reg.ask_replanCommand (p : Path) (i : Nat) (v : List Byte) (x : Extra) :
    askOf p Reg.replanCommand i v x = ⟨⟨p, Reg.replanCommand, 0xFFFFFFFF, false⟩, x, v⟩ := by rfl
theorem Reg.lookup_replanCommand : Reg.lookup Reg.replanCommand = .entry ⟨Reg.replanCommand, 0, 0, .u8, .wo, 0, (.between 1 1), 95, .none⟩ 0 := by rfl

theorem Reg.ask_fwPackage (p : Path) (i : Nat) (v : List Byte) (x : Extra) :
    askOf p Reg.fwPackage i v x = ⟨⟨p, Reg.fwPackage, 0xFFFFFFFF, false⟩, x, v⟩ := by rfl
theorem Reg.lookup_fwPackage : Reg.lookup Reg.fwPackage = .entry ⟨Reg.fwPackage, 0, 0, (.blob 6291456), .wo, 0, .any, 95, .none⟩ 0 := by rfl

theorem Reg.ask_fwCommand (p : Path) (i : Nat) (v : List Byte) (x : Extra) :
    askOf p Reg.fwCommand i v x = ⟨⟨p, Reg.fwCommand, 0xFFFFFFFF, false⟩, x, v⟩ := by rfl
theorem Reg.lookup_fwCommand : Reg.lookup Reg.fwCommand = .entry ⟨Reg.fwCommand, 0, 0, .u8, .wo, 0, (.between 1 4), 95, .none⟩ 0 := by rfl

theorem Reg.ask_ownerKey (p : Path) (i : Nat) (v : List Byte) (x : Extra) :
    askOf p Reg.ownerKey i v x = ⟨⟨p, Reg.ownerKey, 0xFFFFFFFF, false⟩, x, v⟩ := by rfl
theorem Reg.lookup_ownerKey : Reg.lookup Reg.ownerKey = .entry ⟨Reg.ownerKey, 0, 0, (.blob 1793), .rw, 0, .any, 3, .stored⟩ 0 := by rfl

theorem Reg.ask_ownerStatement (p : Path) (i : Nat) (v : List Byte) (x : Extra) :
    askOf p Reg.ownerStatement i v x = ⟨⟨p, Reg.ownerStatement, 0xFFFFFFFF, false⟩, x, v⟩ := by rfl
theorem Reg.lookup_ownerStatement : Reg.lookup Reg.ownerStatement = .entry ⟨Reg.ownerStatement, 0, 0, (.blob 66912), .wo, 0, .any, 127, .none⟩ 0 := by rfl

theorem Reg.ask_configLock (p : Path) (i : Nat) (v : List Byte) (x : Extra) :
    askOf p Reg.configLock i v x = ⟨⟨p, Reg.configLock, 0xFFFFFFFF, false⟩, x, v⟩ := by rfl
theorem Reg.lookup_configLock : Reg.lookup Reg.configLock = .entry ⟨Reg.configLock, 0, 0, .bool, .rw, 0, (.between 0 1), 95, .stored⟩ 0 := by rfl

theorem Reg.ask_attestNonce (p : Path) (i : Nat) (v : List Byte) (x : Extra) :
    askOf p Reg.attestNonce i v x = ⟨⟨p, Reg.attestNonce, 0xFFFFFFFF, false⟩, x, v⟩ := by rfl
theorem Reg.lookup_attestNonce : Reg.lookup Reg.attestNonce = .entry ⟨Reg.attestNonce, 0, 0, (.blob 32), .wo, 0, (.oneOf [32]), 95, .none⟩ 0 := by rfl

theorem Reg.ask_debugState (p : Path) (i : Nat) (v : List Byte) (x : Extra) :
    askOf p Reg.debugState i v x = ⟨⟨p, Reg.debugState, 0xFFFFFFFF, false⟩, x, v⟩ := by rfl
theorem Reg.lookup_debugState : Reg.lookup Reg.debugState = .entry ⟨Reg.debugState, 0, 0, .u8, .rw, 0, (.between 0 0), 127, .volatile⟩ 0 := by rfl

theorem Reg.ask_lexCommand (p : Path) (i : Nat) (v : List Byte) (x : Extra) :
    askOf p Reg.lexCommand i v x = ⟨⟨p, Reg.lexCommand, 0xFFFFFFFF, false⟩, x, v⟩ := by rfl
theorem Reg.lookup_lexCommand : Reg.lookup Reg.lexCommand = .entry ⟨Reg.lexCommand, 0, 0, .u8, .wo, 0, (.between 1 3), 127, .none⟩ 0 := by rfl

/-! ### Effects -/

variable (s : State)

theorem State.apply_imageCommand (p : Path) (who : Requester) (x : Extra) (i : Nat) (b : List Byte) :
    s.applyWrite p who x ⟨Reg.imageCommand, 0, 0, .u8, .wo, 0, (.between 1 5), 127, .none⟩ i b =
      s.imageCommand who (fromLe (b.take 8)) := by rfl

theorem State.apply_ctxCommand (p : Path) (who : Requester) (x : Extra) (i : Nat) (b : List Byte) :
    s.applyWrite p who x ⟨Reg.ctxCommand, 0, 262144, .u8, .wo, 0, (.between 1 4), 14, .none⟩ i b =
      s.ctxCommand i (fromLe (b.take 8)) := by rfl

theorem State.apply_dwordEnable (p : Path) (who : Requester) (x : Extra) (i : Nat) (b : List Byte) :
    s.applyWrite p who x ⟨Reg.dwordEnable, 0, 256, .bool, .rw, 0, (.between 0 1), 14, .volatile⟩ i b =
      (s.dwordEnableWrite i (fromLe (b.take 8) == 1), .ok) := by rfl

theorem State.apply_mirrorCommand (p : Path) (who : Requester) (x : Extra) (i : Nat) (b : List Byte) :
    s.applyWrite p who x ⟨Reg.mirrorCommand, 0, 0, .u8, .wo, 0, (.between 1 3), 127, .none⟩ i b =
      (s.mirrorCommand (fromLe (b.take 8)), .ok) := by rfl

theorem State.apply_rangeCommand (p : Path) (who : Requester) (x : Extra) (i : Nat) (b : List Byte) :
    s.applyWrite p who x ⟨Reg.rangeCommand, 0, 16, .u8, .wo, 0, (.between 1 3), 8, .none⟩ i b =
      s.rangeCommand who i (fromLe (b.take 8)) := by rfl

theorem State.apply_witnessNode (p : Path) (who : Requester) (x : Extra) (i : Nat) (b : List Byte) :
    s.applyWrite p who x ⟨Reg.witnessNode, 0, 0, .u8, .rw, 0, (.between 0 127), 78, .stored⟩ i b =
      (s.putLive Reg.witnessNode i (fromLe (b.take 8)), .ok) := by rfl

theorem State.apply_extRecord (p : Path) (who : Requester) (x : Extra) (i : Nat) (b : List Byte) :
    s.applyWrite p who x ⟨Reg.extRecord, 0, 16384, (.blob 32), .rw, 0, (.oneOf [32]), 14, .sealed⟩ i b =
      s.extentWrite who i (extOf b) := by rfl

theorem State.apply_extValid (p : Path) (who : Requester) (x : Extra) (i : Nat) (b : List Byte) :
    s.applyWrite p who x ⟨Reg.extValid, 0, 16384, .bool, .rw, 0, (.between 0 1), 14, .sealed⟩ i b =
      s.extentWrite who i { s.ext i with valid := fromLe (b.take 8) == 1 } := by rfl

theorem State.apply_instCommand (p : Path) (who : Requester) (x : Extra) (i : Nat) (b : List Byte) :
    s.applyWrite p who x ⟨Reg.instCommand, 0, 256, .u8, .wo, 0, (.between 1 3), 95, .none⟩ i b =
      s.instCommand who i (fromLe (b.take 8)) := by rfl

theorem State.apply_gateCommand (p : Path) (who : Requester) (x : Extra) (i : Nat) (b : List Byte) :
    s.applyWrite p who x ⟨Reg.gateCommand, 10, 0, .u8, .wo, 0, (.between 1 1), 95, .none⟩ i b =
      (s.gateCommitNow i, .ok) := by rfl

theorem State.apply_queueEnable (p : Path) (who : Requester) (x : Extra) (i : Nat) (b : List Byte) :
    s.applyWrite p who x ⟨Reg.queueEnable, 0, 4096, .bool, .rw, 0, (.between 0 1), 95, .volatile⟩ i b =
      (s.queueEnableWrite i (fromLe (b.take 8)), .ok) := by rfl

theorem State.apply_holdPf (p : Path) (who : Requester) (x : Extra) (i : Nat) (b : List Byte) :
    s.applyWrite p who x ⟨Reg.holdPf, 0, 256, .bool, .rw, 0, (.between 0 1), 95, .volatile⟩ i b =
      (s.holdPfWrite i (fromLe (b.take 8) == 1), .ok) := by rfl

theorem State.apply_wakeStatus (p : Path) (who : Requester) (x : Extra) (i : Nat) (b : List Byte) :
    s.applyWrite p who x ⟨Reg.wakeStatus, 0, 0, .u32, .rw, 0, .any, 127, .volatile⟩ i b =
      (s.wakeClear (fromLe (b.take 8)), .ok) := by rfl

theorem State.apply_chCommand (p : Path) (who : Requester) (x : Extra) (i : Nat) (b : List Byte) :
    s.applyWrite p who x ⟨Reg.chCommand, 64, 0, .u8, .wo, 0, (.between 1 5), 95, .none⟩ i b =
      (s.chanCommand i (fromLe (b.take 8)), .ok) := by rfl

theorem State.apply_chCtrlShadow (p : Path) (who : Requester) (x : Extra) (i : Nat) (b : List Byte) :
    s.applyWrite p who x ⟨Reg.chCtrlShadow, 64, 0, .u64, .rw, 0, .any, 95, .volatile⟩ i b =
      (s.shadowWrite i true (fromLe (b.take 8)), .ok) := by rfl

theorem State.apply_chRingShadow (p : Path) (who : Requester) (x : Extra) (i : Nat) (b : List Byte) :
    s.applyWrite p who x ⟨Reg.chRingShadow, 64, 0, .u64, .rw, 0, .any, 95, .volatile⟩ i b =
      (s.shadowWrite i false (fromLe (b.take 8)), .ok) := by rfl

theorem State.apply_linkCommand (p : Path) (who : Requester) (x : Extra) (i : Nat) (b : List Byte) :
    s.applyWrite p who x ⟨Reg.linkCommand, 18, 0, .u8, .wo, 0, (.between 1 2), 95, .none⟩ i b =
      (if fromLe (b.take 8) = 1 then s.linkRetrain i else s.declareDown i 8, .ok) := by rfl

theorem State.apply_linkEnable (p : Path) (who : Requester) (x : Extra) (i : Nat) (b : List Byte) :
    s.applyWrite p who x ⟨Reg.linkEnable, 18, 0, .bool, .rw, 1, (.between 0 1), 95, .stored⟩ i b =
      (s.putLive Reg.linkEnable i (fromLe (b.take 8)), .ok) := by rfl

theorem State.apply_laneCommand (p : Path) (who : Requester) (x : Extra) (i : Nat) (b : List Byte) :
    s.applyWrite p who x ⟨Reg.laneCommand, 0, 18, .u8, .wo, 0, (.between 1 1), 95, .none⟩ i b =
      (s.linkEqUpdate i, .ok) := by rfl

theorem State.apply_prbsCommand (p : Path) (who : Requester) (x : Extra) (i : Nat) (b : List Byte) :
    s.applyWrite p who x ⟨Reg.prbsCommand, 0, 18, .u8, .wo, 0, (.between 1 2), 95, .none⟩ i b =
      (if fromLe (b.take 8) = 1 then s.prbsStart i else s.prbsEnd i, .ok) := by rfl

theorem State.apply_powerRequest (p : Path) (who : Requester) (x : Extra) (i : Nat) (b : List Byte) :
    s.applyWrite p who x ⟨Reg.powerRequest, 0, 0, .u8, .wo, 0, (.between 0 3), 95, .none⟩ i b =
      (s.powerRequest (fromLe (b.take 8)) (match p with | .field _ => 1 | _ => 0), .ok) := by rfl

theorem State.apply_replanCommand (p : Path) (who : Requester) (x : Extra) (i : Nat) (b : List Byte) :
    s.applyWrite p who x ⟨Reg.replanCommand, 0, 0, .u8, .wo, 0, (.between 1 1), 95, .none⟩ i b =
      (s.restoreCaps, .ok) := by rfl

theorem State.apply_fwPackage (p : Path) (who : Requester) (x : Extra) (i : Nat) (b : List Byte) :
    s.applyWrite p who x ⟨Reg.fwPackage, 0, 0, (.blob 6291456), .wo, 0, .any, 95, .none⟩ i b =
      s.packageEnds (match x with | .package k => k | _ => packageOf b) := by rfl

theorem State.apply_fwCommand (p : Path) (who : Requester) (x : Extra) (i : Nat) (b : List Byte) :
    s.applyWrite p who x ⟨Reg.fwCommand, 0, 0, .u8, .wo, 0, (.between 1 4), 95, .none⟩ i b =
      s.fwCommandWrite (fromLe (b.take 8)) x := by rfl

theorem State.apply_ownerKey (p : Path) (who : Requester) (x : Extra) (i : Nat) (b : List Byte) :
    s.applyWrite p who x ⟨Reg.ownerKey, 0, 0, (.blob 1793), .rw, 0, .any, 3, .stored⟩ i b =
      (s.enrol b, .ok) := by rfl

theorem State.apply_ownerStatement (p : Path) (who : Requester) (x : Extra) (i : Nat) (b : List Byte) :
    s.applyWrite p who x ⟨Reg.ownerStatement, 0, 0, (.blob 66912), .wo, 0, .any, 127, .none⟩ i b =
      s.statement p who (match x with | .statement st => st | _ => s.statementOf b) := by rfl

theorem State.apply_configLock (p : Path) (who : Requester) (x : Extra) (i : Nat) (b : List Byte) :
    s.applyWrite p who x ⟨Reg.configLock, 0, 0, .bool, .rw, 0, (.between 0 1), 95, .stored⟩ i b =
      ((s.set Reg.configLock 0 (fromLe (b.take 8))).storeOwn, .ok) := by rfl

theorem State.apply_attestNonce (p : Path) (who : Requester) (x : Extra) (i : Nat) (b : List Byte) :
    s.applyWrite p who x ⟨Reg.attestNonce, 0, 0, (.blob 32), .wo, 0, (.oneOf [32]), 95, .none⟩ i b =
      s.attestStart p b := by rfl

theorem State.apply_debugState (p : Path) (who : Requester) (x : Extra) (i : Nat) (b : List Byte) :
    s.applyWrite p who x ⟨Reg.debugState, 0, 0, .u8, .rw, 0, (.between 0 0), 127, .volatile⟩ i b =
      (s.debugLocks, .ok) := by rfl

theorem State.apply_lexCommand (p : Path) (who : Requester) (x : Extra) (i : Nat) (b : List Byte) :
    s.applyWrite p who x ⟨Reg.lexCommand, 0, 0, .u8, .wo, 0, (.between 1 3), 127, .none⟩ i b =
      s.lexCommand (fromLe (b.take 8)) x := by rfl

end Sys2Proof.Machine
end

