-- ==== Sys2Proof/WellFormed.lean ====
section
/-!
DEFINITION. The ranges of the operands of a command: the widths that its message, frame, set or word gives them (Tables
6.1, 6.4, 6.5, 7.1, 8.1, 13.3 to 13.6, 14.5, 14.7, 15.4, 16.7, 17.2, 18.1, 18.7 and 18.12). A command outside them is
no event that the world can bring. `exec` gives every command a meaning all the same.
-/
namespace Sys2Proof

/-- The channel of a command: a local number below the 64 blocks of Table 8.4. -/
def via : ChanVia → Bool
  | .block _ j size => decide (j < 64) && decide (1 ≤ size) && decide (size ≤ 512)
  | .lexicon _ _ => true

/-- A statement of KIND `k` (Table 17.2). -/
def statement (st : Statement) (k : Nat) : Bool :=
  decide (st.kind = k) && decide (st.counter < 2 ^ 32)

/-- Every operand of a command lies in its range. -/
def Instr.wellFormed : Instr → Bool
  | .clauseBoundary cycles => decide (13 ≤ cycles.length) && cycles.all (fun c => decide (c < 2 ^ 32))
  | .timebaseLockLoss => true
  | .timebaseRelock _ => true
  | .refclkLoss _ => true
  | .powerOnReset _ _ => true
  | .porNAssert => true
  | .perstNAssert => true
  | .hotReset _ => true
  | .pfailNInput _ _ => true
  | .powerFailDetect _ _ => true
  | .cut => true
  | .saveResend _ => true
  | .warmRestart _ => true
  | .format _ => true
  | .commit _ => true
  | .retry _ => true
  | .abandon _ => true
  | .semicolon _ => true
  | .semicolonIntervalElapsed => true
  | .semicolonStart => true
  | .ckptStatus _ _ _ _ epoch count front => decide (epoch < 2 ^ 32) && decide (count < 2 ^ 32) && decide (front ≤ 2097152)
  | .ckptStatusTimeout _ => true
  | .stuckCkptResend _ => true
  | .sealComplete corrected rewrites _ => decide (corrected < 2 ^ 32) && decide (rewrites < 2 ^ 32)
  | .holdupReport _ _ energy rate cost => decide (energy < 2 ^ 32) && decide (rate < 2 ^ 32) && decide (cost < 2 ^ 32)
  | .holdupStale _ => true
  | .governorAdmit => true
  | .carrierWaitExpiry => true
  | .readyTimeout _ => true
  | .restoreStatus _ _ _ _ _ _ _ epoch val => decide (epoch < 2 ^ 32) && decide (val ≤ 2097152)
  | .touchTimeout _ => true
  | .hostRead _ a len tag => decide (a.addr < 2 ^ 64) && decide (1 ≤ len) && decide (len ≤ 4096) && decide (tag < 2 ^ 14)
  | .hostWrite _ a data _ _ => decide (a.addr < 2 ^ 64) && decide (1 ≤ data.length) && decide (data.length ≤ 512)
  | .malformedRequest _ _ _ tag => decide (tag < 2 ^ 14)
  | .hostCompletion tag data => decide (tag < 2 ^ 14) && decide (data.length ≤ 4096)
  | .hostCompletionTimeout tag _ => decide (tag < 2 ^ 14)
  | .vfEnableSet _ => true
  | .vfEnableClear => true
  | .numvfsWrite _ => true
  | .pfFlr => true
  | .vfFlr _ => true
  | .barResize _ enc _ => decide (enc < 2 ^ 6)
  | .pfD3hotEntry _ => true
  | .pfD0Return => true
  | .msixMask _ _ => true
  | .msixUnmask _ _ => true
  | .busMasterChange _ _ => true
  | .appendPublish _ off len _ value => decide (off < 2 ^ 64) && decide (1 ≤ len) && decide (len ≤ 512) && decide (value < 2 ^ 63)
  | .appendTrim _ off len _ value => decide (off < 2 ^ 64) && decide (1 ≤ len) && decide (len ≤ 512) && decide (value < 2 ^ 63)
  | .pendingEntryFree => true
  | .appendCoalTimeout n => decide (n < 262144)
  | .ctxOpen _ n => decide (n < 262144)
  | .ctxClose _ n => decide (n < 262144)
  | .ctxAbort _ n => decide (n < 262144)
  | .ctxResume _ n => decide (n < 262144)
  | .dwordEnable _ _ _ => true
  | .pair _ => true
  | .unpair _ => true
  | .takeover _ => true
  | .handover _ _ => true
  | .handoverTimeout => true
  | .forceTakeover _ _ => true
  | .adoptPartner _ _ => true
  | .mcopy _ _ seq ia data => decide (seq < 2 ^ 32) && decide (ia < 2 ^ 42) && decide (1 ≤ data.length) && decide (data.length ≤ 256)
  | .mack _ seq => decide (seq < 2 ^ 32)
  | .mnak _ reason seq ia => decide (reason < 2 ^ 8) && decide (seq < 2 ^ 32) && decide (ia < 2 ^ 42)
  | .rcopy _ _ seq ia data => decide (seq < 2 ^ 32) && decide (ia < 2 ^ 42) && decide (data.length = 256)
  | .rack _ seq => decide (seq < 2 ^ 32)
  | .pairHello _ body => decide (body.length = 128)
  | .mstate _ _ _ generation _ => decide (generation < 2 ^ 32)
  | .cutNotice _ epoch => decide (epoch < 2 ^ 32)
  | .rmap _ first block => decide (first < 2 ^ 22) && decide (first % 512 = 0) && decide (block.length = 64)
  | .holdNotice _ _ => true
  | .rangeDesc _ _ base segments => decide (base < 2 ^ 32) && decide (segments < 2 ^ 32)
  | .mirrorAckTimeout => true
  | .splitDeclared => true
  | .leaseRequestDue => true
  | .leaseGrant _ pairId req result term => decide (pairId < 2 ^ 64) && decide (req < 2 ^ 32) && decide (result < 2 ^ 8) && decide (term < 2 ^ 32)
  | .takeoverGrant _ pairId req result => decide (pairId < 2 ^ 64) && decide (req < 2 ^ 32) && decide (result < 2 ^ 8)
  | .leaseLapse => true
  | .leaseNoGrant => true
  | .takeoverRetry => true
  | .witnessNodeWrite _ node => decide (node < 2 ^ 8)
  | .extentCommit _ row record => decide (row < 16384) && (match record with | some b => decide (b.length = 32) | none => true)
  | .extentWithdraw _ row => decide (row < 16384)
  | .instReset _ _ => true
  | .instResetDrain _ _ => true
  | .instResetSquash _ _ => true
  | .resetBegin _ => true
  | .drainEscalation _ => true
  | .resetComplete _ => true
  | .schedulerGrant _ => true
  | .redHoldExpiry _ _ _ => true
  | .gateCommit _ _ => true
  | .sample _ => true
  | .queueDoorbell _ j size value => decide (j < 64) && decide (1 ≤ size) && decide (size ≤ 512) && decide (value < 2 ^ 64)
  | .queueEnable _ _ => true
  | .queueDisable _ _ => true
  | .queueCoalTimeout _ => true
  | .claim _ size => decide (1 ≤ size) && decide (size ≤ 4096)
  | .complete _ size value => decide (1 ≤ size) && decide (size ≤ 512) && decide (value < 2 ^ 64)
  | .selfHoldWrite _ value => decide (value < 2 ^ 64)
  | .holdPfWrite _ _ _ => true
  | .inflightExpiry _ _ => true
  | .wakeLatch _ => true
  | .wakeStatusClear _ value => decide (value < 2 ^ 32)
  | .wakeTimerExpiry => true
  | .gpioInput _ _ => true
  | .dmaDoorbell _ j size value => decide (j < 64) && decide (1 ≤ size) && decide (size ≤ 512) && decide (value < 2 ^ 64)
  | .dmaEnable v => via v
  | .dmaDisable v => via v
  | .dmaResume v => via v
  | .dmaSkip v => via v
  | .dmaAbort v => via v
  | .softPulse _ j value => decide (j < 64) && decide (value < 2 ^ 64)
  | .shadowWrite v _ value => via v && decide (value < 2 ^ 64)
  | .eventFabricPulse _ => true
  | .dmaBurstIssue => true
  | .carrierCpl _ _ tag poison data => decide (tag < 2 ^ 16) && decide (poison < 16) && decide (data.length % 64 = 0) && decide (1 ≤ data.length) && decide (data.length ≤ 256)
  | .carrierAck _ _ tag bitmap => decide (tag < 2 ^ 16) && decide (bitmap < 2 ^ 16) && decide (bitmap % 2 = 1)
  | .controlAck _ _ op epoch => decide (op < 2 ^ 8) && decide (epoch < 2 ^ 32)
  | .carrierNak _ _ tag reason => decide (tag < 2 ^ 16) && decide (reason < 2 ^ 8)
  | .retryRound _ seg => decide (seg < 2097152)
  | .tagTimeout _ _ => true
  | .ident _ _ body => decide (body.length = 128)
  | .health _ _ _ body => decide (body.length = 64)
  | .healthStale _ => true
  | .wakeResend _ => true
  | .wakeTimeout _ => true
  | .fuReceive _ fu _ => decide (fu.length = 72)
  | .nakFu _ fu _ => decide (fu.length = 72)
  | .replayMarker _ m => decide (m < 2 ^ 12)
  | .nakRepeat _ => true
  | .ackTimeout _ => true
  | .creditTimeout _ _ => true
  | .init _ role vcs idx token version => decide (role < 16) && decide (vcs < 17) && decide (idx < 2) && decide (token < 256) && decide (version < 256)
  | .initEcho _ token _ => decide (token < 256)
  | .initTimeout _ => true
  | .pauseStart _ reason width rate => decide (reason < 256) && decide (width < 4) && decide (rate < 8)
  | .pauseReq _ reason width rate => decide (reason < 256) && decide (width < 4) && decide (rate < 8)
  | .pauseAck _ => true
  | .resume _ e _ token width rate => decide (e < 2 ^ 12) && decide (token < 256) && decide (width < 4) && decide (rate < 8)
  | .resumeEcho _ token _ => decide (token < 256)
  | .downSet _ cause => decide (cause < 256)
  | .pauseLimitExpiry _ => true
  | .laneLockLoss _ _ _ _ => true
  | .lanesReady _ => true
  | .linkDownTimeExpiry _ => true
  | .retrain _ _ => true
  | .linkCommandDown _ _ => true
  | .linkEnableWrite _ _ _ => true
  | .trainingStart _ => true
  | .tsCap _ rates laneNo _ mask _ => decide (rates < 256) && decide (laneNo < 8) && decide (mask < 256)
  | .tsRate _ rate token => decide (rate < 256) && decide (token < 256)
  | .tsReady _ rate mask token => decide (rate < 256) && decide (mask < 256) && decide (token < 256)
  | .eqReq _ cm1 cp1 preset iteration => decide (cm1 < 256) && decide (cp1 < 256) && decide (preset < 256) && decide (iteration < 256)
  | .eqAck _ cm1 cp1 c0 _ width height => decide (cm1 < 256) && decide (cp1 < 256) && decide (c0 < 256) && decide (width < 256) && decide (height < 256)
  | .eqDone _ cm1 cp1 width height => decide (cm1 < 256) && decide (cp1 < 256) && decide (width < 256) && decide (height < 256)
  | .trainingTimeout _ => true
  | .trainingRetry _ => true
  | .eqUpdate _ _ => true
  | .eyeScan _ width height => decide (width < 256) && decide (height < 256)
  | .prbsStart _ _ => true
  | .prbsStop _ _ => true
  | .powerRequest _ _ => true
  | .stepTimeout => true
  | .patrolPass sensors => sensors.all (fun x => decide (x < 2 ^ 32))
  | .sensorSample sensors _ => decide (sensors.length = 17) && sensors.all (fun x => decide (x < 2 ^ 32))
  | .replan oscillators => decide (oscillators.length = 16) && oscillators.all (fun x => decide (x < 2 ^ 32))
  | .restoreCaps _ => true
  | .avsStep _ => true
  | .avsRetry _ => true
  | .testModeInput _ => true
  | .fwPackage _ pkg => decide (pkg.version < 2 ^ 32) && decide (pkg.step < 2 ^ 32)
  | .activate _ => true
  | .confirm _ failsAt => (match failsAt with | some n => decide (n < 64) | none => true)
  | .invalidate _ => true
  | .fwRestart _ _ => true
  | .ownerKeyEnrol _ key => decide (key.length ≤ 1793)
  | .ownerReplace _ st => statement st 3
  | .ownerRelease _ st => statement st 4
  | .signedConfig _ st => statement st 5
  | .debugUnlock _ st => statement st 6
  | .configLockWrite _ _ => true
  | .attestNonce _ nonce => decide (nonce.length = 32)
  | .attestSigned => true
  | .debugChallengeRead _ => true
  | .debugLock _ value => decide (value < 256)
  | .lexiconRead _ _ index row off len => decide (index < 2 ^ 32) && decide (row < 2 ^ 32) && decide (off < 2 ^ 32) && decide (len < 2 ^ 16)
  | .lexiconWrite _ _ _ index row off data => decide (index < 2 ^ 32) && decide (row < 2 ^ 32) && decide (off < 2 ^ 32) && decide (data.length ≤ 2048)
  | .registerWrite _ index row _ => decide (index < 2 ^ 32) && decide (row < 2 ^ 32)
  | .segmentLapse _ => true
  | .store _ rewrites _ => decide (rewrites < 2 ^ 32)
  | .lexFormat _ => true
  | .reload _ => true
  | .clezelRead _ _ _ _ data => decide (data.length ≤ 64)
  | .clezelWrite _ _ _ _ data => decide (data.length ≤ 64)
  | .heartbeat => true
  | .canBusOff => true
  | .perstNRelease => true
  | .hostLinkStatusChange status rate width _ => decide (status < 256) && decide (rate < 256) && decide (width < 256)
  | .refclkReturn _ => true
  | .controlSetResend _ => true
  | .trainingLaneWait _ => true
  | .busOffRecovery => true
  | .pmeTurnOff => true

end Sys2Proof
end

