-- ==== Sys2Proof/Tests/Slice0.lean ====
section
/-!
SUPPORT. Tests of the model: operands outside their ranges are refused by the well-formedness check; worked examples of
the spec; and, for every statement with hypotheses, concrete states and operands that meet them together.
-/
open Sys2Proof Sys2Proof.Machine Host
set_option maxRecDepth 8000
namespace Sys2Proof.Tests

/-! ### States -/

/-- A state with registers set: (register, unit or row, value). -/
def regs (l : List (Nat × Nat × Nat)) (s : State) : State := l.foldl (fun s x => s.set x.1 x.2.1 x.2.2) s

/-- Clause c, cycle 0. -/
def atClause (c : Nat) (s : State) : State := { s with clock := { s.clock with clause := c } }

/-- An image of one carrier and 16 segments in state code i, its windows open or not. -/
def inState (i w : Nat) : State :=
  regs [(Reg.imageState, 0, i), (Reg.windowOpen, 0, w), (Reg.activeCarriers, 0, 1), (Reg.imageSegments, 0, 16)] State.reset

/-- The image is Open. -/
def opened : State := inState 3 1

/-- Recovery: no firmware runs. -/
def recovering : State := { State.reset with security := { State.reset.security with recovery := true } }

/-- POR_N is low. -/
def off : State := { State.reset with clock := { State.reset.clock with powered := false } }

/-! ### The block, the clause tick and the resets -/

theorem witness_empty_queue : State.reset.pending = [] := by decide
theorem witness_balls : opened.pins = pinsOf opened ∧ (∃ t, step opened = .next t) := ⟨by decide, opened, rfl⟩
theorem witness_por_low : off.clock.powered = false ∧ (∀ b h, Instr.pmeTurnOff ≠ .powerOnReset b h) :=
  ⟨by decide, fun _ _ h => by cases h⟩
theorem witness_recovery : recovering.security.recovery = true ∧ Instr.needsFirmware .cut = true := by decide
/-- A clause after the cut, and one whose core clock stays gated. -/
theorem witness_clause : recovering.clock.powered = true ∧ opened.clock.powered = true ∧
    opened.security.recovery = false ∧ (opened.power.detected = false ∨ opened.power.cutDone = true) ∧
    (inState 5 0).cutPassed = true ∧ opened.cutPassed = false ∧ opened.advance.skipSets.gpioLevels.staysGated = false ∧
    ({ opened with clock := { opened.clock with gated := true } } : State).advance.skipSets.gpioLevels.staysGated = true := by
  decide
/-- The PLL has been locked again for 1,000,000 clauses, and for one fewer. -/
theorem witness_timebase :
    (∀ k < 3, (regs [(Reg.timebaseStatus, 0, k)] opened).get Reg.timebaseStatus = k) ∧
    (regs [(Reg.timebaseStatus, 0, 2)] { opened with clock := { opened.clock with
      clause := 1000007, steadySince := some 7 } }).clock.steadySince = some 7 ∧ 7 + 1000000 ≤ 1000007 ∧
    1000006 < 7 + 1000000 := by decide
theorem witness_por_forgets : State.reset.keep = opened.keep ∧ State.reset.pending = opened.pending ∧
    State.reset.draws = opened.draws ∧ State.reset.outbox = opened.outbox ∧ State.reset ≠ opened ∧
    opened.clock.powered = true := by decide
theorem witness_new_part : State.reset.keep = Keep.blank ∧ State.reset.pending = [] ∧ State.reset.draws = 0 ∧
    State.reset.outbox = [] ∧ (1 : Fin 4).val < 2 ∧ 2 ≤ (2 : Fin 4).val := by decide
/-- PERST_N is high, with the host's reference there. -/
def linked : State := { opened with host := { opened.host with perstLow := false } }
theorem witness_host_reset : linked.cutPassed = false ∧ linked.host.perstLow = false ∧ bit (linked.get Reg.refclkStatus) 0 = true ∧
    opened.host.perstLow = true ∧ linked.clock.powered = true ∧
    ({ linked with power := { linked.power with cutDone := true } } : State).cutPassed = true := by decide
theorem witness_references : (∀ r < 3, bit (linked.get Reg.refclkStatus) r = true) ∧
    (∀ r < 3, bit ((regs [(Reg.refclkStatus, 0, 0)] linked).get Reg.refclkStatus) r = false) := by decide

/-! ### Power failure -/

/-- The power as f makes it. -/
def pow (s : State) (f : Power → Power) : State := { s with power := f s.power }
/-- PFAIL_N fell at cycle 0 of clause 0, and n clauses have gone. -/
def pfail (n : Nat) : State := atClause n (pow (regs [(Reg.pfailSources, 0, 3)] opened)
  (fun p => { p with pfailHigh := false, lowSince := some 0 }))
theorem witness_pfail : (pfail 0).clock.powered = true ∧ opened.power.pfailHigh = true ∧ (pfail 0).power.pfailHigh = false ∧
    (pfail 0).power.detected = false ∧ (pfail 10000).pfailLow = true ∧ (pfail 0).pfailLow = false ∧
    bit ((pfail 0).get Reg.pfailSources) 0 = true ∧ bit ((pfail 0).get Reg.pfailSources) 1 = true ∧
    bit ((regs [(Reg.pfailSources, 0, 0)] opened).get Reg.pfailSources) 0 = false ∧ (pfail 0).power.glitchAt = none := by decide
/-- A glitch at clause 5: the next source waits until clause 1,005. -/
theorem witness_glitch : (pow (pfail 0) (fun p => { p with glitchAt := some 5 })).power.glitchAt = some 5 ∧
    1004 < 5 + 1000 ∧ (∀ c, (pow (pfail 0) (fun p => { p with glitchAt := some 5 })).power.glitchAt = some c → c + 1000 ≤ 1005) :=
  ⟨by decide, by decide, fun c h => by cases h; decide⟩
/-- A detection stands. -/
def failing (s : State) : State := pow s (fun p => { p with pfailHigh := false, lowSince := some 0, detected := true })
theorem witness_detected : (failing opened).power.detected = true ∧ (failing opened).power.pfailHigh = false ∧
    (failing opened).power.vsenseOk = true ∧ (failing opened).power.clearSince = none ∧
    (atClause 10000 (failing opened)).pfailLow = true ∧ (failing opened).pfailLow = false ∧
    (pow (failing opened) (fun p => { p with clearSince := some 0 })).power.clearSince ≠ none ∧
    (pow (failing opened) (fun p => { p with vsenseOk := false })).power.vsenseOk = false := by decide
/-- After the cut in Setup, with both inputs clear since cycle 0 and PFAIL_RETURN_TIME gone by. -/
def clear (n : Nat) : State := atClause n (pow (regs [(Reg.tjAlert, 0, 100)] (inState 1 0)) (fun p => { p with
  detected := true, cutDone := true, clearSince := some 0 }))
theorem witness_warm : (clear 2000000).awake = true ∧ (clear 2000000).power.detected = true ∧
    (clear 2000000).power.cutDone = true ∧ (clear 2000000).keep.job = none ∧ (clear 2000000).stop.active = false ∧
    (clear 2000000).pfailLow = false ∧ (clear 2000000).power.clearSince = some 0 ∧
    (clear 2000000).due (0 + 250000 * (clear 2000000).get Reg.pfailReturnTime) = true ∧
    signed32 ((clear 2000000).get Reg.tjMax) < 65536 * ((clear 2000000).get Reg.tjAlert : Int) ∧
    (clear 0).due (0 + 250000 * (clear 0).get Reg.pfailReturnTime) = false ∧
    65536 * ((regs [(Reg.tjAlert, 0, 0)] (clear 0)).get Reg.tjAlert : Int) ≤ signed32 ((clear 0).get Reg.tjMax) ∧
    opened.power.cutDone = false ∧ opened.power.clearSince = none := by decide
/-- The Full Stop of an Open image that has not come to rest. -/
def stopping : State := { failing (inState 5 0) with stop := { FullStop.reset with
  active := true, stateAtCut := 3, epoch := 9 } }
theorem witness_stopping : stopping.stop.active = true ∧ stopping.stop.stateAtCut ≠ 4 ∧ stopping.stop.quiet = false := by decide
/-- What the cut finds, once it has taken what was received before it. -/
def atCut (s : State) : State := (failing s).advance.skipSets.cutTakes
theorem witness_cut : (failing opened).awake = true ∧ (failing opened).power.detected = true ∧
    (failing opened).power.cutDone = false ∧ opened.power.detected = false ∧ (atCut opened).image = .opened ∧
    (atCut (inState 4 0)).image = .quiesced ∧ (atCut (inState 0 0)).image = .unformed ∧
    (atCut (inState 1 0)).image = .setup ∧ (atCut (inState 6 0)).image = .fault ∧
    (atCut (inState 2 0)).image = .restoring ∧ (atCut (inState 2 0)).get Reg.restartPhase ≤ 2 ∧
    (atCut (regs [(Reg.restartPhase, 0, 3)] (inState 2 0))).image = .restoring ∧
    2 < (atCut (regs [(Reg.restartPhase, 0, 3)] (inState 2 0))).get Reg.restartPhase := by decide
/-- SAVE went to carrier 0 at cycle 0; 2,500 cycles later its link 0, which is up, has not acknowledged it. -/
def saving (n : Nat) : State := atClause n (regs [(Reg.linkState, 0, 3)] stopping)
theorem witness_save : (saving 20).awake = true ∧ (saving 20).stop.active = true ∧ 0 < (saving 20).get Reg.activeCarriers ∧
    [0, 1].filter (fun l => (saving 20).linkIsUp (2 * 0 + l)) = [0] ∧ (saving 20).stop.quiet = false ∧
    bit (saving 20).stop.saveAck (2 * 0) = false ∧ bit (saving 20).stop.saveAck (2 * 0 + 1) = false ∧
    [0, 1].filter (fun l => stopping.linkIsUp (2 * 0 + l)) = [] ∧
    (saving 20).due (Tbl.getD (saving 20).stop.sentAt 0 0 + 2500) = true ∧
    (saving 18).due (Tbl.getD (saving 18).stop.sentAt 0 0 + 2500) = false ∧ opened.stop.active = false ∧
    opened.get Reg.activeCarriers ≤ 1 := by decide

/-! ### The image -/

theorem witness_format : State.reset.allows (.format .firmware) = true ∧ State.reset.get Reg.debugState ≠ 2 ∧
    State.reset.keep.job = none ∧
    (inState 6 0).allows (.format .hostPf) = true ∧
    (regs [(Reg.debugState, 0, 2)] State.reset).allows (.format .firmware) = true ∧
    (inState 1 0).allows (.abandon .firmware) = true := by decide
/-- The seal of a Semicolon under way. -/
def job (f : SealFor) (k : Nat) : SealJob := ⟨f, 1, ⟨k, 5, 7, 0, 3, false, 0, 0⟩⟩
/-- A seal is being written. -/
def writing (f : SealFor) (k : Nat) (s : State) : State := { s with keep := { s.keep with job := some (job f k) } }
theorem witness_format_busy : (writing .semicolon 1 (inState 6 0)).allows (.format .firmware) = true ∧
    (writing .semicolon 1 (inState 6 0)).get Reg.debugState ≠ 2 ∧
    (writing .semicolon 1 (inState 6 0)).keep.job ≠ none := by decide
/-- Carrier 0 has reported 64 GiB. -/
def reported (s : State) : State := { s with carriers := [(0, { Carrier.reset with ident0 := true, capacity := 36 })] }
theorem witness_commit : (reported (inState 1 0)).allows (.commit .firmware) = true ∧
    (reported (inState 1 0)).geometryCheck = .ok ∧ (inState 1 0).allows (.commit .firmware) = true ∧
    (inState 1 0).geometryCheck = .state ∧
    (regs [(Reg.activeCarriers, 0, 0)] (inState 1 0)).allows (.commit .firmware) = true ∧
    (regs [(Reg.activeCarriers, 0, 0)] (inState 1 0)).get Reg.activeCarriers = 0 ∧
    (regs [(Reg.imageSegments, 0, 0)] (inState 1 0)).allows (.commit .firmware) = true ∧
    (regs [(Reg.imageSegments, 0, 0)] (inState 1 0)).get Reg.imageSegments = 0 ∧
    (regs [(Reg.imageSegments, 0, 32769)] (reported (inState 1 0))).geometryCheck = .range := by decide
/-- Bank 0 holds a complete seal. -/
def sealed (readable : Bool) (s : State) : State :=
  { s with keep := { s.keep with bank0 := ⟨some ⟨1, 5, 7, 0, 3, false, 0, 0⟩, Bank.blank.content,
      some ⟨1, 7, 5, 1, 0, 16, 0, []⟩, readable⟩ } }
theorem witness_retry : (inState 6 0).allows (.retry .firmware) = true ∧ (inState 6 0).get Reg.powerState = 0 ∧
    (inState 6 0).power.trans = none ∧ (inState 6 0).keep.latest = none ∧
    (sealed true (inState 6 0)).allows (.retry .firmware) = true ∧ (sealed true (inState 6 0)).keep.latest = some 0 ∧
    ((sealed true (inState 6 0)).keep.bank 0).complete = some ⟨1, 7, 5, 1, 0, 16, 0, []⟩ ∧
    ((sealed true (inState 6 0)).keep.bank 0).readable = true ∧
    ((sealed false (inState 6 0)).keep.bank 0).readable = false ∧
    (regs [(Reg.powerState, 0, 1)] (inState 6 0)).allows (.retry .firmware) = true := by decide

/-! ### Semicolons and seals -/

theorem witness_semicolon : opened.allows (.semicolon .firmware) = true ∧ opened.get Reg.semicolonState ≠ 3 ∧
    opened.persist.holdLeft = 0 ∧ opened.govActive = true ∧ (inState 1 0).govActive = false ∧
    ({ opened with persist := { opened.persist with holdLeft := 1 } } : State).allows (.semicolon .firmware) = true ∧
    (regs [(Reg.semicolonState, 0, 3)] opened).allows (.semicolon .firmware) = true ∧
    opened.get Reg.semicolonInterval ≠ 0 ∧
    (atClause 117187499 opened).due (128 * opened.persist.lastStart + 250000 * opened.get Reg.semicolonInterval) = false ∧
    (atClause 117187500 opened).due (128 * opened.persist.lastStart + 250000 * opened.get Reg.semicolonInterval) = true := by
  decide
/-- The persistence engine as f makes it. -/
def per (s : State) (f : Persist → Persist) : State := { s with persist := f s.persist }
/-- A trigger stands. -/
def triggered : State := per opened (fun p => { p with trigger := true, dirty := [(0, 1)] })
/-- A Semicolon of epoch 5 runs, which has begun on carrier 0. -/
def running (s : State) : State := per (regs [(Reg.semicolonState, 0, 1)] s) (fun p => { p with
  running := true, epoch := 5, count := 1, closing := [(0, 1)], cars := [(0, { SemiCar.reset with begun := true, attempts := 1 })] })
theorem witness_start : triggered.awake = true ∧ triggered.govActive = true ∧ triggered.persist.running = false ∧
    triggered.persist.triggersHeld = false ∧ triggered.semicolonWanted = true ∧ (running opened).persist.running = true ∧
    opened.semicolonWanted = false := by decide
theorem witness_status : (running opened).awake = true ∧ (running opened).persist.sealDue = false ∧
    (running opened).get Reg.semicolonState ≠ 2 ∧ below32 4 5 = true ∧ below32 5 4 = false ∧ below32 5 5 = false ∧
    (running opened).persist.epoch = 5 ∧ (∃ e, below32 5 e = true ∧ e ≠ 5) ∧
    (running opened).get Reg.semicolonState = 1 ∧ 0 < (running opened).get Reg.activeCarriers ∧
    (∀ k, k < (running opened).get Reg.activeCarriers → k ≠ 0 → ((running opened).semi k).done = true) ∧
    ((running opened).semi 0).countAtSend < 1 ∧ opened.persist.running = false := by
  refine ⟨by decide, by decide, by decide, by decide, by decide, by decide, by decide, ⟨6, by decide, by decide⟩, ?_⟩
  decide
/-- 1.25 ms and 1,000 ms after cycle 0, in a carrier with a attempts that ran out, an attempt running or not, or stuck. -/
def attempts (n a : Nat) (trying stuck : Bool) : State := atClause n (per (running (regs [(Reg.linkState, 0, 3)] opened))
  (fun p => { p with cars := [(0, { SemiCar.reset with begun := true, trying := trying, attempts := a, stuck := stuck })] }))
theorem witness_status_timeout : (attempts 2442 1 true false).ckptRuns 0 = true ∧
    ((attempts 2442 1 true false).semi 0).stuck = false ∧ (attempts 2442 1 true false).carrierHasUp 0 = true ∧
    ((attempts 2442 1 true false).semi 0).trying = true ∧ ((attempts 2442 0 false false).semi 0).trying = false ∧
    ((attempts 2442 1 true false).semi 0).attempts < 2 ∧ 2 ≤ ((attempts 2442 2 true false).semi 0).attempts ∧
    (attempts 2442 2 true false).due (max ((attempts 2442 2 true false).semi 0).sentAt
      ((attempts 2442 2 true false).semi 0).statusAt + 312500) = true ∧
    (attempts 2440 2 true false).due (0 + 312500) = false ∧ (running opened).carrierHasUp 0 = false ∧
    (attempts 1953125 3 false true).ckptRuns 0 = true ∧ ((attempts 1953125 3 false true).semi 0).stuck = true ∧
    (attempts 1953125 3 false true).due (((attempts 1953125 3 false true).semi 0).sentAt + 250000000) = true ∧
    (attempts 1953124 3 false true).due (((attempts 1953124 3 false true).semi 0).sentAt + 250000000) = false := by decide
/-- A Semicolon is stuck, on carrier 0. -/
def stuck : State := per (regs [(Reg.semicolonState, 0, 3), (Reg.linkState, 0, 3)] opened) (fun p => { p with
  running := true, cars := [(0, { SemiCar.reset with begun := true, attempts := 3, stuck := true })] })
theorem witness_stuck : stuck.allows (.semicolon .firmware) = true ∧ stuck.get Reg.semicolonState = 3 ∧
    0 < stuck.get Reg.activeCarriers ∧ (stuck.semi 0).stuck = true := by decide
/-- An attestation for nonce 0 is being signed. -/
def signing (s : State) : State := { s with security := { s.security with attest := some ⟨.hostPf, [0], some [1]⟩ } }
theorem witness_seal : (writing .semicolon 1 (running opened)).awake = true ∧
    (writing .semicolon 1 (running opened)).keepLow = false ∧ (writing .semicolon 1 (running opened)).attestSigns = false ∧
    (regs [(Reg.sensorValue, 11, 1709)] opened).keepLow = true ∧ (regs [(Reg.sensorValue, 11, 1710)] opened).keepLow = false ∧
    (signing opened).attestSigns = true ∧ (writing .semicolon 1 (signing opened)).keep.job ≠ none ∧
    (writing .semicolon 1 (signing opened)).attestSigns = true ∧ (signing opened).keepLow = false ∧
    ({ writing .semicolon 1 opened with keep := { (writing .semicolon 1 opened).keep with
      waiting := [.fullStop] } } : State).keep.waiting = .fullStop :: [] ∧
    (writing .semicolon 1 (running opened)).keep.job = some (job .semicolon 1) ∧
    (writing .semicolon 1 (running opened)).keep.waiting = [] ∧ opened.lexicon.config = none ∧ opened.keep.job = none ∧
    (writing .semicolon 1 (running opened)).image = .opened ∧ (job .semicolon 1).purpose = .semicolon ∧
    (writing (.commit (.direct .firmware)) 2 (inState 1 0)).image = .setup ∧
    (job (.commit (.direct .firmware)) 2).purpose = .commit (.direct .firmware) ∧
    (job (.extent 0 [] (.direct .firmware)) 3).purpose = .extent 0 [] (.direct .firmware) ∧
    (writing .fullStop 4 (inState 5 0)).keep.job = some (job .fullStop 4) ∧
    (writing (.extent 0 [] (.direct .firmware)) 3 opened).keep.job = some (job (.extent 0 [] (.direct .firmware)) 3) ∧
    (job .fullStop 4).purpose = .fullStop := by decide

/-! ### The governor and the restore -/

theorem witness_holdup : opened.awake = true ∧ opened.cutPassed = false ∧ (inState 5 0).cutPassed = true ∧
    (opened.govCar 0).stale = false ∧
    ((regs [(Reg.linkState, 0, 3)] opened).linkIsUp (2 * 0) || opened.linkIsUp (2 * 0 + 1)) = true ∧
    (opened.linkIsUp (2 * 0) || opened.linkIsUp (2 * 0 + 1)) = false ∧
    (atClause 117187500 opened).due ((((opened.govCar 0).reports.head?.map (·.1)).getD 0) +
      250000 * opened.get Reg.govReportMaxAge) = true ∧
    opened.due ((((opened.govCar 0).reports.head?.map (·.1)).getD 0) + 250000 * opened.get Reg.govReportMaxAge) = false := by
  decide
/-- The PF has one extent: 4 pages from window offset 0 at image address 0, readable and writable. -/
def mapped (s : State) : State :=
  regs [(Reg.extValid, 0, 1), (Reg.extPages, 0, 4), (Reg.extRights, 0, 3), (Reg.linkState, 0, 3), (Reg.govBudget, 0, 100),
    (Reg.extentsValid, 0, 1)]
    { s with
      host := { s.host with perstLow := false }
      carriers := [(0, { Carrier.reset with ident0 := true, capacity := 36, resident := [(0, 16)] })] }
/-- Writes wait at the head of the posted path. -/
def waits (c : List Instr) (s : State) : State := { s with host := { s.host with posted := c } }
/-- One write of 8 bytes. -/
def write8 : Instr := .hostWrite 0 ⟨.bar2, 0⟩ (List.replicate 8 (some 1)) false false
theorem witness_admitted : (mapped opened).resetting 0 = false ∧ (mapped opened).mirror.rxWait = [] ∧
    (mapped opened).dma.chans = [] ∧ (mapped opened).host.readWait = [] ∧
    (waits [write8] (mapped opened)).host.posted = [write8] ∧
    (mapped (opened)).tryWrite 0 0 (List.replicate 8 (some 1)) false ≠ none ∧
    (per (mapped opened) (fun p => { p with writesStopped := true })).tryWrite 0 0 (List.replicate 8 (some 1)) false = none := by
  decide
theorem witness_publish_waits : (mapped opened).resetting (0 : Fin 256).val = false ∧ (waits [.appendPublish 0 0 8 true 8] (mapped opened)).host.posted = [.appendPublish 0 0 8 true 8] ∧
    (mapped opened).doorbellWaits 0 0 8 true false 8 = false := by decide
/-- A restart in phase p, whose carrier 0 has sent this IDENT body, on link 0. -/
def restarting (p n : Nat) (body : List Byte) : State :=
  atClause n (regs [(Reg.restartPhase, 0, p), (Reg.linkState, 0, 3)]
    { inState 2 0 with
      carriers := [(0, { Carrier.reset with ident0 := true, capacity := 36 })]
      blobs := [(Reg.key Reg.identBody 0, body)]
      restore := { Restore.reset with epoch := some 5 } })
/-- Of an assigned carrier 0 of 1, with 16 segments, image identity 0, 64 GiB, and saved epoch 5. -/
def identBody : List Byte := layout [(6, 0), (1, 3), (1, 0), (16, 0), (1, 1), (1, 36), (2, 0), (4, 16), (4, 5), (92, 0)]
theorem witness_carrier_wait : (restarting 2 100000000 identBody).awake = true ∧
    (restarting 2 100000000 identBody).image = .restoring ∧ (restarting 2 100000000 identBody).get Reg.restartPhase = 2 ∧
    (restarting 2 100000000 identBody).due ((restarting 2 100000000 identBody).restore.startAt +
      250000 * (restarting 2 100000000 identBody).get Reg.restartCarrierWait) = true ∧
    (restarting 2 0 identBody).due ((restarting 2 0 identBody).restore.startAt +
      250000 * (restarting 2 0 identBody).get Reg.restartCarrierWait) = false ∧
    (∀ k, k < (restarting 2 100000000 identBody).get Reg.activeCarriers →
      (restarting 2 100000000 identBody).carrierCheck (some 5) k = none) ∧
    (atClause 100000000 (regs [(Reg.restartPhase, 0, 2)] (inState 2 0))).identified 0 = false := by decide
theorem witness_ready : (restarting 3 976562 identBody).get Reg.restartPhase = 3 ∧
    ((restarting 3 976562 identBody).car 0).ready = false ∧
    (restarting 3 976562 identBody).due ((restarting 3 976562 identBody).restore.sweepAt + 125000000) = true ∧
    (restarting 3 976561 identBody).due ((restarting 3 976561 identBody).restore.sweepAt + 125000000) = false ∧
    (restarting 3 0 identBody).host.readWait = [] ∧ (restarting 3 0 identBody).restore.openAt = none ∧
    (∀ k, k < (restarting 3 0 identBody).get Reg.activeCarriers → k ≠ 0 → ((restarting 3 0 identBody).car k).ready = true) ∧
    7 ≠ ((restarting 3 0 identBody).restore.epoch.getD 0 + 1) % 4294967296 ∧
    (restarting 4 0 identBody).get Reg.restartPhase = 4 ∧ 0 < (restarting 4 0 identBody).get Reg.imageSegments ∧
    ((restarting 4 0 identBody).car 0).resident = [] := by decide
/-- A host read of 8 bytes held since cycle 0. -/
def heldRead (n : Nat) : State := atClause n { opened with restore := { opened.restore with
  held := [⟨3, 0, 0, 0, 0, 0, .image false 0 8 [] false (.hostRead 1 0), 8⟩] } }
theorem witness_touch : (heldRead 100000000).restore.held.find? (fun x => x.order == 3) =
      some ⟨3, 0, 0, 0, 0, 0, .image false 0 8 [] false (.hostRead 1 0), 8⟩ ∧
    (heldRead 100000000).due (0 + 250 * (heldRead 100000000).get Reg.restoreTouchLimit) = true ∧
    opened.restore.held.find? (fun x => x.order == 3) = none := by decide

/-! ### Accesses of the host -/

/-- The PF's window shows the image. -/
def host : State := mapped opened
/-- The bases of the PF's BARs lie far apart. -/
def based (s : State) : State := { s with host := { s.host with bases := ⟨2 ^ 40, 2 ^ 41, 2 ^ 42, 2 ^ 43, 2 ^ 44, 2 ^ 45⟩ } }
/-- The first and the last bytes of each BAR, and one byte beyond either end. -/
theorem witness_bars : (based host).clock.powered = true ∧ (inState 5 0).cutPassed = true ∧ (based host).cutPassed = false ∧
    2 ^ 41 - 1 < (based host).barBase 0 .bar2 ∧
    (based host).barBase 0 .bar2 + (based host).barSize 0 .bar2 < 2 ^ 41 + (based host).windowSize 0 - 8 + 9 ∧
    2 ^ 40 + 8 = (based host).barBase 0 .bar0 + 8 ∧ 8 + 8 ≤ (based host).barSize 0 .bar0 ∧
    2 ^ 42 + 8 = (based host).barBase 0 .bar4 + 8 ∧ 8 + 8 ≤ (based host).barSize 0 .bar4 ∧
    2 ^ 41 + 0 = (based host).barBase 0 .bar2 + 0 ∧ 0 + 4097 ≤ (based host).barSize 0 .bar2 := by decide
theorem witness_read : (host.wakeOutsideA0 14).accepts 0 .bar2 0 = true ∧ (host.wakeOutsideA0 14).accepts 3 .bar2 0 = false ∧
    bar0Breaks .bar0 4 8 = true ∧ bar0Breaks .bar0 0 8 = false ∧ bar0Breaks .bar2 4 4096 = false ∧
    host.accepts 0 .bar4 8 = true ∧ host.accepts 0 .bar0 0 = true ∧ host.host.posted = [] ∧ host.host.readWait = [] ∧
    (waits [write8] host).host.posted ≠ [] ∧ (waits [write8] host).accepts 0 .bar2 0 = true ∧
    pageAt 0 (8 / 8 * 8) ≠ (.claim, 0) ∧ (∃ off, pageAt 0 (off / 8 * 8) = (.claim, 0) ∧ bar0Breaks .bar0 off 8 = false ∧
      host.accepts 0 .bar0 off = true) ∧
    (mapped (inState 1 0)).windowsOpen = false ∧ (mapped (inState 1 0)).accepts 0 .bar2 0 = true ∧ host.windowsOpen = true ∧
    host.readRoom 0 0 4096 = true ∧ host.decidingFault 0 false (host.partsOf 0 0 4096) = none ∧
    host.decidingFault 0 false (host.partsOf 0 16384 8) ≠ none ∧
    ({ host with host := { host.host with readWait := [.hostRead 0 ⟨.bar2, 0⟩ 8 1] } } : State).host.readWait ≠ [] := by
  refine ⟨by decide, by decide, by decide, by decide, by decide, by decide, by decide, by decide, by decide, by decide, by decide,
    by decide, ⟨0x402000, by decide, by decide, by decide⟩, by decide⟩
theorem witness_write : (host.writeWakes 0 .bar2 0).accepts 0 .bar2 0 = true ∧ (host.writeWakes 0 .bar2 0).accepts 3 .bar2 0 = false ∧
    bar0Breaks .bar0 4 8 = true ∧ (host.writeWakes 0 .bar0 0).accepts 0 .bar0 0 = true ∧
    (host.writeWakes 0 .bar2 0).windowsOpen = true ∧ (mapped (inState 1 0)).windowsOpen = false ∧
    (host.writeWakes 0 .bar4 8).takeDoorbell 0 8 (List.replicate 8 (some 0)) ≠ none ∧
    (per host (fun p => { p with writesStopped := true })).persist.writesStopped = true ∧ 512 < (List.replicate 513 (some (1 : Byte))).length ∧ enablesFit 0 (List.replicate 512 (some 1)) = true ∧
    enablesFit 0 (List.replicate 4 (some 1) ++ [none] ++ List.replicate 7 (some 1)) = false ∧
    host.persist.writesStopped = false ∧ host.decidingFault 0 true (host.partsOf 0 0 512) = none ∧
    host.decidingFault 0 true (host.partsOf 0 16384 8) ≠ none ∧
    host.writeRoom (host.partsOf 0 0 8) (host.copyRuns ((host.partsOf 0 0 8).map
      (fun p => (p.ia, partData 0 (List.replicate 8 (some 1)) p)))) 8 = true ∧
    (regs [(Reg.govState, 0, 3)] host).writeRoom (host.partsOf 0 0 8) (host.copyRuns ((host.partsOf 0 0 8).map
      (fun p => (p.ia, partData 0 (List.replicate 8 (some 1)) p)))) 8 = false := by decide
/-- A descriptor of channel 2 is being read with tag 5, and a burst of channel 3 with tag 6. -/
def asked : State := { host with host := { host.host with reqs :=
  [⟨5, true, .descriptor 2 9, 0, 4096, 64, []⟩, ⟨6, true, .dmaRead 3 1 0, 0, 8192, 128, List.replicate 64 1⟩] } }
theorem witness_completion : asked.awake = true ∧ asked.cutPassed = false ∧ asked.outstanding 7 = none ∧
    asked.outstanding 5 = some ⟨5, true, .descriptor 2 9, 0, 4096, 64, []⟩ ∧
    asked.outstanding 6 = some ⟨6, true, .dmaRead 3 1 0, 0, 8192, 128, List.replicate 64 1⟩ ∧
    0 + (List.replicate 63 (0 : Byte)).length < 64 ∧ 64 ≤ 0 + (List.replicate 64 (0 : Byte)).length ∧
    128 ≤ (List.replicate 64 (1 : Byte)).length + (List.replicate 64 (0 : Byte)).length := by decide
theorem witness_bad_requests : host.decodes 0 = true ∧ host.decodes 3 = false ∧
    (BadTlp.malformed, 18) ∈ [(BadTlp.malformed, 18), (.flowControlProtocol, 13), (.receiverOverflow, 17),
      (.dataLinkProtocol, 4)] ∧
    (BadTlp.receiverError, 0) ∈ [(BadTlp.receiverError, 0), (.badTlp, 6), (.badDllp, 7), (.replayTimer, 12),
      (.replayRollover, 8), (.correctedEcc, 14)] ∧
    BadTlp.unsupported ∈ [BadTlp.unsupported, .decodeDisabled, .bar0Shape] := by decide

/-! ### Functions -/

/-- VFs 1 and 2 are live. -/
def vfs (s : State) : State := regs [(Reg.instState, 1, 1), (Reg.instState, 2, 1)]
  { s with host := { s.host with vfEnable := true, vfMem := true, numVfs := 2 } }
theorem witness_vfs : host.awake = true ∧ host.host.vfEnable = false ∧ (vfs host).host.vfEnable = true ∧
    (1, 2) = (1, (vfs host).host.numVfs) ∧ (vfs host).live 2 = true ∧ host.live 3 = false ∧ (vfs host).cutPassed = false ∧
    (vfs host).hears = true ∧ (2 : Fin 256) ≠ 0 ∧ host.flrRuns 0 = false ∧ (vfs host).configOn 2 = true ∧
    (vfs host).resetJob 2 = none := by decide
/-- A reset of VF 1, of kind 1, asked for in clause 0. -/
def vfJob : ResetJob := ⟨1, 1, true, true, 0, none, 0, none, false, false, false, 0, 0, 0, 0, 0, none⟩
/-- An FLR of instance i runs. -/
def flring (i : Nat) (s : State) : State := { s with resets := [{ vfJob with i := i, func := true }] }
theorem witness_flr : (flring 0 host).hears = true ∧ (flring 0 host).flrRuns 0 = true ∧ (flring 2 (vfs host)).live 2 = true ∧
    (flring 2 (vfs host)).flrRuns 2 = true ∧ (flring 2 (vfs host)).configOn 2 = false ∧ (flring 0 host).awake = true := by decide
/-- NumVFs is 2 and none is live yet. -/
theorem witness_vf_staged : ({ host with host := { host.host with numVfs := 2 } } : State).host.numVfs = 2 ∧
    ({ host with host := { host.host with numVfs := 2 } } : State).live 2 = false ∧
    (Reg.stQueueFirst, Reg.effQueueFirst) ∈ stagedFields := by decide
theorem witness_configuration : 9 < 10 ∧ 22 < 23 ∧ host.configOn 0 = true ∧ host.configOn 3 = false ∧
    host.host.vfMem = false ∧ (vfs host).host.vfMem = true ∧ host.live 0 = true ∧
    host.get Reg.hostLinkStatus = 0 ∧ (regs [(Reg.hostLinkStatus, 0, 2)] host).get Reg.hostLinkStatus ≠ 0 ∧
    bit ((regs [(Reg.refclkStatus, 0, 0)] host).get Reg.refclkStatus) 0 = false ∧
    host.host.d3 = false ∧ host.get Reg.patrolOnD3 ≠ 1 ∧ (regs [(Reg.patrolOnD3, 0, 1)] host).get Reg.patrolOnD3 = 1 ∧
    host.get Reg.powerState ≠ 2 ∧ (regs [(Reg.powerState, 0, 2)] host).get Reg.powerState = 2 ∧ 4 < 5 ∧
    opened.host.perstLow = true ∧ host.host.perstLow = false ∧ bit (host.get Reg.refclkStatus) 0 = true := by decide
/-- Item k of the work list was deferred at the boundary of the clause. -/
def deferred (k : Nat) (s : State) : State := { s with clock := { s.clock with carried := [k] } }
/-- Two vectors are in flight. -/
theorem witness_inflight : ({ host with events := { host.events with inflight := [(0, 1, 0), (0, 2, 5)] } } : State).hears = true ∧
    (0, 1, 0) ∈ ({ host with events := { host.events with inflight := [(0, 1, 0), (0, 2, 5)] } } : State).events.inflight ∧
    host.itemHeld 7 = false ∧ (deferred 7 host).itemHeld 7 = true := by decide

/-! ### Durable append -/

/-- Context 0 of the PF is OPEN, a ring of 4 KiB, with head 0 and the given tail and durable tail. -/
def log (t d : Nat) (s : State) : State :=
  regs [(Reg.ctxState, 0, 1), (Reg.ctxTail, 0, t), (Reg.ctxDurable, 0, d), (Reg.ctxQueue, 0, 1), (Reg.ctxCoalCount, 0, 4),
    (Reg.ctxCoalTime, 0, 10), (Reg.appendContextsOpen, 0, 1)] s
/-- Write 1 of the PF lacks an acknowledgement. -/
def unacked (s : State) : State := { s with append := { s.append with
  writes := [⟨0, 1, 1, 0⟩], numbered := [(0, 1)] } }
theorem witness_publish : (log 0 0 host).hears = true ∧ (log 0 0 host).decodes 0 = true ∧ (log 0 0 host).host.posted = [] ∧
    0 + 8 ≤ 2 ^ (log 0 0 host).host.pfBar4 ∧ 0 / 8 < (log 0 0 host).get Reg.effCtxCount 0 ∧
    (log 0 0 host).get Reg.effCtxFirst 0 + 0 / 8 = 0 ∧ (log 0 0 host).govActive = true ∧ (log 0 0 host).ctxState 0 = .opened ∧
    (log 0 0 host).get Reg.ctxTail 0 ≤ 4088 ∧ 4088 - (log 0 0 host).get Reg.ctxHead 0 ≤ 2 ^ (12 + (log 0 0 host).get Reg.ctxRingSize 0) - 8 ∧
    2 ^ (12 + (log 0 0 host).get Reg.ctxRingSize 0) - 8 < 4096 - (log 0 0 host).get Reg.ctxHead 0 ∧
    (host.wakeOutsideA0 13).decodes 0 = true ∧ (log 0 0 host).get Reg.ctxDurable 0 ≤ 4088 ∧ (4088 % 8 = 0 ∧ 4089 % 8 ≠ 0) ∧
    (regs [(Reg.ctxState, 0, 3)] host).ctxState 0 = .error ∧ (regs [(Reg.ctxState, 0, 4)] host).ctxState 0 = .frozen ∧
    (log 0 0 host).append.writes = [] ∧ (log 0 0 host).append.pubs = [] ∧ 0 < (log 0 0 host).get Reg.pendingMax 0 ∧
    (unacked (log 0 0 host)).localFrontier 0 < (unacked (log 0 0 host)).lastWrite 0 ∧
    (regs [(Reg.pendingMax, 0, 0)] (unacked (log 0 0 host))).pubRoom 0 0 = false ∧ 8 < (log 16 16 host).get Reg.ctxTail 0 ∧
    (regs [(Reg.ctxState, 0, 2)] host).ctxState 0 = .closing ∧ host.ctxState 0 = .closed := by decide
theorem witness_trim : (log 16 8 host).get Reg.ctxHead 0 ≤ 8 ∧ 8 ≤ (log 16 8 host).get Reg.ctxDurable 0 ∧
    (log 16 8 host).get Reg.ctxDurable 0 < 16 ∧ 0 < (regs [(Reg.ctxHead, 0, 8)] (log 16 8 host)).get Reg.ctxHead 0 := by decide
/-- Context 0 has notified nothing for COAL_TIME, with one publish since. -/
def coal (n : Nat) : State := atClause n (log 8 8 { host with append := { host.append with run := [(0, { CtxRun.reset with u := 1 })] } })
/-- The same where item k of the work list has ended n expiries of the clause. -/
def spent (k n : Nat) (s : State) : State := { s with clock := { s.clock with fired := [(k, (n, n))] } }
theorem witness_coal : ((coal 10).ctxRun 0).u ≠ 0 ∧ (coal 10).get Reg.ctxCoalCount 0 ≠ 1 ∧
    ((coal 10).ctxRun 0).since + (coal 10).get Reg.ctxCoalTime 0 = 10 ∧
    (coal 10).expiryRuns 8 10 ((coal 10).ctxDeadlines.all (10 ≤ ·)) = true ∧
    (spent 8 31 (coal 10)).expiryRuns 8 10 ((coal 10).ctxDeadlines.all (10 ≤ ·)) = true ∧
    (spent 8 32 (coal 10)).expiryRuns 8 10 ((coal 10).ctxDeadlines.all (10 ≤ ·)) = false ∧
    (deferred 8 (coal 10)).expiryRuns 8 10 ((coal 10).ctxDeadlines.all (10 ≤ ·)) = false ∧
    (deferred 8 (coal 11)).expiryRuns 8 10 true = false ∧ (coal 11).expiryRuns 8 10 true = true ∧
    (coal 9).clock.clause < ((coal 9).ctxRun 0).since + (coal 9).get Reg.ctxCoalTime 0 ∧ (host.ctxRun 0).u = 0 := by decide
theorem witness_contexts : host.allows (.ctxOpen .firmware 0) = true ∧ ((host).taken .firmware).ctxOpenCheck 0 = .ok ∧
    ((opened).taken .firmware).ctxOpenCheck 0 ≠ .ok ∧ opened.allows (.ctxOpen .firmware 0) = true ∧
    (log 0 0 host).allows (.ctxClose .firmware 0) = true ∧ (log 0 0 host).allows (.ctxAbort .hostPf 0) = true ∧
    (regs [(Reg.ctxState, 0, 3)] host).allows (.ctxResume .firmware 0) = true := by decide
theorem witness_dword : host.allows (.dwordEnable .firmware 0 true) = true ∧ host.get Reg.dwordEnable 0 = 0 ∧
    host.allows (.dwordEnable .firmware 0 false) = true ∧
    (regs [(Reg.dwordEnable, 0, 1)] host).allows (.dwordEnable .firmware 0 true) = true ∧
    (regs [(Reg.dwordEnable, 0, 1)] host).get Reg.dwordEnable 0 ≠ 0 := by decide

/-! ### Mirroring -/

/-- The mirror engine as f makes it. -/
def mir (s : State) (f : Mirror → Mirror) : State := { s with mirror := f s.mirror }
/-- A mirror in state m; pair 9, side 0; row 0 of 4 segments from segment 0, owned by side o; the first partner link up. -/
def paired (m o : Nat) : State :=
  regs [(Reg.mirrorState, 0, m), (Reg.pairId, 0, 9), (Reg.rangeSegments, 0, 4), (Reg.rangeOwner, 0, o),
    (Reg.rangeState, 0, if o = 0 then 0 else 2), (Reg.linkState, 16, 3)] host
theorem witness_pair : (paired 0 0).allows (.pair .firmware) = true ∧ (paired 0 0).mirrorState = .unpaired ∧
    (paired 0 0).mirror.hello = none ∧ (paired 2 0).allows (.unpair .firmware) = true ∧
    (paired 2 0).mirrorState ≠ .unpaired := by decide
/-- The partner claims row 0 for side 1 in generation 3. -/
def hello : Hello := ⟨9, 1, 0, 1, 16, [3 + 2 ^ 31]⟩
theorem witness_adopt : (mir (paired 7 0) (fun m => { m with hello := some hello, conflicts := [0] })).allows
      (.adoptPartner .firmware 0) = true ∧ (∀ k ∈ [0], k < 16) ∧ (paired 7 0).mirrorState = .mismatch := by decide
theorem witness_takeover : (regs [(Reg.witnessNode, 0, 5)] (paired 5 1)).allows (.takeover .firmware) = true ∧
    (paired 2 0).allows (.handover .firmware 0) = true ∧ (paired 5 1).allows (.forceTakeover .firmware 0) = true ∧
    (paired 2 0).allows (.witnessNodeWrite .firmware 7) = true := by decide
/-- A handover of row 0 began at cycle 0. -/
def handing (n : Nat) (sent : Option Nat) : State := atClause n (mir (paired 2 0)
  (fun m => { m with handover := some ⟨0, .direct .firmware, 0, sent⟩ }))
theorem witness_handover : (handing 195312 none).awake = true ∧ (handing 195312 none).lexicon.config = none ∧
    (handing 195312 none).mirror.handover = some ⟨0, .direct .firmware, 0, none⟩ ∧
    (handing 195312 none).due (0 + 25000000) = true ∧ (handing 195311 none).due (0 + 25000000) = false ∧
    (paired 2 0).mirror.handover = none := by decide
/-- 256 bytes. -/
def copy256 : List Byte := List.replicate 256 1
theorem witness_copy_refused : (paired 2 1).awake = true ∧ (inState 2 0).image = .restoring ∧ (inState 2 0).windowsOpen = false ∧
    (paired 2 1).image ≠ .restoring ∧ (paired 2 1).copyForm false 0 0 = false ∧ (paired 2 1).copyForm false 4095 2 = false ∧
    (paired 2 1).copyForm true 0 255 = false ∧ (paired 2 1).mirror.rxWait = [] ∧
    (paired 2 0).rxRefusal 0 = some 1 ∧ (paired 2 1).rxRefusal 8388608 = some 2 ∧ (paired 2 0).govActive = true ∧
    (paired 2 0).copyForm false 0 256 = true ∧ (paired 2 0).copyForm true 0 256 = true ∧
    (mapped (inState 1 0)).rxRefusal 0 = some 3 ∧ (mapped (inState 1 0)).govActive = false := by decide
theorem witness_copy_taken : (paired 2 1).rxRefusal 0 = none ∧ (paired 2 1).rxRepeat false 0 = false ∧
    (paired 2 1).rxRepeat false 4294967295 = true ∧ (paired 2 1).rxRepeat true 0 = false ∧
    (paired 2 1).rxRepeat true 4294967295 = true ∧ (paired 2 1).rxRoom (rxParts 0 copy256) = true ∧
    (regs [(Reg.govState, 0, 3)] (paired 2 1)).rxRoom (rxParts 0 copy256) = false ∧
    (mir (paired 2 1) (fun m => { m with rxWait := [.mcopy 0 false 0 0 copy256] })).mirror.rxWait ≠ [] := by decide
/-- Copy 4 of segment 0 was sent at cycle 0 and is retained. -/
def retained (m n : Nat) : State := atClause n (mir (paired m 0)
  (fun m => { m with retain := [⟨4, 0, 0, [1], 0, 1, 0, some 0⟩], txSeq := 5 }))
theorem witness_resolved : (retained 2 0).awake = true ∧ (retained 2 0).mirrorState ≠ .unpaired ∧
    (retained 2 0).mirrorState ≠ .mismatch ∧ (retained 2 0).cutPassed = false ∧ (3 ≠ 1 ∧ 3 ≠ 2) ∧
    (retained 2 0).mirrorState = .paired ∧ (retained 4 0).mirrorState = .interrupted ∧
    (retained 2 0).itemHeld 9 = false ∧ (deferred 9 (retained 2 0)).itemHeld 9 = true ∧
    ((retained 2 0).rowOf 0).isSome = true ∧ (retained 2 0).mirror.retain.any (fun c =>
      c.sentAt.any (fun t => (retained 2 0).due (t + usCycles ((retained 2 0).get Reg.mirrorAckTimeout)))) = false ∧
    (retained 2 1000000000).mirror.retain.any (fun c => c.sentAt.any (fun t =>
      (retained 2 1000000000).due (t + usCycles ((retained 2 1000000000).get Reg.mirrorAckTimeout)))) = true := by decide
/-- The last RCOPY of segment 0 is out, the only one marked. -/
def resyncing (marked : Bool) : State := mir (paired 3 0) (fun m => { m with
  map := [(0, 1)], rcopies := [(7, 0, true)], resyncSeg := some 0, resyncMarked := marked })
theorem witness_rack : (resyncing false).mirror.rcopies = [(7, 0, true)] ∧ (resyncing false).mirror.resyncSeg = some 0 ∧
    (resyncing false).mirror.resyncMarked = false ∧ below32 7 8 = true ∧
    SegSet.remove (resyncing false).mirror.map 0 = [] ∧ (resyncing false).mirror.peerMap = [] ∧ (resyncing false).mirrorState = .resync ∧
    (resyncing false).mirror.resyncRead = false ∧ (resyncing false).anyPartnerUp = true ∧
    (resyncing false).cutPassed = false ∧ (resyncing true).mirror.resyncMarked = true := by decide
/-- A hello of pair 9, side 1, with one row. -/
def helloBytes : List Byte := layout [(8, 9), (1, 1), (1, 0), (1, 1), (1, 0), (4, 16), (112, 0)]
/-- This side is CONNECTING, its own hello sent or not, the partner's come or not. -/
def connecting (sent : Bool) (h : Option Hello) : State := mir (paired 1 0) (fun m => { m with
  wanted := true, helloSent := sent, hello := h })
theorem witness_hello : helloBytes.length = 128 ∧ (connecting true none).mirror.wanted = true ∧
    (connecting true none).mirrorState ≠ .unpaired ∧ (connecting true none).cutPassed = false ∧
    (connecting false none).mirror.helloSent = false ∧ (connecting true none).mirror.helloSent = true ∧
    (paired 1 0).mirror.wanted = false ∧ (regs [(Reg.linkState, 16, 1)] (connecting false none)).mayPair = false ∧
    (helloOf (layout [(8, 8), (120, 0)])).pairId ≠ (connecting true none).get Reg.pairId := by decide
/-- The partner announces two rows, so one more is to come. -/
def hello2 : Hello := { hello with ranges := 2 }
/-- Row 0 in the generation of this side, claimed by the other. -/
def helloClash : Hello := { hello with gens := [1 + 2 ^ 31] }
theorem witness_ranges : hello.ranges ≤ (Tbl.put (connecting true (some hello)).mirror.peerRows 0 (0, 4)).length ∧
    (connecting true (some hello)).mirror.hello = some hello ∧ (connecting true (some hello)).mirror.helloSent = true ∧
    hello.pairId = (connecting true (some hello)).get Reg.pairId ∧ hello.side = 1 - (connecting true (some hello)).side ∧
    (Tbl.put (connecting true (some hello2)).mirror.peerRows 0 (0, 4)).length < hello2.ranges ∧ 0 < hello.ranges ∧
    (connecting true none).mirror.hello = none := by decide
/-- The row announced has another length, or the same. -/
theorem witness_rows : (∃ k, k < 16 ∧ ∃ x, Tbl.find (Tbl.put (connecting true (some hello)).mirror.peerRows 0 (0, 5)) k = some x ∧
      x.2 ≠ (connecting true (some hello)).rowLen k) ∧
    (∀ k, k < 16 → (Tbl.find (Tbl.put (connecting true (some hello)).mirror.peerRows 0 (0, 4)) k = none ∧
        (connecting true (some hello)).rowLen k = 0) ∨
      ∃ x, Tbl.find (Tbl.put (connecting true (some hello)).mirror.peerRows 0 (0, 4)) k = some x ∧
        x.2 = (connecting true (some hello)).rowLen k ∧ (x.2 = 0 ∨ x.1 = (connecting true (some hello)).rowBase k ∧
          x.1 + x.2 ≤ min (connecting true (some hello)).segments hello.segments)) := by
  refine ⟨⟨0, by decide, (0, 5), by decide, by decide⟩, ?_⟩
  have h : ∀ k, k < 16 → k ≠ 0 → Tbl.find (Tbl.put (connecting true (some hello)).mirror.peerRows 0 (0, 4)) k = none ∧
      (connecting true (some hello)).rowLen k = 0 := by decide
  intro k hk
  by_cases h0 : k = 0
  · subst h0; exact .inr ⟨(0, 4), by decide, by decide, .inr (by decide)⟩
  · exact .inl (h k hk h0)
/-- The claims differ in generation, and with equal generations in the owner. -/
theorem witness_claims : (hello.claim 0 0).1 ≠ (connecting true (some hello)).get Reg.rangeGeneration 0 ∧
    (connecting true (some hello)).rowLen 0 ≠ 0 ∧
    (helloClash.claim 0 0).1 = (regs [(Reg.rangeGeneration, 0, 1)] (connecting true (some helloClash))).get Reg.rangeGeneration 0 ∧
    (helloClash.claim 0 0).2 ≠ (connecting true (some helloClash)).get Reg.rangeOwner 0 ∧
    (∀ k, k < 16 → (connecting true (some hello)).rowLen k ≠ 0 →
      (hello.claim (connecting true (some hello)).side k).1 = (connecting true (some hello)).get Reg.rangeGeneration k →
      (hello.claim (connecting true (some hello)).side k).2 = (connecting true (some hello)).get Reg.rangeOwner k) := by decide
theorem witness_mstate : (0 + 1) % 4294967296 = ((regs [(Reg.rangeGeneration, 0, 0)] (paired 2 1)).get Reg.rangeGeneration 0 + 1) % 4294967296 ∧
    (paired 2 1).side = 0 ∧ (paired 2 1).mirrorState ≠ .split ∧ (paired 5 1).mirrorState = .split ∧ (paired 2 1).cutPassed = false ∧ (paired 2 1).ownsRow 0 = false ∧ (paired 2 1).rowLen 0 ≠ 0 ∧
    (handing 0 (some 0)).mirror.handover = some ⟨0, .direct .firmware, 0, some 0⟩ ∧
    (some 0 : Option Nat).isSome = true ∧ 1 = 1 - (handing 0 (some 0)).side ∧ (paired 2 1).lexicon.config = none ∧
    (paired 2 0).ownsRow 0 = true ∧ (paired 2 1).mirror.handover = none := by decide
theorem witness_notice : (paired 2 0).mirrorState ≠ .unpaired ∧ (paired 0 0).mirrorState = .unpaired ∧
    (paired 6 0).mirrorState = .peerAway ∧ (paired 2 0).cutPassed = false ∧ (paired 2 0).mirrorState ≠ .peerAway ∧ (paired 2 0).awake = true ∧
    (paired 2 0).image ≠ .restoring := by decide
/-- Both partner links went down at cycle 0; SPLIT_TIME is its default. -/
def parted (n : Nat) : State := atClause n (mir (paired 4 0) (fun m => { m with downAt := some 0 }))
theorem witness_split : (parted 1000000000).awake = true ∧ (parted 1000000000).itemHeld 9 = false ∧
    (parted 0).ownsRow 0 = true ∧ (parted 0).rowState 0 ≠ 2 ∧ (deferred 9 (parted 1000000000)).itemHeld 9 = true ∧ (parted 1000000000).mirrorState = .interrupted ∧
    (parted 1000000000).mirror.downAt.any (fun t =>
      (parted 1000000000).due (t + msCycles ((parted 1000000000).get Reg.splitTime))) = true ∧
    (parted 0).mirror.downAt.any (fun t => (parted 0).due (t + msCycles ((parted 0).get Reg.splitTime))) = false := by decide

/-- A copy is in the retain buffer when SPLIT is declared, with AUTO_TAKEOVER and a witness. -/
def holding : State := mir (regs [(Reg.autoTakeover, 0, 1), (Reg.witnessNode, 0, 5)] (parted 1000000000)) (fun m => { m with
  retain := [⟨1, 2, 0, [], 0, 0, 0, none⟩] })
theorem witness_split_forms : holding.awake = true ∧ holding.mirrorState = .interrupted ∧ holding.itemHeld 9 = false ∧
    (∃ c, c ∈ holding.mirror.retain) ∧ holding.get Reg.autoTakeover = 1 ∧ holding.get Reg.witnessNode ≠ 0 ∧
    holding.mirror.downAt.any (fun t => holding.due (t + msCycles (holding.get Reg.splitTime))) = true :=
  ⟨by decide, by decide, by decide, ⟨_, List.mem_cons_self⟩, by decide, by decide, by decide⟩

/-! ### The witness lease -/

/-- Pair 9 with witness 5, node 3 on the field network; a request 2 left at cycle 0, answered or not; lease in state l. -/
def leased (n l : Nat) (answered : Bool) : State := atClause n (mir (regs [(Reg.witnessNode, 0, 5), (Reg.fieldNodeId, 0, 3),
    (Reg.fieldAccess, 0, 1), (Reg.leaseState, 0, l)] (paired 5 1)) (fun m => { m with
  leaseReq := 2, leaseSentAt := some 0, leaseAnswered := answered, leaseUntil := some 1000, takeoverReq := 4,
  takeoverAt := some 0 }))
theorem witness_lease : (leased 0 1 false).awake = true ∧ (leased 0 1 false).itemHeld 9 = false ∧
    (deferred 9 (leased 0 1 false)).itemHeld 9 = true ∧ (leased 0 1 false).mirror.leaseSentAt = some 0 ∧ (leased 0 1 false).leaseRuns = true ∧
    (leased 1000000000 1 true).due (0 + msCycles ((leased 1000000000 1 true).get Reg.leaseTerm) / 4) = true ∧
    (leased 0 1 true).due (0 + msCycles ((leased 0 1 true).get Reg.leaseTerm) / 4) = false ∧
    (leased 0 1 false).fieldSends = true ∧ opened.fieldSends = false ∧ (leased 0 1 false).grantForUs 0 9 2 2 = true ∧
    (leased 0 1 false).grantForUs 0 9 3 2 = false ∧ (leased 0 1 false).get Reg.witnessNode ≠ 0 ∧
    (leased 0 1 false).mirror.leaseAnswered = false ∧ opened.leaseRuns = false := by decide
theorem witness_lapse : (leased 8 1 true).mirror.leaseUntil.any (fun t => (leased 8 1 true).due t) = true ∧
    (leased 6 1 true).mirror.leaseUntil.any (fun t => (leased 6 1 true).due t) = false ∧
    (leased 8 1 true).get Reg.leaseState = 1 ∧ (leased 8 3 true).get Reg.leaseState ≠ 1 ∧
    (leased 97656 1 false).mirror.noGrantRaised = false ∧
    (leased 97656 1 false).mirror.leaseSentAt.any (fun t => (leased 97656 1 false).due (t + 12500000)) = true ∧
    (leased 97655 1 false).mirror.leaseSentAt.any (fun t => (leased 97655 1 false).due (t + 12500000)) = false := by decide
theorem witness_takeover_grant : (leased 0 1 true).fieldSends = true ∧ (leased 0 1 true).get Reg.witnessNode ≠ 0 ∧
    ((0 ≠ 1 ∧ 1 ≠ 3) ∧ (paired 2 1).mirrorState ≠ .split ∧ (paired 2 1).mirrorState ≠ .peerAway) ∧ (leased 0 1 true).grantForUs 0 9 4 4 = true ∧ (leased 0 1 true).mirrorState = .split ∧
    (regs [(Reg.autoTakeover, 0, 1)] (leased 1000000000 1 true)).get Reg.autoTakeover = 1 ∧
    (leased 1000000000 1 true).mirror.takeoverAt.any (fun t =>
      (leased 1000000000 1 true).due (t + msCycles ((leased 1000000000 1 true).get Reg.takeoverRetry))) = true ∧
    (leased 0 1 true).mirror.takeoverAt.any (fun t =>
      (leased 0 1 true).due (t + msCycles ((leased 0 1 true).get Reg.takeoverRetry))) = false := by decide

/-! ### Extents and resets -/

/-- One page at window offset 1 MiB of the PF, image address 1 MiB, to read and write. -/
def extBytes : List Byte := layout [(8, 1048576), (8, 1048576), (8, 4294967296 + 2 ^ 31 + 2 ^ 27 + 2 ^ 26), (4, 7), (4, 0)]
theorem witness_extent : (mapped (inState 1 0)).allows (.extentCommit .firmware 1 (some extBytes)) = true ∧
    ((mapped (inState 1 0)).taken .firmware).extentCheck 1 (extOf extBytes) = .ok ∧ (mapped (inState 1 0)).image = .setup ∧
    host.allows (.extentCommit .hostPf 1 (some extBytes)) = true ∧ host.image ≠ .setup ∧
    (host.taken .hostPf).extentCheck 1 (extOf extBytes) = .ok ∧ host.allows (.extentWithdraw .firmware 0) = true ∧
    host.allows (.extentCommit .firmware 1 none) = true ∧
    (host.taken .firmware).extentCheck 1 { host.ext 1 with valid := true } = .range ∧
    host.allows (.extentWithdraw .firmware 1) = true ∧ host.get Reg.extValid 1 = 0 ∧ host.get Reg.extValid 0 ≠ 0 ∧
    (host.taken .firmware).extentCheck 1 { host.ext 1 with valid := false } = .ok ∧ (∀ x ∈ host.keep.extNext, x.1 ≠ 1) := by
  decide
/-- VF 1 is being reset, at clause n. -/
def resetting (n : Nat) (j : ResetJob) : State := atClause n { vfs host with resets := [j] }
theorem witness_inst_reset : (vfs host).allows (.instReset .firmware 1) = true ∧ (vfs host).resetJob 1 = none ∧
    (resetting 0 vfJob).resetJob 1 = some vfJob ∧ (resetting 0 vfJob).allows (.instResetSquash .firmware 1) = true ∧
    vfJob.begun = none ∧ (vfs host).live 1 = true ∧ (resetting 5 { vfJob with begun := some 3 }).allows (.instResetDrain .firmware 1) = true := by decide
theorem witness_reset_begins : (resetting 1 vfJob).hears = true ∧ vfJob.since < (resetting 1 vfJob).clock.clause ∧
    (resetting 0 vfJob).clock.clause ≤ vfJob.since ∧ (vfs host).live 1 = true := by decide
/-- A drain that began at clause 3, whose DRAIN_LIMIT has run out, or a squash has joined. -/
theorem witness_escalation : (resetting 1000000000 { vfJob with begun := some 3 }).quiet { vfJob with begun := some 3 } = false ∧
    (resetting 1000000000 { vfJob with begun := some 3 }).past
      (128 * 3 + msCycles ((resetting 1000000000 { vfJob with begun := some 3 }).get Reg.drainLimit 1)) = true ∧
    (resetting 4 { vfJob with begun := some 3 }).past
      (128 * 3 + msCycles ((resetting 4 { vfJob with begun := some 3 }).get Reg.drainLimit 1)) = false ∧
    ({ vfJob with joinAt := some 3 }).joinAt.any (fun t => decide (t < (resetting 4 vfJob).clock.clause)) = true ∧
    ({ vfJob with joinAt := some 4 }).joinAt.any (fun t => decide (t < (resetting 4 vfJob).clock.clause)) = false ∧
    3 < (resetting 4 vfJob).clock.clause ∧ vfJob.drain = true ∧ ({ vfJob with drain := false }).drain = false := by decide
/-- A squash that began at clause 3. -/
def squash : ResetJob := { vfJob with drain := false, asked := false, begun := some 3 }
theorem witness_reset_complete : (resetting 5 squash).resetJob 1 = some squash ∧
    squash.begun.any (fun b => decide (b < (resetting 5 squash).clock.clause)) = true ∧ (resetting 5 squash).quiet squash = true ∧
    squash.pf = false ∧ squash.begun.any (fun b => decide (b < (resetting 3 squash).clock.clause)) = false ∧
    (resetting 5 squash).events.pend.wf none = true := by decide
/-- A PF FLR and the reset of VF 1 that it takes along, which has begun or not. -/
def pfFlrWith (b : Option Nat) : State := { resetting 5 squash with
  resets := [{ squash with i := 0, kind := 2, func := true, pf := true }, { squash with kind := 2, func := true, begun := b }] }
theorem witness_pf_flr_complete :
    (∀ k ∈ (pfFlrWith (some 3)).resets, k.i = 0 ∨ (k.begun.isSome && (pfFlrWith (some 3)).quiet k) = true) ∧
    (∃ k ∈ (pfFlrWith none).resets, k.i ≠ 0 ∧ (k.begun.isSome && (pfFlrWith none).quiet k) = false) ∧
    (pfFlrWith (some 3)).resetJob 0 = some { squash with i := 0, kind := 2, func := true, pf := true } ∧
    (pfFlrWith (some 3)).quiet { squash with i := 0, kind := 2, func := true, pf := true } = true := by decide

/-! ### The scheduler -/

/-- A durability word waits on port 9, of service v. -/
def word9 (v : Nat) : Entry := ⟨1, v, 0, .dword 0 4096 8, 8, 0, 0⟩
/-- Port p with one entry. -/
def porting (p : Nat) (e : Entry) (s : State) : State := regs [(Reg.hostLinkStatus, 0, 2)] { s with sched := { s.sched with
  ports := [(p, { Port.reset with entries := [e], heads := [(headKey e.svc e.i, ⟨e.id, 0, 8, 0⟩)] })] } }
def granting : State := (porting 9 (word9 5) { host with host := { host.host with busMaster := [(0, 1)] } }).atCycle 0
theorem witness_grant : granting.awake = true ∧ granting.cutPassed = false ∧ max granting.clock.sub 0 = 0 ∧
    granting.chooseGrant 9 (granting.portTakes 9) = some (word9 5) ∧
    host.chooseGrant 9 (host.portTakes 9) = none ∧ (word9 5).svc ≠ 7 ∧ (word9 5).work = .dword 0 4096 8 := by decide
/-- FINAL waits on the port of carrier 0. -/
def final0 : Entry := ⟨1, 7, 0, .carrier false 0 { op := 0x17 }, 16, 0, 0⟩
theorem witness_grant_at_cut : (porting 0 final0 (saving 20)).cutPassed = true ∧ (saving 20).chooseAtCut 0 = none ∧
    (porting 0 final0 (saving 20)).chooseAtCut 0 = some final0 ∧
    (porting 0 final0 (saving 20)).portTakes 0 final0 = true ∧
    (porting 0 final0 stopping).portTakes 0 final0 = false := by decide
/-- A red head of the meter of VF 1, service 1, on port 0, since clause 0, at clause n. -/
def red (n : Nat) : State := atClause n (porting 0 ⟨1, 1, 1, .image true 0 256 [] false (.hostWrite 1 1), 256, 0, 2⟩
  (regs [(Reg.meterPir, 2, 1)] host))
theorem witness_red : Tbl.find ((red 0).port 0).heads (headKey 1 1) = some ⟨1, 0, 8, 0⟩ ∧
    ((red 0).port 0).entry 1 = some ⟨1, 1, 1, .image true 0 256 [] false (.hostWrite 1 1), 256, 0, 2⟩ ∧
    (red 500).redHeld 0 ⟨1, 1, 1, .image true 0 256 [] false (.hostWrite 1 1), 256, 0, 2⟩ ⟨1, 0, 8, 0⟩ = false ∧
    (red 499).redHeld 0 ⟨1, 1, 1, .image true 0 256 [] false (.hostWrite 1 1), 256, 0, 2⟩ ⟨1, 0, 8, 0⟩ = true ∧
    Tbl.find ((red 0).port 0).heads (headKey 2 1) = none := by decide
/-- Sampler 0 of port 9 at clause n; a gate list of port 0 with one row, every gate open. -/
def sampling (n : Nat) : State := atClause n (regs [(Reg.sampleEnable, 0, 1), (Reg.samplePeriod, 0, 100), (Reg.samplePort, 0, 9),
  (Reg.gateRows, 0, 1), (Reg.gateOpen, 0, 127), (Reg.gateDuration, 0, 10)] host)
theorem witness_sample : (sampling 100).get Reg.sampleEnable 0 = 1 ∧
    (Tbl.getD (sampling 100).sched.samplers 0 Sampler.reset).start + (sampling 100).get Reg.samplePeriod 0 ≤
      (sampling 100).clock.clause ∧ (sampling 99).clock.clause < 0 + (sampling 99).get Reg.samplePeriod 0 ∧
    host.get Reg.sampleEnable 0 ≠ 1 ∧ (sampling 0).allows (.gateCommit .firmware 0) = true := by decide

/-! ### Pages, queues and wake sources -/

theorem witness_pages : host.hears = true ∧ 8 < 9 ∧ host.decodes 3 = false ∧ host.decodes 0 = true ∧
    (waits [write8] host).host.posted ≠ [] ∧ host.claimable 0 = some 0x0FA ∧
    (regs [] { host with events := { host.events with pend := [] } }).claimable 0 = none ∧ 7 ≠ 8 ∧
    ({ host with events := { host.events with claimed := [(5, 6)] } } : State).events.claimed.mem (0 * 1024 + 5 % 1024) = true ∧
    host.events.claimed.mem (0 * 1024 + 0x3FF % 1024) = false := by decide
/-- Pool queue 1 of the PF is enabled, with p records of which c are consumed. -/
def queue (p c : Nat) (armed : Bool) : State := regs [(Reg.queueEnable, 1, 1), (Reg.queueProd, 1, p), (Reg.queueCons, 1, c),
  (Reg.queueSize, 1, 6), (Reg.queueCoalCount, 1, 2)]
  { host with events := { host.events with run := [(1, { QRun.reset with armed := armed, u := 3 })] } }
theorem witness_queue : (queue 5 2 true).get Reg.effQueueFirst 0 + 1 = 1 ∧ 1 < (queue 5 2 true).get Reg.effQueueCount 0 ∧
    (queue 5 2 true).get Reg.queueEnable 1 ≠ 0 ∧ (queue 5 2 true).queueFill 1 = 3 ∧ 3 < 4 ∧
    (queue 5 2 true).get Reg.queueLost 1 = 0 ∧ ((queue 5 2 true).qrun 1).armed = true ∧
    (queue 5 2 true).get Reg.queueCoalCount 1 ≤ 2 ∧ 1 < (queue 5 2 true).get Reg.queueCoalCount 1 ∧
    ((queue 5 2 false).qrun 1).armed = false ∧ host.get Reg.queueEnable 1 = 0 ∧
    (regs [(Reg.queueLost, 1, 1)] (queue 5 2 true)).get Reg.queueLost 1 ≠ 0 ∧ 3 < (queue 5 2 true).queuePlaces 1 := by decide
/-- Records were lost, and the host may be written to. -/
def lossy : State := regs [(Reg.queueLost, 1, 1)] { queue 5 2 true with host := { (queue 5 2 true).host with busMaster := [(0, 256)] } }
theorem witness_queue_lost : lossy.get Reg.queueLost 1 ≠ 0 ∧ lossy.queueFill 1 = 3 ∧ 3 < lossy.queuePlaces 1 ∧
    lossy.host.busMaster.mem ((lossy.queueOwner 1).getD 0) = true ∧ lossy.hears = true ∧
    (host.wakeOutsideA0 13).get Reg.queueEnable 1 = 0 := by decide
theorem witness_queue_coal : ((queue 5 2 true).qrun 1).u ≠ 0 ∧ (queue 5 2 true).get Reg.queueCoalCount 1 ≠ 1 ∧
    ((queue 5 2 true).qrun 1).armed = true ∧ ((queue 5 2 true).qrun 1).since + (queue 5 2 true).get Reg.queueCoalTime 1 =
      4 ∧
    (∀ b, b = (queue 5 2 true).get Reg.queueCoalTime 1 →
      (atClause b (queue 5 2 true)).expiryRuns 7 b ((atClause b (queue 5 2 true)).queueDeadlines.all (b ≤ ·)) = true ∧
      (spent 7 32 (atClause b (queue 5 2 true))).expiryRuns 7 b true = false ∧
      (deferred 7 (atClause b (queue 5 2 true))).expiryRuns 7 b true = false ∧
      (atClause (b + 1) (queue 5 2 true)).expiryRuns 7 b ((queue 5 2 true).queueDeadlines.all (b ≤ ·)) = true) ∧
    (host.qrun 1).u = 0 := by
  refine ⟨by decide, by decide, by decide, by decide, fun b hb => ?_, by decide⟩
  have h : b = 4 := hb.trans (by decide)
  subst h
  decide
theorem witness_queue_enable : host.allows (.queueEnable .firmware 1) = true ∧ host.get Reg.queueEnable 1 ≠ 1 ∧
    host.events.held = [] ∧ (queue 5 2 true).allows (.queueDisable .firmware 1) = true ∧
    (queue 5 2 true).get Reg.queueEnable 1 = 1 ∧ host.allows (.queueDisable .firmware 1) = true ∧
    host.allows (.holdPfWrite .hostPf 0 true) = true := by decide
/-- Wake sources 0 and 14 are enabled, in A1. -/
def waking : State := regs [(Reg.wakeEnable, 0, 1 + 2 ^ 14), (Reg.powerState, 0, 1), (Reg.wakeTimer, 0, 7)] host
theorem witness_wake : waking.get Reg.powerState ≠ 0 ∧ bit (waking.get Reg.wakeEnable) 14 = true ∧
    bit (waking.get Reg.wakeEnable) 0 = true ∧ bit (waking.get Reg.wakeStatus) 14 = false ∧
    bit (waking.get Reg.wakeEnable) 1 = false ∧ (regs [(Reg.powerState, 0, 0)] waking).get Reg.powerState = 0 ∧
    waking.allows (.wakeStatusClear .firmware 1) = true ∧ waking.get Reg.wakeTimer ≠ 0 ∧
    waking.get Reg.wakeTimer = (atClause 7 waking).clock.clause ∧ host.get Reg.wakeTimer = 0 ∧
    waking.security.recovery = false := by decide

/-! ### The DMA engine -/

/-- Channel 0 of the PF in state st, with PROD 0 and CONS 0. -/
def channel (st : Nat) : State := regs [(Reg.chState, 0, st), (Reg.chRingActive, 0, 4096), (Reg.lineOwner, 0xC0, 0)] host
theorem witness_dma : (channel 1).chanOf 0 0 = some 0 ∧ (channel 1).chanOf 0 16 = none ∧ (channel 1).chanState 0 = .idle ∧
    (channel 0).chanState 0 = .disabled ∧ 1 ≤ ringSize ((channel 1).get Reg.chRingActive 0) ∧
    ((channel 1).chan 0).fetching = none ∧ ((channel 1).chan 0).desc = none ∧ ((channel 1).chan 0).paid = false ∧
    (channel 1).descRoom 0 = true ∧ (host.wakeOutsideA0 13).decodes 0 = true ∧ 1 % 4294967296 ≠ (channel 1).get Reg.chCons 0 ∧
    (channel 1).dma.held = false ∧ (channel 1).resetting ((channel 1).chanInst 0) = false ∧ (channel 1).reqMode 0 ≠ 1 ∧
    bit ((channel 1).get Reg.chRingActive 0) 4 = false ∧ (channel 1).get Reg.lineOwner (0xC0 % 256) = 0 ∧ 0xBF % 256 < 0xC0 ∧
    0x5B ≤ 0xBF ∧ 0x5A < 0x5B := by decide
/-- Channel 0 waits for a request before it reads a descriptor. -/
theorem witness_dma_request : (regs [(Reg.chCtrlActive, 0, 0x10000)] (channel 1)).reqMode 0 = 1 ∧
    (regs [(Reg.chCtrlActive, 0, 0x10000)] (channel 1)).get Reg.chReqCount 0 = 0 ∧
    (regs [(Reg.chCtrlActive, 0, 0x10000)] (channel 1)).descRoom 0 = true := by decide
/-- A descriptor of 256 bytes runs on channel 0. -/
def moving : State := { channel 3 with dma := { Dma.reset with
  chans := [(0, { Chan.reset with desc := some ⟨0, 4096, 0, 256, 0, 0⟩ })] } }
theorem witness_burst : moving.awake = true ∧ (moving.chansNext.pumpAllWrites).chooseChan = some 0 ∧
    (host.chansNext.pumpAllWrites).chooseChan = none := by decide
theorem witness_channel_commands : (channel 0).allows (.dmaEnable (.lexicon .firmware 0)) = true ∧
    (channel 1).allows (.dmaDisable (.lexicon .firmware 0)) = true ∧ (channel 4).allows (.dmaResume (.lexicon .firmware 0)) = true ∧
    (channel 4).allows (.dmaSkip (.lexicon .firmware 0)) = true ∧ moving.allows (.dmaAbort (.lexicon .firmware 0)) = true ∧
    (channel 0).chanLegal 0 1 = true ∧ (channel 0).chanLegal 0 2 = false := by decide
theorem witness_shadow : (channel 0).allows (.shadowWrite (.lexicon .firmware 0) false 4096) = true ∧
    (channel 0).allows (.shadowWrite (.lexicon .firmware 0) true (2 ^ 63)) = true ∧
    bit ((channel 0).get Reg.chCtrlShadow 0) 63 = false ∧
    bit ((regs [(Reg.chCtrlShadow, 0, 2 ^ 63)] (channel 0)).get Reg.chCtrlShadow 0) 63 = true ∧ bit (2 ^ 63) 63 = true := by decide

/-! ### Carriers -/

/-- Tag 7 of carrier 0 reads 64 bytes of segment 2 by link 0, or writes them; sent at cycle 0. -/
def tagged (own : ReqOwner) (naked att : Nat) : TagReq := ⟨7, 0, { op := (match own with | .hostRead .. => 0x01 | _ => 0x02), tag := 7 }, own, 2, 4194304, 64, att, naked, 0, none⟩
/-- Carrier 0 as f makes it, with links 0 and 1 up, at clause n. -/
def carrier (n : Nat) (f : Carrier → Carrier) : State := atClause n (regs [(Reg.linkState, 0, 3), (Reg.linkState, 1, 3)]
  { opened with carriers := [(0, f Carrier.reset)] })
/-- With one tagged request. -/
def busy (n : Nat) (own : ReqOwner) (naked att : Nat) : State := carrier n (fun k => { k with reqs := [tagged own naked att] })
theorem witness_request : (busy 0 (.hostRead 1 0) 0 0).awake = true ∧
    (busy 0 (.hostRead 1 0) 0 0).request 0 7 = some (tagged (.hostRead 1 0) 0 0) ∧ (tagged (.hostRead 1 0) 0 0).reads = true ∧
    (tagged (.hostWrite 0 1) 0 0).reads = false ∧ (busy 0 (.hostRead 1 0) 0 0).request 0 8 = none ∧
    (List.replicate 64 (0 : Byte)).length = 64 * (0 + 1) ∧ 1 < 2 ^ 1 ∧ 2 ^ 1 ≤ 2 ∧ bit 1 0 = true ∧ bit 2 0 = false ∧
    65535 < 65536 := by decide
/-- Its retries are used up at the next NAK with reason 1, or not. -/
theorem witness_nak : (busy 0 (.hostRead 1 0) 0 1000).get Reg.nakRetries 0 < 1000 + b2n (1 == 1) ∧
    0 + b2n (1 == 1) ≤ (busy 0 (.hostRead 1 0) 0 0).get Reg.nakRetries 0 ∧ (2 = 2 ∧ 3 ≤ 3 ∧ 5 < 6) := by decide
/-- The round of segment 2 is due at clause 2. -/
def rounds (n : Nat) : State := carrier n (fun k => { k with reqs := [tagged (.hostRead 1 0) 1 1], rounds := [(2, 2)] })
theorem witness_round : Tbl.find ((rounds 2).car 0).rounds 2 = some 2 ∧ (rounds 2).requestLink 0 2 = some 0 ∧
    2 ≤ (rounds 2).clauseNow ∧ (rounds 1).clauseNow < 2 ∧ Tbl.find (opened.car 0).rounds 2 = none := by decide
theorem witness_control_ack : stopping.stop.active = true ∧ 9 = stopping.stop.epoch ∧ 8 ≠ stopping.stop.epoch ∧
    (0x13 ≠ 0x15 ∧ 0x13 ≠ 0x30 ∧ 0x13 ≠ 0x31) := by decide
/-- An IDENT body with magic and version. -/
def ident1 : List Byte := layout [(4, 1), (2, 1), (122, 0)]
/-- HEALTH of condition k. -/
def health (k : Nat) : List Byte := layout [(4, k), (60, 0)]
theorem witness_reports : identForm ident1 = true ∧ identForm (List.replicate 128 0) = false ∧ (health 15).length = 64 ∧
    field (health 0) 0 4 = 0 ∧ field (health 15) 0 4 = 15 ∧ 16 ≤ field (health 16) 0 4 ∧
    (carrier 9765625 id).carrierReachable 0 = true ∧ ((carrier 9765625 id).car 0).healthStale = false ∧
    (carrier 9765625 id).due (((carrier 9765625 id).car 0).healthAt + msCycles 5000) = true ∧
    (carrier 0 id).due (((carrier 0 id).car 0).healthAt + msCycles 5000) = false := by decide
theorem witness_tag_timeout : (busy 100000000 (.hostRead 1 0) 0 0).linkState (2 * 0 + 0) = .up ∧
    (busy 100000000 (.hostRead 1 0) 0 0).itemHeld 10 = false ∧ (deferred 10 (busy 100000000 (.hostRead 1 0) 0 0)).itemHeld 10 = true ∧
    (∃ r ∈ ((busy 100000000 (.hostRead 1 0) 0 0).car 0).reqs, r.link = 0 ∧ (busy 100000000 (.hostRead 1 0) 0 0).due
      (r.sentAt + usCycles ((busy 100000000 (.hostRead 1 0) 0 0).get Reg.tagTimeout 0)) = true) ∧
    opened.linkState (2 * 0 + 0) ≠ .up := by decide
/-- WAKE went to carrier 0 at cycle 0. -/
def woken (n : Nat) : State := carrier n (fun k => { k with wakeFirst := some 0, wakeAt := 0 })
theorem witness_wakes : ((woken 19531).car 0).wakeFirst ≠ none ∧ (woken 19531).due (((woken 19531).car 0).wakeAt + msCycles 10) = true ∧
    (woken 19530).due (((woken 19530).car 0).wakeAt + msCycles 10) = false ∧ (woken 97656).due (0 + msCycles 50) = true ∧
    (woken 97655).due (0 + msCycles 50) = false ∧ (woken 0).cutPassed = false ∧ (opened.car 0).wakeFirst = none := by decide

/-! ### Links -/

/-- Link 0 in state st, its link unit as f makes it, at clause n. -/
def linkAs (n st : Nat) (f : Link → Link) : State := atClause n (regs [(Reg.linkState, 0, st), (Reg.linkWidth, 0, 4), (Reg.linkRate, 0, 3)]
  { opened with links := [(0, f Link.reset)] })
/-- An IDLE flow unit with sequence 0, that acknowledges nothing new and gives XON to every channel. -/
def idleFu : List Byte := zeros 68 ++ le 4 (fuCrc 0 (zeros 68))
/-- A flow unit of type t with sequence 0, of channel 0, that acknowledges nothing new and grants channel 0 nothing new. -/
def fuOf (t : Nat) : List Byte :=
  let b := zeros 64 ++ le 4 (t * 2 ^ 16 + 2 ^ 12)
  b ++ le 4 (fuCrc 0 b)
theorem witness_fu : (linkAs 0 3 id).awake = true ∧ ((linkAs 0 3 id).linkState 0 == .up) = true ∧
    ((linkAs 0 3 id).link 0).resuming = false ∧ ((linkAs 0 3 id).link 0).waiting = false ∧ idleFu.length = 72 ∧
    field idleFu 68 4 = fuCrc 0 (slice idleFu 0 68) ∧
    ((linkAs 0 3 (fun l => { l with waiting := true })).link 0).waiting = true ∧ bits (field idleFu 64 4) 19 16 = 0 ∧
    0 < ((linkAs 0 3 (fun l => { l with dup := 1024 })).link 0).dup ∧ (0 + 4096 - 3072 % 4096) % 4096 = 1024 ∧
    (0 + 4096 - 3071 % 4096) % 4096 = 1025 ∧ (linkAs 4 3 id).itemHeld 11 = false ∧ (deferred 11 (linkAs 4 3 id)).itemHeld 11 = true ∧
    4 ≤ bits (7 * 2 ^ 16) 19 16 ∧ bits (field idleFu 64 4) 19 16 < 4 ∧ ((linkAs 0 3 id).useControl 0 (field idleFu 64 4)).isSome = false ∧
    ((linkAs 0 3 id).useControl 0 (field (fuOf 0) 64 4)).isSome = true ∧
    field (fuOf 2) 68 4 = fuCrc 0 (slice (fuOf 2) 0 68) ∧ bits (field (fuOf 2) 64 4) 19 16 = 2 ∧
    ((linkAs 0 3 id).acceptFu 0 2 0 (slice (fuOf 2) 0 64)).isSome = true ∧
    ((linkAs 0 3 id).acceptFu 0 3 0 (slice (fuOf 3) 0 64)).isSome = false ∧
    0 + 4 ≤ (linkAs 4 3 id).clauseNow ∧ (linkAs 3 3 id).clauseNow < 0 + 4 := by decide
/-- One flow unit is out since cycle 0, retried a times. -/
def waitingAck (n a : Nat) : State := linkAs n 3 (fun l => { l with buf := [⟨2, 0, []⟩], n := 1, sentTimes := [0], ackTries := a })
theorem witness_ack_timeout : (((waitingAck 10000 0).linkState 0 == .up || (waitingAck 10000 0).linkState 0 == .paused) &&
      !((waitingAck 10000 0).link 0).resuming && !((waitingAck 10000 0).link 0).buf.isEmpty &&
      ((waitingAck 10000 0).link 0).replayDue.isNone &&
      (waitingAck 10000 0).past (((waitingAck 10000 0).link 0).sentTimes.headD 0 + ceilDiv ((waitingAck 10000 0).ackLimit 0) 4) &&
      !((waitingAck 10000 0).itemHeld 11)) = true ∧ (deferred 11 (waitingAck 10000 0)).itemHeld 11 = true ∧
    4 ≤ ((waitingAck 10000 4).link 0).ackTries ∧ ((waitingAck 10000 3).link 0).ackTries < 4 := by decide
theorem witness_credit : Tbl.find ((linkAs 100000 3 (fun l => { l with heldSince := [(1, 0)] })).link 0).heldSince 1 = some 0 ∧
    (linkAs 1000000000 3 id).past (0 + usCycles ((linkAs 1000000000 3 id).get Reg.creditTimeout 0)) = true ∧
    (linkAs 0 3 id).past (0 + usCycles ((linkAs 0 3 id).get Reg.creditTimeout 0)) = false ∧
    ((17 : Fin 18).val < 16 ∨ ((1 : Fin 8).val ≠ 0 ∧ partnerVc 0x53 (opened.vcsOf 17) ≠ some 1)) := by decide
theorem witness_init_timeout : (linkAs 1953 2 id).linkState 0 = .init ∧ (linkAs 1953 2 id).due (0 + 250000) = true ∧
    (linkAs 1952 2 id).due (0 + 250000) = false := by decide
/-- A pause of reason 3 to width code 2 and rate 3. -/
def pause0 (sent seen : Bool) : Pause := ⟨3, 2, 3, true, 0, sent, seen, false, false⟩
/-- A pause in progress, with the acknowledgements given. -/
def paused (n : Nat) (sent seen : Bool) : State := linkAs n 4 (fun l => { l with pause := some (pause0 sent seen) })
theorem witness_pause_limit : ((paused 0 false false).link 0).pause = some (pause0 false false) ∧
    (paused 0 false false).linkState 0 = .paused ∧
    (paused 1000000000 false false).due (0 + usCycles ((paused 1000000000 false false).get Reg.pauseLimit 0)) = true ∧
    (paused 0 false false).due (0 + usCycles ((paused 0 false false).get Reg.pauseLimit 0)) = false := by decide
theorem witness_down_time : (linkAs 1000000000 5 id).linkState 0 = .recovering ∧ ((linkAs 0 5 id).link 0).resuming = false ∧
    (linkAs 1000000000 5 id).due (0 + usCycles ((linkAs 1000000000 5 id).get Reg.linkDownTime 0)) = true ∧
    (linkAs 0 5 id).due (0 + usCycles ((linkAs 0 5 id).get Reg.linkDownTime 0)) = false ∧
    ((linkAs 0 5 (fun l => { l with resuming := true })).link 0).resuming = true := by decide
theorem witness_resend : (linkAs 19 2 id).due (((linkAs 19 2 id).link 0).ctrlAt + 2500) = true ∧
    (linkAs 18 2 id).due (((linkAs 18 2 id).link 0).ctrlAt + 2500) = false ∧ ((linkAs 19 2 id).link 0).echoed = false ∧
    ((linkAs 19 2 (fun l => { l with echoed := true })).link 0).echoed = true ∧ (pause0 true true).ackSeen = true ∧
    (pause0 true false).ackSent = true ∧ (pause0 true false).ours = true := by decide
theorem witness_link_commands : (linkAs 0 3 id).linkIsUp 0 = true ∧ (linkAs 0 1 id).linkState 0 = .down ∧
    (linkAs 0 3 id).allows (.linkCommandDown .firmware 0) = true ∧ (linkAs 0 3 id).allows (.linkEnableWrite .firmware 0 false) = true ∧
    (linkAs 0 0 id).allows (.linkEnableWrite .firmware 0 true) = true ∧ (linkAs 0 3 id).allows (.retrain .firmware 0) = true ∧
    (linkAs 0 1 id).allows (.retrain .firmware 0) = true ∧ (0 : Fin 18).val = linkOf 0 := by decide
/-- A pause of the far end's, and one that has both acknowledgements. -/
theorem witness_pause_forms : ({ pause0 true true with ours := false }).ours = false ∧ (pause0 true true).ackSent = true ∧
    (pause0 true true).ackSeen = true ∧ ((pause0 true true).ackSent && (pause0 true true).ackSeen) = true ∧
    ((paused 0 true true).link 0).pause = some (pause0 true true) ∧ (paused 0 true true).linkState 0 = .paused ∧
    ({ pause0 false false with ours := false }).ackSent = false ∧ (pause0 false false).ackSeen = false ∧
    ((linkAs 0 3 id).enterRecovering 0 0).linkState 0 = .recovering ∧
    (((linkAs 0 3 id).enterRecovering 0 0).link 0).ackValid 0 = true ∧
    ((linkAs 0 5 (fun l => { l with resuming := true, token := 4 })).link 0).resumeEchoed = false ∧
    (opened.linkState 0 ≠ .up ∧ (opened.link 0).pause = none) ∧ (linkAs 0 0 id).linkState 0 = .disabled := by decide
theorem witness_init : ((linkAs 0 2 (fun l => { l with token := 9 })).link 0).token = 9 ∧ (linkAs 0 2 id).linkState 0 ≠ .up ∧
    (2 = (if (0 : Fin 18).val < 16 then 2 else 3) ∧ 0 = (if (0 : Fin 18).val < 16 then 0 % 2 else 0)) ∧
    ((linkAs 0 2 (fun l => { l with checked := true, echoed := true })).link 0).checked = true ∧
    ((linkAs 0 2 id).link 0).checked = false ∧ (linkAs 0 5 id).linkState 0 = .recovering := by decide
/-- The round trip is 1,000 ns, or one more cycle. -/
theorem witness_round_trip :
    ((linkAs 1 2 id).atCycle 122 |>.takeRtt 0 4 3).get Reg.linkRtt 0 = 1000 ∧
    1000 < ((linkAs 1 2 id).atCycle 123 |>.takeRtt 0 4 3).get Reg.linkRtt 0 := by decide
theorem witness_pauses : ((linkAs 0 3 (fun l => { l with wantPause := some (3, 2, 3) })).link 0).wantPause = some (3, 2, 3) ∧
    (linkAs 0 3 id).linkState (otherLink 0) ≠ .paused ∧ (linkAs 0 3 id).cutPassed = false ∧ (opened.link 0).pause = none ∧
    16 ≤ (16 : Fin 18).val ∧ (regs [(Reg.linkState, 16, 3)] opened).linkState 16 = .up ∧
    ((linkAs 0 5 id).link 0).ackValid 0 = true ∧ ((linkAs 0 5 id).link 0).ackValid 1 = false ∧
    ((linkAs 0 5 (fun l => { l with resuming := true, token := 4 })).link 0).token = 4 := by decide
/-- Where two requests of partner link 0 cross, side B yields. -/
def crossing : State := regs [(Reg.linkState, 16, 4), (Reg.pairSide, 0, 1)]
  { opened with links := [(16, { Link.reset with pause := some (pause0 false false) })] }
theorem witness_crossing : crossing.linkState 16 = .paused ∧ (crossing.link 16).pause = some (pause0 false false) ∧
    (pause0 false false).ours = true ∧ (pause0 false false).ackSent = false ∧ crossing.get Reg.pairSide = 1 ∧
    (pause0 false false).width ≠ 1 % 4 := by decide

theorem witness_pause_passed : (regs [(Reg.linkState, 16, 1)] crossing).linkState 16 ≠ .up ∧
    ((regs [(Reg.linkState, 16, 1)] crossing).link 16).pause = some (pause0 false false) ∧
    (regs [(Reg.linkState, 16, 1)] crossing).linkState 16 ≠ .paused ∧
    1000 < ((linkAs 100 5 (fun l => { l with resuming := true, token := 4 })).atCycle 123 |>.takeRtt 0 0 0).get Reg.linkRtt 0 := by
  decide

/-! ### Lanes -/

/-- Link 0 in state st, its training as f makes it, at clause n; lanes of the list good. -/
def train (n st : Nat) (f : Training → Training) : State := atClause n (regs [(Reg.linkState, 0, st)]
  { opened with training := [(0, f Training.reset)] })
theorem witness_training : (train 0 1 id).linkState 0 = .down ∧ ((train 0 1 id).train 0).step = 0 ∧
    ((train 0 1 id).train 0).held = false ∧ ((train 0 1 id).train 0).failed = false ∧ (train 0 1 id).hasRef 0 = true ∧
    ((train 0 1 (fun t => { t with failed := true })).train 0).failed = true ∧ (train 19531 1 id).due (0 + 2500000) = true ∧
    (train 19530 1 id).due (0 + 2500000) = false := by decide
theorem witness_training_timeout : (train 39062 1 (fun t => { t with step := 3, rate := 5, farRates := 12 })).due (0 + 5000000) = true ∧
    highestRate 12 (5 - 1) = some 4 ∧ highestRate 0 4 = none ∧ (train 39061 1 id).due (0 + 5000000) = false := by decide
theorem witness_lane_wait : (train 0 1 (fun t => { t with step := 1, firstGoodAt := some 0 })).numbers 0 = true ∧
    (train 195 1 (fun t => { t with step := 1, firstGoodAt := some 0 })).due (0 + 25000) = true ∧
    (train 194 1 (fun t => { t with step := 1, firstGoodAt := some 0 })).due (0 + 25000) = false := by decide
theorem witness_ts_cap : opened.laneSound 0 = true ∧ (0 : Fin 18).val = linkOf 0 ∧
    ({ opened with lanes := [(0, { Lane.reset with losReported := true })] } : State).laneSound 0 = false ∧
    ((train 0 1 (fun t => { t with step := 1 })).train 0).step = 1 ∧
    (regs [(Reg.pairSide, 0, 1)] opened).numbers 16 = false ∧ (16 : Fin 18).val = linkOf 64 := by decide
theorem witness_ts_cap_far :
    (regs [(Reg.pairSide, 0, 1)] { opened with training := [(16, { Training.reset with step := 1 })] }).numbers 16 = false ∧
    ((regs [(Reg.pairSide, 0, 1)] { opened with training := [(16, { Training.reset with step := 1 })] }).train 16).step = 1 := by
  decide
theorem witness_ts_ready : ((train 0 1 (fun t => { t with step := 6, rate := 3, token := 9 })).train 0).step = 6 ∧
    ((train 0 4 (fun t => { t with step := 6, rate := 3 })).linkState 0) = .paused ∧
    ((train 0 1 (fun t => { t with step := 6, rate := 3, token := 9 })).train 0).token = 9 := by decide
/-- Lane 0 asks the far end, for the n-th time, in step 5. -/
def tuning (n : Nat) : State := { train 0 1 (fun t => { t with step := 5, rate := 4 }) with
  lanes := [(0, { Lane.reset with eqIter := n })] }
theorem witness_eq : ((tuning 1).train 0).step = 5 ∧ ((tuning 1).lane 0).eqIter = 1 ∧ ((tuning 1).lane 0).eqIter ≠ 0 ∧
    31 < 32 ∧ 32 ≤ ((tuning 32).lane 0).eqIter ∧ (opened.lane 0).eqIter = 0 ∧ 7 ≤ 7 ∧
    betterEye 16 20 (16, 20) (64, 19) = true := by decide
/-- Lane 0 is selected, on a link that is up. -/
def scanning : State := regs [(Reg.laneStatus, 0, 0x1F), (Reg.eyePeriod, 0, 100)] (train 0 3 id)
theorem witness_eye : scanning.powerState = 0 ∧ scanning.linkState 0 = .up ∧ bit (scanning.get Reg.laneStatus 0) 4 = true ∧
    scanning.get Reg.eyePeriod 0 ≠ 0 ∧ (scanning.lane 0).scanned = false ∧ scanning.awake = true := by decide
theorem witness_lane_commands : (train 0 3 id).allows (.eqUpdate .firmware 0) = true ∧
    (regs [(Reg.linkEnable, 0, 0), (Reg.linkState, 0, 0), (Reg.prbsLanes, 0, 15)] opened).allows (.prbsStart .firmware 0) = true ∧
    (regs [(Reg.linkEnable, 0, 0), (Reg.prbsState, 0, 1)] opened).allows (.prbsStop .firmware 0) = true ∧
    (regs [(Reg.prbsState, 0, 1)] opened).get Reg.prbsState 0 = 1 ∧
    (regs [(Reg.linkEnable, 0, 0)] opened).allows (.prbsStop .firmware 0) = true := by decide

/-! ### Power and ageing -/

/-- The cut has fallen. -/
def stopped (s : State) : State := pow s (fun p => { p with cutDone := true })
/-- A transition from A0 to A2, of which the steps in todo are left, committed or not. -/
def trans (n : Nat) (todo : List Nat) (committed : Bool) (s : State) : State := atClause n (pow s (fun p => { p with
  trans := some ⟨2, 2, 0, 0, 0, todo, 0, 0, true, [], false, committed⟩ }))
theorem witness_power : opened.allows (.powerRequest .hostPf 2) = true ∧ opened.power.trans = none ∧
    transCode opened.powerState 2 = some 2 ∧ opened.powerState = 0 ∧ opened.allows (.powerRequest .hostPf 0) = true ∧
    transCode 1 3 = none ∧ transCode 1 0 = some 5 ∧ (regs [(Reg.powerState, 0, 1)] opened).allows (.powerRequest .hostPf 3) = true ∧
    (trans 0 [3] false opened).allows (.powerRequest .hostPf 0) = true ∧
    (trans 0 [3] false opened).allows (.powerRequest .hostPf 1) = true ∧
    (trans 0 [3] false opened).allows (.powerRequest .hostPf 2) = true ∧ opened.cutPassed = false ∧
    (stopped opened).cutPassed = true ∧ (stopped opened).fieldSends = false ∧ (stopped (leased 0 1 false)).fieldSends = true := by
  decide
/-- Step 3 waits for a channel that runs; step 7 waits for SELF_REFRESH alone. -/
theorem witness_step_timeout : (trans 1000000000 [3, 4] false (regs [(Reg.chState, 0, 3)] opened)).notAgreeing 2 3 ≠ 0 ∧
    3 ≤ lastAbort 2 ∧ (trans 1000000000 [3, 4] false (regs [(Reg.chState, 0, 3)] opened)).due
      (0 + msCycles ((trans 1000000000 [3, 4] false (regs [(Reg.chState, 0, 3)] opened)).get Reg.stepTimeout 3)) = true ∧
    (trans 1000000000 [7] false opened).notAgreeing 2 7 ≠ 0 ∧ opened.cutPassed = false ∧
    (∀ c ∈ (trans 0 [7] false opened).activeCarriers, ((trans 0 [7] false opened).car c).reqs = []) ∧
    (∃ c ∈ (busy 0 (.hostRead 1 0) 0 0).activeCarriers, ((busy 0 (.hostRead 1 0) 0 0).car c).reqs ≠ []) := by decide
/-- In A2 since clause 0. -/
def inA2 (n : Nat) : State := atClause n (regs [(Reg.powerState, 0, 2)] opened)
theorem witness_watch : (inA2 1000000000).past (128 * 0 + 0 * msCycles ((inA2 1000000000).get Reg.patrolPeriod)) = true ∧
    (inA2 0).powerState = 2 ∧ (inA2 0).power.trans = none ∧ (inA2 0).power.detected = false ∧ opened.powerState ≠ 2 ∧
    (atClause 2048 opened).due (opened.power.sampleAt + 262144) = true ∧ (atClause 2047 opened).due (0 + 262144) = false ∧
    (List.replicate 17 0).length = 17 ∧
    (atClause 1000000000 opened).due (0 + msCycles (opened.get Reg.replanPeriod)) = true ∧
    opened.due (0 + msCycles (opened.get Reg.replanPeriod)) = false ∧ (List.replicate 16 0).length = 16 := by decide
/-- AVS_TARGET is 700 mV, and k transactions have failed. -/
def avs (n k : Nat) : State := atClause n (pow (regs [(Reg.avsTarget, 0, 700)] opened) (fun p => { p with avsFails := k }))
theorem witness_avs : (avs 64 2).power.avsFails < 3 ∧ (avs 64 2).power.avsMv ≠ (avs 64 2).get Reg.avsTarget ∧
    (avs 64 2).due (0 + 8192) = true ∧ (avs 63 2).due (0 + 8192) = false ∧ 3 ≤ (avs 2048 3).power.avsFails ∧
    (avs 2048 3).due (0 + 262144) = true ∧ (avs 2047 3).due (0 + 262144) = false ∧
    opened.allows (.restoreCaps .firmware) = true := by decide

/-! ### Security -/

/-- A good package of rollback step k. -/
def package (k : Nat) : FwPackage := ⟨true, true, true, 2, k, 7⟩
/-- Both slots hold good firmware, and slot 1 is in the other slot. -/
def twoSlots (s : State) : State := { s with keep := { s.keep with slot1 := ⟨1, 2, 1, 7, true⟩ } }
theorem witness_firmware : opened.allows (.fwPackage .firmware (package 64)) = true ∧
    (FwSlot.mk 1 2 64 7 true).good opened.keep.fuses = true ∧ (FwSlot.mk 1 2 65 7 true).good opened.keep.fuses = false ∧
    (twoSlots opened).allows (.activate .firmware) = true ∧ opened.allows (.confirm .firmware none) = true ∧
    opened.allows (.invalidate .firmware) = true ∧ recovering.allows (.fwRestart .hostPf 0) = true := by decide
/-- Firmware of step 4 runs, and blowing fuse 2 fails. -/
def stepFour : State := { opened with keep := { opened.keep with slot0 := ⟨1, 1, 4, 0, true⟩ } }
theorem witness_firmware_forms : (twoSlots recovering).allows (.activate .hostPf) = true ∧
    (twoSlots recovering).security.recovery = true ∧ stepFour.allows (.confirm .firmware (some 2)) = true ∧
    stepFour.keep.fuses ≤ 2 ∧ 2 < min 64 (stepFour.fwSlot (stepFour.get Reg.fwActiveSlot)).step := by decide
/-- An owner key. -/
def key1 : List Byte := List.replicate 1793 5
/-- A statement of KIND k and counter n with this body, under the owner's key. -/
def stmt (k n : Nat) (b : List Byte) : Statement := ⟨k, true, true, n, .owner [], b, true⟩
theorem witness_enrol : key1.length = 1793 ∧ (inState 1 0).get Reg.ownerState = 0 := by
  constructor
  · exact List.length_replicate
  · decide
/-- The part is owned, with key [], and its counter is 4. -/
def owned (s : State) : State := regs [(Reg.ownerState, 0, 1)] { s with keep := { s.keep with counter := 4 } }
theorem witness_statement : (owned opened).allows (.signedConfig .firmware (stmt 5 5 [])) = true ∧
    bit (statementStates (stmt 5 5 [])) opened.image.code = true ∧ statementFits (stmt 5 5 []) = true ∧
    ((owned opened).taken .firmware).statementValid (stmt 5 4 []) = false ∧
    (stmt 5 5 []).kind = 5 ∧ bit (statementStates (stmt 3 5 [])) ImageState.sealed.code = false ∧
    bit (statementStates ⟨4, true, true, 5, .manufacturing, [], true⟩) ImageState.opened.code = false ∧
    statementFits (stmt 4 5 [1]) = false ∧ (owned opened).allows (.configLockWrite .firmware true) = true := by decide
theorem witness_statement_valid : ((owned opened).taken .firmware).statementValid ⟨4, true, true, 5, .manufacturing, [], true⟩ = true ∧
    statementFits ⟨4, true, true, 5, .manufacturing, [], true⟩ = true ∧
    (writing .semicolon 1 (inState 6 0)).keep.job ≠ none ∧
    bit (statementStates ⟨4, true, true, 5, .manufacturing, [], true⟩) ImageState.fault.code = true := by decide
theorem witness_attest : opened.allows (.attestNonce .hostPf (zeros 32)) = true ∧ opened.get Reg.debugState ≠ 2 ∧
    opened.security.attest = none ∧
    (signing opened).security.attest = some ⟨.hostPf, [0], some [1]⟩ ∧ (signing opened).security.sealWaits = none ∧
    (signing opened).security.attest.any (·.body.isSome) = true ∧ opened.security.sealWaits = none ∧
    (writing .semicolon 1 opened).allows (.attestNonce .hostPf (zeros 32)) = true ∧
    ({ signing opened with security := { (signing opened).security with sealWaits := some (0, 0, false) } } : State).security.sealWaits =
      some (0, 0, false) ∧ opened.lexicon.config = none ∧
    (regs [(Reg.debugState, 0, 2)] opened).get Reg.debugState = 2 ∧ opened.security.testSeen = false ∧
    (regs [(Reg.debugState, 0, 1)] opened).allows (.debugLock .firmware 0) = true ∧ opened.serves .firmware = true ∧
    opened.clock.powered = true := by decide
/-- DEBUG_CHALLENGE is reached by the PF, and by no VF. -/
theorem witness_challenge : (∃ i v, (opened.taken .hostPf).target ⟨.hostPf, Reg.debugChallenge, 0xFFFFFFFF, false⟩ false = .place i v) ∧
    (∃ a, a ≠ Abort.ok ∧ ((vfs host).taken (.hostVf 1)).target ⟨.hostVf 1, Reg.debugChallenge, 0xFFFFFFFF, false⟩ false = .refused a) ∧
    (vfs host).serves (.hostVf 1) = true :=
  ⟨⟨_, _, rfl⟩, ⟨Abort.rights, by decide, by decide⟩, by decide⟩

/-! ### The Lexicon and the field port -/

/-- IMAGE_SEGMENTS may not be written once the image is Open, and 0xFFFFFF00 is no entry. -/
theorem witness_refused : (∃ a, requestOf (.registerWrite .hostPf 0xFFFFFF00 0xFFFFFFFF [1]) = some a ∧
      opened.serves a.q.path = true ∧ (opened.taken a.q.path).target a.q true = .refused .noEntry) ∧ Abort.noEntry ≠ .ok ∧
    Abort.noEntry ≠ .later ∧ opened.lexicon.config = none ∧ opened.clock.powered = true :=
  ⟨⟨_, rfl, by decide, by decide⟩, by decide, by decide, by decide, by decide⟩
theorem witness_set : opened.allows (.registerWrite .hostPf Reg.tagTimeout 0xFFFFFFFF (le 4 1000)) = true ∧
    opened.allows (.registerWrite .hostPf Reg.semicolonInterval 0xFFFFFFFF (le 4 1000)) = true ∧
    opened.allows (.store .firmware 0 false) = true ∧ opened.allows (.store .hostPf 0 true) = true ∧
    (inState 1 0).allows (.lexFormat .firmware) = true ∧ (inState 1 0).allows (.reload .firmware) = true ∧
    opened.get Reg.setCopy ≠ 0 ∧ opened.get Reg.setCopy ≠ 1 ∧
    (regs [(Reg.setCopy, 0, 0)] (inState 1 0)).copyInUse = some ⟨false, 0, []⟩ ∧ opened.keepLow = false ∧
    (regs [(Reg.sensorValue, 11, 1709)] opened).allows (.store .firmware 0 false) = true ∧
    (regs [(Reg.sensorValue, 11, 1709)] opened).keepLow = true ∧
    opened.allows (.registerWrite .hostPf Reg.wakeEnable 0xFFFFFFFF (le 4 (2 ^ 32 - 1))) = true ∧
    opened.allows (.registerWrite .hostPf Reg.pfailFilter 0xFFFFFFFF (le 2 500)) = true ∧
    opened.allows (.registerWrite .hostPf Reg.restoreTouchLimit 0xFFFFFFFF (le 2 500)) = true ∧
    opened.allows (.registerWrite .firmware Reg.epoch 0xFFFFFFFF (le 4 5)) = true := by decide
theorem witness_port : host.cutPassed = false ∧ (inState 5 0).cutPassed = true ∧ host.lexOn 3 = false ∧ host.lexOn 0 = true ∧
    host.host.posted = [] ∧ (host.lexPort 0).busy = false ∧
    ({ host with lexicon := { host.lexicon with ports := [(0, { LexPort.reset with busy := true })] } } : State).lexPort 0 =
      { LexPort.reset with busy := true } ∧ 2048 < 2049 := by decide
/-- A port's request to an entry that is there, and one that is not. -/
theorem witness_port_target :
    (∃ o j, host.countRequest.target ⟨.hostPf, Reg.epoch, 0xFFFFFFFF, false⟩ false = .place o j ∧ o.reg ≠ Reg.attestReport ∧
      o.reg ≠ Reg.debugChallenge ∧ 0 < (host.bytesOf o j).length ∧ (host.bytesOf o j).length ≤ 4) ∧
    host.countRequest.target ⟨.hostPf, 0xFFFFFF00, 0xFFFFFFFF, false⟩ false = .refused .noEntry :=
  ⟨⟨_, _, rfl, by decide, by decide, by decide, by decide⟩, by decide⟩
/-- A segmented write of the PF's port has waited since clause 0. -/
def segment (n : Nat) : State := atClause n { host with lexicon := { host.lexicon with transfers := [⟨.host 0, 0, 0, [1], 0⟩] } }
theorem witness_segment : (segment 1953125).transferOf (.host 0) = some ⟨.host 0, 0, 0, [1], 0⟩ ∧
    (segment 1953125).due (128 * 0 + 250000000) = true ∧ (segment 1953124).due (128 * 0 + 250000000) = false ∧
    host.transferOf (.host 0) = none := by decide
/-- Node 3 is on the field network; the RESPONSE to request 1 of node 9 is kept since clause 0. -/
def field3 (n : Nat) (waits : Bool) : State := atClause n (regs [(Reg.fieldNodeId, 0, 3), (Reg.fieldAccess, 0, 2), (Reg.fieldHeartbeat, 0, 100)]
  { host with lexicon := { host.lexicon with kept := [(9 * 256 + 1, ⟨1, 0, [1], 77, [2], 0, waits⟩)] } })
theorem witness_field : (field3 0 false).get Reg.fieldAccess ≠ 0 ∧ (field3 0 false).get Reg.canState ≠ 2 ∧ 3 = (field3 0 false).get Reg.fieldNodeId ∧
    Tbl.find (field3 0 false).lexicon.kept (9 * 256 + 1) = some ⟨1, 0, [1], 77, [2], 0, false⟩ ∧
    Tbl.find (field3 0 true).lexicon.kept (9 * 256 + 1) = some ⟨1, 0, [1], 77, [2], 0, true⟩ ∧
    (field3 1953124 false).clauseNow < 0 + 1953125 ∧ 0 + 1953125 ≤ (field3 1953125 false).clauseNow ∧
    (field3 0 false).fieldSends = true ∧ 11 < 12 ∧ 15 < 16 ∧
    (field3 1000000 false).due ((field3 1000000 false).lexicon.heartbeatAt + msCycles ((field3 1000000 false).get Reg.fieldHeartbeat)) = true ∧
    (field3 0 false).due (0 + msCycles ((field3 0 false).get Reg.fieldHeartbeat)) = false ∧
    (regs [(Reg.fieldHeartbeat, 0, 0)] host).get Reg.fieldHeartbeat = 0 ∧ (regs [(Reg.canState, 0, 2)] host).get Reg.canState = 2 := by decide

theorem witness_enrol_allowed : (inState 1 0).allows (.ownerKeyEnrol .hostPf key1) = true := by decide +kernel
theorem witness_replace : (owned opened).allows (.ownerReplace .firmware (stmt 3 5 key1)) = true ∧
    ((owned opened).taken .firmware).statementValid (stmt 3 5 key1) = true ∧ statementFits (stmt 3 5 key1) = true := by decide +kernel
/-- A debug statement of level 1 for challenge 3. -/
def unlock : Statement := stmt 6 0 (le 32 3 ++ [1] ++ zeros 7)
theorem witness_unlock : (owned opened).allows (.debugUnlock .firmware unlock) = true ∧ statementFits unlock = true ∧
    ({ owned opened with security := { opened.security with challenge := some 3 } } : State).statementValid unlock = true := by decide

/-! ### Operands outside their ranges are refused -/

/-- None of these commands is well formed. -/
def allIll (l : List Instr) : Bool := l.all (fun c => !c.wellFormed)

theorem ill_formed_1 : allIll [
    .clauseBoundary [],
    .clauseBoundary (List.replicate 13 (2 ^ 32)),
    .ckptStatus 0 0 false false (2 ^ 32) 0 0,
    .ckptStatus 0 0 false false 0 (2 ^ 32) 0,
    .ckptStatus 0 0 false false 0 0 2097153,
    .sealComplete (2 ^ 32) 0 false,
    .sealComplete 0 (2 ^ 32) false,
    .holdupReport 0 0 (2 ^ 32) 0 0,
    .holdupReport 0 0 0 (2 ^ 32) 0,
    .holdupReport 0 0 0 0 (2 ^ 32),
    .restoreStatus 0 0 false false false false false (2 ^ 32) 0,
    .restoreStatus 0 0 false false false false false 0 2097153,
    .hostRead 0 ⟨.bar2, 2 ^ 64⟩ 1 0,
    .hostRead 0 ⟨.bar2, 0⟩ 0 0,
    .hostRead 0 ⟨.bar0, 0⟩ 4097 0,
    .hostRead 0 ⟨.bar2, 0⟩ 1 (2 ^ 14),
    .hostWrite 0 ⟨.bar2, 2 ^ 64⟩ [none] false false,
    .hostWrite 0 ⟨.bar4, 0⟩ [] false false,
    .hostWrite 0 ⟨.bar2, 0⟩ (List.replicate 513 none) false false,
    .malformedRequest .malformed 0 false (2 ^ 14),
    .hostCompletion (2 ^ 14) [],
    .hostCompletion 0 (List.replicate 4097 0),
    .hostCompletionTimeout (2 ^ 14) .timeout,
    .barResize false 64 false,
    .appendPublish 0 (2 ^ 64) 1 true 0,
    .appendPublish 0 0 0 true 0,
    .appendPublish 0 0 513 true 0,
    .appendPublish 0 0 1 true (2 ^ 63)] = true := by decide +kernel

theorem ill_formed_2 : allIll [
    .appendTrim 0 (2 ^ 64) 1 true 0,
    .appendTrim 0 0 0 true 0,
    .appendTrim 0 0 513 true 0,
    .appendTrim 0 0 1 true (2 ^ 63),
    .appendCoalTimeout 262144,
    .ctxOpen .firmware 262144,
    .ctxClose .firmware 262144,
    .ctxAbort .firmware 262144,
    .ctxResume .firmware 262144,
    .mcopy 0 false (2 ^ 32) 0 [0],
    .mcopy 0 false 0 (2 ^ 42) [0],
    .mcopy 0 false 0 0 [],
    .mcopy 0 false 0 0 (List.replicate 257 0),
    .mack 0 (2 ^ 32),
    .mnak 0 256 0 0,
    .mnak 0 0 (2 ^ 32) 0,
    .mnak 0 0 0 (2 ^ 42),
    .rcopy 0 false (2 ^ 32) 0 (List.replicate 256 0),
    .rcopy 0 false 0 (2 ^ 42) (List.replicate 256 0),
    .rcopy 0 false 0 0 [0],
    .rack 0 (2 ^ 32),
    .pairHello 0 [0],
    .mstate 0 false 0 (2 ^ 32) 0,
    .cutNotice 0 (2 ^ 32),
    .rmap 0 (2 ^ 22) (List.replicate 64 0),
    .rmap 0 1 (List.replicate 64 0),
    .rmap 0 0 [0],
    .rangeDesc 0 0 (2 ^ 32) 0] = true := by decide +kernel

theorem ill_formed_3 : allIll [
    .rangeDesc 0 0 0 (2 ^ 32),
    .leaseGrant 0 (2 ^ 64) 0 0 0,
    .leaseGrant 0 0 (2 ^ 32) 0 0,
    .leaseGrant 0 0 0 256 0,
    .leaseGrant 0 0 0 0 (2 ^ 32),
    .takeoverGrant 0 (2 ^ 64) 0 0,
    .takeoverGrant 0 0 (2 ^ 32) 0,
    .takeoverGrant 0 0 0 256,
    .witnessNodeWrite .firmware 256,
    .extentCommit .firmware 16384 none,
    .extentCommit .firmware 0 (some [0]),
    .extentWithdraw .firmware 16384,
    .queueDoorbell 0 64 8 0,
    .queueDoorbell 0 0 0 0,
    .queueDoorbell 0 0 513 0,
    .queueDoorbell 0 0 8 (2 ^ 64),
    .dmaDoorbell 0 64 8 0,
    .dmaDoorbell 0 0 0 0,
    .dmaDoorbell 0 0 513 0,
    .dmaDoorbell 0 0 8 (2 ^ 64),
    .claim 0 0,
    .claim 0 4097,
    .complete 0 0 0,
    .complete 0 513 0,
    .complete 0 8 (2 ^ 64),
    .selfHoldWrite 0 (2 ^ 64),
    .wakeStatusClear .firmware (2 ^ 32),
    .dmaEnable (.block 0 64 8)] = true := by decide +kernel

theorem ill_formed_4 : allIll [
    .dmaEnable (.block 0 0 0),
    .dmaEnable (.block 0 0 513),
    .dmaDisable (.block 0 64 8),
    .dmaDisable (.block 0 0 0),
    .dmaDisable (.block 0 0 513),
    .dmaResume (.block 0 64 8),
    .dmaResume (.block 0 0 0),
    .dmaResume (.block 0 0 513),
    .dmaSkip (.block 0 64 8),
    .dmaSkip (.block 0 0 0),
    .dmaSkip (.block 0 0 513),
    .dmaAbort (.block 0 64 8),
    .dmaAbort (.block 0 0 0),
    .dmaAbort (.block 0 0 513),
    .softPulse 0 64 0,
    .softPulse 0 0 (2 ^ 64),
    .shadowWrite (.block 0 64 8) false 0,
    .shadowWrite (.lexicon .firmware 0) false (2 ^ 64),
    .carrierCpl 0 0 (2 ^ 16) 0 (List.replicate 64 0),
    .carrierCpl 0 0 0 16 (List.replicate 64 0),
    .carrierCpl 0 0 0 0 [0],
    .carrierCpl 0 0 0 0 [],
    .carrierCpl 0 0 0 0 (List.replicate 320 0),
    .carrierAck 0 0 (2 ^ 16) 1,
    .carrierAck 0 0 0 (2 ^ 16 + 1),
    .carrierAck 0 0 0 2,
    .controlAck 0 0 256 0,
    .controlAck 0 0 0 (2 ^ 32)] = true := by decide +kernel

theorem ill_formed_5 : allIll [
    .carrierNak 0 0 (2 ^ 16) 0,
    .carrierNak 0 0 0 256,
    .retryRound 0 2097152,
    .ident 0 0 [0],
    .health 0 0 false [0],
    .fuReceive 0 [0] false,
    .nakFu 0 [0] false,
    .replayMarker 0 4096,
    .init 0 16 0 0 0 0,
    .init 0 0 17 0 0 0,
    .init 0 0 0 2 0 0,
    .init 0 0 0 0 256 0,
    .init 0 0 0 0 0 256,
    .initEcho 0 256 0,
    .pauseStart 0 256 0 0,
    .pauseStart 0 0 4 0,
    .pauseStart 0 0 0 8,
    .pauseReq 0 256 0 0,
    .pauseReq 0 0 4 0,
    .pauseReq 0 0 0 8,
    .resume 0 4096 false 0 0 0,
    .resume 0 0 false 256 0 0,
    .resume 0 0 false 0 4 0,
    .resume 0 0 false 0 0 8,
    .resumeEcho 0 256 0,
    .downSet 0 256,
    .tsCap 0 256 0 false 0 false,
    .tsCap 0 0 8 false 0 false] = true := by decide +kernel

theorem ill_formed_6 : allIll [
    .tsCap 0 0 0 false 256 false,
    .tsRate 0 256 0,
    .tsRate 0 0 256,
    .tsReady 0 256 0 0,
    .tsReady 0 0 256 0,
    .tsReady 0 0 0 256,
    .eqReq 0 256 0 0 0,
    .eqReq 0 0 256 0 0,
    .eqReq 0 0 0 256 0,
    .eqReq 0 0 0 0 256,
    .eqAck 0 256 0 0 false 0 0,
    .eqAck 0 0 256 0 false 0 0,
    .eqAck 0 0 0 256 false 0 0,
    .eqAck 0 0 0 0 false 256 0,
    .eqAck 0 0 0 0 false 0 256,
    .eqDone 0 256 0 0 0,
    .eqDone 0 0 256 0 0,
    .eqDone 0 0 0 256 0,
    .eqDone 0 0 0 0 256,
    .eyeScan 0 256 0,
    .eyeScan 0 0 256,
    .patrolPass [2 ^ 32],
    .sensorSample [] false,
    .sensorSample (List.replicate 17 (2 ^ 32)) false,
    .replan [],
    .replan (List.replicate 16 (2 ^ 32)),
    .fwPackage .firmware ⟨true, true, true, 2 ^ 32, 0, 0⟩,
    .fwPackage .firmware ⟨true, true, true, 0, 2 ^ 32, 0⟩] = true := by decide +kernel

theorem ill_formed_7 : allIll [
    .confirm .firmware (some 64),
    .ownerReplace .firmware (stmt 4 0 []),
    .ownerReplace .firmware (stmt 3 (2 ^ 32) []),
    .ownerRelease .firmware (stmt 3 0 []),
    .signedConfig .firmware (stmt 3 0 []),
    .debugUnlock .firmware (stmt 3 0 []),
    .attestNonce .firmware [0],
    .debugLock .firmware 256,
    .lexiconRead 0 false (2 ^ 32) 0 0 1,
    .lexiconRead 0 false 0 (2 ^ 32) 0 1,
    .lexiconRead 0 false 0 0 (2 ^ 32) 1,
    .lexiconRead 0 false 0 0 0 (2 ^ 16),
    .lexiconWrite 0 false true (2 ^ 32) 0 0 [],
    .lexiconWrite 0 false true 0 (2 ^ 32) 0 [],
    .lexiconWrite 0 false true 0 0 (2 ^ 32) [],
    .lexiconWrite 0 false true 0 0 0 (List.replicate 2049 0),
    .registerWrite .firmware (2 ^ 32) 0 [],
    .registerWrite .firmware 0 (2 ^ 32) [],
    .store .firmware (2 ^ 32) false,
    .clezelRead 0 0 0 0 (List.replicate 65 0),
    .clezelWrite 0 0 0 0 (List.replicate 65 0),
    .hostLinkStatusChange 256 0 0 false,
    .hostLinkStatusChange 0 256 0 false,
    .hostLinkStatusChange 0 0 256 false] = true := by decide +kernel

theorem ill_formed_key : allIll [.ownerKeyEnrol .firmware (List.replicate 1794 0)] = true := by decide +kernel

/-- At the bounds the operands are taken. -/
theorem well_formed : [Instr.clauseBoundary (List.replicate 13 4294967295), .hostRead 0 ⟨.bar2, 0⟩ 4096 16383,
    .hostWrite 0 ⟨.bar2, 0⟩ (List.replicate 512 none) false false, .appendPublish 0 0 8 true (2 ^ 63 - 8), .rmap 0 512 (List.replicate 64 0),
    .carrierCpl 0 0 65535 15 (List.replicate 256 0), .resume 0 4095 true 255 3 7, .ownerRelease .firmware (stmt 4 (2 ^ 32 - 1) [])].all
    Instr.wellFormed = true := by decide +kernel


/-! ### Worked examples of the spec -/

/-- spec/00_scope.md, reading an image address: segment 596,523, carrier C5, carrier-local address 0x24_68AC_FABC. -/
theorem example_address : segmentOf 0x1234567DABC = 596523 ∧ carrierOf 8 0x1234567DABC = 5 ∧
    localOf 8 0x1234567DABC = 0x2468ACFABC := by decide
/-- One carrier of eight with this report, and HOLDUP_DERATE d. -/
def reportOf (mj d : Nat) : State := regs [(Reg.activeCarriers, 0, 8), (Reg.holdupEnergy, 0, mj), (Reg.holdupSaveRate, 0, 25000),
  (Reg.holdupSaveEnergy, 0, 7700), (Reg.holdupDerate, 0, d)]
  { State.reset with gov := [(0, { GovCar.reset with reports := [(0, mj)] })] }
/-- spec/03_persistence.md, from carrier reports to thresholds, and spec/16_power_ageing.md steps 2 and 4: B(c). -/
theorem example_budget : (reportOf 600000 65536).budgetOf 0 = 271293 ∧ (reportOf 588000 65536).budgetOf 0 = 265867 ∧
    (reportOf 576000 61440).budgetOf 0 = 244164 := by decide
/-- spec/16_power_ageing.md, a failing hold-up module, step 3: three reports give 0.9375, two give 1.0. -/
theorem example_derate : derateOf [(20 * 250000000, 576000), (10 * 250000000, 588000), (0, 600000)] 30000 = 61440 ∧
    derateOf [(10 * 250000000, 588000), (0, 600000)] 30000 = 65536 := by decide
/-- spec/18_lexicon.md, a read over CAN FD: node 0x21, GOV_BUDGET of C7 reads 271,293, by node 5 at priority 4. -/
def fieldUnit : State := regs [(Reg.fieldNodeId, 0, 0x21), (Reg.fieldAccess, 0, 2), (Reg.configLock, 0, 1), (Reg.govBudget, 7, 271293)]
  (owned opened)
theorem example_read : (match exec (.clezelRead 4 0x21 5 0x3A (le 4 0x07170500 ++ le 4 0xFFFFFFFF ++ le 4 0)) fieldUnit with
    | .next t => t.outbox.getLast?
    | _ => none) = some (.frame 0x10C2A13A [0, 1, 4, 0, 0, 0, 0, 0, 4, 0, 0, 0, 0xBD, 0x23, 4, 0]) := by decide +kernel
/-- There the write of a guarded object is LOCKED. -/
theorem example_locked : (match exec (.clezelWrite 4 0x21 5 0x3B
      (le 4 0x07003000 ++ le 4 0xFFFFFFFF ++ le 4 0 ++ [4, 0, 1, 0] ++ le 4 0x0001E848)) fieldUnit with
    | .next t => t.outbox.getLast?
    | _ => none) = some (.frame 0x10C2A13B [0x0D, 1, 0, 0, 0, 0, 0, 0, 0, 0, 0, 0]) := by decide +kernel
/-- 8b/10b code groups, from the code tables of IEEE 802.3 Clause 36 (R372): at negative disparity the control code groups of
Table 15.3, D16.2 and D5.6; at positive disparity K28.5 and D11.7. K28.5 turns the disparity, D5.6 does not. -/
theorem example_code_groups : (codeGroup true 0xBC false) = (0b0011111010, true) ∧ (codeGroup true 0xBC true) = (0b1100000101, false) ∧
    (codeGroup true 0x1C false).1 = 0b0011110100 ∧ (codeGroup true 0x7C false).1 = 0b0011110011 ∧
    (codeGroup true 0x5C false).1 = 0b0011110101 ∧ (codeGroup true 0xFB false).1 = 0b1101101000 ∧
    (codeGroup true 0xFD false).1 = 0b1011101000 ∧ (codeGroup false 0x50 false) = (0b0110110101, true) ∧
    (codeGroup false 0xC5 false) = (0b1010010110, false) ∧ (codeGroup false 0xEB true).1 = 0b1101001000 := by decide
/-- spec/10_scheduler.md: leaf (5, 1, 17) is row 10,513. -/
theorem example_leaf : leafRow 5 1 17 = 10513 := by decide

end Sys2Proof.Tests
end

namespace Sys2Proof.Machine

/-! ### Little-endian numbers (R10) -/

theorem le_length (n v : Nat) : (le n v).length = n := by
  induction n generalizing v with
  | zero => rfl
  | succ n ih => simp [le, ih]

theorem fromLe_le (n v : Nat) : fromLe (le n v) = v % 256 ^ n := by
  induction n generalizing v with
  | zero => simp [le, fromLe, Nat.mod_one]
  | succ n ih => rw [le, fromLe, ih, BitVec.toNat_ofNat, Nat.pow_succ' (m := 256), Nat.mod_mul]

/-! ### Reading across an update -/

section
variable {s t : State} {f : Footprint}

theorem State.get_set_register (s : State) {r q : Nat} (i v j : Nat) (h : r ≠ q) : (s.set r i v).get q j = s.get q j := by
  refine State.get_set_other s r i v q j fun e => h ?_
  rw [← Reg.key_reg r i, e, Reg.key_reg]

theorem State.chanState_of_outside (h : t.outside f = s.outside f) (n : Reg.chState ∉ f.regs) (k : Nat) :
    t.chanState k = s.chanState k := by
  rw [State.chanState, State.get_of_outside h _ _ n, State.chanState]

theorem State.chan_of_outside (h : t.outside f = s.outside f) (n : Part.dma ∉ f.parts) (k : Nat) : t.chan k = s.chan k := by
  rw [State.chan, State.dma_of_outside h n, State.chan]

theorem ChanState.ofCode_code (st : ChanState) : ChanState.ofCode st.code = st := by cases st <;> rfl

@[simp] theorem State.chanState_setChan (s : State) (k : Nat) (st : ChanState) : (s.setChan k st).chanState k = st := by
  rw [State.chanState, State.setChan, State.get_set_same, ChanState.ofCode_code]

@[simp] theorem State.chanState_putChan (s : State) (k j : Nat) (c : Chan) : (s.putChan k c).chanState j = s.chanState j := rfl

@[simp] theorem State.chan_setChan (s : State) (k j : Nat) (st : ChanState) : (s.setChan k st).chan j = s.chan j := rfl

end

/-! ### What a channel between descriptors may change (R278 to R282, R287) -/

/-- What a channel may change as it goes on to its next descriptor: as `Footprint.channels`, but neither its indices nor
its count of descriptors. -/
def Footprint.fetch : Footprint := Footprint.message.plus
  [Reg.chState, Reg.chReqCount, Reg.dmaHalts, Reg.restoreHeldBytes, Reg.restoreTouches, Reg.restoreTouchPending,
    Reg.greenBytes, Reg.yellowBytes, Reg.redBytes]
  [.dma, .blobs, .carriers, .host, .restore, .flow]

section
variable (s : State)

theorem State.fetch_of_message {s t : State} (h : t.outside .message = s.outside .message) :
    t.outside .fetch = s.outside .fetch := State.outside_mono (by decide) (by decide) h

theorem State.fetch_of_event {s t : State} (h : t.outside .event = s.outside .event) :
    t.outside .fetch = s.outside .fetch := State.fetch_of_message (State.message_of_event h)

theorem State.channels_of_fetch {s t : State} (h : t.outside .fetch = s.outside .fetch) :
    t.outside .channels = s.outside .channels := State.outside_mono (by decide) (by decide) h

@[simp] theorem State.fetch_setChan (k : Nat) (st : ChanState) : (s.setChan k st).outside .fetch = s.outside .fetch :=
  State.outside_set _ _ _ _ _ (by decide)

@[simp] theorem State.fetch_putChan (k : Nat) (c : Chan) : (s.putChan k c).outside .fetch = s.outside .fetch :=
  State.outside_putChan _ _ _ _ (by decide)

@[simp] theorem State.fetch_raise (i n u : Nat) : (s.raise i n u).outside .fetch = s.outside .fetch :=
  State.fetch_of_event (State.event_raise s i n u)

@[simp] theorem State.fetch_withdrawUnit (i n u : Nat) : (s.withdrawUnit i n u).outside .fetch = s.outside .fetch :=
  State.fetch_of_event (State.event_withdrawUnit s i n u)

/-! The entries that a channel gives to the scheduler. -/

theorem State.fetch_refill (k r b : Nat) : (s.refill k r b).outside .fetch = s.outside .fetch :=
  State.outside_putBucket _ _ _ _ (by decide)

theorem State.fetch_take (k b n : Nat) : (s.take k b n).outside .fetch = s.outside .fetch :=
  State.outside_putBucket _ _ _ _ (by decide)

/-- A meter changes its buckets and one of its three counts. -/
theorem State.fetch_metered (m n : Nat) : (s.metered m n).1.outside .fetch = s.outside .fetch := by
  unfold State.metered
  dsimp only
  split
  · exact State.outside_bump _ _ _ _ _ (by decide)
  · split
    · rw [State.outside_bump _ _ _ _ _ (by decide), State.fetch_refill, State.fetch_refill]
    · split
      · rw [State.outside_bump _ _ _ _ _ (by decide), State.fetch_take, State.fetch_refill, State.fetch_refill]
      · rw [State.outside_bump _ _ _ _ _ (by decide), State.fetch_take, State.fetch_take, State.fetch_refill,
          State.fetch_refill]

theorem State.fetch_putPort (p : Nat) (q : Port) : (s.putPort p q).outside .fetch = s.outside .fetch :=
  State.outside_putPort _ _ _ _ (by decide) (.inr (by decide))

theorem State.fetch_enter (p : Nat) (e : Entry) : (s.enter p e).outside .fetch = s.outside .fetch := by
  have joined (b w : Bool) (x : State) (q : Port) (h : Entry) (t : Nat) :
      (if w = true then ((if b = true then x.bump Reg.hazardWaits else x).putPort p q).makeHead p h t
       else (if b = true then x.bump Reg.hazardWaits else x).putPort p q).outside .fetch = x.outside .fetch := by
    have counted : (if b = true then x.bump Reg.hazardWaits else x).outside .fetch = x.outside .fetch :=
      State.outside_ite _ (State.outside_bump _ _ _ _ _ (by decide)) rfl
    apply State.outside_ite
    · rw [State.fetch_of_message (State.message_makeHead _ _ _ _), State.fetch_putPort, counted]
    · rw [State.fetch_putPort, counted]
  unfold State.enter
  cases h : meterRow p e.svc e.i with
  | none => exact joined _ _ s _ _ _
  | some m => exact (joined _ _ _ _ _ _).trans (State.fetch_metered s m _)

@[simp] theorem State.fetch_enqueue (p svc i : Nat) (w : Work) (n : Nat) :
    (s.enqueue p svc i w n).outside .fetch = s.outside .fetch := by
  have numbered (x : Nat) : ({ s with sched := { s.sched with nextId := x } } : State).outside .fetch =
      s.outside .fetch := State.fetch_of_event (State.event_nextId s x)
  unfold State.enqueue
  apply State.outside_ite
  · rfl
  · apply State.outside_ite
    · rw [State.fetch_enter, numbered]
    · rw [State.fetch_putPort, numbered]

/-! The accesses that read a descriptor. -/

theorem State.fetch_sendTouch (c g : Nat) : (s.sendTouch c g).outside .fetch = s.outside .fetch := by
  unfold State.sendTouch
  rw [State.fetch_of_message (State.message_sendCarrier _ _ _ _ _), State.outside_set _ _ _ _ _ (by decide),
    State.outside_modCar _ _ _ _ (by decide)]

theorem State.fetch_touchSegment (g : Nat) : (s.touchSegment g).outside .fetch = s.outside .fetch := by
  unfold State.touchSegment
  apply State.outside_ite
  · rfl
  · dsimp only
    rw [State.outside_each, State.outside_bump _ _ _ _ _ (by decide), State.outside_modRestore _ _ _ (by decide)]
    intro s c
    refine State.outside_ite _ rfl (State.outside_ite _ ?_ (State.fetch_sendTouch s c g))
    exact State.outside_modRestore _ _ _ (by decide)

theorem State.fetch_countHeld : s.countHeld.outside .fetch = s.outside .fetch :=
  State.outside_ite _ rfl (State.outside_set _ _ _ _ _ (by decide))

theorem State.fetch_imageAccess (svc i : Nat) (w : Bool) (ia len : Nat) (data : List (Option Byte)) (b : Bool)
    (own : ReqOwner) : (s.imageAccess svc i w ia len data b own).outside .fetch = s.outside .fetch := by
  unfold State.imageAccess
  apply State.outside_ite
  · exact State.fetch_enqueue _ _ _ _ _ _
  · dsimp only
    rw [State.fetch_touchSegment, State.fetch_countHeld, State.outside_modRestore _ _ _ (by decide)]

theorem State.fetch_hostFetch (i : Nat) (what : HostFor) (a n : Nat) :
    (s.hostFetch i what a n).outside .fetch = s.outside .fetch := by
  unfold State.hostFetch
  dsimp only
  rw [State.fetch_enqueue, State.outside_modHost _ _ _ (by decide)]

theorem State.fetch_dmaRecord (k t src q : Nat) (b : List Byte) :
    (s.dmaRecord k t src q b).outside .fetch = s.outside .fetch :=
  State.outside_ite _ (State.fetch_of_event (State.event_recordTo _ _ _ _ _ _)) (State.outside_bump _ _ _ _ _ (by decide))

theorem State.fetch_haltChan (k : Nat) (x : ChanFault) : (s.haltChan k x).outside .fetch = s.outside .fetch := by
  unfold State.haltChan
  dsimp only
  rw [State.fetch_raise, State.fetch_dmaRecord, State.modChan_eq, State.fetch_putChan,
    State.outside_bump _ _ _ _ _ (by decide), State.outside_setBlob _ _ _ _ _ (by decide), State.fetch_setChan]

theorem State.fetch_fetchDesc (k : Nat) : (s.fetchDesc k).outside .fetch = s.outside .fetch := by
  have numbered (x : Nat) : ({ s with dma := { s.dma with nextBurst := x } } : State).outside .fetch =
      s.outside .fetch := rfl
  unfold State.fetchDesc
  dsimp only
  split
  · split
    · rw [State.fetch_haltChan, State.modChan_eq, State.fetch_putChan, State.fetch_setChan, numbered]
    · rw [State.outside_each _ _ _ _ (fun s p => State.fetch_imageAccess s _ _ _ _ _ _ _ _), State.modChan_eq,
        State.fetch_putChan, State.fetch_setChan, numbered]
  · rw [State.fetch_hostFetch, State.modChan_eq, State.fetch_putChan, State.fetch_setChan, numbered]

/-- A channel that goes on moves none of its indices. -/
@[simp] theorem State.fetch_chanNext (k : Nat) : (s.chanNext k).outside .fetch = s.outside .fetch := by
  have paid : ((s.set Reg.chReqCount k (s.get Reg.chReqCount k - 1)).fetchDesc k).outside .fetch = s.outside .fetch := by
    rw [State.fetch_fetchDesc, State.outside_set _ _ _ _ _ (by decide)]
  unfold State.chanNext
  refine State.outside_ite _ rfl (State.outside_ite _ (State.fetch_setChan s _ _) (State.outside_ite _ rfl
    (State.outside_ite _ (State.outside_ite _ (State.fetch_setChan s _ _) paid) (State.fetch_fetchDesc s k))))

@[simp] theorem State.fetch_chanOff (k : Nat) : (s.chanOff k).outside .fetch = s.outside .fetch := by
  unfold State.chanOff
  refine State.outside_ite _ ?_ ?_ <;> simp

@[simp] theorem State.chanState_chanOff (k : Nat) : (s.chanOff k).chanState k = .disabled := by
  unfold State.chanOff
  dsimp only
  split
  · rw [State.chanState_of_outside (State.event_withdrawUnit _ _ _ _) (by decide), State.chanState_setChan]
  · exact State.chanState_setChan _ _ _

end

/-! ### Channel commands (R298, Table 12.10) -/

section
variable (s : State) (k : Nat)

/-- A halted channel under RESUME: it runs, and its halt no longer stands behind source 0x071. -/
def State.resumed : State := (s.setChan k .running).withdrawUnit (s.chanInst k) 0x071 k

/-- A halted channel under SKIP: its descriptor is passed, its fault is cleared, and it runs. -/
def State.skipped : State :=
  let s := (s.set Reg.chCons k ((s.get Reg.chCons k + 1) % 4294967296)).setBlob Reg.chFault k []
  let s := (s.putChan k Chan.reset).setChan k .running
  s.withdrawUnit (s.chanInst k) 0x071 k

/-- A channel under ABORT before it is tested for rest: STOPPING, no descriptor read awaited, its bursts in flight. -/
def State.aborting : State :=
  let s := s.modChan k (fun c => { c with stop := 2, fetching := none })
  (if s.chanState k = .halted then s.withdrawUnit (s.chanInst k) 0x071 k else s).setChan k .stopping

theorem State.chanCommand_enable : s.chanCommand k 1 =
    (((((s.set Reg.chProd k 0).set Reg.chCons k 0).set Reg.chReqCount k 0).setBlob Reg.chFault k []).putChan k
      Chan.reset).setChan k .idle := rfl

theorem State.chanCommand_disable : s.chanCommand k 2 =
    if (s.chan k).desc.isNone && (s.chan k).fetching.isNone then s.chanOff k
    else (s.setChan k .stopping).modChan k (fun c => { c with stop := 1 }) := rfl

theorem State.chanCommand_resume : s.chanCommand k 3 =
    if ((s.resumed k).chan k).desc.isNone then ((s.resumed k).modChan k (fun c => { c with paid := true })).chanNext k
    else s.resumed k := rfl

theorem State.chanCommand_skip : s.chanCommand k 4 = (s.skipped k).chanNext k := rfl

/-! The three states on the way. -/

@[simp] theorem State.chanState_resumed : (s.resumed k).chanState k = .running := by
  rw [State.resumed, State.chanState_of_outside (State.event_withdrawUnit _ _ _ _) (by decide), State.chanState_setChan]

@[simp] theorem State.chan_resumed : (s.resumed k).chan k = s.chan k := by
  rw [State.resumed, State.chan_of_outside (State.event_withdrawUnit _ _ _ _) (by decide), State.chan_setChan]

@[simp] theorem State.fetch_resumed : (s.resumed k).outside .fetch = s.outside .fetch := by simp [State.resumed]

@[simp] theorem State.get_skipped_chCons : (s.skipped k).get Reg.chCons k = (s.get Reg.chCons k + 1) % 4294967296 := by
  rw [State.skipped, State.get_of_outside (State.event_withdrawUnit _ _ _ _) _ _ (by decide), State.setChan,
    State.get_set_register _ _ _ _ (by decide), State.putChan_get, State.setBlob_get, State.get_set_same]

theorem State.channels_skipped : (s.skipped k).outside .channels = s.outside .channels := by
  rw [State.skipped, State.channels_of_fetch (State.fetch_withdrawUnit _ _ _ _),
    State.channels_of_fetch (State.fetch_setChan _ _ _), State.channels_of_fetch (State.fetch_putChan _ _ _),
    State.outside_setBlob _ _ _ _ _ (by decide), State.outside_set _ _ _ _ _ (by decide)]

@[simp] theorem State.chanState_aborting : (s.aborting k).chanState k = .stopping := State.chanState_setChan _ _ _

@[simp] theorem State.chan_aborting : (s.aborting k).chan k = { s.chan k with stop := 2, fetching := none } := by
  unfold State.aborting
  dsimp only
  rw [State.chan_setChan]
  split
  · rw [State.chan_of_outside (State.event_withdrawUnit _ _ _ _) (by decide), State.modChan_eq, State.chan_putChan_same]
  · rw [State.modChan_eq, State.chan_putChan_same]

@[simp] theorem State.fetch_aborting : (s.aborting k).outside .fetch = s.outside .fetch := by
  unfold State.aborting
  dsimp only
  rw [State.fetch_setChan]
  refine State.outside_ite _ ?_ ?_ <;> simp

/-- An aborted channel rests at once where no burst of it is in flight. -/
theorem State.chanCommand_abort : s.chanCommand k 5 =
    if (s.chan k).bursts = [] then (s.aborting k).chanOff k else s.aborting k := by
  show (s.aborting k).settleChan k = _
  simp [State.settleChan]

/-! What each command leaves. -/

theorem State.enable_effect : (s.chanCommand k 1).chanState k = .idle ∧ (s.chanCommand k 1).get Reg.chProd k = 0 ∧
    (s.chanCommand k 1).get Reg.chCons k = 0 ∧ (s.chanCommand k 1).get Reg.chReqCount k = 0 := by
  rw [State.chanCommand_enable]
  refine ⟨State.chanState_setChan _ _ _, ?_, ?_, ?_⟩ <;>
    simp (disch := decide) [State.setChan, State.get_set_register]

theorem State.disable_chanState : (s.chanCommand k 2).chanState k =
    if (s.chan k).desc.isNone && (s.chan k).fetching.isNone then .disabled else .stopping := by
  rw [State.chanCommand_disable]
  split <;> simp

theorem State.resume_chanState (h : (s.chan k).desc ≠ none) : (s.chanCommand k 3).chanState k = .running := by
  simp [State.chanCommand_resume, h]

theorem State.skip_chCons : (s.chanCommand k 4).get Reg.chCons k = (s.get Reg.chCons k + 1) % 4294967296 := by
  rw [State.chanCommand_skip, State.get_of_outside (State.fetch_chanNext _ _) _ _ (by decide), State.get_skipped_chCons]

theorem State.abort_chanState : (s.chanCommand k 5).chanState k =
    if (s.chan k).bursts = [] then .disabled else .stopping := by
  rw [State.chanCommand_abort]
  split <;> simp

/-- Each of the five commands stays inside the footprint of the channels. -/
theorem State.chanCommand_changesOnly {n : Nat} (lo : 1 ≤ n) (hi : n ≤ 5) :
    s.changesOnly (s.chanCommand k n) .channels := by
  unfold State.changesOnly
  obtain rfl | rfl | rfl | rfl | rfl : n = 1 ∨ n = 2 ∨ n = 3 ∨ n = 4 ∨ n = 5 := by omega
  · rw [State.chanCommand_enable]
    simp (disch := decide) [State.setChan, State.outside_set, State.outside_setBlob, State.outside_putChan]
  · rw [State.chanCommand_disable]
    exact State.channels_of_fetch (State.outside_ite _ (State.fetch_chanOff s k) (by simp))
  · rw [State.chanCommand_resume]
    exact State.channels_of_fetch (State.outside_ite _ (by simp) (State.fetch_resumed s k))
  · rw [State.chanCommand_skip, State.channels_of_fetch (State.fetch_chanNext _ _), State.channels_skipped]
  · rw [State.chanCommand_abort]
    exact State.channels_of_fetch (State.outside_ite _ (by simp) (State.fetch_aborting s k))

/-- Only a DISABLED channel is enabled (Table 12.10). -/
theorem State.chanLegal_enable (h : s.chanLegal k 1 = true) : s.chanState k = .disabled := by
  unfold State.chanLegal at h
  split at h <;> simp_all

end

/-! ### How a channel command comes -/

/-- `c` is command n of Table 12.10: by the Lexicon it writes n to COMMAND of its channel, and by a channel block it is the
write of n that the posted path takes. -/
structure ChannelCommand (c : ChanVia → Instr) (n : Nat) : Prop where
  bounds : 1 ≤ n ∧ n ≤ 5
  asks (p : Path) (k : Fin 64) :
    requestOf (c (.lexicon p k)) = some ⟨⟨p, Reg.chCommand + 65536 * k, 0xFFFFFFFF, false⟩, .plain, [BitVec.ofNat 8 n]⟩
  acts (v : ChanVia) (s : State) : exec (c v) s = actRom s (fun s => s.chanCall v (c v))
  taken (s : State) (i : Fin 256) (j size : Nat) : s.takeNow (c (.block i j size)) = some (s.blockCommand i j size n)

/-- The five commands with their codes. -/
theorem channelCommand_of_code {c : ChanVia → Instr} {n : Nat}
    (h : (c = .dmaEnable ∧ n = 1) ∨ (c = .dmaDisable ∧ n = 2) ∨ (c = .dmaResume ∧ n = 3) ∨ (c = .dmaSkip ∧ n = 4) ∨
      (c = .dmaAbort ∧ n = 5)) : ChannelCommand c n := by
  obtain ⟨rfl, rfl⟩ | ⟨rfl, rfl⟩ | ⟨rfl, rfl⟩ | ⟨rfl, rfl⟩ | ⟨rfl, rfl⟩ := h <;>
    exact ⟨by decide, fun _ _ => rfl, fun _ _ => rfl, fun _ _ _ _ => rfl⟩

section
variable (s : State)

theorem State.hears_spec (h : s.hears = true) : s.clock.powered = true ∧ s.cutPassed = false ∧ s.image ≠ .sealed := by
  simp only [State.hears, State.awake, Bool.and_eq_true, Bool.not_eq_true'] at h
  obtain ⟨⟨power, _⟩, cut⟩ := h
  refine ⟨power, cut, ?_⟩
  simp only [State.cutPassed, Bool.or_eq_false_iff, beq_eq_false_iff_ne] at cut
  exact cut.2

/-- A write of 1 to 8 bytes to a channel block that decodes, with nothing before it, is taken at once (R171). -/
theorem State.block_taken {c : Instr} {i : Fin 256} {j size : Nat} {t : State} (hears : s.hears = true)
    (decodes : s.decodes i = true) (first : s.host.posted = []) (lo : 0 < size) (hi : size ≤ 8)
    (h : s.takeNow c = some t) :
    actRom s (fun s => s.chanCall (.block i j size) c) = .next (s.after t) := by
  obtain ⟨power, cut, _⟩ := State.hears_spec s hears
  have size_ok : ¬(size = 0 ∨ 8 < size) := by omega
  have e : s.chanCall (.block i j size) c = t := by
    simp [State.chanCall, State.pageCall, size_ok, State.barCall, cut, decodes, State.takeOrWait, State.posted, first, h]
  rw [actRom_powered _ _ power, e, done_spec]

/-- A command by a block acts where it is whole and legal, and is ignored where it is not (R298). -/
theorem State.blockCommand_legal {i j k n : Nat} (unsealed : s.image ≠ .sealed) (h : s.chanOf i j = some k)
    (legal : s.chanLegal k n = true) : s.blockCommand i j 8 n = s.chanCommand k n := by
  simp [State.blockCommand, h, legal, unsealed]

theorem State.blockCommand_ignored {i j size n : Nat}
    (h : s.chanOf i j = none ∨ size ≠ 8 ∨ ∃ k, s.chanOf i j = some k ∧ s.chanLegal k n = false) :
    s.blockCommand i j size n = s.ignoreDoorbell i := by
  unfold State.blockCommand
  cases found : s.chanOf i j with
  | none => rfl
  | some k =>
    have refused : size ≠ 8 ∨ s.chanLegal k n = false := by simpa [found] using h
    obtain whole | legal := refused
    · simp [whole]
    · simp [legal]

/-- What the checks of an allowed write have found (R453), in the state in which it is checked. -/
theorem State.allows_checked {c : Instr} {a : Ask} {o : Obj} {u : Nat} (hr : requestOf c = some a)
    (h : s.allows c = true) (hl : Reg.lookup a.q.index = .entry o u) (acc : o.acc ≠ .ro) :
    (s.taken a.q.path).legalIn o (o.place u a.q.row) (fromLe (a.value.take 8)) = true ∧
      (s.taken a.q.path).writeBusy a.q.signed o.reg (o.place u a.q.row) (fromLe (a.value.take 8)) = false := by
  obtain ⟨_, _, rest⟩ := State.checkValue_ok _ (State.direct_at s hr h hl).1
  exact (rest acc).2

theorem State.legalIn_chCommand (i v : Nat) :
    s.legalIn ⟨Reg.chCommand, 64, 0, .u8, .wo, 0, (.between 1 5), 95, .none⟩ i v =
      (bit 95 s.image.code && s.chanLegal i v) := rfl

theorem State.chanLegal_congr {s t : State} {k : Nat} (h : t.chanState k = s.chanState k) (n : Nat) :
    t.chanLegal k n = s.chanLegal k n := by
  unfold State.chanLegal
  rw [h]

/-- A channel command that the Lexicon allows is legal, takes its effect, and is answered OK. -/
theorem ChannelCommand.by_lexicon {c : ChanVia → Instr} {n : Nat} (hc : ChannelCommand c n) (p : Path) (k : Fin 64)
    (h : s.allows (c (.lexicon p k)) = true) : s.chanLegal k n = true ∧
      exec (c (.lexicon p k)) s = .next (s.after (((s.taken p).chanCommand k n).emit (.lexAnswer p 0 []))) := by
  obtain ⟨lo, hi⟩ := hc.bounds
  have value : fromLe (([BitVec.ofNat 8 n] : List Byte).take 8) = n :=
    (fromLe_le 1 n).trans (Nat.mod_eq_of_lt (by omega))
  have same : (s.taken p).chanState k = s.chanState k :=
    State.chanState_of_outside (State.request_taken s p) (by decide) k
  constructor
  · have legal := (State.allows_checked s (hc.asks p k) h (Reg.lookup_chCommand k) (by decide)).1
    rw [value, State.legalIn_chCommand, Bool.and_eq_true] at legal
    rw [← State.chanLegal_congr same]
    exact legal.2
  · have noConfig : ((s.taken p).chanCommand k n).lexicon.config = none := by
      rw [State.config_of_outside (State.chanCommand_changesOnly _ _ lo hi) (by decide),
        State.config_of_outside (State.request_taken s p) (by decide), (State.allows_powered s h).2]
    rw [hc.acts]
    exact State.direct_ok s (hc.asks p k) h (Reg.lookup_chCommand k) (by rw [State.apply_chCommand, value]; rfl) noConfig

theorem ChannelCommand.by_block {c : ChanVia → Instr} {n : Nat} (hc : ChannelCommand c n) {i : Fin 256} {j size : Nat}
    (hears : s.hears = true) (decodes : s.decodes i = true) (first : s.host.posted = []) (lo : 0 < size) (hi : size ≤ 8) :
    exec (c (.block i j size)) s = .next (s.after (s.blockCommand i j size n)) := by
  rw [hc.acts, State.block_taken s hears decodes first lo hi (hc.taken s i j size)]

end

/-! ### Shadow words (R289) -/

/-- The register of a shadow word. -/
def shadowReg (ctrl : Bool) : Nat := if ctrl then Reg.chCtrlShadow else Reg.chRingShadow

/-- The dictionary entry of a shadow word. -/
def shadowObj (ctrl : Bool) : Obj := ⟨shadowReg ctrl, 64, 0, .u64, .rw, 0, .any, 95, .volatile⟩

theorem Reg.lookup_shadow (ctrl : Bool) (k : Fin 64) : Reg.lookup (shadowReg ctrl + 65536 * k) = .entry (shadowObj ctrl) k := by
  cases ctrl
  · exact Reg.lookup_chRingShadow k
  · exact Reg.lookup_chCtrlShadow k

theorem requestOf_shadowWrite (p : Path) (k : Fin 64) (ctrl : Bool) (x : Nat) :
    requestOf (.shadowWrite (.lexicon p k) ctrl x) =
      some ⟨⟨p, shadowReg ctrl + 65536 * k, 0xFFFFFFFF, false⟩, .plain, le 8 x⟩ := by
  cases ctrl
  · exact congrArg some (Reg.ask_chRingShadow p k (le 8 x) .plain)
  · exact congrArg some (Reg.ask_chCtrlShadow p k (le 8 x) .plain)

section
variable (s : State)

theorem State.apply_shadow (ctrl : Bool) (p : Path) (who : Requester) (x : Extra) (i : Nat) (b : List Byte) :
    s.applyWrite p who x (shadowObj ctrl) i b = (s.shadowWrite i ctrl (fromLe (b.take 8)), .ok) := by
  cases ctrl
  · exact State.apply_chRingShadow s p who x i b
  · exact State.apply_chCtrlShadow s p who x i b

/-- A shadow word is written while the pair is not armed, and by a write of SHADOW_CTRL that clears ARM. -/
theorem State.shadowWrite_takes {k v : Nat} {ctrl : Bool} (unsealed : s.image ≠ .sealed)
    (h : bit (s.get Reg.chCtrlShadow k) 63 = false ∨ (ctrl = true ∧ bit v 63 = false)) :
    s.shadowWrite k ctrl v = s.set (shadowReg ctrl) k (shadowFields ctrl v) := by
  obtain free | ⟨rfl, clears⟩ := h
  · simp [State.shadowWrite, unsealed, free, shadowReg]
  · simp [State.shadowWrite, unsealed, clears, shadowReg]

/-- Any other write of an armed pair is refused. -/
theorem State.shadowWrite_refused {k v : Nat} {ctrl : Bool} (unsealed : s.image ≠ .sealed)
    (armed : bit (s.get Reg.chCtrlShadow k) 63 = true) (h : ctrl = false ∨ bit v 63 = true) :
    s.shadowWrite k ctrl v = (s.bump Reg.chShadowRefused k).raise (s.chanInst k) 0x073 k := by
  have keeps : ∀ armed' : Bool, (armed' && !(ctrl && !(bit v 63))) = armed' := by
    obtain rfl | set := h
    · simp
    · simp [set]
  simp only [State.shadowWrite, if_neg unsealed, keeps, armed, if_true]

/-- No write is legal in a Sealed image where the states of its object leave Sealed out. -/
theorem State.image_of_legalIn {o : Obj} {i v : Nat} (states : bit o.states 5 = false) (h : s.legalIn o i v = true) :
    s.image ≠ .sealed := by
  intro sealed
  have inStates : bit o.states s.image.code = true := by
    unfold State.legalIn at h
    exact (Bool.and_eq_true_iff.mp h).1
  rw [sealed] at inStates
  exact Bool.false_ne_true (states.symm.trans inStates)

/-- An armed pair is engaged for a write of either word (R454). -/
theorem State.unarmed_of_writeBusy {signed ctrl : Bool} {i v : Nat} (h : s.writeBusy signed (shadowReg ctrl) i v = false) :
    bit (s.get Reg.chCtrlShadow i) 63 = false := by
  have word : (shadowReg ctrl == Reg.chRingShadow || shadowReg ctrl == Reg.chCtrlShadow) = true := by cases ctrl <;> rfl
  simp only [State.writeBusy, word, Bool.or_eq_false_iff, Bool.true_and] at h
  exact h.1.1.2

/-- A shadow write that the Lexicon allows finds the pair free, and is answered OK. -/
theorem State.shadowWrite_by_lexicon (p : Path) (k : Fin 64) (ctrl : Bool) (x : Nat)
    (h : s.allows (.shadowWrite (.lexicon p k) ctrl x) = true) :
    exec (.shadowWrite (.lexicon p k) ctrl x) s = .next (s.after
      (((s.taken p).set (shadowReg ctrl) k (shadowFields ctrl (x % 18446744073709551616))).emit (.lexAnswer p 0 []))) := by
  have asks := requestOf_shadowWrite p k ctrl x
  have value : fromLe ((le 8 x).take 8) = x % 18446744073709551616 := by
    rw [List.take_of_length_le (Nat.le_of_eq (le_length 8 x)), fromLe_le 8 x]
    rfl
  obtain ⟨legal, free⟩ := State.allows_checked s asks h (Reg.lookup_shadow ctrl k) (by cases ctrl <;> decide)
  have unsealed : (s.taken p).image ≠ .sealed := State.image_of_legalIn _ (by cases ctrl <;> decide) legal
  have unarmed : bit ((s.taken p).get Reg.chCtrlShadow k) 63 = false := State.unarmed_of_writeBusy _ free
  have noConfig : ((s.taken p).set (shadowReg ctrl) k
      (shadowFields ctrl (x % 18446744073709551616))).lexicon.config = none := by
    rw [State.set_lexicon, State.config_of_outside (State.request_taken s p) (by decide), (State.allows_powered s h).2]
  exact State.direct_ok s asks h (Reg.lookup_shadow ctrl k)
    (by rw [State.apply_shadow, value]; exact congrArg (·, Abort.ok) (State.shadowWrite_takes _ unsealed (.inl unarmed)))
    noConfig

/-- The word that a write of `size` bytes to a channel block leaves to be written: its low bytes are new (log 43). -/
def State.shadowMerged (k size : Nat) (ctrl : Bool) (x : Nat) : Nat :=
  s.get (shadowReg ctrl) k / 256 ^ size * 256 ^ size + x % 256 ^ size

theorem State.blockShadow_found {i j k size : Nat} (ctrl : Bool) (x : Nat) (hi : size ≤ 8) (h : s.chanOf i j = some k) :
    s.blockShadow i j size ctrl x = s.shadowWrite k ctrl (s.shadowMerged k size ctrl x) := by
  simp only [State.blockShadow, h, Nat.min_eq_left hi]
  rfl

theorem State.blockShadow_none {i j size : Nat} (ctrl : Bool) (x : Nat) (h : s.chanOf i j = none) :
    s.blockShadow i j size ctrl x = s.ignoreDoorbell i := by
  simp only [State.blockShadow, h]

theorem State.shadowWrite_by_block {i : Fin 256} {j size : Nat} (ctrl : Bool) (x : Nat) (hears : s.hears = true)
    (decodes : s.decodes i = true) (first : s.host.posted = []) (lo : 0 < size) (hi : size ≤ 8) :
    exec (.shadowWrite (.block i j size) ctrl x) s = .next (s.after (s.blockShadow i j size ctrl x)) :=
  State.block_taken s hears decodes first lo hi rfl

end

/-! ### The obligation -/

/-- What a legal command leaves (Table 12.10), by its code. -/
theorem State.chanCommand_effects (s : State) {k n : Nat} (lo : 1 ≤ n) (hi : n ≤ 5) (legal : s.chanLegal k n = true) :
    (n = 1 → s.chanState k = .disabled ∧ (s.chanCommand k n).chanState k = .idle ∧
      (s.chanCommand k n).get Reg.chProd k = 0 ∧ (s.chanCommand k n).get Reg.chCons k = 0 ∧
      (s.chanCommand k n).get Reg.chReqCount k = 0) ∧
    (n = 2 → (s.chanCommand k n).chanState k =
      (if (s.chan k).desc.isNone && (s.chan k).fetching.isNone then .disabled else .stopping)) ∧
    (n = 3 → (s.chan k).desc ≠ none → (s.chanCommand k n).chanState k = .running) ∧
    (n = 4 → (s.chanCommand k n).get Reg.chCons k = (s.get Reg.chCons k + 1) % 4294967296) ∧
    (n = 5 → (s.chanCommand k n).chanState k = (if (s.chan k).bursts = [] then .disabled else .stopping)) ∧
    s.changesOnly (s.chanCommand k n) Footprint.channels := by
  refine ⟨?_, ?_, ?_, ?_, ?_, State.chanCommand_changesOnly s k lo hi⟩
  · rintro rfl; exact ⟨State.chanLegal_enable s k legal, State.enable_effect s k⟩
  · rintro rfl; exact State.disable_chanState s k
  · rintro rfl; exact State.resume_chanState s k
  · rintro rfl; exact State.skip_chCons s k
  · rintro rfl; exact State.abort_chanState s k

/-- Settles O40: each way in is reduced to one operation of the channel (`chanCommand`, `shadowWrite`), and that operation
is taken apart by its command, with a footprint for what a channel does as it goes on to its next descriptor. -/
theorem channelsAreCommanded : Obligations.ChannelsAreCommanded := by
  unfold Obligations.ChannelsAreCommanded
  constructor
  · intro c n s code
    have hc := channelCommand_of_code code
    obtain ⟨lo, hi⟩ := hc.bounds
    refine ⟨fun p k h => hc.by_lexicon s p k h, ?_, fun k legal => State.chanCommand_effects s lo hi legal⟩
    intro i j size hears decodes first lo hi
    have taken := hc.by_block (j := j) s hears decodes first lo hi
    obtain ⟨_, _, unsealed⟩ := State.hears_spec s hears
    constructor
    · intro ignored
      rw [taken, State.blockCommand_ignored s ignored, State.ignoreDoorbell]
    · rintro k rfl found legal
      rw [taken, State.blockCommand_legal s unsealed found legal]
  · intro ctrl x reg s word
    obtain rfl : reg = shadowReg ctrl := word
    refine ⟨fun p k h => State.shadowWrite_by_lexicon s p k ctrl x h, ?_⟩
    intro i j size hears decodes first lo hi
    have taken := State.shadowWrite_by_block (j := j) s ctrl x hears decodes first lo hi
    obtain ⟨_, _, unsealed⟩ := State.hears_spec s hears
    constructor
    · intro none
      rw [taken, State.blockShadow_none s ctrl x none, State.ignoreDoorbell]
    · intro k y found merged
      obtain rfl : y = s.shadowMerged k size ctrl x := merged
      rw [taken, State.blockShadow_found s ctrl x hi found]
      constructor
      · intro h
        rw [State.shadowWrite_takes s unsealed h]
      · intro armed h
        rw [State.shadowWrite_refused s unsealed armed h]

end Sys2Proof.Machine

namespace Sys2Proof.Machine

/-! ### A command while the firmware runs -/

section
variable (s : State)

theorem act_of_awake (f : State → State) (h : s.awake = true) : act s f = .next (s.after (f s)) := by
  simp only [State.awake, Bool.and_eq_true, Bool.not_eq_true'] at h
  exact act_awake s f h.1 h.2

theorem actItem_of_awake (k : Nat) (f : State → State) (h : s.awake = true) :
    actItem k s f = .next (s.after (if s.itemHeld k then s else f s)) := act_of_awake s _ h

end

/-! ### What a link sends (R342, R344, R372) -/

section
variable (s : State) (u : Nat)

theorem State.link_of_outside {s t : State} {f : Footprint} (h : t.outside f = s.outside f) (n : Part.links ∉ f.parts)
    (u : Nat) : t.link u = s.link u := by
  rw [State.link, State.links_of_outside h n, State.link]

@[simp] theorem State.link_set (r i v : Nat) : (s.set r i v).link u = s.link u := rfl

/-- What a unit on the lines of a link may change: the running disparities, and what has left. -/
def Footprint.line : Footprint := ⟨[], [.line, .outbox]⟩

theorem State.line_lineGap (l : List Nat) : (s.lineGap l).outside .line = s.outside .line :=
  State.outside_each _ _ _ _ (fun _ _ => rfl)

theorem State.line_transmit (l : List (Nat × List (Bool × Nat))) : (s.transmit u l).outside .line = s.outside .line := by
  unfold State.transmit
  rw [State.outside_emit _ _ _ (by decide)]
  exact State.outside_each _ _ _ _ (fun _ _ => rfl)

theorem State.line_sendLine (b : List Byte) : (s.sendLine u b).outside .line = s.outside .line := by
  rw [State.sendLine, State.line_transmit, State.outside_emit _ _ _ (by decide)]

/-- What a flow unit that leaves may change. -/
def Footprint.flowUnit : Footprint := Footprint.line.plus [Reg.fusSent] [.links]

theorem State.flowUnit_of_line {s t : State} (h : t.outside .line = s.outside .line) :
    t.outside .flowUnit = s.outside .flowUnit := State.outside_mono (by decide) (by decide) h

theorem State.flowUnit_sendFu (type vc : Nat) (p : List Byte) (n : Nat) :
    (s.sendFu u type vc p n).outside .flowUnit = s.outside .flowUnit := by
  unfold State.sendFu
  dsimp only
  rw [State.outside_bump _ _ _ _ _ (by decide), State.outside_modLink _ _ _ _ (by decide),
    State.flowUnit_of_line (State.line_sendLine _ _ _)]

theorem State.link_sendFu (type vc : Nat) (p : List Byte) (n : Nat) :
    (s.sendFu u type vc p n).link u = { s.link u with fcNext := (s.link u).fcNext + 1 } := by
  unfold State.sendFu
  dsimp only
  rw [State.bump_eq, State.link_set, State.link_modLink_same,
    State.link_of_outside (State.line_sendLine _ _ _) (by decide)]

/-- The NAK of a link on its line, before it is counted. -/
def State.nakUnit : State := (s.lineGap (s.selectedLanes u)).sendFu u 1 0 (zeros 64) (s.link u).nextSent

theorem State.sendNak_eq : s.sendNak u =
    ((s.nakUnit u).modLink u (fun l => { l with nakAt := (s.nakUnit u).clauseNow })).bump Reg.naksSent u := by
  simp only [State.sendNak, State.nakUnit]

theorem State.flowUnit_nakUnit : (s.nakUnit u).outside .flowUnit = s.outside .flowUnit := by
  rw [State.nakUnit, State.flowUnit_sendFu, State.flowUnit_of_line (State.line_lineGap _ _)]

theorem State.clauseNow_of_outside {s t : State} {f : Footprint} (h : t.outside f = s.outside f)
    (n : Part.clock ∉ f.parts) : t.clauseNow = s.clauseNow := by
  rw [State.clauseNow, State.clock_of_outside h n, State.clauseNow]

theorem State.link_sendNak : (s.sendNak u).link u =
    { s.link u with fcNext := (s.link u).fcNext + 1, nakAt := s.clauseNow } := by
  rw [State.sendNak_eq, State.bump_eq, State.link_set, State.link_modLink_same,
    State.clauseNow_of_outside (State.flowUnit_nakUnit _ _) (by decide), State.nakUnit, State.link_sendFu,
    State.link_of_outside (State.line_lineGap _ _) (by decide)]

/-- A counter that stands equally counts up equally. -/
theorem State.get_bump_congr {s t : State} {r i : Nat} (h : t.get r i = s.get r i) :
    (t.bump r i).get r i = (s.bump r i).get r i := by
  rw [State.bump_eq, State.bump_eq, State.get_set_same, State.get_set_same, h]

theorem State.naksSent_sendNak : (s.sendNak u).get Reg.naksSent u = (s.bump Reg.naksSent u).get Reg.naksSent u := by
  rw [State.sendNak_eq]
  exact State.get_bump_congr ((State.modLink_get _ _ _ _ _).trans
    (State.get_of_outside (State.flowUnit_nakUnit _ _) _ _ (by decide)))

/-- What a NAK may change. -/
def Footprint.nak : Footprint := Footprint.flowUnit.plus [Reg.naksSent] []

theorem State.nak_sendNak : (s.sendNak u).outside .nak = s.outside .nak := by
  rw [State.sendNak_eq, State.outside_bump _ _ _ _ _ (by decide), State.outside_modLink _ _ _ _ (by decide)]
  exact State.outside_mono (by decide) (by decide) (State.flowUnit_nakUnit s u)

theorem State.nak_enterWait : (s.enterWait u).outside .nak = s.outside .nak := by
  rw [State.enterWait, State.nak_sendNak, State.outside_modLink _ _ _ _ (by decide)]

theorem State.link_enterWait : (s.enterWait u).link u =
    { s.link u with waiting := true, dup := 0, fcNext := (s.link u).fcNext + 1, nakAt := s.clauseNow } := by
  rw [State.enterWait, State.link_sendNak, State.link_modLink_same]
  rfl

theorem State.naksSent_enterWait :
    (s.enterWait u).get Reg.naksSent u = (s.bump Reg.naksSent u).get Reg.naksSent u :=
  (State.naksSent_sendNak _ _).trans (State.get_bump_congr (State.modLink_get _ _ _ _ _))

end

/-! ### What every way through an update keeps -/

theorem State.keeps_ite {β : Type} (φ : State → β) {p : Prop} [Decidable p] {x y : State} {b : β} (hx : φ x = b)
    (hy : φ y = b) : φ (if p then x else y) = b := by
  split
  · exact hx
  · exact hy

/-- What every step of a fold keeps, the fold keeps. -/
theorem State.keeps_each {α β : Type} (φ : State → β) (s : State) (l : List α) (g : State → α → State)
    (h : ∀ (s : State) (a : α), φ (g s a) = φ s) : φ (s.each l g) = φ s := by
  induction l generalizing s with
  | nil => rfl
  | cons a l ih => rw [State.each_cons, ih, h]

/-! ### A flow unit that fails its check (R341) -/

section
variable (s : State) (u : Nat)

/-- What the count of CRC errors may change, with the source that it raises or withdraws. -/
def Footprint.crcCount : Footprint := Footprint.event.plus [Reg.crcErrors] [.links]

theorem State.crcCount_of_event {s t : State} (h : t.outside .event = s.outside .event) :
    t.outside .crcCount = s.outside .crcCount := State.outside_mono (by decide) (by decide) h

/-- A flow unit that failed its check is counted in its second. -/
def State.crcTallied : State :=
  ((s.crcRoll u).bump Reg.crcErrors u).modLink u (fun l => { l with crcCount := l.crcCount + 1 })

/-- A flow unit that failed its check is counted, before the receiver asks for a replay: the first above the limit of its
second raises 0x0A2. -/
def State.crcCounted : State :=
  if ((s.crcTallied u).link u).crcCount = (s.crcTallied u).get Reg.crcErrorLimit u + 1 then
    (s.crcTallied u).raise 0 0x0A2 u
  else s.crcTallied u

theorem State.crcFails_eq : s.crcFails u = (s.crcCounted u).enterWait u := rfl

/-- The roll of the second touches the link and the events only. -/
theorem State.outside_crcRoll : (s.crcRoll u).outside (Footprint.event.plus [] [.links]) =
    s.outside (Footprint.event.plus [] [.links]) := by
  unfold State.crcRoll
  refine State.outside_ite _ rfl (State.outside_ite _ ?_ ?_)
  · rw [State.outside_mono (by decide) (by decide) (State.event_withdrawUnit _ _ _ _),
      State.outside_modLink _ _ _ _ (by decide)]
  · rw [State.outside_modLink _ _ _ _ (by decide)]

theorem State.e_crcRoll : ((s.crcRoll u).link u).e = (s.link u).e := by
  unfold State.crcRoll
  refine State.keeps_ite (fun s => (s.link u).e) rfl (State.keeps_ite (fun s => (s.link u).e) ?_ ?_)
  · rw [State.link_of_outside (State.event_withdrawUnit _ _ _ _) (by decide), State.link_modLink_same]
  · rw [State.link_modLink_same]

theorem State.crcCount_crcTallied : (s.crcTallied u).outside .crcCount = s.outside .crcCount := by
  rw [State.crcTallied, State.outside_modLink _ _ _ _ (by decide), State.outside_bump _ _ _ _ _ (by decide)]
  exact State.outside_mono (by decide) (by decide) (State.outside_crcRoll s u)

theorem State.e_crcTallied : ((s.crcTallied u).link u).e = (s.link u).e := by
  rw [State.crcTallied, State.link_modLink_same, State.bump_eq, State.link_set, State.e_crcRoll]

theorem State.crcErrors_crcTallied :
    (s.crcTallied u).get Reg.crcErrors u = (s.bump Reg.crcErrors u).get Reg.crcErrors u :=
  (State.modLink_get _ _ _ _ _).trans
    (State.get_bump_congr (State.get_of_outside (State.outside_crcRoll s u) _ _ (by decide)))

/-- The source that is raised with a count touches the events only. -/
theorem State.event_crcCounted : (s.crcCounted u).outside .event = (s.crcTallied u).outside .event :=
  State.outside_ite _ (State.event_raise _ _ _ _) rfl

theorem State.crcCount_crcCounted : (s.crcCounted u).outside .crcCount = s.outside .crcCount := by
  rw [State.crcCount_of_event (State.event_crcCounted s u), State.crcCount_crcTallied]

/-- A flow unit that fails its check is counted, the receiver waits, E stands, and a NAK leaves. -/
theorem State.crcFails_effect :
    (s.crcFails u).get Reg.crcErrors u = (s.bump Reg.crcErrors u).get Reg.crcErrors u ∧
    ((s.crcFails u).link u).waiting = true ∧ ((s.crcFails u).link u).dup = 0 ∧
    ((s.crcFails u).link u).nakAt = s.clauseNow ∧ ((s.crcFails u).link u).e = (s.link u).e ∧
    (s.crcFails u).get Reg.naksSent u = (s.bump Reg.naksSent u).get Reg.naksSent u := by
  have counted := State.crcCount_crcCounted s u
  rw [State.crcFails_eq, State.link_enterWait, State.naksSent_enterWait]
  refine ⟨?_, rfl, rfl, State.clauseNow_of_outside counted (by decide), ?_,
    State.get_bump_congr (State.get_of_outside counted _ _ (by decide))⟩
  · rw [State.get_of_outside (State.nak_enterWait _ _) _ _ (by decide),
      State.get_of_outside (State.event_crcCounted s u) _ _ (by decide), State.crcErrors_crcTallied]
  · rw [State.link_of_outside (State.event_crcCounted s u) (by decide), State.e_crcTallied]

theorem State.crcFails_changesOnly : s.changesOnly (s.crcFails u)
    (Footprint.event.plus [Reg.crcErrors, Reg.fusSent, Reg.naksSent] [.links, .line]) := by
  rw [State.crcFails_eq]
  exact .trans (State.outside_mono (by decide) (by decide) (State.crcCount_crcCounted s u))
    (State.outside_mono (by decide) (by decide) (State.nak_enterWait _ u))

end

/-! ### The next expected sequence (R341) -/

section
variable (s : State) (u : Nat)

theorem State.link_carrierProtocol (c : Nat) : (s.carrierProtocol c).link u = s.link u := by
  rw [State.carrierProtocol, State.link_of_outside (State.event_raise _ _ _ _) (by decide), State.bump_eq, State.link_set]

theorem State.e_renewXoff : ((s.renewXoff u).link u).e = (s.link u).e := by
  rw [State.renewXoff, State.link_modLink_same]

theorem State.e_deliver (vc : Nat) (blocks : List (List Byte)) (ms : List Msg) :
    ((s.deliver u vc blocks ms).link u).e = (s.link u).e := by
  induction ms generalizing s blocks with
  | nil => rfl
  | cons m r ih =>
    rw [State.deliver, ih, State.link_modLink_same]
    split
    · split
      · rfl
      · rw [State.link_carrierProtocol]
    · rfl

theorem State.e_dropRefused : ((s.dropRefused u).link u).e = (s.link u).e :=
  State.keeps_each (fun s => (s.link u).e) _ _ _ (fun s m => by rw [State.link_modLink_same])

theorem State.e_groupEnds : ((s.groupEnds u).link u).e = (s.link u).e := by
  unfold State.groupEnds
  split
  · rfl
  · split
    · rfl
    · dsimp only
      rw [State.e_dropRefused]
      split
      · rw [State.link_modLink_same, State.link_modLink_same]
      · rw [State.e_deliver, State.link_modLink_same]

/-- A HEADER or DATA unit that is accepted advances E by one. -/
theorem State.e_acceptFu {type vc : Nat} {p : List Byte} {y : State} (h : s.acceptFu u type vc p = some y) :
    (y.link u).e = ((s.link u).e + 1) % 4096 := by
  unfold State.acceptFu at h
  dsimp only at h
  split at h
  · cases h
  · split at h <;> split at h
    · cases h
    · cases h
      rw [State.e_renewXoff, State.e_groupEnds, State.link_modLink_same, State.link_modLink_same]
    · cases h
    · cases h
      rw [State.e_renewXoff, State.e_groupEnds, State.link_modLink_same, State.link_modLink_same]

theorem State.e_ackTo (a : Nat) : ((s.ackTo u a).link u).e = (s.link u).e := by
  unfold State.ackTo
  dsimp only
  split
  · rfl
  · rw [State.link_modLink_same]

theorem State.e_useControl {control : Nat} {x : State} (h : s.useControl u control = some x) :
    (x.link u).e = (s.link u).e := by
  unfold State.useControl at h
  dsimp only at h
  split at h
  · cases h
  · split at h
    · split at h <;> cases h
      rw [State.link_modLink_same, State.e_ackTo]
    · cases h
      rw [State.link_modLink_same, State.e_ackTo]

end

/-! ### A flow unit that arrives (R341, R345, R347) -/

section
variable (s : State) (u : Nat)

/-- Link u takes what arrives: it is UP or PAUSED, and does not exchange RESUME. -/
def State.takesFus : Bool := (s.linkState u == .up || s.linkState u == .paused) && !(s.link u).resuming

/-- A flow unit fails the check of link u: a code error, a wrong length, or a CRC that is not that of its sequence
(R338). -/
def State.fuFails (fu : List Byte) (codeError : Bool) : Bool :=
  codeError || fu.length != 72 ||
    field fu 68 4 != fuCrc (((s.link u).e + 4096 - (s.link u).dup) % 4096) (slice fu 0 68)

/-- What the acknowledgement that took s to x tells a partner link of RMAP (R140). -/
def State.mapsAcked (x z : State) : State :=
  if u < 16 then z else z.mapsTaken
    (((s.link u).sent.take ((s.link u).sent.length - (x.link u).sent.length)).flatMap (·.msgs))

/-- A flow unit reaches the use of its CONTROL word. -/
structure State.FuPasses (fu : List Byte) (codeError : Bool) : Prop where
  takes : s.takesFus u = true
  ready : (s.link u).waiting = false
  checked : s.fuFails u fu codeError = false

/-- The TYPE of a flow unit's CONTROL word (Table 14.2). -/
def fuType (fu : List Byte) : Nat := bits (field fu 64 4) 19 16

/-- A flow unit passes its check, and its CONTROL word, of a legal TYPE, takes the link to x. -/
structure State.FuUsed (fu : List Byte) (codeError : Bool) (x : State) : Prop extends State.FuPasses s u fu codeError where
  legal : fuType fu < 4
  used : (s.bump Reg.fusReceived u).useControl u (field fu 64 4) = some x

variable {s u}
variable {fu : List Byte} {codeError : Bool} {x : State}

/-- A link takes nothing, as the model tests it for a marker. -/
theorem State.not_takesFus : (!(s.linkState u == .up || s.linkState u == .paused) || (s.link u).resuming) =
    !(s.takesFus u) := by
  rw [State.takesFus, Bool.not_and, Bool.not_not]

/-- A link takes nothing or waits, as the model tests it for a flow unit. -/
theorem State.deaf_eq : (!(s.linkState u == .up || s.linkState u == .paused) || (s.link u).waiting ||
    (s.link u).resuming) = (!(s.takesFus u) || (s.link u).waiting) := by
  rw [Bool.or_right_comm, State.not_takesFus]

theorem State.not_deaf (takes : s.takesFus u = true) (ready : (s.link u).waiting = false) :
    (!(s.linkState u == .up || s.linkState u == .paused) || (s.link u).waiting || (s.link u).resuming) = false := by
  rw [State.deaf_eq, takes, ready]
  rfl

theorem State.receiveFu_deaf (h : s.takesFus u = false ∨ (s.link u).waiting = true) : s.receiveFu u fu codeError = s := by
  have deaf : (!(s.takesFus u) || (s.link u).waiting) = true := by simpa using h
  simp only [State.receiveFu, State.deaf_eq, deaf, if_true]

theorem State.receiveFu_fails (takes : s.takesFus u = true) (ready : (s.link u).waiting = false)
    (h : s.fuFails u fu codeError = true) : s.receiveFu u fu codeError = s.crcFails u := by
  unfold State.fuFails at h
  simp only [State.receiveFu, State.not_deaf takes ready, h, Bool.false_eq_true, if_false, if_true]

theorem State.FuPasses.guards (h : s.FuPasses u fu codeError) :
    (!(s.linkState u == .up || s.linkState u == .paused) || (s.link u).waiting || (s.link u).resuming) = false ∧
    (codeError || fu.length != 72 ||
      field fu 68 4 != fuCrc (((s.link u).e + 4096 - (s.link u).dup) % 4096) (slice fu 0 68)) = false :=
  ⟨State.not_deaf h.takes h.ready, h.checked⟩

/-- A CONTROL word that is not legal takes the link down (R342, R363). -/
theorem State.FuPasses.illegal (h : s.FuPasses u fu codeError)
    (bad : 4 ≤ fuType fu ∨ (s.bump Reg.fusReceived u).useControl u (field fu 64 4) = none) :
    s.receiveFu u fu codeError = (s.bump Reg.fusReceived u).linkProtocol u := by
  obtain ⟨hears, checks⟩ := h.guards
  unfold fuType at bad
  simp only [State.receiveFu, hears, checks, Bool.false_eq_true, if_false]
  split
  · rfl
  · obtain high | none := bad
    · contradiction
    · simp only [none]

/-- A unit without data only has its CONTROL word used. -/
theorem State.FuUsed.idle (h : s.FuUsed u fu codeError x) (type : fuType fu = 0) :
    s.receiveFu u fu codeError = ((s.mapsAcked u x x).pump u).pauseTry u := by
  obtain ⟨hears, checks⟩ := h.guards
  unfold fuType at type
  simp only [State.receiveFu, hears, checks, type, h.used, State.mapsAcked, Bool.false_eq_true, if_false]
  rfl

/-- A NAK has what it names replayed, unless a replay waits already (R345). -/
theorem State.FuUsed.nak (h : s.FuUsed u fu codeError x) (type : fuType fu = 1) {y : State}
    (hy : y = (s.mapsAcked u x x).bump Reg.linkNaksReceived u) :
    s.receiveFu u fu codeError = ((if (y.link u).replayDue.isSome then y
      else y.replayNow u (bits (field fu 64 4) 31 20) false).pump u).pauseTry u := by
  obtain ⟨hears, checks⟩ := h.guards
  unfold fuType at type
  subst hy
  simp only [State.receiveFu, hears, checks, type, h.used, State.mapsAcked, Bool.false_eq_true, if_false]
  rfl

/-- A HEADER or DATA unit is dropped or accepted, and what cannot be accepted takes the link down. -/
theorem State.FuUsed.data (h : s.FuUsed u fu codeError x) (type : 2 ≤ fuType fu) {r : Option State}
    (hr : r = if 0 < (s.link u).dup then some (x.modLink u (fun l => { l with dup := l.dup - 1 }))
      else x.acceptFu u (fuType fu) (bits (field fu 64 4) 15 13) (slice fu 0 64)) :
    s.receiveFu u fu codeError =
      r.elim (x.linkProtocol u) (fun y => ((s.mapsAcked u x y).pump u).pauseTry u) := by
  obtain ⟨hears, checks⟩ := h.guards
  have legal := h.legal
  have carries : (fuType fu == 2 || fuType fu == 3) = true := by
    simp only [Bool.or_eq_true, beq_iff_eq]
    omega
  have notNak : fuType fu ≠ 1 := by omega
  unfold fuType at carries legal notNak hr
  simp only [State.receiveFu, hears, checks, h.used, carries, if_neg (Nat.not_le.mpr legal), if_neg notNak, ← hr,
    Bool.not_true, Bool.false_eq_true, if_false]
  cases r with
  | none => rw [Option.elim_none]
  | some y => rw [Option.elim_some, State.mapsAcked]

/-- A unit of a replay that has been accepted before is dropped (R347). -/
theorem State.FuUsed.duplicate (h : s.FuUsed u fu codeError x) (type : 2 ≤ fuType fu) (dup : 0 < (s.link u).dup) :
    s.receiveFu u fu codeError =
      ((s.mapsAcked u x (x.modLink u (fun l => { l with dup := l.dup - 1 }))).pump u).pauseTry u :=
  (h.data type (if_pos dup).symm).trans (Option.elim_some _ _ _)

section
variable (h : s.FuUsed u fu codeError x) (type : 2 ≤ fuType fu) (first : (s.link u).dup = 0)
include h type first

/-- A unit that breaks the form of the stream takes the link down (R337, R363). -/
theorem State.FuUsed.broken (bad : x.acceptFu u (fuType fu) (bits (field fu 64 4) 15 13) (slice fu 0 64) = none) :
    s.receiveFu u fu codeError = x.linkProtocol u := by
  rw [h.data type (r := none) (by rw [if_neg (by omega), bad]), Option.elim_none]

/-- A unit in sequence is accepted (R341). -/
theorem State.FuUsed.accepted {y : State}
    (good : x.acceptFu u (fuType fu) (bits (field fu 64 4) 15 13) (slice fu 0 64) = some y) :
    (y.link u).e = ((s.link u).e + 1) % 4096 ∧
      s.receiveFu u fu codeError = ((s.mapsAcked u x y).pump u).pauseTry u := by
  constructor
  · rw [State.e_acceptFu x u good, State.e_useControl _ u h.used, State.bump_eq, State.link_set]
  · rw [h.data type (r := some y) (by rw [if_neg (by omega), good]), Option.elim_some]

end

end

/-! ### A replay marker (R347), and a NAK that is repeated (R344) -/

section
variable {s : State} {u m d : Nat}

theorem State.gotMarker_deaf (h : s.takesFus u = false) : s.gotMarker u m = s := by
  simp only [State.gotMarker, State.not_takesFus, h, Bool.not_false, if_true]

theorem State.gotMarker_takes (takes : s.takesFus u = true) (hd : d = ((s.link u).e + 4096 - m % 4096) % 4096) :
    s.gotMarker u m = if d ≤ 1024 then s.modLink u (fun l => { l with waiting := false, dup := d })
      else if (s.link u).waiting then s else s.enterWait u := by
  subst hd
  simp only [State.gotMarker, State.not_takesFus, takes, Bool.not_true, Bool.false_eq_true, if_false]

end

section
variable {s : State} {u : Fin 18}

/-- The receiver of link u asks for its replay again at this boundary. -/
def State.nakDue (s : State) (u : Nat) : Bool :=
  s.takesFus u && (s.link u).waiting && decide ((s.link u).nakAt + 4 ≤ s.clauseNow)

theorem State.nakDue_iff : s.nakDue u = true ↔
    s.takesFus u = true ∧ (s.link u).waiting = true ∧ (s.link u).nakAt + 4 ≤ s.clauseNow := by
  simp only [State.nakDue, Bool.and_eq_true, decide_eq_true_eq, and_assoc]

theorem State.exec_nakRepeat_awake (awake : s.awake = true) : exec (.nakRepeat u) s =
    .next (s.after (if s.itemHeld 11 then s else if s.nakDue u then s.sendNak u else s)) := by
  rw [exec_nakRepeat, execNakRepeat, actItem_of_awake s _ _ awake, State.nakDue, State.takesFus,
    Bool.and_right_comm (s.linkState u == .up || s.linkState u == .paused)]

end

/-! ### The obligation -/

/-- Settles O44: a flow unit, a marker and a NAK that is repeated are each taken through the cases of the one operation
behind them (`receiveFu`, `gotMarker`, `sendNak`); what a NAK may change is said once. -/
theorem flowUnitsAreReceived : Obligations.FlowUnitsAreReceived := by
  unfold Obligations.FlowUnitsAreReceived
  intro u s listens awake hl
  obtain rfl : listens = s.takesFus u := hl
  refine ⟨?_, ?_, ?_, ?_⟩
  · intro c fu e w v control type hc hv hw hcontrol htype
    obtain rfl : w = s.fuFails u fu e := hw
    subst hv hcontrol
    obtain rfl : type = fuType fu := htype
    have receives : exec c s = .next (s.after (s.receiveFu u fu e)) := by
      obtain rfl | rfl := hc
      · exact (exec_fuReceive s u fu e).trans (act_of_awake s _ awake)
      · exact (exec_nakFu s u fu e).trans (act_of_awake s _ awake)
    rw [receives]
    refine ⟨fun deaf => by rw [State.receiveFu_deaf deaf], ?_, ?_⟩
    · intro takes ready fails
      rw [State.receiveFu_fails takes ready fails]
      obtain ⟨crc, waits, dup, asked, expects, naks⟩ := State.crcFails_effect s u
      refine ⟨s.after (s.crcFails u), rfl, ?_⟩
      simp only [State.after_get, State.after_link]
      exact ⟨crc, waits, dup, asked, expects, naks, State.changesOnly_after _ _ (State.crcFails_changesOnly s u)⟩
    · intro takes ready checked
      have passes : s.FuPasses u fu e := ⟨takes, ready, checked⟩
      refine ⟨fun bad => by rw [passes.illegal bad], ?_⟩
      intro x maps legal hx hmaps
      obtain rfl : maps = s.mapsAcked u x := hmaps
      have used : s.FuUsed u fu e x := ⟨passes, legal, hx⟩
      refine ⟨fun type => by rw [used.idle type], fun y type hy => by rw [used.nak type hy],
        fun type dup => by rw [used.duplicate type dup], fun type first => ?_⟩
      refine ⟨fun bad => by rw [used.broken type first bad], ?_⟩
      intro y good
      obtain ⟨advances, next⟩ := used.accepted type first good
      exact ⟨advances, by rw [next]⟩
  · intro m d hd
    have takesMarker : exec (.replayMarker u m) s = .next (s.after (s.gotMarker u m)) :=
      (exec_replayMarker s u m).trans (act_of_awake s _ awake)
    rw [takesMarker]
    refine ⟨fun deaf => by rw [State.gotMarker_deaf deaf], ?_, ?_, ?_⟩
    · intro takes near
      rw [State.gotMarker_takes takes hd, if_pos near]
    · intro takes far waits
      rw [State.gotMarker_takes takes hd, if_neg (by omega), if_pos waits]
    · intro takes far ready
      rw [State.gotMarker_takes takes hd, if_neg (by omega), ready]
      rfl
  · intro takes waits time runs
    simp only [State.exec_nakRepeat_awake awake, State.nakDue_iff.mpr ⟨takes, waits, time⟩, runs, Bool.false_eq_true,
      if_false, if_true]
  · intro stays
    have silent : s.itemHeld 11 = true ∨ ¬s.nakDue u = true := by
      rw [State.nakDue_iff]
      obtain deaf | ready | early | held := stays
      · simp [deaf]
      · simp [ready]
      · simp [early]
      · exact .inl held
    rw [State.exec_nakRepeat_awake awake]
    obtain held | early := silent
    · rw [if_pos held]
    · rw [if_neg early, ite_self]

end Sys2Proof.Machine

namespace Sys2Proof.Machine

/-! ### How a request that a command brings ends (R453) -/

section
variable (s : State)

/-- A write that passes its checks leaves what its result settles to, and a SIGNED_CONFIG that it begins runs. -/
theorem State.direct_settles {c : Instr} {a : Ask} {o : Obj} {u : Nat} (hr : requestOf c = some a)
    (h : s.allows c = true) (hl : Reg.lookup a.q.index = .entry o u) :
    actRom s (fun s => s.direct c) = .next (s.after (State.settle ((s.taken a.q.path).applyWrite a.q.path
      (.direct a.q.path) a.extra o (o.place u a.q.row) a.value) (.direct a.q.path)).runConfig) := by
  rw [actRom_powered _ _ (State.allows_powered s h).1, done_spec, (State.direct_at s hr h hl).2]

/-- No SIGNED_CONFIG is under way where a request is checked. -/
theorem State.config_taken {c : Instr} (p : Path) (h : s.allows c = true) : (s.taken p).lexicon.config = none := by
  rw [State.config_of_outside (State.request_taken s p) (by decide), (State.allows_powered s h).2]

/-- A result other than OK, and other than one that comes later, is counted and answered with its code. -/
theorem State.settle_refused (p : Path) {a : Abort} (ok : a ≠ .ok) (later : a ≠ .later) :
    State.settle (s, a) (.direct p) = (s.bump Reg.lexAborts).emit (.lexAnswer p a.code []) := by
  have answered : State.settle (s, a) (.direct p) = s.answer (.direct p) a := by
    cases a
    case later => exact absurd rfl later
    all_goals rfl
  rw [answered, State.answer, if_neg ok]

/-- With no SIGNED_CONFIG under way, what an OK and what a refusal settle to. -/
theorem State.settle_ok_run (p : Path) (idle : s.lexicon.config = none) :
    (State.settle (s, .ok) (.direct p)).runConfig = s.emit (.lexAnswer p 0 []) :=
  State.runConfig_none _ idle

theorem State.settle_refused_run (p : Path) {a : Abort} (ok : a ≠ .ok) (later : a ≠ .later)
    (idle : s.lexicon.config = none) :
    (State.settle (s, a) (.direct p)).runConfig = (s.bump Reg.lexAborts).emit (.lexAnswer p a.code []) := by
  rw [State.settle_refused s p ok later]
  exact State.runConfig_none _ idle

end

/-! ### What leaves a SIGNED_CONFIG as it is, under way or not -/

@[simp] theorem State.config_raise (s : State) (i n u : Nat) : (s.raise i n u).lexicon.config = s.lexicon.config :=
  State.config_of_outside (State.event_raise s i n u) (by decide)

/-! ### The store of the security engine (R456, R457) -/

section
variable (s : State)

/-- What a store of the present values may change. -/
def Footprint.store : Footprint := Footprint.event.plus
  [Reg.setCopy, Reg.setGeneration, Reg.keepRewrites, Reg.keepEccCorrected] [.keep, .draws]

theorem State.store_of_event {s t : State} (h : t.outside .event = s.outside .event) :
    t.outside .store = s.outside .store := State.outside_mono (by decide) (by decide) h

theorem State.store_storeSet (n : Nat) (failed : Bool) : (s.storeSet n failed).1.outside .store = s.outside .store := by
  have reads : ((s.bump Reg.keepRewrites 0 n).keepRead).outside .store = s.outside .store := by
    rw [State.keepRead, State.outside_drawn _ _ (by decide), State.outside_bump _ _ _ _ _ (by decide),
      State.outside_bump _ _ _ _ _ (by decide)]
  unfold State.storeSet
  dsimp only
  split
  · rw [State.store_of_event (State.event_raise _ _ _ _), State.outside_modKeep _ _ _ (by decide), reads]
  · rw [State.store_of_event (State.event_withdraw _ _ _), State.store_of_event (State.event_withdraw _ _ _),
      State.outside_set _ _ _ _ _ (by decide), State.outside_set _ _ _ _ _ (by decide),
      State.outside_modKeep _ _ _ (by decide), reads]

@[simp] theorem State.config_storeOwn : s.storeOwn.lexicon.config = s.lexicon.config :=
  State.config_of_outside (State.store_storeSet s 0 false) (by decide)

end

/-! ### The image discarded by a manufacturing release (R435) -/

section
variable (s : State)

/-- What discarding the image may change: its banks, its contexts with their pendings, its Semicolon and its restart. -/
def Footprint.discard : Footprint := Footprint.event.plus
  [Reg.imageState, Reg.ctxDurable, Reg.ctxTail, Reg.ctxHead, Reg.ctxRingBase, Reg.ctxRingSize, Reg.ctxState, Reg.ctxPolicy,
    Reg.ctxNotify, Reg.ctxError, Reg.ctxCoalCount, Reg.ctxCoalTime, Reg.ctxQueue, Reg.ctxUserTag, Reg.appendContextsOpen,
    Reg.appendPending, Reg.instPending, Reg.restoreHeldBytes, Reg.govDirty, Reg.ckptPersisted]
  [.keep, .append, .persist, .restore, .blobs]

theorem State.discard_loadNoContexts : (s.loadContexts []).outside .discard = s.outside .discard := by
  unfold State.loadContexts
  dsimp only
  rw [State.each_nil, State.outside_each, State.outside_set _ _ _ _ _ (by decide), State.outside_modAppend _ _ _ (by decide),
    State.outside_set _ _ _ _ _ (by decide), State.outside_clearRegs _ _ _ (by decide)]
  intro s i
  rw [State.countPending, State.outside_set _ _ _ _ _ (by decide), State.outside_set _ _ _ _ _ (by decide)]

theorem State.discard_countHeld : s.countHeld.outside .discard = s.outside .discard :=
  State.outside_ite _ rfl (State.outside_set _ _ _ _ _ (by decide))

theorem State.discard_restore (r : Restore) : ({ s with restore := r } : State).outside .discard = s.outside .discard := rfl

theorem State.discard_discardImage : s.discardImage.outside .discard = s.outside .discard := by
  unfold State.discardImage
  dsimp only
  rw [State.outside_each, State.discard_countHeld, State.discard_restore, State.outside_modPersist _ _ _ (by decide),
    State.discard_loadNoContexts, State.outside_modKeep _ _ _ (by decide)]
  intro s c
  rw [State.outside_set _ _ _ _ _ (by decide), State.outside_set _ _ _ _ _ (by decide)]

theorem State.discard_setImage (v : ImageState) : (s.setImage v).outside .discard = s.outside .discard := by
  obtain changed | ⟨_, same⟩ := State.setImage_outside s v
  · exact (State.outside_mono (by decide) (by decide) changed).trans (State.outside_set _ _ _ _ _ (by decide))
  · rw [same]

theorem State.discard_mfgRelease : s.mfgRelease.outside .discard = s.outside .discard := by
  have discarded : (s.discardImage.setBlob Reg.imageId 0 (zeros 16)).outside .discard = s.outside .discard := by
    rw [State.outside_setBlob _ _ _ _ _ (by decide), State.discard_discardImage]
  unfold State.mfgRelease
  exact State.outside_ite _ ((State.discard_setImage _ _).trans discarded) discarded

@[simp] theorem State.config_mfgRelease : s.mfgRelease.lexicon.config = s.lexicon.config :=
  State.config_of_outside (State.discard_mfgRelease s) (by decide)

end

/-! ### A statement (R427, R435 to R437, R444) -/

section
variable (s : State) (p : Path) (st : Statement)

/-- The state in which a valid statement has its effect: its counter is the last, but for a DEBUG_UNLOCK (R437). -/
def State.counted : State := if st.kind = 6 then s else s.modKeep (fun k => { k with counter := st.counter })

@[simp] theorem State.config_counted : (s.counted st).lexicon.config = s.lexicon.config := by
  unfold State.counted
  split <;> rfl

/-! The checks in their order (log 34). -/

theorem State.statement_state (h : bit (statementStates st) s.image.code = false) :
    s.statement p (.direct p) st = (s, .state) := by
  simp [State.statement, h]

section
variable (states : bit (statementStates st) s.image.code = true)
include states

theorem State.statement_busy (h : st.kind = 4 ∧ st.signer = .manufacturing ∧ s.keep.job ≠ none) :
    s.statement p (.direct p) st = (s, .busy) := by
  rw [← Option.isSome_iff_ne_none] at h
  simp [State.statement, states, h]

variable (free : ¬(st.kind = 4 ∧ st.signer = .manufacturing ∧ s.keep.job ≠ none))
include free

theorem State.statement_invalid (h : s.statementValid st = false) :
    s.statement p (.direct p) st = ((s.bump Reg.verifyFailures).raise 0 0x0F2 0, .signature) := by
  rw [← Option.isSome_iff_ne_none] at free
  simp only [State.statement, states, if_neg free, h]
  rfl

theorem State.statement_unfit (valid : s.statementValid st = true) (h : statementFits st = false) :
    s.statement p (.direct p) st = (if st.kind = 6 then s.counted st else (s.counted st).storeOwn, .range) := by
  rw [← Option.isSome_iff_ne_none] at free
  simp only [State.statement, states, if_neg free, valid, h]
  rfl

theorem State.statement_applies (valid : s.statementValid st = true) (h : statementFits st = true) :
    s.statement p (.direct p) st = (s.counted st).statementApplies p (.direct p) st := by
  rw [← Option.isSome_iff_ne_none] at free
  simp only [State.statement, states, if_neg free, valid, h]
  rfl

end

/-- What holds of a valid statement: it verifies, and is newer than the last, or answers the open challenge. -/
theorem State.statementValid_spec (h : s.statementValid st = true) : st.formOk = true ∧ st.serialOk = true ∧
    st.sigOk = true ∧ (st.kind ≠ 6 → s.keep.counter < st.counter) ∧
    (st.kind = 6 → s.security.challenge = some (field st.body 0 32)) := by
  simp only [State.statementValid, Bool.and_eq_true] at h
  obtain ⟨⟨⟨⟨form, serial⟩, sig⟩, _⟩, fresh⟩ := h
  refine ⟨form, serial, sig, fun other => ?_, fun unlock => ?_⟩
  · simpa [other] using fresh
  · simpa [unlock] using fresh

/-! The effect of each KIND (Table 17.6). -/

section
variable {st}

theorem State.statementApplies_replace (h : st.kind = 3) :
    s.statementApplies p (.direct p) st = ((s.takeOwner st.body).storeOwn, .ok) := by
  simp only [State.statementApplies, h]

theorem State.statementApplies_release (h : st.kind = 4) : s.statementApplies p (.direct p) st =
    ((if st.signer = .manufacturing then s.mfgRelease.dropOwner else s.dropOwner).storeOwn, .ok) := by
  simp only [State.statementApplies, h]

theorem State.statementApplies_config (h : st.kind = 5) : s.statementApplies p (.direct p) st =
    (s.storeOwn.modLexicon (fun l => { l with config := some (p, .direct p, st.body, 0) }), .later) := by
  simp only [State.statementApplies, h]

/-- The debug level of a DEBUG_UNLOCK; level 2 ends a report in progress (log 104). -/
def State.unlocked (level : Nat) : State :=
  ({ s with security := { s.security with attest := if level = 2 then none else s.security.attest } }.set Reg.debugState 0
    level).raise 0 0x0F3 0

theorem State.statementApplies_unlock (h : st.kind = 6) :
    s.statementApplies p (.direct p) st = (s.unlocked (field st.body 32 1), .ok) := by
  have report : (if statementLevel st = 2 then s.modSecurity (fun x => { x with attest := none }) else s) =
      { s with security := { s.security with attest := if statementLevel st = 2 then none else s.security.attest } } := by
    split <;> rfl
  simp only [State.statementApplies, h, report]
  rfl

end

@[simp] theorem State.config_unlocked (level : Nat) : (s.unlocked level).lexicon.config = s.lexicon.config := by
  rw [State.unlocked, State.config_raise, State.set_lexicon]

theorem State.config_released :
    (if st.signer = .manufacturing then s.mfgRelease.dropOwner else s.dropOwner).lexicon.config = s.lexicon.config := by
  split
  · exact State.config_mfgRelease s
  · rfl

end

section
variable (s : State) {c : Instr} {p : Path} {st : Statement}
  (hc : c = .ownerReplace p st ∨ c = .ownerRelease p st ∨ c = .signedConfig p st ∨ c = .debugUnlock p st)
  (h : s.allows c = true)
include hc h

/-- The commands that carry a statement are each its write to OWNER_STATEMENT. -/
theorem exec_statement : exec c s = .next (s.after
      (State.settle ((s.taken p).statement p (.direct p) st) (.direct p)).runConfig) := by
  have written : requestOf c = some ⟨⟨p, Reg.ownerStatement, 0xFFFFFFFF, false⟩, .statement st,
      zeros (1376 + st.body.length)⟩ ∧ exec c s = actRom s (fun s => s.direct c) := by
    obtain rfl | rfl | rfl | rfl := hc <;> exact ⟨rfl, rfl⟩
  obtain ⟨asks, acts⟩ := written
  rw [acts, State.direct_settles s asks h Reg.lookup_ownerStatement, State.apply_ownerStatement]

theorem exec_statement_refused {t : State} {a : Abort} (result : (s.taken p).statement p (.direct p) st = (t, a))
    (ok : a ≠ .ok) (later : a ≠ .later) (idle : t.lexicon.config = none) :
    exec c s = .next (s.after ((t.bump Reg.lexAborts).emit (.lexAnswer p a.code []))) := by
  rw [exec_statement s hc h, result, State.settle_refused_run t p ok later idle]

theorem exec_statement_ok {t : State} (result : (s.taken p).statement p (.direct p) st = (t, .ok))
    (idle : t.lexicon.config = none) : exec c s = .next (s.after (t.emit (.lexAnswer p 0 []))) := by
  rw [exec_statement s hc h, result, State.settle_ok_run t p idle]

end

/-! ### The obligation -/

section
variable (s : State)

theorem requestOf_ownerKeyEnrol (p : Path) (key : List Byte) : requestOf (.ownerKeyEnrol p key) =
    some ⟨⟨p, Reg.ownerKey, 0xFFFFFFFF, false⟩, .plain, key⟩ := congrArg some (Reg.ask_ownerKey p 0 key .plain)

theorem requestOf_configLockWrite (p : Path) (on : Bool) : requestOf (.configLockWrite p on) =
    some ⟨⟨p, Reg.configLock, 0xFFFFFFFF, false⟩, .plain, le 1 (b2n on)⟩ :=
  congrArg some (Reg.ask_configLock p 0 (le 1 (b2n on)) .plain)

theorem State.ownerState_of_enrol {p : Path} {key : List Byte} (h : s.allows (.ownerKeyEnrol p key) = true) :
    key.length = 1793 ∧ s.get Reg.ownerState = 0 := by
  have checked := (State.direct_at s (requestOf_ownerKeyEnrol p key) h Reg.lookup_ownerKey).1
  obtain ⟨length, guard, _⟩ := State.checkValue_ok _ checked
  have whole : (key.length == 1793) = true := length
  have unowned := (Bool.or_eq_false_iff.mp guard).2
  rw [State.get_taken s p _ _ (by decide)] at unowned
  exact ⟨by simpa using whole, by simpa using unowned⟩

theorem State.ownerState_of_lock {p : Path} {on : Bool} (h : s.allows (.configLockWrite p on) = true) :
    s.get Reg.ownerState = 1 := by
  have legal := (State.allows_checked s (requestOf_configLockWrite p on) h
    Reg.lookup_configLock (by decide)).1
  have owned : (bit 95 (s.taken p).image.code && (s.taken p).get Reg.ownerState == 1) = true := legal
  rw [State.get_taken s p _ _ (by decide)] at owned
  simpa using (Bool.and_eq_true_iff.mp owned).2

theorem exec_ownerKeyEnrol_allowed {p : Path} {key : List Byte} (h : s.allows (.ownerKeyEnrol p key) = true) :
    exec (.ownerKeyEnrol p key) s = .next (s.after (((s.taken p).takeOwner key).storeOwn.emit (.lexAnswer p 0 []))) :=
  State.direct_ok s (requestOf_ownerKeyEnrol p key) h Reg.lookup_ownerKey
    (State.apply_ownerKey _ _ _ _ _ _) ((State.config_storeOwn _).trans (State.config_taken s p h))

theorem exec_configLockWrite_allowed {p : Path} {on : Bool} (h : s.allows (.configLockWrite p on) = true) :
    exec (.configLockWrite p on) s = .next (s.after
      (((s.taken p).set Reg.configLock 0 (b2n on)).storeOwn.emit (.lexAnswer p 0 []))) := by
  have value : fromLe ((le 1 (b2n on)).take 8) = b2n on := by cases on <;> rfl
  exact State.direct_ok s (requestOf_configLockWrite p on) h Reg.lookup_configLock
    (by rw [State.apply_configLock, value]) ((State.config_storeOwn _).trans (State.config_taken s p h))

end

/-- Settles O54: the four commands of a statement are one write (`exec_statement`), taken through the checks in their order
and then by KIND; a store and a discarded image leave no SIGNED_CONFIG under way. -/
theorem theOwnerDecides : Obligations.TheOwnerDecides := by
  unfold Obligations.TheOwnerDecides
  intro p s u hu
  subst hu
  refine ⟨fun key h => ?_, fun c st v hc h hv => ?_,
    fun on h => ⟨State.ownerState_of_lock s h, exec_configLockWrite_allowed s h⟩⟩
  · obtain ⟨length, unowned⟩ := State.ownerState_of_enrol s h
    exact ⟨length, unowned, exec_ownerKeyEnrol_allowed s h⟩
  · obtain rfl : v = (s.taken p).counted st := hv
    have idle : (s.taken p).lexicon.config = none := State.config_taken s p h
    have counted : ((s.taken p).counted st).lexicon.config = none := (State.config_counted _ st).trans idle
    have stored := (State.config_storeOwn _).trans counted
    have keep : (s.taken p).keep = s.keep := State.keep_of_outside (State.request_taken s p) (by decide)
    have image : (s.taken p).image = s.image := by
      rw [State.image, State.get_taken s p _ _ (by decide), State.image]
    rw [← image, ← keep]
    refine ⟨fun states => ?_, fun states busy => ?_, fun states free => ⟨fun invalid => ?_, fun valid => ?_⟩⟩
    · exact exec_statement_refused s hc h (a := .state) (State.statement_state _ p st states) (by decide) (by decide) idle
    · exact exec_statement_refused s hc h (a := .busy) (State.statement_busy _ p st states busy) (by decide) (by decide) idle
    · exact exec_statement_refused s hc h (a := .signature) (State.statement_invalid _ p st states free invalid)
        (by decide) (by decide) ((State.config_raise _ 0 0x0F2 0).trans idle)
    · obtain ⟨form, serial, sig, newer, challenge⟩ := State.statementValid_spec _ st valid
      refine ⟨form, serial, sig, newer, challenge, fun unfit => ?_, fun fits => ?_⟩
      · exact exec_statement_refused s hc h (a := .range) (State.statement_unfit _ p st states free valid unfit)
          (by decide) (by decide) (by split <;> assumption)
      · have applies := State.statement_applies _ p st states free valid fits
        refine ⟨fun kind => ?_, fun kind => ?_, fun kind => ?_, fun kind => ?_⟩
        · exact exec_statement_ok s hc h (applies.trans (State.statementApplies_replace _ p kind))
            ((State.config_storeOwn _).trans counted)
        · exact exec_statement_ok s hc h (applies.trans (State.statementApplies_release _ p kind))
            ((State.config_storeOwn _).trans ((State.config_released _ st).trans counted))
        · rw [exec_statement s hc h, applies, State.statementApplies_config _ p kind]
          rfl
        · rw [exec_statement_ok s hc h (applies.trans (State.statementApplies_unlock _ p kind))
            ((State.config_unlocked _ _).trans counted)]
          rfl

end Sys2Proof.Machine

namespace Sys2Proof.Machine

/-! ### A report that is asked for (R443) -/

section
variable (s : State)

/-- The function that a report names: the VF that asked, and otherwise the PF. -/
def attestedInstance (p : Path) : Nat := match p with | .hostVf i => i.val | _ => 0

/-- A report under way whose statement is put together now, or, with a bank write in progress, with its signature. -/
def State.reporting (p : Path) (nonce : List Byte) : State :=
  { s with security := { s.security with attest := some ⟨p, nonce,
      if s.keep.job = none then some (s.attestation (attestedInstance p) nonce) else none⟩ } }

theorem State.attestBegins_reporting (p : Path) (nonce : List Byte) :
    (s.modSecurity (fun x => { x with attest := some ⟨p, nonce, none⟩ })).attestBegins = s.reporting p nonce := by
  unfold State.reporting
  cases job : s.keep.job with
  | none =>
    simp only [State.attestBegins, State.modSecurity_security, State.modSecurity_keep, job]
    rfl
  | some j =>
    simp only [State.attestBegins, State.modSecurity_security, State.modSecurity_keep, job]
    rfl

theorem State.attestStart_locked (p : Path) (nonce : List Byte) (h : s.get Reg.debugState = 2) :
    s.attestStart p nonce = (s, .locked) := if_pos h

section
variable (p : Path) (nonce : List Byte) (enabled : s.get Reg.debugState ≠ 2)
include enabled

theorem State.attestStart_busy (h : s.security.attest ≠ none) : s.attestStart p nonce = (s, .busy) := by
  rw [State.attestStart, if_neg enabled, if_pos (Option.isSome_iff_ne_none.mpr h)]

theorem State.attestStart_starts (h : s.security.attest = none) :
    s.attestStart p nonce = ((s.bump Reg.attestCount).reporting p nonce, .ok) := by
  rw [State.attestStart, if_neg enabled, h, ← State.attestBegins_reporting]
  rfl

end

theorem requestOf_attestNonce (p : Path) (nonce : List Byte) : requestOf (.attestNonce p nonce) =
    some ⟨⟨p, Reg.attestNonce, 0xFFFFFFFF, false⟩, .plain, nonce⟩ := congrArg some (Reg.ask_attestNonce p 0 nonce .plain)

section
variable {p : Path} {nonce : List Byte} (h : s.allows (.attestNonce p nonce) = true)
include h

theorem State.nonce_length : nonce.length = 32 := by
  have checked := (State.direct_at s (requestOf_attestNonce p nonce) h Reg.lookup_attestNonce).1
  have whole : (nonce.length == 32) = true := (State.checkValue_ok _ checked).1
  simpa using whole

theorem exec_attestNonce_allowed : exec (.attestNonce p nonce) s = .next (s.after
    (State.settle ((s.taken p).attestStart p nonce) (.direct p)).runConfig) := by
  rw [exec_attestNonce, execAttestNonce, State.direct_settles s (requestOf_attestNonce p nonce) h Reg.lookup_attestNonce,
    State.apply_attestNonce]

end

end

/-! ### A report that is signed (R443), and the seal behind it (R425) -/

section
variable (s : State)

/-- The VF that may read a report: none for a path that is no VF's. -/
def reportReader (p : Path) : Option Nat := match p with | .hostVf i => some i.val | _ => none

theorem State.attestEnds_unsigned (h : s.attestSigns = false) : s.attestEnds = s := by
  unfold State.attestSigns at h
  unfold State.attestEnds
  split
  next found => simp [found] at h
  next => rfl

section
variable {s} {p : Path} {n b : List Byte} (h : s.security.attest = some ⟨p, n, some b⟩)
include h

/-- What a report that ends leaves: itself with its signature, and the path that may read it. -/
theorem State.attestEnds_signed : s.attestEnds =
    ((s.setBlob Reg.attestReport 0 (b ++ le 1280 (Config.signature b))).bump Reg.signatures).modSecurity
      (fun x => { x with attest := none, reportFor := reportReader p }) := by
  simp only [State.attestEnds, h]
  rfl

theorem State.security_attestEnds : s.attestEnds.security =
    { s.security with attest := none, reportFor := reportReader p } := by
  rw [State.attestEnds_signed h]
  rfl

theorem State.config_attestEnds : s.attestEnds.lexicon.config = s.lexicon.config := by
  rw [State.attestEnds_signed h]
  rfl

theorem State.report_attestEnds : s.attestEnds.blob Reg.attestReport = b ++ le 1280 (Config.signature b) := by
  rw [State.attestEnds_signed h]
  exact State.blob_setBlob_same _ _ _ _

theorem State.signatures_attestEnds : s.attestEnds.get Reg.signatures = (s.bump Reg.signatures).get Reg.signatures := by
  rw [State.attestEnds_signed h, State.modSecurity_get]
  exact State.get_bump_congr rfl

theorem State.attestSigns_attestEnds : s.attestEnds.attestSigns = false := by
  rw [State.attestSigns, State.security_attestEnds h]
  rfl

theorem State.attestEnds_changesOnly :
    s.changesOnly s.attestEnds (Footprint.none.plus [Reg.signatures] [.blobs, .security]) := by
  rw [State.attestEnds_signed h, State.changesOnly, State.outside_modSecurity _ _ _ (by decide),
    State.outside_bump _ _ _ _ _ (by decide), State.outside_setBlob _ _ _ _ _ (by decide)]

/-- A seal that waits follows the report, and no further report is being signed then. -/
theorem State.signed_sealWaits {c r : Nat} {f : Bool} (waits : s.security.sealWaits = some (c, r, f)) :
    s.signed = (s.attestEnds.modSecurity (fun x => { x with sealWaits := none })).sealReady c r f := by
  have waiting : s.attestEnds.security.sealWaits = some (c, r, f) := by rw [State.security_attestEnds h, waits]
  simp only [State.signed, waiting, State.attestSigns_attestEnds h, Bool.false_eq_true, if_false]

theorem State.signed_alone (alone : s.security.sealWaits = none) : s.signed = s.attestEnds := by
  have waiting : s.attestEnds.security.sealWaits = none := by rw [State.security_attestEnds h, alone]
  simp only [State.signed, waiting]

end

theorem State.signed_idle (idle : s.attestSigns = false) (alone : s.security.sealWaits = none) : s.signed = s := by
  simp only [State.signed, State.attestEnds_unsigned s idle, alone]

theorem exec_attestSigned_awake (awake : s.awake = true) :
    exec .attestSigned s = .next (s.after s.signed.runConfig) :=
  (exec_attestSigned s).trans (act_of_awake s _ awake)

theorem exec_testModeInput_awake (high : Bool) (awake : s.awake = true) : exec (.testModeInput high) s = .next (s.after
    (if high = true ∧ s.get Reg.debugState ≠ 2 ∧ s.security.testSeen = false then
      (s.raise 0 0x0F4 0).modSecurity (fun x => { x with testSeen := true }) else s)) :=
  (exec_testModeInput s high).trans (act_of_awake s _ awake)

end

/-! ### The challenge, and the lock of debug (R444) -/

set_option maxRecDepth 8000 in
theorem Reg.lookup_debugChallenge : Reg.lookup Reg.debugChallenge =
    .entry ⟨Reg.debugChallenge, 0, 0, .blob 32, .ro, 0, .any, 127, .none⟩ 0 := rfl

section
variable (s : State)

/-- A new challenge: drawn, and in place of the one before. -/
def State.challenged : State := s.drawChallenge.1.setBlob Reg.debugChallenge 0 s.drawChallenge.2

theorem State.challenge_challenged : s.challenged.security.challenge = some (Config.challenge s.draws % 2 ^ 256) :=
  congrArg some (fromLe_le 32 (Config.challenge s.draws))

theorem State.challenged_changesOnly :
    s.changesOnly s.challenged (Footprint.request.plus [] [.security, .draws, .blobs]) := by
  rw [State.challenged, State.drawChallenge, State.changesOnly, State.outside_setBlob _ _ _ _ _ (by decide),
    State.outside_modSecurity _ _ _ (by decide), State.outside_drawn _ _ (by decide)]

section
variable {s} {p : Path}

theorem State.challengeRead_refused {a : Abort}
    (h : s.countRequest.target ⟨p, Reg.debugChallenge, 0xFFFFFFFF, false⟩ false = .refused a) (ok : a ≠ .ok) :
    s.challengeRead p = (s.countRequest.bump Reg.lexAborts).emit (.lexAnswer p a.code []) := by
  simp only [State.challengeRead, State.readEntry, h, State.answer, if_neg ok]

theorem State.challengeRead_answered {o : Obj} {i : Nat}
    (h : s.countRequest.target ⟨p, Reg.debugChallenge, 0xFFFFFFFF, false⟩ false = .place o i) :
    s.challengeRead p = s.countRequest.challenged.emit (.lexAnswer p 0 (le 32 (Config.challenge s.draws))) := by
  obtain ⟨u, found, _⟩ := State.target_place _ h
  have reg : o.reg = Reg.debugChallenge := by
    have entry : Found.entry o u = .entry ⟨Reg.debugChallenge, 0, 0, .blob 32, .ro, 0, .any, 127, .none⟩ 0 :=
      found.symm.trans Reg.lookup_debugChallenge
    cases entry
    rfl
  simp only [State.challengeRead, State.readEntry, h, reg]
  rfl

theorem exec_debugChallengeRead_served (powered : s.clock.powered = true) (serves : s.serves p = true) :
    exec (.debugChallengeRead p) s = .next (s.after ((s.reached p).challengeRead p)) := by
  rw [exec_debugChallengeRead, execDebugChallengeRead, actRom_powered _ _ powered, done_spec, State.lexCall_serves _ _ _ _ serves]

end

theorem requestOf_debugLock (p : Path) (v : Nat) : requestOf (.debugLock p v) =
    some ⟨⟨p, Reg.debugState, 0xFFFFFFFF, false⟩, .plain, le 1 v⟩ := congrArg some (Reg.ask_debugState p 0 (le 1 v) .plain)

theorem exec_debugLock_allowed {p : Path} {v : Nat} (h : s.allows (.debugLock p v) = true) :
    exec (.debugLock p v) s = .next (s.after ((s.taken p).debugLocks.emit (.lexAnswer p 0 []))) := by
  have idle : (s.taken p).debugLocks.lexicon.config = none := by
    rw [State.debugLocks, State.config_of_outside (State.event_withdraw _ _ _) (by decide)]
    exact State.config_taken s p h
  exact State.direct_ok s (requestOf_debugLock p v) h Reg.lookup_debugState (State.apply_debugState _ _ _ _ _ _) idle

end

/-! ### The obligation -/

/-- Settles O55: what a report that begins, a report that ends, a challenge and the lock each leave is said once, and each
clause is the case of the command that asks for it. -/
theorem theChipAttests : Obligations.TheChipAttests := by
  unfold Obligations.TheChipAttests
  intro p s u hu
  subst hu
  refine ⟨fun nonce h => ?_, fun awake => ?_, fun a powered serves ok refused => ?_, fun i v powered serves found => ?_,
    fun v h => exec_debugLock_allowed s h⟩
  · have idle : (s.taken p).lexicon.config = none := State.config_taken s p h
    have debug : (s.taken p).get Reg.debugState = s.get Reg.debugState := State.get_taken s p _ _ (by decide)
    have keep : (s.taken p).keep = s.keep := State.keep_of_outside (State.request_taken s p) (by decide)
    have security : (s.taken p).security = s.security :=
      State.security_of_outside (State.request_taken s p) (by decide)
    rw [← debug, ← keep, ← security, exec_attestNonce_allowed s h]
    refine ⟨State.nonce_length s h, fun locked => ?_, fun enabled busy => ?_, ?_⟩
    · rw [State.attestStart_locked _ p nonce locked, State.settle_refused_run _ p (by decide) (by decide) idle]
      rfl
    · rw [State.attestStart_busy _ p nonce enabled busy, State.settle_refused_run _ p (by decide) (by decide) idle]
      rfl
    · intro v inst body enabled free hv hinst hbody
      subst hv hbody
      obtain rfl : inst = attestedInstance p := hinst
      rw [State.attestStart_starts _ p nonce enabled free,
        State.settle_ok_run (((s.taken p).bump Reg.attestCount).reporting p nonce) p idle]
      rfl
  · refine ⟨fun unsigned alone idle => ?_, fun n b c r f signed waits idle => ?_, fun n b signed alone idle => ?_,
      fun high raises => ?_, fun high ignored => ?_⟩
    · rw [exec_attestSigned_awake s awake, State.signed_idle s unsigned alone, State.runConfig_none s idle]
    · rw [exec_attestSigned_awake s awake, State.signed_sealWaits signed waits]
    · rw [exec_attestSigned_awake s awake, State.signed_alone signed alone,
        State.runConfig_none _ ((State.config_attestEnds signed).trans idle)]
      refine ⟨_, rfl, ?_⟩
      rw [State.after_security, State.security_attestEnds signed, State.after_blob, State.after_get]
      exact ⟨rfl, State.report_attestEnds signed, rfl, State.signatures_attestEnds signed,
        State.changesOnly_after _ _ (State.attestEnds_changesOnly signed)⟩
    · rw [exec_testModeInput_awake s high awake, if_pos raises]
    · rw [exec_testModeInput_awake s high awake, if_neg]
      rintro ⟨up, other, first⟩
      obtain low | level | seen := ignored
      · exact Bool.false_ne_true (low.symm.trans up)
      · exact other level
      · exact Bool.false_ne_true (first.symm.trans seen)
  · rw [exec_debugChallengeRead_served powered serves, State.challengeRead_refused refused ok]
    rfl
  · have draws : (s.taken p).draws = s.draws := State.draws_of_outside (State.request_taken s p) (by decide)
    rw [exec_debugChallengeRead_served powered serves, State.challengeRead_answered found, ← draws]
    refine ⟨_, rfl, State.challenge_challenged (s.taken p), List.getLast?_concat, rfl, ?_⟩
    have taken : s.changesOnly (s.taken p) (Footprint.request.plus [] [.security, .draws, .blobs]) :=
      State.changesOnly.mono (State.request_taken s p) (by decide) (by decide)
    exact State.changesOnly_after _ _ ((taken.trans (State.challenged_changesOnly _)).trans
      (State.outside_emit _ _ _ (by decide)))

end Sys2Proof.Machine

namespace Sys2Proof.Machine

/-! ### The block as a whole -/

/-- An answer of the block: the queue stands, and the balls are those that the state left drives. -/
theorem State.after_answers (s t : State) : (s.after t).pending = s.pending ∧ (s.after t).pins = pinsOf (s.after t) :=
  ⟨rfl, rfl⟩

/-- Every command answers a state that has passed `State.after`. -/
theorem exec_after (c : Instr) (s : State) : ∃ t, exec c s = .next (s.after t) := by
  by_cases release : ∃ b h, c = .powerOnReset b h
  · obtain ⟨b, h, rfl⟩ := release
    exact ⟨s.coldStart b.val (!h), rfl⟩
  · obtain ⟨f, hf⟩ := exec_rom s c (fun b h e => release ⟨b, h, e⟩)
    exact ⟨_, hf⟩

/-- A step answers a next state, whatever waits. -/
theorem step_next (s : State) : ∃ t, step s = .next t := by
  cases h : s.pending with
  | nil => exact ⟨s, by simp [step, h]⟩
  | cons c rest =>
    obtain ⟨t, ht⟩ := exec_after c { s with pending := rest }
    exact ⟨_, by simpa [step, h] using ht⟩

theorem State.safe_all (s : State) : s.safe := by
  intro n
  induction n generalizing s with
  | zero => exact ⟨s, rfl⟩
  | succ n ih =>
    obtain ⟨t, ht⟩ := step_next s
    obtain ⟨u, hu⟩ := ih t
    refine ⟨u, ?_⟩
    have run : Sys2Proof.core.step s = .next t := ht
    simp only [Host.Core.run, run]
    exact hu

/-- Settles O1: both are the two branches of the step. -/
theorem stepTakesTheFront : Obligations.StepTakesTheFront := by
  unfold Obligations.StepTakesTheFront
  exact ⟨fun c rest s => rfl, fun s h => by simp [step, h]⟩

/-- Settles O2: every command passes `State.after`, and so no step stops. -/
theorem everyCommandAnswers : Obligations.EveryCommandAnswers := by
  unfold Obligations.EveryCommandAnswers
  refine ⟨fun c s => ?_, State.safe_all⟩
  obtain ⟨t, ht⟩ := exec_after c s
  exact ⟨s.after t, ht, State.after_answers s t⟩

/-- Settles O4: at reset the balls are computed once, both ways. -/
theorem ballsFollowAtReset : Obligations.BallsFollowAtReset := by
  unfold Obligations.BallsFollowAtReset
  decide

/-- Settles O5: `actRom` and `act` are the two gates, and every command but the release of POR_N is behind one. -/
theorem porAndRecoveryHoldTheBlock : Obligations.PorAndRecoveryHoldTheBlock := by
  unfold Obligations.PorAndRecoveryHoldTheBlock
  refine ⟨fun c s low other => ?_, fun c s recovery firmware => ?_⟩
  · obtain ⟨f, hf⟩ := exec_rom s c other
    rw [hf, actRom_unpowered s f low, done_spec]
  · obtain ⟨f, hf⟩ := exec_act s c firmware
    rw [hf, act_recovery s f recovery, done_spec]

end Sys2Proof.Machine

namespace Sys2Proof.Machine

theorem State.fresh_congr {s t : State} (keep : s.keep = t.keep) (pending : s.pending = t.pending)
    (draws : s.draws = t.draws) (outbox : s.outbox = t.outbox) (powered : Bool) : s.fresh powered = t.fresh powered := by
  simp only [State.fresh, keep, pending, draws, outbox]

theorem State.after_congr {s t : State} (pending : s.pending = t.pending) (u : State) : s.after u = t.after u := by
  simp only [State.after, pending]

/-- Settles O7: both resets start from `State.fresh`, which reads nothing but what stands. -/
theorem porClearsTheBlock : Obligations.PorClearsTheBlock := by
  unfold Obligations.PorClearsTheBlock
  refine ⟨fun b h s t keep pending draws outbox => ?_, fun s powered => ?_⟩
  · simp only [exec_powerOnReset, execPowerOnReset, done_spec, State.coldStart,
      State.fresh_congr keep pending draws outbox, State.after_congr pending]
  · rw [exec_porNAssert, execPorNAssert, actRom_powered s _ powered, done_spec]
    rfl

/-- The state that the release of POR_N finds in a new part, PERST_N as it stands. -/
def State.newPart (perstLow : Bool) : State :=
  { State.reset with regs := [], events := Events.reset, host := { HostPort.reset with perstLow := perstLow } }

theorem State.coldStart_newPart (s : State) (b : Nat) (perstLow : Bool) (keep : s.keep = Keep.blank)
    (pending : s.pending = []) (draws : s.draws = 0) (outbox : s.outbox = []) :
    s.coldStart b perstLow = (State.newPart perstLow).boot b false := by
  simp only [State.coldStart, State.fresh, keep, pending, draws, outbox]
  rfl

/-- A new part once the ROM has read BOOT_SEL. -/
def State.rom (perstLow : Bool) (b : Nat) : State :=
  { State.newPart perstLow with security := { Security.reset with bootSel := b } }

/-- The Keep store of a new part has been read, v of its words corrected by ECC. -/
def State.romRead (perstLow : Bool) (b v : Nat) : State :=
  { State.rom perstLow b with regs := [(Reg.key Reg.keepEccCorrected 0, v)], draws := 1 }

/-- A new part that runs, v words of its Keep store corrected: source 0x0FA is pending, all else is at reset. -/
def State.newPartRuns (perstLow : Bool) (b v : Nat) : State :=
  { State.romRead perstLow b v with
    events := State.reset.events, regs := Tbl.put State.reset.regs (Reg.key Reg.keepEccCorrected 0) v }

section
variable (p : Bool) (b v : Nat)

theorem newPart_firmware (h : b < 2) : (State.newPart p).boot b false = (State.rom p b).firmwareStarts 0 0 false := by
  obtain rfl | rfl : b = 0 ∨ b = 1 := by omega
  · rfl
  · rfl

theorem rom_activeSlot : (State.rom p b).put Reg.fwActiveSlot 0 0 = State.rom p b := if_pos rfl

theorem rom_verifyFailures : (State.rom p b).put Reg.verifyFailures 0 0 = State.rom p b := if_pos rfl

theorem rom_keepRead : ∃ v, (State.rom p b).keepRead = State.romRead p b v ∧
    State.keepRead { State.reset with
      host := { HostPort.reset with perstLow := p }
      security := { Security.reset with bootSel := b } } = State.newPartRuns p b v := ⟨_, rfl, rfl⟩

theorem romRead_bestCopy : (State.romRead p b v).bestCopy = none := rfl

theorem romRead_loadOwner :
    ((State.romRead p b v).modKeep (fun k => { k with counter := 0, preferred := 0 })).loadOwner ⟨false, 0, []⟩ =
      State.romRead p b v := rfl

theorem romRead_raise : (State.romRead p b v).raise 0 0x0FA 0 = State.newPartRuns p b v := rfl

theorem newPartRuns_adoptAll : (State.newPartRuns p b v).adoptAll = State.newPartRuns p b v := rfl

theorem newPartRuns_loadBars : (State.newPartRuns p b v).loadBars = State.newPartRuns p b v := rfl

theorem newPartRuns_subsystem : (State.newPartRuns p b v).modHost (fun h => { h with
    subVendor := (State.newPartRuns p b v).get Reg.hostSubsysVendor
    subId := (State.newPartRuns p b v).get Reg.hostSubsysId }) = State.newPartRuns p b v := rfl

theorem newPartRuns_unsealed : (State.newPartRuns p b v).keep.sealedAtPower = false := rfl

/-- A new part has no stored set: its load reads the Keep store, and raises source 0x0FA (R458). -/
theorem rom_loadSet : ∃ v, (State.rom p b).loadSet = State.newPartRuns p b v ∧
    State.keepRead { State.reset with
      host := { HostPort.reset with perstLow := p }
      security := { Security.reset with bootSel := b } } = State.newPartRuns p b v := by
  obtain ⟨v, read, runs⟩ := rom_keepRead p b
  refine ⟨v, ?_, runs⟩
  simp only [State.loadSet, read, romRead_bestCopy, romRead_loadOwner, romRead_raise]

theorem newPart_boots (h : b < 2) : (State.newPart p).boot b false = State.keepRead { State.reset with
    host := { HostPort.reset with perstLow := p }
    security := { Security.reset with bootSel := b } } := by
  obtain ⟨v, load, runs⟩ := rom_loadSet p b
  rw [newPart_firmware p b h, runs]
  simp only [State.firmwareStarts, rom_activeSlot, rom_verifyFailures, load, newPartRuns_adoptAll,
    newPartRuns_loadBars, newPartRuns_subsystem, newPartRuns_unsealed, if_true, Bool.false_eq_true, if_false]

end

theorem newPart_recovers (perstLow : Bool) (b : Fin 4) (h : 2 ≤ b.val) : (State.newPart perstLow).boot b.val false =
    { State.reset with
      regs := [], events := Events.reset
      host := { HostPort.reset with perstLow := perstLow }
      security := { Security.reset with bootSel := b.val, recovery := true } } := by
  obtain ⟨b, hb⟩ := b
  obtain rfl | rfl : b = 2 ∨ b = 3 := by simp at h; omega
  · rfl
  · rfl

/-- Settles O8: a new part comes from one state, whose boot the two lemmas above follow. -/
theorem newPartBoots : Obligations.NewPartBoots := by
  unfold Obligations.NewPartBoots
  intro h s keep pending draws outbox
  refine ⟨fun b low => ?_, fun b high => ?_⟩ <;>
    rw [exec_powerOnReset, execPowerOnReset, done_spec, State.coldStart_newPart s _ _ keep pending draws outbox]
  · rw [newPart_boots _ b.val low]
  · rw [newPart_recovers _ b high]

end Sys2Proof.Machine

namespace Sys2Proof.Machine

/-! ### The clause boundary (R36, R40, R374) -/

section
variable (s : State)

theorem State.line_sendSkip (u : Nat) : (s.sendSkip u).outside .line = s.outside .line := by
  unfold State.sendSkip
  rw [State.line_transmit, State.outside_emit _ _ _ (by decide), State.line_lineGap]

/-- What the SKP sets of a link leave of its interval is counted. -/
def State.countSkips (u n : Nat) : State := { s with line := { s.line with skp := Tbl.put s.line.skp u n } }

theorem State.skipLink_eq (u : Nat) : ∃ sets rest, s.skipLink u =
    (s.each (List.replicate sets ()) (fun s _ => s.sendSkip u)).countSkips u rest := ⟨_, _, rfl⟩

theorem State.line_countSkips (u n : Nat) : (s.countSkips u n).outside .line = s.outside .line := rfl

theorem State.line_skipLink (u : Nat) : (s.skipLink u).outside .line = s.outside .line := by
  obtain ⟨sets, rest, eq⟩ := State.skipLink_eq s u
  rw [eq, State.line_countSkips, State.outside_each _ _ _ _ (fun s _ => State.line_sendSkip s u)]

theorem State.line_skipSets : s.skipSets.outside .line = s.outside .line :=
  State.outside_each _ _ _ _ State.line_skipLink

/-- What the boundary counts and sends before anything else: the clause, and the SKP sets. -/
theorem State.boundary_counts : s.advance.skipSets.clock = { s.clock with clause := s.clock.clause + 1, sub := 0, fired := [] } ∧
    s.changesOnly s.advance.skipSets ⟨[], [.clock, .line, .outbox]⟩ := by
  refine ⟨State.clock_of_outside (State.line_skipSets _) (by decide), ?_⟩
  have sets : s.advance.skipSets.outside ⟨[], [.clock, .line, .outbox]⟩ = s.advance.outside ⟨[], [.clock, .line, .outbox]⟩ :=
    State.outside_mono (by decide) (by decide) (State.line_skipSets s.advance)
  exact sets.trans (State.outside_modClock _ _ _ (by decide))

theorem State.image_of_outside {s t : State} {f : Footprint} (h : t.outside f = s.outside f) (n : Reg.imageState ∉ f.regs) :
    t.image = s.image := by
  rw [State.image, State.get_of_outside h _ _ n, State.image]

theorem State.cutPassed_of_outside {s t : State} {f : Footprint} (h : t.outside f = s.outside f)
    (n : Reg.imageState ∉ f.regs) (m : Part.power ∉ f.parts) : t.cutPassed = s.cutPassed := by
  rw [State.cutPassed, State.image_of_outside h n, State.power_of_outside h m, State.cutPassed]

theorem State.boundary_recovery (cycles : List Nat) (h : s.security.recovery = true) :
    s.boundary cycles = s.advance.skipSets := by
  have recovery : s.advance.skipSets.security.recovery = true := by
    rw [State.security_of_outside (State.boundary_counts s).2 (by decide), h]
  simp only [State.boundary, recovery, if_true]

theorem State.boundary_runs (cycles : List Nat) (h : s.security.recovery = false) :
    s.boundary cycles = s.advance.skipSets.boundaryWork cycles := by
  have runs : s.advance.skipSets.security.recovery = false := by
    rw [State.security_of_outside (State.boundary_counts s).2 (by decide), h]
  simp only [State.boundary, runs, Bool.false_eq_true, if_false]

/-- A boundary at which no cut falls. -/
theorem State.boundaryWork_uncut (cycles : List Nat) (h : s.power.detected = false ∨ s.power.cutDone = true) :
    s.boundaryWork cycles = if s.cutPassed then s.applyLate.workList cycles
      else if s.gpioLevels.staysGated then s.gpioLevels.gatedClause
      else (s.gpioLevels.boundaryEffects.workList cycles).boundaryEnd := by
  have uncut : (s.power.detected && !s.power.cutDone) = false := by
    obtain h | h := h <;> simp [h]
  simp only [State.boundaryWork, uncut, Bool.false_eq_true, if_false]

/-! ### The lock of the timebase (R38, R39) -/

/-- Holdover begins: the lock of the PLL counts no more. -/
def State.holdover : State := { s.set Reg.timebaseStatus 0 1 with clock := { s.clock with steadySince := none } }

theorem State.lockLostNow_quiet (h : s.get Reg.timebaseStatus = 1 ∨ s.security.recovery = true) :
    s.lockLostNow = s.holdover := by
  unfold State.lockLostNow
  exact if_pos h

theorem State.lockLostNow_raises (runs : s.security.recovery = false) (h : s.get Reg.timebaseStatus ≠ 1) :
    s.lockLostNow = ((if s.get Reg.timebaseStatus = 0 then s.holdover.leaseHoldover else s.holdover).raise 0 0x012
      0).powerRequest 0 4 := by
  have no : ¬ (s.get Reg.timebaseStatus = 1 ∨ s.holdover.security.recovery = true) := by
    simp [State.holdover, h, runs, State.set]
  unfold State.lockLostNow
  exact if_neg no

/-- The PLL has stayed locked for n clauses. -/
def State.lockedFor (n : Nat) : Bool := s.clock.steadySince.any (fun t => decide (t + n ≤ s.clauseNow))

theorem State.lockedFor_iff (n : Nat) : s.lockedFor n = true ↔ ∃ c, s.clock.steadySince = some c ∧ c + n ≤ s.clock.clause := by
  simp only [State.lockedFor, Option.any_eq_true, decide_eq_true_eq]
  rfl

theorem exec_timebaseRelock_lost (powered : s.clock.powered = true) : exec (.timebaseRelock false) s = .next (s.after
    (if s.get Reg.timebaseStatus = 1 then { s.set Reg.timebaseStatus 0 2 with
      clock := { s.clock with steadySince := some s.clock.clause } } else s)) := by
  rw [exec_timebaseRelock, execTimebaseRelock, actRom_powered s _ powered, done_spec]
  rfl

theorem exec_timebaseRelock_steady (powered : s.clock.powered = true) : exec (.timebaseRelock true) s = .next (s.after
    (if s.get Reg.timebaseStatus = 2 ∧ s.lockedFor 1000000 = true then { s.set Reg.timebaseStatus 0 0 with
      clock := { s.clock with steadySince := none } } else s)) := by
  rw [exec_timebaseRelock, execTimebaseRelock, actRom_powered s _ powered, done_spec]
  rfl

end

/-- Settles O6: what a boundary counts is read off the lines (`boundary_counts`), and the rest are the branches of the
boundary and of the two commands of the timebase. -/
theorem clausesAreCounted : Obligations.ClausesAreCounted := by
  unfold Obligations.ClausesAreCounted
  refine ⟨fun cycles s u powered hu => ?_, fun s u powered hu => ?_, fun s powered => ?_⟩
  · subst hu
    rw [exec_clauseBoundary, execClauseBoundary, actRom_powered s _ powered, done_spec]
    have counts := State.boundary_counts s
    have cut : s.advance.skipSets.cutPassed = s.cutPassed := State.cutPassed_of_outside counts.2 (by decide) (by decide)
    have power : s.advance.skipSets.power = s.power := State.power_of_outside counts.2 (by decide)
    refine ⟨counts, fun recovery => by rw [State.boundary_recovery s cycles recovery], fun runs h => ?_⟩
    rw [State.boundary_runs s cycles runs, State.boundaryWork_uncut _ _ (by rwa [power]), cut]
    refine ⟨fun passed => ?_, fun open_ gated => ?_, fun open_ ungated => ?_⟩
    · rw [passed, if_pos rfl]
    · rw [open_, gated, if_neg Bool.false_ne_true, if_pos rfl]
      rfl
    · rw [open_, ungated, if_neg Bool.false_ne_true, if_neg Bool.false_ne_true]
  · subst hu
    rw [exec_timebaseLockLoss, execTimebaseLockLoss, actRom_powered s _ powered, done_spec]
    refine ⟨fun h => by rw [State.lockLostNow_quiet s h]; rfl, fun runs h => ?_, fun runs h => ?_⟩
    · rw [State.lockLostNow_raises s runs (by simp [h]), h, if_neg (by decide)]
      rfl
    · rw [State.lockLostNow_raises s runs (by simp [h]), h, if_pos rfl]
      rfl
  · rw [exec_timebaseRelock_lost s powered, exec_timebaseRelock_steady s powered]
    refine ⟨fun h => by rw [if_pos h], fun h => by rw [if_neg h], fun c h steady past => ?_, fun h => ?_⟩
    · rw [if_pos ⟨h, (State.lockedFor_iff s _).mpr ⟨c, steady, past⟩⟩]
    · rw [if_neg]
      rintro ⟨relocked, locked⟩
      obtain ⟨c, steady, past⟩ := (State.lockedFor_iff s _).mp locked
      obtain h | h := h
      · exact h relocked
      · exact absurd past (Nat.not_le.mpr (h c steady))

end Sys2Proof.Machine

namespace Sys2Proof.Machine

/-! ### What a reset of the host port leaves (R178, R181, R221) -/

section
variable (s : State)

/-- For instance i a reset that the port asks for stands in the list, by squash at once or at the next boundary. -/
def State.portAsked (i : Nat) : Prop :=
  ∃ j ∈ s.resets, j.i = i ∧ j.kind = 5 ∧ j.port = true ∧ (j.drain = true → j.joinAt ≠ none)

theorem State.resetJob_some {i : Nat} {j : ResetJob} (h : s.resetJob i = some j) : j ∈ s.resets ∧ j.i = i := by
  refine ⟨List.mem_of_find?_eq_some h, ?_⟩
  simpa using List.find?_some h

theorem State.mem_putReset {j : ResetJob} (h : ∃ k ∈ s.resets, k.i = j.i) : j ∈ (s.putReset j).resets := by
  obtain ⟨k, mem, same⟩ := h
  exact List.mem_map.mpr ⟨k, mem, if_pos same⟩

theorem State.mem_putReset_other {j k : ResetJob} (h : k ∈ s.resets) (other : k.i ≠ j.i) : k ∈ (s.putReset j).resets :=
  List.mem_map.mpr ⟨k, h, if_neg other⟩

/-- What a squash by the port makes of the job that stands for the instance: the job itself, and its list. -/
theorem State.askReset_port (i : Nat) : ∃ j : ResetJob, j.i = i ∧ j.kind = 5 ∧ j.port = true ∧
    (j.drain = true → j.joinAt ≠ none) ∧ ((s.askReset i 5 false).resets = s.resets ++ [j] ∨
      (∃ k ∈ s.resets, k.i = i) ∧ (s.askReset i 5 false).resets = (s.putReset j).resets) := by
  cases h : s.resetJob i with
  | none =>
    have none' : (s.modHost (fun h => { h with flr := h.flr.add i })).resetJob i = none := h
    simp only [State.askReset, Nat.reduceEqDiff, if_false, none', Bool.not_false]
    exact ⟨_, rfl, rfl, rfl, fun x => absurd x Bool.false_ne_true, .inl rfl⟩
  | some j =>
    have some' : (s.modHost (fun h => { h with flr := h.flr.add i })).resetJob i = some j := h
    obtain ⟨mem, rfl⟩ := State.resetJob_some s h
    simp only [State.askReset, Nat.reduceEqDiff, if_false, some', Bool.and_false, Bool.not_false, Bool.and_true]
    have stands : ∃ k ∈ s.resets, k.i = j.i := ⟨j, mem, rfl⟩
    split
    · refine ⟨_, ?_, ?_, ?_, ?_, .inr ⟨stands, rfl⟩⟩ <;> simp
    · split
      · refine ⟨_, ?_, ?_, ?_, ?_, .inr ⟨stands, rfl⟩⟩ <;> simp
      · rename_i drains
        refine ⟨_, ?_, ?_, ?_, fun x => ?_, .inr ⟨stands, rfl⟩⟩ <;> simp_all

theorem State.portAsked_askReset (i : Nat) : (s.askReset i 5 false).portAsked i := by
  obtain ⟨j, rfl, kind, port, squash, list | ⟨stands, list⟩⟩ := State.askReset_port s i
  · exact ⟨j, by simp [list], rfl, kind, port, squash⟩
  · exact ⟨j, by rw [list]; exact State.mem_putReset s stands, rfl, kind, port, squash⟩

theorem State.portAsked_kept {i k : Nat} (h : s.portAsked k) : (s.askReset i 5 false).portAsked k := by
  by_cases same : k = i
  · exact same ▸ State.portAsked_askReset s i
  · obtain ⟨j, rfl, -, -, -, list⟩ := State.askReset_port s i
    obtain ⟨x, mem, rfl, asked⟩ := h
    refine ⟨x, ?_, rfl, asked⟩
    obtain list | ⟨-, list⟩ := list
    · exact list ▸ List.mem_append_left _ mem
    · exact list ▸ State.mem_putReset_other s mem same

/-- What a step establishes of its own element, and every step keeps, holds of each element of a list at its end. -/
theorem State.each_establishes {α : Type} (P : α → State → Prop) (g : State → α → State)
    (sets : ∀ (s : State) (a : α), P a (g s a)) (keeps : ∀ (s : State) (a b : α), P b s → P b (g s a)) (s : State)
    (l : List α) (b : α) (h : b ∈ l ∨ P b s) : P b (s.each l g) := by
  induction l generalizing s with
  | nil => exact h.resolve_left (List.not_mem_nil)
  | cons a l ih =>
    rw [State.each_cons]
    apply ih
    obtain h | h := h
    · obtain rfl | h := List.mem_cons.mp h
      · exact .inr (sets s b)
      · exact .inl h
    · exact .inr (keeps s a b h)

/-- Every instance of a list that is asked to reset is so at the end of it. -/
theorem State.portAsked_each (l : List Nat) (i : Nat) (h : i ∈ l ∨ s.portAsked i) :
    (s.each l (fun s i => s.askReset i 5 false)).portAsked i :=
  State.each_establishes (fun i s => s.portAsked i) _ State.portAsked_askReset (fun _ _ _ => State.portAsked_kept _) s l i h

theorem State.outside_resets (f : Footprint) (x : List ResetJob) (h : Part.resets ∈ f.parts) :
    ({ s with resets := x } : State).outside f = s.outside f := by
  simp [State.outside, Footprint.keep, h]

theorem State.outside_askReset (i kind : Nat) (drain : Bool) :
    (s.askReset i kind drain).outside ⟨[], [.host, .resets]⟩ = s.outside ⟨[], [.host, .resets]⟩ := by
  have noted : (if kind = 4 then s else s.modHost (fun h => { h with flr := h.flr.add i })).outside ⟨[], [.host, .resets]⟩ =
      s.outside ⟨[], [.host, .resets]⟩ := State.outside_ite _ rfl (State.outside_modHost _ _ _ (by decide))
  refine Eq.trans ?_ noted
  unfold State.askReset
  dsimp only
  split
  · exact State.outside_resets _ _ _ (by decide)
  · exact State.outside_ite _ (State.outside_resets _ _ _ (by decide)) (State.outside_ite _
      (State.outside_resets _ _ _ (by decide)) (State.outside_resets _ _ _ (by decide)))

/-- Of the host port a trigger moves only the list of functions that do not answer. -/
theorem State.host_askReset (i kind : Nat) (drain : Bool) : ∃ flr, (s.askReset i kind drain).host = { s.host with flr := flr } := by
  have noted : ∃ flr, (if kind = 4 then s else s.modHost (fun h => { h with flr := h.flr.add i })).host =
      { s.host with flr := flr } := by
    split
    · exact ⟨_, rfl⟩
    · exact ⟨_, rfl⟩
  obtain ⟨flr, noted⟩ := noted
  refine ⟨flr, ?_⟩
  rw [← noted]
  unfold State.askReset
  dsimp only
  split
  · rfl
  · exact State.keeps_ite State.host rfl (State.keeps_ite State.host rfl rfl)

theorem State.host_askEach (l : List Nat) : ∃ flr,
    (s.each l (fun s i => s.askReset i 5 false)).host = { s.host with flr := flr } := by
  induction l generalizing s with
  | nil => exact ⟨_, rfl⟩
  | cons a l ih =>
    obtain ⟨x, hx⟩ := ih (s.askReset a 5 false)
    obtain ⟨y, hy⟩ := State.host_askReset s a 5 false
    exact ⟨x, by rw [State.each_cons, hx, hy]⟩

/-- The request to leave A2 that a reset of the port brings (R182). -/
theorem State.outside_powerRequest_wake (cause : Nat) :
    (s.powerRequest 0 cause).outside ⟨[], [.power]⟩ = s.outside ⟨[], [.power]⟩ := by
  have moved (g : Power → Power) : (s.modPower g).outside ⟨[], [.power]⟩ = s.outside ⟨[], [.power]⟩ :=
    State.outside_modPower _ _ _ (by decide)
  unfold State.powerRequest
  refine State.outside_ite _ rfl ?_
  dsimp only
  split
  · exact State.outside_ite _ rfl (moved _)
  · refine State.outside_ite _ rfl ?_
    rw [if_pos rfl]
    exact State.outside_ite _ (moved _) (moved _)

/-- The host port as a reset of it leaves its functions, before the instances are asked. -/
def State.portCleared : State :=
  ((if s.host.d3 ∧ s.powerState = 2 then s.powerRequest 0 3 else s).modHost (fun h => { h with
    posted := bufferedOf (65536 - (if s.host.d3 ∧ s.powerState = 2 then s.powerRequest 0 3 else s).postedBytes) 256 h.posted
    readWait := [], busMaster := [], msixEnable := [], fnMask := [], vecOpen := [], vfEnable := false, vfMem := false
    bus := 0 })).clearPort

/-- The port is cleared, and every instance is asked to reset. -/
@[irreducible] def State.portResets : State := s.portCleared.each (List.range 256) (fun s i => s.askReset i 5 false)

theorem State.portResets_eq : s.portResets = s.portCleared.each (List.range 256) (fun s i => s.askReset i 5 false) := by
  unfold State.portResets
  rfl

theorem State.hostReset_false : s.hostReset false = s.portResets := by
  rw [State.portResets_eq]
  rfl

/-- A fundamental reset also loads the BAR sizes and clears the sticky status (R178). -/
theorem State.hostReset_true : s.hostReset true =
    (s.portResets.loadBars.modHost (fun h => { h with pmeEn := false, aerFatal := [], aerCorr := [] })).modEvents
      (fun e => { e with pmeStatus := false }) := by
  rw [State.portResets_eq]
  rfl

theorem State.outside_portResets : s.portResets.outside ⟨[], [.host, .resets, .power]⟩ =
    s.outside ⟨[], [.host, .resets, .power]⟩ := by
  have power : (if s.host.d3 ∧ s.powerState = 2 then s.powerRequest 0 3 else s).outside ⟨[], [.host, .resets, .power]⟩ =
      s.outside ⟨[], [.host, .resets, .power]⟩ :=
    State.outside_ite _ (State.outside_mono (by decide) (by decide) (State.outside_powerRequest_wake s 3)) rfl
  rw [State.portResets_eq]
  unfold State.portCleared State.clearPort
  rw [State.outside_each _ _ _ _ (fun s i => State.outside_mono (by decide) (by decide) (State.outside_askReset s i 5 false)),
    State.outside_modHost _ _ _ (by decide), State.outside_modHost _ _ _ (by decide), power]

theorem State.portReset_portResets : s.portResets.portReset := by
  have asked (i : Fin 256) := State.portAsked_each s.portCleared (List.range 256) i.val (.inl (List.mem_range.mpr i.isLt))
  obtain ⟨flr, host⟩ := State.host_askEach s.portCleared (List.range 256)
  unfold State.portReset
  rw [State.portResets_eq, host]
  exact ⟨rfl, rfl, rfl, rfl, rfl, rfl, rfl, rfl, rfl, rfl, asked⟩

/-- What holds of the port after its reset is read from its host port and its jobs alone. -/
theorem State.portReset_congr {s t : State} (h : s.portReset) (resets : t.resets = s.resets)
    (host : ∃ p e f c w v a b, t.host = { s.host with
      perstLow := p, pmeEn := e, aerFatal := f, aerCorr := c, pfWin := w, vfWin := v, pfBar4 := a, vfBar4 := b }) :
    t.portReset := by
  obtain ⟨p, e, f, c, w, v, a, b, host⟩ := host
  unfold State.portReset at h ⊢
  rw [host, resets]
  exact h

theorem State.portReset_after {t : State} (h : t.portReset) : (s.after t).portReset := h

end

end Sys2Proof.Machine

namespace Sys2Proof.Machine

/-! ### PERST_N, hot reset and the reference clocks (R178 to R181, R395) -/

theorem bit_setBit (v i : Nat) (b : Bool) : bit (setBit v i b) i = b := by
  have pos : 0 < 2 ^ i := Nat.two_pow_pos i
  unfold setBit
  split
  · assumption
  · rename_i differs
    cases b
    · have one : v / 2 ^ i % 2 = 1 := by simpa [bit] using differs
      have enough : 2 ^ i ≤ v := by
        by_contra less
        rw [Nat.div_eq_of_lt (by omega)] at one
        exact absurd one (by decide)
      simp only [Bool.false_eq_true, if_false, bit]
      rw [Nat.sub_eq_of_eq_add (Nat.sub_add_cancel enough).symm, show v - 2 ^ i = v - 2 ^ i * 1 by rw [Nat.mul_one],
        Nat.sub_mul_div]
      simp only [decide_eq_false_iff_not]
      omega
    · have zero : v / 2 ^ i % 2 ≠ 1 := by simpa [bit] using differs
      simp only [if_true, bit, Nat.add_div_right v pos, decide_eq_true_eq]
      omega

section
variable (s : State)

/-- What the host link may change as it goes down. -/
def Footprint.linkDown : Footprint := Footprint.event.plus [Reg.hostLinkStatus] []

theorem State.outside_hostLinkDown : s.hostLinkDown.outside .linkDown = s.outside .linkDown := by
  refine State.outside_ite _ rfl ?_
  have event : (((s.set Reg.hostLinkStatus 0 0).raise 0 0x001 0).wakeSignal).outside .linkDown =
      (s.set Reg.hostLinkStatus 0 0).outside .linkDown :=
    State.outside_mono (by decide) (by decide) ((State.event_wakeSignal _).trans (State.event_raise _ _ _ _))
  rw [event, State.outside_set _ _ _ _ _ (by decide)]

theorem State.hostLinkDown_status : s.hostLinkDown.get Reg.hostLinkStatus = 0 := by
  unfold State.hostLinkDown
  split
  · assumption
  · rw [State.get_of_outside (State.event_wakeSignal _) _ _ (by decide),
      State.get_of_outside (State.event_raise _ _ _ _) _ _ (by decide), State.get_set_same]

theorem State.hostLinkDown_keeps : s.hostLinkDown.host = s.host ∧ s.hostLinkDown.resets = s.resets :=
  ⟨State.host_of_outside (State.outside_hostLinkDown s) (by decide),
    State.resets_of_outside (State.outside_hostLinkDown s) (by decide)⟩

theorem State.portReset_hostLinkDown {t : State} (h : t.portReset) : t.hostLinkDown.portReset := by
  obtain ⟨host, resets⟩ := State.hostLinkDown_keeps t
  exact State.portReset_congr h resets ⟨_, _, _, _, _, _, _, _, host⟩

/-- What a reset of the host port may change with the link going down and a source raised. -/
def Footprint.portLinkDown : Footprint := Footprint.event.plus [Reg.hostLinkStatus] [.host, .resets, .power]

theorem State.portLinkDown_hostLinkDown : s.hostLinkDown.outside .portLinkDown = s.outside .portLinkDown :=
  State.outside_mono (by decide) (by decide) (State.outside_hostLinkDown s)

theorem State.portLinkDown_portResets : s.portResets.outside .portLinkDown = s.outside .portLinkDown :=
  State.outside_mono (by decide) (by decide) (State.outside_portResets s)

/-- PERST_N is low. -/
def State.perstDown : State := { s with host := { s.host with perstLow := true } }

theorem State.cutPassed_perstDown : s.perstDown.cutPassed = s.cutPassed := rfl

/-- PERST_N falls, before the cut. -/
def State.perstFalls : State := s.perstDown.hostReset true

theorem State.perstFalls_effect : s.perstFalls.portReset ∧ s.perstFalls.host.perstLow = true ∧
    s.perstFalls.host.pmeEn = false ∧ s.perstFalls.host.aerFatal = [] ∧ s.perstFalls.host.aerCorr = [] ∧
    s.perstFalls.host.pfWin = s.get Reg.pfWindowDefault ∧ s.perstFalls.host.vfWin = s.get Reg.vfWindowDefault := by
  have port := State.portReset_portResets s.perstDown
  have outside := State.outside_portResets s.perstDown
  obtain ⟨flr, host⟩ := State.host_askEach s.perstDown.portCleared
    (List.range 256)
  have win : s.perstDown.portResets.get Reg.pfWindowDefault =
      s.get Reg.pfWindowDefault := State.get_of_outside outside _ _ (by decide)
  have vfWin : s.perstDown.portResets.get Reg.vfWindowDefault =
      s.get Reg.vfWindowDefault := State.get_of_outside outside _ _ (by decide)
  have low : s.perstDown.portResets.host.perstLow = true := by
    rw [State.portResets_eq, host]
    unfold State.portCleared State.clearPort
    simp only [State.modHost_host]
    split
    · rw [State.host_of_outside (State.outside_powerRequest_wake _ _) (by decide)]
      rfl
    · rfl
  rw [State.perstFalls, State.hostReset_true]
  revert port low win vfWin
  generalize s.perstDown.portResets = u
  intro port win vfWin low
  exact ⟨State.portReset_congr port rfl ⟨_, _, _, _, _, _, _, _, rfl⟩, low, rfl, rfl, rfl, win, vfWin⟩

theorem State.portLinkDown_perstFalls : s.perstFalls.outside .portLinkDown = s.outside .portLinkDown := by
  rw [State.perstFalls, State.hostReset_true, State.outside_modEvents _ _ _ (by decide),
    State.outside_modHost _ _ _ (by decide), State.loadBars, State.outside_modHost _ _ _ (by decide),
    State.portLinkDown_portResets]
  rfl

/-- A reference clock that changes, with its source raised (R181, R395). -/
theorem State.refChanges_moves {b : Nat} {on : Bool} (h : bit (s.get Reg.refclkStatus) b ≠ on) :
    s.refChanges b on = (s.putBit Reg.refclkStatus 0 b on).raise 0 0x012 0 := if_neg h

theorem State.refChanges_still {b : Nat} {on : Bool} (h : bit (s.get Reg.refclkStatus) b = on) :
    s.refChanges b on = s := if_pos h

theorem State.refclkStatus_raised (b : Nat) (on : Bool) :
    bit (((s.putBit Reg.refclkStatus 0 b on).raise 0 0x012 0).get Reg.refclkStatus) b = on := by
  rw [State.get_of_outside (State.event_raise _ _ _ _) _ _ (by decide), State.putBit_eq, State.get_set_same, bit_setBit]

theorem State.cutPassed_refChanged (on : Bool) :
    ((s.putBit Reg.refclkStatus 0 0 on).raise 0 0x012 0).cutPassed = s.cutPassed := by
  rw [State.cutPassed_of_outside (State.event_raise _ _ _ _) (by decide) (by decide)]
  exact State.cutPassed_of_outside (f := ⟨[Reg.refclkStatus], []⟩) (State.outside_set _ _ _ _ _ (by decide)) (by decide)
    (by decide)

theorem exec_perstNAssert_falls (powered : s.clock.powered = true) (high : s.host.perstLow = false) :
    exec .perstNAssert s = .next (s.after (State.hostLinkDown (s.perstDown.beforeCut
      (fun s => s.hostReset true)))) := by
  rw [exec_perstNAssert, execPerstNAssert, actRom_powered s _ powered, done_spec, high, if_neg Bool.false_ne_true]
  rfl

theorem exec_perstNAssert_open (powered : s.clock.powered = true) (high : s.host.perstLow = false)
    (open_ : s.cutPassed = false) : exec .perstNAssert s = .next (s.after s.perstFalls.hostLinkDown) := by
  rw [exec_perstNAssert_falls s powered high, State.beforeCut_open _ _ ((State.cutPassed_perstDown s).trans open_),
    State.perstFalls]

theorem exec_hotReset_powered (powered : s.clock.powered = true) (dlDown : Bool) : exec (.hotReset dlDown) s =
    .next (s.after (if dlDown then (s.beforeCut (fun s => s.hostReset false)).hostLinkDown
      else s.beforeCut (fun s => s.hostReset false))) := by
  rw [exec_hotReset, execHotReset, actRom_powered s _ powered, done_spec]

theorem exec_refclkLoss_host (powered : s.clock.powered = true) (h : bit (s.get Reg.refclkStatus) 0 = true) :
    exec (.refclkLoss 0) s = .next (s.after ((((s.putBit Reg.refclkStatus 0 0 false).raise 0 0x012 0).beforeCut
      (fun s => s.hostReset false)).hostLinkDown)) := by
  have moves := State.refChanges_moves s (b := 0) (on := false) (by simp [h])
  rw [exec_refclkLoss, execRefclkLoss, actRom_powered s _ powered, done_spec]
  simp only [Fin.val_zero, h, if_true, moves]

theorem exec_refclkLoss_treyr (powered : s.clock.powered = true) {r : Fin 3} (treyr : r ≠ 0)
    (h : bit (s.get Reg.refclkStatus) r = true) :
    exec (.refclkLoss r) s = .next (s.after (((s.putBit Reg.refclkStatus 0 r false).raise 0 0x012 0).refLost r)) := by
  have moves := State.refChanges_moves s (b := r.val) (on := false) (by simp [h])
  have other : r.val ≠ 0 := fun zero => treyr (Fin.ext zero)
  rw [exec_refclkLoss, execRefclkLoss, actRom_powered s _ powered, done_spec]
  simp only [h, if_true, moves, other, if_false]

end

/-- Settles O9: the reset of the port (`portResets`) is the same for all three of its causes, and what it leaves is read from
its host port and its jobs. -/
theorem hostResetsTheFunctions : Obligations.HostResetsTheFunctions := by
  unfold Obligations.HostResetsTheFunctions
  refine ⟨fun s powered open_ => ⟨fun high => ?_, ?_, ?_, fun there => ?_⟩,
    fun s powered passed => ⟨fun high => ?_, ?_, ?_, fun there => ?_⟩,
    fun s powered => ⟨fun low => ?_, fun high => ?_, fun low => ?_, fun r lost => ⟨?_, ?_⟩, fun r there => ?_,
      fun r other there => ?_⟩⟩
  · rw [exec_perstNAssert_open s powered high open_]
    obtain ⟨port, low, pme, fatal, corr, pf, vf⟩ := State.perstFalls_effect s
    have outside := State.portLinkDown_perstFalls s
    generalize s.perstFalls = u at *
    have host := (State.hostLinkDown_keeps u).1
    refine ⟨_, rfl, State.portReset_after s (State.portReset_hostLinkDown port),
      State.hostLinkDown_status _, ?_, ?_, ?_, ?_, ?_, ?_, State.changesOnly_after _ _ ?_⟩
    · exact (congrArg HostPort.perstLow host).trans low
    · exact (congrArg HostPort.pmeEn host).trans pme
    · exact (congrArg HostPort.aerFatal host).trans fatal
    · exact (congrArg HostPort.aerCorr host).trans corr
    · exact (congrArg HostPort.pfWin host).trans pf
    · exact (congrArg HostPort.vfWin host).trans vf
    · exact (State.portLinkDown_hostLinkDown _).trans outside
  · rw [exec_hotReset_powered s powered, if_neg Bool.false_ne_true, State.beforeCut_open _ _ open_, State.hostReset_false]
    exact ⟨_, rfl, State.portReset_after s (State.portReset_portResets s),
      State.changesOnly_after _ _ (State.outside_portResets s)⟩
  · rw [exec_hotReset_powered s powered, if_pos rfl, State.beforeCut_open _ _ open_, State.hostReset_false]
    exact ⟨_, rfl, State.portReset_after s (State.portReset_hostLinkDown (State.portReset_portResets s)),
      State.hostLinkDown_status _, State.changesOnly_after _ _
        ((State.portLinkDown_hostLinkDown _).trans (State.portLinkDown_portResets s))⟩
  · rw [exec_refclkLoss_host s powered there, State.beforeCut_open _ _ ((State.cutPassed_refChanged s false).trans open_), State.hostReset_false]
    refine ⟨_, rfl, State.portReset_after s (State.portReset_hostLinkDown (State.portReset_portResets _)),
      State.hostLinkDown_status _, ?_, State.changesOnly_after _ _ ?_⟩
    · rw [State.after_get, State.get_of_outside (State.outside_hostLinkDown _) _ _ (by decide),
        State.get_of_outside (State.outside_portResets _) _ _ (by decide)]
      exact State.refclkStatus_raised s 0 false
    · have raised : ((s.putBit Reg.refclkStatus 0 0 false).raise 0 0x012 0).outside
          (Footprint.event.plus [Reg.hostLinkStatus, Reg.refclkStatus] [.host, .resets, .power]) =
          s.outside (Footprint.event.plus [Reg.hostLinkStatus, Reg.refclkStatus] [.host, .resets, .power]) := by
        rw [State.outside_mono (by decide) (by decide) (State.event_raise _ 0 0x012 0), State.putBit_eq,
          State.outside_set _ _ _ _ _ (by decide)]
      exact (State.outside_mono (by decide) (by decide)
        ((State.portLinkDown_hostLinkDown _).trans (State.portLinkDown_portResets _))).trans raised
  · rw [exec_perstNAssert_falls s powered high, State.beforeCut_cut _ _ ((State.cutPassed_perstDown s).trans passed)]
    rfl
  · rw [exec_hotReset_powered s powered, if_neg Bool.false_ne_true, State.beforeCut_cut _ _ passed]
  · rw [exec_hotReset_powered s powered, if_pos rfl, State.beforeCut_cut _ _ passed]
  · rw [exec_refclkLoss_host s powered there, State.beforeCut_cut _ _ ((State.cutPassed_refChanged s false).trans passed)]
  · rw [exec_perstNAssert, execPerstNAssert, actRom_powered s _ powered, done_spec, if_pos low]
  · rw [exec_perstNRelease, execPerstNRelease, actRom_powered s _ powered, done_spec, high, if_neg Bool.false_ne_true]
  · rw [exec_perstNRelease, execPerstNRelease, actRom_powered s _ powered, done_spec, if_pos low]
    rfl
  · rw [exec_refclkLoss, execRefclkLoss, actRom_powered s _ powered, done_spec, lost, if_neg Bool.false_ne_true]
  · rw [exec_refclkReturn, execRefclkReturn, actRom_powered s _ powered, done_spec, State.refChanges_moves s (by simp [lost])]
  · rw [exec_refclkReturn, execRefclkReturn, actRom_powered s _ powered, done_spec, State.refChanges_still s there]
  · exact exec_refclkLoss_treyr s powered other there

end Sys2Proof.Machine

namespace Sys2Proof.Machine

/-! ### Footprints one inside another -/

/-- A footprint lies inside another. -/
def Footprint.le (e f : Footprint) : Bool := e.regs.all f.regs.contains && e.parts.all f.parts.contains

theorem State.outside_le {e f : Footprint} (le : e.le f = true) {s t : State} (h : t.outside e = s.outside e) :
    t.outside f = s.outside f := by
  simp only [Footprint.le, Bool.and_eq_true, List.all_eq_true, List.contains_eq_mem, decide_eq_true_eq] at le
  exact State.outside_mono le.1 le.2 h

section
variable (s : State) {f : Footprint}

/-! #### Events, records and messages in any footprint that holds theirs -/

theorem State.frame_raise (i n u : Nat) (h : Footprint.event.le f = true) : (s.raise i n u).outside f = s.outside f :=
  State.outside_le h (State.event_raise s i n u)

theorem State.frame_keepPending (i n u : Nat) (h : Footprint.event.le f = true) :
    (s.keepPending i n u).outside f = s.outside f := State.outside_le h (State.event_keepPending s i n u)

theorem State.frame_withdraw (i n : Nat) (h : Footprint.event.le f = true) : (s.withdraw i n).outside f = s.outside f :=
  State.outside_le h (State.event_withdraw s i n)

theorem State.frame_withdrawUnit (i n u : Nat) (h : Footprint.event.le f = true) :
    (s.withdrawUnit i n u).outside f = s.outside f := State.outside_le h (State.event_withdrawUnit s i n u)

theorem State.frame_wake (b : Nat) (h : Footprint.event.le f = true) : (s.wake b).outside f = s.outside f :=
  State.outside_le h (State.event_wake s b)

theorem State.frame_wakeOutsideA0 (b : Nat) (h : Footprint.event.le f = true) :
    (s.wakeOutsideA0 b).outside f = s.outside f := State.outside_le h (State.event_wakeOutsideA0 s b)

theorem State.frame_wakeSignal (h : Footprint.event.le f = true) : s.wakeSignal.outside f = s.outside f :=
  State.outside_le h (State.event_wakeSignal s)

theorem State.frame_pulse (l : Nat) (h : Footprint.event.le f = true) : (s.pulse l).outside f = s.outside f :=
  State.outside_le h (State.event_pulse s l)

theorem State.frame_recordMgmt (i t a n : Nat) (b : List Byte) (h : Footprint.event.le f = true) :
    (s.recordMgmt i t a n b).outside f = s.outside f := State.outside_le h (State.event_recordMgmt s i t a n b)

theorem State.frame_recordTo (q t a n : Nat) (b : List Byte) (h : Footprint.event.le f = true) :
    (s.recordTo q t a n b).outside f = s.outside f := State.outside_le h (State.event_recordTo s q t a n b)

theorem State.frame_sendCarrier (c : Nat) (b : Bool) (l : Nat) (m : Msg) (h : Footprint.message.le f = true) :
    (s.sendCarrier c b l m).outside f = s.outside f := State.outside_le h (State.message_sendCarrier s c b l m)

theorem State.frame_sendPartner (m : Msg) (h : Footprint.message.le f = true) :
    (s.sendPartner m).outside f = s.outside f := State.outside_le h (State.message_sendPartner s m)

theorem State.frame_setImage (v : ImageState) (h : (Footprint.event.plus [Reg.imageState] []).le f = true) :
    (s.setImage v).outside f = s.outside f := by
  refine State.outside_le h ?_
  refine State.outside_ite _ rfl ?_
  have raised : ((s.set Reg.imageState 0 v.code).raise 0 0x011 0).outside (Footprint.event.plus [Reg.imageState] []) =
      s.outside (Footprint.event.plus [Reg.imageState] []) := by
    rw [State.frame_raise _ _ _ _ (by decide), State.outside_set _ _ _ _ _ (by decide)]
  exact State.outside_ite _ ((State.frame_pulse _ _ (by decide)).trans raised) raised

/-! #### The parts that are updated as a whole -/

theorem State.outside_host (x : HostPort) (h : Part.host ∈ f.parts) :
    ({ s with host := x } : State).outside f = s.outside f := by simp [State.outside, Footprint.keep, h]

theorem State.outside_restore (x : Restore) (h : Part.restore ∈ f.parts) :
    ({ s with restore := x } : State).outside f = s.outside f := by simp [State.outside, Footprint.keep, h]

theorem State.outside_stop (x : FullStop) (h : Part.stop ∈ f.parts) :
    ({ s with stop := x } : State).outside f = s.outside f := by simp [State.outside, Footprint.keep, h]

theorem State.outside_clock (x : Clock) (h : Part.clock ∈ f.parts) :
    ({ s with clock := x } : State).outside f = s.outside f := by simp [State.outside, Footprint.keep, h]

theorem State.outside_persist (x : Persist) (h : Part.persist ∈ f.parts) :
    ({ s with persist := x } : State).outside f = s.outside f := by simp [State.outside, Footprint.keep, h]

theorem State.outside_keep (x : Keep) (h : Part.keep ∈ f.parts) :
    ({ s with keep := x } : State).outside f = s.outside f := by simp [State.outside, Footprint.keep, h]

theorem State.outside_append (x : Append) (h : Part.append ∈ f.parts) :
    ({ s with append := x } : State).outside f = s.outside f := by simp [State.outside, Footprint.keep, h]

theorem State.outside_mirror (x : Mirror) (h : Part.mirror ∈ f.parts) :
    ({ s with mirror := x } : State).outside f = s.outside f := by simp [State.outside, Footprint.keep, h]

theorem State.outside_carriers (x : Tbl Carrier) (h : Part.carriers ∈ f.parts) :
    ({ s with carriers := x } : State).outside f = s.outside f := by simp [State.outside, Footprint.keep, h]

theorem State.outside_events (x : Events) (h : Part.events ∈ f.parts) :
    ({ s with events := x } : State).outside f = s.outside f := by simp [State.outside, Footprint.keep, h]

theorem State.outside_dma (x : Dma) (h : Part.dma ∈ f.parts) :
    ({ s with dma := x } : State).outside f = s.outside f := by simp [State.outside, Footprint.keep, h]

theorem State.outside_power (x : Power) (h : Part.power ∈ f.parts) :
    ({ s with power := x } : State).outside f = s.outside f := by simp [State.outside, Footprint.keep, h]

theorem State.outside_security (x : Security) (h : Part.security ∈ f.parts) :
    ({ s with security := x } : State).outside f = s.outside f := by simp [State.outside, Footprint.keep, h]

theorem State.outside_lexicon (x : Lexicon) (h : Part.lexicon ∈ f.parts) (q : Part.frames ∈ f.parts) :
    ({ s with lexicon := x } : State).outside f = s.outside f := by simp [State.outside, Footprint.keep, h, q]

theorem State.outside_drawsBy (x : Nat) (h : Part.draws ∈ f.parts) :
    ({ s with draws := x } : State).outside f = s.outside f := by simp [State.outside, Footprint.keep, h]

theorem State.outside_keepRead (r : Reg.keepEccCorrected ∈ f.regs) (d : Part.draws ∈ f.parts) :
    s.keepRead.outside f = s.outside f := by
  rw [State.keepRead, State.outside_drawn _ _ d, State.outside_bump _ _ _ _ _ r]

end

end Sys2Proof.Machine

namespace Sys2Proof.Machine

/-! ### What a restart of the image may change (R78 to R82) -/

/-- The restart, with the messages it sends and the sources it raises. -/
def Footprint.restart : Footprint := Footprint.message.plus
  [Reg.keepEccCorrected, Reg.imageState, Reg.restartPhase, Reg.restartCarrierStatus, Reg.restoreHeldBytes,
    Reg.activeCarriers, Reg.imageSegments, Reg.sealSequence, Reg.keepBank, Reg.faultCause, Reg.windowOpen,
    Reg.semicolonState]
  [.restore, .draws, .stop, .blobs, .carriers, .persist]

section
variable (s : State) {f : Footprint}

theorem State.frame_report (o n v : Nat) (h : Part.blobs ∈ f.parts) : (s.report o n v).outside f = s.outside f :=
  State.outside_setBlob _ _ _ _ _ h

theorem State.frame_countHeld (h : Reg.restoreHeldBytes ∈ f.regs) : s.countHeld.outside f = s.outside f :=
  State.outside_ite _ rfl (State.outside_set _ _ _ _ _ h)

theorem State.frame_fillReport (n : Nat) (h : Part.blobs ∈ f.parts) : (s.fillReport n).outside f = s.outside f := by
  unfold State.fillReport
  dsimp only
  rw [State.outside_each _ _ _ _ (fun s _ => State.frame_report s _ _ _ h),
    State.outside_each _ _ _ _ (fun s _ => State.frame_report s _ _ _ h)]

/-- What an image in Fault may change (R79). -/
def Footprint.fault : Footprint := Footprint.event.plus
  [Reg.imageState, Reg.faultCause, Reg.windowOpen, Reg.semicolonState] [.persist, .blobs]

theorem State.frame_faultImage (cause : Nat) (h : Footprint.fault.le f = true) :
    (s.faultImage cause).outside f = s.outside f := by
  refine State.outside_le h ?_
  have moved : (State.modPersist (((((s.set Reg.faultCause 0 cause).setImage .fault).set Reg.windowOpen 0 0).set
      Reg.semicolonState 0 0)) (fun p => { p with running := false, trigger := false, sealDue := false, beginDue := none })
      ).outside .fault = s.outside .fault := by
    rw [State.outside_modPersist _ _ _ (by decide), State.outside_set _ _ _ _ _ (by decide),
      State.outside_set _ _ _ _ _ (by decide), State.frame_setImage _ _ (by decide), State.outside_set _ _ _ _ _ (by decide)]
  refine State.outside_ite _ ?_ moved
  rw [State.outside_each _ _ _ _ (fun s _ => State.frame_report s _ _ _ (by decide)), State.frame_report _ _ _ _ (by decide)]
  exact moved

theorem State.frame_sealFallback (h : Footprint.event.le f = true) : s.sealFallback.outside f = s.outside f := by
  refine State.outside_le h ?_
  unfold State.sealFallback
  split
  · rfl
  · exact State.outside_ite _ (State.event_recordMgmt _ _ _ _ _ _) (State.outside_modEvents _ _ _ (by decide))

theorem State.frame_restartFails (cause : Nat) (h : Footprint.fault.le f = true) :
    (s.restartFails cause).outside f = s.outside f := by
  refine State.outside_le h (State.outside_ite _ ?_ (State.frame_faultImage _ _ (by decide)))
  rw [State.frame_sealFallback _ (by decide), State.frame_faultImage _ _ (by decide), State.frame_fillReport _ _ (by decide)]

theorem State.frame_queryIdent (c : Nat) (h : Footprint.message.le f = true) : (s.queryIdent c).outside f = s.outside f :=
  State.outside_each _ _ _ _ (fun s _ => State.frame_sendCarrier s _ _ _ _ h)

/-- The restart up to the choice of its bank: nothing stands of the image but what the carriers still hold back. -/
def State.restartCleared (warm : Bool) (startAt : Nat) : State :=
  let kept := s.restore.held.filter (fun h => h.work.imageRange.any (·.1))
  let s := { s with restore := { Restore.reset with
    bank := s.keep.latest, epoch := s.keep.cutEpoch, torn := s.keep.torn.map (fun (x : Nat × Option Nat) => x.2)
    warm := warm, startAt := startAt, prevIntent := s.keep.lastIntent, held := kept, heldReads := s.restore.heldReads
    sealMs := s.msSinceGood } }
  let s := { s.keepRead with stop := FullStop.reset }
  let s := ((s.setImage .restoring).set Reg.restartPhase 0 1).setBlob Reg.restartReport 0 []
  (s.each (List.range 8) (fun s c => (s.set Reg.restartCarrierStatus c 0).modCar c (fun x => { x with
    ident0 := false, ident1 := false, ready := false, front := none }))).countHeld

/-- The restart takes the image of a complete seal (R79, step 3). -/
def State.restartTakes (bank : Nat) (r : SealRec) : State :=
  ((((s.set Reg.activeCarriers 0 r.carriers).set Reg.imageSegments 0 r.segments).setBlob Reg.imageId 0
    (le 16 r.imageId)).set Reg.sealSequence 0 r.seq).set Reg.keepBank 0 bank

/-- The links on which an IDENT is asked for. -/
def State.asksIdents : State :=
  (s.set Reg.restartPhase 0 2).each (s.set Reg.restartPhase 0 2).activeCarriers (fun s c => s.queryIdent c)

theorem State.restartBegin_unsealed (warm : Bool) (startAt : Nat)
    (h : s.keep.latest.bind (fun b => (s.keep.bank b).complete) = none) :
    s.restartBegin warm startAt = (s.restartCleared warm startAt).restartFails 0x0101 := by
  simp only [State.restartBegin, State.restartCleared, h]

theorem State.restartBegin_sealed (warm : Bool) (startAt : Nat) {b : Nat} {r : SealRec} (latest : s.keep.latest = some b)
    (complete : (s.keep.bank b).complete = some r) : s.restartBegin warm startAt =
    if (s.keep.bank b).readable then ((s.restartCleared warm startAt).restartTakes b r).asksIdents
    else ((s.restartCleared warm startAt).restartTakes b r).restartFails 0x0109 := by
  simp only [State.restartBegin, State.restartCleared, State.restartTakes, State.asksIdents, latest, complete, Option.bind_some, Option.getD_some]

theorem State.frame_restartCleared (warm : Bool) (startAt : Nat) (h : Footprint.restart.le f = true) :
    (s.restartCleared warm startAt).outside f = s.outside f := by
  refine State.outside_le h ?_
  unfold State.restartCleared
  dsimp only
  rw [State.frame_countHeld _ (by decide), State.outside_each _ _ _ _ (fun s c => by
      rw [State.outside_modCar _ _ _ _ (by decide), State.outside_set _ _ _ _ _ (by decide)]),
    State.outside_setBlob _ _ _ _ _ (by decide), State.outside_set _ _ _ _ _ (by decide),
    State.frame_setImage _ _ (by decide), State.outside_stop _ _ (by decide),
    State.outside_keepRead _ (by decide) (by decide), State.outside_restore _ _ (by decide)]

theorem State.frame_restartTakes (b : Nat) (r : SealRec) (h : Footprint.restart.le f = true) :
    (s.restartTakes b r).outside f = s.outside f := by
  refine State.outside_le h ?_
  unfold State.restartTakes
  rw [State.outside_set _ _ _ _ _ (by decide), State.outside_set _ _ _ _ _ (by decide),
    State.outside_setBlob _ _ _ _ _ (by decide), State.outside_set _ _ _ _ _ (by decide),
    State.outside_set _ _ _ _ _ (by decide)]

theorem State.frame_asksIdents (h : (Footprint.message.plus [Reg.restartPhase] []).le f = true) :
    s.asksIdents.outside f = s.outside f := by
  refine State.outside_le h ?_
  unfold State.asksIdents
  rw [State.outside_each _ _ _ _ (fun s c => State.frame_queryIdent s c (by decide)),
    State.outside_set _ _ _ _ _ (by decide)]

/-- Whatever it finds, the restart stays inside its footprint. -/
theorem State.frame_restartBegin (warm : Bool) (startAt : Nat) (h : Footprint.restart.le f = true) :
    (s.restartBegin warm startAt).outside f = s.outside f := by
  refine State.outside_le h ?_
  cases latest : s.keep.latest.bind (fun b => (s.keep.bank b).complete) with
  | none =>
    rw [State.restartBegin_unsealed s warm startAt latest, State.frame_restartFails _ _ (by decide),
      State.frame_restartCleared _ _ _ (by decide)]
  | some r =>
    obtain ⟨b, latest, complete⟩ := Option.bind_eq_some_iff.mp latest
    rw [State.restartBegin_sealed s warm startAt latest complete]
    refine State.outside_ite _ ?_ ?_
    · rw [State.frame_asksIdents _ (by decide), State.frame_restartTakes _ _ _ (by decide),
        State.frame_restartCleared _ _ _ (by decide)]
    · rw [State.frame_restartFails _ _ (by decide), State.frame_restartTakes _ _ _ (by decide),
        State.frame_restartCleared _ _ _ (by decide)]

end

/-! ### What a boot leaves of the state it starts from (R430, R431, R458) -/

/-- What the boot of the firmware neither reads from the stored set nor raises: time, the power-fail latches, the banks of
the Keep store, PERST_N, Bus Master, BOOT_SEL, and the run of a SIGNED_CONFIG. -/
def State.bootKept (s : State) : Clock × Power × Bank × Bank × Bool × SegSet × Nat ×
    Option (Path × Requester × List Byte × Nat) :=
  (s.clock, s.power, s.keep.bank0, s.keep.bank1, s.host.perstLow, s.host.busMaster, s.security.bootSel,
    s.lexicon.config)

theorem State.bootKept_of_outside {s t : State} {f : Footprint} (h : t.outside f = s.outside f) (c : Part.clock ∉ f.parts)
    (p : Part.power ∉ f.parts) (k : Part.keep ∉ f.parts) (o : Part.host ∉ f.parts) (x : Part.security ∉ f.parts)
    (l : Part.lexicon ∉ f.parts) : t.bootKept = s.bootKept := by
  simp only [State.bootKept, State.clock_of_outside h c, State.power_of_outside h p, State.keep_of_outside h k,
    State.host_of_outside h o, State.security_of_outside h x,
    State.config_of_outside h l]

section
variable (s : State)

theorem State.bootKept_raise (i n u : Nat) : (s.raise i n u).bootKept = s.bootKept :=
  State.bootKept_of_outside (State.event_raise s i n u) (by decide) (by decide) (by decide) (by decide) (by decide)
    (by decide)

theorem State.bootKept_withdrawUnit (i n u : Nat) : (s.withdrawUnit i n u).bootKept = s.bootKept :=
  State.bootKept_of_outside (State.event_withdrawUnit s i n u) (by decide) (by decide) (by decide) (by decide)
    (by decide) (by decide)

theorem State.frame_ckptStands {f : Footprint} (c : Nat) (was : Bool) (h : Part.persist ∈ f.parts) :
    (s.ckptStands c was).outside f = s.outside f := by
  unfold State.ckptStands
  split
  · rfl
  · exact State.outside_ite _ rfl (State.outside_persist _ _ h)

/-- What a change of a link's state may change by itself. -/
def Footprint.linkState : Footprint := ⟨[Reg.linkState, Reg.linksUp], [.persist]⟩

theorem State.frame_setLinkState {f : Footprint} (u : Nat) (st : LinkState) (h : Footprint.linkState.le f = true) :
    (s.setLinkState u st).outside f = s.outside f := by
  refine State.outside_le h ?_
  have moved : ((s.set Reg.linkState u st.code).putBit Reg.linksUp 0 u st.isUp).outside .linkState = s.outside .linkState := by
    rw [State.putBit_eq, State.outside_set _ _ _ _ _ (by decide), State.outside_set _ _ _ _ _ (by decide)]
  exact State.outside_ite _ ((State.frame_ckptStands _ _ _ (by decide)).trans moved) moved

theorem State.bootKept_setLinkState (u : Nat) (st : LinkState) : (s.setLinkState u st).bootKept = s.bootKept :=
  State.bootKept_of_outside (State.frame_setLinkState (f := .linkState) s u st (by decide)) (by decide) (by decide)
    (by decide) (by decide) (by decide) (by decide)

theorem State.bootKept_writeFieldAccess (v : Nat) : (s.writeFieldAccess v).bootKept = s.bootKept := by
  refine State.keeps_ite State.bootKept ?_ (State.keeps_ite State.bootKept rfl rfl)
  exact State.bootKept_withdrawUnit _ _ _ _

theorem State.bootKept_putBoot (r i v : Nat) : (s.putBoot r i v).bootKept = s.bootKept :=
  State.keeps_ite State.bootKept (State.bootKept_setLinkState _ _ _)
    (State.keeps_ite State.bootKept (State.bootKept_writeFieldAccess _ _) rfl)

theorem State.bootKept_put (r i v : Nat) : (s.put r i v).bootKept = s.bootKept := State.keeps_ite State.bootKept rfl rfl

theorem State.bootKept_loadOwner (c : StoredCopy) : (s.loadOwner c).bootKept = s.bootKept :=
  State.keeps_ite State.bootKept rfl (State.keeps_ite State.bootKept rfl (State.keeps_ite State.bootKept rfl rfl))

theorem State.bootKept_loadSet : s.loadSet.bootKept = s.bootKept := by
  unfold State.loadSet
  dsimp only
  split
  · exact (State.bootKept_raise _ _ _ _).trans (State.bootKept_loadOwner _ _)
  · refine (State.bootKept_loadOwner _ _).trans ?_
    exact State.keeps_each State.bootKept _ _ _ (fun s x => State.bootKept_putBoot s _ _ _)

theorem State.bootKept_adoptAll : s.adoptAll.bootKept = s.bootKept := by
  refine State.keeps_each State.bootKept _ _ _ (fun s i => ?_)
  refine (State.keeps_each State.bootKept _ _ _ (fun s x => ?_)).trans
    (State.keeps_each State.bootKept _ _ _ (fun s x => State.bootKept_put s _ _ _))
  exact State.keeps_ite State.bootKept rfl (State.bootKept_put _ _ _ _)

/-- The host port with its sizes and its subsystem taken from the registers. -/
def State.portLoaded : State :=
  s.loadBars.modHost (fun h => { h with
    subVendor := s.loadBars.get Reg.hostSubsysVendor, subId := s.loadBars.get Reg.hostSubsysId })

theorem State.bootKept_portLoaded : s.portLoaded.bootKept = s.bootKept := rfl

/-- The firmware of a slot with its stored set loaded, `bad` slots before it having failed. -/
def State.firmwareLoaded (slot bad : Nat) : State :=
  ((s.put Reg.fwActiveSlot 0 slot).put Reg.verifyFailures 0 bad).loadSet.adoptAll.portLoaded

/-- A slot that failed its test raises source 0x0F0. -/
def State.slotFailed (bad : Nat) : State := if bad = 0 then s else s.raise 0 0x0F0 0

theorem State.firmwareStarts_eq (slot bad : Nat) (warm : Bool) : s.firmwareStarts slot bad warm =
    if ((s.firmwareLoaded slot bad).slotFailed bad).keep.sealedAtPower then
      (((s.firmwareLoaded slot bad).slotFailed bad).set Reg.imageState 0 5).restartBegin warm 0
    else (s.firmwareLoaded slot bad).slotFailed bad := by
  rfl

theorem State.bootKept_slotFailed (bad : Nat) : (s.slotFailed bad).bootKept = s.bootKept :=
  State.keeps_ite State.bootKept rfl (State.bootKept_raise _ _ _ _)

theorem State.bootKept_restartBegin (warm : Bool) (startAt : Nat) : (s.restartBegin warm startAt).bootKept = s.bootKept :=
  State.bootKept_of_outside (State.frame_restartBegin (f := .restart) _ _ _ (by decide)) (by decide) (by decide)
    (by decide) (by decide) (by decide) (by decide)

theorem State.bootKept_set (r i v : Nat) : (s.set r i v).bootKept = s.bootKept := rfl

theorem State.bootKept_firmwareStarts (slot bad : Nat) (warm : Bool) : (s.firmwareStarts slot bad warm).bootKept = s.bootKept := by
  have loaded : ((s.firmwareLoaded slot bad).slotFailed bad).bootKept = s.bootKept := by
    rw [State.bootKept_slotFailed, State.firmwareLoaded, State.bootKept_portLoaded, State.bootKept_adoptAll,
      State.bootKept_loadSet, State.bootKept_put, State.bootKept_put]
  rw [State.firmwareStarts_eq]
  refine State.keeps_ite State.bootKept ?_ loaded
  rw [State.bootKept_restartBegin, State.bootKept_set, loaded]

theorem State.bootKept_recoveryField : s.recoveryField.bootKept = s.bootKept := by
  unfold State.recoveryField
  split
  · refine State.keeps_each State.bootKept _ _ _ (fun s e => State.keeps_ite State.bootKept ?_ rfl)
    split
    · exact State.bootKept_putBoot _ _ _ _
    · rfl
  · rfl

/-- The boot starts from BOOT_SEL. -/
def State.bootFrom (b : Nat) : State := { s with security := { s.security with bootSel := b } }

theorem State.bootKept_boot (b : Nat) (warm : Bool) : (s.boot b warm).bootKept = (s.bootFrom b).bootKept := by
  unfold State.boot
  dsimp only
  split
  · exact State.bootKept_firmwareStarts (s.bootFrom b) _ _ _
  · exact (State.bootKept_recoveryField _).trans rfl

end

end Sys2Proof.Machine

namespace Sys2Proof.Machine

/-! ### The power-fail inputs (R61, R412, R414) -/

section
variable (s : State)

theorem exec_pfailNInput_powered (powered : s.clock.powered = true) (high : Bool) (cyc : Fin 128) :
    exec (.pfailNInput high cyc) s = .next (s.after ((s.atCycle cyc.val).pfailInput high)) := by
  rw [exec_pfailNInput, execPfailNInput, actRom_powered s _ powered, done_spec]

theorem exec_powerFailDetect_powered (powered : s.clock.powered = true) (vsense : Bool) (cyc : Fin 128) :
    exec (.powerFailDetect vsense cyc) s = .next (s.after ((s.atCycle cyc.val).powerFails vsense)) := by
  rw [exec_powerFailDetect, execPowerFailDetect, actRom_powered s _ powered, done_spec]

theorem State.pfailInput_same : s.pfailInput s.power.pfailHigh = s := if_pos rfl

theorem State.pfailInput_falls (h : s.power.pfailHigh = true) : s.pfailInput false =
    { s with power := { s.power with pfailHigh := false, lowSince := some s.now } } := by
  simp only [State.pfailInput, h, Bool.false_eq_true, if_false, Bool.not_false, if_true]
  rfl

/-- PFAIL_N is high again; the clear time of a detection starts where it has not. -/
def State.pfailReturns : State := { s with power := { s.power with
  pfailHigh := true, lowSince := none
  clearSince := if s.power.detected && (s.pfailLow || s.power.clearSince.isNone) && s.power.vsenseOk then some s.now
    else s.power.clearSince } }

theorem State.pfailInput_returns (h : s.power.pfailHigh = false)
    (quiet : (s.pfailLow || s.power.detected || !(bit (s.get Reg.pfailSources) 0)) = true) :
    s.pfailInput true = s.pfailReturns := by
  simp only [State.pfailInput, h, Bool.true_eq_false, if_false, Bool.not_true, Bool.false_eq_true]
  exact if_pos quiet

theorem State.pfailInput_glitch (h : s.power.pfailHigh = false)
    (glitch : (s.pfailLow || s.power.detected || !(bit (s.get Reg.pfailSources) 0)) = false) :
    s.pfailInput true = match s.power.glitchAt with
      | some c => if s.clauseNow < c + 1000 then s.pfailReturns.bump Reg.pfailGlitches
          else ((s.pfailReturns.bump Reg.pfailGlitches).modPower
            (fun p => { p with glitchAt := some s.clauseNow })).raise 0 0x0D2 0
      | none => ((s.pfailReturns.bump Reg.pfailGlitches).modPower
          (fun p => { p with glitchAt := some s.clauseNow })).raise 0 0x0D2 0 := by
  simp only [State.pfailInput, h, Bool.true_eq_false, if_false, Bool.not_true, Bool.false_eq_true]
  exact (if_neg (by simpa using glitch)).trans rfl

theorem State.pfailReturns_plain (h : s.power.detected = false) : s.pfailReturns =
    { s with power := { s.power with pfailHigh := true, lowSince := none } } := by
  simp only [State.pfailReturns, h, Bool.false_and, Bool.false_eq_true, if_false]

/-- A glitch of which none was raised in the last 1,000 clauses is raised. -/
theorem State.pfailInput_raises (h : s.power.pfailHigh = false) (undetected : s.power.detected = false)
    (short : s.pfailLow = false) (source : bit (s.get Reg.pfailSources) 0 = true)
    (first : ∀ c, s.power.glitchAt = some c → c + 1000 ≤ s.clock.clause) :
    s.pfailInput true = (State.bump { s with power := { s.power with
      pfailHigh := true, lowSince := none, glitchAt := some s.clock.clause } } Reg.pfailGlitches).raise 0 0x0D2 0 := by
  rw [State.pfailInput_glitch s h (by simp [undetected, short, source]), State.pfailReturns_plain s undetected]
  cases at_ : s.power.glitchAt with
  | none => rfl
  | some c => exact if_neg (Nat.not_lt.mpr (first c at_))

theorem State.pfailInput_counts (h : s.power.pfailHigh = false) (undetected : s.power.detected = false)
    (short : s.pfailLow = false) (source : bit (s.get Reg.pfailSources) 0 = true) {c : Nat}
    (at_ : s.power.glitchAt = some c) (recent : s.clock.clause < c + 1000) :
    s.pfailInput true = State.bump { s with power := { s.power with pfailHigh := true, lowSince := none } }
      Reg.pfailGlitches := by
  rw [State.pfailInput_glitch s h (by simp [undetected, short, source]), State.pfailReturns_plain s undetected, at_]
  exact if_pos recent

theorem State.powerFails_ignored {vsense : Bool}
    (h : s.power.detected = true ∨ bit (s.get Reg.pfailSources) (b2n vsense) = false ∨ (vsense = false ∧ s.pfailLow = false)) :
    s.powerFails vsense = s := by
  refine if_pos ?_
  obtain h | h | ⟨h, low⟩ := h <;> simp [*]

theorem State.powerFails_detects {vsense : Bool} (h : s.power.detected = false)
    (source : bit (s.get Reg.pfailSources) (b2n vsense) = true) (low : vsense = true ∨ s.pfailLow = true) :
    s.powerFails vsense = { s with
      clock := { s.clock with gated := false }
      power := { s.power with detected := true, vsenseOk := s.power.vsenseOk && !vsense
                              clearSince := if vsense then some s.now else none } } := by
  have detects : ¬ ((s.power.detected || !(bit (s.get Reg.pfailSources) (b2n vsense)) || (!vsense && !s.pfailLow)) = true) := by
    obtain rfl | low := low <;> simp [*]
  unfold State.powerFails
  rw [if_neg detects]
  rfl

/-! ### The warm restart (R414) -/

theorem exec_warmRestart_awake (b : Fin 4) (h : s.awake = true) :
    exec (.warmRestart b) s = .next (s.after (if s.mayWarm then s.warmStart b.val else s)) := by
  rw [exec_warmRestart, execWarmRestart, act_of_awake s _ h]

/-- What a warm restart starts the boot from: the always-on domain and the Keep store stand. -/
def State.warmFresh : State :=
  { s.fresh true with
    regs := s.regs.filter (fun x => alwaysOn.contains (x.1 / 4294967296))
    clock := { (s.fresh true).clock with steadySince := s.clock.steadySince.map (fun _ => 0) }
    host := { (s.fresh true).host with perstLow := s.host.perstLow }
    events := { (s.fresh true).events with gpio := s.events.gpio, peWake := s.events.peWake }
    power := { (s.fresh true).power with
      pfailHigh := s.power.pfailHigh
      lowSince := s.power.lowSince.map (fun _ => 0)
      vsenseOk := true } }

theorem State.bootKept_warmStart (b : Nat) : (s.warmStart b).bootKept = (s.warmFresh.bootFrom b).bootKept := by
  rw [← State.bootKept_boot s.warmFresh b true]
  exact State.keeps_ite State.bootKept rfl rfl

theorem State.warmStart_effect (b : Nat) : (s.warmStart b).clock.clause = 0 ∧ (s.warmStart b).clock.powered = true ∧
    (s.warmStart b).power.detected = false ∧ (s.warmStart b).power.cutDone = false ∧
    (s.warmStart b).power.pfailHigh = s.power.pfailHigh ∧ (s.warmStart b).host.perstLow = s.host.perstLow ∧
    (s.warmStart b).host.busMaster = [] ∧ (s.warmStart b).keep.bank0 = s.keep.bank0 ∧
    (s.warmStart b).keep.bank1 = s.keep.bank1 ∧ (s.warmStart b).security.bootSel = b := by
  have kept := State.bootKept_warmStart s b
  simp only [State.bootKept, Prod.mk.injEq] at kept
  obtain ⟨clock, power, bank0, bank1, perst, master, sel, _⟩ := kept
  rw [clock, power, bank0, bank1, perst, master, sel]
  exact ⟨rfl, rfl, rfl, rfl, rfl, rfl, rfl, rfl, rfl, rfl⟩

/-- The device may start again once it is quiet, its power has stayed clear, and it is cool. -/
theorem State.mayWarm_iff : s.mayWarm = true ↔ s.power.detected = true ∧ s.power.cutDone = true ∧ s.keep.job = none ∧
    (s.stop.active = false ∨ s.stop.stateAtCut = 4 ∨ s.stop.quiet = true) ∧ s.pfailLow = false ∧
    (∃ t, s.power.clearSince = some t ∧ s.due (t + 250000 * s.get Reg.pfailReturnTime) = true) ∧
    signed32 (s.get Reg.tjMax) < 65536 * (s.get Reg.tjAlert : Int) := by
  simp only [State.mayWarm, Bool.and_eq_true, Bool.or_eq_true, Bool.not_eq_true', Option.isNone_iff_eq_none,
    Option.any_eq_true, beq_iff_eq, decide_eq_true_eq, msCycles, Nat.mul_comm (s.get Reg.pfailReturnTime), and_assoc, or_assoc]

end

/-- Settles O10: the branches of the two inputs, and the warm restart by what its boot keeps (`bootKept_boot`). -/
theorem powerFailsAndReturns : Obligations.PowerFailsAndReturns := by
  unfold Obligations.PowerFailsAndReturns
  refine ⟨fun cyc s u powered hu => ?_, fun b s awake => ⟨fun t0 detected cut job quiet clear since due cool => ?_, fun t0 h => ?_⟩⟩
  · subst hu
    have power : (s.atCycle cyc.val).power = s.power := rfl
    have sources : (s.atCycle cyc.val).get Reg.pfailSources = s.get Reg.pfailSources := rfl
    simp only [exec_pfailNInput_powered s powered, exec_powerFailDetect_powered s powered]
    rw [← power, ← sources]
    generalize hu : s.atCycle cyc.val = u
    have clause : s.clock.clause = u.clock.clause := by rw [← hu]; rfl
    rw [clause]
    refine ⟨by rw [State.pfailInput_same], fun high => by rw [State.pfailInput_falls u high], fun low undetected h => ?_,
      fun c low undetected short source at_ recent => by
        rw [State.pfailInput_counts u low undetected short source at_ recent],
      fun low undetected short source first => by rw [State.pfailInput_raises u low undetected short source first],
      fun low detected ok h => ?_, fun low detected h => ?_,
      fun v detected => by rw [State.powerFails_ignored u (.inl detected)],
      fun v off => by rw [State.powerFails_ignored u (.inr (.inl off))],
      fun undetected source low => by rw [State.powerFails_detects u (vsense := false) undetected source (.inr low)]; simp,
      fun undetected short => by rw [State.powerFails_ignored u (.inr (.inr ⟨rfl, short⟩))],
      fun undetected source => by rw [State.powerFails_detects u (vsense := true) undetected source (.inl rfl)]; simp⟩
    · rw [State.pfailInput_returns u low (by obtain h | h := h <;> simp [h]), State.pfailReturns_plain u undetected]
    · rw [State.pfailInput_returns u low (by simp [detected]), State.pfailReturns]
      obtain h | h := h <;> simp [h, detected, ok]
    · rw [State.pfailInput_returns u low (by simp [detected]), State.pfailReturns]
      obtain h | ⟨short, since⟩ := h
      · simp [h]
      · simp [short, since]
  · rw [exec_warmRestart_awake s b awake,
      if_pos ((State.mayWarm_iff s).mpr ⟨detected, cut, job, quiet, clear, ⟨t0, since, due⟩, cool⟩)]
    exact ⟨_, rfl, State.warmStart_effect s b.val⟩
  · rw [exec_warmRestart_awake s b awake, if_neg]
    intro may
    obtain ⟨detected, cut, job, quiet, clear, ⟨t, since, due⟩, cool⟩ := (State.mayWarm_iff s).mp may
    obtain h | h | h | h | h | h | ⟨h, late⟩ | ⟨active, image, loud⟩ := h
    · simp [detected] at h
    · simp [cut] at h
    · exact h job
    · simp [clear] at h
    · omega
    · simp [since] at h
    · rw [since, Option.some.injEq] at h
      subst h
      simp [due] at late
    · obtain idle | state | silent := quiet
      · simp [active] at idle
      · exact image state
      · simp [loud] at silent

end Sys2Proof.Machine

namespace Sys2Proof.Machine

/-! ### How a write request that a command brings is answered (R453) -/

section
variable (s : State)

/-- A write whose effect is refused: the abort is counted, and its code answered. -/
theorem State.direct_refused {c : Instr} {a : Ask} {o : Obj} {u : Nat} {v : State} {r : Abort} (hr : requestOf c = some a)
    (h : s.allows c = true) (hl : Reg.lookup a.q.index = .entry o u)
    (he : (s.taken a.q.path).applyWrite a.q.path (.direct a.q.path) a.extra o (o.place u a.q.row) a.value = (v, r))
    (ok : r ≠ .ok) (later : r ≠ .later) (idle : v.lexicon.config = none) :
    actRom s (fun s => s.direct c) = .next (s.after ((v.bump Reg.lexAborts).emit (.lexAnswer a.q.path r.code []))) := by
  rw [State.direct_settles s hr h hl, he, State.settle_refused_run v _ ok later idle]

/-- A write whose answer comes later leaves what its effect leaves. -/
theorem State.direct_later {c : Instr} {a : Ask} {o : Obj} {u : Nat} {v : State} (hr : requestOf c = some a)
    (h : s.allows c = true) (hl : Reg.lookup a.q.index = .entry o u)
    (he : (s.taken a.q.path).applyWrite a.q.path (.direct a.q.path) a.extra o (o.place u a.q.row) a.value = (v, .later))
    (idle : v.lexicon.config = none) : actRom s (fun s => s.direct c) = .next (s.after v) := by
  rw [State.direct_settles s hr h hl, he]
  show Host.Outcome.next (s.after v.runConfig) = _
  rw [State.runConfig_none v idle]

/-- Such an answer is the last to have left. -/
theorem State.answered_after (v : State) (p : Path) (a : Abort) :
    (s.after (v.emit (.lexAnswer p a.code []))).answered p a := List.getLast?_concat

/-- IMAGE_COMMAND with a value that is answered OK. -/
theorem State.image_ok {c : Instr} {p : Path} {k : Byte} {v : State} (hr : requestOf c = some (askOf p Reg.imageCommand 0 [k]))
    (h : s.allows c = true) (he : (s.taken p).imageCommand (.direct p) (fromLe [k]) = (v, .ok))
    (idle : v.lexicon.config = none) :
    actRom s (fun s => s.direct c) = .next (s.after (v.emit (.lexAnswer p 0 []))) := by
  rw [Reg.ask_imageCommand] at hr
  exact State.direct_ok s hr h Reg.lookup_imageCommand ((State.apply_imageCommand _ _ _ _ _ _).trans he) idle

end

/-! ### What the governor may change as it follows the planes (R53) -/

/-- The governor's step of one carrier. -/
def Footprint.governor : Footprint := Footprint.event.plus [Reg.govDirty, Reg.govState] []

section
variable (s : State) {f : Footprint}

theorem State.frame_govEnter (c new : Nat) (h : Footprint.governor.le f = true) : (s.govEnter c new).outside f = s.outside f := by
  refine State.outside_le h (State.outside_ite _ rfl ?_)
  have told (x : State) : (if 2 ≤ new ∨ 2 ≤ s.get Reg.govState c then
      x.recordMgmt 0 0x23 0 0x020 (x.throttlePayload c new (s.get Reg.govState c)) else x).outside .governor = x.outside .governor :=
    State.outside_ite _ (State.frame_recordMgmt _ _ _ _ _ _ (by decide)) rfl
  have raised (x : State) : (if new = 3 then x.raise 0 0x020 c else if s.get Reg.govState c = 3 then x.withdrawUnit 0 0x020 c
      else x).outside .governor = x.outside .governor :=
    State.outside_ite _ (State.frame_raise _ _ _ _ (by decide))
      (State.outside_ite _ (State.frame_withdrawUnit _ _ _ _ (by decide)) rfl)
  have entered : (s.set Reg.govState c new).outside .governor = s.outside .governor :=
    State.outside_set _ _ _ _ _ (by decide)
  exact State.outside_ite _ ((State.frame_pulse _ _ (by decide)).trans ((raised _).trans ((told _).trans entered)))
    ((raised _).trans ((told _).trans entered))

theorem State.frame_govUpdate (c : Nat) (h : Footprint.governor.le f = true) : (s.govUpdate c).outside f = s.outside f := by
  refine State.outside_le h ?_
  have counted : (s.set Reg.govDirty c (s.dirtyCount c)).outside .governor = s.outside .governor :=
    State.outside_set _ _ _ _ _ (by decide)
  refine State.outside_ite _ counted ?_
  rw [State.frame_govEnter _ _ _ (by decide), State.frame_govEnter _ _ _ (by decide), State.frame_govEnter _ _ _ (by decide),
    counted]

theorem State.frame_govUpdateAll (h : Footprint.governor.le f = true) : s.govUpdateAll.outside f = s.outside f :=
  State.outside_each _ _ _ _ (fun s c => State.frame_govUpdate s c h)

end

/-! ### The progress of the carriers in a Semicolon -/

section
variable (s : State)

@[simp] theorem State.semi_putSemi_same (c : Nat) (t : SemiCar) : (s.putSemi c t).semi c = t := Tbl.getD_put_same _ _ _ _

theorem State.semi_putSemi_other {c k : Nat} (t : SemiCar) (h : c ≠ k) : (s.putSemi c t).semi k = s.semi k :=
  Tbl.getD_put_other _ _ _ _ _ h

theorem State.semi_of_persist {s t : State} (h : t.persist = s.persist) (c : Nat) : t.semi c = s.semi c := by
  rw [State.semi, h, State.semi]

theorem State.persist_sendCarrier (c : Nat) (b : Bool) (l : Nat) (m : Msg) : (s.sendCarrier c b l m).persist = s.persist :=
  State.persist_of_outside (State.message_sendCarrier s c b l m) (by decide)

/-- What CKPT_BEGIN to a carrier leaves of its progress. -/
def State.semiBegun (c : Nat) (attempt : Bool) : SemiCar :=
  { s.semi c with
    sentAt := s.now, countAtSend := s.persisted c, begun := true, trying := attempt
    darkAt := if s.carrierHasUp c then none else some s.now }

theorem State.ckptBegin_eq (c : Nat) (attempt : Bool) : s.ckptBegin c attempt =
    (s.putSemi c (s.semiBegun c attempt)).sendCarrier c true 0 { op := 0x13, p0 := s.persist.epoch, p1 := s.persist.count } := rfl

theorem State.semi_ckptBegin (c k : Nat) (attempt : Bool) :
    (s.ckptBegin c attempt).semi k = (s.putSemi c (s.semiBegun c attempt)).semi k := by
  rw [State.ckptBegin_eq]
  exact State.semi_of_persist (State.persist_sendCarrier _ _ _ _ _) k

/-- What CKPT_BEGIN may change. -/
def Footprint.ckptBegin : Footprint := Footprint.message.plus [] [.persist]

theorem State.frame_ckptBegin {f : Footprint} (c : Nat) (attempt : Bool) (h : Footprint.ckptBegin.le f = true) :
    (s.ckptBegin c attempt).outside f = s.outside f := by
  refine State.outside_le h ?_
  rw [State.ckptBegin_eq, State.frame_sendCarrier _ _ _ _ _ (by decide), State.putSemi_eq,
    State.outside_modPersist _ _ _ (by decide)]

theorem State.now_of_outside {s t : State} {f : Footprint} (h : t.outside f = s.outside f) (n : Part.clock ∉ f.parts) :
    t.now = s.now := by
  rw [State.now, State.clock_of_outside h n, State.now]

/-! ### IMAGE_COMMAND SEMICOLON (R58 to R60) -/

/-- A carrier of a stuck Semicolon takes up again: its attempts are counted anew. -/
def State.resumes (c : Nat) : State := (s.putSemi c { s.semi c with stuck := false, attempts := 0 }).ckptBegin c true

/-- CKPT_BEGIN has just gone to carrier c, and nothing has failed since. -/
def State.fresh_attempt (c : Nat) : Prop := (s.semi c).stuck = false ∧ (s.semi c).attempts = 0 ∧ (s.semi c).begun = true ∧
  (s.semi c).trying = true ∧ (s.semi c).sentAt = s.now

theorem State.frame_resumes {f : Footprint} (c : Nat) (h : Footprint.ckptBegin.le f = true) :
    (s.resumes c).outside f = s.outside f := by
  refine State.outside_le h ?_
  rw [State.resumes, State.frame_ckptBegin _ _ _ (by decide), State.putSemi_eq, State.outside_modPersist _ _ _ (by decide)]

theorem State.now_resumes (c : Nat) : (s.resumes c).now = s.now :=
  State.now_of_outside (State.frame_resumes (f := .ckptBegin) s c (by decide)) (by decide)

theorem State.fresh_attempt_resumes (c : Nat) : (s.resumes c).fresh_attempt c := by
  unfold State.fresh_attempt
  rw [State.now_resumes, State.resumes, State.semi_ckptBegin, State.semi_putSemi_same, State.semiBegun,
    State.semi_putSemi_same]
  exact ⟨rfl, rfl, rfl, rfl, rfl⟩

theorem State.fresh_attempt_kept (a b : Nat) (h : s.fresh_attempt b) : (s.resumes a).fresh_attempt b := by
  by_cases same : a = b
  · exact same ▸ State.fresh_attempt_resumes s a
  · have semi : (s.resumes a).semi b = s.semi b := by
      rw [State.resumes, State.semi_ckptBegin, State.semi_putSemi_other _ _ same, State.semi_putSemi_other _ _ same]
    unfold State.fresh_attempt
    rw [semi, State.now_resumes]
    exact h

/-- The carriers of a stuck Semicolon. -/
def State.stuckCarriers : List Nat := s.activeCarriers.filter (fun c => (s.semi c).stuck)

theorem State.semicolonCommand_stuck (h : s.get Reg.semicolonState = 3) :
    s.semicolonCommand = (s.each s.stuckCarriers State.resumes).set Reg.semicolonState 0 1 := if_pos h

theorem State.semicolonCommand_held (h : s.get Reg.semicolonState ≠ 3) (left : 0 < s.persist.holdLeft) :
    s.semicolonCommand = s := (if_neg h).trans (if_pos left)

theorem State.semicolonCommand_triggers (h : s.get Reg.semicolonState ≠ 3) (left : s.persist.holdLeft = 0) :
    s.semicolonCommand = { s with persist := { s.persist with trigger := true } } :=
  (if_neg h).trans (if_neg (by omega))

theorem State.frame_resumeEach {f : Footprint} (l : List Nat) (h : Footprint.ckptBegin.le f = true) :
    (s.each l State.resumes).outside f = s.outside f :=
  State.outside_each _ _ _ _ (fun s c => State.frame_resumes s c h)

theorem exec_semicolon_allowed {p : Path} (h : s.allows (.semicolon p) = true)
    (idle : (s.taken p).semicolonCommand.lexicon.config = none) :
    exec (.semicolon p) s = .next (s.after ((s.taken p).semicolonCommand.emit (.lexAnswer p 0 []))) :=
  (exec_semicolon s p).trans (State.image_ok s rfl h rfl idle)

/-! ### The start of a Semicolon (R58) -/

/-- What the start of a Semicolon sets, before the governor follows it. -/
def State.semicolonOpens : State :=
  let e := s.get Reg.epoch
  let n := s.persist.dirty.card
  let t := s.modPersist (fun p => { p with
    closing := p.dirty, dirty := [], openB := !p.openB, count := n, epoch := e, startClause := s.clauseNow
    lastStart := s.clauseNow, trigger := false, running := true, sealDue := false, beginDue := some (s.clauseNow + 1)
    cars := (s.activeCarriers).map (fun c => (c, { SemiCar.reset with mark := s.sched.nextId })) })
  (t.set Reg.epoch 0 ((e + 1) % 4294967296)).set Reg.semicolonState 0 1

theorem State.startSemicolon_eq : s.startSemicolon =
    (s.semicolonOpens.each s.semicolonOpens.activeCarriers (fun s c => s.set Reg.ckptPersisted c 0)).govUpdateAll := rfl

/-- What the start of a Semicolon may change. -/
def Footprint.semicolonStart : Footprint := Footprint.event.plus [Reg.epoch, Reg.semicolonState, Reg.ckptPersisted,
  Reg.govDirty, Reg.govState] [.persist]

theorem State.frame_semicolonOpens {f : Footprint} (h : (⟨[Reg.epoch, Reg.semicolonState], [.persist]⟩ : Footprint).le f = true) :
    s.semicolonOpens.outside f = s.outside f := by
  refine State.outside_le h ?_
  unfold State.semicolonOpens
  dsimp only
  rw [State.outside_set _ _ _ _ _ (by decide), State.outside_set _ _ _ _ _ (by decide), State.outside_modPersist _ _ _ (by decide)]

theorem State.frame_clearPersisted {f : Footprint} (l : List Nat) (h : Reg.ckptPersisted ∈ f.regs) :
    (s.each l (fun s c => s.set Reg.ckptPersisted c 0)).outside f = s.outside f :=
  State.outside_each _ _ _ _ (fun s _ => State.outside_set s _ _ _ _ h)

theorem State.persisted_cleared (l : List Nat) {c : Nat} (h : c ∈ l) :
    (s.each l (fun s c => s.set Reg.ckptPersisted c 0)).get Reg.ckptPersisted c = 0 := by
  refine State.each_establishes (fun c s => s.get Reg.ckptPersisted c = 0) (fun s c => s.set Reg.ckptPersisted c 0)
    (fun s a => State.get_set_same s _ _ _) (fun s a _ kept => ?_) s l c (.inl h)
  rw [State.get_set]
  split
  · rfl
  · exact kept

theorem exec_semicolonStart_awake (awake : s.awake = true) : exec .semicolonStart s =
    .next (s.after (if s.mayStartSemicolon then s.startSemicolon else s)) := by
  rw [exec_semicolonStart, execSemicolonStart, act_of_awake s _ awake]

/-- The start of a Semicolon: the planes, the epoch, and the progress of every carrier. -/
theorem State.startSemicolon_effect : s.startSemicolon.persist = s.semicolonOpens.persist ∧
    s.startSemicolon.get Reg.epoch = (s.get Reg.epoch + 1) % 4294967296 ∧ s.startSemicolon.get Reg.semicolonState = 1 ∧
    (∀ c, c < s.get Reg.activeCarriers → s.startSemicolon.get Reg.ckptPersisted c = 0) ∧
    s.changesOnly s.startSemicolon .semicolonStart := by
  have govern (x : State) : x.govUpdateAll.outside .governor = x.outside .governor := State.frame_govUpdateAll x (by decide)
  have clears := State.frame_clearPersisted (f := ⟨[Reg.ckptPersisted], []⟩) s.semicolonOpens s.semicolonOpens.activeCarriers
    (by decide)
  have carriers : s.semicolonOpens.activeCarriers = List.range (s.get Reg.activeCarriers) :=
    congrArg List.range (State.get_of_outside (State.frame_semicolonOpens s (f := ⟨[Reg.epoch, Reg.semicolonState],
      [.persist]⟩) (by decide)) _ _ (by decide))
  rw [State.startSemicolon_eq]
  refine ⟨?_, ?_, ?_, fun c hc => ?_, ?_⟩
  · rw [State.persist_of_outside (govern _) (by decide), State.persist_of_outside clears (by decide)]
  · rw [State.get_of_outside (govern _) _ _ (by decide), State.get_of_outside clears _ _ (by decide), State.semicolonOpens,
      State.get_set_register _ _ _ _ (by decide), State.get_set_same]
  · rw [State.get_of_outside (govern _) _ _ (by decide), State.get_of_outside clears _ _ (by decide), State.semicolonOpens,
      State.get_set_same]
  · rw [State.get_of_outside (govern _) _ _ (by decide)]
    exact State.persisted_cleared _ _ (carriers ▸ List.mem_range.mpr hc)
  · unfold State.changesOnly
    rw [State.frame_govUpdateAll _ (by decide), State.frame_clearPersisted _ _ (by decide), State.frame_semicolonOpens _ (by decide)]

theorem exec_semicolonIntervalElapsed_awake (awake : s.awake = true) : exec .semicolonIntervalElapsed s = .next (s.after
    (if (s.govActive && s.get Reg.semicolonInterval != 0 && s.persist.holdLeft == 0 &&
        s.due (128 * s.persist.lastStart + 250000 * s.get Reg.semicolonInterval)) = true then
      { s with persist := { s.persist with trigger := true } } else s)) := by
  rw [exec_semicolonIntervalElapsed, execSemicolonIntervalElapsed, act_of_awake s _ awake]
  dsimp only
  rw [msCycles, Nat.mul_comm (s.get Reg.semicolonInterval)]
  rfl

end

/-- Settles O13: the three outcomes of the command by the state of the Semicolon, and its start by what it sets and what the
governor then leaves. -/
theorem semicolonsStart : Obligations.SemicolonsStart := by
  unfold Obligations.SemicolonsStart
  refine ⟨fun p s allowed => ?_, fun s awake => ?_, fun s awake => ?_⟩
  · have state : (s.taken p).get Reg.semicolonState = s.get Reg.semicolonState := State.get_taken s p _ _ (by decide)
    have carriers : (s.taken p).get Reg.activeCarriers = s.get Reg.activeCarriers := State.get_taken s p _ _ (by decide)
    have persist : (s.taken p).persist = s.persist := State.persist_of_outside (State.request_taken s p) (by decide)
    have now : (s.taken p).now = s.now := State.now_of_outside (State.request_taken s p) (by decide)
    have idle := State.config_taken s p allowed
    refine ⟨fun loose left => ?_, fun loose left => ?_, fun stuck => ?_⟩
    · have triggers := State.semicolonCommand_triggers (s.taken p) (state ▸ loose) (persist ▸ left)
      rw [exec_semicolon_allowed s allowed (by rw [triggers]; exact idle), triggers]
    · have held := State.semicolonCommand_held (s.taken p) (state ▸ loose) (persist ▸ left)
      rw [exec_semicolon_allowed s allowed (by rw [held]; exact idle), held]
    · have resumes := State.semicolonCommand_stuck (s.taken p) (state.trans stuck)
      have frame := State.frame_resumeEach (f := .ckptBegin) (s.taken p) (s.taken p).stuckCarriers (by decide)
      rw [exec_semicolon_allowed s allowed (by rw [resumes]; exact (State.config_of_outside frame (by decide)).trans idle),
        resumes]
      refine ⟨_, rfl, State.answered_after s _ p .ok, State.get_set_same _ _ _ _, fun c hc was => ?_⟩
      have mem : c ∈ (s.taken p).stuckCarriers :=
        List.mem_filter.mpr ⟨List.mem_range.mpr (carriers.symm ▸ hc : c < (s.taken p).get Reg.activeCarriers), by rw [State.semi_of_persist persist]; exact was⟩
      obtain ⟨free, none, begun, trying, sent⟩ := State.each_establishes (fun c s => s.fresh_attempt c) State.resumes
        State.fresh_attempt_resumes State.fresh_attempt_kept (s.taken p) _ c (.inl mem)
      exact ⟨free, none, begun, trying, sent.trans ((State.now_of_outside frame (by decide)).trans now)⟩
  · rw [exec_semicolonIntervalElapsed_awake s awake]
    refine ⟨fun active on left due => by rw [if_pos (by simp [active, on, left, due])], fun h => ?_⟩
    rw [if_neg]
    simp only [Bool.and_eq_true, bne_iff_ne, beq_iff_eq]
    rintro ⟨⟨⟨active, on⟩, left⟩, due⟩
    obtain h | h | h | h := h
    · simp [active] at h
    · exact on h
    · omega
    · simp [due] at h
  · rw [exec_semicolonStart_awake s awake]
    refine ⟨fun active idle free wanted => ?_, fun h => ?_⟩
    · rw [if_pos (by simp [State.mayStartSemicolon, active, idle, free, wanted])]
      obtain ⟨persist, epoch, state, cleared, only⟩ := State.startSemicolon_effect s
      refine ⟨_, rfl, ?_⟩
      rw [State.after_persist, persist]
      exact ⟨rfl, rfl, rfl, rfl, rfl, epoch, state, rfl, rfl, rfl, rfl, cleared, State.changesOnly_after _ _ only⟩
    · rw [if_neg]
      simp only [State.mayStartSemicolon, Bool.and_eq_true, Bool.not_eq_true']
      rintro ⟨⟨⟨active, idle⟩, free⟩, wanted⟩
      obtain h | h | h | h := h
      · simp [idle] at h
      · simp [free] at h
      · simp [active] at h
      · simp [wanted] at h

end Sys2Proof.Machine

namespace Sys2Proof.Machine

/-! ### Checkpoint status (R320, R59) -/

section
variable (s : State)

/-- What taking a message from a link may change: the room of its receiver. -/
theorem State.frame_consume {f : Footprint} (u : Nat) (hit : Msg → Bool) (h : Part.links ∈ f.parts) :
    (s.consume u hit).outside f = s.outside f := by
  unfold State.consume
  dsimp only
  split
  · rfl
  · rw [State.renewXoff, State.outside_modLink _ _ _ _ h, State.outside_putLink _ _ _ _ h]

/-- What the judgement of an attempt may change. -/
def Footprint.ckptJudge : Footprint := Footprint.event.plus [Reg.semicolonState] [.persist]

theorem State.frame_ckptJudge {f : Footprint} (c : Nat) (late : Bool) (h : Footprint.ckptJudge.le f = true) :
    (s.ckptJudge c late).outside f = s.outside f := by
  refine State.outside_le h (State.outside_ite _ (State.outside_ite _ ?_ ?_) rfl)
  · rw [State.frame_raise _ _ _ _ (by decide), State.outside_set _ _ _ _ _ (by decide), State.putSemi_eq,
      State.outside_modPersist _ _ _ (by decide)]
  · rw [State.putSemi_eq, State.outside_modPersist _ _ _ (by decide)]

/-- What the judgement of an attempt leaves of a carrier's progress: what has been reported stands. -/
theorem State.semi_ckptJudge (c : Nat) (late : Bool) : ((s.ckptJudge c late).semi c).done = (s.semi c).done ∧
    ((s.ckptJudge c late).semi c).countAtSend = (s.semi c).countAtSend := by
  have failed (t : SemiCar) (done : t.done = (s.semi c).done) (sent : t.countAtSend = (s.semi c).countAtSend) :
      ((s.putSemi c t).semi c).done = (s.semi c).done ∧ ((s.putSemi c t).semi c).countAtSend = (s.semi c).countAtSend := by
    rw [State.semi_putSemi_same]
    exact ⟨done, sent⟩
  unfold State.ckptJudge
  split
  · unfold State.ckptFails
    dsimp only
    split
    · rw [State.semi_of_persist (State.persist_of_outside (State.event_raise _ _ _ _) (by decide))]
      exact failed _ rfl rfl
    · exact failed _ rfl rfl
  · exact ⟨rfl, rfl⟩

theorem State.semi_ckptJudge_other {c k : Nat} (late : Bool) (h : c ≠ k) : (s.ckptJudge c late).semi k = s.semi k := by
  unfold State.ckptJudge
  split
  · unfold State.ckptFails
    dsimp only
    split
    · rw [State.semi_of_persist (State.persist_of_outside (State.event_raise _ _ _ _) (by decide))]
      exact State.semi_putSemi_other s _ h
    · exact State.semi_putSemi_other s _ h
  · rfl

theorem State.persist_ckptJudge (c : Nat) (late : Bool) : ∃ cars, (s.ckptJudge c late).persist = { s.persist with cars := cars } := by
  unfold State.ckptJudge
  split
  · unfold State.ckptFails
    dsimp only
    split
    · rw [State.persist_of_outside (State.event_raise _ _ _ _) (by decide)]
      exact ⟨_, rfl⟩
    · exact ⟨_, rfl⟩
  · exact ⟨_, rfl⟩

/-- A status is not the running Semicolon's to count: none runs, its seal is due, or its epoch is an earlier one. -/
def State.statusIgnored (epoch : Nat) : Prop :=
  s.persist.running = false ∨ s.persist.sealDue = true ∨ s.get Reg.semicolonState = 2 ∨ below32 epoch s.persist.epoch = true

theorem State.statusIgnored_iff (epoch : Nat) : ((!s.persist.running) = true ∨ s.persist.sealDue = true ∨
    s.get Reg.semicolonState = 2 ∨ below32 epoch s.persist.epoch = true) ↔ s.statusIgnored epoch := by
  simp [State.statusIgnored]

theorem State.ckptStatus_ignored {c : Nat} {d e : Bool} {ep n f : Nat} (h : s.statusIgnored ep) : s.ckptStatus c d e ep n f =
    if s.persist.running ∧ below32 s.persist.epoch ep = true then s.carrierProtocol c else s :=
  if_pos ((State.statusIgnored_iff s ep).mpr h)

theorem State.ckptStatus_later {c : Nat} {d e : Bool} {ep n f : Nat} (h : ¬ s.statusIgnored ep) (later : ep ≠ s.persist.epoch) :
    s.ckptStatus c d e ep n f = s.carrierProtocol c :=
  (if_neg (mt (State.statusIgnored_iff s ep).mp h)).trans (if_pos later)

/-- What a status makes of its carrier's progress. -/
def SemiCar.reported (t : SemiCar) (done : Bool) (count front now : Nat) : SemiCar :=
  { t with
    front := front, statusAt := now, done := t.done || done
    attempts := if decide (t.countAtSend < count) then 0 else t.attempts
    trying := t.trying && !(decide (t.countAtSend < count)), countAtSend := max t.countAtSend count
    stuck := t.stuck && !(decide (t.countAtSend < count)) }

/-- P(c) of a status, with the rate at which the carrier persists. -/
def State.countPersisted (c n : Nat) : State :=
  let t := s.set Reg.ckptPersisted c n
  t.putGov c { t.govCar c with
    persisted := (t.clauseNow, (n - s.persisted c) * sliceBytes t.carrierCount) :: (t.govCar c).persisted }

/-- The Semicolon is Running again when no carrier is stuck any more. -/
def State.unstuck (was : Bool) : State :=
  if was && !(s.persist.cars.any (fun x => x.2.stuck)) then s.set Reg.semicolonState 0 1 else s

/-- The closing plane is left without what every carrier has passed. -/
def State.passFronts : State := s.modPersist (fun p => { p with closing := p.closing.removeRange 0 s.lowestFront })

/-- A status of the running epoch is entered; `done`: a DONE that counts. -/
def State.statusEntered (c : Nat) (done : Bool) (n f : Nat) : State :=
  (((s.countPersisted c n).putSemi c ((s.semi c).reported done n f (s.countPersisted c n).now)).unstuck
    ((s.semi c).stuck && decide ((s.semi c).countAtSend < n))).passFronts.govUpdateAll

/-- The attempt under way is judged first when a status comes. -/
def State.attemptJudged (c : Nat) : State := s.ckptJudge c (decide ((s.semi c).sentAt + usCycles 1250 < s.now))

theorem State.ckptStatus_running {c : Nat} {d e : Bool} {n f : Nat} (h : ¬ s.statusIgnored s.persist.epoch) :
    s.ckptStatus c d e s.persist.epoch n f =
    let bad := e || (d && n != (s.attemptJudged c).persist.count)
    let t := (s.attemptJudged c).statusEntered c (d && !bad) n f
    if bad then (t.ckptJudge c true).ckptAgain c
    else if t.activeCarriers.all (fun k => (t.semi k).done) then t.semicolonRetired else t :=
  ((if_neg (mt (State.statusIgnored_iff s s.persist.epoch).mp h)).trans (if_neg (not_not.mpr rfl))).trans rfl

theorem State.ckptStatus_good {c : Nat} {d : Bool} {n f : Nat} (h : ¬ s.statusIgnored s.persist.epoch)
    (good : d = true → n = s.persist.count) : s.ckptStatus c d false s.persist.epoch n f =
    let t := (s.attemptJudged c).statusEntered c d n f
    if t.activeCarriers.all (fun k => (t.semi k).done) then t.semicolonRetired else t := by
  obtain ⟨cars, persist⟩ := State.persist_ckptJudge s c (decide ((s.semi c).sentAt + usCycles 1250 < s.now))
  have fits : (false || (d && n != (s.attemptJudged c).persist.count)) = false := by
    rw [State.attemptJudged, persist]
    cases d
    · rfl
    · simp [good]
  rw [State.ckptStatus_running s h]
  simp only [fits, Bool.not_false, Bool.and_true, Bool.false_eq_true, if_false]

/-! What an entered status leaves. -/

/-- What a status may change as it is entered. -/
def Footprint.status : Footprint := Footprint.event.plus [Reg.ckptPersisted, Reg.govDirty, Reg.govState, Reg.semicolonState]
  [.persist, .gov]

theorem State.frame_statusEntered {f : Footprint} (c : Nat) (done : Bool) (n x : Nat) (h : Footprint.status.le f = true) :
    (s.statusEntered c done n x).outside f = s.outside f := by
  refine State.outside_le h ?_
  have unstuck (x : State) (b : Bool) : (x.unstuck b).outside .status = x.outside .status :=
    State.outside_ite _ (State.outside_set _ _ _ _ _ (by decide)) rfl
  rw [State.statusEntered, State.frame_govUpdateAll _ (by decide), State.passFronts, State.outside_modPersist _ _ _ (by decide),
    unstuck, State.putSemi_eq, State.outside_modPersist _ _ _ (by decide), State.countPersisted]
  dsimp only
  rw [State.outside_putGov _ _ _ _ (by decide), State.outside_set _ _ _ _ _ (by decide)]

theorem State.semi_of_cars {s t : State} (h : t.persist.cars = s.persist.cars) (c : Nat) : t.semi c = s.semi c := by
  unfold State.semi
  rw [h]

theorem State.cars_statusEntered (c k : Nat) (done : Bool) (n x : Nat) : (s.statusEntered c done n x).semi k =
    (s.putSemi c ((s.semi c).reported done n x s.now)).semi k := by
  have governed (y : State) : y.govUpdateAll.persist.cars = y.persist.cars :=
    congrArg Persist.cars (State.persist_of_outside (State.frame_govUpdateAll y (f := .governor) (by decide)) (by decide))
  have unstuck (y : State) (b : Bool) : (y.unstuck b).persist.cars = y.persist.cars :=
    State.keeps_ite (fun z => z.persist.cars) rfl rfl
  have passed (y : State) : y.passFronts.persist.cars = y.persist.cars := rfl
  refine State.semi_of_cars ?_ k
  rw [State.statusEntered, governed, passed, unstuck]
  rfl

theorem State.persisted_statusEntered (c : Nat) (done : Bool) (n x : Nat) :
    (s.statusEntered c done n x).get Reg.ckptPersisted c = n := by
  have governed (y : State) : y.govUpdateAll.get Reg.ckptPersisted c = y.get Reg.ckptPersisted c :=
    State.get_of_outside (State.frame_govUpdateAll y (f := .governor) (by decide)) _ _ (by decide)
  have unstuck (y : State) (b : Bool) : (y.unstuck b).get Reg.ckptPersisted c = y.get Reg.ckptPersisted c :=
    State.keeps_ite (fun z => z.get Reg.ckptPersisted c) (State.get_set_register _ _ _ _ (by decide)) rfl
  rw [State.statusEntered, governed, State.passFronts, State.modPersist_get, unstuck, State.putSemi_eq, State.modPersist_get,
    State.countPersisted]
  exact State.get_set_same _ _ _ _

/-- The last DONE: every carrier is told, the closing plane is empty, and the seal falls due. -/
def Footprint.retired : Footprint := Footprint.message.plus [Reg.semicolonState] [.persist]

theorem State.semicolonRetired_effect : s.semicolonRetired.persist = { s.persist with closing := [], sealDue := true } ∧
    s.semicolonRetired.get Reg.semicolonState = 2 ∧ s.semicolonRetired.outside .retired = s.outside .retired := by
  have told : (s.each s.activeCarriers (fun t c => t.sendCarrier c true 0 { op := 0x12, p0 := s.persist.epoch })).outside
      .message = s.outside .message := State.outside_each _ _ _ _ (fun t c => State.message_sendCarrier t _ _ _ _)
  refine ⟨?_, State.get_set_same _ _ _ _, ?_⟩
  · show { (s.each s.activeCarriers (fun t c => t.sendCarrier c true 0 { op := 0x12, p0 := s.persist.epoch })).persist
        with closing := [], sealDue := true } = _
    rw [State.persist_of_outside told (by decide)]
  · unfold State.semicolonRetired
    dsimp only
    rw [State.outside_set _ _ _ _ _ (by decide), State.outside_modPersist _ _ _ (by decide)]
    exact State.outside_le (by decide) told

/-- What the state is after a good status, whether it was the last or not. -/
theorem State.ckptStatus_keeps {c : Nat} {d : Bool} {n f : Nat} (h : ¬ s.statusIgnored s.persist.epoch)
    (good : d = true → n = s.persist.count) :
    (s.ckptStatus c d false s.persist.epoch n f).get Reg.ckptPersisted c = n ∧
    ∀ k, (s.ckptStatus c d false s.persist.epoch n f).semi k = ((s.attemptJudged c).statusEntered c d n f).semi k := by
  rw [State.ckptStatus_good s h good]
  dsimp only
  split
  · obtain ⟨persist, -, frame⟩ := State.semicolonRetired_effect ((s.attemptJudged c).statusEntered c d n f)
    refine ⟨?_, fun k => ?_⟩
    · rw [State.get_of_outside frame _ _ (by decide), State.persisted_statusEntered]
    · rw [State.semi, persist, State.semi]
  · exact ⟨State.persisted_statusEntered _ _ _ _ _, fun k => rfl⟩

theorem State.now_attemptJudged (c : Nat) : (s.attemptJudged c).now = s.now :=
  State.now_of_outside (State.frame_ckptJudge (f := .ckptJudge) s c _ (by decide)) (by decide)

/-- The progress of the reporting carrier after a good status. -/
theorem State.ckptStatus_semi {c : Nat} {d : Bool} {n f : Nat} (h : ¬ s.statusIgnored s.persist.epoch)
    (good : d = true → n = s.persist.count) :
    (s.ckptStatus c d false s.persist.epoch n f).semi c = ((s.attemptJudged c).semi c).reported d n f s.now := by
  rw [(State.ckptStatus_keeps s h good).2 c, State.cars_statusEntered, State.semi_putSemi_same, State.now_attemptJudged]

/-- With the DONE of the last carrier the Semicolon retires. -/
theorem State.ckptStatus_last {c : Nat} {f : Nat} (h : ¬ s.statusIgnored s.persist.epoch)
    (others : ∀ k, k < s.get Reg.activeCarriers → k ≠ c → (s.semi k).done = true) :
    s.ckptStatus c true false s.persist.epoch s.persist.count f =
      ((s.attemptJudged c).statusEntered c true s.persist.count f).semicolonRetired := by
  have frame : ((s.attemptJudged c).statusEntered c true s.persist.count f).outside .status = s.outside .status :=
    (State.frame_statusEntered _ _ _ _ _ (by decide)).trans (State.frame_ckptJudge _ _ _ (by decide))
  have carriers : ((s.attemptJudged c).statusEntered c true s.persist.count f).activeCarriers =
      List.range (s.get Reg.activeCarriers) := congrArg List.range (State.get_of_outside frame _ _ (by decide))
  rw [State.ckptStatus_good s h (fun _ => rfl)]
  refine if_pos ?_
  rw [carriers, List.all_eq_true]
  intro k hk
  rw [State.cars_statusEntered]
  by_cases same : c = k
  · subst same
    rw [State.semi_putSemi_same]
    exact Bool.or_true _
  · rw [State.semi_putSemi_other _ _ same, State.attemptJudged, State.semi_ckptJudge_other _ _ same]
    exact others k (List.mem_range.mp hk) (Ne.symm same)

/-! ### The timers of an attempt (R59) -/

theorem State.due_mono {d e : Nat} (le : d ≤ e) (h : s.due e = true) : s.due d = true := by
  simp only [State.due, decide_eq_true_eq] at h ⊢
  omega

/-- The carrier has been silent for the time of an attempt since CKPT_BEGIN and since its last status. -/
def State.ckptSilent (c : Nat) : Bool := s.due (max (s.semi c).sentAt (s.semi c).statusAt + usCycles 1250)

theorem State.ckptTimer_runs {c : Nat} (runs : s.ckptRuns c = true) (free : (s.semi c).stuck = false)
    (up : s.carrierHasUp c = true) (silent : s.ckptSilent c = true) : s.ckptTimer c =
    (if (s.semi c).trying then s.ckptFails c else s).ckptAgain c := by
  have late : s.due ((s.semi c).sentAt + usCycles 1250) = true :=
    State.due_mono s (Nat.add_le_add_right (Nat.le_max_left _ _) _) silent
  have clock : (s.ckptJudge c true).clock = s.clock :=
    State.clock_of_outside (State.frame_ckptJudge (f := .ckptJudge) s c true (by decide)) (by decide)
  have still (d : Nat) : (s.ckptJudge c true).due d = s.due d := by rw [State.due, clock, State.due]
  unfold State.ckptTimer
  rw [if_pos (by simp [runs, free, up])]
  dsimp only
  unfold State.ckptSilent at silent
  rw [late, still, if_pos silent, State.ckptJudge, Bool.and_true]

theorem State.ckptTimer_rests {c : Nat} (h : s.ckptRuns c = false ∨ (s.semi c).stuck = true ∨ s.carrierHasUp c = false) :
    s.ckptTimer c = s := by
  refine if_neg ?_
  obtain h | h | h := h <;> simp [h]

theorem State.ckptFails_again {c : Nat} (h : (s.semi c).attempts < 2) : s.ckptFails c =
    s.putSemi c { s.semi c with attempts := (s.semi c).attempts + 1, trying := false } := if_neg (by omega)

theorem State.ckptFails_stuck {c : Nat} (h : 2 ≤ (s.semi c).attempts) : s.ckptFails c =
    ((s.putSemi c { s.semi c with stuck := true, trying := false, attempts := 3, sentAt := s.now }).set
      Reg.semicolonState 0 3).raise 0 0x022 c := if_pos h

theorem exec_ckptStatusTimeout_awake (c : Fin 8) (h : s.awake = true) :
    exec (.ckptStatusTimeout c) s = .next (s.after (s.ckptTimer c.val)) := by
  rw [exec_ckptStatusTimeout, execCkptStatusTimeout, act_of_awake s _ h]

theorem exec_stuckCkptResend_awake (c : Fin 8) (h : s.awake = true) : exec (.stuckCkptResend c) s = .next (s.after
    (if (s.ckptRuns c.val && (s.semi c.val).stuck && s.due ((s.semi c.val).sentAt + msCycles 1000)) = true then
      s.ckptBegin c.val false else s)) := by
  rw [exec_stuckCkptResend, execStuckCkptResend, act_of_awake s _ h]

theorem exec_ckptStatus_awake (c : Fin 8) (l : Fin 2) (d e : Bool) (ep n f : Nat) (h : s.awake = true) :
    exec (.ckptStatus c l d e ep n f) s = .next (s.after
      ((s.consume (2 * c.val + l.val) (fun m => m.op == 0x14)).ckptStatus c.val d e ep n f)) := by
  rw [exec_ckptStatus, execCkptStatus, act_of_awake s _ h]

end

theorem usCycles_attempt : usCycles 1250 = 312500 := rfl

theorem msCycles_second : msCycles 1000 = 250000000 := rfl

/-- Settles O14: a status by what it makes of its carrier's progress, and the two timers by their branches. -/
theorem checkpointProgress : Obligations.CheckpointProgress := by
  unfold Obligations.CheckpointProgress
  intro c l s u awake hu
  have frame : u.outside ⟨[], [.links]⟩ = s.outside ⟨[], [.links]⟩ := hu ▸ State.frame_consume _ _ _ (by decide)
  have persist : u.persist = s.persist := State.persist_of_outside frame (by decide)
  have state : u.get Reg.semicolonState = s.get Reg.semicolonState := State.get_of_outside frame _ _ (by decide)
  have carriers : u.get Reg.activeCarriers = s.get Reg.activeCarriers := State.get_of_outside frame _ _ (by decide)
  have now : u.now = s.now := State.now_of_outside frame (by decide)
  have semi (k : Nat) : u.semi k = s.semi k := State.semi_of_persist persist k
  simp only [exec_ckptStatus_awake s c l _ _ _ _ _ awake, ← hu, exec_ckptStatusTimeout_awake s c awake,
    exec_stuckCkptResend_awake s c awake]
  have same : below32 u.persist.epoch u.persist.epoch = false := by
    unfold below32
    simp only [Bool.and_eq_false_iff, decide_eq_false_iff_not]
    omega
  have live (runs : s.persist.running = true) (open_ : s.persist.sealDue = false) (idle : s.get Reg.semicolonState ≠ 2) :
      ¬ u.statusIgnored u.persist.epoch := by
    rintro (h | h | h | h)
    · simp [persist, runs] at h
    · simp [persist, open_] at h
    · exact idle (state ▸ h)
    · simp [same] at h
  refine ⟨fun d e ep n f rests => ?_, fun d e ep n f behind h => ?_, fun d e ep n f runs ahead other => ?_,
    fun d e n f runs open_ idle good error => ?_, fun f runs open_ one inRange others => ?_,
    fun runs free up silent => ⟨fun idle => ?_, fun tries few => ?_, fun tries many => ?_⟩, fun h => ?_,
    fun runs stuck due => ?_, fun h => ?_⟩
  · rw [← persist] at rests
    rw [State.ckptStatus_ignored u (.inl rests), if_neg (by simp [rests])]
  · rw [← persist, ← state] at h
    rw [State.ckptStatus_ignored u (.inr h), if_neg (by simp [persist, behind])]
  · rw [← persist] at runs ahead other
    by_cases ignored : u.statusIgnored ep
    · rw [State.ckptStatus_ignored u ignored, if_pos ⟨runs, ahead⟩, State.carrierProtocol]
    · rw [State.ckptStatus_later u ignored other, State.carrierProtocol]
  · subst error
    have open' := live runs open_ idle
    rw [← persist] at good ⊢
    obtain ⟨done, sent⟩ := State.semi_ckptJudge u c.val (decide ((u.semi c.val).sentAt + usCycles 1250 < u.now))
    refine ⟨_, rfl, (State.ckptStatus_keeps u open' good).1, ?_⟩
    simp only [State.semi_of_persist (s := u.ckptStatus _ _ _ _ _ _) (State.after_persist s _), State.ckptStatus_semi u open' good]
    refine ⟨rfl, now, ?_, fun rises => ?_⟩
    · show (((u.attemptJudged c.val).semi c.val).done || d) = _
      rw [State.attemptJudged, done, semi]
    · have rises' : ((u.attemptJudged c.val).semi c.val).countAtSend < n := by
        rw [State.attemptJudged, sent, semi]
        exact rises
      simp [SemiCar.reported, rises']
  · have open' := live runs open_ (by simp [one])
    have others' (k : Nat) (hk : k < u.get Reg.activeCarriers) (other : k ≠ c.val) : (u.semi k).done = true := by
      rw [semi]
      exact others k (carriers ▸ hk) other
    rw [← persist]
    have kept := State.ckptStatus_keeps u open' (d := true) (n := u.persist.count) (f := f) (c := c.val) (fun _ => rfl)
    have semi' := State.ckptStatus_semi u open' (d := true) (n := u.persist.count) (f := f) (c := c.val) (fun _ => rfl)
    rw [State.ckptStatus_last u open' others'] at kept semi' ⊢
    obtain ⟨persist', state', -⟩ := State.semicolonRetired_effect ((u.attemptJudged c.val).statusEntered c.val true u.persist.count f)
    refine ⟨_, rfl, kept.1, ?_, ?_, ?_, state'⟩
    · rw [State.semi_of_persist (State.after_persist s _), semi']
      exact Bool.or_true _
    · rw [State.after_persist, persist']
    · rw [State.after_persist, persist']
  · rw [State.ckptTimer_runs s runs free up silent, idle, if_neg Bool.false_ne_true, State.ckptAgain, free,
      if_neg Bool.false_ne_true]
  · rw [State.ckptTimer_runs s runs free up silent, tries, if_pos rfl, State.ckptFails_again s few, State.ckptAgain,
      State.semi_putSemi_same, if_neg (by simp [free])]
  · rw [State.ckptTimer_runs s runs free up silent, tries, if_pos rfl, State.ckptFails_stuck s many, State.ckptAgain,
      if_pos]
    rw [State.semi_of_persist (State.persist_of_outside (State.event_raise _ _ _ _) (by decide))]
    exact congrArg SemiCar.stuck (State.semi_putSemi_same s c.val _)
  · rw [State.ckptTimer_rests s h]
  · rw [if_pos (by rw [runs, stuck, msCycles_second, due]; rfl), State.ckptBegin_eq]
    rfl
  · rw [if_neg]
    rw [msCycles_second]
    obtain h | h | h := h <;> simp [h]

end Sys2Proof.Machine

namespace Sys2Proof.Machine

/-! ### Red holds, gate lists and samplers (R241, R238, R245) -/

section
variable (s : State)

theorem State.rangeCheck_gateCommand (i v : Nat) :
    s.rangeCheck ⟨Reg.gateCommand, 10, 0, .u8, .wo, 0, (.between 1 1), 95, .none⟩ i v =
      if !(ObjRange.holds (.between 1 1) v) then .range else if s.gateListOk i then .ok else .range := rfl

/-- The gate list in force waits for the registers that hold it alone. -/
theorem State.gateListOk_taken (path : Path) (p : Nat) : (s.taken path).gateListOk p = s.gateListOk p := by
  simp only [State.gateListOk, State.get_taken s path Reg.gateRows _ (by decide),
    State.get_taken s path Reg.gateOpen _ (by decide)]

theorem State.gateCommitNow_taken (path : Path) (p : Nat) : (s.taken path).gateCommitNow p =
    (s.taken path).putPort p { (s.taken path).port p with
      gateNext := some ((List.range (s.get Reg.gateRows p)).map (fun k =>
        (s.get Reg.gateDuration (64 * p + k), s.get Reg.gateOpen (64 * p + k)))) } := by
  simp only [State.gateCommitNow, State.get_taken s path Reg.gateRows _ (by decide),
    State.get_taken s path Reg.gateOpen _ (by decide), State.get_taken s path Reg.gateDuration _ (by decide)]

/-- An allowed GATE_COMMAND has found a list in which each gate opens, and lets it wait. -/
theorem exec_gateCommit_allowed {path : Path} {p : Fin 10} (h : s.allows (.gateCommit path p) = true) :
    s.gateListOk p = true ∧ exec (.gateCommit path p) s =
      .next (s.after (((s.taken path).gateCommitNow p).emit (.lexAnswer path 0 []))) := by
  have asks : requestOf (.gateCommit path p) =
      some ⟨⟨path, Reg.gateCommand + 65536 * p, 0xFFFFFFFF, false⟩, .plain, [1]⟩ := rfl
  constructor
  · obtain ⟨_, _, checked⟩ := State.checkValue_ok _ (State.direct_at s asks h (Reg.lookup_gateCommand p)).1
    have fits : (s.taken path).rangeCheck ⟨Reg.gateCommand, 10, 0, .u8, .wo, 0, (.between 1 1), 95, .none⟩ p
        (fromLe (([1] : List Byte).take 8)) = .ok := (checked (by decide)).1
    have listed : (s.taken path).gateListOk p = true := by
      by_contra bad
      rw [State.rangeCheck_gateCommand, if_neg (by decide), if_neg bad] at fits
      cases fits
    rw [← State.gateListOk_taken]
    exact listed
  · rw [exec_gateCommit, execGateCommit]
    exact State.direct_ok s asks h (Reg.lookup_gateCommand p) (State.apply_gateCommand _ _ _ _ _ _)
      (State.config_taken s path h)

theorem exec_redHoldExpiry_awake (p : Fin 10) (v : Fin 8) (i : Fin 256) (awake : s.awake = true) :
    exec (.redHoldExpiry p v i) s = .next (s.after
      (match Tbl.find (s.port p).heads (headKey v i) with
        | none => s
        | some h => match (s.port p).entry h.id with
          | some e =>
            if e.color = 2 ∧ s.redHeld p e h = false then
              s.putPort p { s.port p with
                entries := (s.port p).entries.map (fun x => if x.id = e.id then { x with color := 1 } else x) }
            else s
          | none => s)) := by
  rw [exec_redHoldExpiry, execRedHoldExpiry]
  exact act_of_awake s _ awake

theorem State.sample_waits (j : Nat) (h : s.get Reg.sampleEnable j ≠ 1 ∨
    s.clock.clause < (Tbl.getD s.sched.samplers j Sampler.reset).start + s.get Reg.samplePeriod j) : s.sample j = s :=
  if_neg (fun due => h.elim (fun off => off due.1) (fun early => Nat.not_le.mpr early due.2))

theorem State.sample_due (j : Nat) (on : s.get Reg.sampleEnable j = 1)
    (due : (Tbl.getD s.sched.samplers j Sampler.reset).start + s.get Reg.samplePeriod j ≤ s.clock.clause) :
    s.sample j =
      let x := s.get Reg.samplePort j
      let es := (s.port x).entries.filter (fun e => s.sampleMeets j e)
      let t0 := Tbl.getD s.sched.samplers j Sampler.reset
      State.recordTo { s with sched := { s.sched with samplers := Tbl.put s.sched.samplers j ⟨s.clock.clause, 0, 0⟩ } }
        (s.get Reg.sampleQueue j) 0x7E 0 0x058
        (layout [(1, x), (1, s.get Reg.sampleService j), (2, s.get Reg.sampleInstance j), (4, es.length),
          (4, sat 4294967295 (es.foldl (fun a e => a + s.charged x e.payload) 0)), (4, t0.maxDelay),
          (4, t0.grants), (1, s.sampleFlags j x), (3, 0)]) := if_pos ⟨on, due⟩

theorem exec_sample_awake (j : Fin 16) (awake : s.awake = true) : exec (.sample j) s = .next (s.after (s.sample j)) := by
  rw [exec_sample, execSample, act_of_awake s _ awake]

end

/-- Settles O35: the cases of a red head, the gate list that the check has found sound, and the sampler at its period. -/
theorem holdsGatesAndSamples : Obligations.HoldsGatesAndSamples := by
  unfold Obligations.HoldsGatesAndSamples
  rintro p v i j path s u rfl
  refine ⟨fun awake => ⟨fun h e head entry => ⟨fun red held => ?_, fun stays => ?_⟩, fun empty => ?_, ?_⟩, fun allowed => ?_⟩
  · rw [exec_redHoldExpiry_awake s _ _ _ awake, head]
    simp only [entry, red, held, and_self, if_true]
  · rw [exec_redHoldExpiry_awake s _ _ _ awake, head]
    simp only [entry]
    rw [if_neg]
    rintro ⟨red, held⟩
    exact stays.elim (fun other => other red) (fun holds => by simp [holds] at held)
  · rw [exec_redHoldExpiry_awake s _ _ _ awake, empty]
  · rintro t0 rfl
    refine ⟨fun waits => ?_, ?_⟩
    · rw [exec_sample_awake s j awake, State.sample_waits s j waits]
    · rintro x es on due rfl rfl
      rw [exec_sample_awake s j awake, State.sample_due s j on due]
  · obtain ⟨sound, acts⟩ := exec_gateCommit_allowed s allowed
    exact ⟨sound, by rw [acts, State.gateCommitNow_taken]⟩

end Sys2Proof.Machine

namespace Sys2Proof.Machine

/-! ### What a message of port 9 that is issued or taken back may change -/

/-- Port 9 and the count of its red heads. -/
def Footprint.port9 : Footprint := ⟨[Reg.redHolds], [.egress]⟩

/-- Port 9, and the state of the event controller. -/
def Footprint.egress : Footprint := Footprint.port9.plus [] [.events]

section
variable (s : State)

theorem State.port9_makeHead (e : Entry) (t : Nat) : (s.makeHead 9 e t).outside .port9 = s.outside .port9 := by
  unfold State.makeHead
  dsimp only
  split
  · rw [State.outside_bump _ _ _ _ _ (by decide), State.outside_putPort9 _ _ _ (by decide)]
  · rw [State.outside_putPort9 _ _ _ (by decide)]

theorem State.port9_enter (e : Entry) : (s.enter 9 e).outside .port9 = s.outside .port9 := by
  have unmetered : meterRow 9 e.svc e.i = none := rfl
  unfold State.enter
  simp only [unmetered, Nat.reduceLeDiff, decide_false, Bool.and_false, Bool.false_eq_true, if_false]
  split
  · rw [State.port9_makeHead, State.outside_putPort9 _ _ _ (by decide)]
  · rw [State.outside_putPort9 _ _ _ (by decide)]

theorem State.port9_enqueue (svc i : Nat) (w : Work) (n : Nat) :
    (s.enqueue 9 svc i w n).outside .port9 = s.outside .port9 := by
  have numbered (k : Nat) : ({ s with sched := { s.sched with nextId := k } } : State).outside .port9 = s.outside .port9 := by
    simp [State.outside, Footprint.keep, Footprint.port9]
  refine State.outside_ite _ rfl (State.outside_ite _ ?_ ?_)
  · exact (State.port9_enter _ _).trans (numbered _)
  · exact (State.outside_putPort9 _ _ _ (by decide)).trans (numbered _)

theorem State.port9_renewHeads : (s.renewHeads 9).outside .port9 = s.outside .port9 := by
  refine State.outside_each _ _ _ _ (fun s kh => ?_)
  dsimp only
  split
  · rfl
  · split
    · rw [State.port9_makeHead]
    · rw [State.outside_putPort9 _ _ _ (by decide)]

theorem State.port9_admitOutside : (s.admitOutside 9).outside .port9 = s.outside .port9 :=
  State.outside_each _ _ _ _ (fun s e => State.outside_ite _
    ((State.port9_enter _ _).trans (State.outside_putPort9 _ _ _ (by decide))) rfl)

/-- Taking messages from port 9 frees no place of another port (R226). -/
theorem State.port9_removeEntries (g : Entry → Bool) (h : ∀ e, g e = true → e.svc = 7) :
    (s.removeEntries 9 g).outside .port9 = s.outside .port9 := by
  have none : (s.port 9).entries.any (fun e => g e && e.svc != 7) = false := by simpa using fun e _ => h e
  unfold State.removeEntries
  simp only [none, Bool.false_and, Bool.false_eq_true, if_false]
  rw [State.port9_admitOutside, State.port9_renewHeads, State.outside_putPort9 _ _ _ (by decide)]

theorem State.egress_sendMsix (i a v : Nat) (m q : Option Nat) : (s.sendMsix i a v m q).outside .egress = s.outside .egress := by
  have sent (x : State) : (x.enqueue 9 7 i (.msix v q) 4).outside .egress = x.outside .egress :=
    State.outside_le (by decide) (State.port9_enqueue x _ _ _ _)
  unfold State.sendMsix
  cases m
  · exact sent s
  · exact (sent _).trans (State.outside_modEvents _ _ _ (by decide))

theorem State.egress_testMgmt (i : Nat) : (s.testMgmt i).outside .egress = s.outside .egress := by
  unfold State.testMgmt
  split
  · split
    · rw [State.outside_modEvents _ _ _ (by decide), State.egress_sendMsix]
    · rfl
  · rfl

theorem State.egress_withdraw (i n : Nat) : (s.withdraw i n).outside .egress = s.outside .egress := by
  refine State.outside_ite _ ?_ rfl
  have taken : (s.modEvents (fun e => { e with
      pend := e.pend.remove (srcKey i n)
      units := e.units.removeRange (unitKey i n 0) (unitKey i n 128) })).outside .egress = s.outside .egress :=
    State.outside_modEvents _ _ _ (by decide)
  dsimp only
  rw [State.egress_testMgmt]
  refine State.outside_ite _ (State.outside_ite _ ?_ taken) taken
  rw [State.outside_modEvents _ _ _ (by decide), State.outside_le (e := .port9) (by decide)
    (State.port9_removeEntries _ _ (fun e he => ?_)), taken]
  simp only [Bool.and_eq_true, beq_iff_eq] at he
  exact he.1

/-- A message that goes changes the pending and the claimed sources of nobody. -/
theorem State.sources_testMgmt (i : Nat) : (s.testMgmt i).events.pend = s.events.pend ∧
    (s.testMgmt i).events.claimed = s.events.claimed ∧ (s.testMgmt i).events.units = s.events.units := by
  have sent (x : State) (v : Nat) : (x.enqueue 9 7 i (.msix v none) 4).events = x.events :=
    State.events_of_outside (State.port9_enqueue x _ _ _ _) (by decide)
  unfold State.testMgmt
  split
  · split
    · rename_i v m _
      have msix : (s.sendMsix i 0 v m none).events.pend = s.events.pend ∧
          (s.sendMsix i 0 v m none).events.claimed = s.events.claimed ∧
          (s.sendMsix i 0 v m none).events.units = s.events.units := by
        unfold State.sendMsix
        rw [sent]
        cases m <;> exact ⟨rfl, rfl, rfl⟩
      exact msix
    · exact ⟨rfl, rfl, rfl⟩
  · exact ⟨rfl, rfl, rfl⟩

end

/-! ### Wake sources (R273) -/

section
variable (s : State)

/-- What the ball and the message of a wake may change. -/
def Footprint.wakeSignal : Footprint := ⟨[], [.events, .outbox]⟩

theorem State.signal_wakeSignal : s.wakeSignal.outside .wakeSignal = s.outside .wakeSignal := by
  have told (x : State) (g : Events → Events) : (x.modEvents g).outside .wakeSignal = x.outside .wakeSignal :=
    State.outside_modEvents _ _ _ (by decide)
  refine State.outside_ite _ (told _ _) (State.outside_ite _ (told _ _) (State.outside_ite _ (State.outside_ite _ ?_ ?_) rfl))
  · exact (State.outside_emit _ _ _ (by decide)).trans (told _ _)
  · exact told _ _

/-- What a wake source may change. -/
def Footprint.wake : Footprint := Footprint.wakeSignal.plus [Reg.wakeStatus, Reg.wakeCount] []

theorem State.wake_wake (b : Nat) : (s.wake b).outside .wake = s.outside .wake := by
  refine State.outside_ite _ ?_ rfl
  rw [State.outside_le (e := .wakeSignal) (by decide) (State.signal_wakeSignal _), State.outside_bump _ _ _ _ _ (by decide),
    State.putBit_eq, State.outside_set _ _ _ _ _ (by decide)]

/-- A wake source that latches: its bit, and the count of settings. -/
theorem State.wake_latches {b : Nat} (on : bit (s.get Reg.wakeEnable) b = true) (clear : bit (s.get Reg.wakeStatus) b = false) :
    (s.wake b).get Reg.wakeStatus = s.get Reg.wakeStatus + 2 ^ b ∧
      (s.wake b).get Reg.wakeCount = sat 4294967295 (s.get Reg.wakeCount + 1) := by
  have latches : s.wake b = ((s.putBit Reg.wakeStatus 0 b true).bump Reg.wakeCount).wakeSignal :=
    if_pos (by simp [on, clear])
  rw [latches, State.get_of_outside (State.signal_wakeSignal _) _ _ (by decide),
    State.get_of_outside (State.signal_wakeSignal _) _ _ (by decide), State.bump_eq, State.get_set_same,
    State.get_set_register _ _ _ _ (by decide), State.putBit_eq, State.get_set_same,
    State.get_set_register _ _ _ _ (by decide)]
  exact ⟨by simp [setBit, clear], rfl⟩

theorem State.wake_stays {b : Nat} (h : bit (s.get Reg.wakeEnable) b = false ∨ bit (s.get Reg.wakeStatus) b = true) :
    s.wake b = s := if_neg (by obtain h | h := h <;> simp [h])

/-- Clearing wake bits (R273). -/
theorem State.wakeClear_effect (v : Nat) : (s.wakeClear v).get Reg.wakeStatus =
    s.get Reg.wakeStatus - Nat.land (s.get Reg.wakeStatus) v ∧ (s.wakeClear v).outside .event = s.outside .event := by
  have cleared : (s.set Reg.wakeStatus 0 (s.get Reg.wakeStatus - Nat.land (s.get Reg.wakeStatus) v)).outside .event =
      s.outside .event := State.outside_set _ _ _ _ _ (by decide)
  unfold State.wakeClear
  dsimp only
  rw [State.get_of_outside (State.signal_wakeSignal _) _ _ (by decide), State.event_wakeSignal]
  split
  · rw [State.get_of_outside (State.egress_withdraw _ _ _) _ _ (by decide), State.get_set_same, State.event_withdraw]
    exact ⟨rfl, cleared⟩
  · rw [State.get_set_same]
    exact ⟨rfl, cleared⟩

theorem exec_wakeLatch_powered (b : Fin 32) (powered : s.clock.powered = true) : exec (.wakeLatch b) s = .next (s.after
    (if b.val = 13 ∨ b.val = 14 ∨ b.val = 19 then s.wakeOutsideA0 b else if b.val < 22 then s.wake b else s)) := by
  rw [exec_wakeLatch, execWakeLatch, actRom_powered s _ powered, done_spec]

theorem exec_wakeStatusClear_allowed {p : Path} {v : Nat} (h : s.allows (.wakeStatusClear p v) = true) :
    exec (.wakeStatusClear p v) s =
      .next (s.after (((s.taken p).wakeClear (v % 4294967296)).emit (.lexAnswer p 0 []))) := by
  have value : fromLe ((le 4 v).take 8) = v % 4294967296 := fromLe_le 4 v
  rw [exec_wakeStatusClear, execWakeStatusClear]
  refine State.direct_ok s (show requestOf (.wakeStatusClear p v) = some (askOf p Reg.wakeStatus 0 (le 4 v)) from rfl) h
    (Reg.lookup_wakeStatus) ?_ ((State.config_of_outside (State.wakeClear_effect _ _).2 (by decide)).trans
      (State.config_taken s p h))
  rw [← value]
  exact State.apply_wakeStatus _ _ _ _ _ _

theorem exec_wakeTimerExpiry_awake (awake : s.awake = true) : exec .wakeTimerExpiry s = .next (s.after
    (if s.get Reg.wakeTimer ≠ 0 ∧ s.get Reg.wakeTimer = s.clock.clause then s.wake 16 else s)) := by
  rw [exec_wakeTimerExpiry, execWakeTimerExpiry, act_of_awake s _ awake]
  rfl

/-- The level of a GPIO line is kept, and what its two modes ask for follows. -/
theorem State.gpioInput_eq (n : Nat) (lvl : Bool) : s.gpioInput n lvl =
    let was := bit s.events.gpio n
    let v := s.modEvents (fun e => { e with gpio := setBit e.gpio n lvl })
    let w := if gpioMeets (bits (s.get Reg.wakeGpioMode) (2 * n + 1) (2 * n)) was lvl then v.wake n else v
    if gpioEdge (bits (s.get Reg.dmaGpioMode) (2 * n + 1) (2 * n)) was lvl ∧ s.security.recovery = false then
      w.pulseLine (0x40 + n)
    else w := by
  have wakes (v : State) (b : Bool) : (v.onlyIf b (fun s => s.wake n)).get Reg.dmaGpioMode = v.get Reg.dmaGpioMode ∧
      (v.onlyIf b (fun s => s.wake n)).security = v.security := by
    have frame : (v.onlyIf b (fun s => s.wake n)).outside .event = v.outside .event :=
      State.outside_ite _ (State.event_wake _ _) rfl
    exact ⟨State.get_of_outside frame _ _ (by decide), State.security_of_outside frame (by decide)⟩
  unfold State.gpioInput
  dsimp only
  rw [(wakes _ _).1, (wakes _ _).2]
  simp only [State.onlyIf, State.modEvents_get, State.modEvents_security, Bool.and_eq_true, Bool.not_eq_true']
  rfl

theorem exec_gpioInput_powered (n : Fin 8) (lvl : Bool) (powered : s.clock.powered = true) :
    exec (.gpioInput n lvl) s = .next (s.after (s.gpioInput n lvl)) := by
  rw [exec_gpioInput, execGpioInput, actRom_powered s _ powered, done_spec]

end

/-- Settles O38: a source latches once and outside A0 where it must, and the other three commands by their equations. -/
theorem wakeSourcesLatch : Obligations.WakeSourcesLatch := by
  unfold Obligations.WakeSourcesLatch
  rintro b n lvl p s u powered rfl
  refine ⟨fun small away on clear => ?_, fun stays => ?_, fun v allowed => ?_, fun rom => ⟨fun set due => ?_, fun waits => ?_⟩, ?_⟩
  · have latches : exec (.wakeLatch b) s = .next (s.after (s.wake b)) := by
      rw [exec_wakeLatch_powered s b powered]
      split
      · rename_i only
        have asleep : s.powerState ≠ 0 := away.resolve_left (fun other => by omega)
        rw [State.wakeOutsideA0, if_neg asleep]
      · rfl
    obtain ⟨status, count⟩ := State.wake_latches s on clear
    exact ⟨_, latches, status, count, State.changesOnly_after _ _ (State.event_wake s b)⟩
  · rw [exec_wakeLatch_powered s b powered, State.wakeOutsideA0]
    obtain high | ⟨only, awake⟩ | quiet := stays
    · rw [if_neg (by omega), if_neg (by omega)]
    · have here : s.powerState = 0 := awake
      rw [if_pos only, if_pos here]
    · rw [State.wake_stays s quiet, ite_self, ite_self, ite_self]
  · obtain ⟨cleared, frame⟩ := State.wakeClear_effect (s.taken p) (v % 4294967296)
    refine ⟨_, exec_wakeStatusClear_allowed s allowed, State.answered_after s _ p .ok, cleared, State.changesOnly_after _ _ ?_⟩
    unfold State.changesOnly
    rw [State.outside_emit _ _ _ (by decide), State.outside_request_event frame, State.request_taken]
  · rw [exec_wakeTimerExpiry_awake s (by simp [State.awake, powered, rom]), if_pos ⟨set, due⟩]
  · rw [exec_wakeTimerExpiry_awake s (by simp [State.awake, powered, rom]), if_neg]
    rintro ⟨set, due⟩
    exact waits.elim set (fun early => early due)
  · rintro was v w rfl rfl rfl
    rw [exec_gpioInput_powered s n lvl powered, State.gpioInput_eq]

end Sys2Proof.Machine

namespace Sys2Proof.Machine

/-! ### Requests for a power state (R403, R406, R407) -/

section
variable (s : State)

/-- From the cut on a request of the host PF is not heard (R471). -/
theorem exec_powerRequest_hostAtCut (g : Fin 4) (powered : s.clock.powered = true) (cut : s.cutPassed = true) :
    exec (.powerRequest .hostPf g) s = .next (s.after s) := by
  rw [exec_powerRequest, execPowerRequest, actRom_powered s _ powered, done_spec]
  exact congrArg (fun t => Host.Outcome.next (s.after t)) (if_pos (by simp [cut]))

theorem State.cutPassed_wake (b : Nat) : (s.wake b).cutPassed = s.cutPassed :=
  State.cutPassed_of_outside (State.event_wake s b) (by decide) (by decide)

/-- From the cut on one of the field port is answered STATE. -/
theorem exec_powerRequest_fieldAtCut (n : Fin 128) (g : Fin 4) (powered : s.clock.powered = true) (cut : s.cutPassed = true) :
    exec (.powerRequest (.field n) g) s = .next (s.after (if s.fieldSends = true then
      ((s.wake 8).bump Reg.lexAborts).emit (.lexAnswer (.field n) 8 []) else s)) := by
  rw [exec_powerRequest, execPowerRequest, actRom_powered s _ powered, done_spec]
  refine congrArg (fun t => Host.Outcome.next (s.after t)) ?_
  cases sends : s.fieldSends
  · exact if_pos (by simp [sends])
  · refine (if_neg (by simp [sends])).trans (if_pos ?_)
    rw [State.cutPassed_wake, cut]

/-- Who asks, as the report of a transition names it (Table 16.4). -/
def requestCause : Path → Nat
  | .field _ => 1
  | _ => 0

theorem State.powerRequest_idle (target cause : Nat) (cut : s.cutPassed = false) (idle : s.power.trans = none) :
    s.powerRequest target cause =
      if target = s.powerState then s else s.startTrans target cause (s.get Reg.wakeStatus) := by
  unfold State.powerRequest
  rw [if_neg (by simp [cut])]
  dsimp only
  rw [idle]

/-- A transition of Table 16.2 leads to another state. -/
theorem transCode_leaves {a b code : Nat} (h : transCode a b = some code) : b ≠ a := by
  rintro rfl
  unfold transCode at h
  split at h
  simp_all

/-- The request that waits gives way to a later one, and is refused for it (R407). -/
def State.pendingGivesWay : State :=
  match s.power.pending with
  | some x => s.entryRefused x.1 10 0 0 0 0
  | none => s

theorem State.powerRequest_under {t : Trans} (target cause : Nat) (cut : s.cutPassed = false) (under : s.power.trans = some t) :
    s.powerRequest target cause =
      if target = t.target then s
      else if target = 0 then
        (if t.committed then s.modPower (fun p => { p with exitNext := some (cause, s.get Reg.wakeStatus) })
         else s.modPower (fun p => { p with trans := some { t with aborted := true } }))
      else s.pendingGivesWay.modPower (fun p => { p with pending := some (target, cause, s.get Reg.wakeStatus) }) := by
  unfold State.powerRequest State.pendingGivesWay
  rw [if_neg (by simp [cut])]
  dsimp only
  rw [under]
  cases s.power.pending <;> rfl

theorem State.config_pendingGivesWay : s.pendingGivesWay.lexicon.config = s.lexicon.config := by
  have refused (x : Nat) : (s.entryRefused x 10 0 0 0 0).outside (Footprint.event.plus [Reg.lastRefusal] []) =
      s.outside (Footprint.event.plus [Reg.lastRefusal] []) := by
    unfold State.entryRefused
    dsimp only
    rw [State.frame_raise _ _ _ _ (by decide), State.frame_recordMgmt _ _ _ _ _ _ (by decide),
      State.outside_set _ _ _ _ _ (by decide)]
  unfold State.pendingGivesWay
  split
  · exact State.config_of_outside (refused _) (by decide)
  · rfl

theorem State.config_powerRequest (target cause : Nat) : (s.powerRequest target cause).lexicon.config = s.lexicon.config := by
  cases cut : s.cutPassed
  · cases under : s.power.trans with
    | none =>
      rw [State.powerRequest_idle s _ _ cut under]
      split <;> rfl
    | some t =>
      rw [State.powerRequest_under s _ _ cut under]
      split
      · rfl
      · split
        · split <;> rfl
        · exact State.config_pendingGivesWay s
  · rw [State.powerRequest, if_pos cut]

theorem exec_powerRequest_allowed {p : Path} {g : Fin 4} (h : s.allows (.powerRequest p g) = true) :
    exec (.powerRequest p g) s = .next (s.after (((s.taken p).powerRequest g (requestCause p)).emit (.lexAnswer p 0 []))) := by
  have value : fromLe ((le 1 g.val).take 8) = g.val := (fromLe_le 1 g).trans (Nat.mod_eq_of_lt (by omega))
  have applied := State.apply_powerRequest (s.taken p) p (.direct p) .plain 0 (le 1 g)
  rw [value] at applied
  rw [exec_powerRequest, execPowerRequest]
  refine State.direct_ok s (show requestOf (.powerRequest p g) = some (askOf p Reg.powerRequest 0 (le 1 g)) from rfl) h
    Reg.lookup_powerRequest (applied.trans ?_) ((State.config_powerRequest _ _ _).trans (State.config_taken s p h))
  cases p <;> rfl

/-! ### Steps that are not agreed to in time (R404) -/

/-- The step of the transition waits for agreement, and its time has passed. -/
def State.stepOverdue (t : Trans) (step : Nat) : Prop :=
  s.cutPassed = false ∧ t.entered = true ∧ 2 ≤ step ∧ step ≤ lastAbort t.code ∧
    s.due (t.stepAt + msCycles (s.get Reg.stepTimeout step)) = true ∧ s.notAgreeing t.code step ≠ 0

theorem exec_stepTimeout_awake (awake : s.awake = true) : exec .stepTimeout s = .next (s.after s.stepLate) := by
  rw [exec_stepTimeout, execStepTimeout, act_of_awake s _ awake]

theorem State.stepLate_none (h : s.power.trans = none) : s.stepLate = s := by
  unfold State.stepLate
  rw [h]

theorem State.stepLate_last {t : Trans} (h : s.power.trans = some t) (todo : t.todo = []) : s.stepLate = s := by
  unfold State.stepLate
  rw [h]
  simp only [todo]

theorem State.stepLate_step {t : Trans} {step : Nat} {rest : List Nat} (h : s.power.trans = some t)
    (todo : t.todo = step :: rest) : s.stepLate =
      if !s.cutPassed && t.entered && decide (2 ≤ step) && decide (step ≤ lastAbort t.code) &&
          s.due (t.stepAt + msCycles (s.get Reg.stepTimeout step)) && s.notAgreeing t.code step != 0 then
        (if step = 7 ∧ (s.activeCarriers.all (fun c => !(s.carrierBusy c))) = true then
          s.refuseTrans t 8 step (s.activeCarriers.foldl (fun a c => if (s.car c).selfRefresh then a else a + 2 ^ c) 0)
         else s.refuseTrans t 7 step (s.notAgreeing t.code step))
      else s := by
  unfold State.stepLate
  rw [h]
  simp only [todo]

theorem State.stepLate_overdue {t : Trans} {step : Nat} {rest : List Nat} (h : s.power.trans = some t)
    (todo : t.todo = step :: rest) (late : s.stepOverdue t step) : s.stepLate =
      if step = 7 ∧ (s.activeCarriers.all (fun c => !(s.carrierBusy c))) = true then
        s.refuseTrans t 8 step (s.activeCarriers.foldl (fun a c => if (s.car c).selfRefresh then a else a + 2 ^ c) 0)
      else s.refuseTrans t 7 step (s.notAgreeing t.code step) := by
  obtain ⟨cut, entered, two, last, due, open_⟩ := late
  rw [State.stepLate_step s h todo, if_pos (by simp [cut, entered, two, last, due, open_])]

theorem State.stepLate_waits {t : Trans} {step : Nat} {rest : List Nat} (h : s.power.trans = some t)
    (todo : t.todo = step :: rest) (early : ¬ s.stepOverdue t step) : s.stepLate = s := by
  rw [State.stepLate_step s h todo]
  refine if_neg (fun late => early ?_)
  simpa [State.stepOverdue, and_assoc] using late

theorem State.quiet_iff : s.activeCarriers.all (fun c => !(s.carrierBusy c)) = true ↔
    ∀ c ∈ s.activeCarriers, (s.car c).reqs = [] := by
  simp [State.carrierBusy]

end

/-- Settles O51: what a request finds under way decides it, and a step that is late by what has not agreed. -/
theorem powerStatesAreAsked : Obligations.PowerStatesAreAsked := by
  unfold Obligations.PowerStatesAreAsked
  intro s
  refine ⟨fun g n powered cut => ⟨exec_powerRequest_hostAtCut s g powered cut, fun silent => ?_, fun sends => ?_⟩, ?_, ?_⟩
  · rw [exec_powerRequest_fieldAtCut s n g powered cut, silent, if_neg Bool.false_ne_true]
  · rw [exec_powerRequest_fieldAtCut s n g powered cut, if_pos sends]
  · rintro p g u cause allowed rfl cut asks
    obtain rfl : cause = (requestCause p) := by cases p <;> exact asks
    have frame := State.request_taken s p
    have clock : (s.taken p).clock = s.clock := State.clock_of_outside frame (by decide)
    have clauseNow : (s.taken p).clauseNow = s.clauseNow := by rw [State.clauseNow, clock, State.clauseNow]
    have now : (s.taken p).now = s.now := State.now_of_outside frame (by decide)
    have live : (s.taken p).cutPassed = false := (State.cutPassed_of_outside frame (by decide) (by decide)).trans cut
    rw [exec_powerRequest_allowed s allowed]
    refine ⟨fun none same => ?_, fun code none direct => ?_, fun code none other missing byA0 => ?_,
      fun t under => ⟨fun same => ?_, fun other zero => ?_, ?_⟩⟩
    · rw [State.powerRequest_idle _ _ _ live none, if_pos same]
    · rw [State.powerRequest_idle _ _ _ live none, if_neg (transCode_leaves direct), State.startTrans, direct, clauseNow, now]
      rfl
    · rw [State.powerRequest_idle _ _ _ live none, if_neg other, State.startTrans, missing, byA0, clauseNow, now]
      rfl
    · rw [State.powerRequest_under _ _ _ live under, if_pos same]
    · rw [State.powerRequest_under _ _ _ live under, if_neg other, if_pos zero]
      split <;> rfl
    · rintro v other nonzero rfl
      rw [State.powerRequest_under _ _ _ live under, if_neg other, if_neg nonzero]
      rfl
  · intro awake
    rw [exec_stepTimeout_awake s awake]
    refine ⟨fun t step rest under todo entered two last cut open_ due => ⟨fun seven quiet => ?_, fun h => ?_⟩, fun h => ?_⟩
    · rw [State.stepLate_overdue s under todo ⟨cut, entered, two, last, due, open_⟩,
        if_pos ⟨seven, (State.quiet_iff s).mpr quiet⟩, seven]
    · rw [State.stepLate_overdue s under todo ⟨cut, entered, two, last, due, open_⟩, if_neg]
      rintro ⟨seven, quiet⟩
      obtain other | ⟨c, active, busy⟩ := h
      · exact other seven
      · exact busy ((State.quiet_iff s).mp quiet c active)
    · refine congrArg (fun t => Host.Outcome.next (s.after t)) ?_
      cases under : s.power.trans with
      | none => exact State.stepLate_none s under
      | some t =>
        cases todo : t.todo with
        | nil => exact State.stepLate_last s under todo
        | cons step rest =>
          refine State.stepLate_waits s under todo ?_
          rintro ⟨cut, entered, two, last, due, open_⟩
          obtain passed | none | ⟨t', same, h⟩ := h
          · simp [cut] at passed
          · simp [under] at none
          · obtain rfl : t = t' := Option.some.inj (under.symm.trans same)
            obtain early | empty | ⟨step', rest', todo', h⟩ := h
            · simp [entered] at early
            · simp [todo] at empty
            · obtain ⟨rfl, rfl⟩ := List.cons.inj (todo.symm.trans todo')
              obtain h | h | h | h := h
              · omega
              · omega
              · exact open_ h
              · simp [due] at h

end Sys2Proof.Machine

namespace Sys2Proof.Machine

/-! ### Frames of the field port (R465 to R467) -/

section
variable (s : State)

theorem State.lexicon_of_outside {s t : State} {f : Footprint} (h : t.outside f = s.outside f) (l : Part.lexicon ∉ f.parts)
    (q : Part.frames ∉ f.parts) : t.lexicon = s.lexicon := by
  have part (x : State) : (x.outside f).lexicon = x.lexicon := by simp [State.outside, Footprint.keep, l, q]
  rw [← part t, h, part s]

theorem State.lexicon_wake (b : Nat) : (s.wake b).lexicon = s.lexicon :=
  State.lexicon_of_outside (State.wake_wake s b) (by decide) (by decide)

/-- A frame is for another node, or the port does not listen. -/
def State.frameUnheard (dest : Nat) : Prop :=
  s.get Reg.fieldAccess = 0 ∨ s.get Reg.canState = 2 ∨ (dest ≠ 0 ∧ dest ≠ s.get Reg.fieldNodeId)

/-- A request is entered among the kept ones. -/
def State.keepsRequest (write : Bool) (src seq : Nat) (b : List Byte) : State :=
  s.modLexicon (fun l => { l with kept := Tbl.put l.kept (keptKey src seq) ⟨seq, b2n write, b, 0, [], s.clauseNow, true⟩ })

theorem State.frameRequest_unheard {w : Bool} {prio dest src seq : Nat} {node : Fin 128} {b : List Byte}
    (h : s.frameUnheard dest) : s.frameRequest w prio dest src seq node b = s := if_pos h

theorem State.frameRequest_broadcast {w : Bool} {prio src seq : Nat} {node : Fin 128} {b : List Byte}
    (h : ¬ s.frameUnheard 0) : s.frameRequest w prio 0 src seq node b = (s.bump Reg.fieldFramesRx).bump Reg.fieldIgnored :=
  (if_neg h).trans (if_pos rfl)

theorem State.frameRequest_nobody {w : Bool} {prio dest seq : Nat} {node : Fin 128} {b : List Byte}
    (h : ¬ s.frameUnheard dest) (own : dest ≠ 0) :
    s.frameRequest w prio dest 0 seq node b = s.frameIn.bump Reg.fieldIgnored :=
  (if_neg h).trans ((if_neg own).trans (if_pos rfl))

/-- The request repeats one that is in progress, or one whose RESPONSE left within the last second. -/
def State.repeats (k : Kept) (w : Bool) (b : List Byte) : Prop :=
  k.fn = b2n w ∧ k.request = b ∧ (k.pending = true ∨ s.clauseNow < k.cyc + 1953125)

theorem State.frameRequest_own {w : Bool} {prio dest src seq : Nat} {node : Fin 128} {b : List Byte}
    (h : ¬ s.frameUnheard dest) (own : dest ≠ 0) (from_ : src ≠ 0) : s.frameRequest w prio dest src seq node b =
      match Tbl.find s.frameIn.lexicon.kept (keptKey src seq) with
      | some k =>
        if k.fn = b2n w ∧ k.request = b ∧ (k.pending = true ∨ s.frameIn.clauseNow < k.cyc + 1953125) then
          if k.pending then s.frameIn.bump Reg.fieldDuplicates
          else ((s.frameIn.bump Reg.fieldDuplicates).emit (.frame k.id (canPad k.response))).bump Reg.fieldFramesTx
        else (s.frameIn.keepsRequest w src seq b).frameRuns w prio src seq node b
      | none => (s.frameIn.keepsRequest w src seq b).frameRuns w prio src seq node b :=
  (if_neg h).trans ((if_neg own).trans ((if_neg from_).trans rfl))


theorem State.frameIn_frame {f : Footprint} (h : (Footprint.wake.plus [Reg.fieldFramesRx] []).le f = true) :
    s.frameIn.outside f = s.outside f := by
  refine State.outside_le h ?_
  rw [State.frameIn, State.outside_le (e := .wake) (by decide) (State.wake_wake _ _), State.outside_bump _ _ _ _ _ (by decide)]

/-- What the taking of a frame leaves alone, of what the answer looks at. -/
theorem State.frameIn_same : s.frameIn.lexicon = s.lexicon ∧ s.frameIn.clauseNow = s.clauseNow := by
  have frame := State.frameIn_frame (f := Footprint.wake.plus [Reg.fieldFramesRx] []) s (by decide)
  refine ⟨State.lexicon_of_outside frame (by decide) (by decide), ?_⟩
  rw [State.clauseNow, State.clock_of_outside frame (by decide), State.clauseNow]

theorem State.frameRequest_repeats {w : Bool} {prio dest src seq : Nat} {node : Fin 128} {b : List Byte} {k : Kept}
    (h : ¬ s.frameUnheard dest) (own : dest ≠ 0) (from_ : src ≠ 0)
    (found : Tbl.find s.lexicon.kept (keptKey src seq) = some k) (again : s.repeats k w b) :
    s.frameRequest w prio dest src seq node b =
      if k.pending then s.frameIn.bump Reg.fieldDuplicates
      else ((s.frameIn.bump Reg.fieldDuplicates).emit (.frame k.id (canPad k.response))).bump Reg.fieldFramesTx := by
  obtain ⟨lexicon, clause⟩ := State.frameIn_same s
  rw [State.frameRequest_own s h own from_, lexicon, clause, found]
  exact if_pos again

theorem State.frameRequest_new {w : Bool} {prio dest src seq : Nat} {node : Fin 128} {b : List Byte}
    (h : ¬ s.frameUnheard dest) (own : dest ≠ 0) (from_ : src ≠ 0)
    (new : ∀ k, Tbl.find s.lexicon.kept (keptKey src seq) = some k → ¬ s.repeats k w b) :
    s.frameRequest w prio dest src seq node b = (s.frameIn.keepsRequest w src seq b).frameRuns w prio src seq node b := by
  obtain ⟨lexicon, clause⟩ := State.frameIn_same s
  rw [State.frameRequest_own s h own from_, lexicon, clause]
  split
  · exact if_neg (new _ (by assumption))
  · rfl

/-! #### A frame that is answered at once -/

/-- What a RESPONSE that leaves may change. -/
def Footprint.response : Footprint := ⟨[Reg.fieldFramesTx, Reg.lexAborts], [.lexicon, .frames, .outbox]⟩

theorem State.frame_respond {f : Footprint} (prio src seq : Nat) (data : List Byte) (h : Footprint.response.le f = true) :
    (s.respond prio src seq data).outside f = s.outside f := by
  refine State.outside_le h ?_
  have kept (g : Lexicon → Lexicon) : (s.modLexicon g).outside .response = s.outside .response :=
    State.outside_modLexicon _ _ _ (by decide) (by decide)
  refine State.outside_ite _ ?_ (kept _)
  rw [State.outside_bump _ _ _ _ _ (by decide), State.outside_emit _ _ _ (by decide), kept]

theorem State.respond_leaves {prio src seq : Nat} {data : List Byte} (sends : s.fieldSends = true) :
    (s.respond prio src seq data).outbox.getLast? =
      some (.frame (clezelId prio 3 src (s.get Reg.fieldNodeId) seq) (canPad data)) := by
  have responds : s.respond prio src seq data = _ := if_pos (show State.fieldSends (State.modLexicon s _) = true from sends)
  rw [responds]
  exact List.getLast?_concat

/-- A request that fails its first checks is answered with the code of the check, and no data. -/
theorem State.frame_answered {f : Footprint} {prio src seq o : Nat} {a : Abort} (bad : a ≠ .ok) (sends : s.fieldSends = true)
    (h : Footprint.response.le f = true) :
    (s.answer (.frame prio src seq o) a).outbox.getLast? =
      some (.frame (clezelId prio 3 src (s.get Reg.fieldNodeId) seq) (canPad (responseData a.code true o 0 []))) ∧
    (s.answer (.frame prio src seq o) a).outside f = s.outside f := by
  have answered : s.answer (.frame prio src seq o) a =
      (s.bump Reg.lexAborts).respond prio src seq (responseData a.code true o 0 []) := by
    rw [State.answer, if_neg bad]
    rfl
  have counted : (s.bump Reg.lexAborts).outside ⟨[Reg.lexAborts], []⟩ = s.outside ⟨[Reg.lexAborts], []⟩ :=
    State.outside_bump _ _ _ _ _ (by decide)
  have own : (s.bump Reg.lexAborts).get Reg.fieldNodeId = s.get Reg.fieldNodeId :=
    State.get_of_outside counted _ _ (by decide)
  have may : (s.bump Reg.lexAborts).fieldSends = true := by
    rw [State.fieldSends, own, State.get_of_outside counted Reg.fieldAccess _ (by decide),
      State.get_of_outside counted Reg.canState _ (by decide)]
    exact sends
  rw [answered]
  constructor
  · rw [State.respond_leaves _ may, own]
  · rw [State.frame_respond _ _ _ _ _ h]
    exact State.outside_le h (State.outside_bump _ _ _ _ _ (by decide))

/-- From the cut on, and with a data field too short for its form, a request is answered at once. -/
theorem State.frameRuns_short {w : Bool} {prio src seq : Nat} {node : Fin 128} {b : List Byte}
    (short : b.length < if w then 16 else 12) : s.frameRuns w prio src seq node b =
      s.answer (.frame prio src seq (field b 8 4)) (if s.cutPassed then .state else .type) := by
  unfold State.frameRuns
  cases s.cutPassed
  · cases w
    · exact if_pos short
    · exact if_pos (Or.inl short)
  · rfl

end

/-! ### Heartbeats and bus-off (R462, R468) -/

section
variable (s : State)

theorem exec_clezel_powered {c : Instr} {w : Bool} {prio : Fin 8} {dest src : Fin 128} {seq : Fin 256} {b : List Byte}
    (h : (c = .clezelRead prio dest src seq b ∧ w = false) ∨ (c = .clezelWrite prio dest src seq b ∧ w = true))
    (powered : s.clock.powered = true) : exec c s = .next (s.after (s.frameRequest w prio dest src seq src b)) := by
  obtain ⟨rfl, rfl⟩ | ⟨rfl, rfl⟩ := h
  · rw [exec_clezelRead, execClezelRead, actRom_powered s _ powered, done_spec]
  · rw [exec_clezelWrite, execClezelWrite, actRom_powered s _ powered, done_spec]

/-- A HEARTBEAT is due. -/
def State.beats : Prop := s.get Reg.fieldHeartbeat ≠ 0 ∧ s.fieldSends = true ∧
  s.due (s.lexicon.heartbeatAt + msCycles (s.get Reg.fieldHeartbeat)) = true

theorem exec_heartbeat_due (awake : s.awake = true) (due : s.beats) : exec .heartbeat s = .next (s.after
    ((s.modLexicon (fun l => { l with heartbeatAt := s.now })).sendFrame 6 8 0 s.heartbeatData)) := by
  rw [exec_heartbeat, execHeartbeat, act_of_awake s _ awake]
  exact congrArg (fun t => Host.Outcome.next (s.after t)) (if_pos due)

theorem exec_heartbeat_early (powered : s.clock.powered = true) (early : s.awake = false ∨ ¬ s.beats) :
    exec .heartbeat s = .next (s.after s) := by
  cases rom : s.security.recovery
  · have awake : s.awake = true := by simp [State.awake, powered, rom]
    rw [exec_heartbeat, execHeartbeat, act_of_awake s _ awake]
    exact congrArg (fun t => Host.Outcome.next (s.after t)) (if_neg (early.resolve_left (by simp [awake])))
  · rw [exec_heartbeat, execHeartbeat]
    exact (act_recovery s _ rom).trans (done_spec s s)

theorem exec_canBusOff_powered (powered : s.clock.powered = true) : exec .canBusOff s = .next (s.after s.busOff) := by
  rw [exec_canBusOff, execCanBusOff, actRom_powered s _ powered, done_spec]

theorem exec_busOffRecovery_powered (powered : s.clock.powered = true) :
    exec .busOffRecovery s = .next (s.after s.busOffEnds) := by
  rw [exec_busOffRecovery, execBusOffRecovery, actRom_powered s _ powered, done_spec]

/-- A controller that is not in standby enters bus-off. -/
theorem State.busOff_enters (on : s.get Reg.fieldAccess ≠ 0) (up : s.get Reg.canState ≠ 2) : s.busOff.get Reg.canState = 2 ∧
    s.busOff.get Reg.canBusOffs = (s.bump Reg.canBusOffs).get Reg.canBusOffs ∧
    s.busOff.outside (Footprint.event.plus [Reg.canState, Reg.canBusOffs] []) =
      s.outside (Footprint.event.plus [Reg.canState, Reg.canBusOffs] []) := by
  have enters : s.busOff =
      let v := (s.set Reg.canState 0 2).bump Reg.canBusOffs
      if v.security.recovery then v else v.raise 0 0x0F9 1 := if_neg (by simp [on, up])
  have raised (x : State) : (if x.security.recovery then x else x.raise 0 0x0F9 1).outside .event = x.outside .event :=
    State.outside_ite _ rfl (State.event_raise _ _ _ _)
  rw [enters]
  dsimp only
  rw [State.get_of_outside (raised _) _ _ (by decide), State.get_of_outside (raised _) _ _ (by decide), State.bump_eq,
    State.get_set_register _ _ _ _ (by decide), State.get_set_same, State.get_set_same,
    State.get_set_register _ _ _ _ (by decide), State.bump_eq, State.get_set_same,
    State.outside_le (e := .event) (by decide) (raised _), State.outside_set _ _ _ _ _ (by decide),
    State.outside_set _ _ _ _ _ (by decide)]
  exact ⟨rfl, rfl, rfl⟩

end

/-- Settles O59: a frame by whom it is for and by what is kept of its request, and the frames and states of the port itself. -/
theorem theFieldPortAnswers : Obligations.TheFieldPortAnswers := by
  unfold Obligations.TheFieldPortAnswers
  intro s powered
  refine ⟨?_, fun rom on sends due => ?_, fun early => ?_, fun off => ?_, fun on up => ?_, fun up => ?_, fun down => ?_⟩
  · rintro c w prio dest src seq b u v key me h rfl rfl rfl rfl
    rw [exec_clezel_powered s h powered]
    have place : keptKey src.val seq.val = src.val * 256 + seq.val :=
      congrArg (src.val * 256 + ·) (Nat.mod_eq_of_lt seq.isLt)
    refine ⟨fun unheard => ?_, fun on up => ⟨fun all => ?_, fun own mine => ⟨fun nobody => ?_, fun from_ => ⟨?_, fun new => ?_⟩⟩⟩⟩
    · rw [State.frameRequest_unheard s unheard]
    · rw [all, State.frameRequest_broadcast s (by simp [State.frameUnheard, on, up])]
    · rw [nobody, State.frameRequest_nobody s (by simp [State.frameUnheard, on, up, mine]) own]
      rfl
    · intro k found fn request
      have heard : ¬ s.frameUnheard dest := by simp [State.frameUnheard, on, up, mine]
      refine ⟨fun pending => ?_, fun answered recent => ?_⟩
      · rw [State.frameRequest_repeats s heard own from_ (place ▸ found) ⟨fn, request, .inl pending⟩, if_pos pending]
        rfl
      · rw [State.frameRequest_repeats s heard own from_ (place ▸ found) ⟨fn, request, .inr recent⟩, answered,
          if_neg Bool.false_ne_true]
        rfl
    · have heard : ¬ s.frameUnheard dest := by simp [State.frameUnheard, on, up, mine]
      have unlike (k : Kept) (found : Tbl.find s.lexicon.kept (keptKey src seq) = some k) : ¬ s.repeats k w b := by
        rintro ⟨fn, request, recent⟩
        obtain other | other | ⟨answered, old⟩ := new k (place ▸ found)
        · exact other fn
        · exact other request
        · obtain pending | recent := recent
          · simp [answered] at pending
          · exact Nat.not_lt.mpr old recent
      have frame := State.frameIn_frame (f := Footprint.wake.plus [Reg.fieldFramesRx] []) s (by decide)
      have entered : s.frameIn.keepsRequest w src seq b = ((s.bump Reg.fieldFramesRx).wake 8).modLexicon (fun l =>
          { l with kept := Tbl.put l.kept (src.val * 256 + seq.val) ⟨seq, b2n w, b, 0, [], s.clauseNow, true⟩ }) := by
        rw [State.keepsRequest, (State.frameIn_same s).2, place]
        rfl
      rw [State.frameRequest_new s heard own from_ unlike]
      refine ⟨by rw [entered], fun n short code sends => ?_⟩
      have kept : (s.frameIn.keepsRequest w src seq b).outside (Footprint.response.plus
          (Reg.fieldFramesRx :: Footprint.wake.regs) Footprint.wake.parts) = s.outside (Footprint.response.plus
          (Reg.fieldFramesRx :: Footprint.wake.regs) Footprint.wake.parts) := by
        rw [State.keepsRequest, State.outside_modLexicon _ _ _ (by decide) (by decide), State.frameIn_frame _ (by decide)]
      have reg (r : Nat) (h : r ∉ (Footprint.response.plus (Reg.fieldFramesRx :: Footprint.wake.regs) Footprint.wake.parts).regs) :
          (s.frameIn.keepsRequest w src seq b).get r = s.get r := State.get_of_outside kept r 0 h
      have may : (s.frameIn.keepsRequest w src seq b).fieldSends = true := by
        rw [State.fieldSends, reg _ (by decide), reg _ (by decide), reg _ (by decide)]
        exact sends
      have cut : (s.frameIn.keepsRequest w src seq b).cutPassed = s.cutPassed :=
        State.cutPassed_of_outside kept (by decide) (by decide)
      have bad : (if s.cutPassed = true then Abort.state else Abort.type) ≠ .ok := by split <;> decide
      obtain ⟨last, only⟩ := State.frame_answered (f := Footprint.request.plus [Reg.fieldFramesRx, Reg.lexAborts] [.lexicon])
        (s.frameIn.keepsRequest w src seq b) (prio := prio) (src := src) (seq := seq) (o := field b 8 4) bad may (by decide)
      have name : (if s.cutPassed = true then Abort.state else Abort.type).code = n := by rw [code]; split <;> rfl
      rw [State.frameRuns_short _ short, cut]
      refine ⟨_, rfl, ?_, State.changesOnly_after _ _ ?_⟩
      · rw [name, reg _ (by decide)] at last
        exact last
      · unfold State.changesOnly
        rw [only, State.outside_le (by decide) kept]
  · exact exec_heartbeat_due s (by simp [State.awake, powered, rom]) ⟨on, sends, due⟩
  · refine exec_heartbeat_early s powered ?_
    obtain rom | h := early
    · exact .inl (by simp [State.awake, rom])
    · refine .inr ?_
      rintro ⟨on, sends, due⟩
      obtain off | silent | not := h
      · exact on off
      · simp [sends] at silent
      · simp [due] at not
  · rw [exec_canBusOff_powered s powered, State.busOff, if_pos off]
  · rw [exec_canBusOff_powered s powered]
    obtain ⟨state, count, only⟩ := State.busOff_enters s on up
    exact ⟨_, rfl, state, count, State.changesOnly_after _ _ only⟩
  · rw [exec_busOffRecovery_powered s powered, State.busOffEnds, if_neg up]
  · rw [exec_busOffRecovery_powered s powered, State.busOffEnds, if_pos down]

end Sys2Proof.Machine

namespace Sys2Proof.Machine

/-! ### The host Lexicon ports (R460, R461) -/

theorem Tbl.put_put {α : Type} (t : Tbl α) (k : Nat) (v w : α) : Tbl.put (Tbl.put t k v) k w = Tbl.put t k w := by
  induction t with
  | nil => simp [Tbl.put]
  | cons x r ih =>
    obtain ⟨a, u⟩ := x
    by_cases here : a = k
    · simp [Tbl.put, here]
    · by_cases before : k < a
      · simp [Tbl.put, here, before]
      · simp [Tbl.put, here, before, ih]

theorem slice_all (b : List Byte) : slice b 0 b.length = b := by simp [slice, zeros]

section
variable (s : State)

theorem State.target_modLexicon (f : Lexicon → Lexicon) (q : LexReq) (w : Bool) :
    (s.modLexicon f).target q w = s.target q w := rfl

theorem State.bytesOf_modLexicon (f : Lexicon → Lexicon) (o : Obj) (i : Nat) :
    (s.modLexicon f).bytesOf o i = s.bytesOf o i := rfl

theorem State.countRequest_modLexicon (f : Lexicon → Lexicon) :
    (s.modLexicon f).countRequest = s.countRequest.modLexicon f := rfl

theorem State.lexPort_of_outside {s t : State} {f : Footprint} (h : t.outside f = s.outside f) (n : Part.lexicon ∉ f.parts)
    (i : Nat) : t.lexPort i = s.lexPort i := by
  have ports (x : State) : (x.outside f).lexicon.ports = x.lexicon.ports := by simp [State.outside, Footprint.keep, n]
  rw [State.lexPort, ← ports t, h, ports s, State.lexPort]

@[simp] theorem State.lexPort_putLexPort (i : Nat) (p : LexPort) : (s.putLexPort i p).lexPort i = p := Tbl.getD_put_same _ _ _ _

theorem State.lexPort_after (t : State) (i : Nat) : (s.after t).lexPort i = t.lexPort i := rfl

theorem State.putLexPort_twice (i : Nat) (p q : LexPort) : (s.putLexPort i p).putLexPort i q = s.putLexPort i q := by
  simp only [State.putLexPort, State.modLexicon, Tbl.put_put]

/-- The port of instance i takes a REQUEST: it is BUSY, with the words of the request. -/
def State.portTaken (i : Nat) (notify : Bool) (word row : Nat) : State :=
  (s.withdraw i 0x0F8).putLexPort i { s.lexPort i with
    busy := true, notify := notify, serial := (s.lexPort i).serial + 1
    request := word / 2 ^ 48 * 2 ^ 48 + word % 2 ^ 28, row := row }

theorem State.lexPort_withdraw (i n k : Nat) : (s.withdraw i n).lexPort k = s.lexPort k :=
  State.lexPort_of_outside (State.egress_withdraw s i n) (by decide) k

theorem State.portRequest_busy {i : Nat} {notify : Bool} {word row len : Nat} {f : State → Requester → State}
    (busy : (s.lexPort i).busy = true) : s.portRequest i notify word row len f = s.bump Reg.lexPortCollisions i := if_pos busy

theorem State.portRequest_idle {i : Nat} {notify : Bool} {word row len : Nat} {f : State → Requester → State}
    (idle : (s.lexPort i).busy = false) : s.portRequest i notify word row len f =
      if len = 0 ∨ 2048 < len then (s.portTaken i notify word row).portDone i notify .type 0 []
      else f (s.portTaken i notify word row) (.port i notify ((s.lexPort i).serial + 1)) := by
  unfold State.portRequest
  rw [if_neg (by simp [idle])]
  dsimp only
  rw [State.lexPort_withdraw]
  rfl

/-- The port after a result. -/
def LexPort.finished (p : LexPort) (a : Abort) (size : Nat) (data : List Byte) : LexPort :=
  { p with busy := false, count := (p.count + 1) % 65536, abort := a.code, length := data.length, size := size
           data := data ++ p.data.drop data.length }

theorem State.portDone_port (i : Nat) (notify : Bool) (a : Abort) (size : Nat) (data : List Byte) :
    (s.portDone i notify a size data).lexPort i = (s.lexPort i).finished a size data := by
  unfold State.portDone
  dsimp only
  split
  · rw [State.lexPort_of_outside (State.event_raise _ _ _ _) (by decide), State.lexPort_putLexPort]
    rfl
  · exact State.lexPort_putLexPort _ _ _

theorem State.frame_portDone {f : Footprint} (i : Nat) (notify : Bool) (a : Abort) (size : Nat) (data : List Byte)
    (h : (Footprint.event.plus [] [.lexicon]).le f = true) : (s.portDone i notify a size data).outside f = s.outside f := by
  refine State.outside_le h ?_
  have put (p : LexPort) : (s.putLexPort i p).outside (Footprint.event.plus [] [.lexicon]) =
      s.outside (Footprint.event.plus [] [.lexicon]) := State.outside_modLexicon _ _ _ (by decide) (by decide)
  exact State.outside_ite _ ((State.frame_raise _ _ _ _ (by decide)).trans (put _)) (put _)

theorem State.frame_portTaken {f : Footprint} (i : Nat) (notify : Bool) (word row : Nat)
    (h : (Footprint.event.plus [] [.lexicon]).le f = true) : (s.portTaken i notify word row).outside f = s.outside f := by
  refine State.outside_le h ?_
  exact (State.outside_modLexicon _ _ _ (by decide) (by decide)).trans (State.frame_withdraw _ _ _ (by decide))

/-- The result of the request that the port is BUSY with. -/
theorem State.answer_port {x : State} {i n : Nat} {notify : Bool} (a : Abort) (size off : Nat) (data : List Byte)
    (live : x.cutPassed = false) (busy : (x.lexPort i).busy = true) (serial : (x.lexPort i).serial = n) :
    x.answer (.port i notify n) a size off data =
      (if a = .ok then x else x.bump Reg.lexAborts).portDone i notify a size data := by
  have counts (y : State) (same : y.outside ⟨[Reg.lexAborts], []⟩ = x.outside ⟨[Reg.lexAborts], []⟩) :
      (if y.cutPassed || !(y.lexPort i).busy || (y.lexPort i).serial != n then y else y.portDone i notify a size data) =
        y.portDone i notify a size data := by
    rw [if_neg]
    rw [State.cutPassed_of_outside same (by decide) (by decide), State.lexPort_of_outside same (by decide)]
    simp [live, busy, serial]
  unfold State.answer
  dsimp only
  refine counts _ ?_
  exact State.outside_ite _ rfl (State.outside_bump _ _ _ _ _ (by decide))

theorem State.readEntry_refused {q : LexReq} {off : Nat} {a : Abort} (h : s.target q false = .refused a) :
    s.readEntry q off = (s, a, []) := by rw [State.readEntry, h]

theorem State.readEntry_place {q : LexReq} {off : Nat} {o : Obj} {i : Nat} (h : s.target q false = .place o i)
    (report : o.reg ≠ Reg.attestReport) (challenge : o.reg ≠ Reg.debugChallenge) : s.readEntry q off =
      if off < (s.bytesOf o i).length then (s, .ok, s.bytesOf o i) else (s, .range, []) := by
  rw [State.readEntry, h]
  dsimp only
  rw [if_neg (by simp [report]), if_neg (by simp [challenge])]

/-- The checks of a request and the value read do not look at the port. -/
theorem State.reads_portTaken (i : Nat) (notify : Bool) (word row : Nat) (p : LexPort) (q : LexReq) (o : Obj) (j : Nat) :
    (s.portTaken i notify word row).countRequest.target q false =
        ((s.withdraw i 0x0F8).putLexPort i p).countRequest.target q false ∧
      (s.portTaken i notify word row).countRequest.bytesOf o j =
        ((s.withdraw i 0x0F8).putLexPort i p).countRequest.bytesOf o j := by
  simp only [State.portTaken, State.putLexPort, State.countRequest_modLexicon, State.target_modLexicon,
    State.bytesOf_modLexicon, and_self]

/-- A read that fails its checks, or that is given its bytes. -/
theorem State.portRead_ends {i : Fin 256} {notify : Bool} {index row off len : Nat} {a : Abort} {value : List Byte}
    (live : s.cutPassed = false) (idle : (s.lexPort i).busy = false) (lo : len ≠ 0) (hi : len ≤ 2048)
    (reads : ∀ word r, (s.portTaken i notify word r).countRequest.readEntry ⟨portPath i, index, row, false⟩ off =
      ((s.portTaken i notify word r).countRequest, a, value)) :
    (∃ p : LexPort, p.data = (s.lexPort i).data ∧ (s.portRead i notify index row off len).lexPort i =
      p.finished a value.length ((value.drop off).take len)) ∧
    (s.portRead i notify index row off len).outside (Footprint.request.plus [] [.lexicon]) =
      s.outside (Footprint.request.plus [] [.lexicon]) := by
  generalize word : requestWord 1 notify false len index = w
  have frame : (s.portTaken i notify w (rowWord row off)).countRequest.outside (Footprint.request.plus [] [.lexicon]) =
      s.outside (Footprint.request.plus [] [.lexicon]) := by
    rw [State.countRequest, State.outside_bump _ _ _ _ _ (by decide), State.frame_portTaken _ _ _ _ _ (by decide)]
  have port : (s.portTaken i notify w (rowWord row off)).countRequest.lexPort i = { s.lexPort i with
      busy := true, notify := notify, serial := (s.lexPort i).serial + 1
      request := w / 2 ^ 48 * 2 ^ 48 + w % 2 ^ 28, row := rowWord row off } :=
    (State.lexPort_of_outside (f := ⟨[Reg.lexRequests], []⟩) (State.outside_bump _ _ _ _ _ (by decide)) (by decide) _).trans
      (State.lexPort_putLexPort _ _ _)
  have reading : s.portRead i notify index row off len = (s.portTaken i notify w (rowWord row off)).countRequest.answer
      (.port i notify ((s.lexPort i).serial + 1)) a value.length off ((value.drop off).take len) := by
    unfold State.portRead
    rw [State.portRequest_idle s idle, if_neg (by omega), word]
    dsimp only
    rw [reads]
  have cut : (s.portTaken i notify w (rowWord row off)).countRequest.cutPassed = false :=
    (State.cutPassed_of_outside frame (by decide) (by decide)).trans live
  rw [reading, State.answer_port _ _ _ _ cut (by rw [port]) (by rw [port]), State.portDone_port,
    State.frame_portDone _ _ _ _ _ _ (by decide)]
  have counted : (if a = .ok then (s.portTaken i notify w (rowWord row off)).countRequest
      else (s.portTaken i notify w (rowWord row off)).countRequest.bump Reg.lexAborts).outside ⟨[Reg.lexAborts], []⟩ =
      (s.portTaken i notify w (rowWord row off)).countRequest.outside ⟨[Reg.lexAborts], []⟩ :=
    State.outside_ite _ rfl (State.outside_bump _ _ _ _ _ (by decide))
  refine ⟨⟨_, ?_, congrArg (fun p => LexPort.finished p a value.length ((value.drop off).take len))
    ((State.lexPort_of_outside counted (by decide) _).trans port)⟩, (State.outside_le (by decide) counted).trans frame⟩
  rfl

/-! #### What a REQUEST meets -/

theorem exec_lexiconRead_powered {i : Fin 256} {notify : Bool} {index row off len : Nat} (powered : s.clock.powered = true) :
    exec (.lexiconRead i notify index row off len) s = .next (s.after (s.portCall i (.lexiconRead i notify index row off len)
      (fun s => s.portRead i notify index row off len))) := by
  rw [exec_lexiconRead, execLexiconRead, actRom_powered s _ powered, done_spec]

theorem exec_lexiconWrite_powered {i : Fin 256} {notify last : Bool} {index row off : Nat} {b : List Byte}
    (powered : s.clock.powered = true) : exec (.lexiconWrite i notify last index row off b) s = .next (s.after
      (s.portCall i (.lexiconWrite i notify last index row off b)
        (fun s => s.portWrite i notify last index row off b.length b))) := by
  rw [exec_lexiconWrite, execLexiconWrite, actRom_powered s _ powered, done_spec]

/-- Either command brings a REQUEST of n bytes. -/
theorem exec_port {i : Fin 256} {notify last : Bool} {index row off len : Nat} {b : List Byte} {c : Instr} {n : Nat}
    (h : (c = .lexiconRead i notify index row off len ∧ n = len) ∨
      (c = .lexiconWrite i notify last index row off b ∧ n = b.length)) (powered : s.clock.powered = true) :
    ∃ word f, exec c s = .next (s.after (s.portCall i c
      (fun (s : State) => s.portRequest i notify word (rowWord row off) n f))) := by
  obtain ⟨rfl, rfl⟩ | ⟨rfl, rfl⟩ := h
  · exact ⟨_, _, exec_lexiconRead_powered s powered⟩
  · exact ⟨_, _, exec_lexiconWrite_powered s powered⟩

theorem State.portCall_served {i : Nat} {c : Instr} {f : State → State} (live : s.cutPassed = false)
    (on : s.lexOn i = true) (reach : i = 0 ∨ s.security.recovery = false) (first : s.host.posted = []) :
    s.portCall i c f = f s := by
  have served : (s.lexOn i && (i == 0 || !s.security.recovery)) = true := by simpa [on] using reach
  rw [State.portCall, if_neg (by simp [live]), if_pos served, State.posted, first]
  rfl

theorem State.portCall_off {i : Nat} {c : Instr} {f : State → State} (live : s.cutPassed = false)
    (off : s.lexOn i = false ∨ (i ≠ 0 ∧ s.security.recovery = true)) : s.portCall i c f = s.unsupported i 0 8 true := by
  rw [State.portCall, if_neg (by simp [live]), if_neg]
  obtain off | ⟨vf, rom⟩ := off
  · simp [off]
  · simp [vf, rom]

/-- A write request of whole bytes, by the segment that it is. -/
theorem State.portWrite_idle {i : Fin 256} {notify last : Bool} {index row off : Nat} {b : List Byte}
    (idle : (s.lexPort i).busy = false) (lo : b.length ≠ 0) (hi : b.length ≤ 2048) :
    s.portWrite i notify last index row off b.length b =
      (State.settle (State.segment (State.countRequest ((s.withdraw i 0x0F8).putLexPort i { s.lexPort i with
          busy := true, notify := notify, serial := (s.lexPort i).serial + 1
          request := requestWord 2 notify last b.length index / 2 ^ 48 * 2 ^ 48 +
            requestWord 2 notify last b.length index % 2 ^ 28
          row := rowWord row off, data := b ++ (s.lexPort i).data.drop b.length }))
        (.host i) ⟨portPath i, index, row, false⟩ (.port i notify ((s.lexPort i).serial + 1)) off last b)
        (.port i notify ((s.lexPort i).serial + 1))).runConfig := by
  unfold State.portWrite
  rw [State.portRequest_idle s idle, if_neg (by omega)]
  dsimp only
  rw [slice_all, State.portTaken, State.lexPort_putLexPort, State.putLexPort_twice]

/-! #### Segmented writes that lapse (R455) -/

theorem exec_segmentLapse_powered (port : PortId) (powered : s.clock.powered = true) :
    exec (.segmentLapse port) s = .next (s.after (s.segmentLapse port)) := by
  rw [exec_segmentLapse, execSegmentLapse, actRom_powered s _ powered, done_spec]

theorem State.segmentLapse_found {port : PortId} {t : Transfer} (found : s.transferOf port = some t) : s.segmentLapse port =
    if s.due (128 * t.cyc + 250000000) then s.abandonTransfer port else s := by
  rw [State.segmentLapse, found, msCycles_second]

theorem State.segmentLapse_none {port : PortId} (none : s.transferOf port = none) : s.segmentLapse port = s := by
  rw [State.segmentLapse, none]

theorem State.abandonTransfer_found {port : PortId} {t : Transfer} (found : s.transferOf port = some t) :
    (s.abandonTransfer port).lexicon.transfers = s.lexicon.transfers.filter (fun t => t.port != port) ∧
      s.changesOnly (s.abandonTransfer port) (Footprint.none.plus [Reg.fieldSegLapsed] [.lexicon]) := by
  have closed : (s.closeTransfer port).outside (Footprint.none.plus [Reg.fieldSegLapsed] [.lexicon]) =
      s.outside (Footprint.none.plus [Reg.fieldSegLapsed] [.lexicon]) := by
    simp [State.outside, Footprint.keep, Footprint.plus, Footprint.none, State.closeTransfer, State.modLexicon]
  unfold State.abandonTransfer
  rw [found]
  cases port with
  | node n => exact ⟨rfl, (State.outside_bump _ _ _ _ _ (by decide)).trans closed⟩
  | host n => exact ⟨rfl, closed⟩

end

/-- Settles O58: what a REQUEST meets on its way to the port and at the port, its result, and a transfer that lapses. -/
theorem portsServeRequests : Obligations.PortsServeRequests := by
  unfold Obligations.PortsServeRequests
  intro i notify last index row off len b c n s v h powered
  obtain ⟨word, f, runs⟩ := exec_port s h powered
  refine ⟨fun cut => ?_, fun live off => ?_, fun live on reach first => ⟨fun busy => ?_, fun idle size => ?_, ?_⟩, ?_, ?_⟩
  · rw [runs, State.portCall, if_pos cut]
  · rw [runs, State.portCall_off s live (off.imp_right (fun h => ⟨h.1, h.2⟩))]
  · rw [runs, State.portCall_served s live on reach first, State.portRequest_busy s busy]
  · rw [runs, State.portCall_served s live on reach first, State.portRequest_idle s idle, if_pos size]
    have port := State.portDone_port (s.portTaken i notify word (rowWord row off)) i notify .type 0 []
    have before : (s.portTaken i notify word (rowWord row off)).lexPort i = _ := State.lexPort_putLexPort _ _ _
    refine ⟨_, rfl, ?_⟩
    rw [State.lexPort_after, port, before]
    refine ⟨rfl, rfl, rfl, rfl, rfl, rfl, State.changesOnly_after _ _ ?_⟩
    exact (State.frame_portDone _ _ _ _ _ _ (by decide)).trans (State.frame_portTaken _ _ _ _ _ (by decide))
  · rintro rfl idle lo hi
    refine ⟨?_, ?_, ?_⟩
    · rintro a rfl refused
      obtain ⟨_, rfl⟩ | ⟨other, _⟩ := h
      · have reads (word r : Nat) := State.readEntry_refused (off := off) (s.portTaken i notify word r).countRequest
          ((State.reads_portTaken s i notify word r _ _ ⟨0, 0, 0, .u8, .ro, 0, .any, 0, .none⟩ 0).1.trans refused)
        obtain ⟨⟨p, data, port⟩, only⟩ := State.portRead_ends s live idle (by omega) hi reads
        rw [exec_lexiconRead_powered s powered, State.portCall_served s live on reach first]
        refine ⟨_, rfl, ?_⟩
        rw [State.lexPort_after, port]
        refine ⟨rfl, rfl, ?_, ?_, State.changesOnly_after _ _ only⟩ <;> simp [LexPort.finished, data]
      · cases other
    · rintro o j value rfl found report challenge whole
      obtain ⟨_, rfl⟩ | ⟨other, _⟩ := h
      · have reads (word r : Nat) : (s.portTaken i notify word r).countRequest.readEntry ⟨portPath i, index, row, false⟩ off =
            ((s.portTaken i notify word r).countRequest, if off < value.length then .ok else .range,
              if off < value.length then value else []) := by
          have same := State.reads_portTaken s i notify word r { s.lexPort i with
            busy := true, notify := notify, serial := (s.lexPort i).serial + 1 } ⟨portPath i, index, row, false⟩ o j
          rw [State.readEntry_place _ (same.1.trans found) report challenge, same.2.trans whole.symm]
          split <;> rfl
        obtain ⟨⟨p, data, port⟩, only⟩ := State.portRead_ends s live idle (by omega) hi reads
        rw [exec_lexiconRead_powered s powered, State.portCall_served s live on reach first]
        refine ⟨_, rfl, ?_⟩
        rw [State.lexPort_after, port]
        refine ⟨rfl, fun inside => ?_, fun beyond => ?_, State.changesOnly_after _ _ only⟩
        · rw [if_pos inside, if_pos inside, ← data]
          exact ⟨rfl, rfl, rfl⟩
        · rw [if_neg (by omega)]
          rfl
      · cases other
    · rintro z rfl rfl
      obtain ⟨other, _⟩ | ⟨_, rfl⟩ := h
      · cases other
      · rw [exec_lexiconWrite_powered s powered, State.portCall_served s live on reach first,
          State.portWrite_idle s idle (by omega) hi]
  · intro port t found due
    rw [exec_segmentLapse_powered s port powered, State.segmentLapse_found s found, if_pos due]
    obtain ⟨closed, only⟩ := State.abandonTransfer_found s found
    exact ⟨_, rfl, closed, State.changesOnly_after _ _ only⟩
  · intro port stays
    rw [exec_segmentLapse_powered s port powered]
    obtain none | ⟨t, found, early⟩ := stays
    · rw [State.segmentLapse_none s none]
    · rw [State.segmentLapse_found s found, early, if_neg Bool.false_ne_true]

end Sys2Proof.Machine

namespace Sys2Proof.Machine

/-! ### Refused requests (R453) -/

section
variable (s : State)

theorem State.chanCall_asked {v : ChanVia} {c : Instr} {n : Nat} {a : Ask} (h : chanAsk v n = some a) :
    s.chanCall v c = s.direct c := by
  cases v with
  | lexicon p k => rfl
  | block i j size => cases h

theorem State.chanCall_shadow {v : ChanVia} {ctrl : Bool} {x : Nat} {a : Ask} (h : requestOf (.shadowWrite v ctrl x) = some a) :
    s.chanCall v (.shadowWrite v ctrl x) = s.direct (.shadowWrite v ctrl x) := by
  cases v with
  | lexicon p k => rfl
  | block i j size => cases h

/-- A command that stands for a write request acts as that request. -/
theorem exec_of_request {c : Instr} {a : Ask} (h : requestOf c = some a) : exec c s = actRom s (fun s => s.direct c) := by
  cases c
  case dmaEnable v => exact congrArg (actRom s) (funext fun s => State.chanCall_asked s h)
  case dmaDisable v => exact congrArg (actRom s) (funext fun s => State.chanCall_asked s h)
  case dmaResume v => exact congrArg (actRom s) (funext fun s => State.chanCall_asked s h)
  case dmaSkip v => exact congrArg (actRom s) (funext fun s => State.chanCall_asked s h)
  case dmaAbort v => exact congrArg (actRom s) (funext fun s => State.chanCall_asked s h)
  case shadowWrite v ctrl x => exact congrArg (actRom s) (funext fun s => State.chanCall_shadow s h)
  all_goals simp only [requestOf, reduceCtorEq] at h
  all_goals rfl

/-- A request that fails a check leaves the entry as it is. -/
theorem State.writeEntry_refused {q : LexReq} {who : Requester} {x : Extra} {b : List Byte} {r : Abort} (bad : r ≠ .ok)
    (h : s.target q true = .refused r ∨ (r = .readOnly ∧ ∃ n, s.target q true = .count n) ∨
      ∃ o i, s.target q true = .place o i ∧ s.checkValue q o i b = r) : s.writeEntry q who x b = (s, r) := by
  unfold State.writeEntry
  obtain refused | ⟨rfl, n, count⟩ | ⟨o, i, place, check⟩ := h
  · rw [refused]
  · rw [count]
  · rw [place]
    dsimp only
    rw [check]
    cases r with
    | ok => exact absurd rfl bad
    | _ => rfl

end

/-- Settles O56: each such command is its request, and a request that is refused leaves what it found. -/
theorem refusedRequestsChangeNothing : Obligations.RefusedRequestsChangeNothing := by
  unfold Obligations.RefusedRequestsChangeNothing
  rintro c a x s u asks rfl powered serves idle bad later refused
  have taken : (s.taken a.q.path).lexicon.config = none :=
    (State.config_of_outside (State.request_taken s a.q.path) (by decide)).trans idle
  have runs : s.direct c = (State.settle ((s.taken a.q.path).writeEntry a.q (.direct a.q.path) a.extra a.value)
      (.direct a.q.path)).runConfig := by
    rw [State.direct, asks]
    exact State.lexCall_serves s _ _ _ serves
  rw [exec_of_request s asks, actRom_powered s _ powered, done_spec, runs, State.writeEntry_refused _ bad refused,
    State.settle_refused_run _ _ bad later taken]

end Sys2Proof.Machine

namespace Sys2Proof.Machine

/-! ### Messages that are issued again or taken back -/

section
variable (s : State)

theorem State.egress_issueQueue (q : Nat) : (s.issueQueue q).outside .egress = s.outside .egress := by
  unfold State.issueQueue
  split
  · rfl
  · split
    · rfl
    · dsimp only
      split
      · rw [State.egress_sendMsix, State.outside_modEvents _ _ _ (by decide)]
      · rfl

theorem State.egress_retryMessages (i : Nat) : (s.retryMessages i).outside .egress = s.outside .egress := by
  unfold State.retryMessages
  rw [State.outside_each _ _ _ _ (fun s q => State.egress_issueQueue s q), State.egress_testMgmt]

theorem State.egress_withdrawMessages (i : Nat) (c : Nat → Bool) :
    (s.withdrawMessages i c).outside .egress = s.outside .egress := by
  unfold State.withdrawMessages
  dsimp only
  rw [State.outside_each, State.outside_le (e := .port9) (by decide) (State.port9_removeEntries _ _ (fun e => ?_))]
  · cases e.work <;> simp +contextual
  · intro s q
    cases q <;> exact State.outside_modEvents _ _ _ (by decide)

/-- What of the event controller stands whatever message goes or is taken back. -/
def Events.standing (e : Events) : Events := { e with outstanding := [], decided := [], lastMember := [] }

theorem Events.standing_parts {d e : Events} (h : d.standing = e.standing) :
    d.run = e.run ∧ d.selfHold = e.selfHold ∧ d.held = e.held := by
  have run := congrArg (fun e : Events => e.run) h
  have hold := congrArg (fun e : Events => e.selfHold) h
  have held := congrArg (fun e : Events => e.held) h
  exact ⟨run, hold, held⟩

theorem State.standing_sendMsix (i a v : Nat) (m q : Option Nat) :
    (s.sendMsix i a v m q).events.standing = s.events.standing := by
  unfold State.sendMsix
  rw [State.events_of_outside (State.port9_enqueue _ _ _ _ _) (by decide)]
  cases m <;> rfl

theorem State.standing_testMgmt (i : Nat) : (s.testMgmt i).events.standing = s.events.standing := by
  unfold State.testMgmt
  split
  · split
    · exact State.standing_sendMsix _ _ _ _ _ _
    · rfl
  · rfl

theorem State.standing_issueQueue (q : Nat) : (s.issueQueue q).events.standing = s.events.standing := by
  unfold State.issueQueue
  split
  · rfl
  · split
    · rfl
    · dsimp only
      split
      · exact State.standing_sendMsix _ _ _ _ _ _
      · rfl

theorem State.each_keeps {α β : Type} (g : State → β) (f : State → α → State) (h : ∀ s a, g (f s a) = g s) (l : List α) :
    g (s.each l f) = g s := by
  induction l generalizing s with
  | nil => rfl
  | cons a r ih => exact (ih (f s a)).trans (h s a)

theorem State.standing_retryMessages (i : Nat) : (s.retryMessages i).events.standing = s.events.standing := by
  unfold State.retryMessages
  dsimp only
  rw [State.each_keeps _ (fun x => x.events.standing) _ (fun x q => State.standing_issueQueue x q), State.standing_testMgmt]

theorem State.standing_withdrawMessages (i : Nat) (c : Nat → Bool) :
    (s.withdrawMessages i c).events.standing = s.events.standing := by
  unfold State.withdrawMessages
  dsimp only
  rw [State.each_keeps _ (fun x => x.events.standing) _ (fun x q => by cases q <;> rfl),
    State.events_of_outside (State.port9_removeEntries _ _ (fun e => ?_)) (by decide)]
  cases e.work <;> simp +contextual

theorem State.selfHold_holdChanged (i : Nat) (before : Bool) : (s.holdChanged i before).events.selfHold = s.events.selfHold := by
  have standing : (s.holdChanged i before).events.standing = s.events.standing := by
    unfold State.holdChanged
    dsimp only
    split
    · exact State.standing_withdrawMessages _ _ _
    · split
      · exact State.standing_retryMessages _ _
      · rfl
  exact (Events.standing_parts standing).2.1

/-- HOLD_EFFECTIVE follows the hold, whatever message goes or is taken back for it (R271). -/
theorem State.holdChanged_effect (i : Nat) (before : Bool) :
    (s.holdChanged i before).get Reg.holdEffective i = b2n (s.held i) ∧
      (s.holdChanged i before).outside (Footprint.egress.plus [Reg.holdEffective] []) =
        s.outside (Footprint.egress.plus [Reg.holdEffective] []) := by
  have frame (x : State) (b c : Bool) : (if b then x.withdrawMessages i (fun _ => true)
      else if c then x.retryMessages i else x).outside .egress = x.outside .egress :=
    State.outside_ite _ (State.egress_withdrawMessages _ _ _) (State.outside_ite _ (State.egress_retryMessages _ _) rfl)
  unfold State.holdChanged
  dsimp only
  rw [State.get_of_outside (frame _ _ _) _ _ (by decide), State.get_set_same, State.outside_le (by decide) (frame _ _ _),
    State.outside_set _ _ _ _ _ (by decide)]
  exact ⟨rfl, rfl⟩

end

/-! ### Accesses of fast-path pages (R201, Table 7.8) -/

section
variable (s : State)

/-- An access that a page takes in its turn: what it is, its size, and whether it writes. -/
def pageAccess (c : Instr) (i : Fin 256) (size : Nat) (write : Bool) (s u : State) : Prop :=
    ((∃ j v, c = .queueDoorbell i j size v ∧ write = true ∧ u = s.wakeOutsideA0 13) ∨
      (∃ j v, c = .dmaDoorbell i j size v ∧ write = true ∧ u = s.wakeOutsideA0 13) ∨
      (c = .claim i size ∧ write = false ∧ u = s) ∨ (∃ v, c = .complete i size v ∧ write = true ∧ u = s) ∨
      (∃ v, c = .selfHoldWrite i v ∧ size = 8 ∧ write = true ∧ u = s) ∨
      (∃ j v, c = .softPulse i j v ∧ size = 8 ∧ write = true ∧ u = s) ∨
      (∃ j, c ∈ [.dmaEnable (.block i j size), .dmaDisable (.block i j size), .dmaResume (.block i j size),
        .dmaSkip (.block i j size), .dmaAbort (.block i j size)] ∧ write = true ∧ u = s) ∨
      (∃ j ctrl v, c = .shadowWrite (.block i j size) ctrl v ∧ write = true ∧ u = s))

theorem State.wakeOutsideA0_wake (b : Nat) : (s.wakeOutsideA0 b).outside .wake = s.outside .wake :=
  State.outside_ite _ rfl (State.wake_wake s b)

/-- Such an access reaches its page, after the wake of a doorbell. -/
theorem exec_pageAccess {c : Instr} {i : Fin 256} {size : Nat} {write : Bool} {u : State} (hears : s.hears = true)
    (h : pageAccess c i size write s u) : exec c s = .next (s.after (u.pageCall i size write c)) ∧ u.cutPassed = false ∧
      u.host = s.host := by
  obtain ⟨power, cut, _⟩ := State.hears_spec s hears
  have acts (f : State → State) : actRom s f = .next (s.after (f s)) := by rw [actRom_powered s f power, done_spec]
  have wakes := State.wakeOutsideA0_wake s 13
  have rings (f : State → State) : s.doorbellCall f = f (s.wakeOutsideA0 13) := if_neg (by simp [cut])
  have woken : (s.wakeOutsideA0 13).cutPassed = false := (State.cutPassed_of_outside wakes (by decide) (by decide)).trans cut
  have host : (s.wakeOutsideA0 13).host = s.host := State.host_of_outside wakes (by decide)
  obtain ⟨j, v, rfl, rfl, rfl⟩ | ⟨j, v, rfl, rfl, rfl⟩ | ⟨rfl, rfl, rfl⟩ | ⟨v, rfl, rfl, rfl⟩ | ⟨v, rfl, rfl, rfl, rfl⟩ |
    ⟨j, v, rfl, rfl, rfl, rfl⟩ | ⟨j, mem, rfl, rfl⟩ | ⟨j, ctrl, v, rfl, rfl, rfl⟩ := h
  · exact ⟨(acts (fun t => t.doorbellCall (fun t => t.pageCall i size true (.queueDoorbell i j size v)))).trans
      (by rw [rings]), woken, host⟩
  · exact ⟨(acts (fun t => t.doorbellCall (fun t => t.pageCall i size true (.dmaDoorbell i j size v)))).trans
      (by rw [rings]), woken, host⟩
  · exact ⟨acts (fun t => t.pageCall i size false (.claim i size)), cut, rfl⟩
  · exact ⟨acts (fun t => t.pageCall i size true (.complete i size v)), cut, rfl⟩
  · exact ⟨acts (fun t => t.pageCall i 8 true (.selfHoldWrite i v)), cut, rfl⟩
  · exact ⟨acts (fun t => t.pageCall i 8 true (.softPulse i j v)), cut, rfl⟩
  · simp only [List.mem_cons, List.not_mem_nil, or_false] at mem
    refine ⟨?_, cut, rfl⟩
    obtain rfl | rfl | rfl | rfl | rfl := mem <;> exact acts (fun t => t.chanCall (.block i j size) _)
  · exact ⟨acts (fun t => t.chanCall (.block i j size) (.shadowWrite (.block i j size) ctrl v)), cut, rfl⟩

theorem State.pageCall_shape {i size : Nat} {write : Bool} {c : Instr} (cut : s.cutPassed = false) (h : size = 0 ∨ 8 < size) :
    s.pageCall i size write c = s.badTlp .bar0Shape i 0 write :=
  (if_pos h).trans (if_neg (by simp [cut]))

theorem State.pageCall_undecoded {i size : Nat} {write : Bool} {c : Instr} (cut : s.cutPassed = false) (lo : 0 < size)
    (hi : size ≤ 8) (off : s.decodes i = false) : s.pageCall i size write c = s.unsupported i 0 size write :=
  (if_neg (by omega)).trans ((if_neg (by simp [cut])).trans (if_neg (by simp [off])))

theorem State.pageCall_waits {i size : Nat} {write : Bool} {c : Instr} (cut : s.cutPassed = false) (lo : 0 < size)
    (hi : size ≤ 8) (on : s.decodes i = true) (behind : s.host.posted ≠ []) :
    s.pageCall i size write c = { s with host := { s.host with posted := s.host.posted ++ [c] } } :=
  (if_neg (by omega)).trans ((if_neg (by simp [cut])).trans ((if_pos on).trans (if_neg (by simpa using behind))))

/-- With nothing before it an access is taken at once. -/
theorem State.pageCall_taken {i size : Nat} {write : Bool} {c : Instr} {t : State} (cut : s.cutPassed = false) (lo : 0 < size)
    (hi : size ≤ 8) (on : s.decodes i = true) (first : s.host.posted = []) (takes : s.takeNow c = some t) :
    s.pageCall i size write c = t := by
  refine (if_neg (by omega)).trans ((if_neg (by simp [cut])).trans ((if_pos on).trans ((if_pos (by simp [first])).trans ?_)))
  rw [takes]

/-- An access that decodes and is first in its turn has its effect. -/
theorem exec_pageTaken {c : Instr} {i : Fin 256} {size : Nat} {write : Bool} {u t : State} (hears : s.hears = true)
    (h : pageAccess c i size write s u) (on : u.decodes i = true) (first : s.host.posted = []) (lo : 0 < size) (hi : size ≤ 8)
    (takes : u.takeNow c = some t) : exec c s = .next (s.after t) := by
  obtain ⟨runs, cut, host⟩ := exec_pageAccess s hears h
  rw [runs, State.pageCall_taken u cut lo hi on (by rw [host, first]) takes]

/-! ### Claims and completes (R265, R266) -/

theorem State.claimable_fresh (i : Nat) (e : Emit) (o : SegSet) :
    ((s.emit e).modEvents (fun x => { x with outstanding := o })).claimable i = s.claimable i := rfl

theorem State.claimable_congr {s t : State} {i : Nat} (pend : t.events.pend = s.events.pend)
    (claimed : t.events.claimed = s.events.claimed) (prio : ∀ n, t.get Reg.srcPriority n = s.get Reg.srcPriority n) :
    t.claimable i = s.claimable i := by
  have same : t.priority = s.priority := funext prio
  simp only [State.claimable, State.running, State.pendingOf, State.claimedOf, pend, claimed, same]

theorem State.testMgmt_quiet {i : Nat} (h : s.claimable i = none) : s.testMgmt i = s := if_neg (by simp [h])

theorem State.claim_part {i size : Nat} (h : size ≠ 8) : s.claim i size = s.emit (.word i 0) := if_pos h

theorem State.claim_none {i : Nat} (empty : s.claimable i = none) : s.claim i 8 =
    ((s.modEvents (fun e => { e with outstanding := e.outstanding.remove i })).bump Reg.spuriousClaims).emit (.word i 0x3FF) := by
  have word : s.claimWord i = 0x3FF := by rw [State.claimWord, empty]
  have claims : s.claim i 8 = (s.emit (.word i (s.claimWord i))).claimNow i := if_neg (by decide)
  rw [claims, word]
  unfold State.claimNow
  dsimp only
  generalize seen : (s.emit (.word i 0x3FF)).modEvents (fun e => { e with outstanding := e.outstanding.remove i }) = x
  have none : x.claimable i = none := by rw [← seen]; exact empty
  have counted := State.outside_bump x ⟨[Reg.spuriousClaims], []⟩ Reg.spuriousClaims 0 1 (by decide)
  have events : (x.bump Reg.spuriousClaims).events = x.events := State.events_of_outside counted (by decide)
  rw [none]
  dsimp only
  rw [State.testMgmt_quiet, ← seen]
  · rfl
  · rw [State.claimable_congr (congrArg Events.pend events) (congrArg Events.claimed events)
      (fun n => State.get_of_outside counted _ _ (by decide)), none]

/-- A claim of source n: its count is given and cleared, it is no longer pending, and it is claimed. -/
theorem State.claim_some {i n : Nat} (found : s.claimable i = some n) :
    (s.claim i 8).outbox = s.outbox ++ [.word i (s.get Reg.mgmtCount (i * 1024 + n) * 4294967296 + s.priority n * 65536 + n)] ∧
    (s.claim i 8).get Reg.mgmtCount (i * 1024 + n) = 0 ∧
    (s.claim i 8).events.pend = s.events.pend.remove (i * 1024 + n) ∧
    (s.claim i 8).events.claimed = s.events.claimed.add (i * 1024 + n) ∧
    (s.claim i 8).outside .event = s.outside .event := by
  have word : s.claimWord i = s.get Reg.mgmtCount (i * 1024 + n) * 4294967296 + s.priority n * 65536 + n := by
    rw [State.claimWord, found]
    rfl
  have claims : s.claim i 8 = (s.emit (.word i (s.claimWord i))).claimNow i := if_neg (by decide)
  have fresh (w : Nat) : ((s.emit (.word i w)).modEvents (fun e => { e with outstanding := e.outstanding.remove i })).claimable i =
      some n := found
  rw [claims, word]
  unfold State.claimNow
  dsimp only
  rw [fresh]
  dsimp only
  rw [State.outbox_of_outside (State.egress_testMgmt _ _) (by decide), State.get_of_outside (State.egress_testMgmt _ _) _ _ (by decide),
    (State.sources_testMgmt _ _).1, (State.sources_testMgmt _ _).2.1, State.event_testMgmt]
  refine ⟨rfl, State.get_set_same _ _ _ _, rfl, rfl, ?_⟩
  rw [State.outside_modEvents _ _ _ (by decide), State.outside_set _ _ _ _ _ (by decide),
    State.outside_modEvents _ _ _ (by decide), State.outside_emit _ _ _ (by decide)]

theorem State.complete_part {i size v : Nat} (h : size ≠ 8) : s.complete i size v = s := if_pos h

theorem State.complete_claimed {i v : Nat} (h : s.events.claimed.mem (i * 1024 + v % 1024) = true) : s.complete i 8 v =
    (s.modEvents (fun e => { e with claimed := e.claimed.remove (i * 1024 + v % 1024) })).testMgmt i := by
  unfold State.complete
  dsimp only
  rw [if_neg (by decide)]
  exact if_pos h

theorem State.complete_unclaimed {i v : Nat} (h : s.events.claimed.mem (i * 1024 + v % 1024) = false) :
    s.complete i 8 v = s.bump Reg.badCompletes := by
  unfold State.complete
  dsimp only
  rw [if_neg (by decide), if_neg (by simp [srcKey, h])]

/-- The instance's own hold is set or released. -/
theorem State.selfHoldWrite_effect (i v : Nat) : (s.selfHoldWrite i v).events.selfHold =
      (if bit v 0 then s.events.selfHold.add i else s.events.selfHold.remove i) ∧
    (s.selfHoldWrite i v).get Reg.holdEffective i =
      b2n ((s.selfHoldWrite i v).events.selfHold.mem i || s.get Reg.holdPf i == 1) ∧
    (s.selfHoldWrite i v).outside (Footprint.event.plus [Reg.holdEffective] []) =
      s.outside (Footprint.event.plus [Reg.holdEffective] []) := by
  unfold State.selfHoldWrite
  dsimp only
  rw [State.selfHold_holdChanged, (State.holdChanged_effect _ _ _).1, State.outside_le (by decide) (State.holdChanged_effect _ _ _).2,
    State.outside_modEvents _ _ _ (by decide)]
  exact ⟨rfl, rfl, rfl⟩

end

/-- Settles O36: the way of an access to its page, and what CLAIM, COMPLETE and SELF_HOLD find there. -/
theorem pagesTakeTheirTurn : Obligations.PagesTakeTheirTurn := by
  unfold Obligations.PagesTakeTheirTurn
  refine ⟨fun c i size write s u hears access => ?_, ?_⟩
  · obtain ⟨runs, cut, host⟩ := exec_pageAccess s hears access
    rw [runs]
    refine ⟨fun shape => ?_, fun lo hi off => ?_, fun lo hi on behind => ?_⟩
    · rw [State.pageCall_shape u cut shape]
    · rw [State.pageCall_undecoded u cut lo hi off]
    · rw [State.pageCall_waits u cut lo hi on (host ▸ behind)]
  · rintro i size v k s hears on first lo hi rfl
    have claims {t : State} (takes : s.takeNow (.claim i size) = some t) : exec (.claim i size) s = .next (s.after t) :=
      exec_pageTaken s (write := false) hears (.inr (.inr (.inl ⟨rfl, rfl, rfl⟩))) on first lo hi takes
    have completes {t : State} (takes : s.takeNow (.complete i size v) = some t) :
        exec (.complete i size v) s = .next (s.after t) :=
      exec_pageTaken s hears (.inr (.inr (.inr (.inl ⟨v, rfl, rfl, rfl⟩)))) on first lo hi takes
    refine ⟨fun part => ?_, fun whole none => ?_, fun n whole found => ?_, fun whole mem => ?_, fun whole mem => ?_, ?_⟩
    · exact ⟨(claims rfl).trans (by rw [State.claim_part s part]), (completes rfl).trans (by rw [State.complete_part s part])⟩
    · subst whole
      rw [claims rfl, State.claim_none s none]
    · subst whole
      obtain ⟨word, count, pend, claimed, only⟩ := State.claim_some s found
      exact ⟨_, claims rfl, word, count, pend, claimed, State.changesOnly_after _ _ only⟩
    · subst whole
      rw [completes rfl, State.complete_claimed s mem]
    · subst whole
      rw [completes rfl, State.complete_unclaimed s mem]
    · obtain ⟨hold, effective, only⟩ := State.selfHoldWrite_effect s i v
      have writes : exec (.selfHoldWrite i v) s = .next (s.after (s.selfHoldWrite i v)) :=
        exec_pageTaken s hears (.inr (.inr (.inr (.inr (.inl ⟨v, rfl, rfl, rfl, rfl⟩))))) on first (by decide) (by decide) rfl
      exact ⟨_, writes, hold, effective, State.changesOnly_after _ _ only⟩

end Sys2Proof.Machine

namespace Sys2Proof.Machine

/-! ### The pools, as registers alone decide them -/

theorem Tbl.rowsOf_filter (r : Nat) (t : Tbl Nat) (p : Nat → Bool) (h : ∀ k, k / 4294967296 = r → p k = true) :
    Tbl.rowsOf r (t.filter (fun x => p x.1)) = Tbl.rowsOf r t := by
  induction t with
  | nil => rfl
  | cons x rest ih =>
    obtain ⟨k, v⟩ := x
    by_cases here : k / 4294967296 = r
    · simp [Tbl.rowsOf, here, h k here, ih]
    · by_cases kept : p k = true <;> simp [Tbl.rowsOf, here, kept, ih]

section
variable {s t : State} {f : Footprint}

theorem State.rowsOf_of_outside (h : t.outside f = s.outside f) {r : Nat} (n : r ∉ f.regs) : t.rowsOf r = s.rowsOf r := by
  have rows (x : State) : Tbl.rowsOf r (x.outside f).regs = x.rowsOf r :=
    Tbl.rowsOf_filter r x.regs (fun k => !(f.regs.contains (k / 4294967296))) (fun k e => by simp [e, n])
  rw [← rows t, h, rows s]

theorem State.ownerIn_of_outside (h : t.outside f = s.outside f) {a b : Nat} (m : a ∉ f.regs) (n : b ∉ f.regs) (x : Nat) :
    t.ownerIn a b x = s.ownerIn a b x := by
  simp only [State.ownerIn, State.holders, State.rowsOf_of_outside h n, State.get_of_outside h _ _ m, State.get_of_outside h _ _ n]

theorem State.queueOwner_of_outside (h : t.outside f = s.outside f) (m : Reg.effQueueFirst ∉ f.regs)
    (n : Reg.effQueueCount ∉ f.regs) (q : Nat) : t.queueOwner q = s.queueOwner q := State.ownerIn_of_outside h m n q

theorem State.live_of_outside (h : t.outside f = s.outside f) (n : Reg.instState ∉ f.regs) (i : Nat) : t.live i = s.live i := by
  rw [State.live, State.get_of_outside h _ _ n, State.live]

end

/-! ### Queues: their doorbells, their timers and their states (R252 to R259) -/

section
variable (s : State)

@[simp] theorem State.qrun_putQrun (q : Nat) (r : QRun) : (s.putQrun q r).qrun q = r := Tbl.getD_put_same _ _ _ _

theorem State.qrun_of_events {s t : State} (h : t.events.run = s.events.run) (q : Nat) : t.qrun q = s.qrun q := by
  rw [State.qrun, h, State.qrun]

theorem State.qrun_issueQueue (q k : Nat) : (s.issueQueue q).qrun k = s.qrun k :=
  State.qrun_of_events (Events.standing_parts (State.standing_issueQueue s q)).1 k

/-- The decision of a queue that is armed and has enough unconsumed: it is no longer armed, and U is zero. -/
theorem State.decideQueue_decides {q : Nat} {timer : Bool} (armed : (s.qrun q).armed = true) (some_ : 0 < (s.qrun q).u)
    (enough : timer = true ∨ s.get Reg.queueCoalCount q ≤ (s.qrun q).u) :
    ((s.decideQueue q timer).qrun q).armed = false ∧ ((s.decideQueue q timer).qrun q).u = 0 := by
  have run (x : State) : (if x.events.decided.contains q then x else
      x.modEvents (fun e => { e with decided := (e.decided ++ [q]).mergeSort (· ≤ ·) })).qrun q = x.qrun q := by
    split <;> rfl
  have decides : s.decideQueue q timer = _ := if_pos (by
    simp only [armed, some_, decide_true, Bool.true_and, Bool.or_eq_true, decide_eq_true_eq]
    exact enough)
  rw [decides, State.qrun_issueQueue, run, State.qrun_putQrun]
  exact ⟨rfl, rfl⟩

theorem State.decideQueue_waits {q : Nat} (h : (s.qrun q).armed = false ∨ (s.qrun q).u = 0 ∨
    (s.qrun q).u < s.get Reg.queueCoalCount q) : s.decideQueue q false = s := by
  refine if_neg ?_
  obtain h | h | h := h
  · simp [h]
  · simp [h]
  · simp [h]

/-- The record of what a queue has lost goes once there is room for it (R255). -/
theorem State.overflowRecord_lost {q : Nat} (lost : s.get Reg.queueLost q ≠ 0) (goes : s.recordGoes q = true) :
    (s.overflowRecord q).get Reg.queueLost q = 0 := by
  have writes : s.overflowRecord q = _ := if_pos ⟨lost, goes⟩
  rw [writes, State.get_of_outside (State.egress_withdraw _ _ _) _ _ (by decide)]
  exact State.get_set_same _ _ _ _

theorem State.overflowRecord_none {q : Nat} (none : s.get Reg.queueLost q = 0) : s.overflowRecord q = s :=
  if_neg (by simp [none])

/-- CONS of a doorbell that is taken, with the running state of its queue (R254). -/
def State.queueConsumed (q value : Nat) : State :=
  let s := s.set Reg.queueCons q (value % 4294967296)
  let r := s.qrun q
  s.putQrun q { r with
    u := sat 255 (s.queueFill q), since := if r.u = 0 then s.clauseNow else r.since, armed := r.armed || bit value 63 }

theorem State.queueDoorbell_ignored {i j size v : Nat} (h : size ≠ 8 ∨ s.get Reg.effQueueCount i ≤ j ∨
    s.get Reg.queueEnable (s.get Reg.effQueueFirst i + j) = 0) :
    s.queueDoorbell i j size v = (s.bump Reg.hostDoorbellIgnored i).raise i 0x010 0 := if_pos h

theorem State.queueDoorbell_refused {i j v q : Nat} (name : q = s.get Reg.effQueueFirst i + j)
    (inside : j < s.get Reg.effQueueCount i) (on : s.get Reg.queueEnable q ≠ 0)
    (beyond : s.queueFill q < (v % 4294967296 + 4294967296 - s.get Reg.queueCons q) % 4294967296) :
    s.queueDoorbell i j 8 v = (s.bump Reg.queueDoorbellsRefused).raise i 0x060 0 := by
  subst name
  exact (if_neg (by omega)).trans (if_pos beyond)

theorem State.queueDoorbell_moves {i j v q : Nat} (name : q = s.get Reg.effQueueFirst i + j)
    (inside : j < s.get Reg.effQueueCount i) (on : s.get Reg.queueEnable q ≠ 0)
    (within : (v % 4294967296 + 4294967296 - s.get Reg.queueCons q) % 4294967296 ≤ s.queueFill q) :
    s.queueDoorbell i j 8 v = ((s.queueConsumed q v).overflowRecord q).decideQueue q false := by
  subst name
  exact (if_neg (by omega)).trans (if_neg (by omega))

theorem State.queueFill_consumed (q v : Nat) : (s.set Reg.queueCons q (v % 4294967296)).queueFill q =
    (s.get Reg.queueProd q + 4294967296 - v % 4294967296) % 4294967296 := by
  rw [State.queueFill, State.get_set_same, State.get_set_register _ _ _ _ (by decide)]

theorem State.frame_queueConsumed {f : Footprint} (q v : Nat) (h : (⟨[Reg.queueCons], [.events]⟩ : Footprint).le f = true) :
    (s.queueConsumed q v).outside f = s.outside f := by
  refine State.outside_le h ?_
  exact (State.outside_modEvents _ _ _ (by decide)).trans (State.outside_set _ _ _ _ _ (by decide))

theorem State.egress_decideQueue (q : Nat) (b : Bool) : (s.decideQueue q b).outside .egress = s.outside .egress := by
  refine State.outside_ite _ ?_ rfl
  exact (State.egress_issueQueue _ _).trans ((State.outside_ite _ rfl (State.outside_modEvents _ _ _ (by decide))).trans
    (State.outside_modEvents _ _ _ (by decide)))

/-- What a doorbell that is taken leaves of its queue (R254, R255, R259). -/
theorem State.doorbell_effect {q v fill n : Nat} (uncut : s.cutPassed = false) (on : s.get Reg.queueEnable q ≠ 0)
    (filled : fill = (s.get Reg.queueProd q + 4294967296 - v % 4294967296) % 4294967296) (count : n = sat 255 fill)
    {t : State} (moves : t = ((s.queueConsumed q v).overflowRecord q).decideQueue q false) :
    t.get Reg.queueCons q = v % 4294967296 ∧
    (s.get Reg.queueLost q ≠ 0 → fill < s.queuePlaces q → s.host.busMaster.mem ((s.queueOwner q).getD 0) = true →
      t.get Reg.queueLost q = 0) ∧
    (s.get Reg.queueLost q = 0 →
      (((s.qrun q).armed || bit v 63) = true → 0 < n → s.get Reg.queueCoalCount q ≤ n →
        (t.qrun q).armed = false ∧ (t.qrun q).u = 0) ∧
      (((s.qrun q).armed || bit v 63) = false ∨ n = 0 ∨ n < s.get Reg.queueCoalCount q →
        (t.qrun q).armed = ((s.qrun q).armed || bit v 63) ∧ (t.qrun q).u = n)) ∧
    t.outside (Footprint.event.plus [Reg.queueCons] []) = s.outside (Footprint.event.plus [Reg.queueCons] []) := by
  have frame := State.frame_queueConsumed (f := ⟨[Reg.queueCons], [.events]⟩) s q v (by decide)
  have consumed : (s.queueConsumed q v).get Reg.queueCons q = v % 4294967296 := State.get_set_same _ _ _ _
  have lostSame : (s.queueConsumed q v).get Reg.queueLost q = s.get Reg.queueLost q := State.get_of_outside frame _ _ (by decide)
  have coalSame : (s.queueConsumed q v).get Reg.queueCoalCount q = s.get Reg.queueCoalCount q :=
    State.get_of_outside frame _ _ (by decide)
  have run : ((s.queueConsumed q v).qrun q).armed = ((s.qrun q).armed || bit v 63) ∧ ((s.queueConsumed q v).qrun q).u = n := by
    rw [State.queueConsumed, State.qrun_putQrun]
    exact ⟨rfl, by rw [count, filled]; exact congrArg (sat 255) (State.queueFill_consumed s q v)⟩
  subst moves
  refine ⟨?_, fun lost room master => ?_, fun none => ?_, ?_⟩
  · rw [State.get_of_outside (State.event_decideQueue _ _ _) _ _ (by decide),
      State.get_of_outside (State.event_overflowRecord _ _) _ _ (by decide), consumed]
  · have goes : (s.queueConsumed q v).recordGoes q = true := by
      have fillSame : (s.queueConsumed q v).queueFill q = fill := (State.queueFill_consumed s q v).trans filled.symm
      have places : (s.queueConsumed q v).queuePlaces q = s.queuePlaces q := by
        rw [State.queuePlaces, State.get_of_outside frame _ _ (by decide), State.queuePlaces]
      rw [State.recordGoes, State.cutPassed_of_outside frame (by decide) (by decide), State.get_of_outside frame _ _ (by decide),
        State.host_of_outside frame (by decide), State.queueOwner_of_outside frame (by decide) (by decide), fillSame, places]
      simp [uncut, on, master, room]
    rw [State.get_of_outside (State.egress_decideQueue _ _ _) _ _ (by decide)]
    exact State.overflowRecord_lost _ (lostSame ▸ lost) goes
  · rw [State.overflowRecord_none _ (lostSame.trans none)]
    refine ⟨fun armed some_ enough => ?_, fun waits => ?_⟩
    · exact State.decideQueue_decides _ (run.1.trans armed) (by rw [run.2]; exact some_) (.inr (by rw [run.2, coalSame]; exact enough))
    · rw [State.decideQueue_waits _ (by rw [run.1, run.2, coalSame]; exact waits)]
      exact run
  · rw [State.outside_le (e := .event) (by decide) (State.event_decideQueue _ _ _),
      State.outside_le (e := .event) (by decide) (State.event_overflowRecord _ _), State.frame_queueConsumed _ _ _ (by decide)]

/-! #### The timer of a queue -/

theorem exec_queueCoalTimeout_hears (k : Fin 4096) (hears : s.hears = true) :
    exec (.queueCoalTimeout k) s = .next (s.after (s.queueCoalExpiry k)) := by
  have awake : s.awake = true := by
    simp only [State.hears, Bool.and_eq_true] at hears
    exact hears.1
  rw [exec_queueCoalTimeout, execQueueCoalTimeout, act_of_awake s _ awake]
  exact congrArg (fun t => Host.Outcome.next (s.after t)) (if_neg (by simp [(State.hears_spec s hears).2.1]))

/-- A pass of an item that is not due yet does nothing. -/
theorem State.expiryRuns_early {k d : Nat} {oldest : Bool} (early : s.clock.clause < d) : s.expiryRuns k d oldest = false := by
  unfold State.expiryRuns
  dsimp only
  rw [if_neg (by omega), decide_eq_false (by omega)]
  rfl

/-! #### Queue states and holds by request -/

theorem State.legalIn_queueEnable (i v : Nat) :
    s.legalIn ⟨Reg.queueEnable, 0, 4096, .bool, .rw, 0, (.between 0 1), 95, .volatile⟩ i v =
      (bit 95 s.image.code && (s.queueOwner i).any (fun k => s.live k)) := rfl

theorem State.queueOwner_live_taken (p : Path) (k : Nat) :
    ((s.taken p).queueOwner k).any (fun i => (s.taken p).live i) = (s.queueOwner k).any (fun i => s.live i) := by
  have frame := State.request_taken s p
  rw [State.queueOwner_of_outside frame (by decide) (by decide)]
  congr 1
  funext i
  exact State.live_of_outside frame (by decide) i

theorem exec_queueEnable_allowed {p : Path} {k : Fin 4096} (h : s.allows (.queueEnable p k) = true)
    (idle : ((s.taken p).queueEnableWrite k 1).lexicon.config = none) : (s.queueOwner k).any (fun i => s.live i) = true ∧
      exec (.queueEnable p k) s = .next (s.after (((s.taken p).queueEnableWrite k 1).emit (.lexAnswer p 0 []))) := by
  have asks : requestOf (.queueEnable p k) = some ⟨⟨p, Reg.queueEnable, k, false⟩, .plain, [1]⟩ := rfl
  constructor
  · have legal := (State.allows_checked s asks h Reg.lookup_queueEnable (by decide)).1
    rw [State.legalIn_queueEnable, Bool.and_eq_true] at legal
    rw [← State.queueOwner_live_taken s p]
    exact legal.2
  · rw [exec_queueEnable, execQueueEnable]
    exact State.direct_ok s asks h Reg.lookup_queueEnable (State.apply_queueEnable _ _ _ _ _ _) idle

theorem exec_queueDisable_allowed {p : Path} {k : Fin 4096} (h : s.allows (.queueDisable p k) = true)
    (idle : ((s.taken p).queueEnableWrite k 0).lexicon.config = none) :
    exec (.queueDisable p k) s = .next (s.after (((s.taken p).queueEnableWrite k 0).emit (.lexAnswer p 0 []))) := by
  rw [exec_queueDisable, execQueueDisable]
  exact State.direct_ok s (show requestOf (.queueDisable p k) = some ⟨⟨p, Reg.queueEnable, k, false⟩, .plain, [0]⟩ from rfl) h
    Reg.lookup_queueEnable (State.apply_queueEnable _ _ _ _ _ _) idle

/-- With no record held, an idle queue that is enabled only starts. -/
theorem State.queueEnableWrite_enables {j : Nat} (off : s.get Reg.queueEnable j ≠ 1) (held : s.events.held = []) :
    ∃ g : Events → Events, (∀ e, (g e).run = e.run) ∧ s.queueEnableWrite j 1 = (s.enableQueue j).modEvents g := by
  have none : (s.enableQueue j).events.held = [] := held
  unfold State.queueEnableWrite
  rw [if_neg (by decide), if_neg off]
  dsimp only
  rw [none, List.filter_nil, State.each, List.foldl_nil]
  refine ⟨_, fun e => ?_, rfl⟩
  rfl

theorem State.enableQueue_effect (j : Nat) : (s.enableQueue j).get Reg.queueEnable j = 1 ∧
    (s.enableQueue j).get Reg.queueProd j = 0 ∧ (s.enableQueue j).get Reg.queueCons j = 0 ∧
    ((s.enableQueue j).qrun j).armed = true ∧ ((s.enableQueue j).qrun j).u = 0 := by
  rw [State.enableQueue, State.qrun_putQrun]
  refine ⟨State.get_set_same _ _ _ _, ?_, ?_, rfl, rfl⟩
  · exact (State.get_set_register _ _ _ _ (by decide)).trans ((State.get_set_register _ _ _ _ (by decide)).trans
      (State.get_set_same _ _ _ _))
  · exact (State.get_set_register _ _ _ _ (by decide)).trans (State.get_set_same _ _ _ _)

/-- What QUEUE_ENABLE may change. -/
theorem State.frame_queueEnableWrite {f : Footprint} (j v : Nat)
    (h : (Footprint.event.plus [Reg.queueEnable, Reg.queueCons] []).le f = true) :
    (s.queueEnableWrite j v).outside f = s.outside f := by
  refine State.outside_le h ?_
  have put (r : QRun) : (s.putQrun j r).outside (Footprint.event.plus [Reg.queueEnable, Reg.queueCons] []) =
      s.outside (Footprint.event.plus [Reg.queueEnable, Reg.queueCons] []) := State.outside_modEvents _ _ _ (by decide)
  refine State.outside_ite _ (State.outside_ite _ (put _) rfl) (State.outside_ite _ (put _) ?_)
  dsimp only
  rw [State.outside_each _ _ _ _ (fun s h => State.frame_recordMgmt s _ _ _ _ _ (by decide)),
    State.outside_modEvents _ _ _ (by decide), State.enableQueue]
  exact (State.outside_modEvents _ _ _ (by decide)).trans ((State.outside_set _ _ _ _ _ (by decide)).trans
    ((State.outside_set _ _ _ _ _ (by decide)).trans (State.outside_set _ _ _ _ _ (by decide))))

theorem State.config_queueEnableWrite {c : Instr} {p : Path} (j v : Nat) (h : s.allows c = true) :
    ((s.taken p).queueEnableWrite j v).lexicon.config = none :=
  (State.config_of_outside (State.frame_queueEnableWrite (f := Footprint.event.plus [Reg.queueEnable, Reg.queueCons] [])
    (s.taken p) j v (by decide)) (by decide)).trans (State.config_taken s p h)

/-- A wake moves only its ball and its message. -/
theorem State.standing_wake (b : Nat) : (s.wake b).events.selfHold = s.events.selfHold ∧
    (s.wake b).events.held = s.events.held := by
  have told (x : State) : x.wakeSignal.events.selfHold = x.events.selfHold ∧ x.wakeSignal.events.held = x.events.held := by
    unfold State.wakeSignal
    dsimp only
    split
    · exact ⟨rfl, rfl⟩
    · split
      · exact ⟨rfl, rfl⟩
      · split
        · split <;> exact ⟨rfl, rfl⟩
        · exact ⟨rfl, rfl⟩
  unfold State.wake
  split
  · exact told _
  · exact ⟨rfl, rfl⟩

theorem State.standing_taken (p : Path) : (s.taken p).events.selfHold = s.events.selfHold ∧
    (s.taken p).events.held = s.events.held := by
  cases p with
  | field n => exact State.standing_wake s 8
  | _ => exact ⟨rfl, rfl⟩

theorem exec_holdPfWrite_allowed {p : Path} {i : Fin 256} {on : Bool} (h : s.allows (.holdPfWrite p i on) = true) :
    exec (.holdPfWrite p i on) s = .next (s.after (((s.taken p).holdPfWrite i on).emit (.lexAnswer p 0 []))) := by
  have value : (fromLe ((le 1 (b2n on)).take 8) == 1) = on := by cases on <;> decide
  have applied := State.apply_holdPf (s.taken p) p (.direct p) .plain i (le 1 (b2n on))
  rw [value] at applied
  have idle : ((s.taken p).holdPfWrite i on).lexicon.config = none := by
    have frame : ((s.taken p).holdPfWrite i on).outside (Footprint.egress.plus [Reg.holdPf, Reg.holdEffective] []) =
        (s.taken p).outside (Footprint.egress.plus [Reg.holdPf, Reg.holdEffective] []) :=
      (State.outside_le (by decide) (State.holdChanged_effect _ _ _).2).trans (State.outside_set _ _ _ _ _ (by decide))
    exact (State.config_of_outside frame (by decide)).trans (State.config_taken s p h)
  rw [exec_holdPfWrite, execHoldPfWrite]
  exact State.direct_ok s (show requestOf (.holdPfWrite p i on) = some ⟨⟨p, Reg.holdPf, i, false⟩, .plain, le 1 (b2n on)⟩ from rfl)
    h Reg.lookup_holdPf applied idle

/-- The PF's hold of an instance (R271). -/
theorem State.holdPfWrite_effect (i : Nat) (on : Bool) : (s.holdPfWrite i on).get Reg.holdPf i = b2n on ∧
    (s.holdPfWrite i on).get Reg.holdEffective i = b2n (s.events.selfHold.mem i || on) ∧
    (s.holdPfWrite i on).outside (Footprint.event.plus [Reg.holdPf, Reg.holdEffective] []) =
      s.outside (Footprint.event.plus [Reg.holdPf, Reg.holdEffective] []) := by
  have held : (s.set Reg.holdPf i (b2n on)).held i = (s.events.selfHold.mem i || on) := by
    rw [State.held, State.get_set_same]
    cases on <;> rfl
  unfold State.holdPfWrite
  dsimp only
  rw [State.get_of_outside (State.holdChanged_effect _ _ _).2 _ _ (by decide), State.get_set_same,
    (State.holdChanged_effect _ _ _).1, held, State.outside_le (by decide) (State.holdChanged_effect _ _ _).2,
    State.outside_set _ _ _ _ _ (by decide)]
  exact ⟨rfl, rfl, rfl⟩

end

/-- Settles O37: a doorbell by what it finds of its queue, the timer, and the requests by their equations. -/
theorem queuesRun : Obligations.QueuesRun := by
  unfold Obligations.QueuesRun
  refine ⟨?_, ?_⟩
  · intro i j q size v d fill n k s u hears hu hq hd hfill hn
    have access : pageAccess (.queueDoorbell i j size v) i size true s u := .inl ⟨j, v, rfl, rfl, hu⟩
    have uncut := (exec_pageAccess s hears access).2.1
    refine ⟨fun on first lo hi => ?_, ?_⟩
    · have rings : exec (.queueDoorbell i j size v) s = .next (s.after (u.queueDoorbell i j size v)) :=
        exec_pageTaken s hears access on first lo hi rfl
      refine ⟨fun ignored => ?_, fun whole inside enabled => ⟨fun beyond => ?_, fun within => ?_⟩⟩
      · rw [rings, State.queueDoorbell_ignored u (hq ▸ ignored)]
      · subst whole
        rw [rings, State.queueDoorbell_refused u hq inside enabled (hd ▸ beyond)]
      · subst whole
        obtain ⟨cons, lost, decided, only⟩ := State.doorbell_effect u uncut enabled hfill hn rfl
        rw [rings, State.queueDoorbell_moves u hq inside enabled (hd ▸ within)]
        refine ⟨_, rfl, cons, lost, decided, State.changesOnly_after _ _ ?_⟩
        unfold State.changesOnly
        rw [only, hu, State.frame_wakeOutsideA0 _ _ (by decide)]
    · rintro b rfl
      refine ⟨fun armed some_ timed due => ?_, fun waits => ?_⟩
      · have expires : s.queueCoalExpiry k = (s.expiryDone 7 ((s.qrun k).since + s.get Reg.queueCoalTime k)).decideQueue k true :=
          if_pos ⟨armed, some_, timed, due⟩
        have decides := State.decideQueue_decides (s.expiryDone 7 ((s.qrun k).since + s.get Reg.queueCoalTime k)) (q := k)
          (timer := true) armed (Nat.pos_of_ne_zero some_) (.inl rfl)
        rw [exec_queueCoalTimeout_hears s k hears, expires]
        refine ⟨_, rfl, rfl, decides.2, decides.1, State.changesOnly_after _ _ ?_⟩
        exact (State.outside_le (by decide) (State.event_decideQueue _ _ _)).trans (State.outside_clock _ _ (by decide))
      · have stays : s.queueCoalExpiry k = s := by
          refine if_neg ?_
          rintro ⟨armed, some_, timed, due⟩
          obtain h | h | h | h | h := waits
          · simp [armed] at h
          · exact some_ h
          · exact timed h
          · simp [State.expiryRuns_early s h] at due
          · simp [h] at due
        rw [exec_queueCoalTimeout_hears s k hears, stays]
  · rintro p k i s u rfl
    refine ⟨fun allowed => ?_, fun allowed => ?_, fun on allowed => ?_⟩
    · obtain ⟨owned, enables⟩ := exec_queueEnable_allowed s allowed (State.config_queueEnableWrite s k 1 allowed)
      refine ⟨owned, enables, fun off held => ⟨_, enables, ?_⟩⟩
      obtain ⟨g, run, writes⟩ := State.queueEnableWrite_enables (s.taken p) (j := k)
        (by rw [State.get_taken s p _ _ (by decide)]; exact off) ((State.standing_taken s p).2.trans held)
      obtain ⟨enable, prod, cons, armed, empty⟩ := State.enableQueue_effect (s.taken p) k
      have same : ((s.taken p).queueEnableWrite k 1).qrun k = ((s.taken p).enableQueue k).qrun k := by
        rw [writes]
        exact State.qrun_of_events (run _) k
      have only := State.frame_queueEnableWrite (f := Footprint.request.plus [Reg.queueEnable, Reg.queueCons] [])
        (s.taken p) k 1 (by decide)
      rw [← same] at armed empty
      refine ⟨by rw [writes]; exact enable, by rw [writes]; exact prod, by rw [writes]; exact cons, armed, empty,
        State.changesOnly_after _ _ ?_⟩
      exact (State.outside_emit _ _ _ (by decide)).trans (only.trans (State.outside_le (by decide) (State.request_taken s p)))
    · have disables := exec_queueDisable_allowed s allowed (State.config_queueEnableWrite s k 0 allowed)
      have same := State.get_taken s p Reg.queueEnable k (by decide)
      refine ⟨fun on => ?_, fun off => ?_⟩
      · rw [disables, State.queueEnableWrite, if_pos rfl, if_pos (same.trans on)]
      · rw [disables, State.queueEnableWrite, if_pos rfl, if_neg (by rw [same]; exact off)]
    · obtain ⟨hold, effective, only⟩ := State.holdPfWrite_effect (s.taken p) i on
      refine ⟨_, exec_holdPfWrite_allowed s allowed, State.answered_after s _ p .ok, hold, ?_, State.changesOnly_after _ _ ?_⟩
      · rw [(State.standing_taken s p).1] at effective
        exact effective
      · exact (State.outside_emit _ _ _ (by decide)).trans ((State.outside_le (by decide) only).trans
          (State.outside_le (by decide) (State.request_taken s p)))

end Sys2Proof.Machine

namespace Sys2Proof.Machine

/-! ### Firmware packages and firmware commands (R433, R434, R438) -/

section
variable (s : State)

theorem State.legalIn_fwCommand (i v : Nat) :
    s.legalIn ⟨Reg.fwCommand, 0, 0, .u8, .wo, 0, (.between 1 4), 95, .none⟩ i v = (bit 95 s.image.code &&
      (match v with
        | 1 => (s.fwSlot s.otherSlot).good s.keep.fuses
        | 2 => !s.security.recovery && s.get Reg.fwActiveSlot == s.keep.preferred
        | 4 => s.security.recovery
        | _ => true)) := rfl

/-- What a request leaves alone of what the firmware commands look at. -/
theorem State.firmware_taken (p : Path) : (s.taken p).keep = s.keep ∧ (s.taken p).security = s.security ∧
    (s.taken p).get Reg.fwActiveSlot = s.get Reg.fwActiveSlot ∧ (s.taken p).otherSlot = s.otherSlot := by
  have frame := State.request_taken s p
  have keep : (s.taken p).keep = s.keep := State.keep_of_outside frame (by decide)
  have security : (s.taken p).security = s.security := State.security_of_outside frame (by decide)
  have active := State.get_taken s p Reg.fwActiveSlot 0 (by decide)
  exact ⟨keep, security, active, by rw [State.otherSlot, keep, security, active, State.otherSlot]⟩

theorem State.slots_taken (p : Path) (k : Nat) : (s.taken p).fwSlot k = s.fwSlot k := by
  rw [State.fwSlot, (State.firmware_taken s p).1, State.fwSlot]

/-! #### Packages -/

/-- A slot as a package that verifies, or does not, leaves it. -/
def packageSlotOf (k : FwPackage) : FwSlot :=
  ⟨1, k.version, k.step, k.codeDigest, k.certOk && k.headerOk && k.digestOk⟩

theorem State.packageEnds_good {k : FwPackage} (h : (packageSlotOf k).good s.keep.fuses = true) :
    s.packageEnds k = (s.putSlot s.packageSlot (packageSlotOf k), .ok) := if_pos h

theorem State.packageEnds_bad {k : FwPackage} (h : (packageSlotOf k).good s.keep.fuses = false) :
    s.packageEnds k = (s.putSlot s.packageSlot { packageSlotOf k with status := 2, certOk := false }, .signature) :=
  if_neg (by simpa [packageSlotOf] using h)

theorem requestOf_fwPackage (p : Path) (k : FwPackage) : requestOf (.fwPackage p k) =
    some ⟨⟨p, Reg.fwPackage, 0xFFFFFFFF, false⟩, .package k, [0]⟩ := congrArg some (Reg.ask_fwPackage p 0 [0] (.package k))

theorem exec_fwPackage_good {p : Path} {k : FwPackage} (h : s.allows (.fwPackage p k) = true)
    (good : (packageSlotOf k).good (s.taken p).keep.fuses = true) : exec (.fwPackage p k) s = .next (s.after
      (((s.taken p).putSlot (s.taken p).packageSlot (packageSlotOf k)).emit (.lexAnswer p 0 []))) := by
  rw [exec_fwPackage, execFwPackage]
  exact State.direct_ok s (requestOf_fwPackage p k) h Reg.lookup_fwPackage
    ((State.apply_fwPackage _ _ _ _ _ _).trans (State.packageEnds_good _ good)) (State.config_taken s p h)

theorem exec_fwPackage_bad {p : Path} {k : FwPackage} (h : s.allows (.fwPackage p k) = true)
    (bad : (packageSlotOf k).good (s.taken p).keep.fuses = false) : exec (.fwPackage p k) s = .next (s.after
      ((((s.taken p).putSlot (s.taken p).packageSlot { packageSlotOf k with status := 2, certOk := false }).bump
        Reg.lexAborts).emit (.lexAnswer p 11 []))) := by
  rw [exec_fwPackage, execFwPackage]
  exact State.direct_refused s (requestOf_fwPackage p k) h Reg.lookup_fwPackage
    ((State.apply_fwPackage _ _ _ _ _ _).trans (State.packageEnds_bad _ bad)) (by decide) (by decide) (State.config_taken s p h)

end

/-! ### The store (R457) -/

/-- A copy of the stored set, of the two, whose word failed its read-back (`b`: copy B). -/
def Keep.spoiled (k : Keep) (b : Bool) : Keep :=
  if b then { k with copyB := { k.copyB with correct := false } } else { k with copyA := { k.copyA with correct := false } }

/-- A copy of the stored set replaced. -/
def Keep.stored (k : Keep) (b : Bool) (c : StoredCopy) : Keep := if b then { k with copyB := c } else { k with copyA := c }

/-- A store leaves everything but the copies. -/
theorem Keep.stored_rest (k : Keep) (b : Bool) (c : StoredCopy) : (k.stored b c).preferred = k.preferred ∧
    (k.stored b c).fuses = k.fuses ∧ (k.stored b c).slot0 = k.slot0 ∧ (k.stored b c).slot1 = k.slot1 := by
  cases b <;> exact ⟨rfl, rfl, rfl, rfl⟩

theorem Keep.spoiled_rest (k : Keep) (b : Bool) : (k.spoiled b).preferred = k.preferred ∧
    (k.spoiled b).fuses = k.fuses ∧ (k.spoiled b).slot0 = k.slot0 ∧ (k.spoiled b).slot1 = k.slot1 := by
  cases b <;> exact ⟨rfl, rfl, rfl, rfl⟩

section
variable (s : State)

/-- A register other than the sensors does not move the test of VDD_KEEP. -/
theorem State.keepLow_set {r : Nat} (i v : Nat) (h : r ≠ Reg.sensorValue) : (s.set r i v).keepLow = s.keepLow := by
  have other : Reg.key r i ≠ Reg.key Reg.sensorValue 11 := fun e => h (by rw [← Reg.key_reg r i, e, Reg.key_reg])
  rw [State.keepLow, State.set_regs, Tbl.find_put_other _ _ _ _ other, State.keepLow]

/-- The reading of the set before a store, and the rewrites of its words. -/
def State.storeRead (n : Nat) : State := (s.bump Reg.keepRewrites 0 n).keepRead

/-- The generation of the copy that a store writes. -/
def State.storeGeneration : Nat :=
  match s.copyInUse with
  | some c => c.generation + 1
  | none => max s.keep.copyA.generation s.keep.copyB.generation + 1

theorem State.storeRead_get (n : Nat) {r : Nat} (i : Nat) (h : r ≠ Reg.keepRewrites) (e : r ≠ Reg.keepEccCorrected) :
    (s.storeRead n).get r i = s.get r i := by
  have read : (s.storeRead n).outside ⟨[Reg.keepRewrites, Reg.keepEccCorrected], [.draws]⟩ =
      s.outside ⟨[Reg.keepRewrites, Reg.keepEccCorrected], [.draws]⟩ := by
    rw [State.storeRead, State.outside_keepRead _ (by decide) (by decide), State.outside_bump _ _ _ _ _ (by decide)]
  exact State.get_of_outside read _ _ (by simp [h, e])

theorem State.storeRead_keepLow (n : Nat) : (s.storeRead n).keepLow = s.keepLow := by
  have counted (x : State) (m : Nat) : (x.set Reg.keepEccCorrected 0 m).drawn.keepLow = x.keepLow :=
    State.keepLow_set x 0 m (by decide)
  rw [State.storeRead, State.keepRead, State.bump_eq, State.bump_eq]
  exact (counted _ _).trans (State.keepLow_set s _ _ (by decide))

theorem State.storeRead_generation (n : Nat) : (s.storeRead n).storeGeneration = s.storeGeneration := by
  have copy := State.storeRead_get s n 0 (r := Reg.setCopy) (by decide) (by decide)
  rw [State.storeGeneration, State.copyInUse, copy, State.storeGeneration, State.copyInUse]
  rfl

theorem State.storeSet_fails {n : Nat} {failed : Bool} (h : failed = true ∨ s.keepLow = true) : s.storeSet n failed =
    (((s.storeRead n).modKeep (fun k => k.spoiled (s.get Reg.setCopy == 0))).raise 0 0x0FB 0, .storeFail) := by
  have copy := State.storeRead_get s n 0 (r := Reg.setCopy) (by decide) (by decide)
  have fails : (failed || (s.storeRead n).keepLow) = true := by simpa [State.storeRead_keepLow] using h
  rw [← copy]
  exact if_pos fails

theorem State.storeSet_writes {n : Nat} {failed : Bool} (whole : failed = false) (high : s.keepLow = false) :
    s.storeSet n failed = ((((((s.storeRead n).modKeep (fun k => k.stored (s.get Reg.setCopy == 0)
      ⟨true, s.storeGeneration, (s.storeRead n).setEntries⟩)).set Reg.setCopy 0 (b2n (s.get Reg.setCopy == 0))).set
        Reg.setGeneration 0 s.storeGeneration).withdraw 0 0x0FA).withdraw 0 0x0FB, .ok) := by
  have copy := State.storeRead_get s n 0 (r := Reg.setCopy) (by decide) (by decide)
  have passes : ¬ (failed || (s.storeRead n).keepLow) = true := by simp [State.storeRead_keepLow, whole, high]
  rw [← copy, ← State.storeRead_generation s n]
  exact if_neg passes

/-- A store moves only the copies in the Keep store. -/
theorem State.keep_storeOwn : s.storeOwn.keep.preferred = s.keep.preferred ∧ s.storeOwn.keep.fuses = s.keep.fuses ∧
    s.storeOwn.keep.slot0 = s.keep.slot0 ∧ s.storeOwn.keep.slot1 = s.keep.slot1 := by
  rw [State.storeOwn]
  by_cases low : s.keepLow = true
  · rw [State.storeSet_fails s (.inr low), State.keep_of_outside (State.event_raise _ _ _ _) (by decide)]
    exact Keep.spoiled_rest _ _
  · rw [State.storeSet_writes s rfl (by simpa using low), State.keep_of_outside (State.event_withdraw _ _ _) (by decide),
      State.keep_of_outside (State.event_withdraw _ _ _) (by decide)]
    exact Keep.stored_rest _ _ _

end

end Sys2Proof.Machine

namespace Sys2Proof.Machine

/-! ### ACTIVATE, CONFIRM, INVALIDATE and RESTART -/

section
variable (s : State)

/-- A command of FW_COMMAND. -/
theorem State.fw_ok {c : Instr} {p : Path} {x : Extra} {k : Byte} {v : State}
    (asks : requestOf c = some ⟨⟨p, Reg.fwCommand, 0xFFFFFFFF, false⟩, x, [k]⟩) (h : s.allows c = true)
    (he : (s.taken p).fwCommandWrite (fromLe [k]) x = (v, .ok)) (idle : v.lexicon.config = none) :
    actRom s (fun s => s.direct c) = .next (s.after (v.emit (.lexAnswer p 0 []))) :=
  State.direct_ok s asks h Reg.lookup_fwCommand ((State.apply_fwCommand _ _ _ _ _ _).trans he) idle

/-- One that is refused. -/
theorem State.fw_refused {c : Instr} {p : Path} {x : Extra} {k : Byte} {v : State} {r : Abort}
    (asks : requestOf c = some ⟨⟨p, Reg.fwCommand, 0xFFFFFFFF, false⟩, x, [k]⟩) (h : s.allows c = true)
    (he : (s.taken p).fwCommandWrite (fromLe [k]) x = (v, r)) (ok : r ≠ .ok) (later : r ≠ .later)
    (idle : v.lexicon.config = none) :
    actRom s (fun s => s.direct c) = .next (s.after ((v.bump Reg.lexAborts).emit (.lexAnswer p r.code []))) :=
  State.direct_refused s asks h Reg.lookup_fwCommand ((State.apply_fwCommand _ _ _ _ _ _).trans he) ok later idle

/-- What the checks of a firmware command have found. -/
theorem State.fw_legal {c : Instr} {p : Path} {x : Extra} {k : Byte}
    (asks : requestOf c = some ⟨⟨p, Reg.fwCommand, 0xFFFFFFFF, false⟩, x, [k]⟩) (h : s.allows c = true) :
    (match fromLe [k] with
      | 1 => (s.fwSlot s.otherSlot).good s.keep.fuses
      | 2 => !s.security.recovery && s.get Reg.fwActiveSlot == s.keep.preferred
      | 4 => s.security.recovery
      | _ => true) = true := by
  obtain ⟨keep, security, active, other⟩ := State.firmware_taken s p
  have legal := (State.allows_checked s asks h Reg.lookup_fwCommand (by decide)).1
  rw [State.legalIn_fwCommand, Bool.and_eq_true] at legal
  have found := legal.2
  rw [State.slots_taken, keep, security, active, other] at found
  exact found

/-! #### ACTIVATE -/

/-- FW_PREFERRED names slot k, and is stored; in recovery packages then go to the slot so named. -/
def State.prefers (k : Nat) : State :=
  let s := s.modKeep (fun x => { x with preferred := k })
  if s.security.recovery then (s.storePreferred k).modSecurity (fun x => { x with namedSlot := k }) else s.storeOwn

theorem State.activateSlot_good (good : (s.fwSlot s.otherSlot).good s.keep.fuses = true) :
    s.activateSlot = (s.prefers s.otherSlot, .ok) := by
  unfold State.activateSlot State.prefers
  dsimp only
  rw [if_pos good]
  split <;> rfl

/-- In recovery the set is rewritten as it stands: the copies alone change. -/
theorem State.storePreferred_effect (k : Nat) : (s.storePreferred k).keep.preferred = s.keep.preferred ∧
    (s.storePreferred k).keep.fuses = s.keep.fuses ∧ (s.storePreferred k).keep.slot0 = s.keep.slot0 ∧
    (s.storePreferred k).keep.slot1 = s.keep.slot1 ∧
    (s.storePreferred k).outside ⟨[], [.keep]⟩ = s.outside ⟨[], [.keep]⟩ := by
  unfold State.storePreferred
  dsimp only
  split <;> exact ⟨rfl, rfl, rfl, rfl, State.outside_modKeep _ _ _ (by decide)⟩

/-- What ACTIVATE may change. -/
def Footprint.prefers : Footprint := Footprint.store.plus [] [.security]

theorem State.prefers_effect (k : Nat) : (s.prefers k).keep.preferred = k ∧ (s.prefers k).keep.fuses = s.keep.fuses ∧
    (s.prefers k).keep.slot0 = s.keep.slot0 ∧ (s.prefers k).keep.slot1 = s.keep.slot1 ∧
    (s.security.recovery = true → (s.prefers k).security.namedSlot = k) ∧
    (s.prefers k).outside .prefers = s.outside .prefers := by
  have named : (s.modKeep (fun x => { x with preferred := k })).outside .prefers = s.outside .prefers :=
    State.outside_modKeep _ _ _ (by decide)
  cases rom : s.security.recovery
  · have stores : s.prefers k = (s.modKeep (fun x => { x with preferred := k })).storeOwn := if_neg (by simp [rom])
    obtain ⟨preferred, fuses, slot0, slot1⟩ := State.keep_storeOwn (s.modKeep (fun x => { x with preferred := k }))
    rw [stores]
    exact ⟨preferred, fuses, slot0, slot1, fun h => absurd h (by decide),
      (State.outside_le (by decide) (State.store_storeSet _ _ _)).trans named⟩
  · have stores : s.prefers k = ((s.modKeep (fun x => { x with preferred := k })).storePreferred k).modSecurity
        (fun x => { x with namedSlot := k }) := if_pos (by simp [rom])
    obtain ⟨preferred, fuses, slot0, slot1, only⟩ := State.storePreferred_effect (s.modKeep (fun x => { x with preferred := k })) k
    rw [stores]
    exact ⟨preferred, fuses, slot0, slot1, fun _ => rfl,
      (State.outside_modSecurity _ _ _ (by decide)).trans ((State.outside_le (by decide) only).trans named)⟩

/-! #### CONFIRM -/

/-- The fuse at which a CONFIRM stops: the running step, or the one that does not read back. -/
def fuseStop (fails : Option Nat) (n step : Nat) : Nat :=
  match fails with
  | some k => if n ≤ k ∧ k < step then k else step
  | none => step

theorem fuseStop_le (fails : Option Nat) (n step : Nat) : fuseStop fails n step ≤ step := by
  unfold fuseStop
  split
  · split <;> omega
  · exact le_refl _

/-- The fuses from n up to `stop` are blown in order. -/
def State.blowsFuses (n stop : Nat) : State :=
  (s.each ((List.range stop).filter (fun k => decide (n ≤ k))) (fun s k => s.emit (.fuse k))).modKeep
    (fun x => { x with fuses := max n stop })

theorem State.confirmStep_runs {fails : Option Nat} (running : s.security.recovery = false)
    (active : s.get Reg.fwActiveSlot = s.keep.preferred) {step stop : Nat}
    (goal : step = min 64 (s.fwSlot (s.get Reg.fwActiveSlot)).step) (stops : stop = fuseStop fails s.keep.fuses step) :
    s.confirmStep fails = if stop < step then ((s.blowsFuses s.keep.fuses stop).raise 0 0x0F5 0, .storeFail)
      else (s.blowsFuses s.keep.fuses stop, .ok) := by
  subst goal stops
  exact if_neg (by simp [running, active])

theorem State.outbox_eachEmit {α : Type} (f : α → Emit) (l : List α) :
    (s.each l (fun s a => s.emit (f a))).outbox = s.outbox ++ l.map f := by
  induction l generalizing s with
  | nil => simp [State.each]
  | cons a r ih =>
    have rest := ih (s.emit (f a))
    rw [State.each, List.foldl_cons, ← State.each, rest]
    simp

theorem State.blowsFuses_effect (n stop : Nat) : (s.blowsFuses n stop).keep = { s.keep with fuses := max n stop } ∧
    (∀ k, .fuse k ∈ (s.blowsFuses n stop).outbox ↔ (.fuse k ∈ s.outbox ∨ (n ≤ k ∧ k < stop))) ∧
    (s.blowsFuses n stop).outside ⟨[], [.keep, .outbox]⟩ = s.outside ⟨[], [.keep, .outbox]⟩ := by
  have blown : (s.each ((List.range stop).filter (fun k => decide (n ≤ k))) (fun s k => s.emit (.fuse k))).outside
      ⟨[], [.outbox]⟩ = s.outside ⟨[], [.outbox]⟩ :=
    State.outside_each _ _ _ _ (fun s k => State.outside_emit s _ _ (by decide))
  refine ⟨?_, fun k => ?_, ?_⟩
  · rw [State.blowsFuses, State.modKeep_keep, State.keep_of_outside blown (by decide)]
  · rw [State.blowsFuses, State.modKeep_outbox, State.outbox_eachEmit]
    simp only [List.mem_append, List.mem_map, List.mem_filter, List.mem_range, decide_eq_true_eq, Emit.fuse.injEq,
      exists_eq_right]
    tauto
  · exact (State.outside_modKeep _ _ _ (by decide)).trans (State.outside_le (by decide) blown)

/-- What leaves the block for an event is no fuse. -/
def State.fusesAs (t : State) : Prop := ∀ k, Emit.fuse k ∈ t.outbox ↔ Emit.fuse k ∈ s.outbox

theorem State.fusesAs_of_outbox {s t : State} (h : t.outbox = s.outbox) : s.fusesAs t := fun k => by rw [h]

theorem State.fusesAs_trans {a b c : State} (h : a.fusesAs b) (g : b.fusesAs c) : a.fusesAs c := fun k => (g k).trans (h k)

theorem State.fusesAs_emit (e : Emit) (h : ∀ k, e ≠ .fuse k) : s.fusesAs (s.emit e) := fun k => by
  have other : Emit.fuse k ≠ e := fun same => h k same.symm
  simp [State.emit, other]

theorem State.fusesAs_wake (b : Nat) : s.fusesAs (s.wake b) := by
  have told (x : State) : x.fusesAs x.wakeSignal := by
    unfold State.wakeSignal
    dsimp only
    split
    · exact State.fusesAs_of_outbox rfl
    · split
      · exact State.fusesAs_of_outbox rfl
      · split
        · split
          · exact State.fusesAs_emit (x.modEvents (fun e => { e with pmeStatus := true })) .pmPme (fun k => by simp)
          · exact State.fusesAs_of_outbox rfl
        · exact State.fusesAs_of_outbox rfl
  unfold State.wake
  split
  · exact State.fusesAs_trans (State.fusesAs_of_outbox rfl) (told _)
  · exact State.fusesAs_of_outbox rfl

theorem State.fusesAs_fieldEvent (n : Nat) : s.fusesAs (s.fieldEvent n) := by
  unfold State.fieldEvent
  dsimp only
  split
  · refine State.fusesAs_trans (b := s.emit _) (State.fusesAs_emit s _ (fun k => ?_)) (State.fusesAs_of_outbox rfl)
    simp
  · exact State.fusesAs_of_outbox rfl

theorem State.fusesAs_raise (i n u : Nat) : s.fusesAs (s.raise i n u) := by
  have maybe (p : Prop) [Decidable p] (x : State) (g : State → State) (h : x.fusesAs (g x)) :
      x.fusesAs (if p then g x else x) := by
    split
    · exact h
    · exact State.fusesAs_of_outbox rfl
  unfold State.raise
  dsimp only
  refine State.fusesAs_trans ?_ (State.fusesAs_of_outbox (State.outbox_of_outside (State.egress_testMgmt _ _) (by decide)))
  refine State.fusesAs_trans ?_ (maybe _ _ _ (State.fusesAs_fieldEvent _ _))
  refine State.fusesAs_trans ?_ (maybe _ _ _ (State.fusesAs_wake _ _))
  refine State.fusesAs_trans ?_ (maybe _ _ _ (State.fusesAs_wake _ _))
  refine State.fusesAs_trans (b := s.bump Reg.mgmtCount (srcKey i n)) (State.fusesAs_of_outbox rfl) ?_
  split
  · exact State.fusesAs_of_outbox rfl
  · exact State.fusesAs_of_outbox rfl

theorem State.fusesAs_taken (p : Path) : s.fusesAs (s.taken p) := by
  cases p with
  | field n => exact State.fusesAs_trans (State.fusesAs_wake s 8) (State.fusesAs_of_outbox rfl)
  | _ => exact State.fusesAs_of_outbox rfl

theorem State.fusesAs_answer (p : Path) (c : Nat) (b : List Byte) : s.fusesAs (s.emit (.lexAnswer p c b)) :=
  State.fusesAs_emit s _ (fun k => by simp)

/-- What CONFIRM leaves (R438): the fuses up to where it stops, and whether it has failed. -/
def State.confirmed (n step stop : Nat) : State :=
  if stop < step then (s.blowsFuses n stop).raise 0 0x0F5 0 else s.blowsFuses n stop

theorem State.confirmed_effect (n step stop : Nat) : (s.confirmed n step stop).keep = { s.keep with fuses := max n stop } ∧
    (∀ k, .fuse k ∈ (s.confirmed n step stop).outbox ↔ (.fuse k ∈ s.outbox ∨ (n ≤ k ∧ k < stop))) ∧
    (s.confirmed n step stop).outside (Footprint.event.plus [] [.keep]) = s.outside (Footprint.event.plus [] [.keep]) := by
  obtain ⟨keep, fuses, only⟩ := State.blowsFuses_effect s n stop
  unfold State.confirmed
  split
  · refine ⟨?_, fun k => (State.fusesAs_raise _ _ _ _ k).trans (fuses k), ?_⟩
    · rw [State.keep_of_outside (State.event_raise _ _ _ _) (by decide), keep]
    · rw [State.frame_raise _ _ _ _ (by decide), State.outside_le (by decide) only]
  · exact ⟨keep, fuses, State.outside_le (by decide) only⟩

/-- CONFIRM where it is legal: its answer says whether every fuse reads back. -/
theorem exec_confirm_allowed {p : Path} {fails : Option Nat} {step stop : Nat} (h : s.allows (.confirm p fails) = true)
    (goal : step = min 64 (s.fwSlot (s.get Reg.fwActiveSlot)).step) (stops : stop = fuseStop fails s.keep.fuses step) :
    s.get Reg.fwActiveSlot = s.keep.preferred ∧ exec (.confirm p fails) s = .next (s.after
      (if stop < step then (((s.taken p).confirmed s.keep.fuses step stop).bump Reg.lexAborts).emit (.lexAnswer p 12 [])
        else ((s.taken p).confirmed s.keep.fuses step stop).emit (.lexAnswer p 0 []))) := by
  have asks : requestOf (.confirm p fails) = some ⟨⟨p, Reg.fwCommand, 0xFFFFFFFF, false⟩, .confirm fails, [2]⟩ :=
    congrArg some (Reg.ask_fwCommand p 0 [2] (.confirm fails))
  have legal : (!s.security.recovery && s.get Reg.fwActiveSlot == s.keep.preferred) = true := State.fw_legal s asks h
  simp only [Bool.and_eq_true, Bool.not_eq_true', beq_iff_eq] at legal
  obtain ⟨running, active⟩ := legal
  refine ⟨active, ?_⟩
  obtain ⟨keep, security, activeSame, _⟩ := State.firmware_taken s p
  have runs := State.confirmStep_runs (s.taken p) (fails := fails) (step := step) (stop := stop) (by rw [security]; exact running)
    (by rw [activeSame, keep]; exact active) (by rw [activeSame, State.slots_taken]; exact goal) (by rw [keep]; exact stops)
  rw [keep] at runs
  have idle : ((s.taken p).confirmed s.keep.fuses step stop).lexicon.config = none :=
    (State.config_of_outside (State.confirmed_effect _ _ _ _).2.2 (by decide)).trans (State.config_taken s p h)
  have confirms : (s.taken p).fwCommandWrite (fromLe [2]) (.confirm fails) = (s.taken p).confirmStep fails := rfl
  rw [exec_confirm, execConfirm]
  by_cases short : stop < step
  · rw [if_pos short] at runs ⊢
    rw [State.confirmed, if_pos short] at idle ⊢
    exact State.fw_refused s (r := .storeFail) asks h (confirms.trans runs) (by decide) (by decide) idle
  · rw [if_neg short] at runs ⊢
    rw [State.confirmed, if_neg short] at idle ⊢
    exact State.fw_ok s asks h (confirms.trans runs) idle

/-! #### INVALIDATE and RESTART -/

/-- The header word of the other slot is erased. -/
def State.invalidated : State :=
  if s.security.recovery then (s.putSlot s.otherSlot ⟨0, 0, 0, 0, false⟩).modSecurity
    (fun x => { x with namedSlot := s.otherSlot }) else s.putSlot s.otherSlot ⟨0, 0, 0, 0, false⟩

theorem State.config_invalidated : s.invalidated.lexicon.config = s.lexicon.config := by
  unfold State.invalidated
  split <;> rfl

theorem State.config_coldStart (b : Nat) (low : Bool) : (s.coldStart b low).lexicon.config = none := by
  have kept := State.bootKept_boot { s.fresh true with host := { (s.fresh true).host with perstLow := low } } b false
  simp only [State.bootKept, Prod.mk.injEq] at kept
  exact kept.2.2.2.2.2.2.2

end

/-- Settles O53: a package by the test of its slot, and each firmware command by its equation where it is legal. -/
theorem firmwareIsInstalled : Obligations.FirmwareIsInstalled := by
  unfold Obligations.FirmwareIsInstalled
  rintro p s u rfl
  obtain ⟨keep, security, _, other⟩ := State.firmware_taken s p
  refine ⟨?_, fun allowed => ?_, ?_, fun allowed => ?_, fun b allowed => ?_⟩
  · rintro k f rfl allowed
    refine ⟨fun good => ?_, fun bad => ?_⟩
    · exact exec_fwPackage_good s allowed (by rw [keep]; exact good)
    · exact exec_fwPackage_bad s allowed (by rw [keep]; exact bad)
  · have asks : requestOf (.activate p) = some ⟨⟨p, Reg.fwCommand, 0xFFFFFFFF, false⟩, .plain, [1]⟩ :=
      congrArg some (Reg.ask_fwCommand p 0 [1] .plain)
    have good : (s.fwSlot s.otherSlot).good s.keep.fuses = true := State.fw_legal s asks allowed
    have runs := State.activateSlot_good (s.taken p) (by rw [State.slots_taken, keep, other]; exact good)
    obtain ⟨preferred, fuses, slot0, slot1, named, only⟩ := State.prefers_effect (s.taken p) s.otherSlot
    rw [other] at runs
    have idle : ((s.taken p).prefers s.otherSlot).lexicon.config = none :=
      (State.config_of_outside only (by decide)).trans (State.config_taken s p allowed)
    refine ⟨good, _, (exec_activate s p).trans (State.fw_ok s asks allowed runs idle), preferred, ?_, ?_, ?_, ?_,
      State.changesOnly_after _ _ ?_⟩
    · exact fuses.trans (congrArg Keep.fuses keep)
    · exact slot0.trans (congrArg Keep.slot0 keep)
    · exact slot1.trans (congrArg Keep.slot1 keep)
    · exact fun rom => named (by rw [security]; exact rom)
    · exact (State.outside_emit _ _ _ (by decide)).trans ((State.outside_le (by decide) only).trans
        (State.outside_le (by decide) (State.request_taken s p)))
  · intro fails step stop goal stops allowed
    have stops' : stop = fuseStop fails s.keep.fuses step := by
      cases fails <;> exact stops
    obtain ⟨active, runs⟩ := exec_confirm_allowed s allowed goal stops'
    obtain ⟨kept, fuses, only⟩ := State.confirmed_effect (s.taken p) s.keep.fuses step stop
    rw [keep] at kept
    have bound := fuseStop_le fails s.keep.fuses step
    refine ⟨active, _, runs, ?_, fun whole => ?_, fun short => ?_, fun k => ?_, State.changesOnly_after _ _ ?_⟩
    · rw [State.after_keep]
      split <;> exact kept
    · rw [if_neg (by omega)]
      exact State.answered_after s _ p .ok
    · rw [if_pos short]
      exact State.answered_after s _ p .storeFail
    · rw [State.after_outbox, ← State.fusesAs_taken s p k, ← fuses k]
      split
      · exact (State.fusesAs_answer _ _ _ _ k).trans (State.fusesAs_of_outbox (s := (s.taken p).confirmed _ _ _) rfl k)
      · exact State.fusesAs_answer _ _ _ _ k
    · have done : ((s.taken p).confirmed s.keep.fuses step stop).outside (Footprint.request.plus [] [.keep]) =
          s.outside (Footprint.request.plus [] [.keep]) :=
        (State.outside_le (by decide) only).trans (State.outside_le (by decide) (State.request_taken s p))
      refine State.outside_ite _ ?_ ((State.outside_emit _ _ _ (by decide)).trans done)
      exact (State.outside_emit _ _ _ (by decide)).trans ((State.outside_bump _ _ _ _ _ (by decide)).trans done)
  · have asks : requestOf (.invalidate p) = some ⟨⟨p, Reg.fwCommand, 0xFFFFFFFF, false⟩, .plain, [3]⟩ :=
      congrArg some (Reg.ask_fwCommand p 0 [3] .plain)
    have idle := (State.config_invalidated (s.taken p)).trans (State.config_taken s p allowed)
    have runs := State.fw_ok s asks allowed (v := (s.taken p).invalidated) rfl idle
    rw [exec_invalidate, execInvalidate, runs, State.invalidated, security]
  · have asks : requestOf (.fwRestart p b) = some ⟨⟨p, Reg.fwCommand, 0xFFFFFFFF, false⟩, .boot b, [4]⟩ :=
      congrArg some (Reg.ask_fwCommand p 0 [4] (.boot b))
    have rom : s.security.recovery = true := State.fw_legal s asks allowed
    have host : (s.taken p).host = s.host := State.host_of_outside (State.request_taken s p) (by decide)
    have restarts : (s.taken p).fwCommandWrite (fromLe [4]) (.boot b) = ((s.taken p).coldStart b s.host.perstLow, .ok) := by
      rw [← host]
      exact if_pos (by rw [security]; exact rom)
    exact ⟨rom, (exec_fwRestart s p b).trans (State.fw_ok s asks allowed restarts (State.config_coldStart _ _ _))⟩

end Sys2Proof.Machine

namespace Sys2Proof.Machine

/-! ### What a set on the lanes of a link may change (R372) -/

section
variable (s : State) (u : Nat) {f : Footprint}

theorem State.line_sendCtrl (type b0 b1 b2 b3 : Nat) : (s.sendCtrl u type b0 b1 b2 b3).outside .line = s.outside .line := by
  unfold State.sendCtrl
  dsimp only
  rw [State.line_transmit, State.outside_emit _ _ _ (by decide), State.line_lineGap]

theorem State.frame_sendCtrl (type b0 b1 b2 b3 : Nat) (h : Footprint.line.le f = true) :
    (s.sendCtrl u type b0 b1 b2 b3).outside f = s.outside f := State.outside_le h (State.line_sendCtrl s u type b0 b1 b2 b3)

theorem State.link_sendCtrl (type b0 b1 b2 b3 k : Nat) : (s.sendCtrl u type b0 b1 b2 b3).link k = s.link k :=
  State.link_of_outside (State.line_sendCtrl s u type b0 b1 b2 b3) (by decide) k

theorem State.linkState_of_outside {s t : State} {f : Footprint} (h : t.outside f = s.outside f) (n : Reg.linkState ∉ f.regs)
    (u : Nat) : t.linkState u = s.linkState u := by
  rw [State.linkState, State.get_of_outside h _ _ n, State.linkState]

theorem State.linkState_sendCtrl (type b0 b1 b2 b3 k : Nat) :
    (s.sendCtrl u type b0 b1 b2 b3).linkState k = s.linkState k :=
  State.linkState_of_outside (State.line_sendCtrl s u type b0 b1 b2 b3) (by decide) k

/-! ### INIT (R358) -/

/-- The far end of link u says in its INIT what this end expects. -/
def State.initFits (role vcs idx version : Nat) : Prop :=
  role = (if u < 16 then 2 else 3) ∧ idx = (if u < 16 then u % 2 else u - 16) ∧ version = 1 ∧
    (u < 16 ∨ vcs = s.get Reg.linkVcs u)

theorem State.initFits_iff (role vcs idx version : Nat) : s.initFits u role vcs idx version ↔
    role = (if u < 16 then 2 else 3) ∧ idx = (if u < 16 then u % 2 else u - 16) ∧ version = 1 ∧
      (u < 16 ∨ vcs = s.vcsOf u) := by
  unfold State.initFits State.vcsOf
  by_cases low : u < 16 <;> simp [low]

theorem State.gotInit_idle {role vcs idx token version : Nat} (h : s.linkState u ≠ .init) (k : s.linkState u ≠ .up) :
    s.gotInit u role vcs idx token version = s := if_pos ⟨h, k⟩

theorem State.gotInit_fits {role vcs idx token version : Nat} (h : s.linkState u = .init)
    (fits : s.initFits u role vcs idx version) : s.gotInit u role vcs idx token version =
      ((s.sendCtrl u 0x41 0 0 token 0).modLink u (fun l => { l with checked := true })).initDone u := by
  rw [State.gotInit, if_neg (fun no => no.1 h), if_pos ((s.initFits_iff u _ _ _ _).mp fits)]
  exact if_neg (by rw [State.linkState_sendCtrl, h]; decide)

theorem State.gotInit_echoes {role vcs idx token version : Nat} (h : s.linkState u = .up)
    (fits : s.initFits u role vcs idx version) :
    s.gotInit u role vcs idx token version = s.sendCtrl u 0x41 0 0 token 0 := by
  rw [State.gotInit, if_neg (fun no => no.2 h), if_pos ((s.initFits_iff u _ _ _ _).mp fits)]
  exact if_pos (by rw [State.linkState_sendCtrl, h])

theorem State.gotInit_ignored {role vcs idx token version : Nat} (h : s.linkState u = .up)
    (bad : ¬ s.initFits u role vcs idx version) : s.gotInit u role vcs idx token version = s := by
  rw [State.gotInit, if_neg (fun no => no.2 h), if_neg (fun fits => bad ((s.initFits_iff u _ _ _ _).mpr fits)), if_pos h]

/-- A link protocol error of link u is counted, and raised once in its INIT. -/
def State.initMisfit : State :=
  if ((s.bump Reg.linkProtocolErrors u).link u).badCheck then s.bump Reg.linkProtocolErrors u
  else (s.bump Reg.linkProtocolErrors u).raise 0 0x0A3 u

theorem State.event_initMisfit : (s.initMisfit u).outside .event = (s.bump Reg.linkProtocolErrors u).outside .event :=
  State.outside_ite _ rfl (State.event_raise _ _ _ _)

theorem State.gotInit_misfits {role vcs idx token version : Nat} (h : s.linkState u = .init)
    (bad : ¬ s.initFits u role vcs idx version) : s.gotInit u role vcs idx token version =
      (s.initMisfit u).modLink u (fun l => { l with badCheck := true }) := by
  rw [State.gotInit, if_neg (fun no => no.1 h), if_neg (fun fits => bad ((s.initFits_iff u _ _ _ _).mpr fits)),
    if_neg (by rw [h]; decide)]
  rfl

theorem State.initMisfit_effect : (s.initMisfit u).linkState u = s.linkState u ∧
    (s.initMisfit u).get Reg.linkProtocolErrors u = (s.bump Reg.linkProtocolErrors u).get Reg.linkProtocolErrors u ∧
    s.changesOnly (s.initMisfit u) (Footprint.event.plus [Reg.linkProtocolErrors] [.links]) := by
  have closed : (s.initMisfit u).outside (Footprint.event.plus [Reg.linkProtocolErrors] [.links]) =
      s.outside (Footprint.event.plus [Reg.linkProtocolErrors] [.links]) :=
    (State.outside_le (by decide) (State.event_initMisfit s u)).trans (State.outside_bump _ _ _ _ _ (by decide))
  exact ⟨State.linkState_of_outside closed (by decide) u,
    State.get_of_outside (State.event_initMisfit s u) _ _ (by decide), closed⟩

theorem State.badCheck_initMisfit :
    (((s.initMisfit u).modLink u (fun l => { l with badCheck := true })).link u).badCheck = true := by
  rw [State.link_modLink_same]

/-! ### INIT_ECHO and LANES_READY -/

theorem State.gotInitEcho_idle {token : Nat} (h : s.linkState u ≠ .init ∨ token ≠ (s.link u).token ∨ (s.link u).echoed = true) :
    s.gotInitEcho u token = s := if_pos h

theorem State.gotInitEcho_measures {token : Nat} (h : s.linkState u = .init) (mine : token = (s.link u).token)
    (fresh : (s.link u).echoed = false) {w : State} (name : w = s.takeRtt u (s.get Reg.linkWidth u) (s.get Reg.linkRate u)) :
    s.gotInitEcho u token = if 1000 < w.get Reg.linkRtt u then w.declareDown u 10
      else (w.modLink u (fun l => { l with echoed := true })).initDone u := by
  subst name
  exact if_neg (by simp [h, mine, fresh])

theorem State.linkRtt_takeRtt (width rate : Nat) : (s.takeRtt u width rate).get Reg.linkRtt u =
    min (4 * (s.now - (s.link u).tokenAt)) 4294967295 := by
  rw [State.takeRtt, State.get_set_register _ _ _ _ (by decide), State.get_set_same]

theorem State.now_atCycle (c : Fin 128) : (s.atCycle c).now = 128 * s.clock.clause + c.val := by
  show 128 * s.clock.clause + c.val % 128 = _
  rw [Nat.mod_eq_of_lt c.isLt]

end

theorem exec_initEcho_awake {s : State} {u : Fin 18} {token : Nat} {c : Fin 128} (awake : s.awake = true) :
    exec (.initEcho u token c) s = .next (s.after ((s.atCycle c).gotInitEcho u token)) := by
  rw [exec_initEcho, execInitEcho]
  exact act_of_awake s _ awake

theorem exec_init_awake {s : State} {u : Fin 18} {role vcs idx token version : Nat} (awake : s.awake = true) :
    exec (.init u role vcs idx token version) s = .next (s.after (s.gotInit u role vcs idx token version)) := by
  rw [exec_init, execInit]
  exact act_of_awake s _ awake

theorem exec_lanesReady_awake {s : State} {u : Fin 18} (awake : s.awake = true) :
    exec (.lanesReady u) s = .next (s.after (s.lanesReady u)) := by
  rw [exec_lanesReady, execLanesReady]
  exact act_of_awake s _ awake

section
variable (s : State) (u : Nat)

theorem State.lanesReady_down (h : s.linkState u = .down) :
    s.lanesReady u = if (s.train u).step = 7 then s.enterInit u else s := by
  rw [State.lanesReady, h]

theorem State.lanesReady_idle (h : s.linkState u = .up ∨ s.linkState u = .init ∨ s.linkState u = .disabled) :
    s.lanesReady u = s := by
  rcases h with h | h | h <;> rw [State.lanesReady, h]

/-- The lanes of a pause or a recovery are ready at most at a width, and RESUME begins with them. -/
def State.lanesAgain (limit : Nat) : State :=
  if ((if (s.train u).step = 6 then s.readyAgain u limit else s).train u).step = 7 then
    (if (s.train u).step = 6 then s.readyAgain u limit else s).resumeStart u
  else if (s.train u).step = 6 then s.readyAgain u limit else s

theorem State.lanesReady_recovering (h : s.linkState u = .recovering) :
    s.lanesReady u = s.lanesAgain u (s.train u).limit := by
  rw [State.lanesReady, h]
  rfl

theorem State.lanesReady_paused (h : s.linkState u = .paused) : s.lanesReady u =
    s.lanesAgain u (match (s.link u).pause with | some p => 2 ^ (p.width % 4) | none => nominalWidth u) := by
  rw [State.lanesReady, h]
  rfl

end

/-- Settles O47: a set that fits and one that does not, an echo that measures and one that comes too late, and what the
lanes begin in each state of the link. -/
theorem linksComeUp : Obligations.LinksComeUp := by
  intro u s awake
  refine ⟨?_, ?_, ?_, ?_, fun a b => if_pos ⟨a, b⟩, ?_, ?_, ?_, ?_⟩
  · intro role vcs idx token version h k
    rw [exec_init_awake awake, State.gotInit_idle s u h k]
  · intro role vcs idx token version fits h name
    subst name
    refine ⟨fun ok => ?_, fun bad => ?_⟩
    · rw [exec_init_awake awake, State.gotInit_fits s u h ok]
    · obtain ⟨state, count, closed⟩ := State.initMisfit_effect s u
      rw [exec_init_awake awake, State.gotInit_misfits s u h bad]
      refine ⟨_, rfl, state.trans h, ?_, count, ?_⟩
      · exact State.badCheck_initMisfit s u
      · exact State.changesOnly_after _ _ ((State.outside_modLink _ _ _ _ (by decide)).trans closed)
  · intro role vcs idx token version h
    refine ⟨fun a b c d => ?_, fun bad => ?_⟩
    · rw [exec_init_awake awake, State.gotInit_echoes s u h ⟨a, b, c, d⟩]
    · rw [exec_init_awake awake, State.gotInit_ignored s u h]
      rintro ⟨a, b, c, d⟩
      rcases bad with bad | bad | bad | ⟨high, bad⟩
      · exact bad a
      · exact bad b
      · exact bad c
      · exact d.elim (fun low => absurd low (by omega)) bad
  · rintro token cyc _ rfl
    refine ⟨fun h => ?_, ?_⟩
    · rw [exec_initEcho_awake awake, State.gotInitEcho_idle (s.atCycle cyc) u h]
    · rintro w h mine fresh rfl
      have takes := State.gotInitEcho_measures (s.atCycle cyc) u h mine fresh rfl
      refine ⟨?_, fun long => ?_, fun short => ?_⟩
      · rw [State.linkRtt_takeRtt, State.now_atCycle]
        rfl
      · rw [exec_initEcho_awake awake, takes]
        exact congrArg (fun x => Host.Outcome.next (s.after x)) (if_pos long)
      · rw [exec_initEcho_awake awake, takes]
        exact congrArg (fun x => Host.Outcome.next (s.after x)) (if_neg (Nat.not_lt.mpr short))
  · intro h
    exact if_neg (by rcases h with h | h <;> simp [h])
  · intro h
    rw [exec_lanesReady_awake awake, State.lanesReady_down s u h]
  · intro h
    rw [exec_lanesReady_awake awake, State.lanesReady_idle s u h]
  · rintro limit _ h width rfl
    rw [exec_lanesReady_awake awake]
    rcases h with h | h
    · rw [State.lanesReady_recovering s u h, width, if_pos h]
      rfl
    · rw [if_neg (by rw [h]; decide)] at width
      rw [State.lanesReady_paused s u h, width]
      rfl

end Sys2Proof.Machine

namespace Sys2Proof.Machine

/-! ### What the work on lanes may change (R380 to R392) -/

/-- The lanes and their training: the sets on the lines, the lanes' own objects and states, and the sources they raise. -/
def Footprint.laneWork : Footprint := Footprint.event.plus
  [Reg.laneStatus, Reg.txCoeff, Reg.ctlePeak, Reg.lanesGood, Reg.laneMap, Reg.trainings, Reg.rateFallbacks, Reg.prbsState,
    Reg.prbsBits, Reg.prbsErrors, Reg.prbsLocked] [.line, .training, .lanes, .draws]

section
variable (s : State) {f : Footprint}

theorem State.line_idleLanes (l : List Nat) : (s.idleLanes l).outside .line = s.outside .line :=
  State.outside_each _ _ _ _ (fun _ _ => rfl)

theorem State.line_sendSets (u : Nat) (l : List (Nat × Nat × Nat × Nat × Nat × Nat)) :
    (s.sendSets u l).outside .line = s.outside .line := by
  unfold State.sendSets
  dsimp only
  rw [State.line_transmit, State.outside_each _ _ _ _ (fun s x => State.outside_emit s _ _ (by decide)),
    State.line_transmit, State.outside_emit _ _ _ (by decide), State.line_lineGap]

theorem State.frame_idleLanes (l : List Nat) (h : Footprint.line.le f = true) : (s.idleLanes l).outside f = s.outside f :=
  State.outside_le h (State.line_idleLanes s l)

theorem State.frame_sendSets (u : Nat) (l : List (Nat × Nat × Nat × Nat × Nat × Nat)) (h : Footprint.line.le f = true) :
    (s.sendSets u l).outside f = s.outside f := State.outside_le h (State.line_sendSets s u l)

theorem State.frame_sendSet (n type b0 b1 b2 b3 : Nat) (h : Footprint.line.le f = true) :
    (s.sendSet n type b0 b1 b2 b3).outside f = s.outside f := State.frame_sendSets s _ _ h

theorem State.frame_laneBits (n : Nat) (l : List (Nat × Bool)) (h : Reg.laneStatus ∈ f.regs) :
    (s.laneBits n l).outside f = s.outside f :=
  State.outside_each _ _ _ _ (fun s _ => by rw [State.putBit_eq, State.outside_set _ _ _ _ _ h])

theorem State.frame_raiseUnits (n : Nat) (l : List Nat) (h : Footprint.event.le f = true) :
    (s.raiseUnits n l).outside f = s.outside f := by
  cases l with
  | nil => rfl
  | cons u r =>
    refine State.outside_le h ?_
    rw [State.raiseUnits, State.outside_modEvents _ _ _ (by decide), State.event_raise]

/-! #### Training -/

theorem State.frame_sendCaps (u : Nat) (h : Footprint.line.le f = true) : (s.sendCaps u).outside f = s.outside f :=
  State.frame_sendSets s _ _ h

theorem State.frame_trainBegin (u : Nat) (h : Footprint.laneWork.le f = true) : (s.trainBegin u).outside f = s.outside f := by
  refine State.outside_le h ?_
  unfold State.trainBegin
  dsimp only
  rw [State.frame_sendCaps _ _ (by decide), State.outside_each _ _ _ _ (fun s n => by
      rw [State.outside_modLane _ _ _ _ (by decide), State.outside_set _ _ _ _ _ (by decide),
        State.frame_laneBits _ _ _ (by decide)]),
    State.frame_idleLanes _ _ (by decide), State.outside_bump _ _ _ _ _ (by decide), State.outside_modTrain _ _ _ _ (by decide)]

theorem State.frame_trainFails (u : Nat) (h : Footprint.laneWork.le f = true) : (s.trainFails u).outside f = s.outside f := by
  refine State.outside_le h (State.outside_ite _ (State.frame_trainBegin _ _ (by decide)) ?_)
  split
  · rw [State.frame_trainBegin _ _ (by decide), State.outside_bump _ _ _ _ _ (by decide),
      State.outside_modTrain _ _ _ _ (by decide)]
  · exact State.outside_modTrain _ _ _ _ (by decide)

theorem State.frame_sendReady (u : Nat) (l : List Nat) (h : Footprint.line.le f = true) (k : Part.training ∈ f.parts) :
    (s.sendReady u l).outside f = s.outside f := by
  unfold State.sendReady
  dsimp only
  rw [State.frame_sendSets _ _ _ h, State.outside_modTrain _ _ _ _ k]

theorem State.frame_readyStart (u : Nat) (h : Footprint.laneWork.le f = true) : (s.readyStart u).outside f = s.outside f :=
  State.outside_le h (State.frame_sendReady s _ _ (by decide) (by decide))

theorem State.frame_prbsRun (u : Nat) (h : Footprint.laneWork.le f = true) : (s.prbsRun u).outside f = s.outside f := by
  refine State.outside_le h ?_
  unfold State.prbsRun
  dsimp only
  rw [State.outside_set _ _ _ _ _ (by decide), State.outside_modTrain _ _ _ _ (by decide),
    State.outside_each _ _ _ _ (fun s _ => State.frame_sendSets s _ _ (by decide))]

theorem State.frame_afterRate (u : Nat) (h : Footprint.laneWork.le f = true) : (s.afterRate u).outside f = s.outside f :=
  State.outside_ite _ (State.frame_prbsRun s u h) (State.frame_readyStart s u h)

theorem State.frame_eqStart (u : Nat) (h : Footprint.laneWork.le f = true) : (s.eqStart u).outside f = s.outside f := by
  refine State.outside_le h ?_
  unfold State.eqStart
  dsimp only
  rw [State.frame_sendSets _ _ _ (by decide), State.outside_each _ _ _ _ (fun s n => by
      rw [State.outside_modLane _ _ _ _ (by decide), State.outside_set _ _ _ _ _ (by decide)]),
    State.outside_modTrain _ _ _ _ (by decide)]

theorem State.frame_rateChange (u : Nat) (h : Footprint.laneWork.le f = true) : (s.rateChange u).outside f = s.outside f := by
  refine State.outside_le h ?_
  have left : ((s.emit (.electricalIdle u)).idleLanes (allLanes u)).outside .laneWork = s.outside .laneWork := by
    rw [State.frame_idleLanes _ _ (by decide), State.outside_emit _ _ _ (by decide)]
  refine State.outside_ite _ ((State.frame_eqStart _ _ (by decide)).trans left) ?_
  rw [State.frame_afterRate _ _ (by decide),
    State.outside_each _ _ _ _ (fun s n => State.outside_set s _ _ _ _ (by decide)), left]

theorem State.frame_sendRate (u : Nat) (h : Footprint.line.le f = true) : (s.sendRate u).outside f = s.outside f :=
  State.outside_each _ _ _ _ (fun s _ => State.frame_sendSets s _ _ h)

theorem State.frame_chooseRate (u : Nat) (h : Footprint.laneWork.le f = true) : (s.chooseRate u).outside f = s.outside f := by
  refine State.outside_le h ?_
  unfold State.chooseRate
  dsimp only
  split
  · rfl
  · rw [State.frame_sendRate _ _ (by decide), State.outside_modTrain _ _ _ _ (by decide),
      State.outside_drawn _ _ (by decide)]

/-! #### Keep-alive (R387) and the change of the lanes in a pause (R360) -/

theorem State.frame_retainLanes (u : Nat) (h : Footprint.laneWork.le f = true) : (s.retainLanes u).outside f = s.outside f := by
  refine State.outside_le h ?_
  unfold State.retainLanes
  dsimp only
  rw [State.outside_each _ _ _ _ (fun s n => State.outside_ite _ rfl (State.outside_ite _
      (by rw [State.outside_set _ _ _ _ _ (by decide), State.outside_modLane _ _ _ _ (by decide)])
      (by rw [State.frame_laneBits _ _ _ (by decide), State.outside_modLane _ _ _ _ (by decide)]))),
    State.frame_idleLanes _ _ (by decide)]

theorem State.frame_wakeLanes (u : Nat) (h : Footprint.laneWork.le f = true) : (s.wakeLanes u).outside f = s.outside f := by
  refine State.outside_le h ?_
  exact State.outside_each _ _ _ _ (fun s n => State.outside_ite _ rfl
    (by rw [State.frame_laneBits _ _ _ (by decide), State.outside_set _ _ _ _ _ (by decide)]))

theorem State.frame_restoreLanes (u : Nat) (h : Footprint.laneWork.le f = true) : (s.restoreLanes u).outside f = s.outside f := by
  refine State.outside_le h (State.outside_each _ _ _ _ (fun s n => ?_))
  split
  · rfl
  · rw [State.frame_laneBits _ _ _ (by decide), State.outside_modLane _ _ _ _ (by decide),
      State.outside_set _ _ _ _ _ (by decide), State.outside_set _ _ _ _ _ (by decide)]

theorem State.frame_laneChange (u : Nat) (p : Pause) (h : Footprint.laneWork.le f = true) :
    (s.laneChange u p).outside f = s.outside f := by
  refine State.outside_le h ?_
  unfold State.laneChange
  dsimp only
  refine State.outside_ite _ ?_ (State.outside_ite _ (State.outside_ite _ ?_ ?_) (State.outside_ite _ ?_ ?_))
  · rw [State.frame_readyStart _ _ (by decide), State.outside_modTrain _ _ _ _ (by decide),
      State.frame_retainLanes _ _ (by decide), State.outside_modTrain _ _ _ _ (by decide)]
  · rw [State.frame_eqStart _ _ (by decide), State.outside_modTrain _ _ _ _ (by decide),
      State.frame_restoreLanes _ _ (by decide), State.outside_modTrain _ _ _ _ (by decide)]
  · rw [State.frame_readyStart _ _ (by decide), State.outside_modTrain _ _ _ _ (by decide),
      State.frame_restoreLanes _ _ (by decide), State.outside_modTrain _ _ _ _ (by decide)]
  · rw [State.frame_rateChange _ _ (by decide), State.outside_modTrain _ _ _ _ (by decide),
      State.frame_restoreLanes _ _ (by decide), State.outside_modTrain _ _ _ _ (by decide)]
  · rw [State.frame_readyStart _ _ (by decide), State.outside_modTrain _ _ _ _ (by decide),
      State.frame_restoreLanes _ _ (by decide), State.outside_modTrain _ _ _ _ (by decide)]

/-! #### Pauses -/

/-- What a pause of a link may change: its lanes, its state, and the request for it. -/
def Footprint.pause : Footprint := Footprint.laneWork.plus [Reg.linkState, Reg.linksUp] [.links, .persist]

theorem State.frame_sendPause (u type : Nat) (p : Pause) (h : Footprint.line.le f = true) :
    (s.sendPause u type p).outside f = s.outside f := State.frame_sendCtrl s u _ _ _ _ _ h

theorem State.frame_pauseTry (u : Nat) (h : Footprint.pause.le f = true) : (s.pauseTry u).outside f = s.outside f := by
  refine State.outside_le h ?_
  unfold State.pauseTry
  split
  · rfl
  · have sent (g : Link → Link) : (State.modLink (s.sendPause u 0x43 ‹Pause›) u g).outside .pause = s.outside .pause := by
      rw [State.outside_modLink _ _ _ _ (by decide), State.frame_sendPause _ _ _ _ (by decide)]
    exact State.outside_ite _ rfl (State.outside_ite _ ((State.frame_laneChange _ _ _ (by decide)).trans (sent _)) (sent _))

theorem State.frame_pauseEnter (u reason width rate : Nat) (ours : Bool) (h : Footprint.pause.le f = true) :
    (s.pauseEnter u reason width rate ours).outside f = s.outside f := by
  refine State.outside_le h ?_
  unfold State.pauseEnter
  dsimp only
  have entered (g : Link → Link) : ((s.setLinkState u .paused).modLink u g).outside .pause = s.outside .pause := by
    rw [State.outside_modLink _ _ _ _ (by decide), State.frame_setLinkState _ _ _ (by decide)]
  rw [State.frame_pauseTry _ _ (by decide)]
  exact State.outside_ite _ ((State.frame_sendPause _ _ _ _ (by decide)).trans (entered _)) (entered _)

theorem State.frame_pauseWanted (u : Nat) (h : Footprint.pause.le f = true) : (s.pauseWanted u).outside f = s.outside f := by
  unfold State.pauseWanted
  split
  · rfl
  · exact State.outside_ite _ (State.frame_pauseEnter _ _ _ _ _ _ h) rfl

theorem State.frame_askPause (u reason width rate : Nat) (h : Footprint.pause.le f = true) :
    (s.askPause u reason width rate).outside f = s.outside f := by
  refine State.outside_le h ?_
  rw [State.askPause, State.frame_pauseWanted _ _ (by decide), State.outside_modLink _ _ _ _ (by decide)]

theorem State.frame_settleLink (u : Nat) (h : Footprint.pause.le f = true) : (s.settleLink u).outside f = s.outside f :=
  State.outside_ite _ rfl (State.outside_ite _ (State.outside_ite _ rfl (State.frame_askPause _ _ _ _ _ h))
    (State.outside_ite _ (State.frame_askPause _ _ _ _ _ h) rfl))

/-! #### PRBS tests -/

theorem State.frame_prbsKeep (n : Nat) (h : Footprint.laneWork.le f = true) : (s.prbsKeep n).outside f = s.outside f := by
  refine State.outside_le h (State.outside_ite _ ?_ rfl)
  rw [State.outside_set _ _ _ _ _ (by decide), State.outside_set _ _ _ _ _ (by decide),
    State.outside_set _ _ _ _ _ (by decide)]

theorem State.frame_prbsEnd (u : Nat) (h : Footprint.laneWork.le f = true) : (s.prbsEnd u).outside f = s.outside f := by
  refine State.outside_le h (State.outside_ite _ ?_ rfl)
  rw [State.frame_raiseUnits _ _ _ (by decide), State.outside_modTrain _ _ _ _ (by decide),
    State.outside_set _ _ _ _ _ (by decide), State.frame_idleLanes _ _ (by decide), State.outside_emit _ _ _ (by decide),
    State.outside_each _ _ _ _ (fun s n => State.frame_prbsKeep s n (by decide))]

theorem State.frame_prbsStart (u : Nat) (h : Footprint.laneWork.le f = true) : (s.prbsStart u).outside f = s.outside f := by
  refine State.outside_le h ?_
  unfold State.prbsStart
  dsimp only
  rw [State.frame_trainBegin _ _ (by decide), State.outside_modTrain _ _ _ _ (by decide),
    State.outside_set _ _ _ _ _ (by decide), State.outside_each _ _ _ _ (fun s n => by
      rw [State.outside_set _ _ _ _ _ (by decide), State.outside_set _ _ _ _ _ (by decide),
        State.outside_set _ _ _ _ _ (by decide)])]

/-! ### The state of a link -/

theorem State.linkState_setLinkState_same (u : Nat) (st : LinkState) : (s.setLinkState u st).linkState u = st := by
  have put : ((s.set Reg.linkState u st.code).putBit Reg.linksUp 0 u st.isUp).linkState u = st := by
    rw [State.putBit_eq, State.linkState, State.get_set_register _ _ _ _ (by decide), State.get_set_same]
    cases st <;> rfl
  refine State.keeps_ite (fun x => x.linkState u) ?_ put
  exact (State.linkState_of_outside (State.frame_ckptStands (f := ⟨[], [.persist]⟩) _ _ _ (by decide)) (by decide) u).trans put

end

end Sys2Proof.Machine

namespace Sys2Proof.Machine

/-! ### Pauses and RESUME as the commands find them (R359 to R361) -/

section
variable {s : State} {u : Fin 18}

theorem exec_pauseStart_awake {reason width rate : Nat} (awake : s.awake = true) :
    exec (.pauseStart u reason width rate) s = .next (s.after
      (if (s.link u).wantPause = some (reason, width, rate) then s.pauseWanted u else s)) := by
  rw [exec_pauseStart, execPauseStart]
  exact act_of_awake s _ awake

/-- PAUSE_REQ of the far end of a partner link as a pause of that link is under way. -/
def State.pauseMet (s : State) (u : Nat) (p : Pause) (reason width rate : Nat) : State :=
  if s.linkState u == .paused && p.ours then
    if !p.ackSent && s.get Reg.pairSide == 1 && (p.width != width % 4 || p.rate != rate % 8) then
      (s.modLink u (fun l => { l with
        pause := some { p with reason := reason, width := width % 4, rate := rate % 8, ours := false, reqSeen := true },
        wantPause := some (p.reason, p.width, p.rate) })).pauseTry u
    else s.modLink u (fun l => { l with pause := some { p with reqSeen := true } })
  else s

/-- PAUSE_REQ (R359). -/
def State.pauseAsked (s : State) (u reason width rate : Nat) : State :=
  if u < 16 then s
  else if s.linkState u = .up then s.pauseEnter u reason (width % 4) (rate % 8) false
  else (s.link u).pause.elim s (fun p => s.pauseMet u p reason width rate)

theorem exec_pauseReq_awake {reason width rate : Nat} (awake : s.awake = true) :
    exec (.pauseReq u reason width rate) s = .next (s.after (s.pauseAsked u reason width rate)) := by
  rw [exec_pauseReq, execPauseReq, act_of_awake s _ awake, State.pauseAsked]
  cases (s.link u).pause <;> rfl

theorem State.pauseMet_yields {s : State} {u : Nat} {p : Pause} {reason width rate : Nat} (paused : s.linkState u = .paused)
    (ours : p.ours = true) (early : p.ackSent = false) (side : s.get Reg.pairSide = 1)
    (differs : p.width ≠ width % 4 ∨ p.rate ≠ rate % 8) : s.pauseMet u p reason width rate =
      (s.modLink u (fun l => { l with
        pause := some { p with reason := reason, width := width % 4, rate := rate % 8, ours := false, reqSeen := true },
        wantPause := some (p.reason, p.width, p.rate) })).pauseTry u := by
  rw [State.pauseMet, if_pos (by simp [paused, ours]), if_pos (by rcases differs with d | d <;> simp [early, side, d])]

theorem State.pauseMet_prevails {s : State} {u : Nat} {p : Pause} {reason width rate : Nat} (paused : s.linkState u = .paused)
    (ours : p.ours = true) (h : p.ackSent = true ∨ s.get Reg.pairSide ≠ 1 ∨ (p.width = width % 4 ∧ p.rate = rate % 8)) :
    s.pauseMet u p reason width rate = s.modLink u (fun l => { l with pause := some { p with reqSeen := true } }) := by
  rw [State.pauseMet, if_pos (by simp [paused, ours]), if_neg]
  rcases h with h | h | ⟨h, k⟩
  · simp [h]
  · simp [h]
  · simp [h, k]

theorem State.pauseMet_idle {s : State} {u : Nat} {p : Pause} {reason width rate : Nat}
    (h : s.linkState u ≠ .paused ∨ p.ours = false) : s.pauseMet u p reason width rate = s :=
  if_neg (by rcases h with h | h <;> simp [h])

/-- PAUSE_ACK of the far end of a link whose pause is under way. -/
def State.pauseAgreed (s : State) (u : Nat) (p : Pause) : State :=
  if s.linkState u = .paused ∧ p.ackSeen = false then
    if p.ackSent then (s.modLink u (fun l => { l with pause := some { p with ackSeen := true } })).laneChange u p
    else s.modLink u (fun l => { l with pause := some { p with ackSeen := true } })
  else s

theorem exec_pauseAck_awake (awake : s.awake = true) :
    exec (.pauseAck u) s = .next (s.after ((s.link u).pause.elim s (fun p => s.pauseAgreed u p))) := by
  rw [exec_pauseAck, execPauseAck, act_of_awake s _ awake]
  cases (s.link u).pause <;> rfl

theorem exec_resume_awake {e : Nat} {b : Bool} {token width rate : Nat} (awake : s.awake = true) :
    exec (.resume u e b token width rate) s = .next (s.after (s.gotResume u e token)) := by
  rw [exec_resume, execResume]
  exact act_of_awake s _ awake

theorem exec_resumeEcho_awake {token : Nat} {c : Fin 128} (awake : s.awake = true) :
    exec (.resumeEcho u token c) s = .next (s.after ((s.atCycle c).gotResumeEcho u token)) := by
  rw [exec_resumeEcho, execResumeEcho]
  exact act_of_awake s _ awake

end

section
variable (s : State) (u : Nat)

theorem State.pauseWanted_starts {reason width rate : Nat} (wanted : (s.link u).wantPause = some (reason, width, rate))
    (up : s.linkState u = .up) (alone : s.linkState (otherLink u) ≠ .paused) (uncut : s.cutPassed = false) :
    s.pauseWanted u = s.pauseEnter u reason width rate true := by
  rw [State.pauseWanted, wanted]
  exact if_pos ⟨up, alone, uncut⟩

theorem State.pauseWanted_waits {reason width rate : Nat} (wanted : (s.link u).wantPause = some (reason, width, rate))
    (h : s.linkState u ≠ .up ∨ s.linkState (otherLink u) = .paused ∨ s.cutPassed = true) : s.pauseWanted u = s := by
  rw [State.pauseWanted, wanted]
  exact if_neg (by rcases h with h | h | h <;> simp [h])

/-- Link u awaits RESUME: it recovers, or its pause has both acknowledgements. -/
def State.awaitsResume : Prop :=
  s.linkState u = .recovering ∨
    (s.linkState u = .paused ∧ ∃ p, (s.link u).pause = some p ∧ p.ackSent = true ∧ p.ackSeen = true)

theorem State.awaitsResume_iff : s.awaitsResume u ↔
    (s.linkState u = .paused ∧ (match (s.link u).pause with | some p => p.ackSent && p.ackSeen | none => false) = true) ∨
      s.linkState u = .recovering := by
  unfold State.awaitsResume
  rw [or_comm]
  cases (s.link u).pause <;> simp

/-- The state in which link u finds RESUME: a link that is UP recovers with the far end. -/
def State.resumeFinds : State := if s.linkState u = .up then s.enterRecovering u 0 else s

theorem State.gotResume_eq (e token : Nat) : s.gotResume u e token =
    if ((s.resumeFinds u).linkState u = .paused ∧ (match ((s.resumeFinds u).link u).pause with
        | some p => p.ackSent && p.ackSeen | none => false) = true) ∨ (s.resumeFinds u).linkState u = .recovering then
      if !(((s.resumeFinds u).link u).ackValid e) then (s.resumeFinds u).linkProtocol u
      else ((((s.resumeFinds u).ackTo u e).sendCtrl u 0x45 0 0 token 0).modLink u
        (fun l => { l with resumeSeen := true, resumeE := e })).resumeDone u
    else s.resumeFinds u := rfl

theorem State.gotResume_bad {e token : Nat} (h : (s.resumeFinds u).awaitsResume u)
    (bad : ((s.resumeFinds u).link u).ackValid e = false) : s.gotResume u e token = (s.resumeFinds u).linkProtocol u := by
  rw [State.gotResume_eq, if_pos ((State.awaitsResume_iff _ _).mp h), if_pos (by rw [bad]; rfl)]

theorem State.gotResume_good {e token : Nat} (h : (s.resumeFinds u).awaitsResume u)
    (good : ((s.resumeFinds u).link u).ackValid e = true) : s.gotResume u e token =
      ((((s.resumeFinds u).ackTo u e).sendCtrl u 0x45 0 0 token 0).modLink u
        (fun l => { l with resumeSeen := true, resumeE := e })).resumeDone u := by
  rw [State.gotResume_eq, if_pos ((State.awaitsResume_iff _ _).mp h), if_neg (by rw [good]; decide)]

theorem State.gotResume_idle {e token : Nat} (down : s.linkState u ≠ .up) (h : ¬ s.awaitsResume u) :
    s.gotResume u e token = s := by
  have found : s.resumeFinds u = s := if_neg down
  rw [State.gotResume_eq, found, if_neg (fun now => h ((State.awaitsResume_iff _ _).mpr now))]

theorem State.gotResumeEcho_idle {token : Nat} (h : (s.link u).resuming = false ∨ (s.link u).resumeEchoed = true ∨
    token ≠ (s.link u).token) : s.gotResumeEcho u token = s := if_pos h

theorem State.gotResumeEcho_measures {token : Nat} (h : (s.link u).resuming = true) (fresh : (s.link u).resumeEchoed = false)
    (mine : token = (s.link u).token) {w : State} (name : w = s.takeRtt u (s.train u).width (s.train u).rate) :
    s.gotResumeEcho u token = if 1000 < w.get Reg.linkRtt u then w.declareDown u 10
      else (w.modLink u (fun l => { l with resumeEchoed := true })).resumeDone u := by
  subst name
  exact if_neg (by simp [h, mine, fresh])

end

theorem State.linkState_enterRecovering (s : State) (u lost : Nat) : (s.enterRecovering u lost).linkState u = .recovering := by
  unfold State.enterRecovering
  dsimp only
  have sent {x : State} (h : x.linkState u = .recovering) (g : Training → Training) :
      ((x.modTrain u g).sendReady u (allLanes u)).linkState u = .recovering :=
    (State.linkState_of_outside (State.frame_sendReady (f := .laneWork) _ _ _ (by decide) (by decide)) (by decide) u).trans h
  refine sent ((State.linkState_of_outside (State.outside_each (f := .laneWork) _ _ _
    (fun s n => State.frame_laneBits s _ _ (by decide))) (by decide) u).trans ?_) _
  have moved {x : State} (g : Link → Link) :
      (((x.setLinkState u .recovering).bump Reg.recoveries u).modLink u g).linkState u = .recovering :=
    (State.linkState_of_outside (f := ⟨[Reg.recoveries], [.links]⟩)
      ((State.outside_modLink _ _ _ _ (by decide)).trans (State.outside_bump _ _ _ _ _ (by decide)))
      (by decide) u).trans (State.linkState_setLinkState_same x u .recovering)
  exact State.keeps_ite (fun x => x.linkState u) ((State.linkState_of_outside
    (State.frame_wakeLanes (f := .laneWork) _ _ (by decide)) (by decide) u).trans (moved _)) (moved _)

/-- What the far end's RESUME finds awaits it in the terms of the link before it. -/
theorem State.awaitsResume_found {s : State} {u : Nat} (h : (s.resumeFinds u).linkState u = .recovering ∨
    ((s.resumeFinds u).linkState u = .paused ∧ ∃ p, (s.link u).pause = some p ∧ p.ackSent = true ∧ p.ackSeen = true)) :
    (s.resumeFinds u).awaitsResume u := by
  by_cases up : s.linkState u = .up
  · have found : s.resumeFinds u = s.enterRecovering u 0 := if_pos up
    rw [found]
    exact .inl (State.linkState_enterRecovering s u 0)
  · have found : s.resumeFinds u = s := if_neg up
    rw [found] at h ⊢
    exact h

/-- Link u that is paused and no longer in the exchange of its pause, down, in INIT or disabled, awaits no RESUME. -/
theorem State.not_awaitsResume {s : State} {u : Nat} (h : s.linkState u = .down ∨ s.linkState u = .init ∨
    s.linkState u = .disabled ∨ (s.linkState u = .paused ∧ ∀ p, (s.link u).pause = some p → p.ackSent = false ∨
      p.ackSeen = false)) : s.linkState u ≠ .up ∧ ¬ s.awaitsResume u := by
  unfold State.awaitsResume
  rcases h with h | h | h | ⟨h, open_⟩
  · simp [h]
  · simp [h]
  · simp [h]
  · refine ⟨by simp [h], ?_⟩
    rintro (k | ⟨_, p, found, sent, seen⟩)
    · simp [h] at k
    · have := open_ p found
      simp [sent, seen] at this

/-- Settles O48: a pause that may start and one that may not, requests that cross, the acknowledgements of both ends, and
RESUME with its echo, each as the state of the link decides. -/
theorem linksPause : Obligations.LinksPause := by
  intro u s awake
  refine ⟨?_, ?_, ?_, ?_, ?_, ?_, ?_⟩
  · intro reason width rate wanted up alone uncut
    rw [exec_pauseStart_awake awake, if_pos wanted, State.pauseWanted_starts s u wanted up alone uncut]
  · intro reason width rate h
    rw [exec_pauseStart_awake awake]
    by_cases wanted : (s.link u).wantPause = some (reason, width, rate)
    · rw [if_pos wanted, State.pauseWanted_waits s u wanted (h.resolve_left (fun no => no wanted))]
    · rw [if_neg wanted]
  · intro reason width rate
    refine ⟨fun low => ?_, fun high up => ?_, fun p high busy pausing => ?_, fun busy none => ?_⟩
    · rw [exec_pauseReq_awake awake, State.pauseAsked, if_pos low]
    · rw [exec_pauseReq_awake awake, State.pauseAsked, if_neg (Nat.not_lt.mpr high), if_pos up]
    · have met : exec (.pauseReq u reason width rate) s = .next (s.after (s.pauseMet u p reason width rate)) := by
        rw [exec_pauseReq_awake awake, State.pauseAsked, if_neg (Nat.not_lt.mpr high), if_neg busy, pausing]
        rfl
      refine ⟨fun paused ours early side differs => ?_, fun paused ours h => ?_, fun h => ?_⟩
      · rw [met, State.pauseMet_yields paused ours early side differs]
      · rw [met, State.pauseMet_prevails paused ours h]
      · rw [met, State.pauseMet_idle h]
    · rw [exec_pauseReq_awake awake, State.pauseAsked, if_neg busy, none]
      exact congrArg (fun x => Host.Outcome.next (s.after x)) (ite_self s)
  · rintro p _ pausing rfl paused unseen
    rw [exec_pauseAck_awake awake, pausing]
    exact congrArg (fun x => Host.Outcome.next (s.after x)) (if_pos ⟨paused, unseen⟩)
  · intro h
    rw [exec_pauseAck_awake awake]
    cases pausing : (s.link u).pause with
    | none => rfl
    | some p =>
      refine congrArg (fun x => Host.Outcome.next (s.after x)) (if_neg ?_)
      rintro ⟨paused, unseen⟩
      rcases h with h | h | ⟨q, found, seen⟩
      · simp [pausing] at h
      · exact h paused
      · rw [pausing] at found
        cases found
        simp [unseen] at seen
  · rintro e b token width rate _ rfl
    refine ⟨fun awaits => ⟨fun bad => ?_, fun good => ?_⟩, fun h => ?_⟩
    · rw [exec_resume_awake awake, State.gotResume_bad s u (State.awaitsResume_found awaits) bad]
      rfl
    · rw [exec_resume_awake awake, State.gotResume_good s u (State.awaitsResume_found awaits) good]
      rfl
    · obtain ⟨down, idle⟩ := State.not_awaitsResume h
      rw [exec_resume_awake awake, State.gotResume_idle s u down idle]
  · rintro token cyc _ rfl
    refine ⟨fun h => ?_, ?_⟩
    · rw [exec_resumeEcho_awake awake, State.gotResumeEcho_idle (s.atCycle cyc) u h]
    · rintro w h fresh mine rfl
      have takes := State.gotResumeEcho_measures (s.atCycle cyc) u h fresh mine rfl
      refine ⟨fun long => ?_, fun short => ?_⟩
      · rw [exec_resumeEcho_awake awake, takes]
        exact congrArg (fun x => Host.Outcome.next (s.after x)) (if_pos long)
      · rw [exec_resumeEcho_awake awake, takes]
        exact congrArg (fun x => Host.Outcome.next (s.after x)) (if_neg (Nat.not_lt.mpr short))

end Sys2Proof.Machine

namespace Sys2Proof.Machine

/-! ### The timers of a link (R348, R355, R358 to R362) -/

section
variable {s : State} {u : Fin 18}

theorem exec_ackTimeout_awake (awake : s.awake = true) : exec (.ackTimeout u) s =
    .next (s.after (if s.itemHeld 11 then s else s.ackLate u)) := by
  rw [exec_ackTimeout, execAckTimeout]
  exact actItem_of_awake s 11 _ awake

theorem exec_creditTimeout_awake {vc : Fin 8} (awake : s.awake = true) : exec (.creditTimeout u vc) s =
    .next (s.after (if s.itemHeld 11 then s else s.creditLate u vc)) := by
  rw [exec_creditTimeout, execCreditTimeout]
  exact actItem_of_awake s 11 _ awake

/-- A link whose INIT has run out of time. -/
def State.initLapses (s : State) (u : Nat) : State :=
  (((((s.setLinkState u .down).set Reg.linkWidth u 0).set Reg.linkRate u 0).linkRecord u 1 2 0 0 0)).putTrain u
    (freshTrain false (((((s.setLinkState u .down).set Reg.linkWidth u 0).set Reg.linkRate u 0).linkRecord u 1 2 0 0 0).get
      Reg.trainRateMax u))

theorem exec_initTimeout_awake (awake : s.awake = true) : exec (.initTimeout u) s = .next (s.after
    (if s.linkState u == .init && s.due ((s.link u).initAt + 250000) then s.initLapses u else s)) := by
  rw [exec_initTimeout, execInitTimeout]
  exact act_of_awake s _ awake

theorem exec_pauseLimitExpiry_awake (awake : s.awake = true) : exec (.pauseLimitExpiry u) s = .next (s.after
    ((s.link u).pause.elim s (fun p =>
      if s.linkState u == .paused && s.due (p.startAt + usCycles (s.get Reg.pauseLimit u)) then s.declareDown u 5 else s))) := by
  rw [exec_pauseLimitExpiry, execPauseLimitExpiry, act_of_awake s _ awake]
  cases (s.link u).pause <;> rfl

theorem exec_linkDownTimeExpiry_awake (awake : s.awake = true) : exec (.linkDownTimeExpiry u) s = .next (s.after
    (if s.linkState u == .recovering && !(s.link u).resuming &&
        s.due ((s.link u).lossAt + usCycles (s.get Reg.linkDownTime u)) then s.declareDown u 1 else s)) := by
  rw [exec_linkDownTimeExpiry, execLinkDownTimeExpiry]
  exact act_of_awake s _ awake

/-- A fresh TOKEN for the set that link u sends again. -/
def State.freshToken (s : State) (u : Nat) : State :=
  s.drawn.modLink u (fun l => { l with token := Config.token s.draws % 256, tokenAt := s.now, ctrlAt := s.now })

/-- The sets of a pause whose answer is awaited, again. -/
def State.pauseAgain (s : State) (u : Nat) (p : Pause) : State :=
  if s.linkState u = .paused ∧ p.ackSeen = false ∧ (p.ours = true ∨ p.ackSent = true) then
    (if p.ackSent then (if p.ours && !p.reqSeen then s.sendPause u 0x42 p else s).sendPause u 0x43 p
      else if p.ours && !p.reqSeen then s.sendPause u 0x42 p else s).modLink u (fun l => { l with ctrlAt := s.now })
  else s

/-- The control set that link u awaits an answer to goes again. -/
def State.ctrlAgain (s : State) (u : Nat) : State :=
  if s.linkState u = .init then (s.freshToken u).sendInit u
  else if (s.link u).resuming = true ∧ (s.link u).resumeEchoed = false then (s.freshToken u).sendResume u
  else (s.link u).pause.elim s (fun p => s.pauseAgain u p)

theorem State.now_sendPause (s : State) (u type : Nat) (p : Pause) : (s.sendPause u type p).now = s.now :=
  State.now_of_outside (State.frame_sendPause (f := .line) s u type p (by decide)) (by decide)

theorem State.pauseAgain_eq (s : State) (u : Nat) (p : Pause) :
    (if s.linkState u = .paused ∧ p.ackSeen = false ∧ (p.ours = true ∨ p.ackSent = true) then
      let s := if p.ours && !p.reqSeen then s.sendPause u 0x42 p else s
      let s := if p.ackSent then s.sendPause u 0x43 p else s
      s.modLink u (fun l => { l with ctrlAt := s.now })
    else s) = s.pauseAgain u p := by
  have req : (if p.ours && !p.reqSeen then s.sendPause u 0x42 p else s).now = s.now :=
    State.keeps_ite State.now (State.now_sendPause _ _ _ _) rfl
  have sent : (if p.ackSent then (if p.ours && !p.reqSeen then s.sendPause u 0x42 p else s).sendPause u 0x43 p
      else if p.ours && !p.reqSeen then s.sendPause u 0x42 p else s).now = s.now :=
    State.keeps_ite State.now ((State.now_sendPause _ _ _ _).trans req) req
  dsimp only
  rw [State.pauseAgain, sent]

theorem exec_controlSetResend_awake (awake : s.awake = true) : exec (.controlSetResend u) s = .next (s.after
    (if s.due ((s.link u).ctrlAt + 2500) = false then s else s.ctrlAgain u)) := by
  rw [exec_controlSetResend, execControlSetResend, act_of_awake s _ awake, State.ctrlAgain]
  cases due : s.due ((s.link u).ctrlAt + usCycles 10) <;>
    rw [show usCycles 10 = 2500 from rfl] at due
  · simp [due, usCycles]
  · have shape : ∀ o : Option Pause, (match o with
        | some p =>
          if s.linkState u = .paused ∧ p.ackSeen = false ∧ (p.ours = true ∨ p.ackSent = true) then
            let s := if p.ours && !p.reqSeen then s.sendPause u 0x42 p else s
            let s := if p.ackSent then s.sendPause u 0x43 p else s
            s.modLink u (fun l => { l with ctrlAt := s.now })
          else s
        | none => s) = o.elim s (fun p => s.pauseAgain u p) := by
      rintro (_ | p)
      · rfl
      · exact State.pauseAgain_eq s u p
    rw [← shape]
    simp [due, usCycles]
    rfl

end

section
variable (s : State) (u : Nat)

/-- An acknowledgement that link u awaits is late at the boundary. -/
def State.ackIsLate : Bool :=
  (s.linkState u == .up || s.linkState u == .paused) && !(s.link u).resuming && !(s.link u).buf.isEmpty &&
    (s.link u).replayDue.isNone && s.past ((s.link u).sentTimes.headD s.now + ceilDiv (s.ackLimit u) 4)

theorem State.ackLate_eq : s.ackLate u = if s.ackIsLate u then
    if 4 ≤ (s.link u).ackTries then s.declareDown u 2
    else ((s.modLink u (fun l => { l with ackTries := l.ackTries + 1 })).bump Reg.ackTimeouts u).replayNow u (s.link u).o false
  else s := rfl

theorem State.creditLate_due {vc t : Nat} (up : s.linkState u = .up)
    (free : u < 16 ∨ (vc ≠ 0 ∧ partnerVc 0x53 (s.vcsOf u) ≠ some vc)) (held : Tbl.find (s.link u).heldSince vc = some t)
    (late : s.past (t + usCycles (s.get Reg.creditTimeout u)) = true) : s.creditLate u vc = s.declareDown u 3 := by
  rw [State.creditLate, held]
  refine if_pos ?_
  rcases free with low | ⟨some_, other⟩
  · simp [up, late, low]
  · simp [up, late, some_, other]

theorem State.creditLate_idle {vc t : Nat} (h : Tbl.find (s.link u).heldSince vc = none ∨ s.linkState u ≠ .up ∨
    ¬ (u < 16 ∨ (vc ≠ 0 ∧ partnerVc 0x53 (s.vcsOf u) ≠ some vc)) ∨
    (Tbl.find (s.link u).heldSince vc = some t ∧ s.past (t + usCycles (s.get Reg.creditTimeout u)) = false)) :
    s.creditLate u vc = s := by
  unfold State.creditLate
  split
  · rfl
  · next k held =>
    refine if_neg ?_
    rw [held] at h
    rcases h with h | h | h | ⟨h, early⟩
    · cases h
    · simp [h]
    · obtain ⟨high, kept⟩ := not_or.mp h
      by_cases zero : vc = 0
      · simp [Nat.le_of_not_lt high, zero]
      · have same : partnerVc 0x53 (s.vcsOf u) = some vc := by
          by_contra other
          exact kept ⟨zero, other⟩
        simp [Nat.le_of_not_lt high, same]
    · cases h
      simp [early]

theorem State.frame_linkRecord {f : Footprint} (new old cause width rate : Nat) (h : Footprint.event.le f = true) :
    (s.linkRecord u new old cause width rate).outside f = s.outside f := State.frame_recordMgmt s _ _ _ _ _ h

theorem State.linkState_put (st : LinkState) (k : Nat) :
    ((s.set Reg.linkState u st.code).putBit Reg.linksUp 0 u st.isUp).linkState k =
      if Reg.key Reg.linkState u = Reg.key Reg.linkState k then st else s.linkState k := by
  rw [State.putBit_eq, State.linkState, State.get_set_register _ _ _ _ (by decide), State.get_set]
  split
  · cases st <;> rfl
  · rfl

/-- A link that was not UP and does not come UP leaves the timers of its carrier's checkpoint as they are. -/
theorem State.setLinkState_dark {st : LinkState} (was : s.linkState u ≠ .up) (now : st ≠ .up) :
    s.setLinkState u st = (s.set Reg.linkState u st.code).putBit Reg.linksUp 0 u st.isUp := by
  have has (k : Nat) : (((s.set Reg.linkState u st.code).putBit Reg.linksUp 0 u st.isUp).linkState k == .up) =
      (s.linkState k == .up) := by
    rw [State.linkState_put]
    split
    · next same =>
      have other : s.linkState k = s.linkState u := by
        rw [State.linkState, State.get, ← same]
        rfl
      rw [other, beq_false_of_ne now, beq_false_of_ne was]
    · rfl
  unfold State.setLinkState
  refine ite_eq_right_iff.mpr (fun _ => ?_)
  unfold State.ckptStands
  split
  · rfl
  · refine if_pos ?_
    rw [State.carrierHasUp, has, has, State.carrierHasUp]

theorem State.initLapses_effect (h : s.linkState u = .init) : (s.initLapses u).linkState u = .down ∧
    (s.initLapses u).get Reg.linkWidth u = 0 ∧ (s.initLapses u).get Reg.linkRate u = 0 ∧
    (s.initLapses u).train u = freshTrain false (s.get Reg.trainRateMax u) ∧
    s.changesOnly (s.initLapses u)
      (Footprint.event.plus [Reg.linkState, Reg.linksUp, Reg.linkWidth, Reg.linkRate] [.training]) := by
  have put := State.setLinkState_dark s u (st := .down) (by rw [h]; decide) (by decide)
  have told := State.frame_linkRecord (((s.setLinkState u .down).set Reg.linkWidth u 0).set Reg.linkRate u 0) u 1 2 0 0 0
    (f := .event) (by decide)
  have moved : (((s.setLinkState u .down).set Reg.linkWidth u 0).set Reg.linkRate u 0).outside
      ⟨[Reg.linkState, Reg.linksUp, Reg.linkWidth, Reg.linkRate], []⟩ =
      s.outside ⟨[Reg.linkState, Reg.linksUp, Reg.linkWidth, Reg.linkRate], []⟩ := by
    rw [put, State.putBit_eq, State.outside_set _ _ _ _ _ (by decide), State.outside_set _ _ _ _ _ (by decide),
      State.outside_set _ _ _ _ _ (by decide), State.outside_set _ _ _ _ _ (by decide)]
  refine ⟨?_, ?_, ?_, ?_, ?_⟩
  · refine (State.linkState_of_outside told (by decide) u).trans ?_
    rw [State.linkState, State.get_set_register _ _ _ _ (by decide), State.get_set_register _ _ _ _ (by decide)]
    exact State.linkState_setLinkState_same s u .down
  · refine (State.get_of_outside told Reg.linkWidth u (by decide)).trans ?_
    rw [State.get_set_register _ _ _ _ (by decide), State.get_set_same]
  · exact (State.get_of_outside told Reg.linkRate u (by decide)).trans (State.get_set_same _ _ _ _)
  · rw [State.initLapses, State.train_putTrain_same, State.get_of_outside told _ _ (by decide),
      State.get_of_outside moved _ _ (by decide)]
  · exact (State.outside_putTrain _ _ _ _ (by decide)).trans
      ((State.outside_le (by decide) told).trans (State.outside_le (by decide) moved))

end

/-- Settles O45: each timer that has run out, and each that has not or does not run. -/
theorem linkTimersExpire : Obligations.LinkTimersExpire := by
  rintro u s _ awake rfl
  refine ⟨?_, ?_, ?_, ?_, ?_, ?_, ?_, ?_, ?_, ?_⟩
  · rintro late name
    rw [exec_ackTimeout_awake awake, State.ackLate_eq]
    have split : late = (s.ackIsLate u && !(s.itemHeld 11)) := name
    refine ⟨fun early => ?_, fun due four => ?_, fun due few => ?_⟩
    · cases held : s.itemHeld 11 with
      | true => rfl
      | false =>
        rw [held, Bool.not_false, Bool.and_true] at split
        rw [← split, early]
        rfl
    · obtain ⟨passed, free⟩ := Bool.and_eq_true_iff.mp (split.symm.trans due)
      rw [Bool.not_eq_true'] at free
      rw [free, passed, if_pos four]
      rfl
    · obtain ⟨passed, free⟩ := Bool.and_eq_true_iff.mp (split.symm.trans due)
      rw [Bool.not_eq_true'] at free
      rw [free, passed, if_neg (Nat.not_le.mpr few)]
      rfl
  · rintro vc t _ rfl
    rw [exec_creditTimeout_awake awake]
    refine ⟨fun h => ?_, fun up free unheld waits late => ?_⟩
    · cases held : s.itemHeld 11 with
      | true => rfl
      | false =>
        refine congrArg (fun x => Host.Outcome.next (s.after x)) (State.creditLate_idle s u (t := t) ?_)
        rcases h with h | h | h | h | h
        · exact .inl h
        · exact .inr (.inl h)
        · exact .inr (.inr (.inl h))
        · rw [held] at h
          cases h
        · exact .inr (.inr (.inr h))
    · rw [unheld]
      exact congrArg (fun x => Host.Outcome.next (s.after x)) (State.creditLate_due s u up free waits late)
  · intro h due
    rw [exec_initTimeout_awake awake, if_pos (by rw [h, due]; decide)]
    obtain ⟨state, width, rate, train, closed⟩ := State.initLapses_effect s u h
    exact ⟨_, rfl, state, width, rate, train, State.changesOnly_after _ _ closed⟩
  · intro h
    rw [exec_initTimeout_awake awake, if_neg (by rcases h with h | h <;> simp [h])]
  · intro p pausing paused due
    rw [exec_pauseLimitExpiry_awake awake, pausing]
    exact congrArg (fun x => Host.Outcome.next (s.after x)) (if_pos (by rw [paused, due]; decide))
  · intro h
    rw [exec_pauseLimitExpiry_awake awake]
    cases pausing : (s.link u).pause with
    | none => rfl
    | some p =>
      refine congrArg (fun x => Host.Outcome.next (s.after x)) (if_neg ?_)
      rcases h with h | h | ⟨q, found, early⟩
      · simp [pausing] at h
      · simp [h]
      · rw [pausing] at found
        cases found
        simp [early]
  · intro h idle due
    rw [exec_linkDownTimeExpiry_awake awake, if_pos (by simp [h, idle, due])]
  · intro h
    rw [exec_linkDownTimeExpiry_awake awake, if_neg (by rcases h with h | h | h <;> simp [h])]
  · intro early
    rw [exec_controlSetResend_awake awake, if_pos early]
  · rintro due _ rfl
    have again : exec (.controlSetResend u) s = .next (s.after (s.ctrlAgain u)) := by
      rw [exec_controlSetResend_awake awake, if_neg (by rw [due]; decide)]
    refine ⟨fun h => ?_, fun h resuming waits => ?_, ?_, fun h idle done => ?_⟩
    · rw [again, State.ctrlAgain, if_pos h]
      rfl
    · rw [again, State.ctrlAgain, if_neg h, if_pos ⟨resuming, waits⟩]
      rfl
    · rintro p _ paused idle pausing rfl
      have asks : s.ctrlAgain u = s.pauseAgain u p := by
        rw [State.ctrlAgain, if_neg (by rw [paused]; decide), if_neg (by rcases idle with h | h <;> simp [h]), pausing]
        rfl
      refine ⟨fun h => ?_, fun unseen h => ?_⟩
      · rw [again, asks, State.pauseAgain, if_neg (by rcases h with h | ⟨h, k⟩ <;> simp_all)]
      · rw [again, asks, State.pauseAgain, if_pos ⟨paused, unseen, h⟩]
    · rw [again, State.ctrlAgain, if_neg h, if_neg (by rcases idle with h | h <;> simp [h])]
      rcases done with busy | none
      · cases (s.link u).pause with
        | none => rfl
        | some p => exact congrArg (fun x => Host.Outcome.next (s.after x)) (if_neg (fun now => busy now.1))
      · rw [none]
        rfl

end Sys2Proof.Machine

namespace Sys2Proof.Machine

/-! ### What entries that join and leave the scheduler may change (R226, R240) -/

/-- Entries of any port: the ports, what waits behind a hazard, and the meters that colour them. -/
def Footprint.entries : Footprint := Footprint.message.plus [Reg.greenBytes, Reg.yellowBytes, Reg.redBytes] [.flow]

/-- The same without what an event may change: what the scheduler alone changes as entries join and leave. -/
def Footprint.queued : Footprint :=
  ⟨[Reg.hazardWaits, Reg.redHolds, Reg.greenBytes, Reg.yellowBytes, Reg.redBytes], [.egress, .ports, .flow]⟩

section
variable (s : State) {f : Footprint}

theorem State.frame_metered (m n : Nat) (h : Footprint.queued.le f = true) : (s.metered m n).1.outside f = s.outside f := by
  refine State.outside_le h ?_
  have bucket (x : State) (k : Nat) (b : Bucket) : (x.putBucket k b).outside .queued = x.outside .queued :=
    State.outside_putBucket _ _ _ _ (by decide)
  unfold State.metered State.refill State.take
  dsimp only
  split
  · exact State.outside_bump _ _ _ _ _ (by decide)
  · split
    · rw [State.outside_bump _ _ _ _ _ (by decide), bucket, bucket]
    · split
      · rw [State.outside_bump _ _ _ _ _ (by decide), bucket, bucket, bucket]
      · rw [State.outside_bump _ _ _ _ _ (by decide), bucket, bucket, bucket, bucket]

theorem State.queued_putPort (p : Nat) (q : Port) : (s.putPort p q).outside .queued = s.outside .queued :=
  State.outside_putPort _ _ _ _ (by decide) (.inr (by decide))

theorem State.queued_makeHead (p : Nat) (e : Entry) (t : Nat) : (s.makeHead p e t).outside .queued = s.outside .queued :=
  State.outside_ite _ ((State.outside_bump _ _ _ _ _ (by decide)).trans (State.queued_putPort _ _ _)) (State.queued_putPort _ _ _)

theorem State.queued_enter (p : Nat) (e : Entry) : (s.enter p e).outside .queued = s.outside .queued := by
  have joined (b w : Bool) (x : State) (q : Port) (h : Entry) (t : Nat) :
      (if w = true then ((if b = true then x.bump Reg.hazardWaits else x).putPort p q).makeHead p h t
       else (if b = true then x.bump Reg.hazardWaits else x).putPort p q).outside .queued = x.outside .queued := by
    have counted : (if b = true then x.bump Reg.hazardWaits else x).outside .queued = x.outside .queued :=
      State.outside_ite _ (State.outside_bump _ _ _ _ _ (by decide)) rfl
    apply State.outside_ite
    · rw [State.queued_makeHead, State.queued_putPort, counted]
    · rw [State.queued_putPort, counted]
  unfold State.enter
  cases h : meterRow p e.svc e.i with
  | none => exact joined _ _ s _ _ _
  | some m => exact (joined _ _ _ _ _ _).trans (State.frame_metered s m _ (by decide))

theorem State.frame_enqueue (p svc i : Nat) (w : Work) (n : Nat) (h : Footprint.queued.le f = true) :
    (s.enqueue p svc i w n).outside f = s.outside f := by
  refine State.outside_le h ?_
  have numbered (x : Nat) : ({ s with sched := { s.sched with nextId := x } } : State).outside .queued =
      s.outside .queued := by simp [State.outside, Footprint.keep, Footprint.queued]
  unfold State.enqueue
  refine State.outside_ite _ rfl (State.outside_ite _ ?_ ?_)
  · rw [State.queued_enter, numbered]
  · rw [State.queued_putPort, numbered]

theorem State.frame_enqueueNine (svc i : Nat) (w : Work) (n : Nat) (h : Footprint.event.le f = true) :
    (s.enqueue 9 svc i w n).outside f = s.outside f := State.outside_le h (State.event_enqueue s svc i w n)

theorem State.frame_enqueueImage (svc i : Nat) (w : Bool) (ia len : Nat) (data : List (Option Byte)) (b : Bool) (own : ReqOwner)
    (h : Footprint.queued.le f = true) : (s.enqueueImage svc i w ia len data b own).outside f = s.outside f :=
  State.frame_enqueue s _ _ _ _ _ h

theorem State.queued_renewHeads (p : Nat) : (s.renewHeads p).outside .queued = s.outside .queued := by
  refine State.outside_each _ _ _ _ (fun s kh => State.outside_ite _ rfl ?_)
  dsimp only
  split
  · exact State.queued_makeHead _ _ _ _
  · exact State.queued_putPort _ _ _

theorem State.queued_admitOutside (p : Nat) : (s.admitOutside p).outside .queued = s.outside .queued :=
  State.outside_each _ _ _ _ (fun _ _ => State.outside_ite _
    ((State.queued_enter _ _ _).trans (State.queued_putPort _ _ _)) rfl)

theorem State.frame_removeEntries (p : Nat) (g : Entry → Bool) (h : Footprint.queued.le f = true) :
    (s.removeEntries p g).outside f = s.outside f := by
  refine State.outside_le h ?_
  have left (q : Port) : (((s.putPort p q).renewHeads p).admitOutside p).outside .queued = s.outside .queued := by
    rw [State.queued_admitOutside, State.queued_renewHeads, State.queued_putPort]
  exact State.outside_ite _ ((State.outside_each _ _ _ _ (fun s r => State.queued_admitOutside s r)).trans (left _)) (left _)

/-! ### What the durability of a context's writes may change (R111 to R120) -/

theorem State.frame_putCtxRun (n : Nat) (r : CtxRun) (h : Part.append ∈ f.parts) : (s.putCtxRun n r).outside f = s.outside f :=
  State.outside_modAppend _ _ _ h

theorem State.frame_setCtx (n : Nat) (st : CtxState) (h : Reg.ctxState ∈ f.regs) (k : Reg.appendContextsOpen ∈ f.regs) :
    (s.setCtx n st).outside f = s.outside f := by
  unfold State.setCtx
  dsimp only
  rw [State.outside_set _ _ _ _ _ k, State.outside_set _ _ _ _ _ h]

theorem State.frame_countPending (i : Nat) (h : Reg.appendPending ∈ f.regs) (k : Reg.instPending ∈ f.regs) :
    (s.countPending i).outside f = s.outside f := by
  rw [State.countPending, State.outside_set _ _ _ _ _ k, State.outside_set _ _ _ _ _ h]

theorem State.frame_writeDword (n : Nat) (b : Bool) (h : Footprint.event.le f = true) :
    (s.writeDword n b).outside f = s.outside f := State.outside_ite _ (State.frame_enqueueNine s _ _ _ _ h) rfl

/-- What a notification may change: its records and words, and the running state of its context. -/
def Footprint.notify : Footprint := Footprint.event.plus [] [.append]

theorem State.frame_notifyCtx (n : Nat) (h : Footprint.notify.le f = true) : (s.notifyCtx n).outside f = s.outside f := by
  refine State.outside_le h (State.outside_ite _ rfl ?_)
  have worded : (if bit (s.get Reg.ctxNotify n) 1 then s.writeDword n (s.ctxRun n).degraded else s).outside .notify =
      s.outside .notify := State.outside_ite _ (State.frame_writeDword _ _ _ (by decide)) rfl
  rw [State.frame_putCtxRun _ _ _ (by decide)]
  exact State.outside_ite _ ((State.frame_recordTo _ _ _ _ _ _ (by decide)).trans worded) worded

theorem State.frame_closeIfDrained (n : Nat) (h : Footprint.durable.le f = true) : (s.closeIfDrained n).outside f = s.outside f := by
  refine State.outside_le h (State.outside_ite _ ?_ rfl)
  rw [State.frame_setCtx _ _ _ (by decide) (by decide), State.frame_notifyCtx _ _ (by decide)]

theorem State.frame_durabilityPoint (p : Pub) (h : Footprint.durable.le f = true) :
    (s.durabilityPoint p).outside f = s.outside f := by
  refine State.outside_le h ?_
  unfold State.durabilityPoint
  dsimp only
  rw [State.frame_closeIfDrained _ _ (by decide)]
  have counted (r : CtxRun) : (((((s.modAppend (fun a => { a with pubs := a.pubs.filter (· != p) })).set Reg.ctxDurable p.ctx
      (max p.tail ((s.modAppend (fun a => { a with pubs := a.pubs.filter (· != p) })).get Reg.ctxDurable p.ctx))).countPending
        p.i)).putCtxRun p.ctx r).outside .durable = s.outside .durable := by
    rw [State.frame_putCtxRun _ _ _ (by decide), State.frame_countPending _ _ (by decide) (by decide),
      State.outside_set _ _ _ _ _ (by decide), State.outside_modAppend _ _ _ (by decide)]
  exact State.outside_ite _ ((State.frame_notifyCtx _ _ (by decide)).trans (counted _)) (counted _)

theorem State.frame_testPublishes (i : Nat) (h : Footprint.durable.le f = true) : (s.testPublishes i).outside f = s.outside f :=
  State.outside_each _ _ _ _ (fun s p => State.outside_ite _ (State.frame_durabilityPoint s p h) rfl)

theorem State.frame_appendError (n code value : Nat) (h : Footprint.durable.le f = true) :
    (s.appendError n code value).outside f = s.outside f := by
  refine State.outside_le h ?_
  unfold State.appendError
  dsimp only
  have counted : ((s.bump Reg.appendErrors).bump Reg.instanceErrors (s.ctxInst n)).outside .durable = s.outside .durable := by
    rw [State.outside_bump _ _ _ _ _ (by decide), State.outside_bump _ _ _ _ _ (by decide)]
  refine State.outside_ite _ ((State.frame_putCtxRun _ _ _ (by decide)).trans counted) ?_
  rw [State.frame_recordTo _ _ _ _ _ _ (by decide), State.frame_putCtxRun _ _ _ (by decide), counted]

theorem State.frame_ctxFails (n code value : Nat) (h : Footprint.durable.le f = true) :
    (s.ctxFails n code value).outside f = s.outside f := by
  refine State.outside_le h ?_
  unfold State.ctxFails
  dsimp only
  rw [State.frame_closeIfDrained _ _ (by decide), State.frame_raise _ _ _ _ (by decide),
    State.frame_appendError _ _ _ _ (by decide), State.outside_set _ _ _ _ _ (by decide)]
  exact State.outside_ite _ (State.frame_setCtx _ _ _ (by decide) (by decide)) rfl

theorem State.frame_failPublishes (i code : Nat) (sel : Pub → Bool) (h : Footprint.durable.le f = true) :
    (s.failPublishes i code sel).outside f = s.outside f := by
  refine State.outside_le h ?_
  unfold State.failPublishes
  dsimp only
  rw [State.outside_each, State.frame_countPending _ _ (by decide) (by decide), State.outside_modAppend _ _ _ (by decide)]
  intro s n
  split
  · exact State.frame_ctxFails _ _ _ _ (by decide)
  · rfl

theorem State.frame_modWrite (i n : Nat) (g : WriteRec → WriteRec) (h : Part.append ∈ f.parts) :
    (s.modWrite i n g).outside f = s.outside f := State.outside_modAppend _ _ _ h

theorem State.frame_pruneWrites (h : Part.append ∈ f.parts) : s.pruneWrites.outside f = s.outside f :=
  State.outside_modAppend _ _ _ h

theorem State.frame_numberWrite (i parts copies : Nat) (h : Part.append ∈ f.parts) :
    (s.numberWrite i parts copies).outside f = s.outside f := State.outside_modAppend _ _ _ h

theorem State.frame_partAcked (i n : Nat) (h : Footprint.durable.le f = true) : (s.partAcked i n).outside f = s.outside f := by
  refine State.outside_le h ?_
  rw [State.partAcked, State.frame_testPublishes _ _ (by decide), State.frame_pruneWrites _ (by decide),
    State.frame_modWrite _ _ _ _ (by decide)]

theorem State.frame_partFailed (i n : Nat) (h : Footprint.durable.le f = true) : (s.partFailed i n).outside f = s.outside f := by
  refine State.outside_le h ?_
  unfold State.partFailed
  dsimp only
  rw [State.frame_testPublishes _ _ (by decide), State.frame_pruneWrites _ (by decide),
    State.frame_modWrite _ _ _ _ (by decide), State.frame_failPublishes _ _ _ _ (by decide)]

theorem State.frame_copyAcked (i n : Nat) (h : Footprint.durable.le f = true) : (s.copyAcked i n).outside f = s.outside f := by
  refine State.outside_le h ?_
  rw [State.copyAcked, State.frame_testPublishes _ _ (by decide), State.frame_pruneWrites _ (by decide),
    State.frame_modWrite _ _ _ _ (by decide)]

theorem State.frame_copyMarked (i n : Nat) (h : Footprint.durable.le f = true) : (s.copyMarked i n).outside f = s.outside f := by
  refine State.outside_le h (State.outside_ite _ rfl ?_)
  dsimp only
  rw [State.frame_testPublishes _ _ (by decide), State.frame_pruneWrites _ (by decide),
    State.frame_modWrite _ _ _ _ (by decide)]
  exact State.outside_ite _ (State.frame_failPublishes _ _ _ _ (by decide)) (State.outside_modAppend _ _ _ (by decide))

end

end Sys2Proof.Machine

namespace Sys2Proof.Machine

/-! ### What the mirror engine may change (R128 to R151) -/

section
variable (s : State) {f : Footprint}

/-- What a new mirror state may change by itself. -/
def Footprint.mirrorState : Footprint := Footprint.event.plus [Reg.mirrorState] []

theorem State.frame_mirrorTo (v : MirrorState) (h : Footprint.mirrorState.le f = true) : (s.mirrorTo v).outside f = s.outside f := by
  refine State.outside_le h (State.outside_ite _ rfl ?_)
  rw [State.frame_raise _ _ _ _ (by decide), State.frame_recordMgmt _ _ _ _ _ _ (by decide),
    State.outside_set _ _ _ _ _ (by decide)]

theorem State.frame_markSegment (g : Nat) (h : (Footprint.mirrorState.plus [] [.mirror]).le f = true) :
    (s.markSegment g).outside f = s.outside f := by
  refine State.outside_le h ?_
  unfold State.markSegment
  exact State.outside_ite _ ((State.frame_mirrorTo _ _ (by decide)).trans (State.outside_modMirror _ _ _ (by decide)))
    (State.outside_modMirror _ _ _ (by decide))

theorem State.frame_markCopies (sel : Copy → Bool) (h : (Footprint.durable.plus [Reg.mirrorState] [.mirror]).le f = true) :
    (s.markCopies sel).outside f = s.outside f := by
  refine State.outside_le h ?_
  unfold State.markCopies
  dsimp only
  rw [State.outside_each _ _ _ _ (fun s c => by
      rw [State.frame_copyMarked _ _ _ (by decide), State.frame_markSegment _ _ (by decide)]),
    State.outside_modMirror _ _ _ (by decide)]

theorem State.frame_markAll (h : Footprint.mirrors.le f = true) : s.markAll.outside f = s.outside f := by
  refine State.outside_le h ?_
  unfold State.markAll
  dsimp only
  rw [State.frame_removeEntries _ _ _ (by decide), State.outside_modMirror _ _ _ (by decide),
    State.frame_markCopies _ _ (by decide)]

theorem State.frame_rowLater (r v : Nat) (h : Part.mirror ∈ f.parts) : (s.rowLater r v).outside f = s.outside f :=
  State.outside_modMirror _ _ _ h

theorem State.frame_unfence (h : Part.mirror ∈ f.parts) : s.unfence.outside f = s.outside f :=
  State.outside_each _ _ _ _ (fun s r => State.frame_rowLater s r _ h)

/-- The mirror state as it is entered, with its marks and its record, before what only some states bring. -/
def State.mirrorEnters (v : MirrorState) : State :=
  if v = .split ∨ v = .peerAway ∨ v = .mismatch ∨ v = .unpaired then (s.set Reg.mirrorState 0 v.code).markAll
  else s.set Reg.mirrorState 0 v.code

/-- The state's record and source. -/
def State.mirrorTold (old v : MirrorState) : State :=
  ((if old = .split ∨ v = .unpaired then s.unfence else s).recordMgmt 0 0x30 0 0x040
    ((if old = .split ∨ v = .unpaired then s.unfence else s).mirrorPayload v.code old.code)).raise 0 0x040 0

/-- What only some states bring with their entry. -/
def State.mirrorBrings (old v : MirrorState) : State :=
  match v with
  | .mismatch => s.raise 0 0x044 0
  | .paired =>
    if (s.pulse 0x5A).get Reg.leaseState = 3 then
      (s.pulse 0x5A).set Reg.leaseState 0
        (if (s.pulse 0x5A).mirror.leaseUntil.any (fun t => decide ((s.pulse 0x5A).now < t)) then 1 else 2)
    else s.pulse 0x5A
  | .interrupted => s.modMirror (fun m => { m with before := old, downAt := some (128 * s.clauseNow) })
  | _ => s

theorem State.setMirror_eq (v : MirrorState) : s.setMirror v =
    if s.mirrorState = v then s else ((s.mirrorEnters v).mirrorTold s.mirrorState v).mirrorBrings s.mirrorState v := by
  rw [State.setMirror, State.mirrorTold, State.mirrorEnters]
  cases v <;> rfl

theorem State.frame_mirrorTold (old v : MirrorState) (h : (Footprint.event.plus [] [.mirror]).le f = true) :
    (s.mirrorTold old v).outside f = s.outside f := by
  refine State.outside_le h ?_
  rw [State.mirrorTold, State.frame_raise _ _ _ _ (by decide), State.frame_recordMgmt _ _ _ _ _ _ (by decide)]
  exact State.outside_ite _ (State.frame_unfence _ (by decide)) rfl

theorem State.frame_mirrorBrings (old v : MirrorState) (h : (Footprint.event.plus [Reg.leaseState] [.mirror]).le f = true) :
    (s.mirrorBrings old v).outside f = s.outside f := by
  refine State.outside_le h ?_
  cases v with
  | mismatch => exact State.frame_raise _ _ _ _ (by decide)
  | paired =>
    exact State.outside_ite _ ((State.outside_set _ _ _ _ _ (by decide)).trans (State.frame_pulse _ _ (by decide)))
      (State.frame_pulse _ _ (by decide))
  | interrupted => exact State.outside_modMirror _ _ _ (by decide)
  | unpaired => rfl
  | connecting => rfl
  | resync => rfl
  | split => rfl
  | peerAway => rfl

theorem State.frame_setMirror (v : MirrorState) (h : Footprint.mirrors.le f = true) : (s.setMirror v).outside f = s.outside f := by
  refine State.outside_le h ?_
  rw [State.setMirror_eq]
  refine State.outside_ite _ rfl ?_
  rw [State.frame_mirrorBrings _ _ _ (by decide), State.frame_mirrorTold _ _ _ (by decide)]
  exact State.outside_ite _ ((State.frame_markAll _ (by decide)).trans (State.outside_set _ _ _ _ _ (by decide)))
    (State.outside_set _ _ _ _ _ (by decide))

theorem State.frame_resyncPump (h : Footprint.mirrors.le f = true) : s.resyncPump.outside f = s.outside f := by
  refine State.outside_le h (State.outside_ite _ rfl ?_)
  have chosen (b c : Bool) (g k : Mirror → Mirror) : (if c = true then (if b = true then s.modMirror g else s) else
      (if b = true then s.modMirror g else s).modMirror k).outside .mirrors = s.outside .mirrors := by
    have again : (if b = true then s.modMirror g else s).outside .mirrors = s.outside .mirrors :=
      State.outside_ite _ (State.outside_modMirror _ _ _ (by decide)) rfl
    exact State.outside_ite _ again ((State.outside_modMirror _ _ _ (by decide)).trans again)
  dsimp only
  split
  · exact State.outside_ite _ ((State.frame_setMirror _ _ (by decide)).trans (chosen _ _ _ _)) (chosen _ _ _ _)
  · refine State.outside_ite _ ?_ (chosen _ _ _ _)
    rw [State.frame_enqueueImage _ _ _ _ _ _ _ _ _ (by decide), State.outside_modMirror _ _ _ (by decide)]
    exact chosen _ _ _ _

theorem State.frame_queueCopy (c : Copy) (h : Footprint.queued.le f = true) : (s.queueCopy c).outside f = s.outside f :=
  State.frame_enqueue s _ _ _ _ _ h

theorem State.frame_resyncData (g off : Nat) (data : List Byte) (h : Footprint.mirrors.le f = true) :
    (s.resyncData g off data).outside f = s.outside f := by
  refine State.outside_le h ?_
  unfold State.resyncData
  dsimp only
  have read : (s.modMirror (fun m => { m with resyncRead := false })).outside .mirrors = s.outside .mirrors :=
    State.outside_modMirror _ _ _ (by decide)
  rw [State.frame_resyncPump _ (by decide), State.outside_each _ _ _ _ (fun s c => State.frame_queueCopy s c (by decide)),
    State.outside_modMirror _ _ _ (by decide)]
  refine State.outside_ite _ ?_ read
  rw [State.frame_enqueue _ _ _ _ _ _ (by decide), State.outside_modMirror _ _ _ (by decide), read]

theorem State.frame_rcopyAcked (q : Nat) (h : Footprint.mirrors.le f = true) : (s.rcopyAcked q).outside f = s.outside f := by
  refine State.outside_le h ?_
  unfold State.rcopyAcked
  dsimp only
  rw [State.frame_resyncPump _ (by decide)]
  split
  · exact State.outside_ite _ ((State.outside_modMirror _ _ _ (by decide)).trans (State.outside_modMirror _ _ _ (by decide)))
      (State.outside_modMirror _ _ _ (by decide))
  · exact State.outside_modMirror _ _ _ (by decide)

theorem State.frame_ackCopies (q : Nat) (h : (Footprint.durable.plus [] [.mirror]).le f = true) :
    (s.ackCopies q).outside f = s.outside f := by
  refine State.outside_le h ?_
  unfold State.ackCopies
  dsimp only
  rw [State.outside_each _ _ _ _ (fun s c => State.frame_copyAcked s _ _ (by decide)), State.outside_modMirror _ _ _ (by decide)]

theorem State.frame_copyWrite (i n : Nat) (runs : List (Nat × List Byte)) (h : Footprint.mirrors.le f = true) :
    (s.copyWrite i n runs).outside f = s.outside f := by
  refine State.outside_le h (State.outside_ite _ (State.outside_each _ _ _ _ (fun s x => ?_)) (State.outside_ite _
    (State.outside_each _ _ _ _ (fun s x => State.frame_markSegment s _ (by decide))) rfl))
  dsimp only
  refine State.outside_ite _ ((State.outside_modMirror _ _ _ (by decide)).trans (State.outside_modMirror _ _ _ (by decide))) ?_
  rw [State.frame_queueCopy _ _ (by decide), State.outside_modMirror _ _ _ (by decide)]

theorem State.frame_sendMaps (h : (Footprint.message.plus [] [.mirror]).le f = true) : s.sendMaps.outside f = s.outside f := by
  refine State.outside_le h ?_
  unfold State.sendMaps
  dsimp only
  rw [State.outside_each _ _ _ _ (fun s k => State.frame_sendPartner s _ (by decide)), State.outside_modMirror _ _ _ (by decide)]

/-! #### The checks of a pair (R129) -/

/-- The rows as the generations of both sides decide them. -/
def State.rowsDecided (h : Hello) : State :=
  s.each (mirrorRows.filter (fun r => s.rowLen r != 0)) (fun s r =>
    let c := h.claim s.side r
    let s := if s.get Reg.rangeGeneration r < c.1 then (s.set Reg.rangeGeneration r c.1).set Reg.rangeOwner r c.2 else s
    s.rowLater r (if s.ownsRow r then 0 else 2))

/-- Both directions start again. -/
def Mirror.fresh (m : Mirror) : Mirror :=
  { m with
    hello := none, peerRows := [], conflicts := [], txSeq := 0, rxDone := 4294967295, rxSeen := [], rx := [],
    rcopyTx := 0, rcopyRx := 4294967295, downAt := none, ownNext := [], peerMap := [], peerLast := [], rcopyStop := none }

/-- The state in which the pair begins once its rows are decided. -/
def State.pairMaps (h : Hello) : State := ((s.rowsDecided h).markAll.modMirror Mirror.fresh).sendMaps

theorem State.frame_rowsDecided (k : Hello) (h : (Footprint.none.plus [Reg.rangeGeneration, Reg.rangeOwner] [.mirror]).le f = true) :
    (s.rowsDecided k).outside f = s.outside f := by
  refine State.outside_le h (State.outside_each _ _ _ _ (fun s r => ?_))
  dsimp only
  rw [State.frame_rowLater _ _ _ (by decide)]
  refine State.outside_ite _ ?_ rfl
  rw [State.outside_set _ _ _ _ _ (by decide), State.outside_set _ _ _ _ _ (by decide)]

theorem State.frame_pairMaps (k : Hello) (h : Footprint.mirrors.le f = true) : (s.pairMaps k).outside f = s.outside f := by
  refine State.outside_le h ?_
  rw [State.pairMaps, State.frame_sendMaps _ (by decide), State.outside_modMirror _ _ _ (by decide),
    State.frame_markAll _ (by decide), State.frame_rowsDecided _ _ (by decide)]

end

end Sys2Proof.Machine

namespace Sys2Proof.Machine

/-! ### Sets of segments -/

theorem SegSet.mem_addRange {m : SegSet} {lo hi : Nat} {x : Nat} (h : m.mem x = true ∨ (lo ≤ x ∧ x < hi)) :
    (m.addRange lo hi).mem x = true := by
  induction m generalizing lo hi with
  | nil =>
    obtain ⟨a, b⟩ := h.resolve_left (by simp [SegSet.mem])
    rw [SegSet.addRange, if_pos (by omega)]
    simp [SegSet.mem, a, b]
  | cons p r ih =>
    obtain ⟨a, b⟩ := p
    unfold SegSet.addRange
    simp only [SegSet.mem, Bool.or_eq_true, Bool.and_eq_true, decide_eq_true_eq] at h
    split
    · simp only [SegSet.mem, Bool.or_eq_true, Bool.and_eq_true, decide_eq_true_eq]
      exact h.resolve_right (by omega)
    · split
      · simp only [SegSet.mem, Bool.or_eq_true, Bool.and_eq_true, decide_eq_true_eq]
        tauto
      · split
        · simp only [SegSet.mem, Bool.or_eq_true, Bool.and_eq_true, decide_eq_true_eq]
          rcases h with (h | h) | h
          · exact .inl h
          · exact .inr (ih (.inl h))
          · exact .inr (ih (.inr h))
        · refine ih ?_
          rcases h with (h | h) | h
          · exact .inr ⟨by omega, by omega⟩
          · exact .inl h
          · exact .inr ⟨by omega, by omega⟩

theorem SegSet.mem_add {m : SegSet} {g x : Nat} (h : m.mem x = true ∨ x = g) : (m.add g).mem x = true :=
  SegSet.mem_addRange (h.imp id (fun e => ⟨by omega, by omega⟩))

/-- A member of a set counts in every range that holds it. -/
theorem SegSet.cardIn_pos {m : SegSet} {lo hi x : Nat} (h : m.mem x = true) (a : lo ≤ x) (b : x < hi) : 0 < m.cardIn lo hi := by
  induction m with
  | nil => cases h
  | cons p r ih =>
    obtain ⟨c, d⟩ := p
    simp only [SegSet.mem, Bool.or_eq_true, Bool.and_eq_true, decide_eq_true_eq] at h
    rw [SegSet.cardIn]
    rcases h with h | h
    · omega
    · have := ih h
      omega

/-- The map once the segments of copies are marked in it. -/
def SegSet.marks (m : SegSet) (l : List Copy) : SegSet := l.foldl (fun a c => a.add c.seg) m

theorem SegSet.mem_marks {m : SegSet} {l : List Copy} {x : Nat} (h : m.mem x = true ∨ ∃ c ∈ l, c.seg = x) :
    (m.marks l).mem x = true := by
  induction l generalizing m with
  | nil => exact h.resolve_right (by simp)
  | cons c r ih =>
    refine ih ?_
    rcases h with h | ⟨d, member, same⟩
    · exact .inl (SegSet.mem_add (.inl h))
    · rcases List.mem_cons.mp member with rfl | member
      · exact .inl (SegSet.mem_add (.inr same.symm))
      · exact .inr ⟨d, member, same⟩

/-! ### Copies that are resolved by marking (R137) -/

section
variable (s : State)

theorem MirrorState.ofCode_code (v : MirrorState) : MirrorState.ofCode v.code = v := by cases v <;> rfl

theorem State.mirrorState_of_outside {s t : State} {f : Footprint} (h : t.outside f = s.outside f)
    (n : Reg.mirrorState ∉ f.regs) : t.mirrorState = s.mirrorState := by
  rw [State.mirrorState, State.get_of_outside h _ _ n, State.mirrorState]

theorem State.mirrorState_set (v : MirrorState) : (s.set Reg.mirrorState 0 v.code).mirrorState = v := by
  rw [State.mirrorState, State.get_set_same, MirrorState.ofCode_code]

theorem State.mirrorState_mirrorTo (v : MirrorState) : (s.mirrorTo v).mirrorState = v := by
  by_cases same : s.mirrorState = v
  · rw [State.mirrorTo, if_pos same, same]
  · rw [State.mirrorTo, if_neg same]
    exact (State.mirrorState_of_outside ((State.event_raise _ _ _ _).trans (State.event_recordMgmt _ _ _ _ _ _))
      (by decide)).trans (State.mirrorState_set s v)

theorem State.mirror_mirrorTo (v : MirrorState) : (s.mirrorTo v).mirror = s.mirror :=
  State.mirror_of_outside (State.frame_mirrorTo (f := .mirrorState) s v (by decide)) (by decide)

theorem State.mirror_markSegment (g : Nat) : (s.markSegment g).mirror =
    { s.mirror with map := s.mirror.map.add g, resyncMarked := s.mirror.resyncMarked || s.mirror.resyncSeg == some g } :=
  State.keeps_ite State.mirror (State.mirror_mirrorTo _ _) rfl

/-- A mark takes PAIRED to RESYNC and leaves every other state (Table 6.2). -/
theorem State.mirrorState_markSegment (g : Nat) : (s.markSegment g).mirrorState =
    if s.mirrorState = .paired then .resync else s.mirrorState := by
  unfold State.markSegment
  exact (apply_ite State.mirrorState _ _ _).trans (if_congr Iff.rfl (State.mirrorState_mirrorTo _ _) rfl)

theorem State.mirror_copyMarked (i n : Nat) : (s.copyMarked i n).mirror = s.mirror :=
  State.mirror_of_outside (State.frame_copyMarked (f := .durable) s i n (by decide)) (by decide)

theorem State.mirrorState_copyMarked (i n : Nat) : (s.copyMarked i n).mirrorState = s.mirrorState :=
  State.mirrorState_of_outside (State.frame_copyMarked (f := .durable) s i n (by decide)) (by decide)

theorem State.mirror_marked (l : List Copy) (s : State) :
    (s.each l (fun s c => (s.markSegment c.seg).copyMarked c.i c.num)).mirror = { s.mirror with
      map := s.mirror.map.marks l
      resyncMarked := s.mirror.resyncMarked || l.any (fun c => s.mirror.resyncSeg == some c.seg) } := by
  induction l generalizing s with
  | nil => simp [SegSet.marks]
  | cons c r ih =>
    rw [State.each_cons, ih, State.mirror_copyMarked, State.mirror_markSegment]
    simp [SegSet.marks, Bool.or_assoc]

theorem State.mirrorState_marked (l : List Copy) (s : State) :
    (s.each l (fun s c => (s.markSegment c.seg).copyMarked c.i c.num)).mirrorState =
      if s.mirrorState = .paired ∧ l ≠ [] then .resync else s.mirrorState := by
  induction l generalizing s with
  | nil => simp
  | cons c r ih =>
    rw [State.each_cons, ih, State.mirrorState_copyMarked, State.mirrorState_markSegment]
    by_cases paired : s.mirrorState = .paired <;> simp [paired]

theorem State.mirror_markCopies (sel : Copy → Bool) : (s.markCopies sel).mirror = { s.mirror with
    retain := s.mirror.retain.filter (fun c => !(sel c)), map := s.mirror.map.marks (s.mirror.retain.filter sel)
    resyncMarked := s.mirror.resyncMarked ||
      (s.mirror.retain.filter sel).any (fun c => s.mirror.resyncSeg == some c.seg) } :=
  State.mirror_marked _ _

theorem State.mirrorState_markCopies (sel : Copy → Bool) : (s.markCopies sel).mirrorState =
    if s.mirrorState = .paired ∧ s.mirror.retain.filter sel ≠ [] then .resync else s.mirrorState :=
  State.mirrorState_marked _ _

/-- Nothing of the copies is left but their marks. -/
def Mirror.allMarked (m : Mirror) : Mirror :=
  { m with
    retain := [], map := m.map.marks m.retain, resyncSeg := none, resyncOff := 0, resyncMarked := false, rcopies := [],
    behind := [], resend := [] }

theorem State.mirror_markAll : s.markAll.mirror = s.mirror.allMarked := by
  have copies := State.mirror_markCopies s (fun _ => true)
  unfold State.markAll
  dsimp only
  rw [State.mirror_of_outside (State.frame_removeEntries (f := .entries) _ _ _ (by decide)) (by decide)]
  show { (s.markCopies (fun _ => true)).mirror with
    resyncSeg := none, resyncOff := 0, resyncMarked := false, rcopies := [], behind := [], resend := [] } = _
  rw [copies]
  simp [Mirror.allMarked]

theorem State.mirrorState_markAll : s.markAll.mirrorState =
    if s.mirrorState = .paired ∧ s.mirror.retain ≠ [] then .resync else s.mirrorState := by
  have copies := State.mirrorState_markCopies s (fun _ => true)
  rw [List.filter_true] at copies
  unfold State.markAll
  dsimp only
  rw [State.mirrorState_of_outside (State.frame_removeEntries (f := .entries) _ _ _ (by decide)) (by decide)]
  exact copies

theorem Mirror.mem_allMarked {m : Mirror} {x : Nat} (h : m.map.mem x = true ∨ ∃ c ∈ m.retain, c.seg = x) :
    m.allMarked.map.mem x = true := SegSet.mem_marks h

/-! ### A new mirror state (R130) -/

theorem State.mirror_unfence : s.unfence.mirror = { s.mirror with rowNext := s.unfence.mirror.rowNext } := by
  have rest : ({ s.unfence.mirror with rowNext := [] } : Mirror) = { s.mirror with rowNext := [] } :=
    State.keeps_each (fun s => ({ s.mirror with rowNext := [] } : Mirror)) _ _ _ (fun _ _ => rfl)
  have back := congrArg (fun m : Mirror => { m with rowNext := s.unfence.mirror.rowNext }) rest
  exact back

theorem State.mirrorState_unfence : s.unfence.mirrorState = s.mirrorState :=
  State.keeps_each State.mirrorState _ _ _ (fun _ _ => rfl)

/-- The rows that go on as they were, or unfenced, with a new mirror state. -/
def State.unfenced (old v : MirrorState) : State := if old = .split ∨ v = .unpaired then s.unfence else s

theorem State.event_mirrorTold (old v : MirrorState) : (s.mirrorTold old v).outside .event = (s.unfenced old v).outside .event :=
  (State.event_raise _ _ _ _).trans (State.event_recordMgmt _ _ _ _ _ _)

theorem State.event_mirrorBrings {old v : MirrorState} (h : v ≠ .interrupted) :
    (s.mirrorBrings old v).outside (Footprint.event.plus [Reg.leaseState] []) =
      s.outside (Footprint.event.plus [Reg.leaseState] []) := by
  cases v with
  | interrupted => exact absurd rfl h
  | mismatch => exact State.frame_raise _ _ _ _ (by decide)
  | paired =>
    exact State.outside_ite _ ((State.outside_set _ _ _ _ _ (by decide)).trans (State.frame_pulse _ _ (by decide)))
      (State.frame_pulse _ _ (by decide))
  | unpaired => rfl
  | connecting => rfl
  | resync => rfl
  | split => rfl
  | peerAway => rfl

theorem State.mirrorState_mirrorBrings (old v : MirrorState) : (s.mirrorBrings old v).mirrorState = s.mirrorState := by
  by_cases h : v = .interrupted
  · subst h
    rfl
  · exact State.mirrorState_of_outside (State.event_mirrorBrings s h) (by decide)

/-- A state whose entry marks every copy. -/
def MirrorState.parts (v : MirrorState) : Prop := v = .split ∨ v = .peerAway ∨ v = .mismatch ∨ v = .unpaired

theorem State.mirrorState_setMirror (v : MirrorState) : (s.setMirror v).mirrorState = v := by
  rw [State.setMirror_eq]
  split
  · assumption
  · rw [State.mirrorState_mirrorBrings, State.mirrorState_of_outside (State.event_mirrorTold _ _ _) (by decide),
      State.unfenced]
    have entered : (s.mirrorEnters v).mirrorState = v := by
      unfold State.mirrorEnters
      split
      · next parts =>
        rw [State.mirrorState_markAll, State.mirrorState_set, if_neg]
        rintro ⟨rfl, _⟩
        simp at parts
      · exact State.mirrorState_set s v
    exact State.keeps_ite State.mirrorState ((State.mirrorState_unfence _).trans entered) entered

/-- What the entry to a state leaves of the mirror engine, but for its rows. -/
theorem State.mirror_setMirror {v : MirrorState} (h : s.mirrorState ≠ v) (n : v ≠ .interrupted) :
    (s.setMirror v).mirror = { (if v = .split ∨ v = .peerAway ∨ v = .mismatch ∨ v = .unpaired then s.mirror.allMarked
      else s.mirror) with rowNext := (s.setMirror v).mirror.rowNext } := by
  have told : (s.setMirror v).mirror = ((s.mirrorEnters v).unfenced s.mirrorState v).mirror := by
    rw [State.setMirror_eq, if_neg h, State.mirror_of_outside (State.event_mirrorBrings _ n) (by decide),
      State.mirror_of_outside (State.event_mirrorTold _ _ _) (by decide)]
  have entered : (s.mirrorEnters v).mirror =
      if v = .split ∨ v = .peerAway ∨ v = .mismatch ∨ v = .unpaired then s.mirror.allMarked else s.mirror := by
    unfold State.mirrorEnters
    split
    · exact State.mirror_markAll _
    · rfl
  rw [told, ← entered, State.unfenced]
  split
  · exact State.mirror_unfence _
  · rfl

/-- Entry to a state in which the sides are apart: every copy is marked and none retained. -/
theorem State.setMirror_parts {v : MirrorState} (h : s.mirrorState ≠ v)
    (parts : v = .split ∨ v = .peerAway ∨ v = .mismatch ∨ v = .unpaired) :
    (s.setMirror v).mirror = { s.mirror.allMarked with rowNext := (s.setMirror v).mirror.rowNext } := by
  have n : v ≠ .interrupted := by rintro rfl; simp at parts
  have := State.mirror_setMirror s h n
  rwa [if_pos parts] at this

/-- Entry to a state in which they are not: only the rows may follow. -/
theorem State.setMirror_joins {v : MirrorState} (n : v ≠ .interrupted)
    (joins : ¬ (v = .split ∨ v = .peerAway ∨ v = .mismatch ∨ v = .unpaired)) :
    (s.setMirror v).mirror = { s.mirror with rowNext := (s.setMirror v).mirror.rowNext } := by
  by_cases same : s.mirrorState = v
  · rw [State.setMirror_eq, if_pos same]
  · have := State.mirror_setMirror s same n
    rwa [if_neg joins] at this

end

end Sys2Proof.Machine

namespace Sys2Proof.Machine

/-! ### Answers keep what SIGNED_CONFIG has under way (R454) -/

section
variable (s : State)

theorem State.config_respond (prio src q : Nat) (b : List Byte) : (s.respond prio src q b).lexicon.config = s.lexicon.config :=
  State.keeps_ite (fun x => x.lexicon.config) rfl rfl

theorem State.config_portDone (i : Nat) (n : Bool) (a : Abort) (k : Nat) (b : List Byte) :
    (s.portDone i n a k b).lexicon.config = s.lexicon.config :=
  State.keeps_ite (fun x => x.lexicon.config) (State.config_raise _ _ _ _) rfl

theorem State.config_answer (who : Requester) (a : Abort) (k o : Nat) (b : List Byte) :
    (s.answer who a k o b).lexicon.config = s.lexicon.config := by
  have counted : (if a = .ok then s else s.bump Reg.lexAborts).lexicon.config = s.lexicon.config :=
    State.keeps_ite (fun x => x.lexicon.config) rfl rfl
  cases who with
  | direct p => exact counted
  | port i notify n =>
    exact State.keeps_ite (fun x => x.lexicon.config) counted ((State.config_portDone _ _ _ _ _ _).trans counted)
  | frame prio src q o => exact (State.config_respond _ _ _ _ _).trans counted
  | config _ _ => exact counted

theorem State.config_finish (who : Requester) (r : Nat) (a : Abort) : (s.finish who r a).lexicon.config = s.lexicon.config :=
  State.config_answer _ _ _ _ _ _

/-! ### The commands of the mirror family (R128 to R149) -/

theorem State.event_sendLease (msg policy m req reason term : Nat) :
    (s.sendLease msg policy m req reason term).outside .event = s.outside .event :=
  State.outside_ite _ rfl (State.event_sendFrame _ _ _ _ _)

theorem State.config_takeoverRequest : s.takeoverRequest.lexicon.config = s.lexicon.config :=
  show (s.sendLease 3 (s.get Reg.leasePolicy) s.mirrorState.code s.nextReq 0 0).lexicon.config = _ from
    State.config_of_outside (State.event_sendLease s _ _ _ _ _ _) (by decide)

theorem State.legalIn_mirrorCommand (i v : Nat) :
    s.legalIn ⟨Reg.mirrorCommand, 0, 0, .u8, .wo, 0, (.between 1 3), 127, .none⟩ i v =
      (bit 127 s.image.code && s.mirrorLegal v) := rfl

theorem State.legalIn_rangeCommand (i v : Nat) :
    s.legalIn ⟨Reg.rangeCommand, 0, 16, .u8, .wo, 0, (.between 1 3), 8, .none⟩ i v =
      (bit 8 s.image.code && s.rangeLegal i v) := rfl

theorem State.image_taken (p : Path) : (s.taken p).image = s.image :=
  State.image_of_outside (State.request_taken s p) (by decide)

theorem State.mirrorState_taken (p : Path) : (s.taken p).mirrorState = s.mirrorState :=
  State.mirrorState_of_outside (State.request_taken s p) (by decide)

theorem State.mirrorLegal_taken (p : Path) (v : Nat) : (s.taken p).mirrorLegal v = s.mirrorLegal v := by
  unfold State.mirrorLegal
  rw [State.image_taken, State.mirrorState_taken, State.get_taken _ _ _ _ (by decide), State.get_taken _ _ _ _ (by decide)]

theorem State.rangeLegal_taken (p : Path) (r v : Nat) : (s.taken p).rangeLegal r v = s.rangeLegal r v := by
  unfold State.rangeLegal State.rowLen State.rowState
  rw [State.mirrorState_taken, State.get_taken _ _ _ _ (by decide), State.get_taken _ _ _ _ (by decide)]

end

section
variable {s : State} {p : Path}

/-- A command of MIRROR_COMMAND: what its checks have found, and what it leaves. -/
theorem State.mirror_ok {c : Instr} {k : Byte} (asks : requestOf c = some ⟨⟨p, Reg.mirrorCommand, 0xFFFFFFFF, false⟩, .plain, [k]⟩)
    (h : s.allows c = true) (idle : ((s.taken p).mirrorCommand (fromLe [k])).lexicon.config = none) :
    s.mirrorLegal (fromLe [k]) = true ∧ actRom s (fun s => s.direct c) =
      .next (s.after (((s.taken p).mirrorCommand (fromLe [k])).emit (.lexAnswer p 0 []))) := by
  constructor
  · have legal := (State.allows_checked s asks h Reg.lookup_mirrorCommand (by decide)).1
    rw [State.legalIn_mirrorCommand, Bool.and_eq_true, State.mirrorLegal_taken] at legal
    exact legal.2
  · exact State.direct_ok s asks h Reg.lookup_mirrorCommand (State.apply_mirrorCommand _ _ _ _ _ _) idle

theorem exec_takeover_allowed (h : s.allows (.takeover p) = true) : s.mirrorLegal 3 = true ∧
    exec (.takeover p) s = .next (s.after ((s.taken p).takeoverRequest.emit (.lexAnswer p 0 []))) := by
  rw [exec_takeover, execTakeover]
  exact State.mirror_ok (k := 3) rfl h ((State.config_takeoverRequest _).trans (State.config_taken s p h))

/-- What the checks of a command of RANGE_COMMAND have found. -/
theorem State.range_legal {c : Instr} {r : Fin 16} {k : Byte}
    (asks : requestOf c = some ⟨⟨p, Reg.rangeCommand, r, false⟩, .plain, [k]⟩) (h : s.allows c = true) :
    s.rangeLegal r (fromLe [k]) = true := by
  have legal := (State.allows_checked s asks h Reg.lookup_rangeCommand (by decide)).1
  rw [State.legalIn_rangeCommand, Bool.and_eq_true, State.rangeLegal_taken] at legal
  exact legal.2

theorem exec_handover_allowed {r : Fin 16} (h : s.allows (.handover p r) = true) : s.rangeLegal r 1 = true ∧
    exec (.handover p r) s = .next (s.after
      (((s.taken p).modMirror (fun m => { m with
        handover := some ⟨r.val, .direct p, (s.taken p).now, none⟩
        rowNext := Tbl.put m.rowNext r.val 2 })).waitFor (.direct p) Reg.rangeCommand)) := by
  have asks : requestOf (.handover p r) = some ⟨⟨p, Reg.rangeCommand, r, false⟩, .plain, [1]⟩ := rfl
  refine ⟨State.range_legal asks h, ?_⟩
  rw [exec_handover, execHandover]
  exact State.direct_later s asks h Reg.lookup_rangeCommand (State.apply_rangeCommand _ _ _ _ _ _) (State.config_taken s p h)

theorem exec_forceTakeover_allowed {r : Fin 16} (h : s.allows (.forceTakeover p r) = true) : s.rangeLegal r 2 = true ∧
    exec (.forceTakeover p r) s = .next (s.after
      (((s.taken p).modMirror (fun m => { m with ownNext := (m.ownNext ++ [r.val]).eraseDups })).emit (.lexAnswer p 0 []))) := by
  have asks : requestOf (.forceTakeover p r) = some ⟨⟨p, Reg.rangeCommand, r, false⟩, .plain, [2]⟩ := rfl
  refine ⟨State.range_legal asks h, ?_⟩
  rw [exec_forceTakeover, execForceTakeover]
  exact State.direct_ok s asks h Reg.lookup_rangeCommand (State.apply_rangeCommand _ _ _ _ _ _) (State.config_taken s p h)

theorem exec_witnessNodeWrite_allowed {n : Nat} (h : s.allows (.witnessNodeWrite p n) = true) :
    exec (.witnessNodeWrite p n) s = .next (s.after
      (((s.taken p).modMirror (fun m => { m with witnessNext := some (n % 256) })).emit (.lexAnswer p 0 []))) := by
  have value : fromLe ((le 1 n).take 8) = n % 256 := fromLe_le 1 n
  have applied := State.apply_witnessNode (s.taken p) p (.direct p) .plain 0 (le 1 n)
  rw [value] at applied
  rw [exec_witnessNodeWrite, execWitnessNodeWrite]
  exact State.direct_ok s (show requestOf (.witnessNodeWrite p n) =
    some ⟨⟨p, Reg.witnessNode, 0xFFFFFFFF, false⟩, .plain, le 1 n⟩ from rfl) h Reg.lookup_witnessNode applied
    (State.config_taken s p h)

theorem exec_handoverTimeout_awake (awake : s.awake = true) (idle : s.lexicon.config = none) :
    exec .handoverTimeout s = .next (s.after s.handoverExpiry) := by
  have kept : s.handoverExpiry.lexicon.config = none := by
    unfold State.handoverExpiry
    split
    · exact State.keeps_ite (fun x => x.lexicon.config) ((State.config_finish _ _ _ _).trans idle) idle
    · exact idle
  rw [exec_handoverTimeout, execHandoverTimeout, act_of_awake s _ awake, State.runConfig_none _ kept]

end

/-- Settles O26: the request that leaves, the row that waits for the partner or for the boundary, the number that waits for
it, and the 100 ms of a handover. -/
theorem takeoverCommands : Obligations.TakeoverCommands := by
  rintro p r s _ rfl
  refine ⟨fun h => ?_, fun h => ?_, fun h => ?_, fun n h => exec_witnessNodeWrite_allowed h, ?_, ?_, ?_⟩
  · obtain ⟨legal, effect⟩ := exec_takeover_allowed h
    simp only [State.mirrorLegal, Bool.and_eq_true, Bool.or_eq_true, beq_iff_eq, bne_iff_ne] at legal
    exact ⟨legal.1.1, legal.1.2, legal.2, effect⟩
  · obtain ⟨legal, effect⟩ := exec_handover_allowed h
    simp only [State.rangeLegal, Bool.and_eq_true, beq_iff_eq, bne_iff_ne] at legal
    exact ⟨legal.1.1, legal.1.2, legal.2, effect⟩
  · obtain ⟨legal, effect⟩ := exec_forceTakeover_allowed h
    simp only [State.rangeLegal, Bool.and_eq_true, beq_iff_eq, bne_iff_ne] at legal
    exact ⟨legal.1.1, legal.1.2, legal.2, effect⟩
  · intro h awake idle pending due
    rw [exec_handoverTimeout_awake awake idle, State.handoverExpiry, pending]
    exact congrArg (fun x => Host.Outcome.next (s.after x)) (if_pos due)
  · intro h awake idle pending early
    rw [exec_handoverTimeout_awake awake idle, State.handoverExpiry, pending]
    exact congrArg (fun x => Host.Outcome.next (s.after x)) (if_neg (by rw [show msCycles 100 = 25000000 from rfl, early]; decide))
  · intro awake idle none
    rw [exec_handoverTimeout_awake awake idle, State.handoverExpiry, none]

end Sys2Proof.Machine

namespace Sys2Proof.Machine

/-! ### What a raised source leaves beside its count

The same rules as for `Footprint.event`, in a footprint without the counts of the sources and the queues, so that the count
of a source can be read after other sources have been raised or withdrawn. -/

def Footprint.told : Footprint :=
  { regs := [Reg.wakeStatus, Reg.wakeCount, Reg.fieldFramesTx, Reg.redHolds], parts := [.events, .egress, .frames, .outbox] }

section
variable (s : State)

theorem State.told_makeHead (e : Entry) (t : Nat) : (s.makeHead 9 e t).outside .told = s.outside .told := by
  unfold State.makeHead
  dsimp only
  split
  · rw [State.bump, State.outside_set _ _ _ _ _ (by decide), State.outside_putPort9 _ _ _ (by decide)]
  · rw [State.outside_putPort9 _ _ _ (by decide)]

theorem State.told_enter (e : Entry) : (s.enter 9 e).outside .told = s.outside .told := by
  have m : meterRow 9 e.svc e.i = none := rfl
  unfold State.enter
  simp only [m, Nat.reduceLeDiff, decide_false, Bool.and_false, Bool.false_eq_true, if_false]
  split
  · rw [State.told_makeHead, State.outside_putPort9 _ _ _ (by decide)]
  · rw [State.outside_putPort9 _ _ _ (by decide)]

theorem State.told_nextId (n : Nat) :
    ({ s with sched := { s.sched with nextId := n } } : State).outside .told = s.outside .told := by
  simp [State.outside, Footprint.keep, Footprint.told]

theorem State.told_enqueue (svc i : Nat) (w : Work) (n : Nat) : (s.enqueue 9 svc i w n).outside .told = s.outside .told := by
  unfold State.enqueue
  split
  · rfl
  · dsimp only
    split
    · rw [State.told_enter, State.told_nextId]
    · rw [State.outside_putPort9 _ _ _ (by decide), State.told_nextId]

theorem State.told_renewHeads : (s.renewHeads 9).outside .told = s.outside .told := by
  apply State.outside_each
  intro s kh
  dsimp only
  split
  · rfl
  · split
    · exact State.told_makeHead _ _ _
    · exact State.outside_putPort9 _ _ _ (by decide)

theorem State.told_admitOutside : (s.admitOutside 9).outside .told = s.outside .told := by
  apply State.outside_each
  intro s e
  split
  · rw [State.told_enter, State.outside_putPort9 _ _ _ (by decide)]
  · rfl

theorem State.told_removeEntries (g : Entry → Bool) (h : ∀ e, g e = true → e.svc = 7) :
    (s.removeEntries 9 g).outside .told = s.outside .told := by
  have none : (s.port 9).entries.any (fun e => g e && e.svc != 7) = false := by
    simpa using fun e _ => h e
  unfold State.removeEntries
  simp only [none, Bool.false_and, Bool.false_eq_true, if_false]
  rw [State.told_admitOutside, State.told_renewHeads, State.outside_putPort9 _ _ _ (by decide)]

theorem State.told_sendMsix (i a v : Nat) (m q : Option Nat) : (s.sendMsix i a v m q).outside .told = s.outside .told := by
  unfold State.sendMsix
  cases m <;> simp (disch := decide) [State.outside_modEvents, State.told_enqueue]

theorem State.told_testMgmt (i : Nat) : (s.testMgmt i).outside .told = s.outside .told := by
  unfold State.testMgmt
  split
  · split <;> simp (disch := decide) [State.outside_modEvents, State.told_sendMsix]
  · rfl

theorem State.told_wakeSignal : s.wakeSignal.outside .told = s.outside .told := by
  unfold State.wakeSignal
  dsimp only
  refine State.outside_ite _ (State.outside_modEvents _ _ _ (by decide)) (State.outside_ite _ (State.outside_modEvents _ _ _ (by decide))
    (State.outside_ite _ ?_ rfl))
  exact State.outside_ite _ ((State.outside_emit _ _ _ (by decide)).trans (State.outside_modEvents _ _ _ (by decide)))
    (State.outside_modEvents _ _ _ (by decide))

theorem State.told_wake (b : Nat) : (s.wake b).outside .told = s.outside .told := by
  refine State.outside_ite _ ?_ rfl
  rw [State.told_wakeSignal, State.outside_bump _ _ _ _ _ (by decide)]
  exact State.outside_set _ _ _ _ _ (by decide)

theorem State.told_fieldEvent (n : Nat) : (s.fieldEvent n).outside .told = s.outside .told := by
  have e (s : State) (n : Nat) : ({ s with lexicon := { s.lexicon with frameSeq := n } } : State).outside .told =
      s.outside .told := by simp [State.outside, Footprint.keep, Footprint.told]
  unfold State.fieldEvent
  dsimp only
  refine State.outside_ite _ ?_ rfl
  unfold State.sendFrame
  simp (disch := decide) only [State.outside_modEvents, State.outside_bump, e, State.outside_emit]

theorem State.told_raise (i n u : Nat) :
    (s.raise i n u).outside .told = (s.bump Reg.mgmtCount (srcKey i n)).outside .told := by
  unfold State.raise
  dsimp only
  rw [State.told_testMgmt]
  have keep (b : Prop) [Decidable b] (x y : State) (h : x.outside .told = y.outside .told) :
      (if b then x else y).outside .told = y.outside .told := State.outside_ite _ h rfl
  rw [keep _ _ _ (State.told_fieldEvent _ _), keep _ _ _ (State.told_wake _ _), keep _ _ _ (State.told_wake _ _),
    keep _ _ _ (State.outside_modEvents _ _ _ (by decide))]

theorem State.told_withdraw (i n : Nat) : (s.withdraw i n).outside .told = s.outside .told := by
  unfold State.withdraw
  refine State.outside_ite _ ?_ rfl
  dsimp only
  rw [State.told_testMgmt]
  have gone (s : State) : (s.modEvents (fun e => { e with
      pend := e.pend.remove (srcKey i n)
      units := e.units.removeRange (unitKey i n 0) (unitKey i n 128) })).outside .told = s.outside .told :=
    State.outside_modEvents _ _ _ (by decide)
  refine State.outside_ite _ (State.outside_ite _ ?_ (gone s)) (gone s)
  rw [State.outside_modEvents _ _ _ (by decide), State.told_removeEntries _ _ (by simp +contextual), gone]

/-- A raised source is counted. -/
theorem State.count_raise (i n u : Nat) :
    (s.raise i n u).get Reg.mgmtCount (srcKey i n) = (s.bump Reg.mgmtCount (srcKey i n)).get Reg.mgmtCount (srcKey i n) :=
  State.get_of_outside (f := .told) (State.told_raise s i n u) _ _ (by decide)

end
end Sys2Proof.Machine

namespace Sys2Proof.Machine

/-! ### The witness lease (R144, R147, R148) -/

section
variable (s : State)

theorem State.frame_fenceRows {f : Footprint} (h : Part.mirror ∈ f.parts) : s.fenceRows.outside f = s.outside f :=
  State.outside_ite _ (State.outside_each _ _ _ _ (fun s r => State.frame_rowLater s r _ h)) rfl

theorem State.mirror_fenceRows : s.fenceRows.mirror = { s.mirror with rowNext := s.fenceRows.mirror.rowNext } := by
  have rest : ({ s.fenceRows.mirror with rowNext := [] } : Mirror) = { s.mirror with rowNext := [] } :=
    State.keeps_ite (fun s => ({ s.mirror with rowNext := [] } : Mirror))
      (State.keeps_each (fun s => ({ s.mirror with rowNext := [] } : Mirror)) _ _ _ (fun _ _ => rfl)) rfl
  exact congrArg (fun m : Mirror => { m with rowNext := s.fenceRows.mirror.rowNext }) rest

theorem State.rowsFenced_fenceRows : s.rowsFenced s.fenceRows := by
  intro split r lt own free
  have lease : s.fenceRows.get Reg.leaseState = s.get Reg.leaseState :=
    State.get_of_outside (f := ⟨[], [.mirror]⟩) (State.frame_fenceRows s (by decide)) _ _ (by decide)
  rw [lease, State.fenceRows, if_pos split]
  refine State.each_establishes (fun r s' => Tbl.find s'.mirror.rowNext r =
      some (b2n (s.get Reg.leaseState == 3 || (s.get Reg.leaseState != 1 && s.get Reg.leasePolicy == 0)))) _
    (fun s' k => Tbl.find_put_same _ _ _) (fun s' k j kept => ?_) s _ r (.inl ?_)
  · by_cases same : k = j
    · subst same
      exact Tbl.find_put_same _ _ _
    · exact (Tbl.find_put_other _ _ _ _ same).trans kept
  · simp [mirrorRows, lt, own, free]

/-- The registers that say which rows this side owns and how they act. -/
def Reg.ofRows : List Nat :=
  [Reg.mirrorState, Reg.rangeSegments, Reg.rangeOwner, Reg.pairSide, Reg.rangeState, Reg.leasePolicy]

theorem State.rowsFenced_of_outside {s s' t : State} {f : Footprint} (h : s'.outside f = s.outside f)
    (n : ∀ r ∈ Reg.ofRows, r ∉ f.regs) (k : s'.rowsFenced t) : s.rowsFenced t := by
  have same (r : Nat) (m : r ∈ Reg.ofRows) (i : Nat) : s'.get r i = s.get r i := State.get_of_outside h r i (n r m)
  intro split r lt own free
  have := k (by rwa [State.mirrorState, same _ (by decide)]) r lt
    (by rwa [State.ownsRow, State.rowLen, State.side, same _ (by decide), same _ (by decide), same _ (by decide)])
    (by rwa [State.rowState, same _ (by decide)])
  rwa [same _ (by decide)] at this

/-- What comes to this node in a frame. -/
theorem State.frame_frameIn {f : Footprint} (h : (Footprint.event.plus [Reg.fieldFramesRx] []).le f = true) :
    s.frameIn.outside f = s.outside f :=
  State.outside_le h ((State.frame_wake _ _ (by decide)).trans (State.outside_bump _ _ _ _ _ (by decide)))

theorem State.frame_grantFrame {f : Footprint} (h : (Footprint.event.plus [Reg.fieldFramesRx] []).le f = true) :
    s.grantFrame.outside f = s.outside f := State.outside_ite _ (State.frame_frameIn s h) rfl

/-- A lease that the witness has not given away is valid. -/
def State.leaseHolds (s : State) : State :=
  if s.get Reg.leaseState = 3 then s else (s.set Reg.leaseState 0 1).withdraw 0 0x042

/-- The lease that a grant of `term` makes valid. -/
def State.leaseTaken (s : State) (term : Nat) : State :=
  let t := min (s.get Reg.leaseTerm) term
  let early := msCycles (s.get Reg.leaseGuard) + (if s.get Reg.timebaseStatus = 0 then 0 else msCycles t / 50)
  (s.modMirror (fun m => { m with leaseUntil := some (m.leaseSentAt.getD 0 + msCycles t - early), leaseT := t })).leaseHolds

/-- The request that a grant answers. -/
def State.leaseHeard (s : State) : State :=
  (s.withdraw 0 0x043).modMirror (fun m => { m with leaseAnswered := true, noGrantRaised := false })

theorem State.leaseGranted_eq (res term : Nat) : s.leaseGranted res term =
    if res = 0 then (s.leaseHeard.leaseTaken term).fenceRows
    else if res = 3 then (s.leaseHeard.set Reg.leaseState 0 3).fenceRows else s.leaseHeard := rfl

theorem State.frame_leaseHeard {f : Footprint} (h : (Footprint.event.plus [] [.mirror]).le f = true) :
    s.leaseHeard.outside f = s.outside f :=
  State.outside_le h ((State.outside_modMirror _ _ _ (by decide)).trans (State.frame_withdraw _ _ _ (by decide)))

theorem State.frame_leaseHolds {f : Footprint} (h : (Footprint.event.plus [Reg.leaseState] []).le f = true) :
    s.leaseHolds.outside f = s.outside f :=
  State.outside_le h (State.outside_ite _ rfl
    ((State.frame_withdraw _ _ _ (by decide)).trans (State.outside_set _ _ _ _ _ (by decide))))

theorem State.frame_leaseTaken (term : Nat) {f : Footprint} (h : (Footprint.event.plus [Reg.leaseState] [.mirror]).le f = true) :
    (s.leaseTaken term).outside f = s.outside f :=
  State.outside_le h ((State.frame_leaseHolds _ (by decide)).trans (State.outside_modMirror _ _ _ (by decide)))

theorem State.frame_leaseGranted (res term : Nat) {f : Footprint}
    (h : (Footprint.event.plus [Reg.leaseState] [.mirror]).le f = true) : (s.leaseGranted res term).outside f = s.outside f := by
  refine State.outside_le h ?_
  rw [State.leaseGranted_eq]
  refine State.outside_ite _ ?_ (State.outside_ite _ ?_ ?_)
  · rw [State.frame_fenceRows _ (by decide), State.frame_leaseTaken _ _ (by decide), State.frame_leaseHeard _ (by decide)]
  · rw [State.frame_fenceRows _ (by decide), State.outside_set _ _ _ _ _ (by decide), State.frame_leaseHeard _ (by decide)]
  · exact State.frame_leaseHeard _ (by decide)

theorem State.mirror_leaseHeard : s.leaseHeard.mirror = { s.mirror with leaseAnswered := true, noGrantRaised := false } :=
  congrArg (fun m : Mirror => { m with leaseAnswered := true, noGrantRaised := false })
    (State.mirror_of_outside (f := .event) (State.event_withdraw _ _ _) (by decide))

theorem State.mirror_leaseTaken (term : Nat) : (s.leaseTaken term).mirror = { s.mirror with
    leaseUntil := some (s.mirror.leaseSentAt.getD 0 + msCycles (min (s.get Reg.leaseTerm) term) -
      (msCycles (s.get Reg.leaseGuard) + (if s.get Reg.timebaseStatus = 0 then 0
        else msCycles (min (s.get Reg.leaseTerm) term) / 50)))
    leaseT := min (s.get Reg.leaseTerm) term } :=
  State.mirror_of_outside (f := Footprint.event.plus [Reg.leaseState] []) (State.frame_leaseHolds _ (by decide)) (by decide)

theorem State.leaseState_leaseHolds : s.leaseHolds.get Reg.leaseState = if s.get Reg.leaseState = 3 then 3 else 1 := by
  unfold State.leaseHolds
  split
  · assumption
  · rw [State.get_of_outside (f := .event) (State.event_withdraw _ _ _) _ _ (by decide), State.get_set_same]

theorem State.leaseState_leaseTaken (term : Nat) :
    (s.leaseTaken term).get Reg.leaseState = if s.get Reg.leaseState = 3 then 3 else 1 :=
  State.leaseState_leaseHolds _

/-- A row that is to act otherwise says nothing of the lease. -/
theorem State.leaseState_fenceRows : s.fenceRows.get Reg.leaseState = s.get Reg.leaseState :=
  State.get_of_outside (f := ⟨[], [.mirror]⟩) (State.frame_fenceRows s (by decide)) _ _ (by decide)

/-- The lease after its end (R144): gone with the witness, or lapsed. -/
def State.leaseLapsed (s : State) : State :=
  if s.get Reg.witnessNode = 0 then s.set Reg.leaseState 0 0 else (s.set Reg.leaseState 0 2).raise 0 0x042 0

theorem State.leaseEnds_eq : s.leaseEnds =
    if s.get Reg.leaseState = 1 then (s.modMirror (fun m => { m with leaseUntil := none })).leaseLapsed.fenceRows
    else s.modMirror (fun m => { m with leaseUntil := none }) := rfl

theorem State.frame_leaseLapsed {f : Footprint} (h : (Footprint.event.plus [Reg.leaseState] []).le f = true) :
    s.leaseLapsed.outside f = s.outside f :=
  State.outside_le h (State.outside_ite _ (State.outside_set _ _ _ _ _ (by decide))
    ((State.frame_raise _ _ _ _ (by decide)).trans (State.outside_set _ _ _ _ _ (by decide))))

theorem State.leaseState_leaseLapsed : s.leaseLapsed.get Reg.leaseState = if s.get Reg.witnessNode = 0 then 0 else 2 := by
  unfold State.leaseLapsed
  split
  · exact State.get_set_same _ _ _ _
  · exact (State.get_of_outside (f := .event) (State.event_raise _ _ _ _) _ _ (by decide)).trans (State.get_set_same _ _ _ _)

theorem State.count_leaseLapsed : s.leaseLapsed.get Reg.mgmtCount 0x042 =
    if s.get Reg.witnessNode = 0 then s.get Reg.mgmtCount 0x042 else sat 255 (s.get Reg.mgmtCount 0x042 + 1) := by
  unfold State.leaseLapsed
  split
  · exact State.get_set_register _ _ _ _ (by decide)
  · refine (State.count_raise (s.set Reg.leaseState 0 2) 0 0x042 0).trans ?_
    rw [State.bump, State.get_set_same, State.get_set_register _ _ _ _ (by decide)]
    rfl

theorem State.frame_sendLease (msg policy m req reason term : Nat) {f : Footprint}
    (h : (Footprint.none.plus [Reg.fieldFramesTx] [.frames, .outbox]).le f = true) :
    (s.sendLease msg policy m req reason term).outside f = s.outside f := by
  have seq (s : State) (n : Nat) : ({ s with lexicon := { s.lexicon with frameSeq := n } } : State).outside
      (Footprint.none.plus [Reg.fieldFramesTx] [.frames, .outbox]) =
      s.outside (Footprint.none.plus [Reg.fieldFramesTx] [.frames, .outbox]) := by
    simp [State.outside, Footprint.keep, Footprint.none, Footprint.plus]
  refine State.outside_le h (State.outside_ite _ rfl ?_)
  unfold State.sendFrame
  rw [State.outside_bump _ _ _ _ _ (by decide), seq, State.outside_emit _ _ _ (by decide)]

theorem State.frame_leaseRequest {f : Footprint}
    (h : (Footprint.none.plus [Reg.fieldFramesTx] [.mirror, .frames, .outbox]).le f = true) :
    s.leaseRequest.outside f = s.outside f :=
  State.outside_le h ((State.outside_modMirror _ _ _ (by decide)).trans (State.frame_sendLease _ _ _ _ _ _ _ (by decide)))

theorem State.frame_takeoverRequest {f : Footprint}
    (h : (Footprint.none.plus [Reg.fieldFramesTx] [.mirror, .frames, .outbox]).le f = true) :
    s.takeoverRequest.outside f = s.outside f :=
  State.outside_le h ((State.outside_modMirror _ _ _ (by decide)).trans (State.frame_sendLease _ _ _ _ _ _ _ (by decide)))

/-- A frame to the witness leaves where the node may send and there is a pair and a witness. -/
theorem State.outbox_sendLease (msg policy m req reason term : Nat) (w : s.get Reg.witnessNode ≠ 0) (p : s.get Reg.pairId ≠ 0) :
    (s.sendLease msg policy m req reason term).outbox = s.outbox ++ (if s.fieldSends then [.frame
      (clezelId 1 0xC (s.get Reg.witnessNode) (s.get Reg.fieldNodeId) s.lexicon.frameSeq)
      (layout [(1, msg), (1, s.side), (1, policy), (1, m), (8, s.get Reg.pairId), (4, req), (1, 0), (1, reason), (2, 0),
        (4, term)])] else []) := by
  unfold State.sendLease
  simp only [w, p, false_or]
  by_cases sends : s.fieldSends = true
  · rw [if_neg (by simp [sends]), if_pos sends]
    rfl
  · rw [if_pos (by simpa using sends), if_neg sends, List.append_nil]

end
end Sys2Proof.Machine

namespace Sys2Proof.Machine

/-! ### The commands of the witness lease -/

section
variable {s : State}

/-- A test of a time that may be missing. -/
theorem sinceAll_iff (l : Option Nat) (due : Nat → Bool) :
    (match l with | none => true | some t => due t) = true ↔ ∀ t, l = some t → due t = true := by
  cases l <;> simp

/-- A quarter of LEASE_TERM has passed since the last request, if there was one. -/
def State.leaseDue (s : State) : Bool :=
  match s.mirror.leaseSentAt with
  | none => true
  | some t => s.due (t + msCycles (s.get Reg.leaseTerm) / 4)

theorem State.leaseDue_iff : s.leaseDue = true ↔
    ∀ t, s.mirror.leaseSentAt = some t → s.due (t + msCycles (s.get Reg.leaseTerm) / 4) = true :=
  sinceAll_iff _ (fun t => s.due (t + msCycles (s.get Reg.leaseTerm) / 4))

theorem exec_leaseRequestDue_awake (awake : s.awake = true) : exec .leaseRequestDue s = .next (s.after
    (if s.itemHeld 9 then s else if s.leaseRuns && s.leaseDue then s.leaseRequest else s)) := by
  rw [exec_leaseRequestDue, execLeaseRequestDue]
  exact actItem_of_awake s _ _ awake

theorem exec_leaseGrant_awake (side : Fin 2) (id q res term : Nat) (awake : s.awake = true) :
    exec (.leaseGrant side id q res term) s = .next (s.after
      (if s.grantFrame.fieldSends && s.grantFrame.grantForUs side.val id q s.grantFrame.mirror.leaseReq &&
        s.grantFrame.get Reg.witnessNode != 0 && !s.grantFrame.mirror.leaseAnswered then s.grantFrame.leaseGranted res term
      else s.grantFrame)) := by
  rw [exec_leaseGrant, execLeaseGrant]
  exact act_of_awake s _ awake

/-- The rows of the partner are taken from the next clause. -/
def State.partnerTaken (s : State) : State :=
  let s := s.modMirror (fun m => { m with takeoverAt := none })
  s.takeRows (mirrorRows.filter (fun r => s.rowLen r != 0 && !(s.ownsRow r)))

theorem exec_takeoverGrant_awake (side : Fin 2) (id q res : Nat) (awake : s.awake = true) :
    exec (.takeoverGrant side id q res) s = .next (s.after
      (if s.grantFrame.fieldSends && s.grantFrame.grantForUs side.val id q s.grantFrame.mirror.takeoverReq &&
        s.grantFrame.get Reg.witnessNode != 0 then
        (if res = 0 ∧ ((s.grantFrame.withdraw 0 0x043).mirrorState = .split ∨
            (s.grantFrame.withdraw 0 0x043).mirrorState = .peerAway) then (s.grantFrame.withdraw 0 0x043).partnerTaken
          else s.grantFrame.withdraw 0 0x043)
      else s.grantFrame)) := by
  rw [exec_takeoverGrant, execTakeoverGrant]
  exact act_of_awake s _ awake

theorem exec_leaseLapse_awake (awake : s.awake = true) : exec .leaseLapse s = .next (s.after
    (if s.itemHeld 9 then s else if s.mirror.leaseUntil.any (fun t => s.due t) then s.leaseEnds else s)) := by
  rw [exec_leaseLapse, execLeaseLapse]
  exact actItem_of_awake s _ _ awake

theorem exec_leaseNoGrant_awake (awake : s.awake = true) : exec .leaseNoGrant s = .next (s.after
    (if s.itemHeld 9 then s else if s.get Reg.witnessNode != 0 && !s.mirror.leaseAnswered && !s.mirror.noGrantRaised &&
        s.mirror.leaseSentAt.any (fun t => s.due (t + msCycles 50)) then
      (s.modMirror (fun m => { m with noGrantRaised := true })).raise 0 0x043 0
    else s)) := by
  rw [exec_leaseNoGrant, execLeaseNoGrant]
  exact actItem_of_awake s _ _ awake

theorem exec_takeoverRetry_awake (awake : s.awake = true) : exec .takeoverRetry s = .next (s.after
    (if s.get Reg.autoTakeover = 1 ∧ s.get Reg.witnessNode ≠ 0 ∧ (s.mirrorState = .split ∨ s.mirrorState = .peerAway) ∧
        s.mirror.takeoverAt.any (fun t => s.due (t + msCycles (s.get Reg.takeoverRetry))) = true then s.takeoverRequest
    else s)) := by
  rw [exec_takeoverRetry, execTakeoverRetry]
  exact act_of_awake s _ awake

/-! #### What a grant finds is what stood before its frame -/

theorem State.get_grantFrame (r : Nat) (n : r ∉ (Footprint.event.plus [Reg.fieldFramesRx] []).regs) (i : Nat) :
    s.grantFrame.get r i = s.get r i := State.get_of_outside (State.frame_grantFrame s (by decide)) _ _ n

theorem State.mirror_grantFrame : s.grantFrame.mirror = s.mirror :=
  State.mirror_of_outside (f := Footprint.event.plus [Reg.fieldFramesRx] []) (State.frame_grantFrame s (by decide)) (by decide)

theorem State.fieldSends_grantFrame : s.grantFrame.fieldSends = s.fieldSends := by
  simp only [State.fieldSends]
  rw [State.get_grantFrame _ (by decide), State.get_grantFrame _ (by decide), State.get_grantFrame _ (by decide)]

theorem State.grantForUs_grantFrame (side id q want : Nat) : s.grantFrame.grantForUs side id q want = s.grantForUs side id q want := by
  simp only [State.grantForUs, State.side]
  rw [State.get_grantFrame _ (by decide), State.get_grantFrame _ (by decide)]

theorem exec_leaseGrant_heard {side : Fin 2} {id q : Nat} (res term : Nat) (awake : s.awake = true) (sends : s.fieldSends = true)
    (us : s.grantForUs side.val id q s.mirror.leaseReq = true) (w : s.get Reg.witnessNode ≠ 0)
    (fresh : s.mirror.leaseAnswered = false) :
    exec (.leaseGrant side id q res term) s = .next (s.after (s.grantFrame.leaseGranted res term)) := by
  rw [exec_leaseGrant_awake side id q res term awake, State.mirror_grantFrame, State.fieldSends_grantFrame,
    State.grantForUs_grantFrame, State.get_grantFrame _ (by decide), sends, us, fresh]
  exact congrArg (fun x => Host.Outcome.next (s.after x)) (if_pos (by simp [w]))

theorem exec_leaseGrant_other {side : Fin 2} {id q : Nat} (res term : Nat) (awake : s.awake = true)
    (h : s.fieldSends = false ∨ s.grantForUs side.val id q s.mirror.leaseReq = false ∨ s.get Reg.witnessNode = 0 ∨
      s.mirror.leaseAnswered = true) :
    exec (.leaseGrant side id q res term) s = .next (s.after s.grantFrame) := by
  rw [exec_leaseGrant_awake side id q res term awake, State.mirror_grantFrame, State.fieldSends_grantFrame,
    State.grantForUs_grantFrame, State.get_grantFrame _ (by decide)]
  refine congrArg (fun x => Host.Outcome.next (s.after x)) (if_neg ?_)
  obtain h | h | h | h := h <;> simp [h]

theorem exec_takeoverGrant_other {side : Fin 2} {id q : Nat} (res : Nat) (awake : s.awake = true)
    (h : s.fieldSends = false ∨ s.grantForUs side.val id q s.mirror.takeoverReq = false ∨ s.get Reg.witnessNode = 0) :
    exec (.takeoverGrant side id q res) s = .next (s.after s.grantFrame) := by
  rw [exec_takeoverGrant_awake side id q res awake, State.mirror_grantFrame, State.fieldSends_grantFrame,
    State.grantForUs_grantFrame, State.get_grantFrame _ (by decide)]
  refine congrArg (fun x => Host.Outcome.next (s.after x)) (if_neg ?_)
  obtain h | h | h := h <;> simp [h]

theorem exec_takeoverGrant_heard {side : Fin 2} {id q : Nat} (res : Nat) (awake : s.awake = true) (sends : s.fieldSends = true)
    (us : s.grantForUs side.val id q s.mirror.takeoverReq = true) (w : s.get Reg.witnessNode ≠ 0) :
    exec (.takeoverGrant side id q res) s = .next (s.after (if res = 0 ∧ (s.mirrorState = .split ∨ s.mirrorState = .peerAway)
      then (s.grantFrame.withdraw 0 0x043).partnerTaken else s.grantFrame.withdraw 0 0x043)) := by
  have told : (s.grantFrame.withdraw 0 0x043).mirrorState = s.mirrorState :=
    (State.mirrorState_of_outside (f := .event) (State.event_withdraw _ _ _) (by decide)).trans
      (State.mirrorState_of_outside (f := Footprint.event.plus [Reg.fieldFramesRx] []) (State.frame_grantFrame s (by decide))
        (by decide))
  rw [exec_takeoverGrant_awake side id q res awake, State.mirror_grantFrame, State.fieldSends_grantFrame,
    State.grantForUs_grantFrame, State.get_grantFrame _ (by decide), sends, us, told]
  exact congrArg (fun x => Host.Outcome.next (s.after x)) (if_pos (by simp [w]))

/-- The rows that are owned from the next clause: those that were to be, and every row of the partner. -/
theorem State.mem_partnerTaken (r : Nat) : r ∈ s.partnerTaken.mirror.ownNext ↔
    (r ∈ s.mirror.ownNext ∨ (r < 16 ∧ s.rowLen r ≠ 0 ∧ s.ownsRow r = false)) := by
  show r ∈ (s.mirror.ownNext ++ mirrorRows.filter (fun r => s.rowLen r != 0 && !(s.ownsRow r))).eraseDups ↔ _
  simp [mirrorRows]

end

section
variable (s : State)

/-- The answer of a request, with what its result says of the lease (R144). -/
theorem State.leaseGranted_effect (res term : Nat) :
    (s.leaseGranted res term).mirror.leaseAnswered = true ∧ (s.leaseGranted res term).mirror.noGrantRaised = false ∧
    (res = 0 → (s.leaseGranted res term).get Reg.leaseState = (if s.get Reg.leaseState = 3 then 3 else 1) ∧
      (s.leaseGranted res term).mirror.leaseUntil =
        some (s.mirror.leaseSentAt.getD 0 + msCycles (min (s.get Reg.leaseTerm) term) -
          (msCycles (s.get Reg.leaseGuard) + (if s.get Reg.timebaseStatus = 0 then 0
            else msCycles (min (s.get Reg.leaseTerm) term) / 50))) ∧ s.rowsFenced (s.leaseGranted res term)) ∧
    (res = 3 → (s.leaseGranted res term).get Reg.leaseState = 3 ∧
      (s.leaseGranted res term).mirror.leaseUntil = s.mirror.leaseUntil ∧ s.rowsFenced (s.leaseGranted res term)) ∧
    (res ≠ 0 → res ≠ 3 → (s.leaseGranted res term).get Reg.leaseState = s.get Reg.leaseState ∧
      (s.leaseGranted res term).mirror.leaseUntil = s.mirror.leaseUntil) := by
  have heard : s.leaseHeard.outside (Footprint.event.plus [] [.mirror]) = s.outside (Footprint.event.plus [] [.mirror]) :=
    State.frame_leaseHeard s (by decide)
  have same (n : Nat) (h : n ∉ (Footprint.event.plus [] [.mirror]).regs) : s.leaseHeard.get n = s.get n :=
    State.get_of_outside heard _ _ h
  have kept := State.mirror_leaseHeard s
  rw [State.leaseGranted_eq]
  by_cases zero : res = 0
  · rw [if_pos zero]
    have taken := (State.mirror_fenceRows (s.leaseHeard.leaseTaken term)).trans
      (congrArg (fun m : Mirror => { m with rowNext := (s.leaseHeard.leaseTaken term).fenceRows.mirror.rowNext })
        (State.mirror_leaseTaken s.leaseHeard term))
    have lease : (s.leaseHeard.leaseTaken term).fenceRows.get Reg.leaseState = if s.get Reg.leaseState = 3 then 3 else 1 := by
      rw [State.leaseState_fenceRows, State.leaseState_leaseTaken, same _ (by decide)]
    refine ⟨?_, ?_, fun _ => ⟨lease, ?_, State.rowsFenced_of_outside (f := Footprint.event.plus [Reg.leaseState] [.mirror])
      ((State.frame_leaseTaken _ _ (by decide)).trans (State.frame_leaseHeard s (by decide))) (by decide)
      (State.rowsFenced_fenceRows _)⟩, fun h => by omega, fun h => absurd zero h⟩
    · rw [taken, kept]
    · rw [taken, kept]
    · rw [taken, kept, same _ (by decide), same _ (by decide), same _ (by decide)]
  · rw [if_neg zero]
    by_cases three : res = 3
    · rw [if_pos three]
      have taken : (s.leaseHeard.set Reg.leaseState 0 3).fenceRows.mirror = { s.leaseHeard.mirror with
          rowNext := (s.leaseHeard.set Reg.leaseState 0 3).fenceRows.mirror.rowNext } := State.mirror_fenceRows _
      have lease : (s.leaseHeard.set Reg.leaseState 0 3).fenceRows.get Reg.leaseState = 3 :=
        (State.leaseState_fenceRows _).trans (State.get_set_same _ _ _ _)
      refine ⟨?_, ?_, fun h => absurd h zero, fun _ => ⟨lease, ?_,
        State.rowsFenced_of_outside (f := Footprint.event.plus [Reg.leaseState] [.mirror])
          ((State.outside_set _ _ _ _ _ (by decide)).trans (State.frame_leaseHeard s (by decide))) (by decide)
          (State.rowsFenced_fenceRows _)⟩, fun _ h => absurd three h⟩
      · rw [taken, kept]
      · rw [taken, kept]
      · rw [taken, kept]
    · rw [if_neg three]
      refine ⟨?_, ?_, fun h => absurd h zero, fun h => absurd h three, fun _ _ => ⟨same _ (by decide), ?_⟩⟩
      · rw [kept]
      · rw [kept]
      · rw [kept]

/-- The end of a valid lease (R144). -/
theorem State.leaseEnds_effect (valid : s.get Reg.leaseState = 1) : s.leaseEnds.mirror.leaseUntil = none ∧
    s.leaseEnds.get Reg.leaseState = (if s.get Reg.witnessNode = 0 then 0 else 2) ∧
    s.leaseEnds.get Reg.mgmtCount 0x042 = (if s.get Reg.witnessNode = 0 then s.get Reg.mgmtCount 0x042
      else sat 255 (s.get Reg.mgmtCount 0x042 + 1)) ∧ s.rowsFenced s.leaseEnds ∧
    s.changesOnly s.leaseEnds (Footprint.event.plus [Reg.leaseState] [.mirror]) := by
  rw [State.leaseEnds_eq, if_pos valid]
  have lapsed : (s.modMirror (fun m => { m with leaseUntil := none })).leaseLapsed.outside
      (Footprint.event.plus [Reg.leaseState] [.mirror]) = s.outside (Footprint.event.plus [Reg.leaseState] [.mirror]) :=
    (State.frame_leaseLapsed _ (by decide)).trans (State.outside_modMirror _ _ _ (by decide))
  have mirror : (s.modMirror (fun m => { m with leaseUntil := none })).leaseLapsed.mirror = { s.mirror with leaseUntil := none } :=
    State.mirror_of_outside (f := Footprint.event.plus [Reg.leaseState] []) (State.frame_leaseLapsed _ (by decide)) (by decide)
  refine ⟨?_, ?_, ?_, State.rowsFenced_of_outside lapsed (by decide) (State.rowsFenced_fenceRows _),
    (State.frame_fenceRows _ (by decide)).trans lapsed⟩
  · rw [State.mirror_fenceRows, mirror]
  · exact (State.leaseState_fenceRows _).trans (State.leaseState_leaseLapsed _)
  · exact (State.get_of_outside (f := ⟨[], [.mirror]⟩) (State.frame_fenceRows _ (by decide)) _ _ (by decide)).trans
      (State.count_leaseLapsed _)

end

/-- Settles O31: the requests that leave with their numbers, the grants that answer them, and the ends of the lease's
times. -/
theorem theLeaseRuns : Obligations.TheLeaseRuns := by
  refine ⟨fun s awake => ⟨fun free runs due => ?_, fun h => ?_, fun side id q res term h => exec_leaseGrant_other res term awake h,
    fun side id q res term sends us w fresh => ?_⟩, fun s awake => ⟨fun h => ?_, fun free due lost => ?_, fun free due valid => ?_,
    fun free w unanswered unraised due => ?_, fun h => ?_, fun side id q res h => exec_takeoverGrant_other res awake h,
    fun side id q res sends us w => ⟨fun granted state => ?_, fun h => ?_⟩, fun auto w state due => ?_, fun h => ?_⟩⟩
  · have ids : s.get Reg.pairId ≠ 0 ∧ s.get Reg.witnessNode ≠ 0 := by
      simp only [State.leaseRuns, Bool.and_eq_true, bne_iff_ne] at runs
      exact runs.1
    have effect : exec .leaseRequestDue s = .next (s.after s.leaseRequest) := by
      rw [exec_leaseRequestDue_awake awake, free, runs, State.leaseDue_iff.mpr due]
      exact congrArg (fun x => Host.Outcome.next (s.after x)) ((if_neg Bool.false_ne_true).trans (if_pos rfl))
    have now : (s.sendLease 0x01 (s.get Reg.leasePolicy) s.mirrorState.code s.nextReq 0 (s.get Reg.leaseTerm)).now = s.now :=
      State.now_of_outside (State.event_sendLease s _ _ _ _ _ _) (by decide)
    refine ⟨_, effect, rfl, congrArg some now, rfl, State.outbox_sendLease s _ _ _ _ _ _ ids.2 ids.1,
      State.changesOnly_after _ _ (State.frame_leaseRequest s (by decide))⟩
  · rw [exec_leaseRequestDue_awake awake]
    obtain h | h | ⟨t, sent, early⟩ := h
    · rw [if_pos h]
    · rw [h]
      exact congrArg (fun x => Host.Outcome.next (s.after x)) (ite_self _)
    · have early : s.leaseDue = false := Bool.eq_false_iff.mpr fun due =>
        absurd (State.leaseDue_iff.mp due t sent) (by rw [early]; exact Bool.false_ne_true)
      rw [early, Bool.and_false]
      exact congrArg (fun x => Host.Outcome.next (s.after x)) (ite_self _)
  · have frame := State.frame_grantFrame s (f := Footprint.event.plus [Reg.fieldFramesRx] []) (by decide)
    obtain ⟨answered, raised, zero, three, other⟩ := State.leaseGranted_effect s.grantFrame res term
    rw [State.mirror_grantFrame, State.get_grantFrame _ (by decide), State.get_grantFrame _ (by decide),
      State.get_grantFrame _ (by decide), State.get_grantFrame _ (by decide)] at zero
    rw [State.mirror_grantFrame] at three
    rw [State.mirror_grantFrame, State.get_grantFrame _ (by decide)] at other
    refine ⟨_, exec_leaseGrant_heard res term awake sends us w fresh, answered, raised, fun h => ?_, fun h => ?_, other,
      State.changesOnly_after _ _ ((State.frame_leaseGranted _ _ _ (by decide)).trans (State.outside_le (by decide) frame))⟩
    · obtain ⟨a, b, c⟩ := zero h
      exact ⟨a, b, State.rowsFenced_of_outside frame (by decide) c⟩
    · obtain ⟨a, b, c⟩ := three h
      exact ⟨a, b, State.rowsFenced_of_outside frame (by decide) c⟩
  · rw [exec_leaseLapse_awake awake]
    obtain h | h := h
    · rw [if_pos h]
    · rw [h]
      exact congrArg (fun x => Host.Outcome.next (s.after x)) (ite_self _)
  · rw [exec_leaseLapse_awake awake, free, due, State.leaseEnds_eq, if_neg lost]
    rfl
  · obtain ⟨a, b, c, d, e⟩ := State.leaseEnds_effect s valid
    have effect : exec .leaseLapse s = .next (s.after s.leaseEnds) := by
      rw [exec_leaseLapse_awake awake, free, due]
      rfl
    exact ⟨_, effect, a, b, c, d, State.changesOnly_after _ _ e⟩
  · have late : s.mirror.leaseSentAt.any (fun t => s.due (t + msCycles 50)) = true := by
      rw [show msCycles 50 = 12500000 from rfl]
      exact due
    rw [exec_leaseNoGrant_awake awake, free, unanswered, unraised, late, bne_iff_ne.mpr w]
    exact congrArg (fun x => Host.Outcome.next (s.after x)) ((if_neg Bool.false_ne_true).trans (if_pos rfl))
  · rw [exec_leaseNoGrant_awake awake]
    obtain h | h := h
    · rw [if_pos h]
    · refine congrArg (fun x => Host.Outcome.next (s.after x)) ((congrArg (fun x => if s.itemHeld 9 then s else x)
        (if_neg ?_)).trans (ite_self _))
      obtain h | h | h | h := h
      · simp [h]
      · simp [h]
      · simp [h]
      · rw [show msCycles 50 = 12500000 from rfl, h]
        simp
  · rw [exec_takeoverGrant_heard res awake sends us w, if_pos ⟨granted, state⟩]
    have told : (s.grantFrame.withdraw 0 0x043).outside (Footprint.event.plus [Reg.fieldFramesRx] []) =
        s.outside (Footprint.event.plus [Reg.fieldFramesRx] []) :=
      (State.frame_withdraw _ _ _ (by decide)).trans (State.frame_grantFrame s (by decide))
    have same (n : Nat) (i : Nat) (h : n ∉ (Footprint.event.plus [Reg.fieldFramesRx] []).regs) :
        (s.grantFrame.withdraw 0 0x043).get n i = s.get n i := State.get_of_outside told _ _ h
    refine ⟨_, rfl, rfl, fun r => ?_, State.changesOnly_after _ _ ?_⟩
    · refine (State.mem_partnerTaken r).trans ?_
      simp only [State.ownsRow, State.rowLen, State.side]
      rw [same _ _ (by decide), same _ _ (by decide), same _ _ (by decide),
        State.mirror_of_outside told (by decide)]
    · exact (State.outside_modMirror _ _ _ (by decide)).trans ((State.outside_modMirror _ _ _ (by decide)).trans
        (State.outside_le (by decide) told))
  · rw [exec_takeoverGrant_heard res awake sends us w, if_neg]
    rintro ⟨rfl, state⟩
    obtain h | ⟨a, b⟩ := h
    · exact h rfl
    · exact state.elim a b
  · rw [exec_takeoverRetry_awake awake, if_pos ⟨auto, w, state, due⟩]
    have now : (s.sendLease 0x03 (s.get Reg.leasePolicy) s.mirrorState.code s.nextReq 0 0).now = s.now :=
      State.now_of_outside (State.event_sendLease s _ _ _ _ _ _) (by decide)
    exact ⟨_, rfl, rfl, congrArg some now, State.changesOnly_after _ _ (State.frame_takeoverRequest s (by decide))⟩
  · rw [exec_takeoverRetry_awake awake, if_neg]
    rintro ⟨a, b, c, d⟩
    obtain h | h | ⟨h, h'⟩ | h := h
    · exact h a
    · exact b h
    · exact c.elim h h'
    · rw [h] at d
      exact Bool.false_ne_true d

end Sys2Proof.Machine

namespace Sys2Proof.Machine

/-! ### Resync while a map holds marks (R140) -/

section
variable (s : State)

theorem State.mapsClear_of_outside {s t : State} {f : Footprint} (h : t.outside f = s.outside f)
    (n : Reg.rangeBaseSeg ∉ f.regs ∧ Reg.rangeSegments ∉ f.regs) (map : t.mirror.map = s.mirror.map)
    (peer : t.mirror.peerMap = s.mirror.peerMap) : t.mapsClear = s.mapsClear := by
  have base (r : Nat) : t.rowBase r = s.rowBase r := State.get_of_outside h _ _ n.1
  have len (r : Nat) : t.rowLen r = s.rowLen r := State.get_of_outside h _ _ n.2
  simp only [State.mapsClear, State.rowMarked, base, len, map, peer]

/-- The next marked segment, where none is under way. -/
def State.resyncChooses (s : State) : State :=
  let s := if s.mirror.resyncMarked then
      s.modMirror (fun m => { m with resyncOff := 0, resyncMarked := false, rcopies := [] }) else s
  if s.mirror.resyncSeg.isSome then s else s.modMirror (fun m => { m with resyncSeg := s.nextMarked, resyncOff := 0 })

/-- The read of the next part of a marked segment. -/
def State.resyncReads (s : State) (g : Nat) : State :=
  if s.mirror.resyncOff < 2097152 then
    (s.modMirror (fun m => { m with resyncRead := true })).enqueueImage 5 0 false
      (g * 2097152 + s.mirror.resyncOff) 256 [] false (.resyncRead g s.mirror.resyncOff)
  else s

/-- The chosen part is read, or with no mark left on either side resync ends. -/
def State.resyncGoes (s : State) : State :=
  match s.mirror.resyncSeg with
  | none => if s.mapsClear then s.setMirror .paired else s
  | some g => s.resyncReads g

theorem State.resyncPump_eq : s.resyncPump =
    if s.mirrorState != .resync || s.mirror.resyncRead || !(s.anyPartnerUp) || s.cutPassed then s
    else s.resyncChooses.resyncGoes := rfl

theorem State.resyncGoes_marked (marked : s.mapsClear = false) :
    s.resyncGoes = s.mirror.resyncSeg.elim s s.resyncReads := by
  unfold State.resyncGoes
  cases s.mirror.resyncSeg with
  | none => exact if_neg (by simp [marked])
  | some g => rfl

/-- What resync has under way, set aside. -/
def Mirror.idle (m : Mirror) : Mirror :=
  { m with resyncSeg := none, resyncOff := 0, resyncMarked := false, rcopies := [], resyncRead := false }

theorem State.frame_resyncChooses {f : Footprint} (h : Part.mirror ∈ f.parts) : s.resyncChooses.outside f = s.outside f := by
  have again : (if s.mirror.resyncMarked then
      s.modMirror (fun m => { m with resyncOff := 0, resyncMarked := false, rcopies := [] }) else s).outside f = s.outside f :=
    State.outside_ite _ (State.outside_modMirror _ _ _ h) rfl
  exact State.outside_ite _ again ((State.outside_modMirror _ _ _ h).trans again)

theorem State.idle_resyncChooses : s.resyncChooses.mirror.idle = s.mirror.idle := by
  have again : (if s.mirror.resyncMarked then
      s.modMirror (fun m => { m with resyncOff := 0, resyncMarked := false, rcopies := [] }) else s).mirror.idle = s.mirror.idle :=
    State.keeps_ite (fun x => x.mirror.idle) rfl rfl
  exact State.keeps_ite (fun x => x.mirror.idle) again again

theorem State.frame_resyncReads {f : Footprint} (g : Nat) (h : (Footprint.entries.plus [] [.mirror]).le f = true) :
    (s.resyncReads g).outside f = s.outside f :=
  State.outside_le h (State.outside_ite _ ((State.frame_enqueueImage _ _ _ _ _ _ _ _ _ (by decide)).trans
    (State.outside_modMirror _ _ _ (by decide))) rfl)

theorem State.idle_resyncReads (g : Nat) : (s.resyncReads g).mirror.idle = s.mirror.idle :=
  State.keeps_ite (fun x => x.mirror.idle) ((congrArg Mirror.idle
    (State.mirror_of_outside (f := .entries)
      (State.frame_enqueueImage (f := .entries) _ _ _ _ _ _ _ _ _ (by decide)) (by decide))).trans rfl) rfl

/-- With marks in a map resync stays what it is, and only its own progress moves. -/
theorem State.resyncPump_marked (marked : s.mapsClear = false) :
    s.resyncPump.outside (Footprint.entries.plus [] [.mirror]) = s.outside (Footprint.entries.plus [] [.mirror]) ∧
    s.resyncPump.mirror.idle = s.mirror.idle := by
  have chosen := State.frame_resyncChooses s (f := Footprint.entries.plus [] [.mirror]) (by decide)
  have idle := State.idle_resyncChooses s
  have same : s.resyncChooses.mapsClear = false := by
    rw [← marked]
    exact State.mapsClear_of_outside (f := ⟨[], [.mirror]⟩) (State.frame_resyncChooses s (by decide)) (by decide)
      (show s.resyncChooses.mirror.idle.map = s.mirror.idle.map from congrArg _ idle)
      (show s.resyncChooses.mirror.idle.peerMap = s.mirror.idle.peerMap from congrArg _ idle)
  rw [State.resyncPump_eq]
  split
  · exact ⟨rfl, rfl⟩
  · rw [State.resyncGoes_marked _ same]
    cases s.resyncChooses.mirror.resyncSeg with
    | none => exact ⟨chosen, idle⟩
    | some g => exact ⟨(State.frame_resyncReads _ g (by decide)).trans chosen, (State.idle_resyncReads _ g).trans idle⟩

/-- Resync does nothing in another state. -/
theorem State.resyncPump_other (h : s.mirrorState ≠ .resync) : s.resyncPump = s := by
  rw [State.resyncPump_eq, if_pos (by simp [h])]

/-! ### The checks of a pair (R129) -/

/-- A row is the same on both sides, and lies inside both images. -/
def State.rowAgrees (s : State) (lim r : Nat) : Bool :=
  match Tbl.find s.mirror.peerRows r with
  | some (b, n) => n == s.rowLen r && (n == 0 || (b == s.rowBase r && decide (b + n ≤ lim)))
  | none => s.rowLen r == 0

/-- The rows of equal generations that the sides give to different owners. -/
def State.rowsDisputed (s : State) (h : Hello) : List Nat :=
  (mirrorRows.filter (fun r => s.rowLen r != 0)).filter (fun r =>
    (h.claim s.side r).1 == s.get Reg.rangeGeneration r && (h.claim s.side r).2 != s.get Reg.rangeOwner r)

/-- The checks end in MISMATCH. -/
def State.pairFails (s : State) (conflicts : List Nat) : State :=
  (s.modMirror (fun m => { m with helloSent := false, conflicts := conflicts })).setMirror .mismatch

/-- The checks end with a pair. -/
def State.pairStarts (s : State) (h : Hello) : State :=
  let s := (s.modMirror (fun m => { m with helloSent := false })).pairMaps h
  (s.setMirror (if s.mapsClear then .paired else .resync)).resyncPump

theorem State.evalHello_eq {h : Hello} (told : s.mirror.hello = some h) : s.evalHello =
    if !s.mirror.helloSent then s
    else if h.pairId ≠ s.get Reg.pairId ∨ h.side ≠ 1 - s.side then s.pairFails []
    else if s.mirror.peerRows.length < h.ranges then s
    else if !(mirrorRows.all (s.rowAgrees (min s.segments h.segments))) then s.pairFails []
    else if !(s.rowsDisputed h).isEmpty then s.pairFails (s.rowsDisputed h)
    else s.pairStarts h := by
  unfold State.evalHello
  rw [told]
  rfl

theorem State.evalHello_none (h : s.mirror.hello = none) : s.evalHello = s := by
  unfold State.evalHello
  rw [h]

theorem State.frame_pairFails {f : Footprint} (l : List Nat) (h : Footprint.mirrors.le f = true) :
    (s.pairFails l).outside f = s.outside f :=
  State.outside_le h ((State.frame_setMirror _ _ (by decide)).trans (State.outside_modMirror _ _ _ (by decide)))

theorem State.frame_pairStarts {f : Footprint} (k : Hello) (h : Footprint.mirrors.le f = true) :
    (s.pairStarts k).outside f = s.outside f := by
  refine State.outside_le h ?_
  unfold State.pairStarts
  rw [State.frame_resyncPump _ (by decide), State.frame_setMirror _ _ (by decide), State.frame_pairMaps _ _ (by decide),
    State.outside_modMirror _ _ _ (by decide)]

theorem State.frame_evalHello {f : Footprint} (h : Footprint.mirrors.le f = true) : s.evalHello.outside f = s.outside f := by
  cases told : s.mirror.hello with
  | none => rw [State.evalHello_none s told]
  | some k =>
    rw [State.evalHello_eq s told]
    exact State.outside_ite _ rfl (State.outside_ite _ (State.frame_pairFails _ _ h) (State.outside_ite _ rfl
      (State.outside_ite _ (State.frame_pairFails _ _ h) (State.outside_ite _ (State.frame_pairFails _ _ h)
        (State.frame_pairStarts _ _ h)))))

/-- This side's own hello, with its rows. -/
def State.helloGoes (s : State) : State :=
  ((s.sendPartner { op := 0x55, data := [s.helloBody.take 64, s.helloBody.drop 64] }).each
    (mirrorRows.filter (fun r => (s.sendPartner { op := 0x55, data := [s.helloBody.take 64, s.helloBody.drop 64] }).rowLen r != 0))
    (fun s r => s.sendPartner { op := 0x5A, p0 := s.rowLen r, p1 := r + 16 * s.rowBase r })).modMirror
      (fun m => { m with helloSent := true })

theorem State.pairTry_eq : s.pairTry = if s.mayPair && !s.mirror.helloSent then s.helloGoes.evalHello else s := rfl

theorem State.frame_helloGoes {f : Footprint} (h : (Footprint.message.plus [] [.mirror]).le f = true) :
    s.helloGoes.outside f = s.outside f := by
  refine State.outside_le h ?_
  unfold State.helloGoes
  rw [State.outside_modMirror _ _ _ (by decide), State.outside_each _ _ _ _ (fun s r => State.frame_sendPartner s _ (by decide)),
    State.frame_sendPartner _ _ (by decide)]

theorem State.mirror_helloGoes : s.helloGoes.mirror = { s.mirror with helloSent := true } := by
  have sent : ((s.sendPartner { op := 0x55, data := [s.helloBody.take 64, s.helloBody.drop 64] }).each
      (mirrorRows.filter (fun r => (s.sendPartner { op := 0x55, data := [s.helloBody.take 64, s.helloBody.drop 64] }).rowLen r != 0))
      (fun s r => s.sendPartner { op := 0x5A, p0 := s.rowLen r, p1 := r + 16 * s.rowBase r })).mirror = s.mirror :=
    State.mirror_of_outside (f := .message) ((State.outside_each _ _ _ _ (fun s r => State.frame_sendPartner s _ (by decide))).trans
      (State.frame_sendPartner _ _ (by decide))) (by decide)
  exact congrArg (fun m : Mirror => { m with helloSent := true }) sent

theorem State.frame_pairTry {f : Footprint} (h : Footprint.mirrors.le f = true) : s.pairTry.outside f = s.outside f :=
  State.outside_le h (State.outside_ite _ ((State.frame_evalHello _ (by decide)).trans (State.frame_helloGoes _ (by decide))) rfl)

end
end Sys2Proof.Machine

namespace Sys2Proof.Machine

/-! ### What marking and a new mirror state leave of the rows -/

/-- `Footprint.mirrors` without the rows' generations and owners. -/
def Footprint.marks : Footprint := Footprint.durable.plus
  [Reg.mirrorState, Reg.leaseState, Reg.greenBytes, Reg.yellowBytes, Reg.redBytes] [.mirror, .flow]

section
variable (s : State)

theorem State.marks_markAll : s.markAll.outside .marks = s.outside .marks := by
  unfold State.markAll
  dsimp only
  rw [State.frame_removeEntries _ _ _ (by decide), State.outside_modMirror _ _ _ (by decide), State.frame_markCopies _ _ (by decide)]

theorem State.marks_setMirror (v : MirrorState) : (s.setMirror v).outside .marks = s.outside .marks := by
  rw [State.setMirror_eq]
  refine State.outside_ite _ rfl ?_
  rw [State.frame_mirrorBrings _ _ _ (by decide), State.frame_mirrorTold _ _ _ (by decide)]
  exact State.outside_ite _ ((State.marks_markAll _).trans (State.outside_set _ _ _ _ _ (by decide)))
    (State.outside_set _ _ _ _ _ (by decide))

theorem State.marks_resyncPump : s.resyncPump.outside .marks = s.outside .marks := by
  have chosen := State.frame_resyncChooses s (f := .marks) (by decide)
  rw [State.resyncPump_eq]
  refine State.outside_ite _ rfl ?_
  unfold State.resyncGoes
  split
  · exact State.outside_ite _ ((State.marks_setMirror _ _).trans chosen) chosen
  · exact (State.frame_resyncReads _ _ (by decide)).trans chosen

theorem State.marks_pairFails (l : List Nat) : (s.pairFails l).outside .marks = s.outside .marks :=
  (State.marks_setMirror _ _).trans (State.outside_modMirror _ _ _ (by decide))

/-! ### The rows of a pair (R129) -/

/-- A row as the generations of both sides decide it. -/
def State.rowDecided (s : State) (h : Hello) (r : Nat) : State :=
  let c := h.claim s.side r
  let s := if s.get Reg.rangeGeneration r < c.1 then (s.set Reg.rangeGeneration r c.1).set Reg.rangeOwner r c.2 else s
  s.rowLater r (if s.ownsRow r then 0 else 2)

theorem State.rowsDecided_eq (h : Hello) :
    s.rowsDecided h = s.each (mirrorRows.filter (fun r => s.rowLen r != 0)) (fun s r => s.rowDecided h r) := rfl

theorem State.frame_rowDecided {f : Footprint} (k : Hello) (r : Nat)
    (h : (Footprint.none.plus [Reg.rangeGeneration, Reg.rangeOwner] [.mirror]).le f = true) :
    (s.rowDecided k r).outside f = s.outside f :=
  State.outside_le h ((State.frame_rowLater _ _ _ (by decide)).trans (State.outside_ite _
    ((State.outside_set _ _ _ _ _ (by decide)).trans (State.outside_set _ _ _ _ _ (by decide))) rfl))

theorem Reg.key_row {r a b : Nat} (ha : a < 16) (hb : b < 16) : Reg.key r a = Reg.key r b ↔ a = b := by
  unfold Reg.key
  omega

theorem State.get_setRow {r q a b v : Nat} (ha : a < 16) (hb : b < 16) (n : q = r) :
    (s.set r a v).get q b = if a = b then v else s.get q b := by
  subst n
  rw [State.get_set, if_congr (Reg.key_row ha hb) rfl rfl]

theorem State.generation_rowDecided (h : Hello) {r k : Nat} (hr : r < 16) (hk : k < 16) :
    (s.rowDecided h r).get Reg.rangeGeneration k =
      if r = k ∧ s.get Reg.rangeGeneration k < (h.claim s.side k).1 then (h.claim s.side k).1 else s.get Reg.rangeGeneration k := by
  show (if s.get Reg.rangeGeneration r < (h.claim s.side r).1 then
    (s.set Reg.rangeGeneration r (h.claim s.side r).1).set Reg.rangeOwner r (h.claim s.side r).2 else s).get
      Reg.rangeGeneration k = _
  split
  · next lt =>
    rw [State.get_set_register _ _ _ _ (by decide), State.get_setRow _ hr hk rfl]
    by_cases same : r = k
    · subst same
      rw [if_pos rfl, if_pos ⟨rfl, lt⟩]
    · rw [if_neg same, if_neg (fun c => same c.1)]
  · next ge =>
    rw [if_neg]
    rintro ⟨rfl, lt⟩
    exact ge lt

theorem State.owner_rowDecided (h : Hello) {r k : Nat} (hr : r < 16) (hk : k < 16) :
    (s.rowDecided h r).get Reg.rangeOwner k =
      if r = k ∧ s.get Reg.rangeGeneration k < (h.claim s.side k).1 then (h.claim s.side k).2 else s.get Reg.rangeOwner k := by
  show (if s.get Reg.rangeGeneration r < (h.claim s.side r).1 then
    (s.set Reg.rangeGeneration r (h.claim s.side r).1).set Reg.rangeOwner r (h.claim s.side r).2 else s).get
      Reg.rangeOwner k = _
  split
  · next lt =>
    rw [State.get_setRow _ hr hk rfl, State.get_set_register _ _ _ _ (by decide)]
    by_cases same : r = k
    · subst same
      rw [if_pos rfl, if_pos ⟨rfl, lt⟩]
    · rw [if_neg same, if_neg (fun c => same c.1)]
  · next ge =>
    rw [if_neg]
    rintro ⟨rfl, lt⟩
    exact ge lt

/-- The rows are decided one by one. -/
theorem State.each_rowDecided (h : Hello) {k : Nat} (hk : k < 16) (l : List Nat) (small : ∀ r ∈ l, r < 16) (s : State) :
    (s.each l (fun s r => s.rowDecided h r)).get Reg.rangeGeneration k =
      (if k ∈ l ∧ s.get Reg.rangeGeneration k < (h.claim s.side k).1 then (h.claim s.side k).1 else s.get Reg.rangeGeneration k) ∧
    (s.each l (fun s r => s.rowDecided h r)).get Reg.rangeOwner k =
      (if k ∈ l ∧ s.get Reg.rangeGeneration k < (h.claim s.side k).1 then (h.claim s.side k).2 else s.get Reg.rangeOwner k) := by
  induction l generalizing s with
  | nil => simp
  | cons r l ih =>
    have hr := small r List.mem_cons_self
    have side : (s.rowDecided h r).side = s.side :=
      State.get_of_outside (f := Footprint.none.plus [Reg.rangeGeneration, Reg.rangeOwner] [.mirror])
        (State.frame_rowDecided s h r (by decide)) _ _ (by decide)
    obtain ⟨gen, own⟩ := ih (fun x hx => small x (List.mem_cons_of_mem _ hx)) (s.rowDecided h r)
    rw [State.each_cons, gen, own, side, State.generation_rowDecided s h hr hk, State.owner_rowDecided s h hr hk]
    by_cases same : r = k
    · subst same
      by_cases lt : s.get Reg.rangeGeneration r < (h.claim s.side r).1 <;> simp [lt]
    · have other : k ≠ r := fun e => same e.symm
      simp [same, other]

theorem State.ownsRow_congr {s t : State} {k : Nat} (len : t.rowLen k = s.rowLen k) (own : t.get Reg.rangeOwner k = s.get Reg.rangeOwner k)
    (side : t.side = s.side) : t.ownsRow k = s.ownsRow k := by
  unfold State.ownsRow
  rw [len, own, side]

/-- How a row acts from the next clause, where the checks have decided it. -/
def State.rowActs (s : State) (k : Nat) : Prop := Tbl.find s.mirror.rowNext k = some (if s.ownsRow k then 0 else 2)

theorem State.rowActs_rowDecided (h : Hello) (r : Nat) : (s.rowDecided h r).rowActs r := Tbl.find_put_same _ _ _

theorem State.rowActs_kept {s : State} (h : Hello) {r k : Nat} (hr : r < 16) (hk : k < 16) (acts : s.rowActs k) :
    (s.rowDecided h r).rowActs k := by
  by_cases same : r = k
  · subst same
    exact State.rowActs_rowDecided s h r
  · have frame := State.frame_rowDecided s (f := Footprint.none.plus [Reg.rangeGeneration, Reg.rangeOwner] [.mirror]) h r (by decide)
    have own : (s.rowDecided h r).ownsRow k = s.ownsRow k := by
      refine State.ownsRow_congr (State.get_of_outside frame _ _ (by decide)) ?_ (State.get_of_outside frame _ _ (by decide))
      rw [State.owner_rowDecided s h hr hk, if_neg (fun c => same c.1)]
    have next : Tbl.find (s.rowDecided h r).mirror.rowNext k = Tbl.find s.mirror.rowNext k := by
      refine (Tbl.find_put_other _ _ _ _ same).trans ?_
      exact congrArg (fun m : Mirror => Tbl.find m.rowNext k) (State.keeps_ite State.mirror rfl rfl)
    rw [State.rowActs, own, next]
    exact acts

theorem State.rowActs_each (h : Hello) {k : Nat} (hk : k < 16) (l : List Nat) (small : ∀ r ∈ l, r < 16) (s : State)
    (acts : k ∈ l ∨ s.rowActs k) : (s.each l (fun s r => s.rowDecided h r)).rowActs k := by
  induction l generalizing s with
  | nil => exact acts.resolve_left List.not_mem_nil
  | cons r l ih =>
    rw [State.each_cons]
    refine ih (fun x hx => small x (List.mem_cons_of_mem _ hx)) _ ?_
    obtain member | acts := acts
    · obtain rfl | member := List.mem_cons.mp member
      · exact .inr (State.rowActs_rowDecided s h k)
      · exact .inl member
    · exact .inr (State.rowActs_kept h (small r List.mem_cons_self) hk acts)

theorem mem_rowsHeld {s : State} {k : Nat} : k ∈ mirrorRows.filter (fun r => s.rowLen r != 0) ↔ k < 16 ∧ s.rowLen k ≠ 0 := by
  simp [mirrorRows]

/-- What the generations of both sides make of a row of this side. -/
theorem State.rowsDecided_row (h : Hello) {k : Nat} (hk : k < 16) (held : s.rowLen k ≠ 0) :
    (s.rowsDecided h).get Reg.rangeGeneration k = max (s.get Reg.rangeGeneration k) (h.claim s.side k).1 ∧
    (s.rowsDecided h).get Reg.rangeOwner k =
      (if s.get Reg.rangeGeneration k < (h.claim s.side k).1 then (h.claim s.side k).2 else s.get Reg.rangeOwner k) ∧
    (s.rowsDecided h).rowActs k := by
  have member : k ∈ mirrorRows.filter (fun r => s.rowLen r != 0) := mem_rowsHeld.mpr ⟨hk, held⟩
  have small (r : Nat) (hr : r ∈ mirrorRows.filter (fun r => s.rowLen r != 0)) : r < 16 := (mem_rowsHeld.mp hr).1
  obtain ⟨gen, own⟩ := State.each_rowDecided h hk _ small s
  rw [State.rowsDecided_eq, gen, own]
  refine ⟨?_, ?_, State.rowActs_each h hk _ small s (.inl member)⟩
  · by_cases lt : s.get Reg.rangeGeneration k < (h.claim s.side k).1
    · rw [if_pos ⟨member, lt⟩]
      omega
    · rw [if_neg (fun c => lt c.2)]
      omega
  · exact if_congr ⟨fun c => c.2, fun c => ⟨member, c⟩⟩ rfl rfl

/-- A row of this side's image that no claim outbids stays as it is. -/
theorem State.rowsDecided_kept (h : Hello) {k : Nat} (hk : k < 16) (ge : (h.claim s.side k).1 ≤ s.get Reg.rangeGeneration k) :
    (s.rowsDecided h).get Reg.rangeGeneration k = s.get Reg.rangeGeneration k ∧
    (s.rowsDecided h).get Reg.rangeOwner k = s.get Reg.rangeOwner k := by
  obtain ⟨gen, own⟩ := State.each_rowDecided h hk _ (fun r hr => (mem_rowsHeld.mp hr).1) s
  rw [State.rowsDecided_eq, gen, own, if_neg (fun c => absurd c.2 (by omega)), if_neg (fun c => absurd c.2 (by omega))]
  exact ⟨rfl, rfl⟩

/-! ### The maps go out, and the pair begins -/

theorem State.mirror_rowsDecided (h : Hello) :
    (s.rowsDecided h).mirror = { s.mirror with rowNext := (s.rowsDecided h).mirror.rowNext } := by
  have rest : ({ (s.rowsDecided h).mirror with rowNext := [] } : Mirror) = { s.mirror with rowNext := [] } :=
    State.keeps_each (fun s => ({ s.mirror with rowNext := [] } : Mirror)) _ _ _ (fun s r =>
      State.keeps_ite (fun s => ({ s.mirror with rowNext := [] } : Mirror)) (p := s.get Reg.rangeGeneration r < (h.claim s.side r).1)
        (x := (s.set Reg.rangeGeneration r (h.claim s.side r).1).set Reg.rangeOwner r (h.claim s.side r).2) (y := s) rfl rfl)
  exact congrArg (fun m : Mirror => { m with rowNext := (s.rowsDecided h).mirror.rowNext }) rest

theorem State.mirror_sendMaps : s.sendMaps.mirror = { s.mirror with peerMap := s.sendMaps.mirror.peerMap } := by
  have sent : s.sendMaps.mirror = { s.mirror with peerMap := s.awayRows.foldl (fun a r =>
      SegSet.union a (s.mirror.map.within (s.rowBase r) (s.rowBase r + s.rowLen r))) [] } :=
    State.keeps_each State.mirror _ _ _ (fun s k =>
      State.mirror_of_outside (f := .message) (State.frame_sendPartner s _ (by decide)) (by decide))
  rw [sent]

theorem Mirror.fresh_marked {m n : Mirror} {r : Tbl Nat} (e : n = { m with rowNext := r }.allMarked) (x : SegSet) :
    { n.fresh with peerMap := x } = { m.allMarked.fresh with rowNext := r, peerMap := x } := by
  subst e
  rfl

theorem State.mirror_pairMaps (h : Hello) : (s.pairMaps h).mirror = { s.mirror.allMarked.fresh with
    rowNext := (s.rowsDecided h).mirror.rowNext, peerMap := (s.pairMaps h).mirror.peerMap } := by
  have marked := (State.mirror_markAll (s.rowsDecided h)).trans (congrArg Mirror.allMarked (State.mirror_rowsDecided s h))
  rw [State.pairMaps]
  generalize (s.rowsDecided h).markAll = marks at marked ⊢
  rw [State.mirror_sendMaps]
  exact Mirror.fresh_marked marked _

/-- `pairMaps` after its rows are decided. -/
theorem State.marks_pairMaps (h : Hello) : (s.pairMaps h).outside .marks = (s.rowsDecided h).outside .marks := by
  rw [State.pairMaps, State.frame_sendMaps _ (by decide), State.outside_modMirror _ _ _ (by decide), State.marks_markAll]

theorem State.rowNext_unfenced (free : ∀ r < 16, s.ownsRow r = true → Tbl.getD s.mirror.rowNext r (s.rowState r) ≠ 1)
    (old v : MirrorState) : s.unfenced old v = s := by
  have none : mirrorRows.filter (fun r => s.ownsRow r && Tbl.getD s.mirror.rowNext r (s.rowState r) == 1) = [] := by
    simpa [mirrorRows] using free
  unfold State.unfenced
  refine (if_congr Iff.rfl ?_ rfl).trans (ite_self _)
  unfold State.unfence
  rw [none]
  rfl

/-- A state that is joined leaves the mirror engine as it is where no row was to be unfenced. -/
theorem State.mirror_setMirror_joins {v : MirrorState} (n : v ≠ .interrupted)
    (joins : ¬ (v = .split ∨ v = .peerAway ∨ v = .mismatch ∨ v = .unpaired))
    (free : ∀ r < 16, s.ownsRow r = true → Tbl.getD s.mirror.rowNext r (s.rowState r) ≠ 1) :
    (s.setMirror v).mirror = s.mirror := by
  rw [State.setMirror_eq]
  split
  · rfl
  · rw [State.mirror_of_outside (State.event_mirrorBrings _ n) (by decide),
      State.mirror_of_outside (State.event_mirrorTold _ _ _) (by decide), State.mirrorEnters, if_neg joins,
      State.rowNext_unfenced (s.set Reg.mirrorState 0 v.code)]
    · rfl
    · intro r lt own
      refine (congrArg (fun x => Tbl.getD s.mirror.rowNext r x) (State.get_set_register _ _ _ _ (by decide))).trans_ne
        (free r lt ((State.ownsRow_congr (State.get_set_register _ _ _ _ (by decide)) (State.get_set_register _ _ _ _ (by decide))
          (State.get_set_register _ _ _ _ (by decide))).symm.trans own))

end
end Sys2Proof.Machine

namespace Sys2Proof.Machine

/-! ### How the checks of a pair end (R129) -/

/-- Resync's own progress is not in what it leaves idle. -/
theorem Mirror.maps_of_idle {m n : Mirror} (h : m.idle = n.idle) : m.map = n.map ∧ m.peerMap = n.peerMap :=
  ⟨congrArg (fun x => x.map) h, congrArg (fun x => x.peerMap) h⟩

section
variable (s : State)

theorem State.rowActs_pairMaps (h : Hello) {k : Nat} (hk : k < 16) (held : s.rowLen k ≠ 0) : (s.pairMaps h).rowActs k := by
  have marks := State.marks_pairMaps s h
  have own : (s.pairMaps h).ownsRow k = (s.rowsDecided h).ownsRow k :=
    State.ownsRow_congr (State.get_of_outside marks _ _ (by decide)) (State.get_of_outside marks _ _ (by decide))
      (State.get_of_outside marks _ _ (by decide))
  rw [State.rowActs, State.mirror_pairMaps, own]
  exact (State.rowsDecided_row s h hk held).2.2

/-- Every row that is owned acts as its owner: none is to be unfenced. -/
theorem State.pairMaps_free (h : Hello) (r : Nat) (lt : r < 16) (own : (s.pairMaps h).ownsRow r = true) :
    Tbl.getD (s.pairMaps h).mirror.rowNext r ((s.pairMaps h).rowState r) ≠ 1 := by
  have len : (s.pairMaps h).rowLen r = s.rowLen r :=
    State.get_of_outside (f := .mirrors) (State.frame_pairMaps s h (by decide)) _ _ (by decide)
  have held : s.rowLen r ≠ 0 := by
    rw [← len]
    simp only [State.ownsRow, Bool.and_eq_true, bne_iff_ne] at own
    exact own.1
  have acts := State.rowActs_pairMaps s h lt held
  rw [State.rowActs, own] at acts
  rw [Tbl.getD, acts]
  exact Nat.zero_ne_one

/-- The pair begins in PAIRED or RESYNC, as its maps say. -/
def State.pairBegins (s : State) (h : Hello) : State :=
  let s := s.pairMaps h
  (s.setMirror (if s.mapsClear then .paired else .resync)).resyncPump

theorem State.pairStarts_eq (h : Hello) : s.pairStarts h = (s.modMirror (fun m => { m with helloSent := false })).pairBegins h := rfl

theorem State.pairBegins_effect (h : Hello) :
    (s.pairBegins h).mirrorState = (if (s.pairBegins h).mapsClear then .paired else .resync) ∧
    (s.pairBegins h).outside .marks = (s.rowsDecided h).outside .marks ∧
    (s.pairBegins h).mirror.idle = (s.pairMaps h).mirror.idle := by
  have marks := State.marks_pairMaps s h
  by_cases clear : (s.pairMaps h).mapsClear = true
  · have state : ((s.pairMaps h).setMirror .paired).mirrorState = .paired := State.mirrorState_setMirror _ _
    have mirror : ((s.pairMaps h).setMirror .paired).mirror = (s.pairMaps h).mirror :=
      State.mirror_setMirror_joins _ (by simp) (by simp) (State.pairMaps_free s h)
    have same : ((s.pairMaps h).setMirror .paired).mapsClear = true :=
      (State.mapsClear_of_outside (State.marks_setMirror _ _) (by decide) (congrArg _ mirror) (congrArg _ mirror)).trans clear
    have begun : s.pairBegins h = (s.pairMaps h).setMirror .paired := by
      unfold State.pairBegins
      dsimp only
      rw [if_pos clear, State.resyncPump_other]
      simp [state]
    rw [begun, state, same, mirror]
    exact ⟨rfl, (State.marks_setMirror _ _).trans marks, rfl⟩
  · have state : ((s.pairMaps h).setMirror .resync).mirrorState = .resync := State.mirrorState_setMirror _ _
    have mirror : ((s.pairMaps h).setMirror .resync).mirror = (s.pairMaps h).mirror :=
      State.mirror_setMirror_joins _ (by simp) (by simp) (State.pairMaps_free s h)
    have same : ((s.pairMaps h).setMirror .resync).mapsClear = false :=
      (State.mapsClear_of_outside (State.marks_setMirror _ _) (by decide) (congrArg _ mirror) (congrArg _ mirror)).trans
        (Bool.eq_false_iff.mpr clear)
    have begun : s.pairBegins h = ((s.pairMaps h).setMirror .resync).resyncPump := by
      unfold State.pairBegins
      dsimp only
      rw [if_neg clear]
    obtain ⟨frame, idle⟩ := State.resyncPump_marked _ same
    have still : ((s.pairMaps h).setMirror .resync).resyncPump.mapsClear = false :=
      (State.mapsClear_of_outside frame (by decide)
        (Mirror.maps_of_idle idle).1 (Mirror.maps_of_idle idle).2).trans same
    rw [begun, still, idle, mirror]
    exact ⟨(State.mirrorState_of_outside frame (by decide)).trans state,
      (State.marks_resyncPump _).trans ((State.marks_setMirror _ _).trans marks), rfl⟩

/-- A mirror engine that starts again, but for resync's progress. -/
theorem Mirror.of_fresh {m n : Mirror} {r : Tbl Nat} {x : SegSet}
    (h : m.idle = ({ n.allMarked.fresh with rowNext := r, peerMap := x } : Mirror).idle) :
    (m.retain = [] ∧ m.txSeq = 0 ∧ m.rxDone = 4294967295 ∧ m.rx = [] ∧ m.hello = none ∧ m.helloSent = n.helloSent) ∧ m.rowNext = r :=
  ⟨⟨congrArg (fun m => m.retain) h, congrArg (fun m => m.txSeq) h, congrArg (fun m => m.rxDone) h, congrArg (fun m => m.rx) h,
    congrArg (fun m => m.hello) h, congrArg (fun m => m.helloSent) h⟩, congrArg (fun m => m.rowNext) h⟩

/-- A pair that the checks have found sound. -/
theorem State.pairStarts_effect (h : Hello) :
    (s.pairStarts h).mirrorState = (if (s.pairStarts h).mapsClear then .paired else .resync) ∧
    (∀ k, k < 16 → s.rowLen k ≠ 0 →
      (s.pairStarts h).get Reg.rangeGeneration k = max (s.get Reg.rangeGeneration k) (h.claim s.side k).1 ∧
      (s.pairStarts h).get Reg.rangeOwner k = (if s.get Reg.rangeGeneration k < (h.claim s.side k).1 then (h.claim s.side k).2
        else s.get Reg.rangeOwner k) ∧
      Tbl.find (s.pairStarts h).mirror.rowNext k = some (if (s.pairStarts h).ownsRow k then 0 else 2)) ∧
    (s.pairStarts h).mirror.retain = [] ∧ (s.pairStarts h).mirror.txSeq = 0 ∧ (s.pairStarts h).mirror.rxDone = 4294967295 ∧
    (s.pairStarts h).mirror.rx = [] ∧ (s.pairStarts h).mirror.hello = none ∧ (s.pairStarts h).mirror.helloSent = false := by
  rw [State.pairStarts_eq]
  obtain ⟨state, frame, idle⟩ := State.pairBegins_effect (s.modMirror (fun m => { m with helloSent := false })) h
  obtain ⟨fresh, next⟩ := Mirror.of_fresh (idle.trans
    (congrArg Mirror.idle (State.mirror_pairMaps (s.modMirror (fun m => { m with helloSent := false })) h)))
  refine ⟨state, fun k hk held => ?_, fresh⟩
  obtain ⟨gen, own, acts⟩ := State.rowsDecided_row (s.modMirror (fun m => { m with helloSent := false })) h hk held
  have owned := State.ownsRow_congr (State.get_of_outside frame Reg.rangeSegments k (by decide))
    (State.get_of_outside frame Reg.rangeOwner k (by decide)) (State.get_of_outside frame Reg.pairSide 0 (by decide))
  refine ⟨(State.get_of_outside frame _ _ (by decide)).trans gen, (State.get_of_outside frame _ _ (by decide)).trans own, ?_⟩
  rw [owned, next]
  exact acts

/-- A side that fails the checks: MISMATCH, and the next hello goes again. -/
theorem State.pairFails_effect (l : List Nat) : (s.pairFails l).mirrorState = .mismatch ∧
    (s.pairFails l).mirror.helloSent = false ∧ (s.pairFails l).mirror.conflicts = l := by
  refine ⟨State.mirrorState_setMirror _ _, ?_⟩
  unfold State.pairFails
  by_cases same : (s.modMirror (fun m => { m with helloSent := false, conflicts := l })).mirrorState = .mismatch
  · rw [State.setMirror_eq, if_pos same]
    exact ⟨rfl, rfl⟩
  · rw [State.setMirror_parts _ same (.inr (.inr (.inl rfl)))]
    exact ⟨rfl, rfl⟩

/-- Rows whose generation no claim outbids keep it, and their owner, through the checks. -/
theorem State.evalHello_kept {h : Hello} (told : s.mirror.hello = some h) {k : Nat} (hk : k < 16)
    (ge : (h.claim s.side k).1 ≤ s.get Reg.rangeGeneration k) :
    s.evalHello.get Reg.rangeGeneration k = s.get Reg.rangeGeneration k ∧
    s.evalHello.get Reg.rangeOwner k = s.get Reg.rangeOwner k := by
  have fails (l : List Nat) : (s.pairFails l).get Reg.rangeGeneration k = s.get Reg.rangeGeneration k ∧
      (s.pairFails l).get Reg.rangeOwner k = s.get Reg.rangeOwner k :=
    ⟨State.get_of_outside (State.marks_pairFails s l) _ _ (by decide), State.get_of_outside (State.marks_pairFails s l) _ _ (by decide)⟩
  have starts : (s.pairStarts h).get Reg.rangeGeneration k = s.get Reg.rangeGeneration k ∧
      (s.pairStarts h).get Reg.rangeOwner k = s.get Reg.rangeOwner k := by
    obtain ⟨_, frame, _⟩ := State.pairBegins_effect (s.modMirror (fun m => { m with helloSent := false })) h
    obtain ⟨gen, own⟩ := State.rowsDecided_kept (s.modMirror (fun m => { m with helloSent := false })) h hk ge
    rw [State.pairStarts_eq, State.get_of_outside frame _ _ (by decide), State.get_of_outside frame _ _ (by decide), gen, own]
    exact ⟨rfl, rfl⟩
  rw [State.evalHello_eq s told]
  split
  · exact ⟨rfl, rfl⟩
  · split
    · exact fails []
    · split
      · exact ⟨rfl, rfl⟩
      · split
        · exact fails []
        · split
          · exact fails _
          · exact starts

end

/-! ### PAIR_HELLO and RANGE_DESC -/

section
variable {s : State}

theorem exec_pairHello_awake (pl : Fin 2) (b : List Byte) (awake : s.awake = true) :
    exec (.pairHello pl b) s = .next (s.after
      (if b.length = 128 ∧ (s.consume (16 + pl.val) (fun m => m.op == 0x55)).mirror.wanted = true ∧
          (s.consume (16 + pl.val) (fun m => m.op == 0x55)).mirrorState ≠ .unpaired ∧
          (s.consume (16 + pl.val) (fun m => m.op == 0x55)).cutPassed = false then
        (s.consume (16 + pl.val) (fun m => m.op == 0x55)).gotHello (helloOf b)
      else s.consume (16 + pl.val) (fun m => m.op == 0x55))) := by
  rw [exec_pairHello, execPairHello]
  exact act_of_awake s _ awake

theorem exec_rangeDesc_awake (pl : Fin 2) (row : Fin 16) (base n : Nat) (awake : s.awake = true) :
    exec (.rangeDesc pl row base n) s = .next (s.after
      ((s.consume (16 + pl.val) (fun m => m.op == 0x5A)).untilOpen n (row.val + 16 * base) (fun s => s.gotDesc row.val base n))) := by
  rw [exec_rangeDesc, execRangeDesc]
  exact act_of_awake s _ awake

/-- A message of the partner's that a restarting side answers, once it has reached window open. -/
theorem State.untilOpen_open {f : State → State} {q a : Nat} (h : s.image ≠ .restoring ∨ s.windowsOpen = true) :
    s.untilOpen q a f = f s := by
  refine if_neg ?_
  rintro ⟨image, closed⟩
  obtain h | h := h
  · exact h image
  · exact Bool.false_ne_true (closed.symm.trans h)

theorem State.untilOpen_restarting {f : State → State} {q a : Nat} (h : s.image = .restoring) (closed : s.windowsOpen = false) :
    s.untilOpen q a f = s.sendMnak 3 q a := if_pos ⟨h, closed⟩

end

/-- What a message taken from its link leaves. -/
theorem State.links_consume (s : State) (u : Nat) (hit : Msg → Bool) :
    (s.consume u hit).outside ⟨[], [.links]⟩ = s.outside ⟨[], [.links]⟩ := State.frame_consume s u hit (by decide)

section
variable {s : State}

theorem State.rowAgrees_iff {lim r : Nat} : s.rowAgrees lim r = true ↔
    ((Tbl.find s.mirror.peerRows r = none ∧ s.rowLen r = 0) ∨
      ∃ x, Tbl.find s.mirror.peerRows r = some x ∧ x.2 = s.rowLen r ∧
        (x.2 = 0 ∨ x.1 = s.rowBase r ∧ x.1 + x.2 ≤ lim)) := by
  unfold State.rowAgrees
  cases Tbl.find s.mirror.peerRows r with
  | none => simp
  | some x => simp

theorem State.mem_rowsDisputed {h : Hello} {k : Nat} : k ∈ s.rowsDisputed h ↔
    (k < 16 ∧ s.rowLen k ≠ 0 ∧ (h.claim s.side k).1 = s.get Reg.rangeGeneration k ∧
      (h.claim s.side k).2 ≠ s.get Reg.rangeOwner k) := by
  simp [State.rowsDisputed, mirrorRows, and_comm (b := ¬ s.rowLen k = 0)]

end

/-- A state whose registers are those of another. -/
theorem State.get_eq_of_outside {s t : State} {l : List Part} (h : t.outside ⟨[], l⟩ = s.outside ⟨[], l⟩) : @State.get t = @State.get s := by
  funext r i
  exact State.get_of_outside h r i List.not_mem_nil

theorem State.mayPair_congr {s t : State} (get : @State.get t = @State.get s) (wanted : t.mirror.wanted = s.mirror.wanted) : t.mayPair = s.mayPair := by
  simp only [State.mayPair, State.govActive, State.image, State.windowsOpen, State.anyPartnerUp, State.partnerUp, State.linkIsUp,
    State.linkState, State.mirrorState, State.sendsCopies, get, wanted]

/-- What a hello does once it is one of a wanted partner. -/
theorem exec_pairHello_taken {s u : State} {pl : Fin 2} {b : List Byte} (awake : s.awake = true)
    (hu : u = s.consume (16 + pl.val) (fun m => m.op == 0x55)) (len : b.length = 128) (wanted : s.mirror.wanted = true)
    (paired : s.mirrorState ≠ .unpaired) (running : s.cutPassed = false) :
    exec (.pairHello pl b) s = .next (s.after (u.gotHello (helloOf b))) := by
  have links : u.outside ⟨[], [.links]⟩ = s.outside ⟨[], [.links]⟩ := hu ▸ State.links_consume _ _ _
  rw [exec_pairHello_awake pl b awake, ← hu]
  refine congrArg (fun x => Host.Outcome.next (s.after x)) (if_pos ⟨len, ?_, ?_, ?_⟩)
  · rw [State.mirror_of_outside links (by decide), wanted]
  · rwa [State.mirrorState_of_outside links (by decide)]
  · rwa [State.cutPassed_of_outside links (by decide) (by decide)]

theorem State.gotHello_eq (s : State) (h : Hello) : s.gotHello h =
    if s.mirror.helloSent then (s.modMirror (fun m => { m with hello := some h, peerRows := [] })).evalHello
    else (s.modMirror (fun m => { m with hello := some h, peerRows := [] })).pairTry := rfl

/-- What a row does once the side takes the partner's messages. -/
theorem exec_rangeDesc_taken {s u : State} {pl : Fin 2} {row : Fin 16} {base n : Nat} (awake : s.awake = true)
    (reached : s.image ≠ .restoring ∨ s.windowsOpen = true) (hu : u = s.consume (16 + pl.val) (fun m => m.op == 0x5A)) :
    exec (.rangeDesc pl row base n) s = .next (s.after
      (u.modMirror (fun m => { m with peerRows := Tbl.put s.mirror.peerRows row.val (base, n) })).evalHello) := by
  have links : u.outside ⟨[], [.links]⟩ = s.outside ⟨[], [.links]⟩ := hu ▸ State.links_consume _ _ _
  have mirror := State.mirror_of_outside links (by decide)
  rw [exec_rangeDesc_awake pl row base n awake, ← hu, State.untilOpen_open, State.gotDesc, State.modMirror, State.modMirror, mirror]
  rwa [State.image_of_outside links (by decide), State.windowsOpen, State.get_of_outside links _ _ (by decide)]

/-- Settles O29: a hello that changes nothing, begins a round or fails it at once, and the row that ends the round. -/
theorem pairsAreChecked : Obligations.PairsAreChecked := by
  refine ⟨fun pl b h s u awake hh hu => ?_, fun pl row base n rows s u awake reached hu hr => ?_,
    fun pl row base n s awake image closed => ?_⟩
  · have links : u.outside ⟨[], [.links]⟩ = s.outside ⟨[], [.links]⟩ := hu ▸ State.links_consume _ _ _
    have mirror := State.mirror_of_outside links (by decide)
    have get := State.get_eq_of_outside links
    refine ⟨fun idle => ?_, fun len wanted paired running => ?_⟩
    · rw [exec_pairHello_awake pl b awake, ← hu]
      refine congrArg (fun x => Host.Outcome.next (s.after x)) (if_neg ?_)
      rw [mirror, State.mirrorState_of_outside links (by decide), State.cutPassed_of_outside links (by decide) (by decide)]
      rintro ⟨a, b, c, d⟩
      obtain idle | idle | idle | idle := idle
      · exact idle a
      · exact Bool.false_ne_true (idle.symm.trans b)
      · exact c idle
      · exact Bool.false_ne_true (d.symm.trans idle)
    · have taken := exec_pairHello_taken awake hu len wanted paired running
      rw [State.gotHello_eq, mirror, ← hh] at taken
      have frame : (u.modMirror (fun m => { m with hello := some h, peerRows := [] })).outside (Footprint.mirrors.plus [] [.links]) =
          s.outside (Footprint.mirrors.plus [] [.links]) :=
        (State.outside_modMirror _ _ _ (by decide)).trans (State.outside_le (by decide) links)
      generalize hv : u.modMirror (fun m => { m with hello := some h, peerRows := [] }) = v at taken frame ⊢
      have vget : @State.get v = @State.get s := hv ▸ get
      have vmirror : v.mirror = { s.mirror with hello := some h, peerRows := [] } := by
        rw [← hv, ← mirror]
        rfl
      have vtold : v.mirror.hello = some h := by rw [vmirror]
      have vside : v.side = s.side := congrFun (congrFun vget _) _
      refine ⟨fun unsent => ?_, fun unsent may => ?_, fun sent other => ?_, fun sent id side ranges => ?_⟩
      · rw [taken, if_neg (by simp [unsent])]
      · rw [taken, if_neg (by simp [unsent]), State.pairTry_eq, State.mayPair_congr vget (by rw [vmirror]), may]
        rfl
      · have vsent : v.mirror.helloSent = true := by rw [vmirror]; exact sent
        rw [if_pos sent, State.evalHello_eq _ vtold, vsent, if_neg (by decide), vside, vget, if_pos other] at taken
        obtain ⟨state, again, none⟩ := State.pairFails_effect v []
        exact ⟨_, taken, state, again, none, State.changesOnly_after _ _ ((State.frame_pairFails _ _ (by decide)).trans frame)⟩
      · have vsent : v.mirror.helloSent = true := by rw [vmirror]; exact sent
        rw [if_pos sent, State.evalHello_eq _ vtold, vsent, if_neg (by decide), vside, vget,
          if_neg (by simp [id, side]), if_pos (by rw [vmirror]; exact ranges)] at taken
        exact taken
  · have links : u.outside ⟨[], [.links]⟩ = s.outside ⟨[], [.links]⟩ := hu ▸ State.links_consume _ _ _
    have mirror := State.mirror_of_outside links (by decide)
    have get := State.get_eq_of_outside links
    have taken := exec_rangeDesc_taken (row := row) (base := base) (n := n) awake reached hu
    rw [← hr] at taken
    have frame : (u.modMirror (fun m => { m with peerRows := rows })).outside (Footprint.mirrors.plus [] [.links]) =
        s.outside (Footprint.mirrors.plus [] [.links]) :=
      (State.outside_modMirror _ _ _ (by decide)).trans (State.outside_le (by decide) links)
    generalize hv : u.modMirror (fun m => { m with peerRows := rows }) = v at taken frame ⊢
    have vget : @State.get v = @State.get s := hv ▸ get
    have vmirror : v.mirror = { s.mirror with peerRows := rows } := by
      rw [← hv, ← mirror]
      rfl
    refine ⟨fun early => ?_, fun h told sent id side => ?_⟩
    · rw [taken]
      refine congrArg (fun x => Host.Outcome.next (s.after x)) ?_
      cases told : v.mirror.hello with
      | none => exact State.evalHello_none _ told
      | some k =>
        rw [State.evalHello_eq _ told, vmirror]
        refine if_pos ?_
        rw [vmirror] at told
        obtain early | early := early
        · rw [early] at told
          exact absurd told (by simp)
        · simp [early]
    · have vtold : v.mirror.hello = some h := by rw [vmirror]; exact told
      have vsent : v.mirror.helloSent = true := by rw [vmirror]; exact sent
      have vrows : v.mirror.peerRows = rows := by rw [vmirror]
      have seg : v.segments = s.segments := congrFun (congrFun vget _) _
      have vlen : v.rowLen = s.rowLen := funext fun k => congrFun (congrFun vget _) _
      have vbase : v.rowBase = s.rowBase := funext fun k => congrFun (congrFun vget _) _
      have vside : v.side = s.side := congrFun (congrFun vget _) _
      rw [State.evalHello_eq _ vtold, vsent, if_neg (by decide), vside, vget, if_neg (by simp [id, side]), vrows, seg] at taken
      have agrees (k : Nat) := State.rowAgrees_iff (s := v) (lim := min s.segments h.segments) (r := k)
      simp only [vrows, vlen, vbase] at agrees
      refine ⟨fun more => ?_, fun all differ => ?_, fun all agree => ?_⟩
      · rw [if_pos more] at taken
        exact taken
      · rw [if_neg (Nat.not_lt.mpr all), if_pos] at taken
        · obtain ⟨state, again, none⟩ := State.pairFails_effect v []
          exact ⟨_, taken, state, none, State.changesOnly_after _ _ ((State.frame_pairFails _ _ (by decide)).trans frame)⟩
        · obtain ⟨k, lt, differs⟩ := differ
          have no : v.rowAgrees (min s.segments h.segments) k = false := by
            rw [Bool.eq_false_iff, Ne, agrees k]
            rintro (⟨none, len⟩ | ⟨x, found, len, at_⟩)
            · obtain ⟨_, held⟩ | ⟨y, found, _⟩ := differs
              · exact held len
              · rw [none] at found
                exact absurd found (by simp)
            · obtain ⟨none, _⟩ | ⟨y, found', wrong⟩ := differs
              · rw [none] at found
                exact absurd found (by simp)
              · obtain rfl : x = y := Option.some.inj (found.symm.trans found')
                obtain wrong | ⟨held, wrong⟩ := wrong
                · exact wrong len
                · obtain zero | ⟨base, inside⟩ := at_
                  · exact held zero
                  · exact wrong.elim (fun w => w base) (fun w => absurd inside (Nat.not_le.mpr w))
          simp only [Bool.not_eq_true', List.all_eq_false]
          exact ⟨k, List.mem_range.mpr lt, by simp [no]⟩
      · rw [if_neg (Nat.not_lt.mpr all), if_neg] at taken
        · have dispute (k : Nat) := State.mem_rowsDisputed (s := v) (h := h) (k := k)
          rw [vlen, vside, vget] at dispute
          refine ⟨fun ⟨k, disputed⟩ => ?_, fun settled => ?_⟩
          · rw [if_pos] at taken
            · obtain ⟨state, again, found⟩ := State.pairFails_effect v (v.rowsDisputed h)
              refine ⟨_, taken, state, fun k => ?_, State.changesOnly_after _ _ ((State.frame_pairFails _ _ (by decide)).trans frame)⟩
              exact (iff_of_eq (congrArg (k ∈ ·) found)).trans (dispute k)
            · simp only [Bool.not_eq_true', List.isEmpty_eq_false_iff]
              exact List.ne_nil_of_mem ((dispute k).mpr disputed)
          · rw [if_neg] at taken
            · obtain ⟨state, rows, retain, tx, done, rx, none, unsent⟩ := State.pairStarts_effect v h
              have only := (State.frame_pairStarts v (f := Footprint.mirrors.plus [] [.links]) h (by decide)).trans frame
              rw [vlen, vside, vget] at rows
              generalize v.pairStarts h = t at taken state rows retain tx done rx none unsent only
              exact ⟨_, taken, state, rows, retain, tx, done, rx, none, unsent, State.changesOnly_after _ _ only⟩
            · simp only [Bool.not_eq_true', Bool.not_eq_false, List.isEmpty_iff]
              refine List.eq_nil_iff_forall_not_mem.mpr fun k hk => ?_
              obtain ⟨lt, held, gen, own⟩ := (dispute k).mp hk
              exact own (settled k lt held gen)
        · simp only [Bool.not_eq_true', Bool.not_eq_false, List.all_eq_true]
          exact fun k hk => (agrees k).mpr (agree k (List.mem_range.mp hk))
  · rw [exec_rangeDesc_awake pl row base n awake, State.untilOpen_restarting]
    · exact (State.image_of_outside (State.links_consume _ _ _) (by decide)).trans image
    · exact (congrArg (· == 1) (State.get_of_outside (State.links_consume s _ _) _ _ (by decide))).trans closed

end Sys2Proof.Machine

namespace Sys2Proof.Machine

/-! ### PAIR, UNPAIR and ADOPT_PARTNER (R128, R130, R149) -/

section
variable (s : State)

/-- PAIR makes an unpaired engine look for a partner. -/
def State.pairWanted (s : State) : State :=
  let s := s.modMirror (fun m => { m with wanted := true })
  if s.mirrorState = .unpaired ∨ s.mirrorState = .mismatch then
    (s.modMirror (fun m => { m with helloSent := false })).setMirror .connecting
  else s

theorem State.mirrorCommand_pair : s.mirrorCommand 1 = s.pairWanted.pairTry := rfl

theorem State.mirrorCommand_unpair : s.mirrorCommand 2 = ((s.leaseRelease 2).setMirror .unpaired).modMirror
    (fun m => { m with wanted := false, helloSent := false, hello := none }) := rfl

theorem State.frame_pairWanted {f : Footprint} (h : Footprint.mirrors.le f = true) : s.pairWanted.outside f = s.outside f :=
  State.outside_le h (State.outside_ite _ ((State.frame_setMirror _ _ (by decide)).trans ((State.outside_modMirror _ _ _ (by decide)).trans
    (State.outside_modMirror _ _ _ (by decide)))) (State.outside_modMirror _ _ _ (by decide)))

theorem State.frame_mirrorCommand_pair {f : Footprint} (h : Footprint.mirrors.le f = true) :
    (s.mirrorCommand 1).outside f = s.outside f :=
  State.outside_le h ((State.frame_pairTry _ (by decide)).trans (State.frame_pairWanted _ (by decide)))

theorem State.frame_mirrorCommand_unpair {f : Footprint} (h : Footprint.mirrors.le f = true) :
    (s.mirrorCommand 2).outside f = s.outside f :=
  State.outside_le h ((State.outside_modMirror _ _ _ (by decide)).trans ((State.frame_setMirror _ _ (by decide)).trans
    (State.frame_sendLease _ _ _ _ _ _ _ (by decide))))

/-- A row that takes the partner's claim. -/
def State.rowAdopted (s : State) (h : Hello) (r : Nat) : State :=
  ((s.set Reg.rangeGeneration r (h.claim s.side r).1).set Reg.rangeOwner r (h.claim s.side r).2).setRow r 2

theorem State.frame_setRow {f : Footprint} (r v : Nat) (h : (Footprint.durable.plus [Reg.rangeState] []).le f = true) :
    (s.setRow r v).outside f = s.outside f := by
  refine State.outside_le h ?_
  have setting : (s.set Reg.rangeState r v).outside (Footprint.durable.plus [Reg.rangeState] []) =
      s.outside (Footprint.durable.plus [Reg.rangeState] []) := State.outside_set _ _ _ _ _ (by decide)
  exact State.outside_ite _ ((State.outside_each _ _ _ _ (fun s n => State.frame_ctxFails s _ _ _ (by decide))).trans setting) setting

theorem State.adoptPartner_eq {h : Hello} (told : s.mirror.hello = some h) : s.adoptPartner =
    ((s.each s.mirror.conflicts (fun s r => s.rowAdopted h r)).modMirror
      (fun m => { m with conflicts := [], helloSent := false })).pairTry := by
  unfold State.adoptPartner
  rw [told]
  rfl

theorem State.adoptPartner_none (told : s.mirror.hello = none) : s.adoptPartner =
    (s.modMirror (fun m => { m with conflicts := [], helloSent := false })).pairTry := by
  unfold State.adoptPartner
  rw [told]

theorem State.govActive_of_outside {s t : State} {f : Footprint} (h : t.outside f = s.outside f)
    (n : Reg.imageState ∉ f.regs ∧ Reg.windowOpen ∉ f.regs) : t.govActive = s.govActive := by
  unfold State.govActive State.windowsOpen
  rw [State.image_of_outside h n.1, State.get_of_outside h _ _ n.2]

theorem State.anyPartnerUp_of_outside {s t : State} {f : Footprint} (h : t.outside f = s.outside f)
    (n : Reg.linkState ∉ f.regs) : t.anyPartnerUp = s.anyPartnerUp := by
  simp only [State.anyPartnerUp, State.partnerUp, State.linkIsUp, State.linkState_of_outside h n]

/-- An engine in UNPAIRED or MISMATCH is CONNECTING, and wants a partner. -/
theorem State.pairWanted_effect (was : s.mirrorState = .unpaired ∨ s.mirrorState = .mismatch) :
    s.pairWanted.mirrorState = .connecting ∧
    s.pairWanted.mirror = { s.mirror with wanted := true, helloSent := false, rowNext := s.pairWanted.mirror.rowNext } ∧
    s.pairWanted.outside (Footprint.event.plus [Reg.mirrorState] [.mirror]) =
      s.outside (Footprint.event.plus [Reg.mirrorState] [.mirror]) := by
  have entered : s.pairWanted = ((s.modMirror (fun m => { m with wanted := true })).modMirror
      (fun m => { m with helloSent := false })).setMirror .connecting := if_pos was
  have other : ((s.modMirror (fun m => { m with wanted := true })).modMirror
      (fun m => { m with helloSent := false })).mirrorState ≠ .connecting := by
    intro same
    exact absurd (same.symm.trans (show _ = s.mirrorState from rfl)) (by obtain h | h := was <;> simp [h])
  rw [entered]
  refine ⟨State.mirrorState_setMirror _ _, State.setMirror_joins _ (by simp) (by simp), ?_⟩
  rw [State.setMirror_eq, if_neg other]
  refine (State.frame_mirrorTold _ _ _ (by decide)).trans ?_
  rw [State.mirrorEnters, if_neg (by simp), State.outside_set _ _ _ _ _ (by decide), State.outside_modMirror _ _ _ (by decide),
    State.outside_modMirror _ _ _ (by decide)]

/-- PAIR from UNPAIRED or MISMATCH with no hello at hand: this side's own leaves where it may. -/
theorem State.mirrorCommand_pair_effect (was : s.mirrorState = .unpaired ∨ s.mirrorState = .mismatch)
    (none : s.mirror.hello = none) (id : s.get Reg.pairId ≠ 0) :
    (s.mirrorCommand 1).mirrorState = .connecting ∧ (s.mirrorCommand 1).mirror.wanted = true ∧
    (s.mirrorCommand 1).mirror.helloSent = (s.govActive && s.anyPartnerUp) ∧
    (s.mirrorCommand 1).mirror.retain = s.mirror.retain ∧
    (s.mirrorCommand 1).outside (Footprint.message.plus [Reg.mirrorState] [.mirror]) =
      s.outside (Footprint.message.plus [Reg.mirrorState] [.mirror]) := by
  obtain ⟨state, mirror, frame⟩ := State.pairWanted_effect s was
  have may : s.pairWanted.mayPair = (s.govActive && s.anyPartnerUp) := by
    unfold State.mayPair
    rw [mirror, State.get_of_outside frame _ _ (by decide), State.govActive_of_outside frame (by decide),
      State.anyPartnerUp_of_outside frame (by decide), state, bne_iff_ne.mpr id]
    cases s.govActive <;> cases s.anyPartnerUp <;> rfl
  have unsent : s.pairWanted.mirror.helloSent = false := by rw [mirror]
  have noHello : s.pairWanted.mirror.hello = .none := by rw [mirror]; exact none
  have lift := State.outside_le (e := Footprint.event.plus [Reg.mirrorState] [.mirror])
    (f := Footprint.message.plus [Reg.mirrorState] [.mirror]) (by decide) frame
  rw [State.mirrorCommand_pair, State.pairTry_eq, may, unsent]
  by_cases goes : (s.govActive && s.anyPartnerUp) = true
  · rw [if_pos (by rw [goes]; rfl), goes, State.evalHello_none _ (by rw [State.mirror_helloGoes]; exact noHello)]
    refine ⟨(State.mirrorState_of_outside (State.frame_helloGoes (f := Footprint.message.plus [] [.mirror]) _ (by decide))
      (by decide)).trans state, ?_, ?_, ?_, (State.frame_helloGoes _ (by decide)).trans lift⟩
    · rw [State.mirror_helloGoes, mirror]
    · rw [State.mirror_helloGoes]
    · rw [State.mirror_helloGoes, mirror]
  · rw [if_neg (by rw [Bool.eq_false_iff.mpr goes]; decide), Bool.eq_false_iff.mpr goes]
    refine ⟨state, ?_, unsent, ?_, lift⟩
    · rw [mirror]
    · rw [mirror]

/-- UNPAIR: no partner, and what was retained is marked. -/
theorem State.mirrorCommand_unpair_effect : (s.mirrorCommand 2).mirrorState = .unpaired ∧
    (s.mirrorCommand 2).mirror.wanted = false ∧ (s.mirrorCommand 2).mirror.helloSent = false ∧
    (s.mirrorCommand 2).mirror.hello = none ∧
    (s.mirrorState ≠ .unpaired → (s.mirrorCommand 2).mirror.retain = [] ∧
      ∀ c ∈ s.mirror.retain, (s.mirrorCommand 2).mirror.map.mem c.seg = true) ∧
    (∀ g, s.mirror.map.mem g = true → (s.mirrorCommand 2).mirror.map.mem g = true) := by
  have sent : (s.leaseRelease 2).outside .event = s.outside .event := State.event_sendLease s _ _ _ _ _ _
  have mirror := State.mirror_of_outside sent (by decide)
  have state := State.mirrorState_of_outside sent (by decide)
  have left : (s.mirrorCommand 2).mirror = { ((s.leaseRelease 2).setMirror .unpaired).mirror with
      wanted := false, helloSent := false, hello := none } := rfl
  have unpaired : (s.mirrorCommand 2).mirrorState = .unpaired := State.mirrorState_setMirror (s.leaseRelease 2) .unpaired
  rw [left]
  refine ⟨unpaired, rfl, rfl, rfl, fun was => ?_, fun g marked => ?_⟩
  · have parts := State.setMirror_parts (s.leaseRelease 2) (v := .unpaired) (by rwa [state]) (.inr (.inr (.inr rfl)))
    rw [mirror] at parts
    rw [parts]
    exact ⟨rfl, fun c hc => Mirror.mem_allMarked (.inr ⟨c, hc, rfl⟩)⟩
  · by_cases was : s.mirrorState = .unpaired
    · rw [State.setMirror_eq, if_pos (state.trans was), mirror]
      exact marked
    · have parts := State.setMirror_parts (s.leaseRelease 2) (v := .unpaired) (by rwa [state]) (.inr (.inr (.inr rfl)))
      rw [mirror] at parts
      rw [parts]
      exact Mirror.mem_allMarked (.inl marked)

theorem State.frame_rowAdopted {f : Footprint} (h : Hello) (r : Nat)
    (l : (Footprint.durable.plus [Reg.rangeState, Reg.rangeGeneration, Reg.rangeOwner] []).le f = true) :
    (s.rowAdopted h r).outside f = s.outside f :=
  State.outside_le l ((State.frame_setRow _ _ _ (by decide)).trans ((State.outside_set _ _ _ _ _ (by decide)).trans
    (State.outside_set _ _ _ _ _ (by decide))))

/-- A row's own state, whatever its contexts lose. -/
theorem State.rowState_setRow {r k v : Nat} (hr : r < 16) (hk : k < 16) :
    (s.setRow r v).rowState k = if r = k then v else s.rowState k := by
  have left : (s.setRow r v).rowState k = (s.set Reg.rangeState r v).rowState k :=
    State.keeps_ite (fun x => x.rowState k) (State.get_of_outside (f := .durable)
      (State.outside_each _ _ _ _ (fun s n => State.frame_ctxFails s _ _ _ (by decide))) _ _ (by decide)) rfl
  exact left.trans (State.get_setRow s hr hk rfl)

theorem State.rowAdopted_row (h : Hello) {r k : Nat} (hr : r < 16) (hk : k < 16) :
    (s.rowAdopted h r).get Reg.rangeGeneration k = (if r = k then (h.claim s.side r).1 else s.get Reg.rangeGeneration k) ∧
    (s.rowAdopted h r).get Reg.rangeOwner k = (if r = k then (h.claim s.side r).2 else s.get Reg.rangeOwner k) ∧
    (s.rowAdopted h r).rowState k = (if r = k then 2 else s.rowState k) := by
  have frame (x : State) : (x.setRow r 2).outside (Footprint.durable.plus [Reg.rangeState] []) =
      x.outside (Footprint.durable.plus [Reg.rangeState] []) := State.frame_setRow x r 2 (by decide)
  refine ⟨?_, ?_, ?_⟩
  · rw [State.rowAdopted, State.get_of_outside (frame _) _ _ (by decide), State.get_set_register _ _ _ _ (by decide),
      State.get_setRow _ hr hk rfl]
  · rw [State.rowAdopted, State.get_of_outside (frame _) _ _ (by decide), State.get_setRow _ hr hk rfl,
      State.get_set_register _ _ _ _ (by decide)]
  · rw [State.rowAdopted, State.rowState_setRow _ hr hk]
    refine if_congr Iff.rfl rfl ?_
    exact (State.get_set_register _ _ _ _ (by decide)).trans (State.get_set_register _ _ _ _ (by decide))

theorem State.each_rowAdopted (h : Hello) {k : Nat} (hk : k < 16) (l : List Nat) (small : ∀ r ∈ l, r < 16) (s : State) :
    (s.each l (fun s r => s.rowAdopted h r)).get Reg.rangeGeneration k =
      (if k ∈ l then (h.claim s.side k).1 else s.get Reg.rangeGeneration k) ∧
    (s.each l (fun s r => s.rowAdopted h r)).get Reg.rangeOwner k =
      (if k ∈ l then (h.claim s.side k).2 else s.get Reg.rangeOwner k) ∧
    (s.each l (fun s r => s.rowAdopted h r)).rowState k = (if k ∈ l then 2 else s.rowState k) := by
  induction l generalizing s with
  | nil => simp
  | cons r l ih =>
    have side : (s.rowAdopted h r).side = s.side := State.get_of_outside
      (State.frame_rowAdopted s h r (f := Footprint.durable.plus [Reg.rangeState, Reg.rangeGeneration, Reg.rangeOwner] []) (by decide))
      _ _ (by decide)
    obtain ⟨gen, own, state⟩ := State.rowAdopted_row s h (small r List.mem_cons_self) hk
    obtain ⟨gens, owns, states⟩ := ih (fun x hx => small x (List.mem_cons_of_mem _ hx)) (s.rowAdopted h r)
    rw [State.each_cons, gens, owns, states, gen, own, state, side]
    by_cases same : r = k
    · subst same
      simp
    · have other : k ≠ r := fun e => same e.symm
      simp [same, other]

theorem State.frame_adoptPartner : s.adoptPartner.outside (Footprint.mirrors.plus [Reg.rangeState] []) =
    s.outside (Footprint.mirrors.plus [Reg.rangeState] []) := by
  cases told : s.mirror.hello with
  | none =>
    rw [State.adoptPartner_none s told, State.frame_pairTry _ (by decide)]
    exact State.outside_modMirror _ _ _ (by decide)
  | some h =>
    rw [State.adoptPartner_eq s told, State.frame_pairTry _ (by decide), State.outside_modMirror _ _ _ (by decide)]
    exact State.outside_each _ _ _ _ (fun s r => State.frame_rowAdopted s h r (by decide))

/-- An attempt to pair keeps a row that no claim of the hello outbids. -/
theorem State.pairTry_kept {h : Hello} (told : s.mirror.hello = some h) {k : Nat} (hk : k < 16)
    (ge : (h.claim s.side k).1 ≤ s.get Reg.rangeGeneration k) :
    s.pairTry.get Reg.rangeGeneration k = s.get Reg.rangeGeneration k ∧
    s.pairTry.get Reg.rangeOwner k = s.get Reg.rangeOwner k := by
  have frame := State.frame_helloGoes s (f := Footprint.message.plus [] [.mirror]) (by decide)
  rw [State.pairTry_eq]
  split
  · have kept := State.evalHello_kept s.helloGoes (by rw [State.mirror_helloGoes]; exact told) hk
      (by rwa [State.side, State.get_of_outside frame _ _ (by decide), State.get_of_outside frame _ _ (by decide)])
    rw [State.get_of_outside frame _ _ (by decide), State.get_of_outside frame _ _ (by decide)] at kept
    exact kept
  · exact ⟨rfl, rfl⟩

/-- ADOPT_PARTNER takes the claims of the conflicting rows. -/
theorem State.adoptPartner_effect {h : Hello} (told : s.mirror.hello = some h) (small : ∀ k ∈ s.mirror.conflicts, k < 16) :
    (∀ k ∈ s.mirror.conflicts, s.adoptPartner.get Reg.rangeGeneration k = (h.claim s.side k).1 ∧
      s.adoptPartner.get Reg.rangeOwner k = (h.claim s.side k).2 ∧ s.adoptPartner.rowState k = 2) ∧
    (∀ k, k < 16 → k ∉ s.mirror.conflicts → s.adoptPartner.rowState k = s.rowState k) := by
  have rows {k : Nat} (hk : k < 16) := State.each_rowAdopted h hk s.mirror.conflicts small s
  have side : (s.each s.mirror.conflicts (fun s r => s.rowAdopted h r)).side = s.side := State.get_of_outside
    (f := Footprint.durable.plus [Reg.rangeState, Reg.rangeGeneration, Reg.rangeOwner] [])
    (State.outside_each _ _ _ _ (fun s r => State.frame_rowAdopted s h r (by decide))) _ _ (by decide)
  have mirror : (s.each s.mirror.conflicts (fun s r => s.rowAdopted h r)).mirror = s.mirror := State.mirror_of_outside
    (f := Footprint.durable.plus [Reg.rangeState, Reg.rangeGeneration, Reg.rangeOwner] [])
    (State.outside_each _ _ _ _ (fun s r => State.frame_rowAdopted s h r (by decide))) (by decide)
  rw [State.adoptPartner_eq s told]
  generalize s.each s.mirror.conflicts (fun s r => s.rowAdopted h r) = a at rows side mirror
  have states (k : Nat) : (a.modMirror (fun m => { m with conflicts := [], helloSent := false })).pairTry.rowState k = a.rowState k :=
    State.get_of_outside (f := .mirrors) (State.frame_pairTry _ (by decide)) _ _ (by decide)
  refine ⟨fun k hk => ?_, fun k hk other => ?_⟩
  · obtain ⟨gen, own, state⟩ := rows (small k hk)
    rw [if_pos hk] at gen own state
    obtain ⟨gen', own'⟩ := State.pairTry_kept (a.modMirror (fun m => { m with conflicts := [], helloSent := false })) (h := h)
      ((congrArg Mirror.hello mirror).trans told) (small k hk) (Nat.le_of_eq ((congrArg (fun x => (h.claim x k).1) side).trans gen.symm))
    exact ⟨gen'.trans gen, own'.trans own, (states k).trans state⟩
  · have state := (rows hk).2.2
    rw [if_neg other] at state
    exact (states k).trans state

end

section
variable {s : State} {p : Path}

/-- The frame of a command, from the state before its request was taken, with its answer. -/
theorem State.changesOnly_answer {v : State} {f : Footprint} {a : Abort} (h : v.outside f = (s.taken p).outside f)
    (l : Footprint.request.le f = true) : s.changesOnly (s.after (v.emit (.lexAnswer p a.code []))) f := by
  refine State.changesOnly_after _ _ ?_
  have out : Part.outbox ∈ f.parts := by
    simp only [Footprint.le, Bool.and_eq_true, List.all_eq_true, List.contains_eq_mem, decide_eq_true_eq] at l
    exact l.2 _ (by decide)
  exact (State.outside_emit _ _ _ out).trans (h.trans (State.outside_le l (State.request_taken s p)))

theorem exec_pair_allowed (h : s.allows (.pair p) = true) : s.mirrorLegal 1 = true ∧
    exec (.pair p) s = .next (s.after (((s.taken p).mirrorCommand 1).emit (.lexAnswer p 0 []))) := by
  rw [exec_pair, execPair]
  exact State.mirror_ok (k := 1) rfl h ((State.config_of_outside (f := .mirrors)
    (State.frame_mirrorCommand_pair _ (by decide)) (by decide)).trans (State.config_taken s p h))

theorem exec_unpair_allowed (h : s.allows (.unpair p) = true) : s.mirrorLegal 2 = true ∧
    exec (.unpair p) s = .next (s.after (((s.taken p).mirrorCommand 2).emit (.lexAnswer p 0 []))) := by
  rw [exec_unpair, execUnpair]
  exact State.mirror_ok (k := 2) rfl h ((State.config_of_outside (f := .mirrors)
    (State.frame_mirrorCommand_unpair _ (by decide)) (by decide)).trans (State.config_taken s p h))

theorem exec_adoptPartner_allowed {r : Fin 16} (h : s.allows (.adoptPartner p r) = true) : s.rangeLegal r 3 = true ∧
    exec (.adoptPartner p r) s = .next (s.after ((s.taken p).adoptPartner.emit (.lexAnswer p 0 []))) := by
  have asks : requestOf (.adoptPartner p r) = some ⟨⟨p, Reg.rangeCommand, r, false⟩, .plain, [3]⟩ := rfl
  refine ⟨State.range_legal asks h, ?_⟩
  rw [exec_adoptPartner, execAdoptPartner]
  exact State.direct_ok s asks h Reg.lookup_rangeCommand (State.apply_rangeCommand _ _ _ _ _ _)
    ((State.config_of_outside (State.frame_adoptPartner _) (by decide)).trans (State.config_taken s p h))

theorem State.mirror_taken : (s.taken p).mirror = s.mirror := State.mirror_of_outside (State.request_taken s p) (by decide)

end

/-- Settles O25: the engine that looks for a partner, the one that gives it up, and the rows that take the partner's
claims. -/
theorem pairsAreCommanded : Obligations.PairsAreCommanded := by
  refine ⟨fun p s u hu => ⟨fun h => ?_, fun h => ?_⟩, fun p r s h => ?_⟩
  · obtain ⟨legal, effect⟩ := exec_pair_allowed h
    simp only [State.mirrorLegal, Bool.and_eq_true, Bool.or_eq_true, beq_iff_eq, bne_iff_ne, or_assoc] at legal
    refine ⟨legal.1, legal.2, hu ▸ effect, fun was none => ?_⟩
    have id : (s.taken p).get Reg.pairId ≠ 0 := by
      rw [State.get_taken _ _ _ _ (by decide)]
      exact legal.2
    obtain ⟨state, wanted, sent, retain, frame⟩ := State.mirrorCommand_pair_effect (s.taken p)
      (by rwa [State.mirrorState_taken]) (by rw [State.mirror_taken]; exact none) id
    rw [State.govActive_of_outside (State.request_taken s p) (by decide),
      State.anyPartnerUp_of_outside (State.request_taken s p) (by decide)] at sent
    rw [State.mirror_taken] at retain
    have only := State.changesOnly_answer (s := s) (p := p) (a := .ok) frame (by decide)
    generalize (s.taken p).mirrorCommand 1 = t at effect state wanted sent retain only
    exact ⟨_, effect, State.answered_after s _ p .ok, state, wanted, sent, retain, only⟩
  · obtain ⟨legal, effect⟩ := exec_unpair_allowed h
    simp only [State.mirrorLegal, Bool.or_eq_true, beq_iff_eq, or_assoc] at legal
    obtain ⟨state, wanted, sent, none, retain, map⟩ := State.mirrorCommand_unpair_effect (s.taken p)
    rw [State.mirrorState_taken, State.mirror_taken] at retain
    rw [State.mirror_taken] at map
    have only := State.changesOnly_answer (s := s) (p := p) (a := .ok) (f := .mirrors)
      (State.frame_mirrorCommand_unpair (s.taken p) (by decide)) (by decide)
    generalize (s.taken p).mirrorCommand 2 = t at effect state wanted sent none retain map only
    exact ⟨legal, _, effect, State.answered_after s _ p .ok, state, wanted, sent, none, retain, map, only⟩
  · obtain ⟨legal, effect⟩ := exec_adoptPartner_allowed h
    refine ⟨eq_of_beq legal, effect, fun k told small => ?_⟩
    obtain ⟨claims, others⟩ := State.adoptPartner_effect (s.taken p) (h := k) (by rw [State.mirror_taken]; exact told)
      (by rw [State.mirror_taken]; exact small)
    rw [State.mirror_taken, State.side, State.get_taken _ _ _ _ (by decide)] at claims
    rw [State.mirror_taken] at others
    have only := State.changesOnly_answer (s := s) (p := p) (a := .ok) (State.frame_adoptPartner (s.taken p)) (by decide)
    have same (r : Nat) : (s.taken p).rowState r = s.rowState r := State.get_taken _ _ _ _ (by decide)
    generalize (s.taken p).adoptPartner = t at effect claims others only
    exact ⟨_, effect, State.answered_after s _ p .ok, claims, fun r lt other => (others r lt other).trans (same r), only⟩

end Sys2Proof.Machine

namespace Sys2Proof.Machine

/-! ### What resync leaves of the copies (R140) -/

/-- The mirror engine but for resync's own progress and the rows to come. -/
def Mirror.still (m : Mirror) : Mirror := { m.idle with rowNext := [] }

theorem Mirror.of_still {m n : Mirror} (h : m.still = n.still) :
    m.retain = n.retain ∧ m.map = n.map ∧ m.peerMap = n.peerMap :=
  ⟨congrArg (fun x => x.retain) h, congrArg (fun x => x.map) h, congrArg (fun x => x.peerMap) h⟩

theorem Mirror.still_rowNext {m n : Mirror} {r : Tbl Nat} (h : m = { n with rowNext := r }) :
    m.still = n.still ∧ m.rcopies = n.rcopies := by
  subst h
  exact ⟨rfl, rfl⟩

section
variable (s : State)

theorem State.still_resyncChooses : s.resyncChooses.mirror.still = s.mirror.still :=
  congrArg (fun m : Mirror => ({ m with rowNext := [] } : Mirror)) (State.idle_resyncChooses s)

theorem State.rcopies_resyncChooses (h : s.mirror.resyncMarked = false) : s.resyncChooses.mirror.rcopies = s.mirror.rcopies := by
  unfold State.resyncChooses
  simp only [h, Bool.false_eq_true, if_false]
  exact State.keeps_ite (fun x => x.mirror.rcopies) rfl rfl

/-- Where no segment is under way, the next marked one is. -/
theorem State.resyncSeg_resyncChooses (h : s.mirror.resyncSeg = none) : s.resyncChooses.mirror.resyncSeg = s.nextMarked := by
  unfold State.resyncChooses
  by_cases marked : s.mirror.resyncMarked = true
  · simp only [marked, if_true]
    rw [if_neg (by simp [h])]
    rfl
  · simp only [marked, Bool.false_eq_true, if_false]
    rw [if_neg (by simp [h])]
    rfl

theorem State.still_setMirror_paired : (s.setMirror .paired).mirror.still = s.mirror.still ∧
    (s.setMirror .paired).mirror.rcopies = s.mirror.rcopies :=
  Mirror.still_rowNext (State.setMirror_joins s (by simp) (by simp))

theorem State.rcopies_resyncReads (g : Nat) : (s.resyncReads g).mirror.rcopies = s.mirror.rcopies :=
  State.keeps_ite (fun x => x.mirror.rcopies) ((congrArg Mirror.rcopies
    (State.mirror_of_outside (f := .entries)
      (State.frame_enqueueImage (f := .entries) _ _ _ _ _ _ _ _ _ (by decide)) (by decide))).trans rfl) rfl

theorem State.still_resyncGoes : s.resyncGoes.mirror.still = s.mirror.still ∧ s.resyncGoes.mirror.rcopies = s.mirror.rcopies := by
  unfold State.resyncGoes
  split
  · split
    · exact State.still_setMirror_paired s
    · exact ⟨rfl, rfl⟩
  · exact ⟨congrArg (fun m : Mirror => ({ m with rowNext := [] } : Mirror)) (State.idle_resyncReads s _), State.rcopies_resyncReads s _⟩

theorem State.still_resyncPump : s.resyncPump.mirror.still = s.mirror.still ∧
    (s.mirror.resyncMarked = false → s.resyncPump.mirror.rcopies = s.mirror.rcopies) := by
  rw [State.resyncPump_eq]
  split
  · exact ⟨rfl, fun _ => rfl⟩
  · obtain ⟨still, copies⟩ := State.still_resyncGoes s.resyncChooses
    exact ⟨still.trans (State.still_resyncChooses s), fun h => copies.trans (State.rcopies_resyncChooses s h)⟩

/-- A mark in a row keeps RESYNC. -/
theorem State.mirrorState_resyncPump_marked (h : s.mapsClear = false) : s.resyncPump.mirrorState = s.mirrorState :=
  State.mirrorState_of_outside (State.resyncPump_marked s h).1 (by decide)

/-- Resync with no mark left on either side ends in PAIRED. -/
theorem State.resyncPump_ends (state : s.mirrorState = .resync) (read : s.mirror.resyncRead = false)
    (up : s.anyPartnerUp = true) (running : s.cutPassed = false) (seg : s.mirror.resyncSeg = none) (map : s.mirror.map = [])
    (peer : s.mirror.peerMap = []) : s.resyncPump.mirrorState = .paired := by
  have chosen := State.frame_resyncChooses s (f := ⟨[], [.mirror]⟩) (by decide)
  have idle := State.idle_resyncChooses s
  have none : s.resyncChooses.mirror.resyncSeg = .none := by
    rw [State.resyncSeg_resyncChooses s seg, State.nextMarked, map]
    simp [SegSet.within, bestOf]
  have clear : s.resyncChooses.mapsClear = true := by
    rw [State.mapsClear_of_outside chosen (by decide) (Mirror.maps_of_idle idle).1 (Mirror.maps_of_idle idle).2]
    simp [State.mapsClear, State.rowMarked, map, peer, SegSet.cardIn]
  rw [State.resyncPump_eq, if_neg (by simp [state, read, up, running])]
  unfold State.resyncGoes
  rw [none]
  exact (congrArg State.mirrorState (if_pos clear)).trans (State.mirrorState_setMirror _ _)

/-! ### Copies acknowledged, refused and late (R137) -/

theorem State.mirror_ackCopies (seq : Nat) : (s.ackCopies seq).mirror =
    { s.mirror with retain := s.mirror.retain.filter (fun c => !(c.seq == seq || below32 c.seq seq)) } :=
  State.keeps_each State.mirror _ _ _ (fun s c =>
    State.mirror_of_outside (f := .durable) (State.frame_copyAcked s _ _ (by decide)) (by decide))

theorem State.mirrorState_ackCopies (seq : Nat) : (s.ackCopies seq).mirrorState = s.mirrorState :=
  State.mirrorState_of_outside (f := Footprint.durable.plus [] [.mirror]) (State.frame_ackCopies s seq (by decide)) (by decide)

/-- A refused copy, with what its refusal says of pairing and of resync. -/
def State.mnakHeard (s : State) (reason seq ia : Nat) : State :=
  let s := if reason = 3 ∧ s.sendsCopies = false ∧ s.mirrorState ≠ .interrupted then
      s.modMirror (fun m => { m with helloSent := false }) else s
  if s.mirror.rcopies.any (fun x => x.1 == seq && x.2.1 == segmentOf ia) then
    s.modMirror (fun m => { m with resyncMarked := true }) else s

/-- The copies of a sequence at an address are resolved by marking. -/
def State.copyRefused (s : State) (seq ia : Nat) : State :=
  (s.markCopies (fun c => c.seq == seq && c.ia == ia)).resyncPump

theorem State.gotMnak_eq (reason seq ia : Nat) : s.gotMnak reason seq ia =
    ((if (reason = 1 ∨ reason = 2) ∧ s.mirrorState ≠ .unpaired ∧ s.cutPassed = false then s.setMirror .mismatch
      else s).mnakHeard reason seq ia).copyRefused seq ia := rfl

theorem State.frame_mnakHeard {f : Footprint} (reason seq ia : Nat) (h : Part.mirror ∈ f.parts) :
    (s.mnakHeard reason seq ia).outside f = s.outside f := by
  have unsent : (if reason = 3 ∧ s.sendsCopies = false ∧ s.mirrorState ≠ .interrupted then
      s.modMirror (fun m => { m with helloSent := false }) else s).outside f = s.outside f :=
    State.outside_ite _ (State.outside_modMirror _ _ _ h) rfl
  exact State.outside_ite _ ((State.outside_modMirror _ _ _ h).trans unsent) unsent

theorem State.keeps_mnakHeard {β : Type} (φ : Mirror → β) (unsent : ∀ m : Mirror, φ { m with helloSent := false } = φ m)
    (marked : ∀ m : Mirror, φ { m with resyncMarked := true } = φ m) (reason seq ia : Nat) :
    φ (s.mnakHeard reason seq ia).mirror = φ s.mirror := by
  have kept : φ (if reason = 3 ∧ s.sendsCopies = false ∧ s.mirrorState ≠ .interrupted then
      s.modMirror (fun m => { m with helloSent := false }) else s).mirror = φ s.mirror :=
    State.keeps_ite (fun x => φ x.mirror) (unsent _) rfl
  exact State.keeps_ite (fun x => φ x.mirror) ((marked _).trans kept) kept

theorem State.copies_mnakHeard (reason seq ia : Nat) : (s.mnakHeard reason seq ia).mirror.retain = s.mirror.retain ∧
    (s.mnakHeard reason seq ia).mirror.map = s.mirror.map :=
  ⟨State.keeps_mnakHeard s Mirror.retain (fun _ => rfl) (fun _ => rfl) _ _ _,
    State.keeps_mnakHeard s Mirror.map (fun _ => rfl) (fun _ => rfl) _ _ _⟩

/-- The copies picked are gone and marked. -/
theorem State.copies_markCopies (sel : Copy → Bool) :
    (s.markCopies sel).resyncPump.mirror.retain = s.mirror.retain.filter (fun c => !(sel c)) ∧
    (∀ c ∈ s.mirror.retain, sel c = true → (s.markCopies sel).resyncPump.mirror.map.mem c.seg = true) := by
  obtain ⟨retain, map, _⟩ := Mirror.of_still (State.still_resyncPump (s.markCopies sel)).1
  rw [retain, map, State.mirror_markCopies]
  exact ⟨rfl, fun c hc picked => SegSet.mem_marks (.inr ⟨c, List.mem_filter.mpr ⟨hc, picked⟩, rfl⟩)⟩

/-- A row that holds a marked segment has marks. -/
theorem State.mapsClear_marked {g : Nat} (member : s.mirror.map.mem g = true) (row : (s.rowOf g).isSome = true) :
    s.mapsClear = false := by
  obtain ⟨r, found⟩ := Option.isSome_iff_exists.mp row
  have holds := List.find?_some found
  simp only [Bool.and_eq_true, decide_eq_true_eq] at holds
  have some : 0 < s.rowMarked r := SegSet.cardIn_pos member holds.1 holds.2
  refine Bool.eq_false_iff.mpr fun clear => ?_
  simp only [State.mapsClear, Bool.and_eq_true, List.all_eq_true, beq_iff_eq] at clear
  exact absurd (clear.1 r (List.mem_of_find?_eq_some found)) (by omega)

theorem State.rowOf_of_outside {s t : State} {f : Footprint} (h : t.outside f = s.outside f)
    (n : Reg.rangeBaseSeg ∉ f.regs ∧ Reg.rangeSegments ∉ f.regs) (g : Nat) : t.rowOf g = s.rowOf g := by
  have base (r : Nat) : t.rowBase r = s.rowBase r := State.get_of_outside h _ _ n.1
  have len (r : Nat) : t.rowLen r = s.rowLen r := State.get_of_outside h _ _ n.2
  simp only [State.rowOf, base, len]

/-- A mark in a row takes PAIRED to RESYNC, which stays. -/
theorem State.markCopies_resync {sel : Copy → Bool} {c : Copy} (paired : s.mirrorState = .paired) (hc : c ∈ s.mirror.retain)
    (picked : sel c = true) (row : (s.rowOf c.seg).isSome = true) : (s.markCopies sel).resyncPump.mirrorState = .resync := by
  have member : c ∈ s.mirror.retain.filter sel := List.mem_filter.mpr ⟨hc, picked⟩
  have frame := State.frame_markCopies s (f := Footprint.durable.plus [Reg.mirrorState] [.mirror]) sel (by decide)
  rw [State.mirrorState_resyncPump_marked]
  · rw [State.mirrorState_markCopies, if_pos ⟨paired, List.ne_nil_of_mem member⟩]
  · refine State.mapsClear_marked _ (g := c.seg) ?_ (by rwa [State.rowOf_of_outside frame (by decide)])
    rw [State.mirror_markCopies]
    exact SegSet.mem_marks (.inr ⟨c, member, rfl⟩)

theorem State.frame_copyRefused {f : Footprint} (seq ia : Nat) (h : Footprint.mirrors.le f = true) :
    (s.copyRefused seq ia).outside f = s.outside f :=
  State.outside_le h ((State.frame_resyncPump _ (by decide)).trans (State.frame_markCopies _ _ (by decide)))

theorem State.frame_gotMnak {f : Footprint} (reason seq ia : Nat) (h : Footprint.mirrors.le f = true) :
    (s.gotMnak reason seq ia).outside f = s.outside f := by
  refine State.outside_le h ?_
  rw [State.gotMnak_eq, State.frame_copyRefused _ _ _ (by decide), State.frame_mnakHeard _ _ _ _ (by decide)]
  exact State.outside_ite _ (State.frame_setMirror _ _ (by decide)) rfl

/-- Reasons 1 and 2 end the pair: MISMATCH, with every copy marked. -/
theorem State.gotMnak_mismatch {reason : Nat} (seq ia : Nat) (bad : reason = 1 ∨ reason = 2) (pair : s.mirrorState ≠ .unpaired)
    (other : s.mirrorState ≠ .mismatch) (running : s.cutPassed = false) :
    (s.gotMnak reason seq ia).mirrorState = .mismatch ∧ (s.gotMnak reason seq ia).mirror.retain = [] ∧
    (∀ c ∈ s.mirror.retain, (s.gotMnak reason seq ia).mirror.map.mem c.seg = true) := by
  have entered := State.setMirror_parts s other (.inr (.inr (.inl rfl)))
  have state := State.mirrorState_setMirror s .mismatch
  rw [State.gotMnak_eq, if_pos ⟨bad, pair, running⟩]
  generalize s.setMirror .mismatch = m at entered state
  obtain ⟨retain, map⟩ := State.copies_mnakHeard m reason seq ia
  have heard := State.frame_mnakHeard m (f := ⟨[], [.mirror]⟩) reason seq ia (by decide)
  have state' := (State.mirrorState_of_outside heard (by decide)).trans state
  rw [entered] at retain map
  generalize m.mnakHeard reason seq ia = h at retain map state'
  have empty : h.mirror.retain = [] := retain
  have marked : (h.markCopies (fun c => c.seq == seq && c.ia == ia)).mirrorState = .mismatch := by
    rw [State.mirrorState_markCopies, empty, if_neg (by simp), state']
  obtain ⟨retain', map', _⟩ := Mirror.of_still (State.still_resyncPump (h.markCopies (fun c => c.seq == seq && c.ia == ia))).1
  unfold State.copyRefused
  refine ⟨?_, ?_, fun c hc => ?_⟩
  · rw [State.resyncPump_other _ (by simp [marked]), marked]
  · rw [retain', State.mirror_markCopies, empty]
    rfl
  · rw [map', State.mirror_markCopies]
    exact SegSet.mem_marks (.inl (map ▸ Mirror.mem_allMarked (.inr ⟨c, hc, rfl⟩)))

/-- Any other refusal resolves the copy itself. -/
theorem State.gotMnak_copy {reason : Nat} (seq ia : Nat) (h : (reason ≠ 1 ∧ reason ≠ 2) ∨ s.mirrorState = .unpaired ∨
      s.mirrorState = .mismatch ∨ s.cutPassed = true) :
    (s.gotMnak reason seq ia).mirror.retain = s.mirror.retain.filter (fun c => !(c.seq == seq && c.ia == ia)) ∧
    (∀ c ∈ s.mirror.retain, c.seq = seq → c.ia = ia → (s.gotMnak reason seq ia).mirror.map.mem c.seg = true ∧
      (s.mirrorState = .paired → (s.rowOf c.seg).isSome = true → (s.gotMnak reason seq ia).mirrorState = .resync)) := by
  have stays : (if (reason = 1 ∨ reason = 2) ∧ s.mirrorState ≠ .unpaired ∧ s.cutPassed = false then s.setMirror .mismatch else s) = s := by
    split
    · next c =>
      obtain ⟨bad, pair, running⟩ := c
      obtain ⟨a, b⟩ | h | h | h := h
      · exact absurd bad (by tauto)
      · exact absurd h pair
      · rw [State.setMirror_eq, if_pos h]
      · exact absurd (h.symm.trans running) (by decide)
    · rfl
  obtain ⟨retain, map⟩ := State.copies_mnakHeard s reason seq ia
  have heard := State.frame_mnakHeard s (f := ⟨[], [.mirror]⟩) reason seq ia (by decide)
  have state := State.mirrorState_of_outside heard (by decide)
  have rows := State.rowOf_of_outside heard (by decide)
  rw [State.gotMnak_eq, stays]
  generalize s.mnakHeard reason seq ia = m at retain map state rows
  obtain ⟨left, marked⟩ := State.copies_markCopies m (fun c => c.seq == seq && c.ia == ia)
  rw [retain] at left marked
  refine ⟨left, fun c hc hs hi => ⟨marked c hc (by simp [hs, hi]), fun paired row => ?_⟩⟩
  exact State.markCopies_resync m (c := c) (state.trans paired) (retain.symm ▸ hc) (by simp [hs, hi]) (by rwa [rows])

end

end Sys2Proof.Machine

namespace Sys2Proof.Machine

section
variable (s : State)

/-- The resync copies that a RACK does not cover. -/
def State.rcopiesLeft (s : State) (seq : Nat) : State :=
  s.modMirror (fun m => { m with rcopies := m.rcopies.filter (fun x => !(x.1 == seq || below32 x.1 seq)) })

/-- The segment whose last copy has been acknowledged, where one has. -/
def State.segmentDone (s : State) (last : Option (Nat × Nat × Bool)) : State :=
  match last with
  | some (_, g, _) =>
    if s.mirror.resyncSeg = some g ∧ s.mirror.resyncMarked = false then
      s.modMirror (fun m => { m with map := m.map.remove g, resyncSeg := none, resyncOff := 0 })
    else s
  | none => s

theorem State.rcopyAcked_eq (seq : Nat) : s.rcopyAcked seq = ((s.rcopiesLeft seq).segmentDone
    ((s.mirror.rcopies.filter (fun x => x.1 == seq || below32 x.1 seq)).find? (fun x => x.2.2))).resyncPump := by
  unfold State.rcopyAcked
  dsimp only
  cases (s.mirror.rcopies.filter (fun x => x.1 == seq || below32 x.1 seq)).find? (fun x => x.2.2) <;> rfl

theorem State.segmentDone_marked (h : s.mirror.resyncMarked = true) (l : Option (Nat × Nat × Bool)) : s.segmentDone l = s := by
  cases l with
  | none => rfl
  | some x => exact if_neg (by simp [h])

theorem State.rcopies_segmentDone (l : Option (Nat × Nat × Bool)) : (s.segmentDone l).mirror.rcopies = s.mirror.rcopies ∧
    (s.segmentDone l).mirror.resyncMarked = s.mirror.resyncMarked := by
  cases l with
  | none => exact ⟨rfl, rfl⟩
  | some x =>
    exact ⟨State.keeps_ite (fun x => x.mirror.rcopies) rfl rfl, State.keeps_ite (fun x => x.mirror.resyncMarked) rfl rfl⟩

theorem State.rcopyAcked_marked (seq : Nat) (h : s.mirror.resyncMarked = true) :
    s.rcopyAcked seq = (s.rcopiesLeft seq).resyncPump := by
  rw [State.rcopyAcked_eq, State.segmentDone_marked]
  exact h

theorem State.rcopies_rcopyAcked (seq : Nat) (h : s.mirror.resyncMarked = false) : (s.rcopyAcked seq).mirror.rcopies =
    s.mirror.rcopies.filter (fun x => !(x.1 == seq || below32 x.1 seq)) := by
  rw [State.rcopyAcked_eq]
  obtain ⟨copies, marked⟩ := State.rcopies_segmentDone (s.rcopiesLeft seq)
    ((s.mirror.rcopies.filter (fun x => x.1 == seq || below32 x.1 seq)).find? (fun x => x.2.2))
  exact ((State.still_resyncPump _).2 (marked.trans h)).trans copies

/-- The last copy of the segment under way: its mark goes, and with the last mark of both sides resync ends. -/
theorem State.rcopyAcked_last {q g seq : Nat} (copies : s.mirror.rcopies = [(q, g, true)]) (seg : s.mirror.resyncSeg = some g)
    (h : s.mirror.resyncMarked = false) (covers : q = seq ∨ below32 q seq = true) :
    (s.rcopyAcked seq).mirror.rcopies = [] ∧ (s.rcopyAcked seq).mirror.map = s.mirror.map.remove g ∧
    (s.mirror.map.remove g = [] → s.mirror.peerMap = [] → s.mirrorState = .resync → s.mirror.resyncRead = false →
      s.anyPartnerUp = true → s.cutPassed = false → (s.rcopyAcked seq).mirrorState = .paired) := by
  have hit : (q == seq || below32 q seq) = true := by simpa using covers
  have done : (s.rcopiesLeft seq).segmentDone
      ((s.mirror.rcopies.filter (fun x => x.1 == seq || below32 x.1 seq)).find? (fun x => x.2.2)) =
      (s.rcopiesLeft seq).modMirror (fun m => { m with map := m.map.remove g, resyncSeg := none, resyncOff := 0 }) := by
    rw [copies]
    simp only [List.filter, hit, List.find?]
    exact if_pos ⟨seg, h⟩
  have left := State.rcopies_rcopyAcked s seq h
  rw [copies, List.filter_singleton, hit] at left
  refine ⟨left, ?_, fun map peer state read up running => ?_⟩
  · rw [State.rcopyAcked_eq, done]
    exact (Mirror.of_still (State.still_resyncPump _).1).2.1
  · rw [State.rcopyAcked_eq, done]
    exact State.resyncPump_ends _ state read up running rfl map peer

end

/-! ### Exec -/

section
variable {s : State}

theorem exec_mack_awake (pl : Fin 2) (seq : Nat) (awake : s.awake = true) : exec (.mack pl seq) s = .next (s.after
    ((s.consume (16 + pl.val) (fun m => m.op == 0x51)).untilOpen seq 0 (fun s => s.ackCopies seq))) := by
  rw [exec_mack, execMack]
  exact act_of_awake s _ awake

theorem exec_mnak_awake (pl : Fin 2) (e seq ia : Nat) (awake : s.awake = true) : exec (.mnak pl e seq ia) s = .next (s.after
    ((s.consume (16 + pl.val) (fun m => m.op == 0x52)).untilOpen seq ia (fun s => s.gotMnak e seq ia))) := by
  rw [exec_mnak, execMnak]
  exact act_of_awake s _ awake

theorem exec_rack_awake (pl : Fin 2) (seq : Nat) (awake : s.awake = true) : exec (.rack pl seq) s = .next (s.after
    ((s.consume (16 + pl.val) (fun m => m.op == 0x54)).untilOpen seq 0 (fun s => s.rcopyAcked seq))) := by
  rw [exec_rack, execRack]
  exact act_of_awake s _ awake

/-- A copy that has had no MACK in time. -/
def State.copyLate (s : State) (c : Copy) : Bool := c.sentAt.any (fun t => s.due (t + usCycles (s.get Reg.mirrorAckTimeout)))

/-- The copies that are late, counted and marked. -/
def State.lateMarked (s : State) : State :=
  ((s.bump Reg.mirrorAckTimeouts 0 (s.mirror.retain.filter s.copyLate).length).markCopies s.copyLate).resyncPump

theorem exec_mirrorAckTimeout_awake (awake : s.awake = true) : exec .mirrorAckTimeout s = .next (s.after
    (if s.itemHeld 9 then s else if s.mirrorState = .interrupted ∨ s.mirror.retain.any s.copyLate = false then s
      else s.lateMarked)) := by
  rw [exec_mirrorAckTimeout, execMirrorAckTimeout]
  exact actItem_of_awake s _ _ awake

theorem State.untilOpen_consume {f : State → State} {u q a : Nat} {hit : Msg → Bool}
    (h : s.image ≠ .restoring ∨ s.windowsOpen = true) : (s.consume u hit).untilOpen q a f = f (s.consume u hit) := by
  have links := State.links_consume s u hit
  refine State.untilOpen_open ?_
  rwa [State.image_of_outside links (by decide), State.windowsOpen, State.get_of_outside links _ _ (by decide)]

theorem State.untilOpen_consume_restarting {f : State → State} {u q a : Nat} {hit : Msg → Bool} (h : s.image = .restoring)
    (closed : s.windowsOpen = false) : (s.consume u hit).untilOpen q a f = (s.consume u hit).sendMnak 3 q a := by
  have links := State.links_consume s u hit
  refine State.untilOpen_restarting ((State.image_of_outside links (by decide)).trans h) ?_
  rwa [State.windowsOpen, State.get_of_outside links _ _ (by decide)]

end

theorem State.lateMarked_effect (s : State) : s.lateMarked.mirror.retain = s.mirror.retain.filter (fun c => !(s.copyLate c)) ∧
    (∀ c ∈ s.mirror.retain, s.copyLate c = true → s.lateMarked.mirror.map.mem c.seg = true) ∧
    s.lateMarked.get Reg.mirrorAckTimeouts =
      sat 4294967295 (s.get Reg.mirrorAckTimeouts + (s.mirror.retain.filter s.copyLate).length) ∧
    s.lateMarked.outside (Footprint.mirrors.plus [Reg.mirrorAckTimeouts] []) =
      s.outside (Footprint.mirrors.plus [Reg.mirrorAckTimeouts] []) := by
  unfold State.lateMarked
  generalize s.copyLate = late
  obtain ⟨retain, marked⟩ := State.copies_markCopies (s.bump Reg.mirrorAckTimeouts 0 (s.mirror.retain.filter late).length) late
  refine ⟨retain, marked, ?_, ?_⟩
  · rw [State.get_of_outside (f := .mirrors) ((State.frame_resyncPump _ (by decide)).trans (State.frame_markCopies _ _ (by decide)))
      _ _ (by decide), State.bump, State.get_set_same]
    rfl
  · rw [State.frame_resyncPump _ (by decide), State.frame_markCopies _ _ (by decide), State.outside_bump _ _ _ _ _ (by decide)]

/-- Settles O28: the copies that a MACK covers, that a MNAK refuses or that come too late, and the resync copies that a RACK
covers. -/
theorem copiesAreResolved : Obligations.CopiesAreResolved := by
  refine ⟨fun pl seq s awake image closed => ⟨?_, fun e ia => ?_, ?_⟩, fun pl seq s awake reached =>
    ⟨?_, fun e ia bad pair other running => ?_, fun e ia good => ?_, fun unmarked => ?_, fun q g copies seg unmarked covers => ?_,
      fun marked => ?_⟩, fun s awake => ⟨fun h => ?_, fun late hl free state some => ?_⟩⟩
  · rw [exec_mack_awake pl seq awake, State.untilOpen_consume_restarting image closed]
  · rw [exec_mnak_awake pl e seq ia awake, State.untilOpen_consume_restarting image closed]
  · rw [exec_rack_awake pl seq awake, State.untilOpen_consume_restarting image closed]
  · have effect := exec_mack_awake (s := s) pl seq awake
    rw [State.untilOpen_consume reached] at effect
    have links := State.links_consume s (16 + pl.val) (fun m => m.op == 0x51)
    have mirror := State.mirror_ackCopies (s.consume (16 + pl.val) (fun m => m.op == 0x51)) seq
    rw [State.mirror_of_outside links (by decide)] at mirror
    have state := (State.mirrorState_ackCopies (s.consume (16 + pl.val) (fun m => m.op == 0x51)) seq).trans
      (State.mirrorState_of_outside links (by decide))
    have frame := (State.frame_ackCopies (s.consume (16 + pl.val) (fun m => m.op == 0x51)) seq
      (f := Footprint.durable.plus [] [.mirror, .links]) (by decide)).trans (State.outside_le (by decide) links)
    generalize (s.consume (16 + pl.val) (fun m => m.op == 0x51)).ackCopies seq = t at effect mirror state frame
    have retain := congrArg (fun m => m.retain) mirror
    have map := congrArg (fun m => m.map) mirror
    exact ⟨_, effect, retain, map, state, State.changesOnly_after _ _ frame⟩
  · have effect := exec_mnak_awake (s := s) pl e seq ia awake
    rw [State.untilOpen_consume reached] at effect
    have links := State.links_consume s (16 + pl.val) (fun m => m.op == 0x52)
    obtain ⟨a, b, c⟩ := State.gotMnak_mismatch (s.consume (16 + pl.val) (fun m => m.op == 0x52)) seq ia bad
      (by rwa [State.mirrorState_of_outside links (by decide)]) (by rwa [State.mirrorState_of_outside links (by decide)])
      (by rwa [State.cutPassed_of_outside links (by decide) (by decide)])
    rw [State.mirror_of_outside links (by decide)] at c
    have frame := (State.frame_gotMnak (s.consume (16 + pl.val) (fun m => m.op == 0x52)) e seq ia
      (f := Footprint.mirrors.plus [] [.links]) (by decide)).trans (State.outside_le (by decide) links)
    generalize (s.consume (16 + pl.val) (fun m => m.op == 0x52)).gotMnak e seq ia = t at effect a b c frame
    exact ⟨_, effect, a, b, c, State.changesOnly_after _ _ frame⟩
  · have effect := exec_mnak_awake (s := s) pl e seq ia awake
    rw [State.untilOpen_consume reached] at effect
    have links := State.links_consume s (16 + pl.val) (fun m => m.op == 0x52)
    obtain ⟨a, b⟩ := State.gotMnak_copy (s.consume (16 + pl.val) (fun m => m.op == 0x52)) (reason := e) seq ia
      (by rwa [State.mirrorState_of_outside links (by decide), State.cutPassed_of_outside links (by decide) (by decide)])
    rw [State.mirror_of_outside links (by decide)] at a b
    rw [State.mirrorState_of_outside links (by decide)] at b
    simp only [State.rowOf_of_outside links (by decide)] at b
    have frame := (State.frame_gotMnak (s.consume (16 + pl.val) (fun m => m.op == 0x52)) e seq ia
      (f := Footprint.mirrors.plus [] [.links]) (by decide)).trans (State.outside_le (by decide) links)
    generalize (s.consume (16 + pl.val) (fun m => m.op == 0x52)).gotMnak e seq ia = t at effect a b frame
    exact ⟨_, effect, a, b, State.changesOnly_after _ _ frame⟩
  · have effect := exec_rack_awake (s := s) pl seq awake
    rw [State.untilOpen_consume reached] at effect
    have links := State.links_consume s (16 + pl.val) (fun m => m.op == 0x54)
    have mirror := State.mirror_of_outside links (by decide)
    have copies := State.rcopies_rcopyAcked (s.consume (16 + pl.val) (fun m => m.op == 0x54)) seq (by rw [mirror]; exact unmarked)
    rw [mirror] at copies
    have frame := (State.frame_rcopyAcked (s.consume (16 + pl.val) (fun m => m.op == 0x54)) seq
      (f := Footprint.mirrors.plus [] [.links]) (by decide)).trans (State.outside_le (by decide) links)
    generalize (s.consume (16 + pl.val) (fun m => m.op == 0x54)).rcopyAcked seq = t at effect copies frame
    exact ⟨_, effect, copies, State.changesOnly_after _ _ frame⟩
  · have effect := exec_rack_awake (s := s) pl seq awake
    rw [State.untilOpen_consume reached] at effect
    have links := State.links_consume s (16 + pl.val) (fun m => m.op == 0x54)
    have mirror := State.mirror_of_outside links (by decide)
    obtain ⟨a, b, c⟩ := State.rcopyAcked_last (s.consume (16 + pl.val) (fun m => m.op == 0x54)) (q := q) (g := g) (seq := seq)
      (by rw [mirror]; exact copies) (by rw [mirror]; exact seg) (by rw [mirror]; exact unmarked) covers
    rw [mirror] at b c
    rw [State.mirrorState_of_outside links (by decide), State.anyPartnerUp_of_outside links (by decide),
      State.cutPassed_of_outside links (by decide) (by decide)] at c
    generalize (s.consume (16 + pl.val) (fun m => m.op == 0x54)).rcopyAcked seq = t at effect a b c
    exact ⟨_, effect, a, b, c⟩
  · rw [exec_rack_awake pl seq awake, State.untilOpen_consume reached, State.rcopyAcked_marked]
    · rfl
    · rw [State.mirror_of_outside (State.links_consume s _ _) (by decide)]
      exact marked
  · rw [exec_mirrorAckTimeout_awake awake]
    obtain h | h := h
    · rw [if_pos h]
    · exact congrArg (fun x => Host.Outcome.next (s.after x))
        ((congrArg (fun x => if s.itemHeld 9 then s else x) (if_pos h)).trans (ite_self _))
  · have effect := exec_mirrorAckTimeout_awake (s := s) awake
    have isLate : late = s.copyLate := hl
    subst isLate
    rw [free, if_neg (by decide), if_neg (by rintro (a | a); exacts [state a, Bool.false_ne_true (a.symm.trans some)])] at effect
    obtain ⟨a, b, c, d⟩ := State.lateMarked_effect s
    generalize s.lateMarked = t at effect a b c d
    exact ⟨_, effect, a, b, c, State.changesOnly_after _ _ d⟩

end Sys2Proof.Machine

namespace Sys2Proof.Machine

/-! ### Whose counts a management source leaves alone

`State.tally k` is the count of source k of instance 0. What the mirror engine does raises sources 0x031, 0x040, 0x044 and
0x061, of whatever instance, and no other: the count of another source stays. -/

def State.tally (k : Nat) (s : State) : Nat := s.get Reg.mgmtCount k

/-- The sources that the mirror engine raises on its way. -/
def mirrorSources : List Nat := [0x031, 0x040, 0x044, 0x061]

section
variable (k : Nat) (s : State)

theorem State.tally_set {r : Nat} (i v : Nat) (h : r ≠ Reg.mgmtCount) : State.tally k (s.set r i v) = State.tally k s :=
  State.get_set_register _ _ _ _ h

theorem State.tally_bump {r : Nat} (i n : Nat) (h : r ≠ Reg.mgmtCount) : State.tally k (s.bump r i n) = State.tally k s :=
  State.get_set_register _ _ _ _ h

theorem State.tally_told {s t : State} (h : t.outside .told = s.outside .told) : State.tally k t = State.tally k s :=
  State.get_of_outside h _ _ (by decide)

variable {k} (small : k < 1024)
include small

theorem State.tally_raise {n : Nat} (i u : Nat) (hn : n < 1024) (other : n ≠ k) :
    State.tally k (s.raise i n u) = State.tally k s := by
  refine (State.tally_told k (State.told_raise s i n u)).trans ?_
  refine (State.get_set _ _ _ _ _ _).trans (if_neg ?_)
  unfold Reg.key srcKey
  omega

end

section
variable (k : Nat) (s : State)

theorem State.tally_enqueueNine (svc i : Nat) (w : Work) (n : Nat) : State.tally k (s.enqueue 9 svc i w n) = State.tally k s :=
  State.tally_told k (State.told_enqueue s svc i w n)

theorem State.tally_putQrun (q : Nat) (r : QRun) : State.tally k (s.putQrun q r) = State.tally k s := rfl

theorem State.tally_setCtx (n : Nat) (st : CtxState) : State.tally k (s.setCtx n st) = State.tally k s := by
  unfold State.setCtx
  rw [State.tally_set _ _ _ _ (by decide), State.tally_set _ _ _ _ (by decide)]

theorem State.tally_countPending (i : Nat) : State.tally k (s.countPending i) = State.tally k s := by
  unfold State.countPending
  rw [State.tally_set _ _ _ _ (by decide), State.tally_set _ _ _ _ (by decide)]

theorem State.tally_issueQueue (q : Nat) : State.tally k (s.issueQueue q) = State.tally k s := by
  unfold State.issueQueue
  split
  · rfl
  · split
    · rfl
    · dsimp only
      split
      · exact State.tally_told k (State.told_sendMsix _ _ _ _ _ _)
      · rfl

theorem State.tally_decideQueue (q : Nat) (b : Bool) : State.tally k (s.decideQueue q b) = State.tally k s :=
  State.keeps_ite (State.tally k) ((State.tally_issueQueue k _ q).trans
    (State.keeps_ite (State.tally k) rfl rfl)) rfl

theorem State.tally_wakeOutsideA0 (b : Nat) : State.tally k (s.wakeOutsideA0 b) = State.tally k s :=
  State.keeps_ite (State.tally k) rfl (State.tally_told k (State.told_wake _ _))

theorem State.tally_writeRecord (q v t a n : Nat) (b : List Byte) : State.tally k (s.writeRecord q v t a n b) = State.tally k s := by
  unfold State.writeRecord
  rw [State.tally_decideQueue]
  have written : State.tally k (((s.set Reg.queueProd q ((s.get Reg.queueProd q + 1) % 4294967296)).bump Reg.recordsWritten).enqueue 9 v
      ((s.queueOwner q).getD 0) (.record q (s.get Reg.queueProd q) t a n b) 32) = State.tally k s := by
    rw [State.tally_enqueueNine, State.tally_bump _ _ _ _ (by decide), State.tally_set _ _ _ _ (by decide)]
  exact State.keeps_ite (State.tally k) written ((State.tally_wakeOutsideA0 k _ 19).trans written)

end

section
variable {k : Nat} (s : State) (small : k < 1024) (free : ∀ n ∈ mirrorSources, n ≠ k)
include small free

theorem State.tally_raised {n : Nat} (i u : Nat) (h : n ∈ mirrorSources) : State.tally k (s.raise i n u) = State.tally k s :=
  State.tally_raise s small i u (by revert n; decide) (free n h)

theorem State.tally_loseRecord (q t : Nat) : State.tally k (s.loseRecord q t) = State.tally k s := by
  have lost (x : State) (r : QRun) : State.tally k (((s.bump Reg.queueLost q).bump Reg.recordsLost).putQrun q r) = State.tally k s := by
    rw [State.tally_putQrun, State.tally_bump _ _ _ _ (by decide), State.tally_bump _ _ _ _ (by decide)]
  exact State.keeps_ite (State.tally k) ((State.tally_raised _ small free _ _ (by decide)).trans (lost s _)) (lost s _)

theorem State.tally_recordTo (q t a n : Nat) (b : List Byte) : State.tally k (s.recordTo q t a n b) = State.tally k s := by
  refine State.keeps_ite (State.tally k) rfl (State.keeps_ite (State.tally k) ?_ (State.keeps_ite (State.tally k)
    (State.tally_loseRecord s small free _ _) (State.tally_writeRecord _ _ _ _ _ _ _ _)))
  rw [State.tally_bump _ _ _ _ (by decide), State.tally_bump _ _ _ _ (by decide)]

theorem State.tally_recordMgmt (i t a n : Nat) (b : List Byte) : State.tally k (s.recordMgmt i t a n b) = State.tally k s := by
  unfold State.recordMgmt
  split
  · exact State.tally_recordTo s small free _ _ _ _ _
  · exact State.keeps_ite (State.tally k) rfl (State.tally_bump _ _ _ _ (by decide))

theorem State.tally_notifyCtx (n : Nat) : State.tally k (s.notifyCtx n) = State.tally k s := by
  have worded : State.tally k (if bit (s.get Reg.ctxNotify n) 1 then s.writeDword n (s.ctxRun n).degraded else s) = State.tally k s :=
    State.keeps_ite (State.tally k) (State.keeps_ite (State.tally k) (State.tally_enqueueNine _ _ _ _ _ _) rfl) rfl
  exact State.keeps_ite (State.tally k) rfl (State.keeps_ite (State.tally k)
    ((State.tally_recordTo _ small free _ _ _ _ _).trans worded) worded)

theorem State.tally_closeIfDrained (n : Nat) : State.tally k (s.closeIfDrained n) = State.tally k s :=
  State.keeps_ite (State.tally k) ((State.tally_setCtx _ _ _ _).trans (State.tally_notifyCtx s small free n)) rfl

theorem State.tally_durabilityPoint (p : Pub) : State.tally k (s.durabilityPoint p) = State.tally k s := by
  unfold State.durabilityPoint
  dsimp only
  rw [State.tally_closeIfDrained _ small free]
  have counted (r : CtxRun) : State.tally k ((((s.modAppend (fun a => { a with pubs := a.pubs.filter (· != p) })).set Reg.ctxDurable p.ctx
      (max p.tail ((s.modAppend (fun a => { a with pubs := a.pubs.filter (· != p) })).get Reg.ctxDurable p.ctx))).countPending
        p.i).putCtxRun p.ctx r) = State.tally k s :=
    (State.tally_countPending _ _ _).trans (State.tally_set _ _ _ _ (by decide))
  exact State.keeps_ite (State.tally k) ((State.tally_notifyCtx _ small free _).trans (counted _)) (counted _)

theorem State.tally_testPublishes (i : Nat) : State.tally k (s.testPublishes i) = State.tally k s :=
  State.keeps_each (State.tally k) _ _ _ (fun s p =>
    State.keeps_ite (State.tally k) (State.tally_durabilityPoint s small free p) rfl)

theorem State.tally_appendError (n code value : Nat) : State.tally k (s.appendError n code value) = State.tally k s := by
  have counted : State.tally k ((s.bump Reg.appendErrors).bump Reg.instanceErrors (s.ctxInst n)) = State.tally k s := by
    rw [State.tally_bump _ _ _ _ (by decide), State.tally_bump _ _ _ _ (by decide)]
  exact State.keeps_ite (State.tally k) counted ((State.tally_recordTo _ small free _ _ _ _ _).trans counted)

theorem State.tally_ctxFails (n code value : Nat) : State.tally k (s.ctxFails n code value) = State.tally k s := by
  unfold State.ctxFails
  rw [State.tally_closeIfDrained _ small free, State.tally_raised _ small free _ _ (by decide), State.tally_appendError _ small free,
    State.tally_set _ _ _ _ (by decide)]
  exact State.keeps_ite (State.tally k) (State.tally_setCtx _ _ _ _) rfl

theorem State.tally_failPublishes (i code : Nat) (sel : Pub → Bool) : State.tally k (s.failPublishes i code sel) = State.tally k s := by
  unfold State.failPublishes
  dsimp only
  refine (State.keeps_each (State.tally k) _ _ _ fun s n => ?_).trans (State.tally_countPending _ _ _)
  split
  · exact State.tally_ctxFails _ small free _ _ _
  · rfl

theorem State.tally_copyMarked (i n : Nat) : State.tally k (s.copyMarked i n) = State.tally k s := by
  refine State.keeps_ite (State.tally k) rfl ((State.tally_testPublishes _ small free _).trans ?_)
  exact State.keeps_ite (State.tally k) (State.tally_failPublishes s small free _ _ _) rfl

theorem State.tally_mirrorTo (v : MirrorState) : State.tally k (s.mirrorTo v) = State.tally k s :=
  State.keeps_ite (State.tally k) rfl ((State.tally_raised _ small free _ _ (by decide)).trans
    ((State.tally_recordMgmt _ small free _ _ _ _ _).trans (State.tally_set _ _ _ _ (by decide))))

theorem State.tally_markSegment (g : Nat) : State.tally k (s.markSegment g) = State.tally k s :=
  State.keeps_ite (State.tally k) (State.tally_mirrorTo _ small free _) rfl

theorem State.tally_markCopies (sel : Copy → Bool) : State.tally k (s.markCopies sel) = State.tally k s :=
  State.keeps_each (State.tally k) (s.modMirror (fun m => { m with retain := m.retain.filter (fun c => !(sel c)) })) _ _ (fun s _ =>
    (State.tally_copyMarked _ small free _ _).trans (State.tally_markSegment s small free _))

end

/-! #### Entries of a port that go -/

section
variable (k : Nat) (s : State)

theorem State.tally_makeHead (p : Nat) (e : Entry) (t : Nat) : State.tally k (s.makeHead p e t) = State.tally k s :=
  State.keeps_ite (State.tally k) (State.tally_bump _ _ _ _ (by decide)) rfl

theorem State.tally_metered (m n : Nat) : State.tally k (s.metered m n).1 = State.tally k s := by
  have bumped (x : State) (r : Nat) (h : r ≠ Reg.mgmtCount) (same : State.tally k x = State.tally k s) :
      State.tally k (x.bump r m n) = State.tally k s := (State.tally_bump _ _ _ _ h).trans same
  unfold State.metered
  split
  · exact bumped _ _ (by decide) rfl
  · dsimp only
    split
    · exact bumped _ _ (by decide) rfl
    · split
      · exact bumped _ _ (by decide) rfl
      · exact bumped _ _ (by decide) rfl

theorem State.tally_enter (p : Nat) (e : Entry) : State.tally k (s.enter p e) = State.tally k s := by
  have joined (b w : Bool) (x : State) (q : Port) (h : Entry) (t : Nat) :
      State.tally k (if w = true then ((if b = true then x.bump Reg.hazardWaits else x).putPort p q).makeHead p h t
        else (if b = true then x.bump Reg.hazardWaits else x).putPort p q) = State.tally k x := by
    have counted : State.tally k (if b = true then x.bump Reg.hazardWaits else x) = State.tally k x :=
      State.keeps_ite (State.tally k) (State.tally_bump _ _ _ _ (by decide)) rfl
    exact State.keeps_ite (State.tally k) ((State.tally_makeHead _ _ _ _ _).trans counted) counted
  unfold State.enter
  cases h : meterRow p e.svc e.i with
  | none => exact joined _ _ s _ _ _
  | some m => exact (joined _ _ _ _ _ _).trans (State.tally_metered k s m _)

theorem State.tally_renewHeads (p : Nat) : State.tally k (s.renewHeads p) = State.tally k s := by
  refine State.keeps_each (State.tally k) _ _ _ fun s kh => ?_
  refine State.keeps_ite (State.tally k) rfl ?_
  dsimp only
  split
  · exact State.tally_makeHead _ _ _ _ _
  · rfl

theorem State.tally_admitOutside (p : Nat) : State.tally k (s.admitOutside p) = State.tally k s :=
  State.keeps_each (State.tally k) _ _ _ fun _ e =>
    State.keeps_ite (State.tally k) (State.tally_enter k _ p e) rfl

theorem State.tally_removeEntries (p : Nat) (g : Entry → Bool) : State.tally k (s.removeEntries p g) = State.tally k s := by
  unfold State.removeEntries
  dsimp only
  have once (q : Port) : State.tally k (((s.putPort p q).renewHeads p).admitOutside p) = State.tally k s :=
    (State.tally_admitOutside k _ p).trans (State.tally_renewHeads k _ p)
  exact State.keeps_ite (State.tally k) ((State.keeps_each (State.tally k) _ _ _ fun s r => State.tally_admitOutside k s r).trans
    (once _)) (once _)

end

section
variable {k : Nat} (s : State) (small : k < 1024) (free : ∀ n ∈ mirrorSources, n ≠ k)
include small free

theorem State.tally_markAll : State.tally k s.markAll = State.tally k s :=
  (State.tally_removeEntries k _ 8 _).trans (State.tally_markCopies s small free _)

theorem State.tally_mirrorTold (old v : MirrorState) : State.tally k (s.mirrorTold old v) = State.tally k s := by
  have unfenced : State.tally k (s.unfenced old v) = State.tally k s :=
    State.keeps_ite (State.tally k) (State.keeps_each (State.tally k) _ _ _ (fun _ _ => rfl)) rfl
  exact (State.tally_raised _ small free _ _ (by decide)).trans ((State.tally_recordMgmt _ small free _ _ _ _ _).trans unfenced)

theorem State.tally_setMirror_split : State.tally k (s.setMirror .split) = State.tally k s := by
  rw [State.setMirror_eq]
  refine State.keeps_ite (State.tally k) rfl ((State.tally_mirrorTold _ small free _ _).trans ?_)
  exact State.keeps_ite (State.tally k) ((State.tally_markAll _ small free).trans (State.tally_set _ _ _ _ (by decide)))
    (State.tally_set _ _ _ _ (by decide))

end

end Sys2Proof.Machine

namespace Sys2Proof.Machine

/-! ### MSTATE, the notices, RMAP and the split -/

section
variable {s : State}

theorem exec_mstate_awake (pl : Fin 2) (c : Bool) (r : Fin 16) (g : Nat) (o : Fin 2) (awake : s.awake = true) :
    exec (.mstate pl c r g o) s = .next (s.after (((s.consume (16 + pl.val) (fun m => m.op == 0x56)).untilOpen 0 r.val
      (fun s => s.gotMstate c r.val g o.val)).runConfig)) := by
  rw [exec_mstate, execMstate]
  exact act_of_awake s _ awake

theorem exec_cutNotice_awake (pl : Fin 2) (e : Nat) (awake : s.awake = true) :
    exec (.cutNotice pl e) s = .next (s.after ((s.consume (16 + pl.val) (fun m => m.op == 0x57)).untilOpen 0 e
      (fun s => if s.mirrorState = .unpaired ∨ s.cutPassed = true then s else s.peerAway))) := by
  rw [exec_cutNotice, execCutNotice]
  exact act_of_awake s _ awake

/-- The partner's hold ends. -/
def State.holdLeft (s : State) : State := if (s.wake 11).mirrorState = .peerAway then (s.wake 11).pairTry else s.wake 11

theorem exec_holdNotice_awake (pl : Fin 2) (b : Bool) (awake : s.awake = true) :
    exec (.holdNotice pl b) s = .next (s.after ((s.consume (16 + pl.val) (fun m => m.op == 0x59)).untilOpen 0 0
      (fun s => if b then (if s.mirrorState = .unpaired ∨ s.cutPassed = true then s else s.peerAway) else s.holdLeft))) := by
  rw [exec_holdNotice, execHoldNotice]
  exact act_of_awake s _ awake

/-- The segments of this side's rows that a block of the partner's map marks. -/
def State.mapMarks (s : State) (first : Nat) (block : List Byte) : List Nat :=
  (List.range 512).filter (fun k => bit ((block.getD (k / 8) 0).toNat) (k % 8) && (s.rowOf (first + k)).any s.ownsRow)

/-- The partner's map is joined. -/
def State.mapJoined (s : State) (first : Nat) (block : List Byte) : State :=
  (s.each (s.mapMarks first block) (fun s k => s.markSegment (first + k))).resyncPump

theorem exec_rmap_awake (pl : Fin 2) (f : Nat) (b : List Byte) (awake : s.awake = true) :
    exec (.rmap pl f b) s = .next (s.after ((s.consume (16 + pl.val) (fun m => m.op == 0x58)).untilOpen 0 f
      (fun s => s.mapJoined f b))) := by
  rw [exec_rmap, execRmap]
  exact act_of_awake s _ awake

/-- SPLIT_TIME has passed since the second link of an interrupted pair went down. -/
def State.splits (s : State) : Prop :=
  s.mirrorState = .interrupted ∧ s.mirror.downAt.any (fun t => s.due (t + msCycles (s.get Reg.splitTime))) = true

theorem exec_splitDeclared_due (awake : s.awake = true) (free : s.itemHeld 9 = false) (h : s.splits) :
    exec .splitDeclared s = .next (s.after s.declareSplit) := by
  rw [exec_splitDeclared, execSplitDeclared, actItem_of_awake s _ _ awake, free]
  exact congrArg (fun x => Host.Outcome.next (s.after x)) ((if_neg Bool.false_ne_true).trans (if_pos h))

theorem exec_splitDeclared_idle (awake : s.awake = true) (h : s.itemHeld 9 = true ∨ ¬ s.splits) :
    exec .splitDeclared s = .next (s.after s) := by
  rw [exec_splitDeclared, execSplitDeclared, actItem_of_awake s _ _ awake]
  refine congrArg (fun x => Host.Outcome.next (s.after x)) ?_
  obtain h | h := h
  · exact if_pos h
  · exact (congrArg (fun x => if s.itemHeld 9 then s else x) (if_neg h)).trans (ite_self _)

end

section
variable (s : State)

/-! #### The partner goes away -/

theorem State.frame_autoTakeover {f : Footprint} (h : (Footprint.none.plus [Reg.fieldFramesTx] [.mirror, .frames, .outbox]).le f = true) :
    s.autoTakeover.outside f = s.outside f := State.outside_ite _ (State.frame_takeoverRequest s h) rfl

theorem State.now_takeoverRequest : s.takeoverRequest.mirror = { s.mirror with takeoverReq := s.nextReq, takeoverAt := some s.now } := by
  have sent := State.event_sendLease s 0x03 (s.get Reg.leasePolicy) s.mirrorState.code s.nextReq 0 0
  unfold State.takeoverRequest State.modMirror
  dsimp only
  rw [State.mirror_of_outside sent (by decide), State.now_of_outside sent (by decide)]

/-- What a takeover that is asked for leaves of the mirror engine. -/
theorem State.mirror_autoTakeover : s.autoTakeover.mirror =
    if s.get Reg.autoTakeover = 1 ∧ s.get Reg.witnessNode ≠ 0 then
      { s.mirror with takeoverReq := s.nextReq, takeoverAt := some s.now } else s.mirror := by
  unfold State.autoTakeover
  rw [apply_ite State.mirror, State.now_takeoverRequest]

theorem State.partnerAway_peerAway (other : s.mirrorState ≠ .peerAway) : s.partnerAway s.peerAway := by
  have parts := State.setMirror_parts s other (.inr (.inl rfl))
  have state := State.mirrorState_setMirror s .peerAway
  have frame := State.frame_setMirror s .peerAway (f := .mirrors) (by decide)
  unfold State.peerAway
  rw [if_neg other]
  generalize s.setMirror .peerAway = m at parts state frame
  have mirror := State.mirror_autoTakeover (m.modMirror (fun m => { m with takeoverAt := none, helloSent := false, hello := none }))
  have auto : (m.modMirror (fun m => { m with takeoverAt := none, helloSent := false, hello := none })).get Reg.autoTakeover =
      s.get Reg.autoTakeover := State.get_of_outside frame _ _ (by decide)
  have node : (m.modMirror (fun m => { m with takeoverAt := none, helloSent := false, hello := none })).get Reg.witnessNode =
      s.get Reg.witnessNode := State.get_of_outside frame _ _ (by decide)
  have now : (m.modMirror (fun m => { m with takeoverAt := none, helloSent := false, hello := none })).now = s.now :=
    State.now_of_outside frame (by decide)
  have only := State.frame_autoTakeover (m.modMirror (fun m => { m with takeoverAt := none, helloSent := false, hello := none }))
    (f := Footprint.none.plus [Reg.fieldFramesTx] [.mirror, .frames, .outbox]) (by decide)
  have left : (m.modMirror (fun m => { m with takeoverAt := none, helloSent := false, hello := none })).mirror =
      { m.mirror with takeoverAt := none, helloSent := false, hello := none } := rfl
  rw [auto, node, now, left, parts] at mirror
  have inside : (m.modMirror (fun m => { m with takeoverAt := none, helloSent := false, hello := none })).outside
      (Footprint.mirrors.plus [] [.links]) = s.outside (Footprint.mirrors.plus [] [.links]) :=
    (State.outside_modMirror _ _ _ (by decide)).trans (State.outside_le (by decide) frame)
  have stateM : (m.modMirror (fun m => { m with takeoverAt := none, helloSent := false, hello := none })).mirrorState = .peerAway := state
  generalize m.modMirror (fun m => { m with takeoverAt := none, helloSent := false, hello := none }) = n at mirror only inside stateM
  have field (φ : Mirror → Prop) (yes : φ { s.mirror.allMarked with
        rowNext := m.mirror.rowNext, takeoverReq := n.nextReq, takeoverAt := some s.now, helloSent := false, hello := none })
      (no : φ { s.mirror.allMarked with rowNext := m.mirror.rowNext, takeoverAt := none, helloSent := false, hello := none }) :
      φ n.autoTakeover.mirror := by
    rw [mirror]
    split
    · exact yes
    · exact no
  refine ⟨(State.mirrorState_of_outside only (by decide)).trans stateM, field (fun m => m.helloSent = false) rfl rfl,
    field (fun m => m.hello = none) rfl rfl, field (fun m => m.retain = []) rfl rfl, fun c hc => ?_, ?_,
    (State.outside_le (by decide) only).trans inside⟩
  · exact field (fun m => m.map.mem c.seg = true) (Mirror.mem_allMarked (.inr ⟨c, hc, rfl⟩)) (Mirror.mem_allMarked (.inr ⟨c, hc, rfl⟩))
  · rw [mirror]
    split <;> rfl

/-- What holds of a state but for its links. -/
theorem State.partnerAway_of_links {s u t : State} (links : u.outside ⟨[], [.links]⟩ = s.outside ⟨[], [.links]⟩) (h : u.partnerAway t) :
    s.partnerAway t := by
  obtain ⟨state, sent, none, retain, marked, asked, only⟩ := h
  rw [State.mirror_of_outside links (by decide)] at marked
  rw [State.get_of_outside links _ _ (by decide), State.get_of_outside links _ _ (by decide), State.now_of_outside links (by decide)] at asked
  exact ⟨state, sent, none, retain, marked, asked, Eq.trans only (State.outside_le (by decide) links)⟩

end

end Sys2Proof.Machine

namespace Sys2Proof.Machine

section
variable (s : State)

/-! #### The partner's map -/

theorem State.mirror_eachMark (l : List Nat) (f : Nat) (s : State) :
    (∀ k ∈ l, (s.each l (fun s k => s.markSegment (f + k))).mirror.map.mem (f + k) = true) ∧
    (∀ g, s.mirror.map.mem g = true → (s.each l (fun s k => s.markSegment (f + k))).mirror.map.mem g = true) ∧
    (s.each l (fun s k => s.markSegment (f + k))).mirror.retain = s.mirror.retain := by
  have kept (s : State) (j g : Nat) (h : s.mirror.map.mem g = true) : (s.markSegment (f + j)).mirror.map.mem g = true := by
    rw [State.mirror_markSegment]
    exact SegSet.mem_add (.inl h)
  have sets (s : State) (j : Nat) : (s.markSegment (f + j)).mirror.map.mem (f + j) = true := by
    rw [State.mirror_markSegment]
    exact SegSet.mem_add (.inr rfl)
  have all (g : Nat) (l : List Nat) (s : State) (h : s.mirror.map.mem g = true) :
      (s.each l (fun s k => s.markSegment (f + k))).mirror.map.mem g = true := by
    induction l generalizing s with
    | nil => exact h
    | cons j l ih =>
      rw [State.each_cons]
      exact ih _ (kept s j g h)
  refine ⟨fun k hk => ?_, fun g hg => all g l s hg, State.keeps_each (fun s => s.mirror.retain) _ _ _ (fun s k => by rw [State.mirror_markSegment])⟩
  exact State.each_establishes (fun k s => s.mirror.map.mem (f + k) = true) _ sets (fun s j k h => kept s j (f + k) h) s l k (.inl hk)

theorem State.mapJoined_effect (f : Nat) (b : List Byte) :
    (∀ k, k < 512 → bit (b.getD (k / 8) 0).toNat (k % 8) = true → (s.rowOf (f + k)).any s.ownsRow = true →
      (s.mapJoined f b).mirror.map.mem (f + k) = true) ∧
    (∀ g, s.mirror.map.mem g = true → (s.mapJoined f b).mirror.map.mem g = true) ∧
    (s.mapJoined f b).mirror.retain = s.mirror.retain := by
  obtain ⟨marked, kept, retain⟩ := State.mirror_eachMark (s.mapMarks f b) f s
  unfold State.mapJoined
  generalize s.each (s.mapMarks f b) (fun s k => s.markSegment (f + k)) = m at marked kept retain
  obtain ⟨retain', map', _⟩ := Mirror.of_still (State.still_resyncPump m).1
  rw [retain', map']
  refine ⟨fun k lt one own => marked k ?_, kept, retain⟩
  exact List.mem_filter.mpr ⟨List.mem_range.mpr lt, by rw [one, own]; rfl⟩

theorem State.frame_mapJoined {g : Footprint} (f : Nat) (b : List Byte) (h : Footprint.mirrors.le g = true) :
    (s.mapJoined f b).outside g = s.outside g :=
  State.outside_le h ((State.frame_resyncPump _ (by decide)).trans
    (State.outside_each _ _ _ _ (fun s k => State.frame_markSegment s _ (by decide))))

/-! #### The split -/

/-- The record and the source of a split. -/
def State.splitTold (s : State) (us n : Nat) : State :=
  (s.recordMgmt 0 0x31 0 0x041 (layout [(4, us), (4, n), (1, s.get Reg.leaseState), (1, s.get Reg.leasePolicy),
    (2, 0), (4, rowBits (fun r => s.rowLen r != 0 && s.rowState r == 0)), (8, 0)])).raise 0 0x041 0

theorem State.declareSplit_eq : s.declareSplit =
    ((((s.setMirror .split).splitTold ((s.now - s.mirror.downAt.getD s.now) / 250) s.mirror.retain.length).modMirror
      (fun m => { m with takeoverAt := none })).fenceRows).autoTakeover := rfl

theorem State.event_splitTold (us n : Nat) : (s.splitTold us n).outside .event = s.outside .event :=
  (State.event_raise _ _ _ _).trans (State.event_recordMgmt _ _ _ _ _ _)

theorem State.tally_splitTold (us n : Nat) : State.tally 0x041 (s.splitTold us n) = sat 255 (State.tally 0x041 s + 1) := by
  have recorded := State.tally_recordMgmt (k := 0x041) s (by decide) (by decide) 0 0x31 0 0x041
    (layout [(4, us), (4, n), (1, s.get Reg.leaseState), (1, s.get Reg.leasePolicy),
      (2, 0), (4, rowBits (fun r => s.rowLen r != 0 && s.rowState r == 0)), (8, 0)])
  refine (State.count_raise _ 0 0x041 0).trans ?_
  rw [State.bump, State.get_set_same]
  exact congrArg (fun x => sat 255 (x + 1)) recorded

/-- `Footprint.marks` without the lease: what parts the sides. -/
def Footprint.parted : Footprint := Footprint.durable.plus
  [Reg.mirrorState, Reg.greenBytes, Reg.yellowBytes, Reg.redBytes] [.mirror, .flow]

theorem State.parted_setMirror_split : (s.setMirror .split).outside .parted = s.outside .parted := by
  have marked : (s.mirrorEnters .split).outside .parted = s.outside .parted := by
    refine State.outside_ite _ ?_ (State.outside_set _ _ _ _ _ (by decide))
    unfold State.markAll
    dsimp only
    rw [State.frame_removeEntries _ _ _ (by decide), State.outside_modMirror _ _ _ (by decide), State.frame_markCopies _ _ (by decide),
      State.outside_set _ _ _ _ _ (by decide)]
  rw [State.setMirror_eq]
  exact State.outside_ite _ rfl ((State.frame_mirrorTold _ _ _ (by decide)).trans marked)

/-- The rows of a split, and the takeover that may be asked for. -/
theorem State.splitEnds (state : s.mirrorState = .split) :
    (s.fenceRows.autoTakeover).mirror = { s.mirror with
      rowNext := s.fenceRows.mirror.rowNext
      takeoverReq := if s.get Reg.autoTakeover = 1 ∧ s.get Reg.witnessNode ≠ 0 then s.nextReq else s.mirror.takeoverReq
      takeoverAt := if s.get Reg.autoTakeover = 1 ∧ s.get Reg.witnessNode ≠ 0 then some s.now else s.mirror.takeoverAt } ∧
    (∀ r, r < 16 → s.ownsRow r = true → s.rowState r ≠ 2 → Tbl.find s.fenceRows.mirror.rowNext r = some
      (b2n (s.get Reg.leaseState == 3 || (s.get Reg.leaseState != 1 && s.get Reg.leasePolicy == 0)))) := by
  have frame := State.frame_fenceRows s (f := ⟨[], [.mirror]⟩) (by decide)
  have mirror := State.mirror_fenceRows s
  have fenced := State.rowsFenced_fenceRows s state
  rw [State.leaseState_fenceRows] at fenced
  refine ⟨?_, fenced⟩
  rw [State.mirror_autoTakeover, State.get_of_outside frame _ _ (by decide), State.get_of_outside frame _ _ (by decide),
    State.now_of_outside frame (by decide)]
  have next : s.fenceRows.nextReq = s.nextReq := by
    unfold State.nextReq
    rw [mirror]
  rw [next]
  generalize s.fenceRows.mirror.rowNext = rows at mirror ⊢
  rw [mirror]
  split <;> rfl

/-- An interrupted pair splits. -/
theorem State.declareSplit_effect (was : s.mirrorState = .interrupted) :
    s.declareSplit.mirrorState = .split ∧ s.declareSplit.mirror.retain = [] ∧
    (∀ c ∈ s.mirror.retain, s.declareSplit.mirror.map.mem c.seg = true) ∧
    s.declareSplit.get Reg.mgmtCount 0x041 = sat 255 (s.get Reg.mgmtCount 0x041 + 1) ∧
    (∀ r, r < 16 → s.ownsRow r = true → s.rowState r ≠ 2 → Tbl.find s.declareSplit.mirror.rowNext r = some
      (b2n (s.get Reg.leaseState == 3 || (s.get Reg.leaseState != 1 && s.get Reg.leasePolicy == 0)))) ∧
    (s.get Reg.autoTakeover = 1 → s.get Reg.witnessNode ≠ 0 → s.declareSplit.mirror.takeoverReq = s.nextReq) ∧
    s.declareSplit.outside .mirrors = s.outside .mirrors := by
  have other : s.mirrorState ≠ .split := by simp [was]
  have parts := State.setMirror_parts s other (.inl rfl)
  have state := State.mirrorState_setMirror s .split
  have frame := State.parted_setMirror_split s
  have tally := State.tally_setMirror_split (k := 0x041) s (by decide) (by decide)
  rw [State.declareSplit_eq]
  generalize (s.now - s.mirror.downAt.getD s.now) / 250 = us
  generalize s.setMirror .split = m at parts state frame tally
  have told := State.event_splitTold m us s.mirror.retain.length
  have tally' := State.tally_splitTold m us s.mirror.retain.length
  generalize m.splitTold us s.mirror.retain.length = v at told tally'
  have mirror : (v.modMirror (fun m => { m with takeoverAt := none })).mirror = { m.mirror with takeoverAt := none } :=
    congrArg (fun m : Mirror => { m with takeoverAt := none }) (State.mirror_of_outside told (by decide))
  have frame' : (v.modMirror (fun m => { m with takeoverAt := none })).outside .parted = s.outside .parted :=
    (State.outside_modMirror _ _ _ (by decide)).trans ((State.outside_le (by decide) told).trans frame)
  have state' : (v.modMirror (fun m => { m with takeoverAt := none })).mirrorState = .split :=
    (State.mirrorState_of_outside told (by decide)).trans state
  have tally'' : State.tally 0x041 (v.modMirror (fun m => { m with takeoverAt := none })) = sat 255 (State.tally 0x041 s + 1) :=
    tally'.trans (congrArg (fun x => sat 255 (x + 1)) tally)
  generalize v.modMirror (fun m => { m with takeoverAt := none }) = w at mirror frame' state' tally''
  obtain ⟨ends, rows⟩ := State.splitEnds w state'
  have only : w.fenceRows.autoTakeover.outside (Footprint.none.plus [Reg.fieldFramesTx] [.mirror, .frames, .outbox]) =
      w.outside (Footprint.none.plus [Reg.fieldFramesTx] [.mirror, .frames, .outbox]) :=
    (State.frame_autoTakeover _ (by decide)).trans (State.frame_fenceRows _ (by decide))
  have get (r : Nat) (n : r ∉ Footprint.parted.regs) (i : Nat) : w.get r i = s.get r i := State.get_of_outside frame' r i n
  have req : w.nextReq = s.nextReq := by
    unfold State.nextReq
    rw [mirror, parts]
    rfl
  generalize w.fenceRows.mirror.rowNext = next at ends rows
  rw [mirror, parts, req, get _ (by decide), get _ (by decide)] at ends
  rw [get _ (by decide), get _ (by decide)] at rows
  generalize w.fenceRows.autoTakeover = t at ends only
  have field (φ : Mirror → Prop) (h : ∀ q a, φ { s.mirror.allMarked with rowNext := next, takeoverReq := q, takeoverAt := a }) :
      φ t.mirror := by
    rw [ends]
    exact h _ _
  refine ⟨(State.mirrorState_of_outside only (by decide)).trans state', field (fun m => m.retain = []) (fun _ _ => rfl),
    fun c hc => field (fun m => m.map.mem c.seg = true) (fun _ _ => Mirror.mem_allMarked (.inr ⟨c, hc, rfl⟩)),
    (State.get_of_outside only _ _ (by decide)).trans tally'', fun r lt own free => ?_, fun auto node => ?_,
    (State.outside_le (by decide) only).trans (State.outside_le (by decide) frame')⟩
  · rw [ends]
    exact rows r lt ((State.ownsRow_congr (get _ (by decide) r) (get _ (by decide) r) (get _ (by decide) 0)).trans own)
      (by rw [State.rowState, get _ (by decide)]; exact free)
  · rw [ends]
    exact if_pos ⟨auto, node⟩

end

end Sys2Proof.Machine

namespace Sys2Proof.Machine

section
variable (s : State)

/-! #### MSTATE (R133) -/

theorem State.setRow_owner (r : Nat) : s.setRow r 0 = s.set Reg.rangeState r 0 := if_neg (fun h => h.2 rfl)

/-- A row that the partner hands over. -/
def State.rowGiven (s : State) (r g o : Nat) : State :=
  (((s.set Reg.rangeOwner r o).set Reg.rangeGeneration r g).set Reg.rangeState r 0).sendPartner
    { op := 0x56, flags := 1, p1 := r + 16 * g + o * 9223372036854775808 }

/-- A row that the partner has taken over, and the request that waited for it. -/
def State.rowGone (s : State) (r g o : Nat) (who : Requester) : State :=
  (((s.set Reg.rangeOwner r o).set Reg.rangeGeneration r g).modMirror (fun m => { m with handover := none })).finish
    who Reg.rangeCommand .ok

variable {s} {r g o : Nat}

theorem State.gotMstate_other {c : Bool} (h : g ≠ (s.get Reg.rangeGeneration r + 1) % 4294967296 ∨ s.cutPassed = true) :
    s.gotMstate c r g o = s := if_pos h

variable (now : g = (s.get Reg.rangeGeneration r + 1) % 4294967296) (running : s.cutPassed = false)
include now running

theorem State.gotMstate_due : ¬ (g ≠ (s.get Reg.rangeGeneration r + 1) % 4294967296 ∨ s.cutPassed = true) := by
  rintro (h | h)
  · exact h now
  · exact Bool.false_ne_true (running.symm.trans h)

theorem State.gotMstate_given : s.gotMstate false r g o =
    if o = s.side ∧ s.ownsRow r = false ∧ s.rowLen r ≠ 0 ∧ s.mirrorState ≠ .split then s.rowGiven r g o else s := by
  unfold State.gotMstate
  dsimp only
  rw [if_neg (State.gotMstate_due now running), State.setRow_owner]
  rfl

theorem State.gotMstate_gone : s.gotMstate true r g o = s.mirror.handover.elim s (fun h =>
    if h.row = r ∧ h.sentAt.isSome = true ∧ o = 1 - s.side then s.rowGone r g o h.who else s) := by
  unfold State.gotMstate
  dsimp only
  rw [if_neg (State.gotMstate_due now running)]
  cases s.mirror.handover <;> rfl

end

theorem State.config_rowGiven (s : State) (r g o : Nat) : (s.rowGiven r g o).lexicon.config = s.lexicon.config :=
  (State.config_of_outside (s := ((s.set Reg.rangeOwner r o).set Reg.rangeGeneration r g).set Reg.rangeState r 0) (f := .message)
    (State.message_sendPartner _ _) (by decide)).trans rfl

theorem State.config_rowGone (s : State) (r g o : Nat) (who : Requester) :
    (s.rowGone r g o who).lexicon.config = s.lexicon.config := State.config_finish _ _ _ _

/-- An MSTATE once the side takes the partner's messages. -/
theorem exec_mstate_taken {s u t : State} {pl : Fin 2} {c : Bool} {r : Fin 16} {g : Nat} {o : Fin 2} (awake : s.awake = true)
    (reached : s.image ≠ .restoring ∨ s.windowsOpen = true) (hu : u = s.consume (16 + pl.val) (fun m => m.op == 0x56))
    (does : u.gotMstate c r.val g o.val = t) (idle : t.lexicon.config = none) :
    exec (.mstate pl c r g o) s = .next (s.after t) := by
  rw [exec_mstate_awake pl c r g o awake, State.untilOpen_consume reached, ← hu, does, State.runConfig_none _ idle]

/-- The queue of SIGNED_CONFIG and the registers of a state that has lost a message of a link. -/
theorem State.consumed {s u : State} {l : Nat} {hit : Msg → Bool} (hu : u = s.consume l hit) :
    u.outside ⟨[], [.links]⟩ = s.outside ⟨[], [.links]⟩ := hu ▸ State.links_consume _ _ _

/-- MSTATE gives a row, takes one, or changes nothing. -/
theorem mstate_clauses (pl : Fin 2) (r : Fin 16) (s u : State) (awake : s.awake = true) (idle : s.lexicon.config = none)
    (hu : u = s.consume (16 + pl.val) (fun m => m.op == 0x56)) :
    (∀ c g o, s.image = .restoring → s.windowsOpen = false →
      exec (.mstate pl c r g o) s = .next (s.after (u.sendMnak 3 0 r.val))) ∧
    (∀ c g (o : Fin 2), s.image ≠ .restoring ∨ s.windowsOpen = true →
      (g ≠ (s.get Reg.rangeGeneration r.val + 1) % 4294967296 ∨ s.cutPassed = true →
        exec (.mstate pl c r g o) s = .next (s.after u)) ∧
      (g = (s.get Reg.rangeGeneration r.val + 1) % 4294967296 → s.cutPassed = false →
        (s.side = o.val → s.ownsRow r.val = false → s.rowLen r.val ≠ 0 → s.mirrorState ≠ .split →
          exec (.mstate pl false r g o) s = .next (s.after
            ((((u.set Reg.rangeOwner r.val o.val).set Reg.rangeGeneration r.val g).set Reg.rangeState r.val 0).sendPartner
              { op := 0x56, flags := 1, p1 := r.val + 16 * g + o.val * 9223372036854775808 }))) ∧
        (s.side ≠ o.val ∨ s.ownsRow r.val = true ∨ s.rowLen r.val = 0 ∨ s.mirrorState = .split →
          exec (.mstate pl false r g o) s = .next (s.after u)) ∧
        (∀ h, s.mirror.handover = some h → h.row = r.val → h.sentAt.isSome = true → o.val = 1 - s.side →
          exec (.mstate pl true r g o) s = .next (s.after
            ((((u.set Reg.rangeOwner r.val o.val).set Reg.rangeGeneration r.val g).modMirror (fun m => { m with
              handover := none })).finish h.who Reg.rangeCommand .ok))) ∧
        (∀ h, s.mirror.handover = some h → h.row ≠ r.val ∨ h.sentAt = none ∨ o.val ≠ 1 - s.side →
          exec (.mstate pl true r g o) s = .next (s.after u)) ∧
        (s.mirror.handover = none → exec (.mstate pl true r g o) s = .next (s.after u)))) := by
  have links := State.consumed hu
  have uidle : u.lexicon.config = none := (State.config_of_outside links (by decide)).trans idle
  refine ⟨fun c g o image closed => ?_, fun c g o reached => ⟨fun h => ?_, fun now running => ?_⟩⟩
  · rw [exec_mstate_awake pl c r g o awake, State.untilOpen_consume_restarting image closed, ← hu, State.runConfig_none]
    exact (State.config_of_outside (f := .message) (State.message_sendPartner _ _) (by decide)).trans uidle
  · refine exec_mstate_taken awake reached hu (State.gotMstate_other ?_) uidle
    rwa [State.get_of_outside links _ _ (by decide), State.cutPassed_of_outside links (by decide) (by decide)]
  · have unow : g = (u.get Reg.rangeGeneration r.val + 1) % 4294967296 := by rwa [State.get_of_outside links _ _ (by decide)]
    have urunning : u.cutPassed = false := (State.cutPassed_of_outside links (by decide) (by decide)).trans running
    have side : u.side = s.side := State.get_of_outside links _ _ (by decide)
    have len : u.rowLen r.val = s.rowLen r.val := State.get_of_outside links _ _ (by decide)
    have own : u.ownsRow r.val = s.ownsRow r.val := State.ownsRow_congr len (State.get_of_outside links _ _ (by decide)) side
    have state := State.mirrorState_of_outside links (by decide)
    have mirror := State.mirror_of_outside links (by decide)
    have given := State.gotMstate_given (o := o.val) unow urunning
    have gone := State.gotMstate_gone (o := o.val) unow urunning
    rw [side, own, len, state] at given
    rw [side, mirror] at gone
    refine ⟨fun us other held apart => ?_, fun h => ?_, fun h some row sent them => ?_, fun h some h' => ?_, fun none => ?_⟩
    · exact exec_mstate_taken awake reached hu (given.trans (if_pos ⟨us.symm, other, held, apart⟩))
        ((State.config_rowGiven _ _ _ _).trans uidle)
    · refine exec_mstate_taken awake reached hu (given.trans (if_neg ?_)) uidle
      rintro ⟨a, b, c, d⟩
      obtain h | h | h | h := h
      · exact h a.symm
      · exact Bool.false_ne_true (b.symm.trans h)
      · exact c h
      · exact d h
    · rw [some] at gone
      exact exec_mstate_taken awake reached hu (gone.trans (if_pos ⟨row, sent, them⟩)) ((State.config_rowGone _ _ _ _ _).trans uidle)
    · rw [some] at gone
      refine exec_mstate_taken awake reached hu (gone.trans (if_neg ?_)) uidle
      rintro ⟨a, b, c⟩
      obtain h' | h' | h' := h'
      · exact h' a
      · rw [h'] at b
        exact Bool.false_ne_true b
      · exact h' c
    · rw [none] at gone
      exact exec_mstate_taken awake reached hu gone uidle

/-! #### Notices -/

theorem State.partnerAway_after {s t : State} (h : s.partnerAway t) : s.partnerAway (s.after t) := by
  obtain ⟨a, b, c, d, e, f, only⟩ := h
  exact ⟨a, b, c, d, e, f, State.changesOnly_after _ _ only⟩

theorem State.awayNotice_idle {s u : State} (links : u.outside ⟨[], [.links]⟩ = s.outside ⟨[], [.links]⟩)
    (h : s.mirrorState = .unpaired ∨ s.mirrorState = .peerAway ∨ s.cutPassed = true) :
    (if u.mirrorState = .unpaired ∨ u.cutPassed = true then u else u.peerAway) = u := by
  have state := State.mirrorState_of_outside links (by decide)
  have cut := State.cutPassed_of_outside links (by decide) (by decide)
  obtain h | h | h := h
  · exact if_pos (.inl (state.trans h))
  · exact (congrArg (fun x => if u.mirrorState = .unpaired ∨ u.cutPassed = true then u else x)
      (if_pos (state.trans h) : u.peerAway = u)).trans (ite_self _)
  · exact if_pos (.inr (cut.trans h))

theorem State.awayNotice_goes {s u : State} (links : u.outside ⟨[], [.links]⟩ = s.outside ⟨[], [.links]⟩)
    (pair : s.mirrorState ≠ .unpaired) (running : s.cutPassed = false) :
    (if u.mirrorState = .unpaired ∨ u.cutPassed = true then u else u.peerAway) = u.peerAway := by
  refine if_neg ?_
  rw [State.mirrorState_of_outside links (by decide), State.cutPassed_of_outside links (by decide) (by decide)]
  rintro (h | h)
  · exact pair h
  · exact Bool.false_ne_true (running.symm.trans h)

theorem State.wakes {s u : State} {l : Nat} {hit : Msg → Bool} (hu : u = s.consume l hit) :
    (u.wake 11).mirrorState = s.mirrorState :=
  (State.mirrorState_of_outside (State.event_wake u 11) (by decide)).trans (State.mirrorState_of_outside (State.consumed hu) (by decide))

/-- Settles O30: a row that is handed over or confirmed, the partner that goes away, its map, and the split. -/
theorem pairsHandOverAndSplit : Obligations.PairsHandOverAndSplit := by
  refine ⟨mstate_clauses, fun pl s u v awake hu hv => ⟨fun image closed => ⟨fun e => ?_, fun e => ?_, fun f b => ?_⟩,
    fun reached => ⟨fun h => ⟨fun e => ?_, ?_⟩, fun pair other running => ⟨fun e => ?_, ?_⟩, fun h => ?_, fun h => ?_, fun f b => ?_⟩⟩,
    fun s awake => ⟨fun free state due => ?_, fun h => ?_⟩⟩
  · rw [exec_cutNotice_awake pl e awake, State.untilOpen_consume_restarting image closed]
  · rw [exec_holdNotice_awake pl e awake, State.untilOpen_consume_restarting image closed, ← hu]
  · rw [exec_rmap_awake pl f b awake, State.untilOpen_consume_restarting image closed, ← hv]
  · have links := State.links_consume s (16 + pl.val) (fun m => m.op == 0x57)
    rw [exec_cutNotice_awake pl e awake, State.untilOpen_consume reached]
    refine congrArg (fun x => Host.Outcome.next (s.after x)) ?_
    exact State.awayNotice_idle links h
  · have links := State.consumed hu
    rw [exec_holdNotice_awake pl true awake, State.untilOpen_consume reached, ← hu, if_pos rfl]
    exact congrArg (fun x => Host.Outcome.next (s.after x)) (State.awayNotice_idle links h)
  · have links := State.links_consume s (16 + pl.val) (fun m => m.op == 0x57)
    have effect := exec_cutNotice_awake (s := s) pl e awake
    rw [State.untilOpen_consume reached, State.awayNotice_goes links pair running] at effect
    exact ⟨_, effect, State.partnerAway_after (State.partnerAway_of_links links (State.partnerAway_peerAway _
      (by rwa [State.mirrorState_of_outside links (by decide)])))⟩
  · have links := State.consumed hu
    have effect := exec_holdNotice_awake (s := s) pl true awake
    rw [State.untilOpen_consume reached, ← hu, if_pos rfl, State.awayNotice_goes links pair running] at effect
    exact ⟨_, effect, State.partnerAway_after (State.partnerAway_of_links links (State.partnerAway_peerAway _
      (by rwa [State.mirrorState_of_outside links (by decide)])))⟩
  · rw [exec_holdNotice_awake pl false awake, State.untilOpen_consume reached, ← hu, if_neg Bool.false_ne_true, State.holdLeft,
      if_neg (by rwa [State.wakes hu])]
  · rw [exec_holdNotice_awake pl false awake, State.untilOpen_consume reached, ← hu, if_neg Bool.false_ne_true, State.holdLeft,
      if_pos (by rwa [State.wakes hu])]
  · have links := State.consumed hv
    have effect := exec_rmap_awake (s := s) pl f b awake
    rw [State.untilOpen_consume reached, ← hv] at effect
    obtain ⟨marked, kept, retain⟩ := State.mapJoined_effect v f b
    have owns : v.ownsRow = s.ownsRow := funext fun r => State.ownsRow_congr (State.get_of_outside links _ _ (by decide))
      (State.get_of_outside links _ _ (by decide)) (State.get_of_outside links _ _ (by decide))
    simp only [State.rowOf_of_outside links (by decide), owns] at marked
    rw [State.mirror_of_outside links (by decide)] at kept retain
    have frame := (State.frame_mapJoined v f b (g := Footprint.mirrors.plus [] [.links]) (by decide)).trans
      (State.outside_le (by decide) links)
    generalize v.mapJoined f b = t at effect marked kept retain frame
    exact ⟨_, effect, marked, kept, retain, State.changesOnly_after _ _ frame⟩
  · have effect := exec_splitDeclared_due awake free ⟨state, due⟩
    obtain ⟨a, b, c, d, e, f, only⟩ := State.declareSplit_effect s state
    generalize s.declareSplit = t at effect a b c d e f only
    exact ⟨_, effect, a, b, c, d, e, f, State.changesOnly_after _ _ only⟩
  · refine exec_splitDeclared_idle awake (h.imp id ?_)
    rintro h ⟨a, b⟩
    obtain h | h := h
    · exact h a
    · exact Bool.false_ne_true (h.symm.trans b)

end Sys2Proof.Machine

namespace Sys2Proof.Machine

/-! ### Segments touched and dirtied, and image accesses (R48, R88 to R91) -/

/-- What an image access may change: its entry, or its place among those that wait for their slice, with the touches. -/
def Footprint.touch : Footprint := Footprint.entries.plus
  [Reg.restoreHeldBytes, Reg.restoreTouches, Reg.restoreTouchPending] [.restore, .carriers]

/-- What an accepted write makes dirty, and what the governor makes of it. -/
def Footprint.dirty : Footprint := Footprint.message.plus [Reg.govDirty, Reg.govState] [.persist]

section
variable (s : State) {f : Footprint}

theorem State.frame_sendTouch (c g : Nat) (h : Footprint.touch.le f = true) : (s.sendTouch c g).outside f = s.outside f := by
  refine State.outside_le h ?_
  unfold State.sendTouch
  rw [State.frame_sendCarrier _ _ _ _ _ (by decide), State.outside_set _ _ _ _ _ (by decide), State.outside_modCar _ _ _ _ (by decide)]

theorem State.frame_touchSegment (g : Nat) (h : Footprint.touch.le f = true) : (s.touchSegment g).outside f = s.outside f := by
  refine State.outside_le h (State.outside_ite _ rfl ?_)
  dsimp only
  rw [State.outside_each _ _ _ _ (fun s c => ?_), State.outside_bump _ _ _ _ _ (by decide), State.outside_modRestore _ _ _ (by decide)]
  exact State.outside_ite _ rfl (State.outside_ite _ (State.outside_modRestore _ _ _ (by decide)) (State.frame_sendTouch _ _ _ (by decide)))

theorem State.frame_imageAccess (svc i : Nat) (w : Bool) (ia len : Nat) (data : List (Option Byte)) (b : Bool) (own : ReqOwner)
    (h : Footprint.touch.le f = true) : (s.imageAccess svc i w ia len data b own).outside f = s.outside f := by
  refine State.outside_le h (State.outside_ite _ (State.frame_enqueueImage _ _ _ _ _ _ _ _ _ (by decide)) ?_)
  rw [State.frame_touchSegment _ _ (by decide), State.frame_countHeld _ (by decide), State.outside_modRestore _ _ _ (by decide)]

theorem State.frame_dirtySegment (g : Nat) (h : Footprint.dirty.le f = true) : (s.dirtySegment g).outside f = s.outside f := by
  refine State.outside_le h (State.outside_ite _ rfl ?_)
  dsimp only
  rw [State.frame_govUpdateAll _ (by decide), State.outside_each _ _ _ _ (fun s c => State.frame_sendCarrier _ _ _ _ _ (by decide)),
    State.outside_modPersist _ _ _ (by decide)]

theorem State.frame_dirtySegments (l : List Nat) (h : Footprint.touch.le f = true) (k : Footprint.dirty.le f = true) :
    (s.dirtySegments l).outside f = s.outside f := by
  unfold State.dirtySegments
  dsimp only
  rw [State.outside_each _ _ _ _ (fun s g => State.frame_dirtySegment s g k),
    State.outside_each _ _ _ _ (fun s g => State.frame_touchSegment s _ h)]

/-- A segment that is written is dirty, and stays so. -/
theorem State.dirty_dirtySegment (g : Nat) : (s.dirtySegment g).persist.dirty = s.persist.dirty.add g ∨
    (s.persist.dirty.mem g = true ∧ s.dirtySegment g = s) := by
  unfold State.dirtySegment
  split
  · next h => exact .inr ⟨h, rfl⟩
  · left
    dsimp only
    have frame : (((s.modPersist (fun p => { p with dirty := p.dirty.add g })).each s.activeCarriers (fun s c =>
        s.sendCarrier c false (g % 2) { op := 0x11, p0 := s.get Reg.epoch, p1 := g })).govUpdateAll).outside
        (Footprint.message.plus [Reg.govDirty, Reg.govState] []) =
        (s.modPersist (fun p => { p with dirty := p.dirty.add g })).outside (Footprint.message.plus [Reg.govDirty, Reg.govState] []) := by
      rw [State.frame_govUpdateAll _ (by decide), State.outside_each _ _ _ _ (fun s c => State.frame_sendCarrier _ _ _ _ _ (by decide))]
    exact congrArg Persist.dirty (State.persist_of_outside frame (by decide))

theorem State.mem_dirtySegment {x : Nat} (g : Nat) (h : s.persist.dirty.mem x = true ∨ x = g) :
    (s.dirtySegment g).persist.dirty.mem x = true := by
  obtain added | ⟨was, same⟩ := State.dirty_dirtySegment s g
  · rw [added]
    exact SegSet.mem_add h
  · rw [same]
    obtain h | rfl := h
    · exact h
    · exact was

/-- Every segment of the addresses of a write is dirty. -/
theorem State.mem_dirtySegments {l : List Nat} {ia : Nat} (h : ia ∈ l) : (s.dirtySegments l).persist.dirty.mem (segmentOf ia) = true := by
  refine State.each_establishes (fun g s => s.persist.dirty.mem g = true) (fun s g => s.dirtySegment g)
    (fun s g => State.mem_dirtySegment s g (.inr rfl)) (fun s g x k => State.mem_dirtySegment s g (.inl k)) _ _ _ (.inl ?_)
  simp only [List.mem_eraseDups, List.mem_map]
  exact ⟨ia, h, rfl⟩

end

/-! ### A received copy (R136, R140) -/

section
variable (s : State)

theorem State.rxCopy_form {c : Instr} {pl : Fin 2} {resync last : Bool} {seq ia : Nat} {data : List Byte}
    (bad : s.copyForm resync ia data.length = false) : s.rxCopy c pl resync last seq ia data = s.copyLeaves pl resync seq := by
  unfold State.rxCopy
  rw [bad]
  rfl

theorem State.rxCopy_behind {c : Instr} {pl : Fin 2} {resync last : Bool} {seq ia : Nat} {data : List Byte}
    (good : s.copyForm resync ia data.length = true) (wait : s.mirror.rxWait ≠ []) :
    s.rxCopy c pl resync last seq ia data = s.modMirror (fun m => { m with rxWait := m.rxWait ++ [c] }) := by
  have some : s.mirror.rxWait.isEmpty = false := by simpa using wait
  unfold State.rxCopy
  rw [good, some]
  rfl

theorem State.rxCopy_head {c : Instr} {pl : Fin 2} {resync last : Bool} {seq ia : Nat} {data : List Byte}
    (good : s.copyForm resync ia data.length = true) (none : s.mirror.rxWait = []) :
    s.rxCopy c pl resync last seq ia data = (s.rxTake resync last seq ia data).elim
      (s.modMirror (fun m => { m with rxWait := [c] })) (fun t => t.copyLeaves pl resync seq) := by
  have wait : s.modMirror (fun m => { m with rxWait := m.rxWait ++ [c] }) = s.modMirror (fun m => { m with rxWait := [c] }) := by
    simp only [State.modMirror, none, List.nil_append]
  unfold State.rxCopy
  rw [good, none]
  cases s.rxTake resync last seq ia data with
  | none => exact wait
  | some t => rfl

theorem State.rxTake_refused {resync last : Bool} {seq ia e : Nat} {data : List Byte} (h : s.rxRefusal ia = some e) :
    s.rxTake resync last seq ia data = some (if resync then (s.sendMnak e seq ia).rcopyRefused seq
      else if (s.sendMnak e seq ia).govActive = false then s.sendMnak e seq ia
      else ((s.sendMnak e seq ia).modMirror (fun m => { m with rxSeen := m.rxSeen ++ [seq] })).sendMack) := by
  unfold State.rxTake
  rw [h]

theorem State.rxTake_good {resync last : Bool} {seq ia : Nat} {data : List Byte} (h : s.rxRefusal ia = none) :
    s.rxTake resync last seq ia data =
      if s.rxRepeat resync seq then
        some (if resync then s.sendRack else (s.modMirror (fun m => { m with mackDue := true })).sendMack)
      else if s.rxRoom (rxParts ia data) then
        some ((if resync then s.noteRcopy last seq ia else s).rxApply resync seq ia data)
      else none := by
  unfold State.rxTake
  rw [h]

/-- What an applied copy may change. -/
def Footprint.applied : Footprint := Footprint.message.plus [Reg.govDirty, Reg.govState, Reg.restoreHeldBytes,
  Reg.restoreTouches, Reg.restoreTouchPending, Reg.greenBytes, Reg.yellowBytes, Reg.redBytes]
  [.mirror, .persist, .restore, .carriers, .links, .flow]

/-- The copy is known, with its parts to come. -/
def State.rxNoted (s : State) (resync : Bool) (seq n : Nat) : State :=
  s.modMirror (fun m => { m with
    rx := m.rx ++ [⟨seq, n, resync⟩]
    rxSeen := if resync then m.rxSeen else m.rxSeen ++ [seq]
    rcopyRx := if resync then seq else m.rcopyRx })

theorem State.rxApply_eq (resync : Bool) (seq ia : Nat) (data : List Byte) : s.rxApply resync seq ia data =
    ((s.dirtySegments ((rxParts ia data).map (·.1))).rxNoted resync seq (rxParts ia data).length).each (rxParts ia data)
      (fun s p => s.imageAccess (if resync then 5 else 4) 0 true p.1 p.2.length (p.2.map some) false
        (if resync then .resyncWrite seq else .mirrorWrite seq)) := rfl

theorem State.frame_rxApply {f : Footprint} (resync : Bool) (seq ia : Nat) (data : List Byte) (h : Footprint.applied.le f = true) :
    (s.rxApply resync seq ia data).outside f = s.outside f := by
  refine State.outside_le h ?_
  rw [State.rxApply_eq, State.outside_each _ _ _ _ (fun s p => State.frame_imageAccess s _ _ _ _ _ _ _ _ (by decide))]
  exact (State.outside_modMirror _ _ _ (by decide)).trans (State.frame_dirtySegments _ _ (by decide) (by decide))

theorem mem_rxParts (ia : Nat) (data : List Byte) : ia ∈ (rxParts ia data).map (·.1) := by
  unfold rxParts
  dsimp only
  split <;> simp

/-- What an applied copy leaves: its parts are out, its sequence is seen, and its segment is dirty. -/
theorem State.rxApply_effect (resync : Bool) (seq ia : Nat) (data : List Byte) :
    (s.rxApply resync seq ia data).mirror = { s.mirror with
      rx := s.mirror.rx ++ [⟨seq, (rxParts ia data).length, resync⟩]
      rxSeen := if resync then s.mirror.rxSeen else s.mirror.rxSeen ++ [seq]
      rcopyRx := if resync then seq else s.mirror.rcopyRx } ∧
    (s.rxApply resync seq ia data).persist.dirty.mem (segmentOf ia) = true ∧
    (s.rxApply resync seq ia data).mirrorState = s.mirrorState := by
  have dirtied := State.mem_dirtySegments s (mem_rxParts ia data)
  have frame := State.frame_dirtySegments s ((rxParts ia data).map (·.1)) (f := Footprint.touch.plus
    [Reg.govDirty, Reg.govState] [.persist]) (by decide) (by decide)
  rw [State.rxApply_eq]
  generalize s.dirtySegments ((rxParts ia data).map (·.1)) = d at dirtied frame
  have access : ((d.rxNoted resync seq (rxParts ia data).length).each (rxParts ia data)
      (fun s p => s.imageAccess (if resync then 5 else 4) 0 true p.1 p.2.length (p.2.map some) false
        (if resync then .resyncWrite seq else .mirrorWrite seq))).outside .touch =
      (d.rxNoted resync seq (rxParts ia data).length).outside .touch :=
    State.outside_each _ _ _ _ (fun s p => State.frame_imageAccess s _ _ _ _ _ _ _ _ (by decide))
  have mirror := State.mirror_of_outside frame (by decide)
  refine ⟨?_, ?_, ?_⟩
  · rw [State.mirror_of_outside access (by decide), ← mirror]
    rfl
  · rw [State.persist_of_outside access (by decide)]
    exact dirtied
  · have same : d.mirrorState = s.mirrorState := State.mirrorState_of_outside frame (by decide)
    exact (State.mirrorState_of_outside access (by decide)).trans same

end

end Sys2Proof.Machine

namespace Sys2Proof.Machine

section
variable {s : State}

theorem exec_mcopy_awake (pl : Fin 2) (again : Bool) (seq ia : Nat) (data : List Byte) (awake : s.awake = true) :
    exec (.mcopy pl again seq ia data) s = .next (s.after
      (if s.image = .restoring ∧ s.windowsOpen = false then (s.copyLeaves pl false seq).sendMnak 3 seq ia
        else s.rxCopy (.mcopy pl again seq ia data) pl false false seq ia data)) := by
  rw [exec_mcopy, execMcopy]
  exact act_of_awake s _ awake

theorem exec_rcopy_awake (pl : Fin 2) (last : Bool) (seq ia : Nat) (data : List Byte) (awake : s.awake = true) :
    exec (.rcopy pl last seq ia data) s = .next (s.after
      (if s.image = .restoring ∧ s.windowsOpen = false then (s.copyLeaves pl true seq).sendMnak 3 seq ia
        else s.rxCopy (.rcopy pl last seq ia data) pl true last seq ia data)) := by
  rw [exec_rcopy, execRcopy]
  exact act_of_awake s _ awake

theorem exec_mcopy_open {pl : Fin 2} {again : Bool} {seq ia : Nat} {data : List Byte} {t : State} (awake : s.awake = true)
    (reached : s.image ≠ .restoring ∨ s.windowsOpen = true)
    (does : s.rxCopy (.mcopy pl again seq ia data) pl false false seq ia data = t) :
    exec (.mcopy pl again seq ia data) s = .next (s.after t) := by
  rw [exec_mcopy_awake pl again seq ia data awake, if_neg, does]
  rintro ⟨image, closed⟩
  exact reached.elim (fun h => h image) (fun h => Bool.false_ne_true (closed.symm.trans h))

theorem exec_rcopy_open {pl : Fin 2} {last : Bool} {seq ia : Nat} {data : List Byte} {t : State} (awake : s.awake = true)
    (reached : s.image ≠ .restoring ∨ s.windowsOpen = true)
    (does : s.rxCopy (.rcopy pl last seq ia data) pl true last seq ia data = t) :
    exec (.rcopy pl last seq ia data) s = .next (s.after t) := by
  rw [exec_rcopy_awake pl last seq ia data awake, if_neg, does]
  rintro ⟨image, closed⟩
  exact reached.elim (fun h => h image) (fun h => Bool.false_ne_true (closed.symm.trans h))

end

section
variable (s : State)

theorem State.govActive_sendMnak (e seq ia : Nat) : (s.sendMnak e seq ia).govActive = s.govActive :=
  State.govActive_of_outside (f := .message) (State.message_sendPartner _ _) (by decide)

theorem State.links_copyLeaves (pl : Fin 2) (resync : Bool) (seq : Nat) :
    (s.copyLeaves pl resync seq).outside ⟨[], [.links]⟩ = s.outside ⟨[], [.links]⟩ := State.links_consume s _ _

/-- The segment of an RCOPY is marked on the partner. -/
theorem State.noteRcopy_effect (last : Bool) (seq ia : Nat) :
    (s.noteRcopy last seq ia).mirror.rx = s.mirror.rx ∧ (s.noteRcopy last seq ia).mirror.rxSeen = s.mirror.rxSeen ∧
    (s.noteRcopy last seq ia).mirror.peerMap.mem (segmentOf ia) = true ∧
    (s.noteRcopy last seq ia).mirrorState = (if s.mirrorState = .paired then .resync else s.mirrorState) ∧
    (s.noteRcopy last seq ia).outside (Footprint.mirrorState.plus [] [.mirror]) =
      s.outside (Footprint.mirrorState.plus [] [.mirror]) := by
  have kept {β : Type} (φ : Mirror → β) (b : β) (h : φ { s.mirror with
      peerMap := s.mirror.peerMap.add (segmentOf ia)
      peerLast := if last then s.mirror.peerLast ++ [(seq, segmentOf ia)] else s.mirror.peerLast
      rcopyStop := if ia % 2097152 = 0 then none else s.mirror.rcopyStop } = b) : φ (s.noteRcopy last seq ia).mirror = b :=
    State.keeps_ite (fun x => φ x.mirror) ((congrArg φ (State.mirror_mirrorTo _ _)).trans h) h
  refine ⟨kept (fun m => m.rx) _ rfl, kept (fun m => m.rxSeen) _ rfl,
    kept (fun m => m.peerMap.mem (segmentOf ia)) _ (SegSet.mem_add (.inr rfl)), ?_, ?_⟩
  · exact (apply_ite State.mirrorState _ _ _).trans (if_congr Iff.rfl (State.mirrorState_mirrorTo _ _) rfl)
  · exact State.outside_ite _ ((State.frame_mirrorTo _ _ (by decide)).trans (State.outside_modMirror _ _ _ (by decide)))
      (State.outside_modMirror _ _ _ (by decide))

end

/-- Settles O27: a copy that is answered, let go, kept waiting, refused, known or applied. -/
theorem copiesReceived : Obligations.CopiesReceived := by
  intro pl again seq ia data s awake
  refine ⟨fun image closed => ⟨?_, ?_⟩, fun reached => ⟨fun bad => ?_, fun bad => ?_, fun good wait => ?_, fun good wait => ?_,
    fun head => ⟨fun e refused => ⟨fun good idle => ?_, fun good active => ?_, fun good => ?_⟩, fun taken =>
      ⟨fun good known => ?_, fun good known => ?_, fun good new full => ?_, fun good new full => ?_, fun good new room => ?_,
        fun good new room => ?_⟩⟩⟩⟩
  · rw [exec_mcopy_awake pl again seq ia data awake, if_pos ⟨image, closed⟩]
  · rw [exec_rcopy_awake pl again seq ia data awake, if_pos ⟨image, closed⟩]
  · exact exec_mcopy_open awake reached (State.rxCopy_form s bad)
  · exact exec_rcopy_open awake reached (State.rxCopy_form s bad)
  · exact exec_mcopy_open awake reached (State.rxCopy_behind s good wait)
  · exact exec_rcopy_open awake reached (State.rxCopy_behind s good wait)
  · refine exec_mcopy_open awake reached ((State.rxCopy_head s good head).trans ?_)
    rw [State.rxTake_refused s refused, State.govActive_sendMnak, idle, if_neg Bool.false_ne_true, if_pos rfl, Option.elim_some]
  · refine exec_mcopy_open awake reached ((State.rxCopy_head s good head).trans ?_)
    rw [State.rxTake_refused s refused, State.govActive_sendMnak, active, if_neg Bool.false_ne_true, if_neg (by decide), Option.elim_some]
  · refine exec_rcopy_open awake reached ((State.rxCopy_head s good head).trans ?_)
    rw [State.rxTake_refused s refused, if_pos rfl, Option.elim_some, State.rcopyRefused]
  · refine exec_mcopy_open awake reached ((State.rxCopy_head s good head).trans ?_)
    rw [State.rxTake_good s taken, known, if_pos rfl, if_neg Bool.false_ne_true, Option.elim_some]
  · refine exec_rcopy_open awake reached ((State.rxCopy_head s good head).trans ?_)
    rw [State.rxTake_good s taken, known, if_pos rfl, if_pos rfl, Option.elim_some]
  · refine exec_mcopy_open awake reached ((State.rxCopy_head s good head).trans ?_)
    rw [State.rxTake_good s taken, new, full, if_neg Bool.false_ne_true, if_neg Bool.false_ne_true, Option.elim_none]
  · refine exec_rcopy_open awake reached ((State.rxCopy_head s good head).trans ?_)
    rw [State.rxTake_good s taken, new, full, if_neg Bool.false_ne_true, if_neg Bool.false_ne_true, Option.elim_none]
  · have effect := exec_mcopy_open (pl := pl) (again := again) (seq := seq) awake reached (State.rxCopy_head s good head)
    rw [State.rxTake_good s taken, new, room, if_neg Bool.false_ne_true, if_pos rfl, if_neg Bool.false_ne_true,
      Option.elim_some] at effect
    obtain ⟨mirror, dirty, _⟩ := State.rxApply_effect s false seq ia data
    have frame := State.frame_rxApply s (f := .applied) false seq ia data (by decide)
    generalize s.rxApply false seq ia data = t at effect mirror dirty frame
    have links := State.links_copyLeaves t pl false seq
    have left := (State.mirror_of_outside links (by decide)).trans mirror
    have still := State.persist_of_outside links (by decide)
    have only := (State.outside_le (by decide) links).trans frame
    generalize t.copyLeaves pl false seq = v at effect left still only
    exact ⟨_, effect, congrArg (fun m => m.rx) left, congrArg (fun m => m.rxSeen) left, still ▸ dirty, State.changesOnly_after _ _ only⟩
  · have effect := exec_rcopy_open (pl := pl) (last := again) (seq := seq) awake reached (State.rxCopy_head s good head)
    rw [State.rxTake_good s taken, new, room, if_neg Bool.false_ne_true, if_pos rfl, if_pos rfl, Option.elim_some] at effect
    obtain ⟨rx, seen, peer, state, noted⟩ := State.noteRcopy_effect s again seq ia
    generalize s.noteRcopy again seq ia = n at effect rx seen peer state noted
    obtain ⟨mirror, dirty, state'⟩ := State.rxApply_effect n true seq ia data
    have frame := (State.frame_rxApply n (f := Footprint.applied.plus [Reg.mirrorState] []) true seq ia data (by decide)).trans
      (State.outside_le (by decide) noted)
    generalize n.rxApply true seq ia data = t at effect mirror dirty state' frame
    have links := State.links_copyLeaves t pl true seq
    have left := (State.mirror_of_outside links (by decide)).trans mirror
    have still := State.persist_of_outside links (by decide)
    have state'' := (State.mirrorState_of_outside links (by decide)).trans (state'.trans state)
    have only := (State.outside_le (by decide) links).trans frame
    generalize t.copyLeaves pl true seq = v at effect left still state'' only
    refine ⟨_, effect, congrArg (fun m => m.rcopyRx) left, ?_, ?_, still ▸ dirty, ?_, state'', ?_⟩
    · rw [← rx]
      exact congrArg (fun m => m.rx) left
    · rw [← seen]
      exact congrArg (fun m => m.rxSeen) left
    · have map := congrArg (fun m => m.peerMap) left
      exact (congrArg (fun m => m.mem (segmentOf ia)) map).trans peer
    · exact State.changesOnly_after _ _ (State.outside_le (by decide) only)

end Sys2Proof.Machine

namespace Sys2Proof.Machine

/-! ### Patrol, sensors, re-plan and AVS (R410, R416, R418, R419) -/

section
variable (s : State)

/-- A reading is kept in its own place. -/
theorem State.get_reading (n v j : Nat) (hn : n < 4294967296) (hj : j < 4294967296) :
    (s.reading n v).get Reg.sensorValue j = if n = j then v % 4294967296 else s.get Reg.sensorValue j := by
  rw [State.reading, State.get_set_register _ _ _ _ (by decide)]
  split
  case isTrue h => rw [h, State.get_set_same]
  case isFalse h => exact State.get_set_other _ _ _ _ _ _ (Reg.key_ne _ _ _ _ hn hj (.inr h))

theorem State.get_readings_before {n j : Nat} (l : List Nat) (small : n + l.length < 4294967296) (lt : j < n) :
    (s.readings n l).get Reg.sensorValue j = s.get Reg.sensorValue j := by
  induction l generalizing n s with
  | nil => rfl
  | cons v l ih =>
    rw [List.length_cons] at small
    rw [State.readings, ih (s.reading n v) (by omega) (by omega), State.get_reading _ _ _ _ (by omega) (by omega),
      if_neg (by omega)]

/-- Readings are kept in their places. -/
theorem State.get_readings {n j : Nat} (l : List Nat) (small : n + l.length < 4294967296) (lt : j < l.length) :
    (s.readings n l).get Reg.sensorValue (n + j) = l.getD j 0 % 4294967296 := by
  induction l generalizing n j s with
  | nil => exact absurd lt (Nat.not_lt_zero j)
  | cons v l ih =>
    rw [List.length_cons] at small lt
    rw [State.readings]
    cases j with
    | zero =>
      have kept := State.get_readings_before (s.reading n v) (n := n + 1) (j := n) l (by omega) (Nat.lt_succ_self n)
      rw [State.get_reading _ _ _ _ (by omega) (by omega), if_pos rfl] at kept
      exact kept
    | succ j =>
      have rest := ih (s.reading n v) (n := n + 1) (j := j) (by omega) (by omega)
      rw [show n + 1 + j = n + (j + 1) by omega] at rest
      exact rest

end

section
variable {s : State} (awake : s.awake = true)
include awake

theorem exec_patrolPass_awake (sensors : List Nat) : exec (.patrolPass sensors) s = .next (s.after (s.patrolPass sensors)) := by
  rw [exec_patrolPass, execPatrolPass]
  exact act_of_awake s _ awake

theorem exec_sensorSample_awake (sensors : List Nat) (b : Bool) :
    exec (.sensorSample sensors b) s = .next (s.after (s.sensorSample sensors b)) := by
  rw [exec_sensorSample, execSensorSample]
  exact act_of_awake s _ awake

theorem exec_replan_awake (osc : List Nat) : exec (.replan osc) s = .next (s.after (s.replanDue osc)) := by
  rw [exec_replan, execReplan]
  exact act_of_awake s _ awake

theorem exec_avsStep_awake (ok : Bool) : exec (.avsStep ok) s = .next (s.after (s.avsStep ok)) := by
  rw [exec_avsStep, execAvsStep]
  exact act_of_awake s _ awake

theorem exec_avsRetry_awake (ok : Bool) : exec (.avsRetry ok) s = .next (s.after (s.avsRetry ok)) := by
  rw [exec_avsRetry, execAvsRetry]
  exact act_of_awake s _ awake

end

/-- A step of the voltage is at most 5 mV. -/
theorem toward_near (v target : Nat) : toward v target ≤ v + 5 ∧ v ≤ toward v target + 5 := by
  unfold toward
  split <;> omega

section
variable (s : State) (v : Nat)

/-- A write of the voltage that succeeds, without the source that it withdraws. -/
def State.avsWritten : State :=
  ((s.emit (.avs v)).modPower (fun p => { p with avsAt := s.now })).modPower (fun p => { p with avsMv := v, avsFails := 0 })

/-- A write of the voltage that fails. -/
def State.avsFailed : State :=
  let t := ((s.emit (.avs v)).modPower (fun p => { p with avsAt := s.now })).modPower (fun p => { p with avsFails := p.avsFails + 1 })
  if t.power.avsFails = 3 then t.raise 0 0x0E2 0 else t

theorem State.power_avsFailed :
    (s.avsFailed v).power = { s.power with avsAt := s.now, avsFails := s.power.avsFails + 1 } := by
  refine State.keeps_ite State.power ?_ rfl
  rw [State.power_of_outside (State.frame_raise (f := .event) _ _ _ _ (by decide)) (by decide)]
  rfl

end

/-- One write of the voltage. -/
theorem State.avsTransaction_effect (s : State) (ok : Bool) :
    (s.avsTransaction ok).power.avsAt = s.now ∧
    (ok = true → (s.avsTransaction ok).power.avsMv = toward s.power.avsMv (s.get Reg.avsTarget) ∧
      (s.avsTransaction ok).power.avsFails = 0) ∧
    (ok = false → (s.avsTransaction ok).power.avsMv = s.power.avsMv ∧
      (s.avsTransaction ok).power.avsFails = s.power.avsFails + 1 ∧
      (s.avsTransaction ok).get Reg.mgmtCount 0x0E2 = (if s.power.avsFails = 2 then
        (s.bump Reg.mgmtCount 0x0E2).get Reg.mgmtCount 0x0E2 else s.get Reg.mgmtCount 0x0E2)) ∧
    (s.avsTransaction ok).outside (Footprint.event.plus [] [.power]) = s.outside (Footprint.event.plus [] [.power]) := by
  generalize mv : toward s.power.avsMv (s.get Reg.avsTarget) = v
  have eq : s.avsTransaction ok = if ok then (s.avsWritten v).withdraw 0 0x0E2 else s.avsFailed v := by
    rw [State.avsTransaction, mv]
    rfl
  rw [eq]
  cases ok with
  | true =>
    have frame : ((s.avsWritten v).withdraw 0 0x0E2).outside .event = (s.avsWritten v).outside .event :=
      State.frame_withdraw _ _ _ (by decide)
    rw [if_pos rfl, State.power_of_outside frame (by decide)]
    refine ⟨rfl, fun _ => ⟨rfl, rfl⟩, nofun, ?_⟩
    rw [State.frame_withdraw _ _ _ (by decide)]
    exact (State.outside_modPower _ _ _ (by decide)).trans
      ((State.outside_modPower _ _ _ (by decide)).trans (State.outside_emit _ _ _ (by decide)))
  | false =>
    rw [if_neg Bool.false_ne_true]
    refine ⟨?_, nofun, fun _ => ?_, ?_⟩
    · rw [s.power_avsFailed]
    · refine ⟨by rw [s.power_avsFailed], by rw [s.power_avsFailed], ?_⟩
      by_cases third : s.power.avsFails = 2
      · rw [if_pos third, State.avsFailed]
        exact (congrArg (fun t => State.get t Reg.mgmtCount 0x0E2) (if_pos (congrArg (· + 1) third))).trans
          (State.count_raise _ 0 0x0E2 0)
      · rw [if_neg third, State.avsFailed]
        exact (congrArg (fun t => State.get t Reg.mgmtCount 0x0E2)
          (if_neg fun e : s.power.avsFails + 1 = 3 => third (Nat.succ.inj e))).trans rfl
    · have frame (t : State) (h : t = ((s.emit (.avs v)).modPower (fun p => { p with avsAt := s.now })).modPower
          (fun p => { p with avsFails := p.avsFails + 1 })) :
          t.outside (Footprint.event.plus [] [.power]) = s.outside (Footprint.event.plus [] [.power]) := by
        rw [h]
        exact (State.outside_modPower _ _ _ (by decide)).trans
          ((State.outside_modPower _ _ _ (by decide)).trans (State.outside_emit _ _ _ (by decide)))
      rw [State.avsFailed]
      exact State.outside_ite _ ((State.frame_raise _ _ _ _ (by decide)).trans (frame _ rfl)) (frame _ rfl)

/-- The transaction as a command makes it. -/
theorem avs_next {s : State} {ok : Bool} {o : Host.Outcome State Fault Refusal}
    (eq : o = .next (s.after (s.avsTransaction ok))) :
    ∃ t, o = .next t ∧ t.power.avsAt = s.now ∧
      (ok = true → t.power.avsMv = toward s.power.avsMv (s.get Reg.avsTarget) ∧ t.power.avsFails = 0) ∧
      (ok = false → t.power.avsMv = s.power.avsMv ∧ t.power.avsFails = s.power.avsFails + 1 ∧
        t.get Reg.mgmtCount 0x0E2 = (if s.power.avsFails = 2 then (s.bump Reg.mgmtCount 0x0E2).get Reg.mgmtCount 0x0E2
          else s.get Reg.mgmtCount 0x0E2)) ∧
      s.changesOnly t (Footprint.event.plus [] [.power]) := by
  obtain ⟨written, done, failed, frame⟩ := s.avsTransaction_effect ok
  generalize s.avsTransaction ok = t at *
  exact ⟨_, eq, written, done, failed, State.changesOnly_after _ _ frame⟩

section
variable {s : State} (awake : s.awake = true) (ok : Bool)
include awake

theorem exec_avsStep_due (due : s.power.avsFails < 3 ∧ s.power.avsMv ≠ s.get Reg.avsTarget ∧
    s.due (s.power.avsAt + 8192) = true) : exec (.avsStep ok) s = .next (s.after (s.avsTransaction ok)) := by
  rw [exec_avsStep_awake awake, State.avsStep, show 128 * 64 = 8192 from rfl, if_pos due]

theorem exec_avsStep_early (early : ¬ (s.power.avsFails < 3 ∧ s.power.avsMv ≠ s.get Reg.avsTarget ∧
    s.due (s.power.avsAt + 8192) = true)) : exec (.avsStep ok) s = .next (s.after s) := by
  rw [exec_avsStep_awake awake, State.avsStep, show 128 * 64 = 8192 from rfl, if_neg early]

theorem exec_avsRetry_due (due : 3 ≤ s.power.avsFails ∧ s.due (s.power.avsAt + 262144) = true) :
    exec (.avsRetry ok) s = .next (s.after (s.avsTransaction ok)) := by
  rw [exec_avsRetry_awake awake, State.avsRetry, show 128 * 2048 = 262144 from rfl, if_pos due]

theorem exec_avsRetry_early (early : ¬ (3 ≤ s.power.avsFails ∧ s.due (s.power.avsAt + 262144) = true)) :
    exec (.avsRetry ok) s = .next (s.after s) := by
  rw [exec_avsRetry_awake awake, State.avsRetry, show 128 * 2048 = 262144 from rfl, if_neg early]

end

/-! #### The caps of the links -/

section
variable (s : State)

/-- A value that is given to every place of a list stands at each. -/
theorem State.get_setAll (r v : Nat) {l : List Nat} {u : Nat} (h : u ∈ l) : (s.each l (fun s u => s.set r u v)).get r u = v := by
  refine State.each_establishes (fun u s => s.get r u = v) (fun s u => s.set r u v) (fun s a => State.get_set_same _ _ _ _)
    (fun s a b h => ?_) s l u (.inl h)
  rw [State.get_set]
  split
  · rfl
  · exact h

theorem State.config_settleCaps (l : List Nat) : ((s.each l (fun s u => s.set Reg.linkRateCap u 5)).each l
    (fun s u => s.settleLink u)).lexicon.config = s.lexicon.config := by
  have settled := State.config_of_outside (f := .pause) (State.outside_each (s.each l (fun s u => s.set Reg.linkRateCap u 5)) _ l _
    (fun s u => State.frame_settleLink s u (by decide))) (by decide)
  have caps := State.keeps_each (fun s => s.lexicon.config) s l (fun s u => s.set Reg.linkRateCap u 5)
    (fun s u => by rw [State.set_lexicon])
  exact settled.trans caps

theorem State.config_restoreCaps : s.restoreCaps.lexicon.config = s.lexicon.config := by
  rw [State.restoreCaps, State.config_settleCaps]

theorem requestOf_restoreCaps (p : Path) :
    requestOf (.restoreCaps p) = some ⟨⟨p, Reg.replanCommand, 0xFFFFFFFF, false⟩, .plain, [1]⟩ :=
  congrArg some (Reg.ask_replanCommand p 0 [1] .plain)

theorem exec_restoreCaps_allowed {p : Path} (h : s.allows (.restoreCaps p) = true) :
    exec (.restoreCaps p) s = .next (s.after ((s.taken p).restoreCaps.emit (.lexAnswer p 0 []))) := by
  have idle : (s.taken p).restoreCaps.lexicon.config = none := (State.config_restoreCaps _).trans (State.config_taken s p h)
  have applied := State.apply_replanCommand (s.taken p) p (.direct p) .plain 0 [1]
  generalize (s.taken p).restoreCaps = v at idle applied
  rw [exec_restoreCaps, execRestoreCaps]
  exact State.direct_ok s (requestOf_restoreCaps p) h Reg.lookup_replanCommand applied idle

end

/-- Settles O52: each command is its own work when it is due (`State.get_readings` for what the samples leave,
`State.avsTransaction_effect` for the voltage), and nothing before. -/
theorem theChipIsWatched : Obligations.TheChipIsWatched := by
  unfold Obligations.TheChipIsWatched
  intro s
  refine ⟨fun awake => ⟨fun sensors k v due hdue hk hv => ?_, fun sensors b due v hdue hv => ?_,
    fun osc due v hdue hv => ?_, fun c ok due mv hc hmv => ?_⟩, fun p v h hv => ?_⟩
  · subst hdue hk hv
    rw [exec_patrolPass_awake awake, State.patrolPass]
    exact ⟨fun early => by rw [if_neg early], fun due => by rw [if_pos due]⟩
  · subst hdue hv
    rw [exec_sensorSample_awake awake, State.sensorSample, show 128 * 2048 = 262144 from rfl]
    refine ⟨fun early => by rw [if_neg early], fun due => ⟨fun n hn => ?_, by rw [if_pos due]⟩⟩
    obtain ⟨_, _, length⟩ := due
    have got := State.get_readings (s.modPower (fun p => { p with sampleAt := s.now })) (n := 0) (j := n) sensors
      (by omega) (by omega)
    rwa [Nat.zero_add] at got
  · subst hdue hv
    rw [exec_replan_awake awake, State.replanDue]
    refine ⟨fun early => by rw [if_neg early], fun due => ⟨fun n hn => ?_, by rw [if_pos due]⟩⟩
    obtain ⟨_, _, length⟩ := due
    exact State.get_readings _ osc (by omega) (by omega)
  · subst hmv
    refine ⟨toward_near _ _, ?_⟩
    obtain ⟨rfl, rfl⟩ | ⟨rfl, rfl⟩ := hc
    · exact ⟨fun early => exec_avsStep_early awake ok early, fun due => avs_next (exec_avsStep_due awake ok due)⟩
    · exact ⟨fun early => exec_avsRetry_early awake ok early, fun due => avs_next (exec_avsRetry_due awake ok due)⟩
  · subst hv
    exact ⟨fun u hu => State.get_setAll _ _ _ (List.mem_range.mpr hu), exec_restoreCaps_allowed s h⟩

end Sys2Proof.Machine

namespace Sys2Proof.Machine

/-! ### Training of the lanes (R380 to R388) -/

theorem bit_setBit_below (v : Nat) {i j : Nat} (lt : j < i) : bit (setBit v i true) j = bit v j := by
  unfold setBit
  split
  · rfl
  · obtain ⟨d, rfl⟩ := Nat.exists_eq_add_of_lt lt
    rw [if_pos rfl, bit, bit, show 2 ^ (j + d + 1) = 2 ^ j * (2 ^ d * 2) by ring,
      Nat.add_mul_div_left _ _ (Nat.two_pow_pos j), Nat.add_mul_mod_self_right]

/-- What every lane is when its link begins to train. -/
def State.laneBegins (s : State) (n : Nat) : State :=
  let s := s.laneBits n [(0, false), (1, false), (2, false), (3, false), (4, false), (6, false), (7, false)]
  (s.set Reg.txCoeff n (txCoeffOf (preset 0))).modLane n (fun l => { l with eqIter := 0, kept := none })

/-- What the training of a link is as it begins. -/
def Training.begins (t : Training) (now : Nat) : Training :=
  { t with step := 1, startAt := now, firstGoodAt := none, rate := 0, farRates := 0, good := 0, farGood := 0,
           readyLanes := 0, token := 0, eqPass := 0, eqDoneLanes := 0, failed := false, width := 0 }

section
variable (s : State) (u : Nat) {f : Footprint}

theorem State.train_of_outside {s t : State} {f : Footprint} (h : t.outside f = s.outside f) (n : Part.training ∉ f.parts)
    (u : Nat) : t.train u = s.train u :=
  congrArg (fun m => Tbl.getD m u Training.reset) (State.training_of_outside h n)

theorem State.lane_of_outside {s t : State} {f : Footprint} (h : t.outside f = s.outside f) (n : Part.lanes ∉ f.parts)
    (u : Nat) : t.lane u = s.lane u :=
  congrArg (fun m => Tbl.getD m u Lane.reset) (State.lanes_of_outside h n)

theorem State.frame_laneBegins (n : Nat) (h : Reg.laneStatus ∈ f.regs) (k : Reg.txCoeff ∈ f.regs) (p : Part.lanes ∈ f.parts) :
    (s.laneBegins n).outside f = s.outside f := by
  unfold State.laneBegins
  dsimp only
  rw [State.outside_modLane _ _ _ _ p, State.outside_set _ _ _ _ _ k, State.frame_laneBits _ _ _ h]

theorem State.trainBegin_eq : s.trainBegin u =
    ((((s.modTrain u (fun t => t.begins s.now)).bump Reg.trainings u).idleLanes (allLanes u)).each (allLanes u)
      State.laneBegins).sendCaps u := rfl

theorem State.txCoeff_laneBegins {n : Nat} {l : List Nat} (h : n ∈ l) :
    (s.each l State.laneBegins).get Reg.txCoeff n = txCoeffOf (preset 0) := by
  refine State.each_establishes (fun n s => s.get Reg.txCoeff n = txCoeffOf (preset 0)) State.laneBegins
    (fun s n => State.get_set_same _ _ _ _) (fun s a b h => ?_) s l n (.inl h)
  refine (State.get_set (s.laneBits a [(0, false), (1, false), (2, false), (3, false), (4, false), (6, false), (7, false)])
    Reg.txCoeff a (txCoeffOf (preset 0)) Reg.txCoeff b).trans ?_
  split
  · rfl
  · rw [State.get_of_outside (f := ⟨[Reg.laneStatus], []⟩) (State.frame_laneBits _ _ _ (by decide)) _ _ (by decide), h]

/-- Training begins at step 1, with every lane at preset 0. -/
theorem State.trainBegin_effect :
    (s.trainBegin u).train u = (s.train u).begins s.now ∧
    (s.trainBegin u).get Reg.trainings u = (s.bump Reg.trainings u).get Reg.trainings u ∧
    (∀ n ∈ allLanes u, (s.trainBegin u).get Reg.txCoeff n = txCoeffOf (preset 0)) ∧
    (s.trainBegin u).outside (Footprint.none.plus [Reg.trainings, Reg.laneStatus, Reg.txCoeff] [.training, .lanes, .line, .outbox])
      = s.outside (Footprint.none.plus [Reg.trainings, Reg.laneStatus, Reg.txCoeff] [.training, .lanes, .line, .outbox]) := by
  rw [State.trainBegin_eq]
  have begun : ((s.modTrain u (fun t => t.begins s.now)).bump Reg.trainings u).train u = (s.train u).begins s.now :=
    (State.train_of_outside (f := ⟨[Reg.trainings], []⟩) (State.outside_bump _ _ _ _ _ (by decide)) (by decide) u).trans
      (State.train_modTrain_same _ _ _)
  have count : ((s.modTrain u (fun t => t.begins s.now)).bump Reg.trainings u).get Reg.trainings u
      = (s.bump Reg.trainings u).get Reg.trainings u := rfl
  have rest : ((s.modTrain u (fun t => t.begins s.now)).bump Reg.trainings u).outside
      (Footprint.none.plus [Reg.trainings, Reg.laneStatus, Reg.txCoeff] [.training, .lanes, .line, .outbox])
      = s.outside (Footprint.none.plus [Reg.trainings, Reg.laneStatus, Reg.txCoeff] [.training, .lanes, .line, .outbox]) := by
    rw [State.outside_bump _ _ _ _ _ (by decide), State.outside_modTrain _ _ _ _ (by decide)]
  generalize (s.modTrain u (fun t => t.begins s.now)).bump Reg.trainings u = a at begun count rest
  have lanes : (((a.idleLanes (allLanes u)).each (allLanes u) State.laneBegins).sendCaps u).outside
      ⟨[Reg.laneStatus, Reg.txCoeff], [.lanes, .line, .outbox]⟩ = a.outside ⟨[Reg.laneStatus, Reg.txCoeff], [.lanes, .line, .outbox]⟩ := by
    rw [State.frame_sendCaps _ _ (by decide), State.outside_each _ _ _ _ (fun s n =>
      State.frame_laneBegins s n (by decide) (by decide) (by decide)), State.frame_idleLanes _ _ (by decide)]
  refine ⟨?_, ?_, fun n hn => ?_, ?_⟩
  · rw [State.train_of_outside lanes (by decide), begun]
  · rw [State.get_of_outside lanes _ _ (by decide), count]
  · rw [State.get_of_outside (f := .line) (State.frame_sendCaps _ _ (by decide)) _ _ (by decide), State.txCoeff_laneBegins _ hn]
  · exact (State.outside_le (by decide) lanes).trans rest

end

/-! #### The commands of training -/

section
variable {s : State} {u : Fin 18} (awake : s.awake = true)
include awake

theorem exec_trainingStart_awake : exec (.trainingStart u) s = .next (s.after
    (if s.linkState u = .down ∧ (s.train u).step = 0 ∧ (s.train u).held = false ∧ (s.train u).failed = false ∧ s.hasRef u = true then
      (s.modTrain u (fun t => { t with ceiling := s.get Reg.trainRateMax u })).trainBegin u else s)) := by
  rw [exec_trainingStart, execTrainingStart, act_of_awake s _ awake]
  simp only [Bool.and_eq_true, beq_iff_eq, Bool.not_eq_true', and_assoc]

theorem exec_trainingRetry_awake : exec (.trainingRetry u) s = .next (s.after
    (if s.linkState u = .down ∧ (s.train u).failed = true ∧ s.hasRef u = true ∧ s.due ((s.train u).failAt + 2500000) = true then
      (s.modTrain u (fun t => { t with ceiling := s.get Reg.trainRateMax u })).trainBegin u else s)) := by
  rw [exec_trainingRetry, execTrainingRetry, act_of_awake s _ awake]
  simp only [Bool.and_eq_true, beq_iff_eq, and_assoc, show msCycles 10 = 2500000 from rfl]

theorem exec_trainingTimeout_awake : exec (.trainingTimeout u) s = .next (s.after
    (if (s.linkState u = .down ∨ s.linkState u = .disabled) ∧ 1 ≤ (s.train u).step ∧ (s.train u).step ≤ 6 ∧
      s.due ((s.train u).startAt + 5000000) = true then s.trainFails u else s)) := by
  rw [exec_trainingTimeout, execTrainingTimeout, act_of_awake s _ awake]
  simp only [Bool.and_eq_true, Bool.or_eq_true, beq_iff_eq, decide_eq_true_eq, and_assoc, show msCycles 20 = 5000000 from rfl]

theorem exec_trainingLaneWait_awake : exec (.trainingLaneWait u) s = .next (s.after
    (if (s.train u).step = 1 ∧ s.numbers u = true ∧ (s.train u).firstGoodAt.any (fun g => s.due (g + 25000)) = true then
      s.chooseRate u else s)) := by
  rw [exec_trainingLaneWait, execTrainingLaneWait, act_of_awake s _ awake]
  cases good : (s.train u).firstGoodAt with
  | none => simp only [good, Option.any_none, Bool.false_eq_true, and_false, if_false]
  | some g =>
    simp only [good, Option.any_some, Bool.and_eq_true, beq_iff_eq, and_assoc, show usCycles 100 = 25000 from rfl]

theorem exec_tsCap_awake (n : Fin 80) (rates no mask : Nat) (numbering e : Bool) :
    exec (.tsCap n rates no numbering mask e) s = .next (s.after (s.gotCap n rates no numbering mask)) := by
  rw [exec_tsCap, execTsCap]
  exact act_of_awake s _ awake

theorem exec_tsRate_awake (rate token : Nat) : exec (.tsRate u rate token) s = .next (s.after (s.gotRate u rate token)) := by
  rw [exec_tsRate, execTsRate]
  exact act_of_awake s _ awake

theorem exec_tsReady_awake (n : Fin 80) (rate mask token : Nat) :
    exec (.tsReady n rate mask token) s = .next (s.after (s.laneReadySet n rate mask token)) := by
  rw [exec_tsReady, execTsReady]
  exact act_of_awake s _ awake

end

theorem highestRate_le {far limit r : Nat} (h : highestRate far limit = some r) : r ≤ limit ∧ 1 ≤ r := by
  have found := List.find?_some h
  have mem := List.mem_of_find?_eq_some h
  rw [Bool.and_eq_true, decide_eq_true_eq] at found
  refine ⟨found.1, ?_⟩
  simp only [List.mem_cons, List.not_mem_nil, or_false] at mem
  omega

/-! #### TS_CAP (R380) -/

section
variable (s : State) (u n rates no mask : Nat) (numbering : Bool)

/-- A lane that TS_CAP shows to be good: it is detected and locked, and named as the far end numbers it. -/
def State.capNoted : State :=
  let s := s.modLane n (fun l => { l with laneNo := if numbering && !(s.numbers u) then no % 8 else l.laneNo })
  let s := s.laneBits n [(0, true), (1, true), (2, true)]
  let x := s.laneNum u (n - firstLane u)
  s.modTrain u (fun t => { t with
    good := setBit t.good x true, farRates := rates, farGood := mask % 256,
    firstGoodAt := if t.firstGoodAt.isSome then t.firstGoodAt else some s.now })

/-- The answer on the lane. -/
def State.capAnswered : State :=
  s.sendSet n 1 31 (s.laneNum u (n - firstLane u) + 128 * b2n (s.numbers u)) (s.train u).good 1

/-- What the training knows once the lane numbered `x` is good. -/
def Training.capTaken (t : Training) (x rates mask now : Nat) : Training :=
  { t with good := setBit t.good x true, farRates := rates, farGood := mask % 256,
           firstGoodAt := some (t.firstGoodAt.getD now) }

/-- A lane on which sets have been received: neither detector asserts. -/
def State.laneHeard : State := s.modLane n (fun l => { l with losRaw := false, lolRaw := false })

theorem State.gotCap_eq (h : u = linkOf n) : s.gotCap n rates no numbering mask =
    if ((s.laneHeard n).train u).step = 1 ∧ (s.laneHeard n).laneSound n = true then
      let y := ((s.laneHeard n).capNoted u n rates no mask numbering).capAnswered u n
      if y.numbers u && (((s.laneHeard n).capNoted u n rates no mask numbering).train u).good == fullMask u &&
        (((s.laneHeard n).capNoted u n rates no mask numbering).train u).farGood == fullMask u then y.chooseRate u else y
    else s.laneHeard n := by
  subst h
  rfl

theorem State.laneSound_laneHeard : (s.laneHeard n).laneSound n = s.laneSound n := by
  rw [State.laneSound, State.laneHeard, State.lane_modLane_same]
  rfl

theorem State.frame_capNoted {f : Footprint} (h : Reg.laneStatus ∈ f.regs) (k : Part.training ∈ f.parts) (p : Part.lanes ∈ f.parts) :
    (s.capNoted u n rates no mask numbering).outside f = s.outside f := by
  unfold State.capNoted
  dsimp only
  rw [State.outside_modTrain _ _ _ _ k, State.frame_laneBits _ _ _ h, State.outside_modLane _ _ _ _ p]

theorem State.numbers_of_outside {s t : State} {f : Footprint} (h : t.outside f = s.outside f) (r : Reg.pairSide ∉ f.regs) :
    t.numbers u = s.numbers u := by
  rw [State.numbers, State.get_of_outside h _ _ r, State.numbers]

theorem State.laneBits_good {k : Nat} (lt : k < 3) :
    bit ((s.laneBits n [(0, true), (1, true), (2, true)]).get Reg.laneStatus n) k = true := by
  have stands : (s.laneBits n [(0, true), (1, true), (2, true)]).get Reg.laneStatus n
      = setBit (setBit (setBit (s.get Reg.laneStatus n) 0 true) 1 true) 2 true := by
    simp only [State.laneBits, State.each_cons, State.each_nil, State.putBit_eq, State.get_set_same]
  rw [stands]
  match k, lt with
  | 0, _ => rw [bit_setBit_below _ (by decide), bit_setBit_below _ (by decide), bit_setBit]
  | 1, _ => rw [bit_setBit_below _ (by decide), bit_setBit]
  | 2, _ => exact bit_setBit _ _ _

/-- The number under which a good lane counts. -/
def State.capNumber : Nat :=
  if s.numbers u then n - firstLane u else if numbering then no % 8 else (s.lane n).laneNo

theorem State.capNoted_effect (first : firstLane u ≤ n) :
    (s.capNoted u n rates no mask numbering).train u = (s.train u).capTaken (s.capNumber u n no numbering) rates mask s.now ∧
    ((s.capNoted u n rates no mask numbering).lane n).laneNo =
      (if numbering && !(s.numbers u) then no % 8 else (s.lane n).laneNo) ∧
    (∀ k < 3, bit ((s.capNoted u n rates no mask numbering).get Reg.laneStatus n) k = true) := by
  unfold State.capNoted
  dsimp only
  generalize named : s.modLane n (fun l => { l with laneNo := if numbering && !(s.numbers u) then no % 8 else l.laneNo }) = a
  have frame : a.outside ⟨[], [.lanes]⟩ = s.outside ⟨[], [.lanes]⟩ := by
    rw [← named, State.outside_modLane _ _ _ _ (by decide)]
  have bits : (a.laneBits n [(0, true), (1, true), (2, true)]).outside ⟨[Reg.laneStatus], []⟩ = a.outside ⟨[Reg.laneStatus], []⟩ :=
    State.frame_laneBits _ _ _ (by decide)
  have laneNo : (a.lane n).laneNo = if numbering && !(s.numbers u) then no % 8 else (s.lane n).laneNo := by
    rw [← named, State.lane_modLane_same]
  have good (k : Nat) (lt : k < 3) := State.laneBits_good a n lt
  generalize a.laneBits n [(0, true), (1, true), (2, true)] = b at bits good
  have lane : b.lane n = a.lane n := State.lane_of_outside bits (by decide) n
  have number : b.laneNum u (n - firstLane u) = s.capNumber u n no numbering := by
    rw [State.laneNum, State.numbers_of_outside u bits (by decide), State.numbers_of_outside u frame (by decide),
      State.capNumber, show firstLane u + (n - firstLane u) = n by omega, lane, laneNo]
    cases s.numbers u
    · cases numbering <;> rfl
    · rfl
  have train : b.train u = s.train u := (State.train_of_outside bits (by decide) u).trans (State.train_of_outside frame (by decide) u)
  have now : b.now = s.now := (State.now_of_outside bits (by decide)).trans (State.now_of_outside frame (by decide))
  refine ⟨?_, ?_, good⟩
  · rw [State.train_modTrain_same, train, now, number]
    cases given : (s.train u).firstGoodAt <;> simp [Training.capTaken, given]
  · exact (congrArg Lane.laneNo lane).trans laneNo

end
end Sys2Proof.Machine

namespace Sys2Proof.Machine

/-! #### TS_RATE and TS_READY (R381, R383) -/

section
variable (s : State) (n rate mask token : Nat) (u : Nat)

/-- A link that hears ready lanes while it is UP recovers with the far end. -/
def State.laneWoken : State :=
  if s.linkState u = .up then (s.laneHeard n).enterRecovering u 0 else s.laneHeard n

/-- What TS_READY does to a link whose training takes it. -/
def State.readyTaken : State :=
  match s.linkState u with
  | .down => if token = (s.train u).token then s.gotReady n mask else s
  | .paused => s.noteReady n mask true
  | .recovering => s.noteReady n mask true
  | _ => s

theorem State.laneReadySet_eq (h : u = linkOf n) : s.laneReadySet n rate mask token =
    if ((s.laneWoken n u).train u).step ≠ 6 ∨ rate ≠ ((s.laneWoken n u).train u).rate ∨ (s.laneWoken n u).laneSound n = false then
      s.laneWoken n u else (s.laneWoken n u).readyTaken n mask token u := by
  subst h
  rfl

theorem State.readyTaken_idle (h : s.linkState u = .init ∨ s.linkState u = .disabled ∨
    (s.linkState u = .down ∧ token ≠ (s.train u).token)) : s.readyTaken n mask token u = s := by
  unfold State.readyTaken
  obtain state | state | ⟨state, other⟩ := h
  · rw [state]
  · rw [state]
  · rw [state]
    exact if_neg other

theorem State.readyTaken_down (h : s.linkState u = .down) (k : token = (s.train u).token) :
    s.readyTaken n mask token u = s.gotReady n mask := by
  unfold State.readyTaken
  rw [h]
  exact if_pos k

theorem State.readyTaken_again (h : s.linkState u = .paused ∨ s.linkState u = .recovering) :
    s.readyTaken n mask token u = s.noteReady n mask true := by
  unfold State.readyTaken
  obtain state | state := h <;> rw [state]

theorem State.trainFails_again (h : (s.train u).rate = 0 ∨ (s.train u).prbs = true) : s.trainFails u = s.trainBegin u := if_pos h

theorem State.trainFails_ends (h : (s.train u).rate ≠ 0) (k : (s.train u).prbs = false)
    (lowest : highestRate (s.train u).farRates ((s.train u).rate - 1) = none) :
    s.trainFails u = s.modTrain u (fun t => { t with step := 0, failed := true, failAt := s.now }) := by
  unfold State.trainFails
  dsimp only
  rw [if_neg (by simp [h, k]), lowest]

theorem State.trainFails_lower {r : Nat} (h : (s.train u).rate ≠ 0) (k : (s.train u).prbs = false)
    (lower : highestRate (s.train u).farRates ((s.train u).rate - 1) = some r) :
    s.trainFails u = ((s.modTrain u (fun t => { t with ceiling := r })).bump Reg.rateFallbacks u).trainBegin u := by
  unfold State.trainFails
  dsimp only
  rw [if_neg (by simp [h, k]), lower]

theorem State.gotRate_numbering (h : s.numbers u = true) : s.gotRate u rate token =
    (if (s.train u).step = 3 ∧ rate = (s.train u).rate ∧ token = (s.train u).token then s.rateChange u else s) := if_pos h

theorem State.gotRate_other (h : s.numbers u = false) : s.gotRate u rate token =
    (if (s.train u).step = 1 ∧ 1 ≤ rate ∧ rate ≤ 5 then
      ((s.modTrain u (fun t => { t with step := 3, rate := rate, token := token })).sendRate u).rateChange u else s) :=
  if_neg (Bool.eq_false_iff.mp h)

end

/-! #### TS_CAP on a lane of either end -/

section
variable (s : State) {u n : Nat} (rates no mask : Nat) (numbering : Bool) (h : u = linkOf n)
include h

theorem State.gotCap_idle (idle : (s.train u).step ≠ 1 ∨ s.laneSound n = false) :
    s.gotCap n rates no numbering mask = s.laneHeard n := by
  rw [State.gotCap_eq s u n rates no mask numbering h, State.laneSound_laneHeard]
  refine if_neg fun ⟨step, sound⟩ => ?_
  obtain other | unsound := idle
  · exact other step
  · rw [unsound] at sound
    exact Bool.false_ne_true sound

/-- TS_CAP on a sound lane in step 1. -/
theorem State.gotCap_takes (first : firstLane u ≤ n) (step : (s.train u).step = 1) (sound : s.laneSound n = true) : ∃ y,
    s.gotCap n rates no numbering mask = (if s.numbers u = true ∧ (y.train u).good = fullMask u ∧ (y.train u).farGood = fullMask u
      then y.chooseRate u else y) ∧
    y.train u = (s.train u).capTaken (s.capNumber u n no numbering) rates mask s.now ∧
    (y.lane n).laneNo = (if numbering && !(s.numbers u) then no % 8 else (s.lane n).laneNo) ∧
    (∀ k < 3, bit (y.get Reg.laneStatus n) k = true) ∧
    y.outside (Footprint.none.plus [Reg.laneStatus] [.training, .lanes, .line, .outbox]) =
      s.outside (Footprint.none.plus [Reg.laneStatus] [.training, .lanes, .line, .outbox]) := by
  have heard : (s.laneHeard n).outside ⟨[], [.lanes]⟩ = s.outside ⟨[], [.lanes]⟩ := State.outside_modLane _ _ _ _ (by decide)
  have train : (s.laneHeard n).train u = s.train u := State.train_of_outside heard (by decide) u
  have numbers : (s.laneHeard n).numbers u = s.numbers u := State.numbers_of_outside u heard (by decide)
  have laneNo : ((s.laneHeard n).lane n).laneNo = (s.lane n).laneNo := by rw [State.laneHeard, State.lane_modLane_same]
  have number : (s.laneHeard n).capNumber u n no numbering = s.capNumber u n no numbering := by
    rw [State.capNumber, numbers, laneNo, State.capNumber]
  have eq := State.gotCap_eq s u n rates no mask numbering h
  rw [if_pos ⟨(congrArg Training.step train).trans step, (State.laneSound_laneHeard s n).trans sound⟩] at eq
  obtain ⟨taken, named, bits⟩ := State.capNoted_effect (s.laneHeard n) u n rates no mask numbering first
  have noted : ((s.laneHeard n).capNoted u n rates no mask numbering).outside ⟨[Reg.laneStatus], [.training, .lanes]⟩ =
      (s.laneHeard n).outside ⟨[Reg.laneStatus], [.training, .lanes]⟩ :=
    State.frame_capNoted _ _ _ _ _ _ _ (by decide) (by decide) (by decide)
  rw [train, number, State.now_of_outside heard (by decide)] at taken
  rw [numbers, laneNo] at named
  generalize (s.laneHeard n).capNoted u n rates no mask numbering = z at eq taken named bits noted
  have answered : (z.capAnswered u n).outside .line = z.outside .line := State.frame_sendSet _ _ _ _ _ _ _ (by decide)
  have zTrain : (z.capAnswered u n).train u = z.train u := State.train_of_outside answered (by decide) u
  have zNumbers : (z.capAnswered u n).numbers u = s.numbers u :=
    ((State.numbers_of_outside u answered (by decide)).trans (State.numbers_of_outside u noted (by decide))).trans numbers
  have zLane : (z.capAnswered u n).lane n = z.lane n := State.lane_of_outside answered (by decide) n
  have zBits : (z.capAnswered u n).get Reg.laneStatus n = z.get Reg.laneStatus n := State.get_of_outside answered _ _ (by decide)
  have frame : (z.capAnswered u n).outside (Footprint.none.plus [Reg.laneStatus] [.training, .lanes, .line, .outbox]) =
      s.outside (Footprint.none.plus [Reg.laneStatus] [.training, .lanes, .line, .outbox]) :=
    (State.outside_le (by decide) answered).trans ((State.outside_le (by decide) noted).trans (State.outside_le (by decide) heard))
  generalize z.capAnswered u n = y at eq zTrain zNumbers zLane zBits frame
  refine ⟨y, ?_, zTrain.trans taken, (congrArg Lane.laneNo zLane).trans named, fun k lt => ?_, frame⟩
  · rw [eq, zTrain]
    simp only [zNumbers, Bool.and_eq_true, beq_iff_eq, and_assoc]
  · rw [zBits]
    exact bits k lt

end

/-- A lane lies in its link. -/
theorem firstLane_linkOf : ∀ n : Fin 80, firstLane (linkOf n) ≤ n.val := by decide

/-- Settles O49: each command is its own work when it may act (the exec lemmas), training begins as `State.trainBegin_effect`
says, and TS_CAP takes a lane by `State.gotCap_takes`. -/
theorem linksTrain : Obligations.LinksTrain := by
  unfold Obligations.LinksTrain
  intro u s tr v awake htr hv
  subst htr hv
  refine ⟨fun may hmay => ?_, fun may hmay => ?_, fun t ht => ?_, fun late hlate => ?_, fun may hmay => ?_,
    fun n rates no numbering mask e w hw hu => ?_, fun rate token => ?_, fun n rate mask token w x hu hw hx => ?_⟩
  · subst hmay
    rw [exec_trainingStart_awake awake]
    exact ⟨fun h => by rw [if_pos h], fun h => by rw [if_neg h]⟩
  · subst hmay
    rw [exec_trainingRetry_awake awake]
    exact ⟨fun h => by rw [if_pos h], fun h => by rw [if_neg h]⟩
  · obtain ⟨train, count, coeff, frame⟩ :=
      State.trainBegin_effect (s.modTrain u (fun t => { t with ceiling := s.get Reg.trainRateMax u })) u
    rw [State.train_modTrain_same] at train
    rw [← ht] at train count coeff frame
    refine ⟨by rw [train]; rfl, by rw [train]; rfl, by rw [train]; rfl, by rw [train]; rfl, count, coeff, ?_⟩
    exact frame.trans (State.outside_modTrain _ _ _ _ (by decide))
  · subst hlate
    rw [exec_trainingTimeout_awake awake]
    refine ⟨fun h => by rw [if_neg h], fun h again => ?_, fun h rate prbs => ⟨fun lowest => ?_, fun r lower => ⟨?_, ?_⟩⟩⟩
    · rw [if_pos h, State.trainFails_again _ _ again]
    · rw [if_pos h, State.trainFails_ends _ _ rate prbs lowest]
    · have := highestRate_le lower
      omega
    · rw [if_pos h, State.trainFails_lower _ _ rate prbs lower]
  · subst hmay
    rw [exec_trainingLaneWait_awake awake]
    exact ⟨fun h => by rw [if_pos h], fun h => by rw [if_neg h]⟩
  · subst hw
    have first : firstLane u ≤ n.val := hu ▸ firstLane_linkOf n
    rw [exec_tsCap_awake awake]
    refine ⟨fun idle => ?_, fun step sound numbers t ht => ?_, fun x step sound other hx => ?_⟩
    · rw [State.gotCap_idle s rates no mask numbering hu idle]
      rfl
    · obtain ⟨y, eq, train, _, bits, frame⟩ := State.gotCap_takes s rates no mask numbering hu first step sound
      have taken : y.train u = t := by
        rw [train, ht, Training.capTaken, State.capNumber, if_pos numbers]
      refine ⟨y, ?_, taken, bits, frame⟩
      rw [eq, taken]
      simp only [numbers, true_and]
    · obtain ⟨y, eq, train, laneNo, bits, frame⟩ := State.gotCap_takes s rates no mask numbering hu first step sound
      have plain : ¬ (s.numbers u = true) := Bool.eq_false_iff.mp other
      refine ⟨y, ?_, ?_, ?_, bits, frame⟩
      · rw [eq, if_neg fun h => plain h.1]
      · rw [laneNo, hx, other]
        cases numbering <;> rfl
      · rw [train, hx, Training.capTaken, State.capNumber, if_neg plain]
  · rw [exec_tsRate_awake awake]
    exact ⟨fun h => by rw [State.gotRate_numbering _ _ _ _ h], fun h => by rw [State.gotRate_other _ _ _ _ h]⟩
  · have woken : s.laneWoken n u = x := by
      rw [hx, hw]
      rfl
    rw [exec_tsReady_awake awake, State.laneReadySet_eq s n rate mask token u hu, woken]
    refine ⟨fun idle => ?_, fun step same sound => ⟨fun down mine => ?_, fun again => ?_⟩⟩
    · by_cases h : (x.train u).step ≠ 6 ∨ rate ≠ (x.train u).rate ∨ x.laneSound n = false
      · rw [if_pos h]
      · rw [if_neg h, State.readyTaken_idle]
        obtain a | b | c | rest := idle
        · exact absurd (.inl a) h
        · exact absurd (.inr (.inl b)) h
        · exact absurd (.inr (.inr c)) h
        · exact rest
    · rw [if_neg (by simp [step, same, sound]), State.readyTaken_down _ _ _ _ _ down mine]
    · rw [if_neg (by simp [step, same, sound]), State.readyTaken_again _ _ _ _ _ again]

end Sys2Proof.Machine

namespace Sys2Proof.Machine

/-! ### The end of a PRBS test (R390) -/

section
variable (s : State) (n i : Nat)

/-- PRBS_LOCKED stays a bit: what the checker of a lane shows is one. -/
theorem State.prbsLocked_prbsKeep (h : s.get Reg.prbsLocked i < 2) : (s.prbsKeep n).get Reg.prbsLocked i < 2 := by
  unfold State.prbsKeep
  split
  · rw [State.get_set]
    split
    · exact Nat.mod_lt _ (by decide)
    · rwa [State.get_set_register _ _ _ _ (by decide), State.get_set_register _ _ _ _ (by decide)]
  · exact h

theorem State.prbsLocked_tested (tested : s.prbsTests n = true) (place : Reg.key Reg.prbsLocked n = Reg.key Reg.prbsLocked i) :
    (s.prbsKeep n).get Reg.prbsLocked i < 2 := by
  rw [State.prbsKeep, if_pos tested, State.get_set, if_pos place]
  exact Nat.mod_lt _ (by decide)

/-- Every place of PRBS_LOCKED that a tested lane of link 0 has is a bit once the test has ended. -/
theorem State.prbsLocked_prbsEnd (runs : s.get Reg.prbsState 0 = 1 ∨ s.get Reg.prbsState 0 = 2) (tested : s.prbsTests 0 = true)
    (place : Reg.key Reg.prbsLocked 0 = Reg.key Reg.prbsLocked i) : (s.prbsEnd 0).get Reg.prbsLocked i < 2 := by
  have kept : (s.each (allLanes 0) State.prbsKeep).get Reg.prbsLocked i < 2 := by
    rw [show allLanes 0 = [0, 1, 2, 3] from rfl]
    simp only [State.each_cons, State.each_nil]
    exact State.prbsLocked_prbsKeep _ _ _ (State.prbsLocked_prbsKeep _ _ _ (State.prbsLocked_prbsKeep _ _ _
      (State.prbsLocked_tested s 0 i tested place)))
  unfold State.prbsEnd
  rw [if_pos runs]
  generalize s.each (allLanes 0) State.prbsKeep = a at kept
  have ended (g : Training → Training) : ((((a.emit (.electricalIdle 0)).idleLanes (allLanes 0)).set Reg.prbsState 0 3).modTrain 0 g).outside
      ⟨[Reg.prbsState], [.line, .training, .outbox]⟩ = a.outside ⟨[Reg.prbsState], [.line, .training, .outbox]⟩ := by
    rw [State.outside_modTrain _ _ _ _ (by decide), State.outside_set _ _ _ _ _ (by decide),
      State.frame_idleLanes _ _ (by decide), State.outside_emit _ _ _ (by decide)]
  refine lt_of_eq_of_lt ?_ kept
  exact (State.get_of_outside (f := .event) (State.frame_raiseUnits _ _ _ (by decide)) _ _ (by decide)).trans
    (State.get_of_outside (ended _) _ _ (by decide))

end

theorem requestOf_prbsStop (p : Path) (u : Fin 18) :
    requestOf (.prbsStop p u) = some ⟨⟨p, Reg.prbsCommand, u, false⟩, .plain, [2]⟩ :=
  congrArg some (Reg.ask_prbsCommand p u [2] .plain)

theorem exec_prbsStop_allowed {s : State} {p : Path} {u : Fin 18} (h : s.allows (.prbsStop p u) = true) :
    exec (.prbsStop p u) s = .next (s.after (((s.taken p).prbsEnd u).emit (.lexAnswer p 0 []))) := by
  have idle : ((s.taken p).prbsEnd u).lexicon.config = none :=
    (State.config_of_outside (f := .laneWork) (State.frame_prbsEnd _ _ (by decide)) (by decide)).trans (State.config_taken s p h)
  have applied : (s.taken p).applyWrite p (.direct p) .plain ⟨Reg.prbsCommand, 0, 18, .u8, .wo, 0, (.between 1 2), 95, .none⟩ u [2]
      = ((s.taken p).prbsEnd u, .ok) := State.apply_prbsCommand (s.taken p) p (.direct p) .plain u [2]
  generalize (s.taken p).prbsEnd u = v at idle applied
  rw [exec_prbsStop, execPrbsStop]
  exact State.direct_ok s (requestOf_prbsStop p u) h Reg.lookup_prbsCommand applied idle

/-- A PRBS test that runs on lane 0 of link 0, with PRBS_LOCKED of the lane at 2. -/
def prbsTested : State :=
  ((((State.reset.set Reg.imageState 0 3).set Reg.linkEnable 0 0).set Reg.prbsState 0 2).set Reg.prbsLanes 0 1).set Reg.prbsLocked 0 2

theorem prbsTested_stops : prbsTested.allows (.prbsStop .firmware 0) = true ∧
    (prbsTested.taken .firmware).get Reg.prbsState 0 = 2 ∧ (prbsTested.taken .firmware).prbsTests 0 = true ∧
    prbsTested.get Reg.prbsLocked 4294967296 = 2 := by decide

/-- A test whose checker overwrites a PRBS_LOCKED of 2 does so at every place that is counted as its lane's. -/
theorem prbsStop_writes {s : State} (allowed : s.allows (.prbsStop .firmware 0) = true)
    (runs : (s.taken .firmware).get Reg.prbsState 0 = 2) (tested : (s.taken .firmware).prbsTests 0 = true)
    (before : s.get Reg.prbsLocked 4294967296 = 2) {t : State} (next : exec (.prbsStop .firmware 0) s = .next t) :
    t.get Reg.prbsLocked 4294967296 ≠ s.get Reg.prbsLocked 4294967296 := by
  have after := State.prbsLocked_prbsEnd (s.taken .firmware) 4294967296 (.inr runs) tested (by decide)
  rw [exec_prbsStop_allowed allowed] at next
  rw [before, ← Host.Outcome.next.inj next]
  exact Nat.ne_of_lt after

/-- Refutes O50: the places of a register are counted mod 2^32, so place 2^32 of PRBS_LOCKED, which is no lane of link 0, is
that of its lane 0, and PRBS_STOP does write it there, with what the checker shows. -/
theorem not_lanesAreTuned : ¬ Obligations.LanesAreTuned := by
  unfold Obligations.LanesAreTuned
  intro h
  obtain ⟨allowed, runs, tested, before⟩ := prbsTested_stops
  generalize prbsTested = s at allowed runs tested before
  obtain ⟨_, _, _, _, _, _, stop⟩ := h 0 s
  obtain ⟨t, next, _, _, _, kept, _⟩ := (stop .firmware _ rfl allowed).2 (.inr runs)
  exact prbsStop_writes allowed runs tested before next
    (kept Reg.prbsLocked 4294967296 (.inr (.inr rfl)) (.inr (by decide)))

end Sys2Proof.Machine

namespace Sys2Proof.Machine

/-! ### The extent table (R195 to R197) -/

/-- The registers that a record of the extent table fills. -/
def Footprint.extents : Footprint := Footprint.none.plus [Reg.extWinBase, Reg.extIaBase, Reg.extPages, Reg.extRights,
  Reg.extKind, Reg.extContext, Reg.extTag, Reg.extValid, Reg.extMirror, Reg.extentsValid] []

section
variable {s t : State} {f : Footprint}

theorem State.ext_of_outside (h : t.outside f = s.outside f)
    (n : ∀ r ∈ [Reg.extWinBase, Reg.extIaBase, Reg.extPages, Reg.extRights, Reg.extKind, Reg.extContext, Reg.extTag, Reg.extValid],
      r ∉ f.regs) (k : Nat) : t.ext k = s.ext k := by
  rw [State.ext, State.ext, State.get_of_outside h _ _ (n Reg.extWinBase (by decide)),
    State.get_of_outside h _ _ (n Reg.extIaBase (by decide)), State.get_of_outside h _ _ (n Reg.extPages (by decide)),
    State.get_of_outside h _ _ (n Reg.extRights (by decide)), State.get_of_outside h _ _ (n Reg.extKind (by decide)),
    State.get_of_outside h _ _ (n Reg.extContext (by decide)), State.get_of_outside h _ _ (n Reg.extTag (by decide)),
    State.get_of_outside h _ _ (n Reg.extValid (by decide))]

theorem State.mirrorField_of_outside (h : t.outside f = s.outside f) (m : Reg.rangeSegments ∉ f.regs)
    (n : Reg.rangeBaseSeg ∉ f.regs) (a b : Nat) : t.mirrorField a b = s.mirrorField a b := by
  have inside : (fun r => t.insideRow r a b) = fun r => s.insideRow r a b := by
    funext r
    rw [State.insideRow, State.insideRow, State.rowLen, State.rowLen, State.rowBase, State.rowBase,
      State.get_of_outside h _ _ m, State.get_of_outside h _ _ n]
  rw [State.mirrorField, State.mirrorField, inside]

end

section
variable (s : State) (e : Ext)

theorem State.frame_applyExtent (r : Nat) {f : Footprint} (h : Footprint.extents.le f = true) :
    (s.applyExtent r e).outside f = s.outside f := by
  refine State.outside_le h ?_
  unfold State.applyExtent State.countExtents
  dsimp only
  repeat rw [State.outside_set _ _ _ _ _ (by decide)]

/-- A row that takes a record but for its mirror field, and the count of the valid rows. -/
def State.fillExtent (r : Nat) : State :=
  let s := ((s.set Reg.extWinBase r e.win).set Reg.extIaBase r e.ia).set Reg.extPages r e.pages
  let s := (s.set Reg.extRights r (b2n e.read + 2 * b2n e.write)).set Reg.extKind r e.kind
  ((s.set Reg.extContext r e.ctx).set Reg.extTag r e.tag).set Reg.extValid r (b2n e.valid)

theorem State.frame_fillExtent (r : Nat) {f : Footprint} (h : Footprint.extents.le f = true) :
    (s.fillExtent e r).outside f = s.outside f := by
  refine State.outside_le h ?_
  unfold State.fillExtent
  dsimp only
  repeat rw [State.outside_set _ _ _ _ _ (by decide)]

theorem State.applyExtent_eq (r : Nat) : s.applyExtent r e = ((s.fillExtent e r).set Reg.extMirror r
    (if e.valid then s.mirrorField e.ia e.bytes else 0)).countExtents := by
  rw [← State.mirrorField_of_outside (f := .extents) (State.frame_fillExtent s e r (by decide)) (by decide) (by decide)]
  rfl

theorem b2n_code : ∀ b : Bool, (b2n b == 1) = b := by decide

theorem rights_code : ∀ r w : Bool, bit (b2n r + 2 * b2n w) 1 = w ∧ bit (b2n r + 2 * b2n w) 0 = r := by decide

theorem State.ext_fillExtent (r : Nat) : (s.fillExtent e r).ext r = e := by
  obtain ⟨write, read⟩ := rights_code e.read e.write
  simp (disch := decide) only [State.fillExtent, State.ext, State.get_set_same, State.get_set_register, b2n_code, write, read]

theorem State.ext_fillExtent_other {r k : Nat} (hr : r < 16384) (hk : k < 16384) (other : k ≠ r) :
    (s.fillExtent e r).ext k = s.ext k := by
  have kept (s : State) (q v p : Nat) : (s.set q r v).get p k = s.get p k :=
    State.get_set_other _ _ _ _ _ _ (Reg.key_ne _ _ _ _ (by omega) (by omega) (.inr other.symm))
  simp only [State.fillExtent, State.ext, kept]

/-- What a row holds that takes a record, and what the others hold. -/
theorem State.applyExtent_effect {r : Nat} (hr : r < 16384) : (s.applyExtent r e).ext r = e ∧
    (s.applyExtent r e).get Reg.extMirror r = (if e.valid then s.mirrorField e.ia e.bytes else 0) ∧
    ∀ k, k < 16384 → k ≠ r → (s.applyExtent r e).ext k = s.ext k ∧
      (s.applyExtent r e).get Reg.extMirror k = s.get Reg.extMirror k := by
  rw [State.applyExtent_eq]
  generalize (if e.valid then s.mirrorField e.ia e.bytes else 0) = m
  have counted (x : State) (k : Nat) : x.countExtents.get Reg.extMirror k = x.get Reg.extMirror k :=
    State.get_set_register _ _ _ _ (by decide)
  have rest (k : Nat) : ((s.fillExtent e r).set Reg.extMirror r m).countExtents.ext k = (s.fillExtent e r).ext k :=
    State.ext_of_outside (f := ⟨[Reg.extMirror, Reg.extentsValid], []⟩) ((State.outside_set _ _ _ _ _ (by decide)).trans
      (State.outside_set _ _ _ _ _ (by decide))) (by decide) k
  refine ⟨(rest r).trans (State.ext_fillExtent s e r), (counted _ _).trans (State.get_set_same _ _ _ _), fun k hk other =>
    ⟨(rest k).trans (State.ext_fillExtent_other s e hr hk other), ?_⟩⟩
  rw [counted, State.get_set_other _ _ _ _ _ _ (Reg.key_ne _ _ _ _ (by omega) (by omega) (.inr other.symm))]
  simp (disch := decide) only [State.fillExtent, State.get_set_register]

theorem State.extentCheck_now (r : Nat) : s.extentCheck r e ≠ .later := by
  unfold State.extentCheck
  dsimp only
  repeat' split
  all_goals nofun

end

/-! #### EXTENT_COMMIT and EXTENT_WITHDRAW -/

/-- A request that is taken names a row of its table. -/
theorem State.allows_row {s : State} {c : Instr} {a : Ask} {o : Obj} {u : Nat} (hr : requestOf c = some a)
    (h : s.allows c = true) (hl : Reg.lookup a.q.index = .entry o u) : o.rowOk a.q.row = true := by
  simp only [State.allows, hr, Bool.and_eq_true] at h
  obtain ⟨⟨⟨_, _⟩, _⟩, passed⟩ := h
  unfold State.passes at passed
  split at passed
  case h_2 => exact absurd passed Bool.false_ne_true
  case h_1 o' i placed =>
    unfold State.target at placed
    rw [hl] at placed
    dsimp only at placed
    by_contra bad
    rw [Bool.not_eq_true] at bad
    rw [bad] at placed
    split at placed <;> cases placed

/-- A seal that is asked for is the Keep store's alone. -/
theorem State.keep_requestSeal (s : State) (x : SealFor) : (s.requestSeal x).outside ⟨[], [.keep]⟩ = s.outside ⟨[], [.keep]⟩ :=
  State.outside_ite _ (State.outside_modKeep _ _ _ (by decide)) (State.outside_modKeep _ _ _ (by decide))

/-- `c` asks that row `row` of the extent table take record `e`. -/
def extentAsks (s : State) (p : Path) (row : Nat) (c : Instr) (e : Ext) : Prop :=
  (c = .extentCommit p row none ∧ e = { s.ext row with valid := true }) ∨
    (∃ b, c = .extentCommit p row (some b) ∧ e = extOf b) ∨ (c = .extentWithdraw p row ∧ e = { s.ext row with valid := false })

/-- The write of an extent row, and what follows from its result. -/
def State.extentAnswer (s : State) (p : Path) (row : Nat) (e : Ext) : State :=
  (State.settle (s.extentWrite (.direct p) row e) (.direct p)).runConfig

section
variable {s : State} {p : Path} {row : Nat} {c : Instr} {e : Ext}

theorem exec_extent_allowed (hc : extentAsks s p row c e) (h : s.allows c = true) :
    row < 16384 ∧ exec c s = .next (s.after ((s.taken p).extentAnswer p row e)) := by
  have ext : (s.taken p).ext row = s.ext row := State.ext_of_outside (State.request_taken s p) (by decide) row
  have inTable {o : Obj} (rows : o.rows = 16384) (h : o.rowOk row = true) : row < 16384 := by
    rw [Obj.rowOk, if_neg (by rw [rows]; decide), Bool.and_eq_true, decide_eq_true_eq, rows] at h
    exact h.1
  obtain ⟨rfl, rfl⟩ | ⟨b, rfl, rfl⟩ | ⟨rfl, rfl⟩ := hc
  · have asks : requestOf (.extentCommit p row none) = some ⟨⟨p, Reg.extValid, row, false⟩, .plain, [1]⟩ := rfl
    refine ⟨inTable rfl (State.allows_row asks h Reg.lookup_extValid), ?_⟩
    rw [exec_extentCommit, execExtentCommit, State.direct_settles s asks h Reg.lookup_extValid, State.apply_extValid,
      ← ext]
    rfl
  · have asks : requestOf (.extentCommit p row (some b)) = some ⟨⟨p, Reg.extRecord, row, false⟩, .plain, b⟩ := rfl
    refine ⟨inTable rfl (State.allows_row asks h Reg.lookup_extRecord), ?_⟩
    rw [exec_extentCommit, execExtentCommit, State.direct_settles s asks h Reg.lookup_extRecord, State.apply_extRecord]
    rfl
  · have asks : requestOf (.extentWithdraw p row) = some ⟨⟨p, Reg.extValid, row, false⟩, .plain, [0]⟩ := rfl
    refine ⟨inTable rfl (State.allows_row asks h Reg.lookup_extValid), ?_⟩
    rw [exec_extentWithdraw, execExtentWithdraw, State.direct_settles s asks h Reg.lookup_extValid, State.apply_extValid,
      ← ext]
    rfl

variable {u : State}

theorem State.extentAnswer_now (idle : u.lexicon.config = none) (ok : u.extentCheck row e = .ok) (now : u.image = .setup ∨
    (u.get Reg.extValid row = 0 ∧ e.valid = false ∧ ∀ x ∈ u.keep.extNext, x.1 ≠ row)) :
    u.extentAnswer p row e = (u.applyExtent row e).emit (.lexAnswer p 0 []) := by
  have all : (u.keep.extNext.all (fun x => x.1 != row) = true) ↔ ∀ x ∈ u.keep.extNext, x.1 ≠ row := by
    simp only [List.all_eq_true, bne_iff_ne]
  rw [State.extentAnswer, State.extentWrite, ok]
  dsimp only
  rw [if_pos (by rwa [all])]
  exact State.settle_ok_run _ p ((State.config_of_outside (f := .extents) (State.frame_applyExtent _ _ _ (by decide))
    (by decide)).trans idle)

theorem State.extentAnswer_later (idle : u.lexicon.config = none) (ok : u.extentCheck row e = .ok) (notSetup : u.image ≠ .setup)
    (later : u.get Reg.extValid row ≠ 0 ∨ e.valid = true ∨ ∃ x ∈ u.keep.extNext, x.1 = row) :
    u.extentAnswer p row e = (u.requestSeal (.extent row e.record (.direct p))).waitFor (.direct p) Reg.extValid := by
  have all : (u.keep.extNext.all (fun x => x.1 != row) = true) ↔ ∀ x ∈ u.keep.extNext, x.1 ≠ row := by
    simp only [List.all_eq_true, bne_iff_ne]
  rw [State.extentAnswer, State.extentWrite, ok]
  dsimp only
  rw [if_neg (by
    rw [all]
    rintro (setup | ⟨unset, withdrawn, free⟩)
    · exact notSetup setup
    · obtain held | valid | ⟨x, mem, same⟩ := later
      · exact held unset
      · rw [valid] at withdrawn
        cases withdrawn
      · exact free x mem same)]
  have kept : (u.requestSeal (.extent row e.record (.direct p))).lexicon.config = none :=
    (State.config_of_outside (State.keep_requestSeal u _) (by decide)).trans idle
  exact State.runConfig_none _ kept

theorem State.extentAnswer_refused (idle : u.lexicon.config = none) {a : Abort} (bad : u.extentCheck row e = a) (not : a ≠ .ok) :
    u.extentAnswer p row e = (u.bump Reg.lexAborts).emit (.lexAnswer p a.code []) := by
  have write : u.extentWrite (.direct p) row e = (u, a) := by
    rw [State.extentWrite, bad]
    cases a
    case ok => exact absurd rfl not
    all_goals rfl
  rw [State.extentAnswer, write]
  exact State.settle_refused_run u p not (fun l => u.extentCheck_now e row (bad.trans l)) idle

end

/-- Settles O32: the three commands are one write of the row (`exec_extent_allowed`), which takes the record at once
(`State.applyExtent_effect`), asks for its seal, or is refused. -/
theorem extentsAreCommitted : Obligations.ExtentsAreCommitted := by
  unfold Obligations.ExtentsAreCommitted
  intro p row s u hu c e hc h
  obtain ⟨lt, eq⟩ := exec_extent_allowed hc h
  have idle : u.lexicon.config = none := hu ▸ State.config_taken s p h
  have taken : u.outside .request = s.outside .request := hu ▸ State.request_taken s p
  have image : u.image = s.image := State.image_of_outside taken (by decide)
  have keep : u.keep = s.keep := State.keep_of_outside taken (by decide)
  have valid : u.get Reg.extValid row = s.get Reg.extValid row := State.get_of_outside taken _ _ (by decide)
  rw [← hu] at eq
  refine ⟨fun ok now => ?_, fun ok other later => ?_, fun a bad not => ?_⟩
  · rw [State.extentAnswer_now idle ok (by rwa [image, valid, keep])] at eq
    obtain ⟨row', mirror, others⟩ := State.applyExtent_effect u e lt
    have frame : ((u.applyExtent row e).emit (.lexAnswer p 0 [])).outside (Footprint.request.plus [Reg.extWinBase, Reg.extIaBase,
        Reg.extPages, Reg.extRights, Reg.extKind, Reg.extContext, Reg.extTag, Reg.extValid, Reg.extMirror, Reg.extentsValid] [])
        = s.outside (Footprint.request.plus [Reg.extWinBase, Reg.extIaBase, Reg.extPages, Reg.extRights, Reg.extKind,
          Reg.extContext, Reg.extTag, Reg.extValid, Reg.extMirror, Reg.extentsValid] []) := by
      rw [State.outside_emit _ _ _ (by decide), State.frame_applyExtent _ _ _ (by decide)]
      exact State.outside_le (by decide) taken
    rw [State.mirrorField_of_outside taken (by decide) (by decide)] at mirror
    refine ⟨_, eq, State.answered_after s _ p .ok, row', mirror, fun r hr ne => ?_, State.changesOnly_after _ _ frame⟩
    obtain ⟨ext, field⟩ := others r hr ne
    exact ⟨ext.trans (State.ext_of_outside taken (by decide) r), field.trans (State.get_of_outside taken _ _ (by decide))⟩
  · rw [eq, State.extentAnswer_later idle ok (by rwa [image]) (by rwa [valid, keep])]
  · rw [eq, State.extentAnswer_refused idle bad not]

end Sys2Proof.Machine

namespace Sys2Proof.Machine

/-! ### Malformed requests, and completions of the block's own reads (R169, R174) -/

section
variable {s : State} (powered : s.clock.powered = true)
include powered

theorem exec_malformedRequest_cut (cut : s.cutPassed = true) (k : BadTlp) (i : Fin 256) (posted : Bool) (tag : Nat) :
    exec (.malformedRequest k i posted tag) s = .next (s.after s) := by
  rw [exec_malformedRequest, execMalformedRequest, actRom_powered _ _ powered, State.beforeCut_cut _ _ cut]
  rfl

theorem exec_malformedRequest_open (uncut : s.cutPassed = false) (k : BadTlp) (i : Fin 256) (posted : Bool) (tag : Nat) :
    exec (.malformedRequest k i posted tag) s = .next (s.after (s.badTlp k i.val tag posted)) := by
  rw [exec_malformedRequest, execMalformedRequest, actRom_powered _ _ powered, State.beforeCut_open _ _ uncut]
  rfl

end

section
variable (s : State) (i tag : Nat) (posted : Bool)

theorem State.badTlp_fatal {k : BadTlp} {b : Nat} (h : (k, b) ∈ [(BadTlp.malformed, 18), (.flowControlProtocol, 13),
    (.receiverOverflow, 17), (.dataLinkProtocol, 4)]) : s.badTlp k i tag posted = (s.aerUncor 0 b).raise 0 0x004 0 := by
  simp only [List.mem_cons, Prod.mk.injEq, List.not_mem_nil, or_false] at h
  obtain ⟨rfl, rfl⟩ | ⟨rfl, rfl⟩ | ⟨rfl, rfl⟩ | ⟨rfl, rfl⟩ := h <;> rfl

theorem State.badTlp_corrected {k : BadTlp} {b : Nat} (h : (k, b) ∈ [(BadTlp.receiverError, 0), (.badTlp, 6), (.badDllp, 7),
    (.replayTimer, 12), (.replayRollover, 8), (.correctedEcc, 14)]) : s.badTlp k i tag posted = s.aerCor 0 b := by
  simp only [List.mem_cons, Prod.mk.injEq, List.not_mem_nil, or_false] at h
  obtain ⟨rfl, rfl⟩ | ⟨rfl, rfl⟩ | ⟨rfl, rfl⟩ | ⟨rfl, rfl⟩ | ⟨rfl, rfl⟩ | ⟨rfl, rfl⟩ := h <;> rfl

theorem State.badTlp_unsupported {k : BadTlp} (h : k ∈ [BadTlp.unsupported, .decodeDisabled, .bar0Shape]) :
    s.badTlp k i tag posted = s.unsupported i tag 0 posted := by
  simp only [List.mem_cons, List.not_mem_nil, or_false] at h
  obtain rfl | rfl | rfl := h <;> rfl

theorem State.badTlp_bufferEcc_posted : s.badTlp .bufferEcc i tag true = (s.aerUncor 0 22).raise 0 0x004 0 := by
  rw [State.badTlp, if_pos rfl]

theorem State.badTlp_bufferEcc_read : s.badTlp .bufferEcc i tag false = s.bufferPoison i tag := by
  rw [State.badTlp, if_neg Bool.false_ne_true]

theorem State.badTlp_unexpected : s.badTlp .unexpectedCompletion i tag posted = (s.aerUncor 0 16).aerCor 0 13 := rfl

end

/-! #### Completions -/

/-- The AER bit that a failed read leaves. -/
def State.failNoted (s : State) (i : Nat) : CplFail → State
  | .timeout => s.aerUncor i 14
  | .poisoned => s.aerUncor i 12
  | _ => s

/-- The cause under which a read of the device fails. -/
def failCause : CplFail → Nat
  | .timeout => 1
  | .ur => 2
  | .ca => 3
  | .poisoned => 4

section
variable {s : State} (awake : s.awake = true) (uncut : s.cutPassed = false) {tag : Nat}
include awake uncut

theorem exec_hostCompletionTimeout_awake (k : CplFail) : exec (.hostCompletionTimeout tag k) s = .next (s.after
    (match s.outstanding tag with
    | none => s.unexpectedCompletion
    | some r =>
      match r.what with
      | .descriptor ch id => ((s.failNoted r.i k).dropFetch tag).dmaReadFails ch id 0 (failCause k)
      | .dmaRead ch b sl => ((s.failNoted r.i k).dropFetch tag).dmaReadFails ch b sl (failCause k))) := by
  rw [exec_hostCompletionTimeout]
  unfold execHostCompletionTimeout
  rw [act_of_awake s _ awake, State.beforeCut_open _ _ uncut]
  cases k <;> rfl

theorem exec_hostCompletion_unexpected (data : List Byte) (h : s.outstanding tag = none) :
    exec (.hostCompletion tag data) s = .next (s.after ((s.aerUncor 0 16).aerCor 0 13)) := by
  rw [exec_hostCompletion, execHostCompletion, act_of_awake s _ awake, State.beforeCut_open _ _ uncut, h]
  rfl

theorem exec_hostCompletionTimeout_unexpected (k : CplFail) (h : s.outstanding tag = none) :
    exec (.hostCompletionTimeout tag k) s = .next (s.after ((s.aerUncor 0 16).aerCor 0 13)) := by
  rw [exec_hostCompletionTimeout_awake awake uncut, h]
  rfl

variable {r : HostReq} (h : s.outstanding tag = some r)
include h

theorem exec_hostCompletion_part {data : List Byte} (short : r.got.length + data.length < r.len) :
    exec (.hostCompletion tag data) s = .next (s.after { s with host := { s.host with reqs := s.host.reqs.map (fun q =>
      if q.tag = tag then { q with got := r.got ++ data } else q) } }) := by
  rw [exec_hostCompletion, execHostCompletion, act_of_awake s _ awake, State.beforeCut_open _ _ uncut, h]
  dsimp only
  rw [if_pos (by rwa [List.length_append])]
  rfl

theorem exec_hostCompletion_descriptor {data : List Byte} (whole : r.len ≤ r.got.length + data.length) {ch id : Nat}
    (what : r.what = .descriptor ch id) : exec (.hostCompletion tag data) s = .next (s.after
      ((s.dropFetch tag).descData ch id (slice (r.got ++ data) 0 r.len))) := by
  rw [exec_hostCompletion, execHostCompletion, act_of_awake s _ awake, State.beforeCut_open _ _ uncut, h]
  dsimp only
  rw [if_neg (by rwa [List.length_append, Nat.not_lt]), what]

theorem exec_hostCompletion_dmaRead {data : List Byte} (whole : r.len ≤ r.got.length + data.length) {ch b sl : Nat}
    (what : r.what = .dmaRead ch b sl) : exec (.hostCompletion tag data) s = .next (s.after
      ((s.dropFetch tag).dmaData ch b sl (slice (r.got ++ data) 0 r.len))) := by
  rw [exec_hostCompletion, execHostCompletion, act_of_awake s _ awake, State.beforeCut_open _ _ uncut, h]
  dsimp only
  rw [if_neg (by rwa [List.length_append, Nat.not_lt]), what]

theorem exec_hostCompletionTimeout_descriptor (k : CplFail) {ch id : Nat} (what : r.what = .descriptor ch id) :
    exec (.hostCompletionTimeout tag k) s = .next (s.after
      (((s.failNoted r.i k).dropFetch tag).dmaReadFails ch id 0 (failCause k))) := by
  rw [exec_hostCompletionTimeout_awake awake uncut, h]
  dsimp only
  rw [what]

theorem exec_hostCompletionTimeout_dmaRead (k : CplFail) {ch b sl : Nat} (what : r.what = .dmaRead ch b sl) :
    exec (.hostCompletionTimeout tag k) s = .next (s.after
      (((s.failNoted r.i k).dropFetch tag).dmaReadFails ch b sl (failCause k))) := by
  rw [exec_hostCompletionTimeout_awake awake uncut, h]
  dsimp only
  rw [what]

end

/-- Settles O20: a request in error is its row of Table 7.8 (`State.badTlp_fatal` and its like), and a completion is what its
tag is outstanding for. -/
theorem otherRequestsOfTheHost : Obligations.OtherRequestsOfTheHost := by
  unfold Obligations.OtherRequestsOfTheHost
  refine ⟨fun i posted tag s powered => ⟨fun k cut => exec_malformedRequest_cut powered cut k i posted tag, fun uncut => ?_⟩,
    fun tag data s awake uncut => ⟨fun unknown => ⟨exec_hostCompletion_unexpected awake uncut data unknown,
      fun k => exec_hostCompletionTimeout_unexpected awake uncut k unknown⟩, fun r h => ?_⟩⟩
  · have next (k : BadTlp) (posted : Bool) := exec_malformedRequest_open powered uncut k i posted tag
    refine ⟨fun k b mem => ?_, ?_, ?_, fun k b mem => ?_, fun k mem => ⟨?_, ?_⟩, fun on => ?_, fun off => ?_, ?_⟩
    · rw [next, State.badTlp_fatal s _ _ _ mem]
    · rw [next, State.badTlp_bufferEcc_posted]
    · rw [next, State.badTlp_bufferEcc_read]
    · rw [next, State.badTlp_corrected s _ _ _ mem]
    · rw [next, State.badTlp_unsupported s _ _ _ mem]
      rfl
    · rw [next, State.badTlp_unsupported s _ _ _ mem]
      rfl
    · rw [next, State.badTlp, if_pos on]
    · rw [next, State.badTlp, if_neg (Bool.eq_false_iff.mp off)]
      rfl
    · rw [next, State.badTlp_unexpected]
  · exact ⟨exec_hostCompletion_part awake uncut h, fun ch id whole => exec_hostCompletion_descriptor awake uncut h whole,
      fun ch b sl whole => exec_hostCompletion_dmaRead awake uncut h whole,
      fun ch id what =>
        have fails (k : CplFail) := exec_hostCompletionTimeout_descriptor awake uncut h k what
        ⟨fails .timeout, fails .ur, fails .ca, fails .poisoned⟩,
      fun ch b sl what =>
        have fails (k : CplFail) := exec_hostCompletionTimeout_dmaRead awake uncut h k what
        ⟨fails .timeout, fails .ur, fails .ca, fails .poisoned⟩⟩

end Sys2Proof.Machine

namespace Sys2Proof.Machine

/-! ### Functions that come and go (R180, R209, R212, R213) -/

theorem State.each_append {α : Type} (s : State) (l k : List α) (g : State → α → State) :
    s.each (l ++ k) g = (s.each l g).each k g := List.foldl_append

/-- What every step of a list preserves holds at its end. -/
theorem State.each_preserves {α : Type} (P : State → Prop) (g : State → α → State) (l : List α)
    (keeps : ∀ (s : State), ∀ a ∈ l, P s → P (g s a)) (s : State) (h : P s) : P (s.each l g) := by
  induction l generalizing s with
  | nil => exact h
  | cons a l ih =>
    exact ih (fun s b mem => keeps s b (List.mem_cons_of_mem _ mem)) _ (keeps s a List.mem_cons_self h)

/-! #### What a reset that is asked for leaves -/

section
variable (s : State) {i kind : Nat} (drain : Bool)

/-- A reset of instance i that some function asked for stands in the list, and the function does not answer. -/
def State.funcAsked (i kind : Nat) : Prop :=
  s.host.flr.mem i = true ∧ ∃ j ∈ s.resets, j.i = i ∧ j.kind = kind ∧ j.func = true

/-- What an ask makes of the resets: a job of the kind asked for, new or in place of the one that ran. -/
theorem State.askReset_job (func : kind = 1 ∨ kind = 2 ∨ kind = 3) : ∃ j : ResetJob, j.i = i ∧ j.kind = kind ∧ j.func = true ∧
    (kind = 2 → i = 0 → j.pf = true) ∧ (s.resetJob i = none → j.drain = drain) ∧
    ((s.askReset i kind drain).resets = s.resets ++ [j] ∨
      (∃ k ∈ s.resets, k.i = i) ∧ (s.askReset i kind drain).resets = (s.putReset j).resets) := by
  have noted : (if kind = 4 then s else s.modHost (fun h => { h with flr := h.flr.add i })) =
      s.modHost (fun h => { h with flr := h.flr.add i }) := if_neg (by omega)
  have asked : (kind == 1 || kind == 2 || kind == 3) = true := by
    obtain rfl | rfl | rfl := func <;> rfl
  have pf : kind = 2 → i = 0 → (kind == 2 && i == 0) = true := by
    rintro rfl rfl
    rfl
  rw [State.askReset, noted]
  have job : (s.modHost (fun h => { h with flr := h.flr.add i })).resetJob i = s.resetJob i := rfl
  dsimp only
  rw [job, asked]
  cases h : s.resetJob i with
  | none => exact ⟨_, rfl, rfl, rfl, pf, fun _ => rfl, .inl rfl⟩
  | some j =>
    obtain ⟨mem, rfl⟩ := State.resetJob_some s h
    have stands : ∃ k ∈ s.resets, k.i = j.i := ⟨j, mem, rfl⟩
    have forced (b : Bool) : (b || true) = true := Bool.or_true b
    have first (b : Bool) (x : kind = 2) (y : j.i = 0) : (b || (kind == 2 && j.i == 0)) = true := by
      rw [pf x y, Bool.or_true]
    dsimp only
    split
    · refine ⟨_, ?_, ?_, ?_, ?_, nofun, .inr ⟨stands, rfl⟩⟩
      exacts [rfl, rfl, forced _, first _]

    · split
      · refine ⟨_, ?_, ?_, ?_, ?_, nofun, .inr ⟨stands, rfl⟩⟩
        exacts [rfl, rfl, forced _, first _]

      · refine ⟨_, ?_, ?_, ?_, ?_, nofun, .inr ⟨stands, rfl⟩⟩
        exacts [rfl, rfl, forced _, first _]


theorem State.flr_askReset (i : Nat) (func : kind = 1 ∨ kind = 2 ∨ kind = 3) :
    (s.askReset i kind drain).host = { s.host with flr := s.host.flr.add i } := by
  have noted : (if kind = 4 then s else s.modHost (fun h => { h with flr := h.flr.add i })) =
      s.modHost (fun h => { h with flr := h.flr.add i }) := if_neg (by omega)
  rw [State.askReset, noted]
  dsimp only
  split
  · rfl
  · exact State.keeps_ite State.host rfl (State.keeps_ite State.host rfl rfl)

/-- The job that an ask leaves stands in the list. -/
theorem State.mem_askReset (i : Nat) (func : kind = 1 ∨ kind = 2 ∨ kind = 3) : ∃ j ∈ (s.askReset i kind drain).resets, j.i = i ∧
    j.kind = kind ∧ j.func = true ∧ (kind = 2 → i = 0 → j.pf = true) ∧ (s.resetJob i = none → j.drain = drain) := by
  obtain ⟨j, rfl, name, asked, pf, mode, list | ⟨stands, list⟩⟩ := State.askReset_job s (i := i) drain func
  · exact ⟨j, by simp [list], rfl, name, asked, pf, mode⟩
  · exact ⟨j, by rw [list]; exact State.mem_putReset s stands, rfl, name, asked, pf, mode⟩

theorem State.mem_askReset_other {k : ResetJob} (func : kind = 1 ∨ kind = 2 ∨ kind = 3) (h : k ∈ s.resets) (other : k.i ≠ i) :
    k ∈ (s.askReset i kind drain).resets := by
  obtain ⟨j, rfl, -, -, -, -, list | ⟨-, list⟩⟩ := State.askReset_job s (i := i) drain func
  · exact list ▸ List.mem_append_left _ h
  · exact list ▸ State.mem_putReset_other s h other

theorem State.funcAsked_askReset (i : Nat) (func : kind = 1 ∨ kind = 2 ∨ kind = 3) : (s.askReset i kind drain).funcAsked i kind := by
  obtain ⟨j, mem, name, same, asked, -, -⟩ := State.mem_askReset s drain i func
  refine ⟨?_, j, mem, name, same, asked⟩
  rw [State.flr_askReset s drain i func]
  exact SegSet.mem_add (.inr rfl)

theorem State.funcAsked_kept {k : Nat} (func : kind = 1 ∨ kind = 2 ∨ kind = 3) (h : s.funcAsked k kind) :
    (s.askReset i kind drain).funcAsked k kind := by
  by_cases same : k = i
  · exact same ▸ State.funcAsked_askReset s drain k func
  · obtain ⟨flr, j, mem, rfl, asked⟩ := h
    refine ⟨?_, j, State.mem_askReset_other s drain func mem same, rfl, asked⟩
    rw [State.flr_askReset s drain i func]
    exact SegSet.mem_add (.inl flr)

end

/-! #### The list of the live functions -/

theorem Tbl.mem_rowsOf {t : Tbl Nat} {r i v : Nat} (h : Tbl.find t (Reg.key r i) = some v) (small : i < 4294967296) :
    i ∈ Tbl.rowsOf r t := by
  induction t with
  | nil => cases h
  | cons x t ih =>
    obtain ⟨k, w⟩ := x
    by_cases same : k = Reg.key r i
    · rw [Tbl.rowsOf, if_pos (by rw [same, Reg.key_reg])]
      refine List.mem_cons.mpr (.inl ?_)
      rw [same, Reg.key]
      omega
    · rw [Tbl.find, if_neg same] at h
      rw [Tbl.rowsOf]
      split
      · exact List.mem_cons_of_mem _ (ih h)
      · exact ih h

theorem Reg.default_instState {i : Nat} (h : i ≠ 0) : Reg.default Reg.instState i = 0 := by
  have row : Reg.rowDefault Reg.instState i = some (if i = 0 then 1 else 0) := rfl
  rw [Reg.default, row, if_neg h]

section
variable (s : State)

theorem State.live_iff {i : Nat} (h : i ≠ 0) : s.live i = true ↔ s.get Reg.instState i ≠ 0 := by
  rw [State.live, Bool.or_eq_true, beq_iff_eq, bne_iff_ne]
  exact or_iff_right h

theorem State.mem_liveList {i : Nat} (small : i < 4294967296) (h : i ≠ 0) (live : s.live i = true) :
    i ∈ s.liveList.filter (· ≠ 0) := by
  have on := (State.live_iff s h).mp live
  have found : ∃ v, Tbl.find s.regs (Reg.key Reg.instState i) = some v := by
    cases f : Tbl.find s.regs (Reg.key Reg.instState i) with
    | some v => exact ⟨v, rfl⟩
    | none =>
      rw [State.get, Tbl.getD, f, Option.getD_none, Reg.default_instState h] at on
      exact absurd rfl on
  obtain ⟨v, found⟩ := found
  have row : i ∈ s.rowsOf Reg.instState := Tbl.mem_rowsOf found small
  rw [List.mem_filter]
  refine ⟨List.mem_cons_of_mem _ (List.mem_filter.mpr ⟨row, ?_⟩), by simpa using h⟩
  rw [Bool.and_eq_true, bne_iff_ne, bne_iff_ne]
  exact ⟨h, on⟩

end

/-! #### Clearing VF Enable -/

section
variable (s : State) {kind : Nat}

theorem State.frame_clearVfs : (s.clearVfs kind).outside ⟨[], [.host, .resets]⟩ = s.outside ⟨[], [.host, .resets]⟩ := by
  rw [State.clearVfs]
  rw [State.outside_each _ _ _ _ (fun s i => State.outside_askReset s i _ _), State.outside_modHost _ _ _ (by decide)]

/-- With VF Enable cleared every live VF is asked to reset. -/
theorem State.clearVfs_effect (func : kind = 1 ∨ kind = 2 ∨ kind = 3) : (s.clearVfs kind).host.vfEnable = false ∧
    (s.clearVfs kind).host.vfMem = false ∧
    (∀ i, i < 4294967296 → i ≠ 0 → s.live i = true → (s.clearVfs kind).funcAsked i kind) ∧
    (s.host.flr.mem 0 = true → (s.clearVfs kind).host.flr.mem 0 = true) ∧
    (∀ j ∈ s.resets, j.i = 0 → j ∈ (s.clearVfs kind).resets) := by
  rw [State.clearVfs]
  have live (i : Nat) : s.live i = true → (s.modHost (fun h => { h with vfEnable := false, vfMem := false })).live i = true := id
  have off : (s.modHost (fun h => { h with vfEnable := false, vfMem := false })).host.vfEnable = false := rfl
  have mem : (s.modHost (fun h => { h with vfEnable := false, vfMem := false })).host.vfMem = false := rfl
  have flr : s.host.flr.mem 0 = true → (s.modHost (fun h => { h with vfEnable := false, vfMem := false })).host.flr.mem 0 = true := id
  have jobs : ∀ j ∈ s.resets, j ∈ (s.modHost (fun h => { h with vfEnable := false, vfMem := false })).resets := fun _ h => h
  generalize s.modHost (fun h => { h with vfEnable := false, vfMem := false }) = a at live off mem flr jobs
  have host (s : State) (i : Nat) : (s.askReset i kind (s.flrDrains i)).host = { s.host with flr := s.host.flr.add i } :=
    State.flr_askReset s _ i func
  refine ⟨?_, ?_, fun i small ne on => ?_, fun h => ?_, fun j h zero => ?_⟩
  · rw [State.keeps_each (fun s => s.host.vfEnable) _ _ _ (fun s i => by rw [host]), off]
  · rw [State.keeps_each (fun s => s.host.vfMem) _ _ _ (fun s i => by rw [host]), mem]
  · exact State.each_establishes (fun i s => s.funcAsked i kind) (fun s i => s.askReset i kind (s.flrDrains i))
      (fun s i => State.funcAsked_askReset s _ i func) (fun s i k h => State.funcAsked_kept s _ func h) a _ i
      (.inl (State.mem_liveList a small ne (live i on)))
  · refine State.each_preserves (fun s => s.host.flr.mem 0 = true) _ _ (fun s i _ h => ?_) a (flr h)
    rw [host]
    exact SegSet.mem_add (.inl h)
  · refine State.each_preserves (fun s => j ∈ s.resets) _ _ (fun s i mem h => ?_) a (jobs j h)
    refine State.mem_askReset_other s _ func h ?_
    rw [zero]
    have := (List.mem_filter.mp mem).2
    simpa using Ne.symm (by simpa using this)

end
end Sys2Proof.Machine

namespace Sys2Proof.Machine

/-! #### The staged fields of an instance take effect (R209) -/

/-- What an instance's staged fields that take effect may change. -/
def Footprint.adopted : Footprint := Footprint.none.plus (Reg.leafWeight :: stagedFields.map (·.2)) [.flow]

section
variable (s : State) (i : Nat)

/-- One staged field takes effect. -/
def State.adoptField (x : Nat × Nat) : State := if s.get x.2 i = s.get x.1 i then s else s.set x.2 i (s.get x.1 i)

theorem State.frame_writeLeafWeight (row w : Nat) {f : Footprint} (h : Reg.leafWeight ∈ f.regs) (k : Part.flow ∈ f.parts) :
    (s.writeLeafWeight row w).outside f = s.outside f := by
  refine State.outside_ite _ rfl ?_
  rw [← State.outside_set s f Reg.leafWeight row w h]
  simp [State.outside, Footprint.keep, k]

theorem State.get_adoptField (x : Nat × Nat) (q : Nat) :
    (s.adoptField i x).get q i = if x.2 = q then s.get x.1 i else s.get q i := by
  unfold State.adoptField
  split
  case isTrue same =>
    split
    case isTrue h => rw [← h, same]
    case isFalse => rfl
  case isFalse =>
    split
    case isTrue h => rw [← h, State.get_set_same]
    case isFalse h => exact State.get_set_register _ _ _ _ h

theorem State.get_adoptField_other (x : Nat × Nat) (q : Nat) {k : Nat} (other : i % 4294967296 ≠ k % 4294967296) :
    (s.adoptField i x).get q k = s.get q k := by
  refine State.keeps_ite (fun s => s.get q k) rfl (State.get_set_other _ _ _ _ _ _ fun same => ?_)
  rw [Reg.key, Reg.key] at same
  omega

theorem State.adoptStaged_eq : s.adoptStaged i = (s.each stagedFields (fun s x => s.adoptField i x)).each (List.range 80)
    (fun s x => s.writeLeafWeight (x * 256 + i) (s.get Reg.effWeight i)) := rfl

theorem State.leaves_adoptStaged : (s.adoptStaged i).outside ⟨[Reg.leafWeight], [.flow]⟩ =
    (s.each stagedFields (fun s x => s.adoptField i x)).outside ⟨[Reg.leafWeight], [.flow]⟩ := by
  rw [State.adoptStaged_eq]
  exact State.outside_each _ _ _ _ (fun s x => State.frame_writeLeafWeight s _ _ (by decide) (by decide))

theorem State.frame_adoptStaged {f : Footprint} (h : Footprint.adopted.le f = true) : (s.adoptStaged i).outside f = s.outside f := by
  refine State.outside_le h ((State.outside_le (by decide) (State.leaves_adoptStaged s i)).trans ?_)
  have field (s : State) (x : Nat × Nat) (mem : x.2 ∈ Footprint.adopted.regs) :
      (s.adoptField i x).outside .adopted = s.outside .adopted :=
    State.outside_ite _ rfl (State.outside_set _ _ _ _ _ mem)
  refine State.each_preserves (fun t => t.outside .adopted = s.outside .adopted) _ _ (fun t x mem h => ?_) s rfl
  exact (field t x (List.mem_cons_of_mem _ (List.mem_append_left _ (List.mem_map_of_mem mem)))).trans h

theorem State.get_adoptStaged {x : Nat × Nat} (h : x ∈ stagedFields) : (s.adoptStaged i).get x.2 i = s.get x.1 i := by
  have free : x.2 ∉ ([Reg.leafWeight] : List Nat) := by
    revert x
    decide
  rw [State.get_of_outside (State.leaves_adoptStaged s i) _ _ free]
  simp only [stagedFields, List.mem_cons, List.not_mem_nil, or_false] at h
  obtain rfl | rfl | rfl | rfl | rfl | rfl | rfl | rfl := h <;>
    simp (disch := decide) only [stagedFields, State.each_cons, State.each_nil, State.get_adoptField, reduceIte, if_neg]

theorem State.get_adoptStaged_other {q k : Nat} (other : i % 4294967296 ≠ k % 4294967296) (leaf : q ≠ Reg.leafWeight) :
    (s.adoptStaged i).get q k = s.get q k := by
  rw [State.get_of_outside (State.leaves_adoptStaged s i) _ _ (by simpa using leaf)]
  exact State.keeps_each (fun s => s.get q k) _ _ _ (fun s x => State.get_adoptField_other s i x q other)

end

/-! #### VF Enable set (R212) -/

section
variable (s : State) (i : Nat)

/-- A VF that comes with VF Enable. -/
def State.vfComes : State := if s.live i then s else (s.adoptStaged i).set Reg.instState i 1

theorem State.setVfs_eq (off : s.host.vfEnable = false) : s.setVfs =
    (s.modHost (fun h => { h with vfEnable := true })).each ((List.range s.host.numVfs).map (· + 1)) State.vfComes := by
  rw [State.setVfs, if_neg (Bool.eq_false_iff.mp off)]
  rfl

/-- Function k is live, and unless it was before, it has in effect what was staged in `s`. -/
def State.hasCome (t : State) (k : Nat) : Prop :=
  t.live k = true ∧ (s.live k = false → ∀ x ∈ stagedFields, t.get x.2 k = s.get x.1 k)

/-- What decides how function k will come is as in `s`. -/
def State.awaits (t : State) (k : Nat) : Prop :=
  t.live k = s.live k ∧ (s.live k = false → ∀ x ∈ stagedFields, t.get x.1 k = s.get x.1 k)

theorem Reg.staged_plain : ∀ x ∈ stagedFields, x.1 ≠ Reg.leafWeight ∧ x.2 ≠ Reg.leafWeight ∧ x.1 ≠ Reg.instState ∧
    x.2 ≠ Reg.instState := by decide

theorem State.get_vfComes_other {q k : Nat} (other : i % 4294967296 ≠ k % 4294967296) (leaf : q ≠ Reg.leafWeight) :
    (s.vfComes i).get q k = s.get q k := by
  refine State.keeps_ite (fun s => s.get q k) rfl ?_
  rw [State.get_set_other _ _ _ _ _ _ fun same => by rw [Reg.key, Reg.key] at same; omega]
  exact State.get_adoptStaged_other s i other leaf

theorem State.live_vfComes_other {k : Nat} (other : i % 4294967296 ≠ k % 4294967296) : (s.vfComes i).live k = s.live k := by
  rw [State.live, State.get_vfComes_other s i other (by decide), State.live]

/-- The places of two VFs of one number are one. -/
theorem State.live_place {i k : Nat} (hi : i ≠ 0) (hk : k ≠ 0) (same : i % 4294967296 = k % 4294967296) :
    s.live i = s.live k := by
  have place : s.get Reg.instState i = s.get Reg.instState k := by
    rw [State.get, State.get, Reg.default_instState hi, Reg.default_instState hk, Reg.key, Reg.key, same]
  rw [State.live, State.live, place, beq_false_of_ne hi, beq_false_of_ne hk]

variable {i} {t : State} {k : Nat}

theorem State.hasCome_kept (hi : i ≠ 0) (hk : k ≠ 0) (h : s.hasCome t k) : s.hasCome (t.vfComes i) k := by
  obtain ⟨live, fields⟩ := h
  by_cases same : i % 4294967296 = k % 4294967296
  · have there : t.live i = true := (State.live_place t hi hk same).trans live
    rw [State.vfComes, if_pos there]
    exact ⟨live, fields⟩
  · refine ⟨(State.live_vfComes_other t i same).trans live, fun off x mem => ?_⟩
    rw [State.get_vfComes_other t i same (Reg.staged_plain x mem).2.1]
    exact fields off x mem

theorem State.awaits_kept (other : i % 4294967296 ≠ k % 4294967296) (h : s.awaits t k) : s.awaits (t.vfComes i) k := by
  obtain ⟨live, fields⟩ := h
  refine ⟨(State.live_vfComes_other t i other).trans live, fun off x mem => ?_⟩
  rw [State.get_vfComes_other t i other (Reg.staged_plain x mem).1]
  exact fields off x mem

theorem State.hasCome_vfComes (hk : k ≠ 0) (h : s.awaits t k) : s.hasCome (t.vfComes k) k := by
  obtain ⟨live, fields⟩ := h
  unfold State.vfComes
  split
  case isTrue on => exact ⟨on, fun off => absurd (on.symm.trans (live.trans off)) (by decide)⟩
  case isFalse off =>
    refine ⟨?_, fun was x mem => ?_⟩
    · rw [State.live_iff _ hk, State.get_set_same]
      decide
    · rw [State.get_set_register _ _ _ _ (Reg.staged_plain x mem).2.2.2.symm, State.get_adoptStaged t k mem]
      exact fields was x mem

/-- After VF n every VF up to n has come, and the rest await it. -/
theorem State.comes_upTo (n : Nat) (start : ∀ k, s.awaits t k) :
    (∀ k, k ≠ 0 → k ≤ n → k < 256 → s.hasCome (t.each ((List.range n).map (· + 1)) State.vfComes) k) ∧
    (∀ k, n < k → k < 256 → s.awaits (t.each ((List.range n).map (· + 1)) State.vfComes) k) := by
  induction n with
  | zero => exact ⟨fun k ne le => absurd (Nat.le_zero.mp le) ne, fun k _ _ => start k⟩
  | succ n ih =>
    obtain ⟨come, rest⟩ := ih
    rw [List.range_succ, List.map_append, State.each_append]
    refine ⟨fun k ne le lt => ?_, fun k gt lt => ?_⟩
    · obtain rfl | lt' : k = n + 1 ∨ k ≤ n := by omega
      · exact State.hasCome_vfComes s ne (rest _ (Nat.lt_succ_self n) lt)
      · exact State.hasCome_kept s (Nat.succ_ne_zero n) ne (come k ne lt' lt)
    · exact State.awaits_kept s (show (n + 1) % 4294967296 ≠ k % 4294967296 by omega) (rest k (by omega) lt)

/-- What setting VF Enable leaves. -/
theorem State.setVfs_effect (off : s.host.vfEnable = false) :
    s.setVfs.host = { s.host with vfEnable := true } ∧
    (∀ k, 1 ≤ k → k ≤ s.host.numVfs → k < 256 → s.hasCome s.setVfs k) ∧
    s.setVfs.outside (Footprint.none.plus (Reg.instState :: Reg.leafWeight :: stagedFields.map (·.2)) [.host, .flow]) =
      s.outside (Footprint.none.plus (Reg.instState :: Reg.leafWeight :: stagedFields.map (·.2)) [.host, .flow]) := by
  rw [State.setVfs_eq s off]
  have comes (s : State) (i : Nat) : (s.vfComes i).outside (Footprint.adopted.plus [Reg.instState] []) =
      s.outside (Footprint.adopted.plus [Reg.instState] []) := by
    refine State.outside_ite _ rfl ?_
    rw [State.outside_set _ _ _ _ _ (by decide), State.frame_adoptStaged _ _ (by decide)]
  refine ⟨?_, fun k pos le lt => ?_, ?_⟩
  · exact State.keeps_each State.host _ _ _ (fun s i => State.host_of_outside (comes s i) (by decide))
  · have start : ∀ k, s.awaits (s.modHost (fun h => { h with vfEnable := true })) k := fun k => ⟨rfl, fun _ _ _ => rfl⟩
    exact (State.comes_upTo s s.host.numVfs start).1 k (Nat.one_le_iff_ne_zero.mp pos) le lt
  · rw [State.outside_each _ _ _ _ (fun s i => State.outside_le (by decide) (comes s i)), State.outside_modHost _ _ _ (by decide)]

end
end Sys2Proof.Machine

namespace Sys2Proof.Machine

/-! #### Configuration requests (R180) -/

section
variable (s : State) {i : Nat} (f : State → State)

theorem State.configCall_cut (cut : s.cutPassed = true) : s.configCall i f = s := State.beforeCut_cut s _ cut

theorem State.configCall_gone (uncut : s.cutPassed = false) (gone : s.live i = false) : s.configCall i f = s := by
  rw [State.configCall, State.beforeCut_open s _ uncut, gone]
  rfl

theorem State.configCall_retry (uncut : s.cutPassed = false) (live : s.live i = true) (runs : s.flrRuns i = true) :
    s.configCall i f = s.emit (.requestRetry i) := by
  rw [State.configCall, State.beforeCut_open s _ uncut, live, runs]
  rfl

theorem State.configCall_taken (uncut : s.cutPassed = false) (live : s.live i = true) (idle : s.flrRuns i = false) :
    s.configCall i f = f s := by
  rw [State.configCall, State.beforeCut_open s _ uncut, live, idle]
  rfl

theorem State.live_zero : s.live 0 = true := rfl

end

theorem State.awake_hears {s : State} (h : s.hears = true) : s.awake = true := by
  rw [State.hears, Bool.and_eq_true] at h
  exact h.1

section
variable {s : State} (awake : s.awake = true)
include awake

theorem exec_vfEnableSet_awake (m : Bool) : exec (.vfEnableSet m) s = .next (s.after
    (s.configCall 0 (fun s => s.setVfs.modHost (fun h => { h with vfMem := m })))) := by
  rw [exec_vfEnableSet, execVfEnableSet]
  exact act_of_awake s _ awake

theorem exec_vfEnableClear_awake : exec .vfEnableClear s = .next (s.after
    (s.configCall 0 (fun s => if s.host.vfEnable then s.clearVfs 3 else s))) := by
  rw [exec_vfEnableClear, execVfEnableClear]
  exact act_of_awake s _ awake

theorem exec_numvfsWrite_awake (n : Fin 256) : exec (.numvfsWrite n) s = .next (s.after
    (s.configCall 0 (fun s => if s.host.vfEnable then s else s.modHost (fun h => { h with numVfs := n.val })))) := by
  rw [exec_numvfsWrite, execNumvfsWrite]
  exact act_of_awake s _ awake

theorem exec_vfFlr_awake (i : Fin 256) : exec (.vfFlr i) s = .next (s.after
    (s.configCall i.val (fun s => if i.val ≠ 0 then s.askReset i.val 1 (s.flrDrains i.val) else s))) := by
  rw [exec_vfFlr, execVfFlr]
  exact act_of_awake s _ awake

end

theorem exec_pfFlr_powered {s : State} (powered : s.clock.powered = true) : exec .pfFlr s = .next (s.after
    (s.configCall 0 (fun s => (s.askReset 0 2 (s.flrDrains 0)).clearVfs 2))) := by
  rw [exec_pfFlr, execPfFlr, actRom_powered _ _ powered]
  rfl

/-- A PF FLR takes the PF and every live VF. -/
theorem State.pfFlr_effect (s : State) {t : State} (ht : t = (s.askReset 0 2 (s.flrDrains 0)).clearVfs 2) :
    t.host.vfEnable = false ∧ t.host.flr.mem 0 = true ∧ (∃ j ∈ t.resets, j.i = 0 ∧ j.kind = 2 ∧ j.pf = true) ∧
    (∀ k : Fin 256, k ≠ 0 → s.live k.val = true → t.funcAsked k.val 2) ∧
    t.outside (Footprint.none.plus [] [.host, .resets]) = s.outside (Footprint.none.plus [] [.host, .resets]) := by
  obtain ⟨off, -, vfs, flr, jobs⟩ := State.clearVfs_effect (s.askReset 0 2 (s.flrDrains 0)) (kind := 2) (.inr (.inl rfl))
  obtain ⟨j, mem, zero, kind, -, pf, -⟩ := State.mem_askReset s (s.flrDrains 0) 0 (kind := 2) (.inr (.inl rfl))
  have live (k : Nat) : (s.askReset 0 2 (s.flrDrains 0)).live k = s.live k :=
    State.live_of_outside (State.outside_askReset s 0 2 _) (by decide) k
  have asked := (State.funcAsked_askReset s (s.flrDrains 0) 0 (kind := 2) (.inr (.inl rfl))).1
  have frame := (State.frame_clearVfs (s.askReset 0 2 (s.flrDrains 0)) (kind := 2)).trans (State.outside_askReset s 0 2 _)
  rw [← ht] at off vfs flr jobs frame
  refine ⟨off, flr asked, ⟨j, jobs j mem zero, zero, kind, pf rfl rfl⟩, fun k ne on => ?_, frame⟩
  exact vfs k.val (by omega) (fun z => ne (Fin.ext z)) ((live k.val).trans on)

/-- Settles O21: the commands are configuration requests (`State.configCall_taken` and its like); VF Enable does what
`State.setVfs_effect` and `State.clearVfs_effect` say, and an FLR what `State.mem_askReset` says of its job. -/
theorem functionsComeAndGo : Obligations.FunctionsComeAndGo := by
  unfold Obligations.FunctionsComeAndGo
  refine ⟨fun m n s awake => ⟨fun cut => ?_, fun uncut runs => ?_, fun uncut idle => ?_⟩, fun i s hears => ?_⟩
  · rw [exec_vfEnableSet_awake awake, exec_vfEnableClear_awake awake, exec_numvfsWrite_awake awake,
      State.configCall_cut _ _ cut, State.configCall_cut _ _ cut, State.configCall_cut _ _ cut]
    exact ⟨rfl, rfl, rfl⟩
  · rw [exec_vfEnableSet_awake awake, exec_vfEnableClear_awake awake, exec_numvfsWrite_awake awake,
      State.configCall_retry _ _ uncut s.live_zero runs, State.configCall_retry _ _ uncut s.live_zero runs,
      State.configCall_retry _ _ uncut s.live_zero runs]
    exact ⟨rfl, rfl, rfl⟩
  · rw [exec_vfEnableSet_awake awake, exec_vfEnableClear_awake awake, exec_numvfsWrite_awake awake,
      State.configCall_taken _ _ uncut s.live_zero idle, State.configCall_taken _ _ uncut s.live_zero idle,
      State.configCall_taken _ _ uncut s.live_zero idle]
    refine ⟨fun off => ?_, fun on => ?_, fun on => ?_, fun off => ?_, fun off => ?_, fun on => ?_⟩
    · obtain ⟨host, come, frame⟩ := State.setVfs_effect s off
      have enabled : s.setVfs.host.vfEnable = true := by rw [host]
      have number : s.setVfs.host.numVfs = s.host.numVfs := by rw [host]
      generalize s.setVfs = t at enabled number come frame
      refine ⟨_, rfl, ?_, rfl, ?_, fun k pos le lt => (come k pos le lt).1, fun k x pos le lt gone mem =>
        (come k pos le lt).2 gone x mem, State.changesOnly_after _ _ ((State.outside_modHost _ _ _ (by decide)).trans frame)⟩
      · exact enabled
      · exact number
    · rw [State.setVfs, if_pos on]
      rfl
    · rw [if_pos on]
      obtain ⟨off, mem, asked, -, -⟩ := State.clearVfs_effect s (kind := 3) (.inr (.inr rfl))
      have frame := State.frame_clearVfs s (kind := 3)
      generalize s.clearVfs 3 = t at off mem asked frame
      exact ⟨_, rfl, off, mem, fun k ne live => (asked k.val (by omega) (fun z => ne (Fin.ext z)) live).2,
        State.changesOnly_after _ _ frame⟩
    · rw [if_neg (Bool.eq_false_iff.mp off)]
    · rw [if_neg (Bool.eq_false_iff.mp off)]
      rfl
    · rw [if_pos on]
  · obtain ⟨powered, uncut, -⟩ := State.hears_spec s hears
    rw [exec_pfFlr_powered powered, exec_vfFlr_awake (State.awake_hears hears)]
    refine ⟨fun idle => ?_, fun runs => ?_, fun ne on => ?_, fun live runs => ?_, fun none => ?_⟩
    · rw [State.configCall_taken _ _ uncut s.live_zero idle]
      obtain ⟨off, flr, job, vfs, frame⟩ := State.pfFlr_effect s rfl
      generalize (s.askReset 0 2 (s.flrDrains 0)).clearVfs 2 = t at off flr job vfs frame
      exact ⟨_, rfl, off, flr, job, vfs, State.changesOnly_after _ _ frame⟩
    · rw [State.configCall_retry _ _ uncut s.live_zero runs]
    · rw [State.configOn, Bool.and_eq_true, Bool.not_eq_true'] at on
      rw [State.configCall_taken _ _ uncut on.1 on.2, if_pos (show i.val ≠ 0 from fun z => ne (Fin.ext z))]
      obtain ⟨j, mem, name, kind, func, -, mode⟩ := State.mem_askReset s (s.flrDrains i.val) i.val (kind := 1) (.inl rfl)
      have flr := (State.funcAsked_askReset s (s.flrDrains i.val) i.val (kind := 1) (.inl rfl)).1
      have frame := State.outside_askReset s i.val 1 (s.flrDrains i.val)
      generalize s.askReset i.val 1 (s.flrDrains i.val) = t at mem flr frame
      exact ⟨_, rfl, flr, ⟨j, mem, name, kind, func, mode⟩, State.changesOnly_after _ _ frame⟩
    · rw [State.configCall_retry _ _ uncut live runs]
    · obtain ⟨rfl, idle⟩ | gone := none
      · rw [State.configCall_taken s (i := (0 : Fin 256).val) _ uncut s.live_zero idle]
        rfl
      · rw [State.configCall_gone _ _ uncut gone]

end Sys2Proof.Machine

namespace Sys2Proof.Machine

/-! ### The contexts and their commands (R102, R114 to R116, R121) -/

section
variable {s t : State} {f : Footprint}

theorem CtxState.ofCode_code (st : CtxState) : CtxState.ofCode st.code = st := by cases st <;> rfl

theorem State.ctxState_of_outside (h : t.outside f = s.outside f) (r : Reg.ctxState ∉ f.regs) (n : Nat) :
    t.ctxState n = s.ctxState n := by
  rw [State.ctxState, State.get_of_outside h _ _ r, State.ctxState]

end

section
variable (s : State) (n : Nat)

theorem State.ctxState_setCtx (st : CtxState) : (s.setCtx n st).ctxState n = st := by
  rw [State.ctxState, State.setCtx, State.get_set_register _ _ _ _ (by decide), State.get_set_same, CtxState.ofCode_code]

theorem State.contextsOpen_setCtx_opened (h : s.ctxState n = .closed) :
    (s.setCtx n .opened).get Reg.appendContextsOpen = s.get Reg.appendContextsOpen + 1 := by
  rw [State.setCtx, State.get_set_same, h]
  rfl

/-- The record and the word of a notification. -/
def State.ctxTold : State :=
  let r := s.ctxRun n
  let nt := s.get Reg.ctxNotify n
  let s := if bit nt 1 then s.writeDword n r.degraded else s
  if bit nt 0 then
    s.recordTo (s.get Reg.ctxQueue n) 1 (s.ctxInst n) 0x030
      (layout [(4, n + (if r.degraded then 2147483648 else 0)), (4, s.get Reg.ctxUserTag n), (8, s.get Reg.ctxDurable n),
        (4, r.u), (4, sat 4294967295 (s.clauseNow - r.oldest))])
  else s

theorem State.notifyCtx_eq : s.notifyCtx n = if (s.ctxRun n).u = 0 then s
    else (s.ctxTold n).putCtxRun n { s.ctxRun n with u := 0, degraded := false } := rfl

theorem State.frame_ctxTold {f : Footprint} (h : Footprint.event.le f = true) : (s.ctxTold n).outside f = s.outside f := by
  have word : (if bit (s.get Reg.ctxNotify n) 1 then s.writeDword n (s.ctxRun n).degraded else s).outside f = s.outside f :=
    State.outside_ite _ (State.frame_writeDword _ _ _ h) rfl
  exact State.outside_ite _ ((State.frame_recordTo _ _ _ _ _ _ h).trans word) word

theorem State.pubs_notifyCtx : (s.notifyCtx n).append.pubs = s.append.pubs := by
  rw [State.notifyCtx_eq]
  have told : (s.ctxTold n).append = s.append :=
    State.append_of_outside (f := .event) (State.frame_ctxTold s n (by decide)) (by decide)
  have noted (r : CtxRun) : ((s.ctxTold n).putCtxRun n r).append.pubs = (s.ctxTold n).append.pubs := rfl
  exact State.keeps_ite (fun s => s.append.pubs) rfl ((noted _).trans (congrArg Append.pubs told))

/-- A notification leaves no unnotified publish. -/
theorem State.ctxRun_notifyCtx : ((s.notifyCtx n).ctxRun n).u = 0 := by
  rw [State.notifyCtx_eq]
  split
  case isTrue none => exact none
  case isFalse =>
    rw [State.ctxRun, State.putCtxRun]
    exact congrArg CtxRun.u (Tbl.getD_put_same _ _ _ _)

theorem State.ctxState_notifyCtx (k : Nat) : (s.notifyCtx n).ctxState k = s.ctxState k :=
  State.ctxState_of_outside (f := .notify) (State.frame_notifyCtx s n (by decide)) (by decide) k

/-! #### The four commands -/

theorem State.ctxCloseNow_effect : (s.ctxCloseNow n).ctxState n = (if s.ctxPending n then .closing else .closed) ∧
    (s.ctxCloseNow n).append.pubs = s.append.pubs ∧
    (s.ctxCloseNow n).outside (Footprint.event.plus [Reg.ctxState, Reg.appendContextsOpen] [.append]) =
      s.outside (Footprint.event.plus [Reg.ctxState, Reg.appendContextsOpen] [.append]) := by
  have closing : (s.setCtx n .closing).ctxState n = .closing := State.ctxState_setCtx s n .closing
  have pubs : (s.setCtx n .closing).append.pubs = s.append.pubs := rfl
  have frame : (s.setCtx n .closing).outside (Footprint.event.plus [Reg.ctxState, Reg.appendContextsOpen] [.append]) =
      s.outside (Footprint.event.plus [Reg.ctxState, Reg.appendContextsOpen] [.append]) :=
    State.frame_setCtx _ _ _ (by decide) (by decide)
  rw [State.ctxCloseNow, State.closeIfDrained, State.ctxPending, pubs, ← State.ctxPending]
  generalize s.setCtx n .closing = a at closing pubs frame
  cases pending : s.ctxPending n with
  | true =>
    rw [if_neg fun h => Bool.noConfusion h.2]
    exact ⟨closing, pubs, frame⟩
  | false =>
    rw [if_pos ⟨closing, rfl⟩]
    refine ⟨State.ctxState_setCtx _ n .closed, ?_, ?_⟩
    · exact (State.pubs_notifyCtx a n).trans pubs
    · rw [State.frame_setCtx _ _ _ (by decide) (by decide), State.frame_notifyCtx _ _ (by decide), frame]

theorem State.ctxOpenNow_effect (h : s.ctxState n = .closed) : (s.ctxOpenNow n).ctxState n = .opened ∧
    (s.ctxOpenNow n).get Reg.ctxHead n = s.get Reg.ctxDurable n ∧ (s.ctxOpenNow n).get Reg.ctxTail n = s.get Reg.ctxDurable n ∧
    (s.ctxOpenNow n).get Reg.appendContextsOpen = s.get Reg.appendContextsOpen + 1 ∧
    (s.ctxOpenNow n).outside ⟨[Reg.ctxState, Reg.ctxHead, Reg.ctxTail, Reg.appendContextsOpen], [.append]⟩ =
      s.outside ⟨[Reg.ctxState, Reg.ctxHead, Reg.ctxTail, Reg.appendContextsOpen], [.append]⟩ := by
  have head : ((s.set Reg.ctxHead n (s.get Reg.ctxDurable n)).set Reg.ctxTail n (s.get Reg.ctxDurable n)).get Reg.ctxHead n =
      s.get Reg.ctxDurable n := by rw [State.get_set_register _ _ _ _ (by decide), State.get_set_same]
  have tail : ((s.set Reg.ctxHead n (s.get Reg.ctxDurable n)).set Reg.ctxTail n (s.get Reg.ctxDurable n)).get Reg.ctxTail n =
      s.get Reg.ctxDurable n := State.get_set_same _ _ _ _
  have frame : ((s.set Reg.ctxHead n (s.get Reg.ctxDurable n)).set Reg.ctxTail n (s.get Reg.ctxDurable n)).outside
      ⟨[Reg.ctxHead, Reg.ctxTail], []⟩ = s.outside ⟨[Reg.ctxHead, Reg.ctxTail], []⟩ := by
    rw [State.outside_set _ _ _ _ _ (by decide), State.outside_set _ _ _ _ _ (by decide)]
  unfold State.ctxOpenNow
  dsimp only
  generalize (s.set Reg.ctxHead n (s.get Reg.ctxDurable n)).set Reg.ctxTail n (s.get Reg.ctxDurable n) = a at head tail frame
  have run (r : CtxRun) : (a.putCtxRun n r).outside ⟨[Reg.ctxHead, Reg.ctxTail], [.append]⟩ =
      s.outside ⟨[Reg.ctxHead, Reg.ctxTail], [.append]⟩ :=
    (State.frame_putCtxRun _ _ _ (by decide)).trans (State.outside_le (by decide) frame)
  have kept (r : CtxRun) (q : Nat) (other : q ≠ Reg.ctxState ∧ q ≠ Reg.appendContextsOpen) :
      ((a.putCtxRun n r).setCtx n .opened).get q n = a.get q n :=
    State.get_of_outside (f := ⟨[Reg.ctxState, Reg.appendContextsOpen], [.append]⟩)
      ((State.frame_setCtx _ _ _ (by decide) (by decide)).trans (State.frame_putCtxRun _ _ _ (by decide))) _ _ (by simpa using other)
  refine ⟨State.ctxState_setCtx _ n .opened, (kept _ _ (by decide)).trans head, (kept _ _ (by decide)).trans tail, ?_, ?_⟩
  · rw [State.contextsOpen_setCtx_opened _ _ ((State.ctxState_of_outside (run _) (by decide) n).trans h),
      State.get_of_outside (run _) _ _ (by decide)]
  · exact (State.frame_setCtx _ _ _ (by decide) (by decide)).trans (State.outside_le (by decide) (run _))

theorem State.ctxAbortNow_effect : (s.ctxAbortNow n).ctxState n = .closed ∧ (s.ctxAbortNow n).ctxPending n = false ∧
    (s.ctxAbortNow n).get Reg.ctxTail n = s.get Reg.ctxDurable n ∧
    (s.ctxAbortNow n).get Reg.appendPending = (s.ctxAbortNow n).append.pubs.length ∧
    (s.ctxAbortNow n).outside ⟨[Reg.ctxState, Reg.ctxTail, Reg.appendContextsOpen, Reg.appendPending, Reg.instPending], [.append]⟩ =
      s.outside ⟨[Reg.ctxState, Reg.ctxTail, Reg.appendContextsOpen, Reg.appendPending, Reg.instPending], [.append]⟩ := by
  unfold State.ctxAbortNow
  dsimp only
  generalize left : (s.modAppend (fun a => { a with pubs := a.pubs.filter (fun p => p.ctx != n) })).countPending (s.ctxInst n) = a
  have pubs : a.append.pubs = s.append.pubs.filter (fun p => p.ctx != n) := by rw [← left]; rfl
  have count : a.get Reg.appendPending = a.append.pubs.length := by
    rw [pubs, ← left, State.countPending, State.get_set_register _ _ _ _ (by decide), State.get_set_same]
    rfl
  have frame : a.outside ⟨[Reg.appendPending, Reg.instPending], [.append]⟩ = s.outside ⟨[Reg.appendPending, Reg.instPending], [.append]⟩ := by
    rw [← left, State.frame_countPending _ _ (by decide) (by decide), State.outside_modAppend _ _ _ (by decide)]
  have durable : a.get Reg.ctxDurable n = s.get Reg.ctxDurable n := State.get_of_outside frame _ _ (by decide)
  generalize ran : a.putCtxRun n { a.ctxRun n with u := 0, degraded := false } = b
  have bPubs : b.append.pubs = a.append.pubs := by rw [← ran]; rfl
  have bFrame : b.outside ⟨[], [.append]⟩ = a.outside ⟨[], [.append]⟩ := by
    rw [← ran, State.frame_putCtxRun _ _ _ (by decide)]
  have kept (q i : Nat) (other : q ≠ Reg.ctxState ∧ q ≠ Reg.appendContextsOpen) :
      ((b.set Reg.ctxTail n (b.get Reg.ctxDurable n)).setCtx n .closed).get q i = (b.set Reg.ctxTail n (b.get Reg.ctxDurable n)).get q i :=
    State.get_of_outside (f := ⟨[Reg.ctxState, Reg.appendContextsOpen], []⟩) (State.frame_setCtx _ _ _ (by decide) (by decide)) _ _
      (by simpa using other)
  refine ⟨State.ctxState_setCtx _ n .closed, ?_, ?_, ?_, ?_⟩
  · have none : b.ctxPending n = false := by
      rw [State.ctxPending, bPubs, pubs]
      simp
    exact none
  · rw [kept _ _ (by decide), State.get_set_same, State.get_of_outside bFrame _ _ (by decide), durable]
  · rw [kept _ _ (by decide), State.get_set_register _ _ _ _ (by decide), State.get_of_outside bFrame _ _ (by decide), count, ← bPubs]
    rfl
  · rw [State.frame_setCtx _ _ _ (by decide) (by decide), State.outside_set _ _ _ _ _ (by decide), State.outside_le (by decide) bFrame]
    exact State.outside_le (by decide) frame

/-- The tail that RESUME gives a context. -/
def State.resumeTail : Nat := match s.newestPub n with | some p => p.tail | none => s.get Reg.ctxDurable n

theorem State.ctxResumeNow_effect : (s.ctxResumeNow n).ctxState n = .opened ∧ (s.ctxResumeNow n).get Reg.ctxError n = 0 ∧
    (s.ctxResumeNow n).get Reg.ctxTail n = s.resumeTail n ∧
    (s.ctxResumeNow n).outside ⟨[Reg.ctxState, Reg.ctxTail, Reg.ctxError, Reg.appendContextsOpen], []⟩ =
      s.outside ⟨[Reg.ctxState, Reg.ctxTail, Reg.ctxError, Reg.appendContextsOpen], []⟩ := by
  have eq : s.ctxResumeNow n = ((s.set Reg.ctxTail n (s.resumeTail n)).set Reg.ctxError n 0).setCtx n .opened := rfl
  have kept (q : Nat) (other : q ≠ Reg.ctxState ∧ q ≠ Reg.appendContextsOpen) :
      (((s.set Reg.ctxTail n (s.resumeTail n)).set Reg.ctxError n 0).setCtx n .opened).get q n =
        ((s.set Reg.ctxTail n (s.resumeTail n)).set Reg.ctxError n 0).get q n :=
    State.get_of_outside (f := ⟨[Reg.ctxState, Reg.appendContextsOpen], []⟩) (State.frame_setCtx _ _ _ (by decide) (by decide)) _ _
      (by simpa using other)
  rw [eq]
  refine ⟨State.ctxState_setCtx _ n .opened, ?_, ?_, ?_⟩
  · rw [kept _ (by decide), State.get_set_same]
  · rw [kept _ (by decide), State.get_set_register _ _ _ _ (by decide), State.get_set_same]
  · rw [State.frame_setCtx _ _ _ (by decide) (by decide), State.outside_set _ _ _ _ _ (by decide),
      State.outside_set _ _ _ _ _ (by decide)]

end

/-! #### The context commands as requests -/

/-- `c` is the command of context n with value v. -/
def ctxAsks (p : Path) (n : Nat) (c : Instr) (v : Nat) : Prop :=
  (c = .ctxOpen p n ∧ v = 1) ∨ (c = .ctxClose p n ∧ v = 2) ∨ (c = .ctxAbort p n ∧ v = 3) ∨ (c = .ctxResume p n ∧ v = 4)

section
variable {s : State} {p : Path} {n v : Nat} {c : Instr}

theorem State.legalIn_ctxCommand (s : State) (n v : Nat) :
    s.legalIn ⟨Reg.ctxCommand, 0, 262144, .u8, .wo, 0, (.between 1 4), 14, .none⟩ n v =
      (bit 14 s.image.code && (ctxLegal (s.ctxState n) v && (v != 1 || (s.ctxOwner n).all (fun k => s.live k)))) := rfl

theorem exec_ctx_settles (hc : ctxAsks p n c v) (h : s.allows c = true) : ctxLegal (s.ctxState n) v = true ∧
    exec c s = .next (s.after (State.settle ((s.taken p).ctxCommand n v) (.direct p)).runConfig) := by
  have state : (s.taken p).ctxState n = s.ctxState n := State.ctxState_of_outside (State.request_taken s p) (by decide) n
  have both {k : Byte} (asks : requestOf c = some ⟨⟨p, Reg.ctxCommand, n, false⟩, .plain, [k]⟩) (acts : exec c s = actRom s (fun s => s.direct c)) :
      ctxLegal (s.ctxState n) (fromLe [k]) = true ∧
        exec c s = .next (s.after (State.settle ((s.taken p).ctxCommand n (fromLe [k])) (.direct p)).runConfig) := by
    have legal := (State.allows_checked s asks h Reg.lookup_ctxCommand (by decide)).1
    rw [State.legalIn_ctxCommand, Bool.and_eq_true, Bool.and_eq_true] at legal
    refine ⟨state ▸ legal.2.1, ?_⟩
    rw [acts, State.direct_settles s asks h Reg.lookup_ctxCommand, State.apply_ctxCommand]
    rfl
  obtain ⟨rfl, rfl⟩ | ⟨rfl, rfl⟩ | ⟨rfl, rfl⟩ | ⟨rfl, rfl⟩ := hc
  · exact both (k := 1) rfl (by rw [exec_ctxOpen, execCtxOpen])
  · exact both (k := 2) rfl (by rw [exec_ctxClose, execCtxClose])
  · exact both (k := 3) rfl (by rw [exec_ctxAbort, execCtxAbort])
  · exact both (k := 4) rfl (by rw [exec_ctxResume, execCtxResume])

/-- A context command that is taken: it is answered OK on what it leaves. -/
theorem exec_ctx_ok (hc : ctxAsks p n c v) (h : s.allows c = true) {t : State} (result : (s.taken p).ctxCommand n v = (t, .ok))
    {f : Footprint} (frame : t.outside f = (s.taken p).outside f) (free : Part.lexicon ∉ f.parts) :
    exec c s = .next (s.after (t.emit (.lexAnswer p 0 []))) := by
  rw [(exec_ctx_settles hc h).2, result, State.settle_ok_run _ _ ((State.config_of_outside frame free).trans (State.config_taken s p h))]

theorem State.ctxCommand_open (s : State) (n : Nat) (ok : s.ctxOpenCheck n = .ok) : s.ctxCommand n 1 = (s.ctxOpenNow n, .ok) := by
  unfold State.ctxCommand
  rw [ok]
  rfl

theorem State.ctxCommand_refused (s : State) (n : Nat) {a : Abort} (bad : s.ctxOpenCheck n = a) (not : a ≠ .ok) :
    s.ctxCommand n 1 = (s, a) := by
  unfold State.ctxCommand
  rw [bad]
  cases a
  case ok => exact absurd rfl not
  all_goals rfl

theorem State.ctxOpenCheck_now (s : State) (n : Nat) : s.ctxOpenCheck n ≠ .later := by
  unfold State.ctxOpenCheck
  dsimp only
  repeat' split
  all_goals nofun

end

end Sys2Proof.Machine

namespace Sys2Proof.Machine

/-! #### DWORD_ENABLE (R116) -/

section
variable (s : State) (i : Nat)

theorem State.frame_dwordWords (l : List Nat) {f : Footprint} (h : Footprint.event.le f = true) :
    (s.each l (fun s n => s.writeDword n false)).outside f = s.outside f :=
  State.outside_each _ _ _ _ (fun s n => State.frame_writeDword s n false h)

/-- The contexts whose words are written. -/
def State.dwordContexts : List Nat := (s.rowsOf Reg.ctxState).filter (fun n => s.ctxOwner n == some i && s.ctxState n == .opened &&
  bit (s.get Reg.ctxNotify n) 1)

theorem State.dwordEnableWrite_off : s.dwordEnableWrite i false = s.set Reg.dwordEnable i 0 := rfl

theorem State.dwordEnableWrite_stands (h : s.get Reg.dwordEnable i ≠ 0) : s.dwordEnableWrite i true = s.set Reg.dwordEnable i 1 := by
  unfold State.dwordEnableWrite
  dsimp only
  rw [if_neg (by simpa using h)]
  rfl

theorem State.dwordEnableWrite_begins (h : s.get Reg.dwordEnable i = 0) : s.dwordEnableWrite i true =
    (s.set Reg.dwordEnable i 1).each ((s.set Reg.dwordEnable i 1).dwordContexts i) (fun s n => s.writeDword n false) := by
  unfold State.dwordEnableWrite
  dsimp only
  rw [if_pos (by simpa using h)]
  rfl

end

section
variable {s : State} {p : Path} {i : Fin 256}

theorem requestOf_dwordEnable (p : Path) (i : Fin 256) (on : Bool) :
    requestOf (.dwordEnable p i on) = some ⟨⟨p, Reg.dwordEnable, i, false⟩, .plain, [if on then 1 else 0]⟩ := by
  cases on <;> rfl

theorem exec_dwordEnable_allowed (on : Bool) (h : s.allows (.dwordEnable p i on) = true) :
    exec (.dwordEnable p i on) s = .next (s.after (((s.taken p).dwordEnableWrite i on).emit (.lexAnswer p 0 []))) := by
  have value : (fromLe (([if on then 1 else 0] : List Byte).take 8) == 1) = on := by cases on <;> rfl
  have idle : ((s.taken p).dwordEnableWrite i on).lexicon.config = none :=
    (State.config_of_outside (f := Footprint.event.plus [Reg.dwordEnable] []) (State.outside_ite _
      ((State.frame_dwordWords _ _ (by decide)).trans (State.outside_set _ _ _ _ _ (by decide)))
      (State.outside_set _ _ _ _ _ (by decide))) (by decide)).trans (State.config_taken s p h)
  rw [exec_dwordEnable, execDwordEnable]
  exact State.direct_ok s (requestOf_dwordEnable p i on) h Reg.lookup_dwordEnable
    (by rw [State.apply_dwordEnable, value]; rfl) idle

end

/-- Settles O24: the context commands are one request (`exec_ctx_settles`), and each does what its effect lemma says;
DWORD_ENABLE is `State.dwordEnableWrite_begins` and its like. -/
theorem contextsAreCommanded : Obligations.ContextsAreCommanded := by
  unfold Obligations.ContextsAreCommanded
  refine ⟨fun p n s => ⟨fun h => ?_, fun h => ?_, fun h => ?_, fun h => ?_⟩, fun p i s u v hu hv => ?_⟩
  · have asks : ctxAsks p n (.ctxOpen p n) 1 := .inl ⟨rfl, rfl⟩
    have closed : s.ctxState n = .closed := of_decide_eq_true (exec_ctx_settles asks h).1
    have taken := State.request_taken s p
    refine ⟨closed, fun ok => ?_, fun a bad not => ?_⟩
    · obtain ⟨state, head, tail, count, frame⟩ := State.ctxOpenNow_effect (s.taken p) n
        ((State.ctxState_of_outside taken (by decide) n).trans closed)
      have eq := exec_ctx_ok asks h (State.ctxCommand_open _ n ok) frame (by decide)
      rw [State.get_of_outside taken _ _ (by decide)] at head tail count
      generalize (s.taken p).ctxOpenNow n = t at state head tail count frame eq
      exact ⟨_, eq, State.answered_after s t p .ok, state, head, tail, count,
        State.changesOnly_answer (a := .ok) (State.outside_le (by decide) frame) (by decide)⟩
    · rw [(exec_ctx_settles asks h).2, State.ctxCommand_refused _ n bad not]
      rw [State.settle_refused_run _ _ not (fun l => State.ctxOpenCheck_now _ n (bad.trans l)) (State.config_taken s p h)]
  · have asks : ctxAsks p n (.ctxClose p n) 2 := .inr (.inl ⟨rfl, rfl⟩)
    have legal := (exec_ctx_settles asks h).1
    have taken := State.request_taken s p
    have pending : (s.taken p).ctxPending n = s.ctxPending n := by
      rw [State.ctxPending, State.append_of_outside taken (by decide), State.ctxPending]
    have pubs : (s.taken p).append.pubs = s.append.pubs := congrArg Append.pubs (State.append_of_outside taken (by decide))
    obtain ⟨state, kept, frame⟩ := State.ctxCloseNow_effect (s.taken p) n
    have eq := exec_ctx_ok asks h (t := (s.taken p).ctxCloseNow n) rfl frame (by decide)
    rw [pending] at state
    rw [pubs] at kept
    generalize (s.taken p).ctxCloseNow n = t at state kept frame eq
    exact ⟨by simpa [ctxLegal] using legal, _, eq, State.answered_after s t p .ok, state, kept,
      State.changesOnly_answer (a := .ok) (State.outside_le (by decide) frame) (by decide)⟩
  · have asks : ctxAsks p n (.ctxAbort p n) 3 := .inr (.inr (.inl ⟨rfl, rfl⟩))
    have legal := (exec_ctx_settles asks h).1
    obtain ⟨state, none, tail, count, frame⟩ := State.ctxAbortNow_effect (s.taken p) n
    have eq := exec_ctx_ok asks h (t := (s.taken p).ctxAbortNow n) rfl frame (by decide)
    rw [State.get_of_outside (State.request_taken s p) _ _ (by decide)] at tail
    generalize (s.taken p).ctxAbortNow n = t at state none tail count frame eq
    exact ⟨by simpa [ctxLegal, or_assoc] using legal, _, eq, State.answered_after s t p .ok, state, none, tail, count,
      State.changesOnly_answer (a := .ok) (State.outside_le (by decide) frame) (by decide)⟩
  · have asks : ctxAsks p n (.ctxResume p n) 4 := .inr (.inr (.inr ⟨rfl, rfl⟩))
    have legal := (exec_ctx_settles asks h).1
    have taken := State.request_taken s p
    have newest : (s.taken p).resumeTail n = s.resumeTail n := by
      rw [State.resumeTail, State.newestPub, State.append_of_outside taken (by decide), State.get_of_outside taken _ _ (by decide),
        State.resumeTail, State.newestPub]
    obtain ⟨state, error, tail, frame⟩ := State.ctxResumeNow_effect (s.taken p) n
    have eq := exec_ctx_ok asks h (t := (s.taken p).ctxResumeNow n) rfl frame (by decide)
    rw [newest] at tail
    generalize (s.taken p).ctxResumeNow n = t at state error tail frame eq
    exact ⟨of_decide_eq_true legal, _, eq, State.answered_after s t p .ok, state, error, tail,
      State.changesOnly_answer (a := .ok) (State.outside_le (by decide) frame) (by decide)⟩
  · subst hv hu
    have stood : (s.taken p).get Reg.dwordEnable i.val = s.get Reg.dwordEnable i.val :=
      State.get_of_outside (State.request_taken s p) _ _ (by decide)
    refine ⟨fun h => ?_, fun h on => ?_, fun h off => ?_⟩
    · rw [exec_dwordEnable_allowed false h, State.dwordEnableWrite_off]
    · rw [exec_dwordEnable_allowed true h, State.dwordEnableWrite_stands _ _ (by rwa [stood])]
    · rw [exec_dwordEnable_allowed true h, State.dwordEnableWrite_begins _ _ (by rwa [stood])]
      rfl

end Sys2Proof.Machine

namespace Sys2Proof.Machine

/-! ### Doorbells of the append contexts (R105 to R115) -/

section
variable (s : State)

/-- A durability point makes its publish durable, whatever the other contexts do. -/
theorem State.durabilityPoint_effect (p : Pub) (notClosing : s.ctxState p.ctx ≠ .closing) :
    (s.durabilityPoint p).append.pubs = s.append.pubs.filter (· != p) ∧
    (s.durabilityPoint p).get Reg.ctxDurable p.ctx = max p.tail (s.get Reg.ctxDurable p.ctx) ∧
    (s.durabilityPoint p).get Reg.appendPending = (s.append.pubs.filter (· != p)).length ∧
    (s.durabilityPoint p).outside (Footprint.event.plus [Reg.ctxDurable, Reg.appendPending, Reg.instPending] [.append]) =
      s.outside (Footprint.event.plus [Reg.ctxDurable, Reg.appendPending, Reg.instPending] [.append]) := by
  unfold State.durabilityPoint
  dsimp only
  generalize left : s.modAppend (fun a => { a with pubs := a.pubs.filter (· != p) }) = l
  have lPubs : l.append.pubs = s.append.pubs.filter (· != p) := by rw [← left]; rfl
  have lGet (r i : Nat) : l.get r i = s.get r i := by rw [← left]; rfl
  have lFrame : l.outside ⟨[], [.append]⟩ = s.outside ⟨[], [.append]⟩ := by rw [← left, State.outside_modAppend _ _ _ (by decide)]
  rw [lGet]
  generalize counted : (l.set Reg.ctxDurable p.ctx (max p.tail (s.get Reg.ctxDurable p.ctx))).countPending p.i = a
  have aPubs : a.append.pubs = s.append.pubs.filter (· != p) := by rw [← counted, ← lPubs]; rfl
  have durable : a.get Reg.ctxDurable p.ctx = max p.tail (s.get Reg.ctxDurable p.ctx) := by
    rw [← counted, State.countPending, State.get_set_register _ _ _ _ (by decide), State.get_set_register _ _ _ _ (by decide),
      State.get_set_same]
  have pending : a.get Reg.appendPending = (s.append.pubs.filter (· != p)).length := by
    rw [← counted, State.countPending, State.get_set_register _ _ _ _ (by decide), State.get_set_same, ← lPubs]
    rfl
  have aFrame : a.outside ⟨[Reg.ctxDurable, Reg.appendPending, Reg.instPending], [.append]⟩ =
      s.outside ⟨[Reg.ctxDurable, Reg.appendPending, Reg.instPending], [.append]⟩ := by
    rw [← counted, State.frame_countPending _ _ (by decide) (by decide), State.outside_set _ _ _ _ _ (by decide)]
    exact State.outside_le (by decide) lFrame
  clear lPubs lGet lFrame left counted l
  generalize ran : a.putCtxRun p.ctx { a.ctxRun p.ctx with
    u := (a.ctxRun p.ctx).u + p.count, since := if (a.ctxRun p.ctx).u = 0 then a.clauseNow else (a.ctxRun p.ctx).since,
    oldest := if (a.ctxRun p.ctx).u = 0 then p.clause else (a.ctxRun p.ctx).oldest,
    degraded := (a.ctxRun p.ctx).degraded || p.degraded } = b
  have bPubs : b.append.pubs = s.append.pubs.filter (· != p) := by rw [← ran]; exact aPubs
  have bFrame : b.outside .notify = a.outside .notify := by
    rw [← ran, State.frame_putCtxRun _ _ _ (by decide)]
  generalize told : (if b.get Reg.ctxCoalCount p.ctx ≤ (b.ctxRun p.ctx).u then b.notifyCtx p.ctx else b) = c
  have cPubs : c.append.pubs = s.append.pubs.filter (· != p) := by
    rw [← told]
    exact (State.keeps_ite (fun s => s.append.pubs) (State.pubs_notifyCtx b p.ctx) rfl).trans bPubs
  have cFrame : c.outside .notify = a.outside .notify := by
    rw [← told]
    exact (State.outside_ite _ (State.frame_notifyCtx _ _ (by decide)) rfl).trans bFrame
  have state : c.ctxState p.ctx = s.ctxState p.ctx :=
    (State.ctxState_of_outside cFrame (by decide) _).trans (State.ctxState_of_outside aFrame (by decide) _)
  rw [State.closeIfDrained, if_neg fun h => notClosing (state.symm.trans h.1)]
  refine ⟨cPubs, ?_, ?_, ?_⟩
  · rw [State.get_of_outside cFrame _ _ (by decide), durable]
  · rw [State.get_of_outside cFrame _ _ (by decide), pending]
  · exact (State.outside_le (by decide) cFrame).trans (State.outside_le (by decide) aFrame)

theorem State.localFrontier_none (h : s.append.writes = []) (i : Nat) : s.localFrontier i = s.lastWrite i := by
  rw [State.localFrontier, h]
  rfl

theorem State.mirrorFrontier_none (h : s.append.writes = []) (i : Nat) : s.mirrorFrontier i = s.lastWrite i := by
  rw [State.mirrorFrontier, h]
  rfl

variable (i n x : Nat)

/-- The publish that a doorbell makes while none of its context waits. -/
def State.newPub : Pub := ⟨n, i, s.lastWrite i, x, 1, s.clauseNow, s.get Reg.ctxPolicy n == 1, false⟩

/-- A publish that takes the only pending entry, before its fence is tested. -/
def State.pubTaken : State :=
  (((s.set Reg.ctxTail n x).modAppend (fun a => { a with pubs := a.pubs ++ [s.newPub i n x] })).countPending i)

theorem State.takePublish_first (none : s.append.pubs = []) : s.takePublish i n x = (s.pubTaken i n x).testPublishes i := by
  have newest : (s.set Reg.ctxTail n x).newestPub n = .none := by
    rw [State.newestPub, State.set_append, none]
    rfl
  unfold State.takePublish
  dsimp only
  rw [newest]
  rfl

theorem State.pubTaken_effect (none : s.append.pubs = []) :
    (s.pubTaken i n x).append = { s.append with pubs := [s.newPub i n x] } ∧
    (s.pubTaken i n x).get Reg.ctxTail n = x ∧ (s.pubTaken i n x).get Reg.appendPending = 1 ∧
    (s.pubTaken i n x).get Reg.instPending i = 1 ∧
    (s.pubTaken i n x).outside ⟨[Reg.ctxTail, Reg.appendPending, Reg.instPending], [.append]⟩ =
      s.outside ⟨[Reg.ctxTail, Reg.appendPending, Reg.instPending], [.append]⟩ := by
  have pubs : (s.pubTaken i n x).append = { s.append with pubs := s.append.pubs ++ [s.newPub i n x] } := rfl
  have kept : ((s.set Reg.ctxTail n x).modAppend (fun a => { a with pubs := a.pubs ++ [s.newPub i n x] })).append.pubs = [s.newPub i n x] := by
    exact (congrArg (· ++ [s.newPub i n x]) none : s.append.pubs ++ [s.newPub i n x] = [] ++ [s.newPub i n x])
  rw [none, List.nil_append] at pubs
  refine ⟨pubs, ?_, ?_, ?_, ?_⟩
  · rw [State.pubTaken, State.countPending, State.get_set_register _ _ _ _ (by decide), State.get_set_register _ _ _ _ (by decide)]
    exact State.get_set_same s Reg.ctxTail n x
  · rw [State.pubTaken, State.countPending, State.get_set_register _ _ _ _ (by decide), State.get_set_same, kept]
    rfl
  · rw [State.pubTaken, State.countPending, State.get_set_same, kept, State.newPub]
    simp
  · rw [State.pubTaken, State.frame_countPending _ _ (by decide) (by decide), State.outside_modAppend _ _ _ (by decide),
      State.outside_set _ _ _ _ _ (by decide)]

theorem State.testPublishes_only {p : Pub} (only : s.append.pubs = [p]) (mine : p.i = i) : s.testPublishes i =
    if p.fence ≤ s.localFrontier i ∧ (p.two = false ∨ p.degraded = true ∨ p.fence ≤ s.mirrorFrontier i) then s.durabilityPoint p
    else s := by
  have one : s.append.pubs.filter (fun p => p.i == i) = [p] := by
    rw [only]
    simp [mine]
  rw [State.testPublishes, one]
  rfl

/-- With no write outstanding the tail of a publish is durable at once. -/
theorem State.takePublish_durable (none : s.append.pubs = []) (free : s.append.writes = []) (state : s.ctxState n = .opened)
    (ahead : s.get Reg.ctxDurable n ≤ x) : (s.takePublish i n x).get Reg.ctxTail n = x ∧
    (s.takePublish i n x).get Reg.ctxDurable n = x ∧ (s.takePublish i n x).append.pubs = [] ∧
    (s.takePublish i n x).get Reg.appendPending = 0 ∧
    (s.takePublish i n x).outside (Footprint.event.plus [Reg.ctxTail, Reg.ctxDurable, Reg.appendPending, Reg.instPending] [.append]) =
      s.outside (Footprint.event.plus [Reg.ctxTail, Reg.ctxDurable, Reg.appendPending, Reg.instPending] [.append]) := by
  obtain ⟨append, tail, -, -, frame⟩ := State.pubTaken_effect s i n x none
  rw [State.takePublish_first s i n x none]
  generalize s.pubTaken i n x = a at append tail frame
  have pubs : a.append.pubs = [s.newPub i n x] := by rw [append]
  have writes : a.append.writes = [] := by rw [append]; exact free
  have last : a.lastWrite i = s.lastWrite i := by
    rw [State.lastWrite, append]
    rfl
  have passes : (s.newPub i n x).fence ≤ a.localFrontier i ∧ ((s.newPub i n x).two = false ∨ (s.newPub i n x).degraded = true ∨
      (s.newPub i n x).fence ≤ a.mirrorFrontier i) := by
    rw [State.localFrontier_none _ writes, State.mirrorFrontier_none _ writes, last]
    exact ⟨Nat.le_refl _, .inr (.inr (Nat.le_refl _))⟩
  have opened : a.ctxState n = .opened := (State.ctxState_of_outside frame (by decide) n).trans state
  rw [State.testPublishes_only a i pubs rfl, if_pos passes]
  have gone : a.append.pubs.filter (· != s.newPub i n x) = [] := by
    rw [pubs]
    simp
  obtain ⟨left, durable, pending, rest⟩ := State.durabilityPoint_effect a (s.newPub i n x)
    (show a.ctxState n ≠ .closing from opened ▸ nofun)
  refine ⟨?_, ?_, left.trans gone, ?_, ?_⟩
  · rw [State.get_of_outside rest _ _ (by decide), tail]
  · have same : max x (a.get Reg.ctxDurable n) = x := by
      rw [State.get_of_outside frame _ _ (by decide)]
      exact Nat.max_eq_left ahead
    exact durable.trans same
  · rw [pending, gone]
    rfl
  · exact (State.outside_le (by decide) rest).trans (State.outside_le (by decide) frame)

/-- With a write outstanding a publish waits behind it. -/
theorem State.takePublish_pending (none : s.append.pubs = []) (behind : s.localFrontier i < s.lastWrite i) :
    (s.takePublish i n x).get Reg.ctxTail n = x ∧ (s.takePublish i n x).append.pubs = [s.newPub i n x] ∧
    (s.takePublish i n x).get Reg.appendPending = 1 ∧ (s.takePublish i n x).get Reg.instPending i = 1 ∧
    (s.takePublish i n x).outside (Footprint.event.plus [Reg.ctxTail, Reg.appendPending, Reg.instPending] [.append]) =
      s.outside (Footprint.event.plus [Reg.ctxTail, Reg.appendPending, Reg.instPending] [.append]) := by
  obtain ⟨append, tail, pending, mine, frame⟩ := State.pubTaken_effect s i n x none
  rw [State.takePublish_first s i n x none]
  generalize s.pubTaken i n x = a at append tail pending mine frame
  have pubs : a.append.pubs = [s.newPub i n x] := by rw [append]
  have frontier : a.localFrontier i = s.localFrontier i := by
    rw [State.localFrontier, State.lastWrite, append]
    rfl
  rw [State.testPublishes_only a i pubs rfl, if_neg fun h => absurd h.1 (by rw [frontier]; exact Nat.not_le.mpr behind)]
  exact ⟨tail, pubs, pending, mine, State.outside_le (by decide) frame⟩

end
end Sys2Proof.Machine

namespace Sys2Proof.Machine

/-! #### A doorbell that arrives on one slot -/

theorem slotsOf_one {off : Nat} (h : off % 8 = 0) : slotsOf off 8 = [off / 8] := by
  rw [slotsOf, show (off + 8 - 1) / 8 + 1 - off / 8 = 1 by omega]
  rfl

theorem oneSlot_aligned {off : Nat} (h : off % 8 = 0) : oneSlot off 8 true = true := by
  simp [oneSlot, h]

/-- A doorbell of 8 bytes at an aligned offset of BAR4 is taken, or waits, in its turn. -/
theorem State.bar4Call_arrives {s u : State} (uncut : s.cutPassed = false) (hu : u = s.wakeOutsideA0 13) {i off : Nat}
    (decodes : u.decodes i = true) (first : s.host.posted = []) (inside : off + 8 ≤ 2 ^ (if i = 0 then s.host.pfBar4 else s.host.vfBar4))
    (c : Instr) : s.bar4Call i off 8 c = (match u.takeNow c with
      | some t => t
      | none => { u with host := { u.host with posted := [c] } }) := by
  have woken : u.outside .event = s.outside .event := by rw [hu, State.event_wakeOutsideA0]
  have cut : u.cutPassed = false := (State.cutPassed_of_outside woken (by decide) (by decide)).trans uncut
  have none : u.host.posted = [] := (congrArg HostPort.posted (State.host_of_outside woken (by decide))).trans first
  unfold State.bar4Call
  rw [if_neg (by omega), State.beforeCut_open _ _ uncut, if_neg (by decide), State.doorbellCall, State.beforeCut_open _ _ uncut, ← hu,
    State.barCall, State.beforeCut_open _ _ cut, if_pos decodes, State.takeOrWait, State.posted, none]
  rfl

section
variable {s u : State} {i : Fin 256} {off x : Nat} (hears : s.hears = true) (hu : u = s.wakeOutsideA0 13)
  (decodes : u.decodes i.val = true) (first : s.host.posted = []) (aligned : off % 8 = 0)
  (inside : off + 8 ≤ 2 ^ (if i.val = 0 then s.host.pfBar4 else s.host.vfBar4))
include hears hu decodes first inside

theorem exec_appendTrim_hears : exec (.appendTrim i off 8 true x) s = .next (s.after (u.appendDoorbell i.val off 8 true true x)) := by
  obtain ⟨powered, uncut, -⟩ := State.hears_spec s hears
  rw [exec_appendTrim, execAppendTrim, actRom_powered _ _ powered, State.bar4Call_arrives uncut hu decodes first inside]
  rfl

theorem exec_appendPublish_hears : exec (.appendPublish i off 8 true x) s = .next (s.after
    (if u.doorbellWaits i.val off 8 true false x then { u with host := { u.host with posted := [.appendPublish i off 8 true x] } }
      else u.appendDoorbell i.val off 8 true false x)) := by
  obtain ⟨powered, uncut, -⟩ := State.hears_spec s hears
  have taken : u.takeNow (.appendPublish i off 8 true x) = if u.doorbellWaits i.val off 8 true false x then none
      else some (u.appendDoorbell i.val off 8 true false x) := rfl
  rw [exec_appendPublish, execAppendPublish, actRom_powered _ _ powered, State.bar4Call_arrives uncut hu decodes first inside, taken]
  cases u.doorbellWaits i.val off 8 true false x <;> rfl

end

/-- The effect of a doorbell on its slot. -/
theorem State.appendDoorbell_slot {off : Nat} (aligned : off % 8 = 0) (u : State) (i x : Nat) (trim : Bool) :
    u.appendDoorbell i off 8 true trim x = (match u.checkSlot i (off / 8) true trim x with
    | .ignored => u.appendIgnore i
    | .error n code => u.appendError n code (x + if trim then 9223372036854775808 else 0)
    | .publish n => u.takePublish i n x
    | .trim n => u.set Reg.ctxHead n x) := by
  rw [State.appendDoorbell, slotsOf_one aligned, oneSlot_aligned aligned]
  rfl

/-- A doorbell waits only for room for its publish. -/
theorem State.doorbellWaits_slot {off : Nat} (aligned : off % 8 = 0) (u : State) (i x : Nat) :
    u.doorbellWaits i off 8 true false x = (match u.checkSlot i (off / 8) true false x with
    | .publish n => !(u.pubRoom i n)
    | _ => false) := by
  rw [State.doorbellWaits, slotsOf_one aligned, oneSlot_aligned aligned]
  exact Bool.or_false _

/-! #### What the test of R108 answers -/

theorem State.checkSlot_of_outside {s u : State} (h : u.outside .event = s.outside .event) (i k : Nat) (one trim : Bool) (x : Nat) :
    u.checkSlot i k one trim x = s.checkSlot i k one trim x := by
  have active := State.govActive_of_outside h (by decide)
  have state (n : Nat) : u.ctxState n = s.ctxState n := State.ctxState_of_outside h (by decide) n
  have count := State.get_of_outside h Reg.effCtxCount i (by decide)
  have start := State.get_of_outside h Reg.effCtxFirst i (by decide)
  have tail (n : Nat) : u.get Reg.ctxTail n = s.get Reg.ctxTail n := State.get_of_outside h _ n (by decide)
  have head (n : Nat) : u.get Reg.ctxHead n = s.get Reg.ctxHead n := State.get_of_outside h _ n (by decide)
  have durable (n : Nat) : u.get Reg.ctxDurable n = s.get Reg.ctxDurable n := State.get_of_outside h _ n (by decide)
  have ring (n : Nat) : u.ringBytes n = s.ringBytes n := congrArg (fun z => 2 ^ (12 + z)) (State.get_of_outside h _ n (by decide))
  unfold State.checkSlot
  simp only [active, state, count, start, tail, head, durable, ring]

section
variable {s : State} {i k n x : Nat} (active : s.govActive = true) (held : k < s.get Reg.effCtxCount i)
  (hn : n = s.get Reg.effCtxFirst i + k)
include active held hn

/-- What the test of R108 answers of a slot that the instance holds, by the state of its context. -/
theorem State.checkSlot_held (trim : Bool) : s.checkSlot i k true trim x = (match s.ctxState n with
    | .closed => .ignored
    | .frozen => .ignored
    | .closing => .error n 4
    | .error => .error n 4
    | .opened =>
      if x % 8 ≠ 0 then .error n 7
      else if !trim then
        if x < s.get Reg.ctxTail n then .error n 2
        else if s.ringBytes n - 8 < x - s.get Reg.ctxHead n then .error n 3
        else .publish n
      else if x < s.get Reg.ctxHead n then .error n 6
      else if s.get Reg.ctxDurable n < x then .error n 5
      else .trim n) := by
  subst hn
  unfold State.checkSlot
  dsimp only
  rw [active, if_neg (by decide), if_neg (Nat.not_le.mpr held)]
  rfl

theorem State.checkSlot_closed (trim : Bool) (state : s.ctxState n = .closed ∨ s.ctxState n = .frozen) :
    s.checkSlot i k true trim x = .ignored := by
  rw [State.checkSlot_held active held hn]
  rcases state with h | h <;> rw [h]

theorem State.checkSlot_closing (trim : Bool) (state : s.ctxState n = .closing ∨ s.ctxState n = .error) :
    s.checkSlot i k true trim x = .error n 4 := by
  rw [State.checkSlot_held active held hn]
  rcases state with h | h <;> rw [h]

variable (state : s.ctxState n = .opened)
include state

theorem State.checkSlot_odd (trim : Bool) (odd : x % 8 ≠ 0) : s.checkSlot i k true trim x = .error n 7 := by
  rw [State.checkSlot_held active held hn, state]
  exact if_pos odd

theorem State.checkSlot_publish (even : x % 8 = 0) : s.checkSlot i k true false x =
    (if x < s.get Reg.ctxTail n then .error n 2 else if s.ringBytes n - 8 < x - s.get Reg.ctxHead n then .error n 3 else .publish n) := by
  rw [State.checkSlot_held active held hn, state]
  exact if_neg (not_not.mpr even)

theorem State.checkSlot_trim (even : x % 8 = 0) : s.checkSlot i k true true x =
    (if x < s.get Reg.ctxHead n then .error n 6 else if s.get Reg.ctxDurable n < x then .error n 5 else .trim n) := by
  rw [State.checkSlot_held active held hn, state]
  exact if_neg (not_not.mpr even)

end
end Sys2Proof.Machine

namespace Sys2Proof.Machine

section
variable {s u : State} {i : Fin 256} {off x : Nat} (hears : s.hears = true) (hu : u = s.wakeOutsideA0 13)
  (decodes : u.decodes i.val = true) (first : s.host.posted = []) (aligned : off % 8 = 0)
  (inside : off + 8 ≤ 2 ^ (if i.val = 0 then s.host.pfBar4 else s.host.vfBar4))
include hears hu decodes first aligned inside

/-- A publish on one slot has the effect that the test of R108 allows, or waits for a pending entry (R113). -/
theorem exec_appendPublish_slot : exec (.appendPublish i off 8 true x) s = .next (s.after
    (match s.checkSlot i.val (off / 8) true false x with
      | .ignored => u.appendIgnore i.val
      | .error n code => u.appendError n code (x + 0)
      | .publish n => if u.pubRoom i.val n then u.takePublish i.val n x
          else { u with host := { u.host with posted := [.appendPublish i off 8 true x] } }
      | .trim n => u.set Reg.ctxHead n x)) := by
  have woken : u.outside .event = s.outside .event := by rw [hu, State.event_wakeOutsideA0]
  rw [exec_appendPublish_hears hears hu decodes first inside, State.doorbellWaits_slot aligned, State.appendDoorbell_slot aligned,
    State.checkSlot_of_outside woken]
  rw [if_neg Bool.false_ne_true]
  cases s.checkSlot i.val (off / 8) true false x with
  | ignored => rw [if_neg Bool.false_ne_true]
  | error n code => rw [if_neg Bool.false_ne_true]
  | trim n => rw [if_neg Bool.false_ne_true]
  | publish n =>
    dsimp only
    by_cases room : u.pubRoom i.val n = true
    · rw [if_pos room, if_neg (by simp [room])]
    · rw [if_neg room, if_pos (by simp [room])]

theorem exec_appendTrim_slot : exec (.appendTrim i off 8 true x) s = .next (s.after
    (match s.checkSlot i.val (off / 8) true true x with
      | .ignored => u.appendIgnore i.val
      | .error n code => u.appendError n code (x + 9223372036854775808)
      | .publish n => u.takePublish i.val n x
      | .trim n => u.set Reg.ctxHead n x)) := by
  have woken : u.outside .event = s.outside .event := by rw [hu, State.event_wakeOutsideA0]
  rw [exec_appendTrim_hears hears hu decodes first inside, State.appendDoorbell_slot aligned, State.checkSlot_of_outside woken]
  rfl

end

/-- With none pending there is room while the instance may have one. -/
theorem State.pubRoom_first {s : State} (none : s.append.pubs = []) {i : Nat} (may : 0 < s.get Reg.pendingMax i) (n : Nat) :
    s.pubRoom i n = true := by
  rw [State.pubRoom, State.newestPub, none]
  exact decide_eq_true may

/-- At its time a context with unnotified publishes notifies once (R115). -/
theorem exec_appendCoalTimeout_hears {s : State} (hears : s.hears = true) (n : Nat) :
    exec (.appendCoalTimeout n) s = .next (s.after (s.appendCoalExpiry n)) := by
  obtain ⟨-, uncut, -⟩ := State.hears_spec s hears
  rw [exec_appendCoalTimeout, execAppendCoalTimeout, act_of_awake s _ (State.awake_hears hears), State.beforeCut_open _ _ uncut]

theorem exec_appendCoalTimeout_due {s : State} (hears : s.hears = true) {n d : Nat} (hd : d = (s.ctxRun n).since + s.get Reg.ctxCoalTime n)
    (notes : (s.ctxRun n).u ≠ 0) (coalesces : s.get Reg.ctxCoalCount n ≠ 1)
    (due : s.expiryRuns 8 d (s.ctxDeadlines.all (d ≤ ·)) = true) :
    ∃ t, exec (.appendCoalTimeout n) s = .next t ∧ t = s.after ((s.expiryDone 8 d).notifyCtx n) ∧ (t.ctxRun n).u = 0 ∧
      s.changesOnly t (Footprint.event.plus [] [.append, .clock]) := by
  have notifies : s.appendCoalExpiry n = (s.expiryDone 8 d).notifyCtx n := by
    rw [State.appendCoalExpiry, ← hd]
    exact if_pos ⟨notes, coalesces, due⟩
  have frame : ((s.expiryDone 8 d).notifyCtx n).outside (Footprint.event.plus [] [.append, .clock]) =
      s.outside (Footprint.event.plus [] [.append, .clock]) := by
    rw [State.frame_notifyCtx _ _ (by decide), State.expiryDone, State.outside_clock _ _ (by decide)]
  exact ⟨_, (exec_appendCoalTimeout_hears hears n).trans (congrArg (fun t => Host.Outcome.next (s.after t)) notifies), rfl,
    State.ctxRun_notifyCtx (s.expiryDone 8 d) n, State.changesOnly_after _ _ frame⟩

theorem exec_appendCoalTimeout_idle {s : State} (hears : s.hears = true) {n d : Nat} (hd : d = (s.ctxRun n).since + s.get Reg.ctxCoalTime n)
    (idle : (s.ctxRun n).u = 0 ∨ s.get Reg.ctxCoalCount n = 1 ∨ s.clock.clause < d ∨
      s.expiryRuns 8 d (s.ctxDeadlines.all (d ≤ ·)) = false) : exec (.appendCoalTimeout n) s = .next (s.after s) := by
  have stays : s.appendCoalExpiry n = s := by
    rw [State.appendCoalExpiry, ← hd]
    refine if_neg fun ⟨notes, coalesces, due⟩ => ?_
    rcases idle with none | one | early | held
    · exact notes none
    · exact coalesces one
    · exact absurd due (by rw [State.expiryRuns_early s early]; decide)
    · exact absurd due (by rw [held]; decide)
  rw [exec_appendCoalTimeout_hears hears, stays]

/-- Settles O23: a doorbell on one slot has the effect of its test (R108), a publish is durable at once or waits behind its fence
(`State.takePublish_durable`, `State.takePublish_pending`), and a coalescing time notifies (R115). -/
theorem doorbellsMoveTheLog : Obligations.DoorbellsMoveTheLog := by
  unfold Obligations.DoorbellsMoveTheLog
  refine ⟨?_, ?_⟩
  · intro i off n x s u hears hu decodes first aligned inside held hn active
    have woken : u.outside .event = s.outside .event := by rw [hu, State.event_wakeOutsideA0]
    have same (r j : Nat) (h : r ∉ Footprint.event.regs) : u.get r j = s.get r j := State.get_of_outside woken r j h
    have append : u.append = s.append := State.append_of_outside woken (by decide)
    have slot := exec_appendPublish_slot (x := x) hears hu decodes first aligned inside
    refine ⟨fun state even above within => ?_, fun state odd => ?_, fun state even below => ?_, fun state even above beyond => ?_,
      fun state => ?_, fun state => ?_⟩
    · have publishes : s.checkSlot i.val (off / 8) true false x = .publish n := by
        rw [State.checkSlot_publish active held hn state even, if_neg (by omega), State.ringBytes, if_neg (by omega)]
      rw [publishes] at slot
      have uPubs (none : s.append.pubs = []) : u.append.pubs = [] := (congrArg Append.pubs append).trans none
      have uRoom (none : s.append.pubs = []) (may : 0 < s.get Reg.pendingMax i.val) : u.pubRoom i.val n = true :=
        State.pubRoom_first (uPubs none) (by rwa [same Reg.pendingMax _ (by decide)]) n
      refine ⟨fun free none ahead may => ?_, fun behind none may => ?_, fun full => ?_⟩
      · obtain ⟨tail, durable, pubs, pending, frame⟩ := State.takePublish_durable u i.val n x (uPubs none)
          ((congrArg Append.writes append).trans free) ((State.ctxState_of_outside woken (by decide) n).trans state)
          (by rwa [same Reg.ctxDurable _ (by decide)])
        refine ⟨_, slot.trans (congrArg (fun t => Host.Outcome.next (s.after t)) (if_pos (uRoom none may))), tail, durable, pubs,
          pending, State.changesOnly_after _ _ (frame.trans (State.outside_le (by decide) woken))⟩
      · have last : u.lastWrite i.val = s.lastWrite i.val := congrArg (fun a : Append => Tbl.getD a.numbered i.val 0) append
        have frontier : u.localFrontier i.val = s.localFrontier i.val := by rw [State.localFrontier, last, append]; rfl
        have made : u.newPub i.val n x = ⟨n, i.val, s.lastWrite i.val, x, 1, s.clock.clause, s.get Reg.ctxPolicy n == 1, false⟩ := by
          rw [State.newPub, last, same Reg.ctxPolicy _ (by decide), State.clauseNow, State.clock_of_outside woken (by decide)]
        obtain ⟨tail, pubs, pending, mine, frame⟩ := State.takePublish_pending u i.val n x (uPubs none) (by rwa [frontier, last])
        exact ⟨_, slot.trans (congrArg (fun t => Host.Outcome.next (s.after t)) (if_pos (uRoom none may))), tail, pubs.trans (by rw [made]),
          pending, mine, State.changesOnly_after _ _ (frame.trans (State.outside_le (by decide) woken))⟩
      · exact slot.trans (congrArg (fun t => Host.Outcome.next (s.after t)) (if_neg (by rw [full]; decide)))
    · rw [slot, State.checkSlot_odd active held hn state false odd]
    · rw [slot, State.checkSlot_publish active held hn state even, if_pos below]
    · rw [slot, State.checkSlot_publish active held hn state even, if_neg (by omega), State.ringBytes, if_pos beyond]
    · rw [slot, State.checkSlot_closing active held hn false state]
    · rw [slot, State.checkSlot_closed active held hn false state]
  · intro i off n x s u hears hu
    refine ⟨fun decodes first aligned inside held hn active state even => ?_, fun d hd =>
      ⟨exec_appendCoalTimeout_due hears hd, exec_appendCoalTimeout_idle hears hd⟩⟩
    have slot := exec_appendTrim_slot (x := x) hears hu decodes first aligned inside
    rw [State.checkSlot_trim active held hn state even] at slot
    refine ⟨fun above durable => ?_, fun below => ?_, fun above beyond => ?_⟩
    · rw [slot, if_neg (by omega), if_neg (by omega)]
    · rw [slot, if_pos below]
    · rw [slot, if_neg (by omega), if_pos beyond]

end Sys2Proof.Machine

namespace Sys2Proof.Machine

/-! ### Configuration writes, link status and MSI-X masks (R157 to R184, R268, R270) -/

section
variable {s : State} (hears : s.hears = true)
include hears

/-! #### Configuration requests of the PF -/

theorem exec_barResize_hears (vf : Bool) (enc : Nat) (decode : Bool) : exec (.barResize vf enc decode) s = .next (s.after
    (s.configCall 0 (fun s =>
      let listed := decide ((if vf then 10 else 16) ≤ enc) && decide (enc ≤ 22)
      if (if vf then s.host.vfMem else decode) || !listed then s.bump Reg.hostResizeRefused
      else s.modHost (fun h => if vf then { h with vfWin := enc } else { h with pfWin := enc })))) := by
  rw [exec_barResize, execBarResize]
  exact act_of_awake s _ (State.awake_hears hears)

theorem exec_pfD3hotEntry_hears (e : Bool) : exec (.pfD3hotEntry e) s = .next (s.after
    (s.configCall 0 (fun s =>
      let enters := !s.host.d3
      let s := (s.modHost (fun h => { h with d3 := true, pmeEn := e })).wakeSignal
      if enters && s.get Reg.patrolOnD3 == 1 then s.powerRequest 2 3 else s))) := by
  obtain ⟨powered, -, -⟩ := State.hears_spec s hears
  rw [exec_pfD3hotEntry, execPfD3hotEntry]
  exact actRom_powered _ _ powered

theorem exec_pfD0Return_hears : exec .pfD0Return s = .next (s.after
    (s.configCall 0 (fun s =>
      let s := s.modHost (fun h => { h with d3 := false })
      if s.powerState = 2 then s.powerRequest 0 3 else s))) := by
  obtain ⟨powered, -, -⟩ := State.hears_spec s hears
  rw [exec_pfD0Return, execPfD0Return]
  exact actRom_powered _ _ powered

theorem exec_busMasterChange_hears (i : Fin 256) (on : Bool) : exec (.busMasterChange i on) s = .next (s.after
    (s.configCall i.val (fun s =>
      let s := s.modHost (fun h => { h with busMaster := if on then h.busMaster.add i.val else h.busMaster.remove i.val })
      if on then (s.retryOverflows i.val).retryMessages i.val else s))) := by
  obtain ⟨powered, -, -⟩ := State.hears_spec s hears
  rw [exec_busMasterChange, execBusMasterChange]
  exact actRom_powered _ _ powered

/-- During an FLR of the PF its configuration requests are answered with Request Retry Status. -/
theorem exec_config_retry (runs : s.flrRuns 0 = true) :
    (∀ vf enc d, exec (.barResize vf enc d) s = .next (s.after (s.emit (.requestRetry 0)))) ∧
    (∀ e, exec (.pfD3hotEntry e) s = .next (s.after (s.emit (.requestRetry 0)))) ∧
    exec .pfD0Return s = .next (s.after (s.emit (.requestRetry 0))) := by
  obtain ⟨-, uncut, -⟩ := State.hears_spec s hears
  refine ⟨fun vf enc d => ?_, fun e => ?_, ?_⟩
  · rw [exec_barResize_hears hears, State.configCall_retry s _ uncut (State.live_zero s) runs]
  · rw [exec_pfD3hotEntry_hears hears, State.configCall_retry s _ uncut (State.live_zero s) runs]
  · rw [exec_pfD0Return_hears hears, State.configCall_retry s _ uncut (State.live_zero s) runs]

section
variable (idle : s.flrRuns 0 = false)
include idle

theorem exec_barResize_refused (vf : Bool) (enc : Nat) (d : Bool)
    (bad : (if vf then s.host.vfMem else d) = true ∨ enc < (if vf then 10 else 16) ∨ 22 < enc) :
    exec (.barResize vf enc d) s = .next (s.after (s.bump Reg.hostResizeRefused)) := by
  obtain ⟨-, uncut, -⟩ := State.hears_spec s hears
  have refused : ((if vf then s.host.vfMem else d) || !(decide ((if vf then 10 else 16) ≤ enc) && decide (enc ≤ 22))) = true := by
    rcases bad with memory | less | more
    · rw [memory, Bool.true_or]
    · rw [decide_eq_false (Nat.not_le.mpr less), Bool.false_and, Bool.not_false, Bool.or_true]
    · rw [decide_eq_false (Nat.not_le.mpr more), Bool.and_false, Bool.not_false, Bool.or_true]
  rw [exec_barResize_hears hears, State.configCall_taken s _ uncut (State.live_zero s) idle]
  exact congrArg (fun t => Host.Outcome.next (s.after t)) (if_pos refused)

theorem exec_barResize_taken (vf : Bool) (enc : Nat) (d : Bool) (off : (if vf then s.host.vfMem else d) = false)
    (lo : (if vf then 10 else 16) ≤ enc) (hi : enc ≤ 22) :
    exec (.barResize vf enc d) s = .next (s.after
      (s.modHost (fun h => if vf then { h with vfWin := enc } else { h with pfWin := enc }))) := by
  obtain ⟨-, uncut, -⟩ := State.hears_spec s hears
  have taken : ((if vf then s.host.vfMem else d) || !(decide ((if vf then 10 else 16) ≤ enc) && decide (enc ≤ 22))) = false := by
    rw [off, decide_eq_true lo, decide_eq_true hi]
    rfl
  rw [exec_barResize_hears hears, State.configCall_taken s _ uncut (State.live_zero s) idle]
  exact congrArg (fun t => Host.Outcome.next (s.after t)) (if_neg (by rw [taken]; decide))

/-- The PF enters D3hot (R182). -/
def State.entersD3 (s : State) (e : Bool) : State := State.wakeSignal { s with host := { s.host with d3 := true, pmeEn := e } }

theorem exec_pfD3hotEntry_taken (e : Bool) : exec (.pfD3hotEntry e) s = .next (s.after
    (if s.host.d3 = false ∧ s.get Reg.patrolOnD3 = 1 then (s.entersD3 e).powerRequest 2 3 else s.entersD3 e)) := by
  obtain ⟨-, uncut, -⟩ := State.hears_spec s hears
  have patrol : (s.entersD3 e).get Reg.patrolOnD3 = s.get Reg.patrolOnD3 :=
    State.get_of_outside (State.event_wakeSignal _) _ _ (by decide)
  rw [exec_pfD3hotEntry_hears hears, State.configCall_taken s _ uncut (State.live_zero s) idle]
  refine congrArg (fun t => Host.Outcome.next (s.after t)) ?_
  change (if (!s.host.d3 && (s.entersD3 e).get Reg.patrolOnD3 == 1) = true then (s.entersD3 e).powerRequest 2 3 else s.entersD3 e) = _
  rw [patrol]
  simp

theorem exec_pfD0Return_taken : exec .pfD0Return s = .next (s.after
    (if s.get Reg.powerState = 2 then State.powerRequest { s with host := { s.host with d3 := false } } 0 3
      else { s with host := { s.host with d3 := false } })) := by
  obtain ⟨-, uncut, -⟩ := State.hears_spec s hears
  rw [exec_pfD0Return_hears hears, State.configCall_taken s _ uncut (State.live_zero s) idle]
  rfl

end

theorem exec_busMasterChange_taken (i : Fin 256) (on : Bool) (takes : s.configOn i.val = true) :
    exec (.busMasterChange i on) s = .next (s.after
      (if on then (State.retryOverflows { s with host := { s.host with busMaster := s.host.busMaster.add i.val } } i.val).retryMessages i.val
        else { s with host := { s.host with busMaster := s.host.busMaster.remove i.val } })) := by
  obtain ⟨-, uncut, -⟩ := State.hears_spec s hears
  obtain ⟨live, idle⟩ := (Bool.and_eq_true _ _).mp takes
  rw [exec_busMasterChange_hears hears, State.configCall_taken s _ uncut live (by simpa using idle)]
  cases on <;> rfl

end

/-! #### The link of the host port (R159, R181, R184) -/

section
variable (s : State) (st r w : Nat) (f : Bool)

/-- The rate let the link train to, as the link trains anew. -/
def State.rateCapped : State :=
  if st = 1 ∨ s.get Reg.hostLinkStatus = 0 then s.modHost (fun h => { h with rateCap := s.get Reg.hostLinkRateMax }) else s

/-- The status, the rate and the width of a link that runs. -/
def State.linkShown (cap width : Nat) : State :=
  (((s.set Reg.hostLinkStatus 0 st).set Reg.hostLinkRate 0 (min r (min cap (if f then 6 else 5)))).set Reg.hostLinkWidth 0 width).set
    Reg.hostLinkFlit 0 (b2n f)

/-- The link as it runs, before its source is raised. -/
def State.linkNoted : State :=
  let shown := (s.rateCapped st).linkShown st r f (s.rateCapped st).host.rateCap
    (if [1, 2, 4, 8, 16].contains w then w else (s.rateCapped st).get Reg.hostLinkWidth)
  if (s.get Reg.hostLinkStatus = 2 ∨ s.get Reg.hostLinkStatus = 3) ∧ st = 1 then shown.bump Reg.hostRecoveries else shown

theorem State.hostLinkRuns_eq : s.hostLinkRuns st r w f =
    (if s.get Reg.hostLinkStatus = st then s.linkNoted st r w f else (s.linkNoted st r w f).raise 0 0x001 0).wakeSignal := by
  unfold State.hostLinkRuns
  rfl

/-- What a link that runs may change before its source. -/
def Footprint.linkRuns : Footprint :=
  ⟨[Reg.hostLinkStatus, Reg.hostLinkRate, Reg.hostLinkWidth, Reg.hostLinkFlit, Reg.hostRecoveries], [.host]⟩

theorem State.linkShown_effect (cap width : Nat) :
    (s.linkShown st r f cap width).get Reg.hostLinkStatus = st ∧
    (s.linkShown st r f cap width).get Reg.hostLinkRate = min r (min cap (if f then 6 else 5)) ∧
    (s.linkShown st r f cap width).get Reg.hostLinkWidth = width ∧ (s.linkShown st r f cap width).get Reg.hostLinkFlit = b2n f ∧
    (s.linkShown st r f cap width).host = s.host ∧
    (s.linkShown st r f cap width).outside .linkRuns = s.outside .linkRuns := by
  unfold State.linkShown
  refine ⟨?_, ?_, ?_, State.get_set_same _ _ _ _, rfl, ?_⟩
  · rw [State.get_set_register _ _ _ _ (by decide), State.get_set_register _ _ _ _ (by decide),
      State.get_set_register _ _ _ _ (by decide), State.get_set_same]
  · rw [State.get_set_register _ _ _ _ (by decide), State.get_set_register _ _ _ _ (by decide), State.get_set_same]
  · rw [State.get_set_register _ _ _ _ (by decide), State.get_set_same]
  · rw [State.outside_set _ _ _ _ _ (by decide), State.outside_set _ _ _ _ _ (by decide), State.outside_set _ _ _ _ _ (by decide),
      State.outside_set _ _ _ _ _ (by decide)]

theorem State.linkNoted_effect :
    (s.linkNoted st r w f).get Reg.hostLinkStatus = st ∧
    (s.linkNoted st r w f).host.rateCap = (if st = 1 ∨ s.get Reg.hostLinkStatus = 0 then s.get Reg.hostLinkRateMax else s.host.rateCap) ∧
    (s.linkNoted st r w f).get Reg.hostLinkRate = min r (min (s.linkNoted st r w f).host.rateCap (if f then 6 else 5)) ∧
    (s.linkNoted st r w f).get Reg.hostLinkWidth = (if w = 1 ∨ w = 2 ∨ w = 4 ∨ w = 8 ∨ w = 16 then w else s.get Reg.hostLinkWidth) ∧
    (s.linkNoted st r w f).get Reg.hostLinkFlit = b2n f ∧
    (s.linkNoted st r w f).outside .linkRuns = s.outside .linkRuns := by
  have cap : (s.rateCapped st).host.rateCap =
      if st = 1 ∨ s.get Reg.hostLinkStatus = 0 then s.get Reg.hostLinkRateMax else s.host.rateCap := by
    unfold State.rateCapped
    split <;> rfl
  have capGet (n : Nat) : (s.rateCapped st).get n = s.get n := State.keeps_ite (fun t => t.get n) rfl rfl
  have capFrame : (s.rateCapped st).outside .linkRuns = s.outside .linkRuns :=
    State.outside_ite _ (State.outside_modHost _ _ _ (by decide)) rfl
  have width : (if [1, 2, 4, 8, 16].contains w then w else (s.rateCapped st).get Reg.hostLinkWidth) =
      if w = 1 ∨ w = 2 ∨ w = 4 ∨ w = 8 ∨ w = 16 then w else s.get Reg.hostLinkWidth := by
    rw [capGet]
    simp
  obtain ⟨status, rate, wide, flit, host, frame⟩ := State.linkShown_effect (s.rateCapped st) st r f (s.rateCapped st).host.rateCap
    (if [1, 2, 4, 8, 16].contains w then w else (s.rateCapped st).get Reg.hostLinkWidth)
  unfold State.linkNoted
  dsimp only
  generalize (s.rateCapped st).linkShown st r f _ _ = t at status rate wide flit host frame ⊢
  have kept {n : Nat} (h : n ≠ Reg.hostRecoveries) : (if (s.get Reg.hostLinkStatus = 2 ∨ s.get Reg.hostLinkStatus = 3) ∧ st = 1 then
      t.bump Reg.hostRecoveries else t).get n = t.get n := State.keeps_ite (fun t => t.get n) (State.get_set_register _ _ _ _ h.symm) rfl
  have keptHost : (if (s.get Reg.hostLinkStatus = 2 ∨ s.get Reg.hostLinkStatus = 3) ∧ st = 1 then
      t.bump Reg.hostRecoveries else t).host = t.host := State.keeps_ite (fun t => t.host) rfl rfl
  rw [kept (by decide), kept (by decide), kept (by decide), kept (by decide), keptHost, host]
  exact ⟨status, cap, rate, wide.trans width, flit,
    (State.outside_ite _ (State.outside_bump _ _ _ _ _ (by decide)) rfl).trans (frame.trans capFrame)⟩

/-- A link that runs shows itself, and raises source 0x001 on a change. -/
theorem State.hostLinkRuns_effect :
    (s.hostLinkRuns st r w f).get Reg.hostLinkStatus = st ∧
    (s.hostLinkRuns st r w f).host.rateCap = (if st = 1 ∨ s.get Reg.hostLinkStatus = 0 then s.get Reg.hostLinkRateMax else s.host.rateCap) ∧
    (s.hostLinkRuns st r w f).get Reg.hostLinkRate = min r (min (s.hostLinkRuns st r w f).host.rateCap (if f then 6 else 5)) ∧
    (s.hostLinkRuns st r w f).get Reg.hostLinkWidth = (if w = 1 ∨ w = 2 ∨ w = 4 ∨ w = 8 ∨ w = 16 then w else s.get Reg.hostLinkWidth) ∧
    (s.hostLinkRuns st r w f).get Reg.hostLinkFlit = b2n f ∧
    (s.hostLinkRuns st r w f).get Reg.mgmtCount 1 = (if st = s.get Reg.hostLinkStatus then s.get Reg.mgmtCount 1
      else sat 255 (s.get Reg.mgmtCount 1 + 1)) ∧
    (s.hostLinkRuns st r w f).outside (Footprint.event.plus [Reg.hostLinkStatus, Reg.hostLinkRate, Reg.hostLinkWidth,
      Reg.hostLinkFlit, Reg.hostRecoveries] [.host]) = s.outside (Footprint.event.plus [Reg.hostLinkStatus, Reg.hostLinkRate,
      Reg.hostLinkWidth, Reg.hostLinkFlit, Reg.hostRecoveries] [.host]) := by
  obtain ⟨status, cap, rate, wide, flit, frame⟩ := State.linkNoted_effect s st r w f
  rw [State.hostLinkRuns_eq]
  generalize s.linkNoted st r w f = t at status cap rate wide flit frame
  have count : t.get Reg.mgmtCount 1 = s.get Reg.mgmtCount 1 := State.get_of_outside frame _ _ (by decide)
  have raised : (if s.get Reg.hostLinkStatus = st then t else t.raise 0 0x001 0).wakeSignal.outside .event = t.outside .event :=
    (State.frame_wakeSignal _ (by decide)).trans (State.outside_ite _ rfl (State.frame_raise _ _ _ _ (by decide)))
  have counted : (if s.get Reg.hostLinkStatus = st then t else t.raise 0 0x001 0).wakeSignal.get Reg.mgmtCount 1 =
      if st = s.get Reg.hostLinkStatus then s.get Reg.mgmtCount 1 else sat 255 (s.get Reg.mgmtCount 1 + 1) := by
    rw [State.get_of_outside (State.told_wakeSignal _) _ _ (by decide)]
    by_cases same : s.get Reg.hostLinkStatus = st
    · rw [if_pos same, if_pos same.symm, count]
    · rw [if_neg same, if_neg (Ne.symm same)]
      refine (State.count_raise t 0 0x001 0).trans ?_
      rw [State.bump, State.get_set_same]
      exact congrArg (fun z => sat 255 (z + 1)) count
  generalize (if s.get Reg.hostLinkStatus = st then t else t.raise 0 0x001 0).wakeSignal = v at raised counted
  have host : v.host = t.host := State.host_of_outside raised (by decide)
  rw [State.get_of_outside raised _ _ (by decide), State.get_of_outside raised _ _ (by decide),
    State.get_of_outside raised _ _ (by decide), State.get_of_outside raised _ _ (by decide), host]
  exact ⟨status, cap, rate, wide, flit, counted, (State.outside_le (by decide) raised).trans (State.outside_le (by decide) frame)⟩

end

section
variable {s : State} (hears : s.hears = true) (st r w : Nat) (f : Bool)
include hears

theorem exec_hostLinkStatusChange_hears : exec (.hostLinkStatusChange st r w f) s = .next (s.after
    (if st = 0 then (if s.get Reg.hostLinkStatus = 0 then s else s.portResets.hostLinkDown)
      else if 4 < st ∨ s.host.perstLow = true ∨ bit (s.get Reg.refclkStatus) 0 = false then s
      else s.hostLinkRuns st r w f)) := by
  obtain ⟨powered, uncut, -⟩ := State.hears_spec s hears
  rw [exec_hostLinkStatusChange, execHostLinkStatusChange, actRom_powered _ _ powered, State.beforeCut_open _ _ uncut,
    State.hostReset_false]
  rfl

/-- A link that goes down resets the port as a hot reset does (R178). -/
theorem exec_hostLinkStatusChange_down (up : s.get Reg.hostLinkStatus ≠ 0) :
    ∃ t, exec (.hostLinkStatusChange 0 r w f) s = .next t ∧ t.portReset ∧ t.get Reg.hostLinkStatus = 0 ∧
      s.changesOnly t (Footprint.event.plus [Reg.hostLinkStatus] [.host, .resets, .power]) := by
  have effect := exec_hostLinkStatusChange_hears hears 0 r w f
  rw [if_pos rfl, if_neg up] at effect
  have reset := State.portReset_hostLinkDown (State.portReset_portResets s)
  have down := State.hostLinkDown_status s.portResets
  have frame := (State.portLinkDown_hostLinkDown s.portResets).trans (State.portLinkDown_portResets s)
  generalize s.portResets.hostLinkDown = t at effect reset down frame
  exact ⟨_, effect, State.portReset_after s reset, down, State.changesOnly_after _ _ frame⟩

/-! #### MSI-X masks and the messages in flight (R268, R270) -/

theorem exec_msix_vector {i v : Fin 256} (on : s.decodes i.val = true) (first : s.host.posted = []) :
    exec (.msixMask i (.vector v)) s = .next (s.after (s.msixMask i.val (.vector v))) ∧
    exec (.msixUnmask i (.vector v)) s = .next (s.after (s.msixUnmask i.val (.vector v))) := by
  obtain ⟨powered, uncut, -⟩ := State.hears_spec s hears
  refine ⟨?_, ?_⟩
  · rw [exec_msixMask, execMsixMask, actRom_powered _ _ powered]
    exact congrArg (fun t => Host.Outcome.next (s.after t))
      (State.pageCall_taken s uncut (by decide) (by decide) on first rfl)
  · rw [exec_msixUnmask, execMsixUnmask, actRom_powered _ _ powered]
    exact congrArg (fun t => Host.Outcome.next (s.after t))
      (State.pageCall_taken s uncut (by decide) (by decide) on first rfl)

theorem exec_msix_waits {i v : Fin 256} (on : s.decodes i.val = true) (behind : s.host.posted ≠ []) :
    exec (.msixMask i (.vector v)) s = .next (s.after
      { s with host := { s.host with posted := s.host.posted ++ [.msixMask i (.vector v)] } }) ∧
    exec (.msixUnmask i (.vector v)) s = .next (s.after
      { s with host := { s.host with posted := s.host.posted ++ [.msixUnmask i (.vector v)] } }) := by
  obtain ⟨powered, uncut, -⟩ := State.hears_spec s hears
  refine ⟨?_, ?_⟩
  · rw [exec_msixMask, execMsixMask, actRom_powered _ _ powered]
    exact congrArg (fun t => Host.Outcome.next (s.after t))
      (State.pageCall_waits s uncut (by decide) (by decide) on behind)
  · rw [exec_msixUnmask, execMsixUnmask, actRom_powered _ _ powered]
    exact congrArg (fun t => Host.Outcome.next (s.after t))
      (State.pageCall_waits s uncut (by decide) (by decide) on behind)

/-- Function Mask and MSI-X Enable are fields of the configuration space. -/
theorem exec_msix_config {i : Fin 256} {what : MaskWhat} (config : what = .functionMask ∨ what = .msixEnable)
    (takes : s.configOn i.val = true) :
    exec (.msixMask i what) s = .next (s.after (s.msixMask i.val what)) ∧
    exec (.msixUnmask i what) s = .next (s.after (s.msixUnmask i.val what)) := by
  obtain ⟨powered, uncut, -⟩ := State.hears_spec s hears
  obtain ⟨live, idle⟩ := (Bool.and_eq_true _ _).mp takes
  have maskTaken (f : State → State) (c : Instr) : s.maskCall i.val what c f = f s := by
    rcases config with rfl | rfl <;> exact State.configCall_taken s f uncut live (by simpa using idle)
  refine ⟨?_, ?_⟩
  · rw [exec_msixMask, execMsixMask, actRom_powered _ _ powered, maskTaken]
    rfl
  · rw [exec_msixUnmask, execMsixUnmask, actRom_powered _ _ powered, maskTaken]
    rfl

theorem exec_inflightExpiry_hears (i v : Fin 256) :
    exec (.inflightExpiry i v) s = .next (s.after (s.inflightExpiry i.val v.val)) := by
  rw [exec_inflightExpiry, execInflightExpiry]
  exact act_of_awake s _ (State.awake_hears hears)

/-- Two clauses after its message left a vector's bit ends, and no other. -/
theorem exec_inflightExpiry_runs (i v : Fin 256) (runs : s.itemHeld 7 = false) :
    ∃ t, exec (.inflightExpiry i v) s = .next t ∧
      (∀ c, (i.val, v.val, c) ∈ t.events.inflight ↔ ((i.val, v.val, c) ∈ s.events.inflight ∧ s.clock.clause < c + 2)) ∧
      (∀ k w c, (k ≠ i.val ∨ w ≠ v.val) → ((k, w, c) ∈ t.events.inflight ↔ (k, w, c) ∈ s.events.inflight)) ∧
      t.events.decided = s.events.decided ∧ s.changesOnly t (Footprint.none.plus [] [.events]) := by
  have expires : s.inflightExpiry i.val v.val = s.modEvents (fun e => { e with
      inflight := e.inflight.filter (fun x => !(x.1 == i.val && x.2.1 == v.val && decide (x.2.2 + 2 ≤ s.clauseNow))) }) := by
    rw [State.inflightExpiry, runs]
    rfl
  have left (x : Nat × Nat × Nat) : x ∈ (s.inflightExpiry i.val v.val).events.inflight ↔
      x ∈ s.events.inflight ∧ (!(x.1 == i.val && x.2.1 == v.val && decide (x.2.2 + 2 ≤ s.clauseNow))) = true := by
    rw [expires]
    exact List.mem_filter
  have decided : (s.inflightExpiry i.val v.val).events.decided = s.events.decided := by rw [expires]; rfl
  have frame : (s.inflightExpiry i.val v.val).outside (Footprint.none.plus [] [.events]) =
      s.outside (Footprint.none.plus [] [.events]) := by
    rw [expires]
    exact State.outside_modEvents _ _ _ (by decide)
  refine ⟨_, exec_inflightExpiry_hears hears i v, fun c => (left _).trans ?_, fun k w c other => (left _).trans ?_, decided,
    State.changesOnly_after _ _ frame⟩
  · have late : (!(i.val == i.val && v.val == v.val && decide (c + 2 ≤ s.clauseNow))) = decide (s.clauseNow < c + 2) := by
      rw [Bool.eq_iff_iff]
      simp only [beq_self_eq_true, Bool.true_and, Bool.not_eq_true', decide_eq_false_iff_not, decide_eq_true_eq]
      omega
    rw [late, decide_eq_true_eq]
    rfl
  · have kept : (k == i.val && w == v.val) = false := by
      rcases other with h | h
      · rw [beq_false_of_ne h, Bool.false_and]
      · rw [beq_false_of_ne h, Bool.and_false]
    simp only [kept, Bool.false_and, Bool.not_false, and_true]

end

/-- Settles O22: configuration requests are taken, refused or answered with Request Retry Status (`State.configCall`), the link's
status follows (`State.hostLinkRuns_effect`), and masks act in their turn. -/
theorem hostConfiguresTheBlock : Obligations.HostConfiguresTheBlock := by
  unfold Obligations.HostConfiguresTheBlock
  refine ⟨?_, ?_⟩
  · intro i s hears
    obtain ⟨powered, uncut, -⟩ := State.hears_spec s hears
    refine ⟨exec_config_retry hears, fun idle => ?_, fun on gone => ?_, fun on live runs => ?_, fun takes => ?_, fun takes => ?_, ?_,
      fun st r w f refused => ?_, fun r w f down => ?_, fun r w f up => exec_hostLinkStatusChange_down hears r w f up,
      fun st r w f some most high ref => ?_⟩
    · refine ⟨fun enc => exec_barResize_refused hears idle false enc true (.inl rfl),
        fun enc d memory => exec_barResize_refused hears idle true enc d (.inl memory),
        fun vf enc d bad => exec_barResize_refused hears idle vf enc d (.inr bad),
        fun enc d off lo hi => exec_barResize_taken hears idle true enc d off lo hi,
        fun enc lo hi => exec_barResize_taken hears idle false enc false rfl lo hi,
        fun e stays => ?_, fun e enters patrols => ?_, fun other => ?_, fun low => ?_⟩
      · rw [exec_pfD3hotEntry_taken hears idle, if_neg (by rintro ⟨d0, patrols⟩; simp [d0, patrols] at stays)]
        rfl
      · rw [exec_pfD3hotEntry_taken hears idle, if_pos ⟨enters, patrols⟩]
        rfl
      · rw [exec_pfD0Return_taken hears idle, if_neg other]
      · rw [exec_pfD0Return_taken hears idle, if_pos low]
    · rw [exec_busMasterChange_hears hears, State.configCall_gone s _ uncut gone]
    · rw [exec_busMasterChange_hears hears, State.configCall_retry s _ uncut live runs]
    · rw [exec_busMasterChange_taken hears i false takes, if_neg (by decide)]
    · rw [exec_busMasterChange_taken hears i true takes, if_pos rfl]
    · rw [exec_pmeTurnOff, execPmeTurnOff, actRom_powered _ _ powered, State.beforeCut_open _ _ uncut]
      rfl
    · have idle : st ≠ 0 ∧ (4 < st ∨ s.host.perstLow = true ∨ bit (s.get Reg.refclkStatus) 0 = false) := by
        rcases refused with more | ⟨some, low⟩
        · exact ⟨by omega, .inl more⟩
        · exact ⟨some, .inr low⟩
      rw [exec_hostLinkStatusChange_hears hears, if_neg idle.1, if_pos idle.2]
    · rw [exec_hostLinkStatusChange_hears hears, if_pos rfl, if_pos down]
    · have effect := exec_hostLinkStatusChange_hears hears st r w f
      rw [if_neg (by omega), if_neg (by simp [high, ref]; omega)] at effect
      obtain ⟨status, cap, rate, wide, flit, count, frame⟩ := State.hostLinkRuns_effect s st r w f
      generalize s.hostLinkRuns st r w f = t at effect status cap rate wide flit count frame
      exact ⟨_, effect, status, cap, rate, wide, flit, count, State.changesOnly_after _ _ frame⟩
  · intro i v s hears
    exact ⟨exec_msix_vector hears, exec_msix_waits hears, fun takes =>
      ⟨(exec_msix_config hears (.inl rfl) takes).1, (exec_msix_config hears (.inl rfl) takes).2,
        (exec_msix_config hears (.inr rfl) takes).1, (exec_msix_config hears (.inr rfl) takes).2⟩,
      fun held => by rw [exec_inflightExpiry_hears hears, State.inflightExpiry, if_pos held],
      exec_inflightExpiry_runs hears i v⟩

end Sys2Proof.Machine

namespace Sys2Proof.Machine

/-! ### What pulses a line (R287, R294)

The footprints of the event controller hold the count of a line's pulses, which the controller itself never moves: only
`State.pulse` does. `State.pulses l` is that count. -/

def State.pulses (l : Nat) (s : State) : Nat := s.get Reg.linePulses l

section
variable (l : Nat) (s : State)

theorem State.pulses_set {r : Nat} (i v : Nat) (h : r ≠ Reg.linePulses) : State.pulses l (s.set r i v) = State.pulses l s :=
  State.get_set_register _ _ _ _ h

theorem State.pulses_bump {r : Nat} (i n : Nat) (h : r ≠ Reg.linePulses) : State.pulses l (s.bump r i n) = State.pulses l s :=
  State.get_set_register _ _ _ _ h

theorem State.pulses_told {s t : State} (h : t.outside .told = s.outside .told) : State.pulses l t = State.pulses l s :=
  State.get_of_outside h _ _ (by decide)

theorem State.pulses_raise (i n u : Nat) : State.pulses l (s.raise i n u) = State.pulses l s :=
  (State.pulses_told l (State.told_raise s i n u)).trans (State.pulses_bump _ _ _ _ (by decide))

theorem State.pulses_metered (m n : Nat) : State.pulses l (s.metered m n).1 = State.pulses l s := by
  unfold State.metered
  dsimp only
  split
  · exact State.pulses_bump _ _ _ _ (by decide)
  · split
    · exact State.pulses_bump _ _ _ _ (by decide)
    · split
      · exact State.pulses_bump _ _ _ _ (by decide)
      · exact State.pulses_bump _ _ _ _ (by decide)

theorem State.pulses_enter (p : Nat) (e : Entry) : State.pulses l (s.enter p e) = State.pulses l s := by
  have head (x : State) (e : Entry) (t : Nat) : State.pulses l (x.makeHead p e t) = State.pulses l x :=
    State.keeps_ite (State.pulses l) (State.pulses_bump _ _ _ _ (by decide)) rfl
  have joined (b w : Bool) (x : State) (q : Port) (h : Entry) (t : Nat) :
      State.pulses l (if w = true then ((if b = true then x.bump Reg.hazardWaits else x).putPort p q).makeHead p h t
       else (if b = true then x.bump Reg.hazardWaits else x).putPort p q) = State.pulses l x := by
    have counted : State.pulses l (if b = true then x.bump Reg.hazardWaits else x) = State.pulses l x :=
      State.keeps_ite (State.pulses l) (State.pulses_bump _ _ _ _ (by decide)) rfl
    exact State.keeps_ite (State.pulses l) ((head _ _ _).trans counted) counted
  unfold State.enter
  cases h : meterRow p e.svc e.i with
  | none => exact joined _ _ s _ _ _
  | some m => exact (joined _ _ _ _ _ _).trans (State.pulses_metered l s m _)

theorem State.pulses_enqueue (p svc i : Nat) (w : Work) (n : Nat) : State.pulses l (s.enqueue p svc i w n) = State.pulses l s :=
  State.keeps_ite (State.pulses l) rfl (State.keeps_ite (State.pulses l) (State.pulses_enter l _ p _) rfl)

/-! Records. -/

theorem State.pulses_issueQueue (q : Nat) : State.pulses l (s.issueQueue q) = State.pulses l s := by
  unfold State.issueQueue
  split
  · rfl
  · split
    · rfl
    · dsimp only
      split
      · exact State.pulses_told l (State.told_sendMsix _ _ _ _ _ _)
      · rfl

theorem State.pulses_decideQueue (q : Nat) (b : Bool) : State.pulses l (s.decideQueue q b) = State.pulses l s :=
  State.keeps_ite (State.pulses l) ((State.pulses_issueQueue l _ q).trans (State.keeps_ite (State.pulses l) rfl rfl)) rfl

theorem State.pulses_writeRecord (q v t a n : Nat) (b : List Byte) :
    State.pulses l (s.writeRecord q v t a n b) = State.pulses l s := by
  unfold State.writeRecord
  rw [State.pulses_decideQueue]
  have written : State.pulses l (((s.set Reg.queueProd q ((s.get Reg.queueProd q + 1) % 4294967296)).bump Reg.recordsWritten).enqueue 9 v
      ((s.queueOwner q).getD 0) (.record q (s.get Reg.queueProd q) t a n b) 32) = State.pulses l s := by
    rw [State.pulses_enqueue, State.pulses_bump _ _ _ _ (by decide), State.pulses_set _ _ _ _ (by decide)]
  have woken (x : State) : State.pulses l (x.wakeOutsideA0 19) = State.pulses l x :=
    State.keeps_ite (State.pulses l) rfl (State.pulses_told l (State.told_wake _ _))
  exact State.keeps_ite (State.pulses l) written ((woken _).trans written)

theorem State.pulses_loseRecord (q t : Nat) : State.pulses l (s.loseRecord q t) = State.pulses l s := by
  have lost (r : QRun) : State.pulses l (((s.bump Reg.queueLost q).bump Reg.recordsLost).putQrun q r) = State.pulses l s := by
    refine (State.pulses_bump l (s.bump Reg.queueLost q) _ _ (by decide)).trans (State.pulses_bump _ _ _ _ (by decide))
  exact State.keeps_ite (State.pulses l) ((State.pulses_raise l _ _ _ _).trans (lost _)) (lost _)

theorem State.pulses_recordTo (q t a n : Nat) (b : List Byte) : State.pulses l (s.recordTo q t a n b) = State.pulses l s := by
  refine State.keeps_ite (State.pulses l) rfl (State.keeps_ite (State.pulses l) ?_ (State.keeps_ite (State.pulses l)
    (State.pulses_loseRecord l s _ _) (State.pulses_writeRecord l _ _ _ _ _ _ _)))
  rw [State.pulses_bump _ _ _ _ (by decide), State.pulses_bump _ _ _ _ (by decide)]

/-! A channel that goes on to its next descriptor. -/

theorem State.pulses_imageAccess (svc i : Nat) (w : Bool) (ia len : Nat) (data : List (Option Byte)) (b : Bool) (own : ReqOwner) :
    State.pulses l (s.imageAccess svc i w ia len data b own) = State.pulses l s := by
  have touch (x : State) (c g : Nat) : State.pulses l (x.sendTouch c g) = State.pulses l x := by
    refine (State.pulses_enqueue l _ _ _ _ _ _).trans ?_
    exact State.pulses_set l _ _ _ (by decide)
  have segment (x : State) (g : Nat) : State.pulses l (x.touchSegment g) = State.pulses l x := by
    refine State.keeps_ite (State.pulses l) rfl ?_
    dsimp only
    rw [State.keeps_each (State.pulses l)]
    · exact State.pulses_bump l _ _ _ (by decide)
    · exact fun s c => State.keeps_ite (State.pulses l) rfl (State.keeps_ite (State.pulses l) rfl (touch s c g))
  have held (x : State) : State.pulses l x.countHeld = State.pulses l x :=
    State.keeps_ite (State.pulses l) rfl (State.pulses_set l _ _ _ (by decide))
  refine State.keeps_ite (State.pulses l) (State.pulses_enqueue l s _ _ _ _ _) ?_
  rw [segment, held]
  rfl

theorem State.pulses_haltChan (k : Nat) (f : ChanFault) : State.pulses l (s.haltChan k f) = State.pulses l s := by
  have recorded (x : State) (t a q : Nat) (b : List Byte) : State.pulses l (x.dmaRecord k t a q b) = State.pulses l x :=
    State.keeps_ite (State.pulses l) (State.pulses_recordTo l x _ _ _ _ _) (State.pulses_bump l _ _ _ (by decide))
  unfold State.haltChan
  dsimp only
  rw [State.pulses_raise, recorded]
  refine (State.pulses_bump l _ _ _ (by decide)).trans ?_
  exact State.pulses_set l _ _ _ (by decide)

theorem State.pulses_fetchDesc (k : Nat) : State.pulses l (s.fetchDesc k) = State.pulses l s := by
  have running (x : State) (f : Chan → Chan) : State.pulses l ((x.setChan k .running).modChan k f) = State.pulses l x :=
    State.pulses_set l x _ _ (by decide)
  unfold State.fetchDesc
  dsimp only
  split
  · split
    · rw [State.pulses_haltChan, running]
      rfl
    · rw [State.keeps_each (State.pulses l) _ _ _ (fun s p => State.pulses_imageAccess l s _ _ _ _ _ _ _ _), running]
      rfl
  · refine (State.pulses_enqueue l _ _ _ _ _ _).trans ?_
    exact (running { s with dma := { s.dma with nextBurst := s.dma.nextBurst + 1 } }
      (fun c => { c with fetching := some (s.dma.nextBurst + 1), desc := none, issued := 0, paid := false })).trans rfl

theorem State.pulses_chanNext (k : Nat) : State.pulses l (s.chanNext k) = State.pulses l s := by
  have set (st : ChanState) : State.pulses l (s.setChan k st) = State.pulses l s := State.pulses_set l s _ _ (by decide)
  refine State.keeps_ite (State.pulses l) rfl (State.keeps_ite (State.pulses l) (set _) (State.keeps_ite (State.pulses l) rfl
    (State.keeps_ite (State.pulses l) (State.keeps_ite (State.pulses l) (set _) ?_) (State.pulses_fetchDesc l s k))))
  rw [State.pulses_fetchDesc, State.pulses_set l s _ _ (by decide)]

theorem State.pulses_chansNext : State.pulses l s.chansNext = State.pulses l s :=
  State.keeps_each (State.pulses l) _ _ _ (fun s k => State.pulses_chanNext l s k)

/-- A pulse is counted once. -/
theorem State.linePulses_pulseLine : (s.pulseLine l).get Reg.linePulses l = sat 4294967295 (s.get Reg.linePulses l + 1) := by
  have requested (x : State) (r : List Nat) : State.pulses l (x.each r (fun s k =>
      let i := (s.chanOwner k).getD 0
      if s.get Reg.instState i = 2 then s
      else if 255 ≤ s.get Reg.chReqCount k then (s.bump Reg.chReqOverflows k).raise i 0x072 k
      else s.bump Reg.chReqCount k)) = State.pulses l x := by
    refine State.keeps_each (State.pulses l) _ _ _ (fun s k => State.keeps_ite (State.pulses l) rfl
      (State.keeps_ite (State.pulses l) ?_ (State.pulses_bump l s _ _ (by decide))))
    rw [State.pulses_raise, State.pulses_bump l s _ _ (by decide)]
  refine (State.pulses_chansNext l (s.pulse l)).trans ((requested _ _).trans ?_)
  exact State.get_set_same _ _ _ _

end
end Sys2Proof.Machine

namespace Sys2Proof.Machine

/-! ### Doorbells of the DMA channels (R279, R280, R287) -/

/-- The registers that the translation of a window offset reads (R187 to R194). -/
def translationRegs : List Nat := [Reg.windowOpen, Reg.imageSegments, Reg.extWinBase, Reg.extIaBase, Reg.extPages, Reg.extRights,
  Reg.extKind, Reg.extContext, Reg.extTag, Reg.extValid, Reg.extMirror, Reg.ctxState, Reg.ctxRingBase, Reg.ctxRingSize, Reg.ctxTail,
  Reg.ctxHead, Reg.effCtxFirst, Reg.effCtxCount, Reg.rangeState]

section
variable {s t : State} {f : Footprint} (h : t.outside f = s.outside f) (n : ∀ r ∈ translationRegs, r ∉ f.regs)
include h n

theorem State.translation_ext (k : Nat) : t.ext k = s.ext k :=
  State.ext_of_outside h (fun r m => n r (by revert m; revert r; decide)) k

theorem State.extentAt_of_outside (i w : Nat) : t.extentAt i w = s.extentAt i w := by
  have valid (k : Nat) : t.get Reg.extValid k = s.get Reg.extValid k := State.get_of_outside h _ k (n _ (by decide))
  unfold State.extentAt State.validExts
  simp only [valid, State.translation_ext h n]

theorem State.partsOf_of_outside (i w m : Nat) : t.partsOf i w m = s.partsOf i w m := by
  have go (fuel w m : Nat) : t.partsGo i fuel w m = s.partsGo i fuel w m := by
    have at_ (w m : Nat) : t.partAt i w m = s.partAt i w m := by
      unfold State.partAt
      simp only [State.extentAt_of_outside h n, State.translation_ext h n]
    induction fuel generalizing w m with
    | zero => rfl
    | succ fuel ih => simp only [State.partsGo, at_, ih]
  exact go m w m

theorem State.partFault_of_outside (i : Nat) (write : Bool) (p : WPart) : t.partFault i write p = s.partFault i write p := by
  have get (r k : Nat) (m : r ∈ translationRegs) : t.get r k = s.get r k := State.get_of_outside h r k (n r m)
  have active (e : Ext) : t.apertureActive i e = s.apertureActive i e := by
    unfold State.apertureActive State.ctxOwner
    rw [State.ctxState_of_outside h (n _ (by decide)), State.ownerIn_of_outside h (n _ (by decide)) (n _ (by decide)),
      get _ _ (by decide), State.ringBytes, State.ringBytes, get _ _ (by decide)]
  have passes (c p m : Nat) : t.guardPasses c p m = s.guardPasses c p m := by
    unfold State.guardPasses State.ringBytes
    simp only [get Reg.ctxRingSize _ (by decide), get Reg.ctxTail _ (by decide), get Reg.ctxHead _ (by decide)]
  unfold State.partFault State.segments State.rowState
  simp only [State.translation_ext h n, active, passes, get Reg.imageSegments _ (by decide), get Reg.ctxRingBase _ (by decide),
    get Reg.extMirror _ (by decide), get Reg.rangeState _ (by decide)]

theorem State.dmaParts_of_outside (i w m : Nat) (write : Bool) : t.dmaParts i w m write = s.dmaParts i w m write := by
  have opened : t.windowsOpen = s.windowsOpen := congrArg (· == 1) (State.get_of_outside h _ _ (n Reg.windowOpen (by decide)))
  unfold State.dmaParts
  simp only [opened, State.partsOf_of_outside h n, State.partFault_of_outside h n]

end

section
variable (s : State) (k : Nat)

/-- A doorbell does not bear on where the next descriptor lies, nor on its place. -/
theorem State.descRoom_setProd (v : Nat) : (s.set Reg.chProd k v).descRoom k = s.descRoom k := by
  have frame : (s.set Reg.chProd k v).outside ⟨[Reg.chProd], []⟩ = s.outside ⟨[Reg.chProd], []⟩ := State.outside_set _ _ _ _ _ (by decide)
  have get (r j : Nat) (m : r ≠ Reg.chProd) : (s.set Reg.chProd k v).get r j = s.get r j := State.get_set_register _ _ _ _ m.symm
  have owner : (s.set Reg.chProd k v).chanInst k = s.chanInst k :=
    congrArg (·.getD 0) (State.ownerIn_of_outside frame (by decide) (by decide) k)
  have held (ps : List WPart) : (s.set Reg.chProd k v).heldPartsOf ps = s.heldPartsOf ps := by
    unfold State.heldPartsOf State.sliceResident
    rw [State.image_of_outside frame (by decide), State.carrierCount, get Reg.activeCarriers _ (by decide)]
    rfl
  unfold State.descRoom State.heldRoom
  simp only [get Reg.chRingActive _ (by decide), get Reg.chCons _ (by decide), owner, State.dmaParts_of_outside frame (by decide), held]
  rfl

/-- A read of the host's memory is outstanding, and nothing of the channels moves. -/
theorem State.hostFetch_effect (i : Nat) (what : HostFor) (addr len : Nat) :
    (s.hostFetch i what addr len).host.reqs = s.host.reqs ++ [⟨s.host.nextTag, false, what, i, addr, len, []⟩] ∧
    (s.hostFetch i what addr len).outside (Footprint.event.plus [] [.host]) = s.outside (Footprint.event.plus [] [.host]) := by
  unfold State.hostFetch
  dsimp only
  generalize noted : s.modHost (fun h => { h with
    reqs := h.reqs ++ [⟨s.host.nextTag, false, what, i, addr, len, []⟩], nextTag := (s.host.nextTag + 1) % 16384 }) = z
  have queued : (z.enqueue 9 3 i (.hostRd s.host.nextTag) 0).outside .event = z.outside .event :=
    State.frame_enqueueNine _ _ _ _ _ (by decide)
  refine ⟨?_, ?_⟩
  · rw [State.host_of_outside queued (by decide), ← noted]
    rfl
  · rw [State.outside_le (by decide) queued, ← noted, State.outside_modHost _ _ _ (by decide)]

/-- The channel as its next descriptor is read. -/
def State.fetching : State :=
  (({ s with dma := { s.dma with nextBurst := s.dma.nextBurst + 1 } } : State).setChan k .running).modChan k
    (fun c => { c with fetching := some (s.dma.nextBurst + 1), desc := none, issued := 0, paid := false })

/-- What a fetch from host memory leaves: the channel runs with it, and the read is outstanding. -/
theorem State.fetchDesc_host (host : bit (s.get Reg.chRingActive k) 4 = false) :
    (s.fetchDesc k).chanState k = .running ∧ ((s.fetchDesc k).chan k).fetching = some (s.dma.nextBurst + 1) ∧
    (s.fetchDesc k).host.reqs = s.host.reqs ++ [⟨s.host.nextTag, false, .descriptor k (s.dma.nextBurst + 1), s.chanInst k,
      ringBase (s.get Reg.chRingActive k) + 64 * (s.get Reg.chCons k % ringSize (s.get Reg.chRingActive k)), 64, []⟩] := by
  have fetches : s.fetchDesc k = (s.fetching k).hostFetch (s.chanInst k) (.descriptor k (s.dma.nextBurst + 1))
      (ringBase (s.get Reg.chRingActive k) + 64 * (s.get Reg.chCons k % ringSize (s.get Reg.chRingActive k))) 64 := by
    unfold State.fetchDesc
    exact if_neg (by rw [host]; decide)
  obtain ⟨reqs, frame⟩ := State.hostFetch_effect (s.fetching k) (s.chanInst k) (.descriptor k (s.dma.nextBurst + 1))
    (ringBase (s.get Reg.chRingActive k) + 64 * (s.get Reg.chCons k % ringSize (s.get Reg.chRingActive k))) 64
  rw [fetches, State.chanState_of_outside frame (by decide), State.chan_of_outside frame (by decide), reqs]
  refine ⟨State.chanState_setChan _ _ _, ?_, rfl⟩
  rw [State.fetching, State.modChan, State.chan_putChan_same]

end

/-- A channel that rests before a descriptor goes on: it waits for a request, or fetches (R279, R287). -/
theorem State.chanNext_goes {s : State} {k : Nat} (idle : s.chanState k = .idle) (unfetched : (s.chan k).fetching = none)
    (between : (s.chan k).desc = none) (unpaid : (s.chan k).paid = false) (more : s.get Reg.chProd k ≠ s.get Reg.chCons k)
    (uncut : s.cutPassed = false) (free : s.dma.held = false) (runs : s.resetting (s.chanInst k) = false)
    (room : s.descRoom k = true) :
    s.chanNext k = (if s.reqMode k = 1 then
        (if s.get Reg.chReqCount k = 0 then s.setChan k .waiting
         else (s.set Reg.chReqCount k (s.get Reg.chReqCount k - 1)).fetchDesc k)
      else s.fetchDesc k) := by
  unfold State.chanNext
  dsimp only
  rw [if_neg (by rw [idle, unfetched, between]; decide), if_neg more, if_neg (by rw [uncut, free, runs, room]; decide)]
  by_cases mode : s.reqMode k = 1
  · rw [if_pos ⟨mode, unpaid⟩, if_pos mode]
  · rw [if_neg (fun h => mode h.1), if_neg mode]

end Sys2Proof.Machine

namespace Sys2Proof.Machine

/-! ### Bursts (R283 to R288)

What a burst may change, and whose turn it was last: what every step of a burst keeps. -/

def Footprint.bursts : Footprint := Footprint.channels.plus [Reg.govDirty, Reg.govState] [.persist]

/-- What bursts leave: all but their footprint, and the channel that issued last. -/
def State.turn (s : State) : State × Nat := (s.outside .bursts, s.dma.last)

section
variable {s t : State}

theorem State.turn_of_outside {f : Footprint} (h : t.outside f = s.outside f) (le : f.le .bursts = true) (n : Part.dma ∉ f.parts) :
    t.turn = s.turn :=
  Prod.ext (State.outside_le le h) (congrArg Dma.last (State.dma_of_outside h n))

end

section
variable (s : State) (k : Nat)

theorem State.turn_set {r : Nat} (i v : Nat) (h : r ∈ Footprint.bursts.regs) : (s.set r i v).turn = s.turn :=
  Prod.ext (State.outside_set _ _ _ _ _ h) rfl

theorem State.turn_bump {r : Nat} (i n : Nat) (h : r ∈ Footprint.bursts.regs) : (s.bump r i n).turn = s.turn :=
  State.turn_set s i _ h

theorem State.turn_putChan (c : Chan) : (s.putChan k c).turn = s.turn :=
  Prod.ext (State.outside_putChan _ _ _ _ (by decide)) rfl

theorem State.turn_modChan (g : Chan → Chan) : (s.modChan k g).turn = s.turn := State.turn_putChan s k _

theorem State.turn_setBlob (r i : Nat) (b : List Byte) : (s.setBlob r i b).turn = s.turn :=
  Prod.ext (State.outside_setBlob _ _ _ _ _ (by decide)) rfl

theorem State.turn_event {t : State} (h : t.outside .event = s.outside .event) : t.turn = s.turn := State.turn_of_outside h (by decide) (by decide)

theorem State.turn_dmaRecord (type src q : Nat) (b : List Byte) : (s.dmaRecord k type src q b).turn = s.turn :=
  State.keeps_ite State.turn (State.turn_event s (State.event_recordTo _ _ _ _ _ _)) (State.turn_bump s _ _ (by decide))

theorem State.turn_haltChan (f : ChanFault) : (s.haltChan k f).turn = s.turn := by
  unfold State.haltChan
  dsimp only
  rw [State.turn_event _ (State.event_raise _ _ _ _), State.turn_dmaRecord, State.turn_modChan, State.turn_bump _ _ _ (by decide),
    State.turn_setBlob, State.setChan, State.turn_set _ _ _ (by decide)]

theorem State.turn_chanOff : (s.chanOff k).turn = s.turn := by
  have off : ((s.putChan k Chan.reset).setChan k .disabled).turn = s.turn := by
    rw [State.setChan, State.turn_set _ _ _ (by decide), State.turn_putChan]
  exact State.keeps_ite State.turn ((State.turn_event _ (State.event_withdrawUnit _ _ _ _)).trans off) off

theorem State.turn_imageAccess (svc i : Nat) (w : Bool) (ia len : Nat) (data : List (Option Byte)) (b : Bool) (own : ReqOwner) :
    (s.imageAccess svc i w ia len data b own).turn = s.turn :=
  State.turn_of_outside (State.frame_imageAccess s _ _ _ _ _ _ _ _ (f := .touch) (by decide)) (by decide) (by decide)

theorem State.turn_hostFetch (i : Nat) (what : HostFor) (addr len : Nat) : (s.hostFetch i what addr len).turn = s.turn :=
  State.turn_of_outside (State.hostFetch_effect s _ _ _ _).2 (by decide) (by decide)

theorem State.turn_fetchDesc : (s.fetchDesc k).turn = s.turn := by
  have numbered : ({ s with dma := { s.dma with nextBurst := s.dma.nextBurst + 1 } } : State).turn = s.turn := rfl
  unfold State.fetchDesc
  dsimp only
  split
  · split
    · rw [State.turn_haltChan, State.turn_modChan, State.setChan, State.turn_set _ _ _ (by decide), numbered]
    · rw [State.keeps_each State.turn _ _ _ (fun s p => State.turn_imageAccess s _ _ _ _ _ _ _ _), State.turn_modChan, State.setChan,
        State.turn_set _ _ _ (by decide), numbered]
  · rw [State.turn_hostFetch, State.turn_modChan, State.setChan, State.turn_set _ _ _ (by decide), numbered]

theorem State.turn_chanNext : (s.chanNext k).turn = s.turn := by
  have set (st : ChanState) : (s.setChan k st).turn = s.turn := State.turn_set s _ _ (by decide)
  refine State.keeps_ite State.turn rfl (State.keeps_ite State.turn (set _) (State.keeps_ite State.turn rfl
    (State.keeps_ite State.turn (State.keeps_ite State.turn (set _) ?_) (State.turn_fetchDesc s k))))
  rw [State.turn_fetchDesc, State.turn_set _ _ _ (by decide)]

theorem State.turn_chansNext : s.chansNext.turn = s.turn :=
  State.keeps_each State.turn _ _ _ (fun s k => State.turn_chanNext s k)

/-! The end of a burst, and of its descriptor. -/

theorem State.turn_completeDesc (d : Desc) : (s.completeDesc k d).turn = s.turn := by
  have moved : (((((s.set Reg.chCons k ((s.get Reg.chCons k + 1) % 4294967296)).bump Reg.chDescriptors k).setBlob Reg.chFault k []).modChan k
      (fun c => { c with desc := none, issued := 0, bursts := [], differ := none })).turn) = s.turn := by
    rw [State.turn_modChan, State.turn_setBlob, State.turn_bump _ _ _ (by decide), State.turn_set _ _ _ (by decide)]
  have pulsed (x : State) : (x.pulse k).turn = x.turn := State.turn_event x (State.event_pulse x k)
  unfold State.completeDesc
  dsimp only
  generalize (((s.set Reg.chCons k _).bump Reg.chDescriptors k).setBlob Reg.chFault k []).modChan k _ = m at moved ⊢
  rw [← moved]
  have recorded (q t : Nat) (b : List Byte) (p : Prop) [Decidable p] : (if p then m.dmaRecord k 3 t q b else m).turn = m.turn :=
    State.keeps_ite State.turn (State.turn_dmaRecord m k _ _ _ _) rfl
  refine State.keeps_ite State.turn ((State.turn_chanOff _ k).trans ?_) ((State.turn_chansNext _).trans ?_)
  · exact State.keeps_ite State.turn ((pulsed _).trans (recorded _ _ _ _)) (recorded _ _ _ _)
  · exact State.keeps_ite State.turn ((pulsed _).trans (recorded _ _ _ _)) (recorded _ _ _ _)

theorem State.turn_settleChan : (s.settleChan k).turn = s.turn := by
  unfold State.settleChan
  dsimp only
  refine State.keeps_ite State.turn (State.keeps_ite State.turn (State.turn_chanOff s k) rfl) ?_
  split
  · exact State.keeps_ite State.turn ((State.turn_haltChan _ k _).trans (State.turn_modChan s k _)) rfl
  · split
    · exact State.keeps_ite State.turn (State.turn_completeDesc s k _) rfl
    · rfl

theorem State.turn_burstFails (b : Burst) (cause phase addr : Nat) : (s.burstFails k b cause phase addr).turn = s.turn :=
  (State.turn_settleChan _ k).trans (State.turn_modChan s k _)

/-! The reads and the writes of a burst. -/

theorem State.turn_startReads (b : Burst) (l : List (Bool × Nat × Nat × Nat)) : (s.startReads k b l).turn = s.turn := by
  unfold State.startReads
  dsimp only
  split
  · exact State.turn_burstFails s k _ _ _ _
  · refine State.keeps_ite State.turn (State.turn_modChan s k _) ?_
    rw [State.keeps_each State.turn _ _ _ (fun s x => State.keeps_ite State.turn (State.turn_imageAccess s _ _ _ _ _ _ _ _)
      (State.turn_hostFetch s _ _ _ _))]
    exact State.turn_modChan s k _

theorem State.turn_pumpReads : (s.pumpReads k).turn = s.turn := by
  refine State.keeps_each State.turn _ _ _ (fun s b => ?_)
  split
  · exact State.turn_startReads s k _ _
  · rfl

theorem State.turn_writesGo (id : Nat) (l : List (Bool × Nat × List Byte)) : (s.writesGo k id l).turn = s.turn := by
  induction l generalizing s with
  | nil => rfl
  | cons x r ih =>
    obtain ⟨w, a, data⟩ := x
    unfold State.writesGo
    dsimp only
    split
    · rfl
    · refine State.keeps_ite State.turn ?_ (State.keeps_ite State.turn rfl ?_)
      · split
        · exact State.turn_burstFails s k _ _ _ _
        · refine State.keeps_ite State.turn ?_ rfl
          rw [ih, State.keeps_each State.turn _ _ _ (fun s p => State.turn_imageAccess s _ _ _ _ _ _ _ _),
            State.turn_of_outside (State.frame_dirtySegments _ _ (f := Footprint.touch.plus [Reg.govDirty, Reg.govState] [.persist])
              (by decide) (by decide)) (by decide) (by decide)]
          exact State.turn_modChan s k _
      · rw [ih, State.turn_event _ (State.event_enqueue _ _ _ _ _)]
        exact State.turn_modChan s k _

theorem State.turn_pumpWrites : (s.pumpWrites k).turn = s.turn := by
  refine State.keeps_each State.turn _ _ _ (fun s b => ?_)
  dsimp only
  split
  · exact State.keeps_ite State.turn (State.turn_writesGo s k _ _) rfl
  · rfl

theorem State.turn_pumpAllWrites : s.pumpAllWrites.turn = s.turn :=
  State.keeps_each State.turn _ _ _ (fun s k => (State.turn_pumpWrites _ k).trans (State.turn_pumpReads s k))

theorem State.turn_startWrites (d : Desc) (b : Burst) (data : List Byte) : (s.startWrites k d b data).turn = s.turn := by
  unfold State.startWrites
  dsimp only
  split
  · exact State.turn_burstFails s k _ _ _ _
  · exact (State.turn_pumpWrites _ k).trans (State.turn_modChan s k _)

/-- The channel that issues a burst has had its turn. -/
theorem State.turn_issueBurst (some : (s.chan k).desc ≠ none) : (s.issueBurst k).turn = (s.outside .bursts, k) := by
  obtain ⟨d, hd⟩ := Option.ne_none_iff_exists'.mp some
  unfold State.issueBurst
  dsimp only
  rw [hd]
  dsimp only
  have last : ({ s with dma := { s.dma with nextBurst := s.dma.nextBurst + 1, last := k } } : State).turn = (s.outside .bursts, k) := rfl
  generalize ({ s with dma := { s.dma with nextBurst := s.dma.nextBurst + 1, last := k } } : State) = x at last
  rw [← last]
  have counted (x : State) (c : Chan) : (if (x.putChan k c).reqMode k = 2 then
      (x.putChan k c).set Reg.chReqCount k ((x.putChan k c).get Reg.chReqCount k - 1) else x.putChan k c).turn = x.turn :=
    State.keeps_ite State.turn ((State.turn_set _ _ _ (by decide)).trans (State.turn_putChan x k c)) (State.turn_putChan x k c)
  exact State.keeps_ite State.turn ((State.turn_startWrites _ k _ _ _).trans (counted x _))
    ((State.turn_startReads _ k _ _).trans (counted x _))

end

/-! The choice of the next channel. -/

theorem bestOf_mem {α : Type} (better : α → α → Bool) (l : List α) {x : α} (h : bestOf better l = some x) : x ∈ l := by
  induction l generalizing x with
  | nil => exact nomatch h
  | cons a r ih =>
    unfold bestOf at h
    split at h
    · exact (Option.some.inj h) ▸ List.mem_cons_self
    · rename_i b hb
      split at h
      · exact List.mem_cons_of_mem _ (ih ((Option.some.inj h) ▸ hb))
      · exact (Option.some.inj h) ▸ List.mem_cons_self

theorem State.chooseChan_spec {s : State} {k : Nat} (h : s.chooseChan = some k) :
    s.mayBurst k = true ∧ s.burstsInFlight < 32 ∧ s.dma.held = false ∧ s.cutPassed = false := by
  unfold State.chooseChan at h
  split at h
  · exact nomatch h
  · rename_i free
    simp only [Bool.or_eq_true, decide_eq_true_eq, not_or, Bool.not_eq_true, Nat.not_le] at free
    exact ⟨(List.mem_filter.mp (bestOf_mem _ _ h)).2, free.1.1, free.1.2, free.2⟩

theorem State.desc_of_mayBurst {s : State} {k : Nat} (h : s.mayBurst k = true) : (s.chan k).desc ≠ none := by
  intro none
  unfold State.mayBurst at h
  dsimp only at h
  rw [none] at h
  exact nomatch h

end Sys2Proof.Machine

namespace Sys2Proof.Machine

section
variable (s : State)

/-- A doorbell within the ring of an enabled channel moves its producer index, and the channel goes on (R280). -/
theorem State.dmaDoorbell_found {i j k v a : Nat} (found : s.chanOf i j = some k) (unsealed : s.image ≠ .sealed) (size : Nat)
    (ha : a = (s.get Reg.chProd k + 4294967296 - s.get Reg.chCons k) % 4294967296 +
      (v % 4294967296 + 4294967296 - s.get Reg.chProd k) % 4294967296) :
    s.dmaDoorbell i j size v = (if size ≠ 8 ∨ s.chanState k = .disabled ∨ ringSize (s.get Reg.chRingActive k) < a then s.ignoreDoorbell i
      else (s.set Reg.chProd k (v % 4294967296)).chanNext k) := by
  have same : (size ≠ 8 ∨ s.chanState k = .disabled ∨ s.image = .sealed ∨ ringSize (s.get Reg.chRingActive k) < a) ↔
      (size ≠ 8 ∨ s.chanState k = .disabled ∨ ringSize (s.get Reg.chRingActive k) < a) := by
    simp [unsealed]
  unfold State.dmaDoorbell
  rw [found]
  dsimp only
  rw [← ha]
  exact if_congr same rfl rfl

theorem State.dmaDoorbell_none {i j : Nat} (none : s.chanOf i j = none) (size v : Nat) : s.dmaDoorbell i j size v = s.ignoreDoorbell i := by
  unfold State.dmaDoorbell
  rw [none]

/-- A channel that rests goes on when its producer index moves. -/
theorem State.chanDoorbell_effect {k x : Nat} (idle : s.chanState k = .idle) (unfetched : (s.chan k).fetching = none)
    (between : (s.chan k).desc = none) (unpaid : (s.chan k).paid = false) (more : x ≠ s.get Reg.chCons k)
    (uncut : s.cutPassed = false) (free : s.dma.held = false) (runs : s.resetting (s.chanInst k) = false) :
    ((s.set Reg.chProd k x).chanNext k).get Reg.chProd k = x ∧
    (s.reqMode k = 1 → s.get Reg.chReqCount k = 0 → s.descRoom k = true → ((s.set Reg.chProd k x).chanNext k).chanState k = .waiting) ∧
    (s.reqMode k ≠ 1 → bit (s.get Reg.chRingActive k) 4 = false → ((s.set Reg.chProd k x).chanNext k).chanState k = .running ∧
      (((s.set Reg.chProd k x).chanNext k).chan k).fetching = some (s.dma.nextBurst + 1) ∧
      ((s.set Reg.chProd k x).chanNext k).host.reqs = s.host.reqs ++ [⟨s.host.nextTag, false, .descriptor k (s.dma.nextBurst + 1),
        s.chanInst k, ringBase (s.get Reg.chRingActive k) + 64 * (s.get Reg.chCons k % ringSize (s.get Reg.chRingActive k)), 64, []⟩]) ∧
    ((s.set Reg.chProd k x).chanNext k).outside .channels = s.outside .channels := by
  have frame := State.fetch_chanNext (s.set Reg.chProd k x) k
  have get (r j : Nat) (m : Reg.chProd ≠ r) : (s.set Reg.chProd k x).get r j = s.get r j := State.get_set_register _ _ _ _ m
  have prod : (s.set Reg.chProd k x).get Reg.chProd k = x := State.get_set_same _ _ _ _
  have still : (s.set Reg.chProd k x).outside ⟨[Reg.chProd], []⟩ = s.outside ⟨[Reg.chProd], []⟩ := State.outside_set _ _ _ _ _ (by decide)
  have owner : (s.set Reg.chProd k x).chanInst k = s.chanInst k :=
    congrArg (·.getD 0) (State.ownerIn_of_outside still (by decide) (by decide) k)
  have mode : (s.set Reg.chProd k x).reqMode k = s.reqMode k := congrArg (bits · 17 16) (get Reg.chCtrlActive k (by decide))
  have goes (room : s.descRoom k = true) : (s.set Reg.chProd k x).chanNext k = _ :=
    State.chanNext_goes ((State.chanState_of_outside still (by decide) k).trans idle) unfetched between unpaid
      (by rw [prod, get Reg.chCons _ (by decide)]; exact more)
      ((State.cutPassed_of_outside still (by decide) (by decide)).trans uncut) free
      (by rw [owner]; exact (congrArg (· == 2) (get Reg.instState _ (by decide))).trans runs)
      ((State.descRoom_setProd s k x).trans room)
  refine ⟨(State.get_of_outside frame _ _ (by decide)).trans prod, fun one none room => ?_, fun other host => ?_,
    (State.channels_of_fetch frame).trans (State.outside_le (by decide) still)⟩
  · rw [goes room, mode, if_pos one, if_pos ((get Reg.chReqCount k (by decide)).trans none)]
    exact State.chanState_setChan _ _ _
  · have room : s.descRoom k = true := by
      unfold State.descRoom
      dsimp only
      rw [host]
      rfl
    have fetched := State.fetchDesc_host (s.set Reg.chProd k x) k ((congrArg (bit · 4) (get Reg.chRingActive k (by decide))).trans host)
    rw [owner, get Reg.chRingActive k (by decide), get Reg.chCons k (by decide)] at fetched
    rw [goes room, mode, if_neg other]
    exact fetched

/-- A pulse changes what the channels that it moves may change. -/
theorem State.channels_pulseLine (l : Nat) : (s.pulseLine l).outside .channels = s.outside .channels := by
  have next : (s.pulse l).chansNext.outside .channels = (s.pulse l).outside .channels :=
    State.outside_each _ _ _ _ (fun s k => State.channels_of_fetch (State.fetch_chanNext s k))
  exact next.trans (State.frame_pulse s l (by decide))

end

section
variable {s : State} (hears : s.hears = true)
include hears

theorem exec_dmaDoorbell_taken {i : Fin 256} {j size : Nat} (v : Nat) (on : (s.wakeOutsideA0 13).decodes i = true)
    (first : s.host.posted = []) (lo : 0 < size) (hi : size ≤ 8) :
    exec (.dmaDoorbell i j size v) s = .next (s.after ((s.wakeOutsideA0 13).dmaDoorbell i j size v)) :=
  exec_pageTaken s hears (.inr (.inl ⟨j, v, rfl, rfl, rfl⟩)) on first lo hi rfl

theorem exec_softPulse_taken {i : Fin 256} (j v : Nat) (on : s.decodes i = true) (first : s.host.posted = []) :
    exec (.softPulse i j v) s = .next (s.after (s.softPulse i j v)) :=
  exec_pageTaken s hears (write := true) (.inr (.inr (.inr (.inr (.inr (.inl ⟨j, v, rfl, rfl, rfl, rfl⟩)))))) on first (by decide)
    (by decide) rfl

end

/-- Any line that is not reserved pulses (R287, log 42). -/
theorem State.pulseLine_counted (s : State) (l : Nat) : (s.after (s.pulseLine l)).get Reg.linePulses l = sat 4294967295 (s.get Reg.linePulses l + 1) ∧
    s.changesOnly (s.after (s.pulseLine l)) .channels :=
  ⟨State.linePulses_pulseLine l s, State.changesOnly_after _ _ (State.channels_pulseLine s l)⟩

/-- A burst leaves for the channel chosen, and that channel has had its turn (R286). -/
theorem exec_dmaBurstIssue_chosen {s v : State} (awake : s.awake = true) (hv : v = s.chansNext.pumpAllWrites) {k : Nat}
    (chosen : v.chooseChan = some k) : v.mayBurst k = true ∧ v.burstsInFlight < 32 ∧ v.dma.held = false ∧ v.cutPassed = false ∧
      ∃ t, exec .dmaBurstIssue s = .next t ∧ t.dma.last = k ∧ s.changesOnly t .bursts := by
  obtain ⟨may, room, free, uncut⟩ := State.chooseChan_spec chosen
  have issues : s.burstIssue = v.issueBurst k := by
    unfold State.burstIssue
    dsimp only
    rw [← hv, chosen]
  have turn := State.turn_issueBurst v k (State.desc_of_mayBurst may)
  have before : v.turn = s.turn := by rw [hv, State.turn_pumpAllWrites, State.turn_chansNext]
  refine ⟨may, room, free, uncut, _, (act_of_awake s _ awake).trans (by rw [issues]), ?_, State.changesOnly_after _ _ ?_⟩
  · exact congrArg Prod.snd turn
  · exact (congrArg Prod.fst turn).trans (congrArg Prod.fst before)

/-- Settles O39: a doorbell within its ring lets the channel go on (`State.chanDoorbell_effect`), a line pulses once
(`State.linePulses_pulseLine`), and a burst is the turn of its channel (`State.turn_issueBurst`). -/
theorem channelsRun : Obligations.ChannelsRun := by
  unfold Obligations.ChannelsRun
  refine ⟨?_, ?_⟩
  · intro i j size v k a l s u hears hu ha
    obtain ⟨-, uncut, unsealed⟩ := State.hears_spec s hears
    have woken : u.outside .event = s.outside .event := by rw [hu, State.event_wakeOutsideA0]
    refine ⟨fun on first lo hi => ?_, fun on first => ?_, fun lo hi => ?_, fun line => ?_⟩
    · have effect := exec_dmaDoorbell_taken (j := j) hears v (hu ▸ on) first lo hi
      rw [← hu] at effect
      refine ⟨fun none => effect.trans (by rw [State.dmaDoorbell_none u none]; rfl), fun found => ?_⟩
      rw [State.dmaDoorbell_found u found ((State.image_of_outside woken (by decide)).trans_ne unsealed) size ha] at effect
      refine ⟨fun bad => effect.trans (by rw [if_pos bad]; rfl), fun whole on within => ?_⟩
      rw [if_neg (by simp only [not_or, not_not, Nat.not_lt]; exact ⟨whole, on, within⟩)] at effect
      refine ⟨effect, fun idle unfetched between unpaid more free runs => ?_⟩
      have dma : u.dma = s.dma := State.dma_of_outside woken (by decide)
      have host : u.host = s.host := State.host_of_outside woken (by decide)
      obtain ⟨prod, waits, fetches, frame⟩ := State.chanDoorbell_effect u idle unfetched between unpaid more
        ((State.cutPassed_of_outside woken (by decide) (by decide)).trans uncut) ((congrArg Dma.held dma).trans free) runs
      rw [dma, host] at fetches
      generalize (u.set Reg.chProd k (v % 4294967296)).chanNext k = t at effect prod waits fetches frame
      exact ⟨_, effect, prod, waits, fetches, State.changesOnly_after _ _ (frame.trans (State.outside_le (by decide) woken))⟩
    · have effect := exec_softPulse_taken hears j v on first
      refine ⟨fun bad => effect.trans (congrArg (fun t => Host.Outcome.next (s.after t)) ?_), fun found soft own => ?_⟩
      · unfold State.softPulse
        dsimp only
        split
        · rfl
        · rename_i chan
          refine if_neg (fun h => ?_)
          rcases bad with none | low | other
          · exact nomatch chan.symm.trans none
          · omega
          · exact other h.2
      · obtain ⟨c, chan⟩ := Option.ne_none_iff_exists'.mp found
        have pulses : s.softPulse i j v = s.pulseLine (v % 256) := by
          unfold State.softPulse
          dsimp only
          rw [chan]
          exact if_pos ⟨soft, own⟩
        exact ⟨_, effect.trans (by rw [pulses]), State.pulseLine_counted s _⟩
    · rw [exec_eventFabricPulse, execEventFabricPulse, act_of_awake s _ (State.awake_hears hears), if_pos ⟨lo, hi⟩]
    · refine ⟨_, ?_, State.pulseLine_counted s _⟩
      rw [exec_eventFabricPulse, execEventFabricPulse, act_of_awake s _ (State.awake_hears hears), if_neg (by omega)]
  · intro s v awake hv
    refine ⟨fun none => ?_, fun k chosen => exec_dmaBurstIssue_chosen awake hv chosen⟩
    have idles : s.burstIssue = v := by
      unfold State.burstIssue
      dsimp only
      rw [← hv, none]
    exact (act_of_awake s _ awake).trans (by rw [idles])

end Sys2Proof.Machine

namespace Sys2Proof.Machine

/-! ### The reset of an instance: what the completion leaves of a queue (R218) -/

/-- A squash of VF 1 that has begun and is quiet; the VF holds queue 0, whose QUEUE_ENABLE is 2. -/
def queueBeyondEnable : State :=
  { (((State.reset.set Reg.imageState 0 3).set Reg.effQueueCount 1 1).set Reg.queueEnable 0 2) with
    clock := { Clock.reset with powered := true, clause := 1 }
    resets := [⟨1, 4, false, false, 0, some 0, 1, none, false, false, false, 0, 0, 0, 0, 0, none⟩] }

/-- The job of that squash. -/
def quietSquash : ResetJob := ⟨1, 4, false, false, 0, some 0, 1, none, false, false, false, 0, 0, 0, 0, 0, none⟩

theorem queueBeyondEnable_quiet : queueBeyondEnable.hears = true ∧ queueBeyondEnable.resetJob 1 = some quietSquash ∧
    queueBeyondEnable.quiet quietSquash = true ∧ 0 ∈ queueBeyondEnable.queuesOf 1 := by decide

set_option maxRecDepth 8000 in
theorem queueBeyondEnable_completes : (queueBeyondEnable.completeReset (1 : Fin 256).val).get Reg.queueEnable 0 = 2 := by decide

theorem exec_resetComplete_hears {s : State} (hears : s.hears = true) (i : Fin 256) :
    exec (.resetComplete i) s = .next (s.after (s.completeReset i.val)) := by
  obtain ⟨-, uncut, -⟩ := State.hears_spec s hears
  rw [exec_resetComplete, execResetComplete, act_of_awake s _ (State.awake_hears hears), State.beforeCut_open _ _ uncut]

theorem get_resetComplete {s t : State} (hears : s.hears = true) {i : Fin 256} (next : exec (.resetComplete i) s = .next t) (r q : Nat) :
    t.get r q = (s.completeReset i.val).get r q := by
  rw [exec_resetComplete_hears hears] at next
  rw [← Host.Outcome.next.inj next]
  rfl

/-- Refutes O33: the completion of a reset disables the queues of the instance whose QUEUE_ENABLE is 1; the statement ranges over
all states, and a queue whose QUEUE_ENABLE is 2 keeps it (`queueBeyondEnable`). -/
theorem not_instancesAreReset : ¬ Obligations.InstancesAreReset := by
  unfold Obligations.InstancesAreReset
  intro h
  obtain ⟨-, -, completes⟩ := h
  obtain ⟨hears, job, quiet, held⟩ := queueBeyondEnable_quiet
  obtain ⟨effect, -⟩ := completes 1 quietSquash queueBeyondEnable hears job
  obtain ⟨t, next, -, -, -, -, -, -, disabled, -⟩ := effect (by decide) quiet (.inl rfl)
  have zero := disabled 0 held
  rw [get_resetComplete hears next, queueBeyondEnable_completes] at zero
  exact absurd zero (by decide)

end Sys2Proof.Machine

namespace Sys2Proof.Machine

/-! ### Grants of the scheduler (R226 to R247) -/

theorem bestOf_cons_ne {α : Type} (better : α → α → Bool) (a : α) (r : List α) : bestOf better (a :: r) ≠ none := by
  unfold bestOf
  split
  · nofun
  · split <;> nofun

section
variable (s : State)

/-! #### The choice -/

/-- A candidate is an entry of its port that may go. -/
theorem State.candidates_spec {p : Nat} {ok : Entry → Bool} {c : Entry × Head} (h : c ∈ s.candidates p ok) :
    c.1 ∈ (s.port p).entries ∧ ok c.1 = true ∧ s.eligible p c.1 c.2 = true := by
  obtain ⟨kh, -, found⟩ := List.mem_filterMap.mp h
  split at found
  · rename_i e entry
    split at found
    · rename_i may
      obtain rfl := Option.some.inj found
      exact ⟨List.mem_of_find?_eq_some entry, (Bool.and_eq_true _ _).mp may⟩
    · exact nomatch found
  · exact nomatch found

/-- What is granted is a candidate; one outside service 7 finds its port's shaper flowing, and no candidate of service 7. -/
theorem State.chooseGrant_spec {p : Nat} {ok : Entry → Bool} {e : Entry} (h : s.chooseGrant p ok = some e) :
    ∃ x, (e, x) ∈ s.candidates p ok ∧ (e.svc ≠ 7 → s.flows (portBucket p) (s.get Reg.portRate p) (s.get Reg.portBurst p) = true ∧
      ∀ c ∈ s.candidates p ok, c.1.svc ≠ 7) := by
  unfold State.chooseGrant at h
  dsimp only at h
  split at h
  · rename_i e' x best
    obtain rfl := Option.some.inj h
    obtain ⟨mem, seven⟩ := List.mem_filter.mp (bestOf_mem _ _ best)
    exact ⟨x, mem, fun other => absurd (beq_iff_eq.mp seven) other⟩
  · rename_i none
    split at h
    · rename_i flows
      split at h
      · rename_i v chosen
        obtain ⟨⟨e', x⟩, best, rfl⟩ := Option.map_eq_some_iff.mp h
        obtain ⟨mem, -⟩ := List.mem_filter.mp (bestOf_mem _ _ best)
        refine ⟨x, mem, fun _ => ⟨flows, fun c hc seven => ?_⟩⟩
        have sevens : c ∈ (s.candidates p ok).filter (fun c => c.1.svc == 7) := List.mem_filter.mpr ⟨hc, beq_iff_eq.mpr seven⟩
        cases all : (s.candidates p ok).filter (fun c => c.1.svc == 7) with
        | nil => exact absurd (all ▸ sevens) List.not_mem_nil
        | cons a r => exact absurd none (by rw [all]; exact bestOf_cons_ne _ _ _)
      · exact nomatch h
    · exact nomatch h

/-- From the cut service 7 goes, then the writes of the carrier ports. -/
theorem State.chooseAtCut_spec {p : Nat} {e : Entry} (small : p < 10) (h : s.chooseAtCut p = some e) :
    e.svc = 7 ∨ (p < 8 ∧ e.work.imageRange.any (·.1) = true ∧ ∀ x ∈ (s.port p).entries, x.svc ≠ 7) := by
  unfold State.chooseAtCut at h
  dsimp only at h
  split at h
  · exact nomatch h
  · rename_i host
    split at h
    · rename_i e' seven
      obtain rfl := Option.some.inj h
      exact .inl (by simpa using List.find?_some seven)
    · rename_i none
      split at h
      · exact nomatch h
      · exact .inr ⟨by omega, by simpa using List.find?_some h, fun x hx => by simpa using List.find?_eq_none.mp none x hx⟩

/-! #### The entries of a port as others join and leave -/

/-- No entry of port p is known by the number. -/
def State.noEntry (p id : Nat) (s : State) : Prop := ∀ x ∈ (s.port p).entries ++ (s.port p).outside, x.id ≠ id

/-- The entries of a port, and those that wait outside. -/
def State.lists (p : Nat) (s : State) : List Entry × List Entry := ((s.port p).entries, (s.port p).outside)

theorem State.noEntry_of_lists {p id : Nat} {s t : State} (h : State.lists p t = State.lists p s) (none : State.noEntry p id s) :
    State.noEntry p id t := by
  have entries : (t.port p).entries = (s.port p).entries := congrArg Prod.fst h
  have outside : (t.port p).outside = (s.port p).outside := congrArg Prod.snd h
  rw [State.noEntry, entries, outside]
  exact none

theorem State.port_putPort_other {p r : Nat} (q : Port) (h : r ≠ p) : (s.putPort p q).port r = s.port r :=
  Tbl.getD_put_other _ _ _ _ _ h.symm

theorem State.port_metered (m n r : Nat) : (s.metered m n).1.port r = s.port r := by
  unfold State.metered
  dsimp only
  split
  · rfl
  · split
    · rfl
    · split <;> rfl

theorem State.lists_putPort_same (p : Nat) (q : Port) : State.lists p (s.putPort p q) = (q.entries, q.outside) := by
  rw [State.lists, State.port_putPort_same]

theorem State.lists_putPort_other {p r : Nat} (q : Port) (h : r ≠ p) : State.lists r (s.putPort p q) = State.lists r s := by
  rw [State.lists, State.port_putPort_other s q h, State.lists]

theorem State.lists_makeHead (p r : Nat) (e : Entry) (t : Nat) : State.lists r (s.makeHead p e t) = State.lists r s := by
  have put (q : Port) (h : (q.entries, q.outside) = State.lists p s) : State.lists r (s.putPort p q) = State.lists r s := by
    by_cases same : r = p
    · rw [same, State.lists_putPort_same, h]
    · exact State.lists_putPort_other s q same
  exact State.keeps_ite (State.lists r) (put _ rfl) (put _ rfl)

/-- Entry e joins port p, counted where a hazard holds it back, and at the head of its leaf where that was empty. -/
def State.joins (p : Nat) (e : Entry) (counts wakes : Bool) (tags : Tbl Nat) (start : Nat) : State :=
  let s := if counts then s.bump Reg.hazardWaits else s
  let s := s.putPort p { s.port p with entries := (s.port p).entries ++ [e], svcTag := tags }
  if wakes then s.makeHead p e start else s

theorem State.enter_joins (p : Nat) (e : Entry) : ∃ (x : State) (e' : Entry) (counts wakes : Bool) (tags : Tbl Nat) (start : Nat),
    e'.id = e.id ∧ (∀ r, x.port r = s.port r) ∧ s.enter p e = x.joins p e' counts wakes tags start := by
  unfold State.enter
  cases meterRow p e.svc e.i with
  | none => exact ⟨s, { e with color := 0, cyc := s.now }, _, _, _, _, rfl, fun _ => rfl, rfl⟩
  | some m => exact ⟨_, { e with color := (s.metered m e.payload).2, cyc := _ }, _, _, _, _, rfl, State.port_metered s m _, rfl⟩

/-- An entry that enters joins its port at the end; the other ports' lists stand. -/
theorem State.lists_enter (p : Nat) (e : Entry) : (∃ e' : Entry, e'.id = e.id ∧
    State.lists p (s.enter p e) = ((s.port p).entries ++ [e'], (s.port p).outside)) ∧
    ∀ r, r ≠ p → State.lists r (s.enter p e) = State.lists r s := by
  obtain ⟨x, e', counts, wakes, tags, start, id, same, joins⟩ := State.enter_joins s p e
  have counted (r : Nat) : (if counts then x.bump Reg.hazardWaits else x).port r = s.port r :=
    State.keeps_ite (fun t => t.port r) (same r) (same r)
  rw [joins, State.joins]
  dsimp only
  generalize (if counts then x.bump Reg.hazardWaits else x) = y at counted
  have put (r : Nat) (q : Port) : State.lists r (if wakes then (y.putPort p q).makeHead p e' start else y.putPort p q) =
      State.lists r (y.putPort p q) := State.keeps_ite (State.lists r) (State.lists_makeHead _ _ _ _ _) rfl
  refine ⟨⟨e', id, ?_⟩, fun r other => ?_⟩
  · rw [put, State.lists_putPort_same, counted]
  · rw [put, State.lists_putPort_other y _ other, State.lists, counted, State.lists]

theorem State.lists_renewHeads (p r : Nat) : State.lists r (s.renewHeads p) = State.lists r s := by
  refine State.keeps_each (State.lists r) _ _ _ (fun s kh => State.keeps_ite (State.lists r) rfl ?_)
  dsimp only
  split
  · exact State.lists_makeHead _ _ _ _ _
  · by_cases same : r = p
    · rw [same, State.lists_putPort_same, State.lists]
    · exact State.lists_putPort_other s _ same

/-- Entries that find room at last bring no number that was not there. -/
theorem State.noEntry_admitOutside (r : Nat) {p id : Nat} (h : State.noEntry p id s) : State.noEntry p id (s.admitOutside r) := by
  by_cases same : r = p
  · subst same
    refine State.each_preserves (State.noEntry r id) _ _ (fun t e mem none => ?_) s h
    have differs : e.id ≠ id := h e (List.mem_append_right _ mem)
    dsimp only
    split
    · obtain ⟨e', id', lists⟩ := (State.lists_enter (t.putPort r { t.port r with
        outside := (t.port r).outside.filter (fun x => x.id != e.id) }) r e).1
      rw [State.port_putPort_same] at lists
      intro x mem
      have split : x ∈ ((t.port r).entries ++ [e']) ++ (t.port r).outside.filter (fun x => x.id != e.id) := by
        have all := congrArg (fun l : List Entry × List Entry => l.1 ++ l.2) lists
        dsimp only [State.lists] at all
        rw [← all]
        exact mem
      rcases List.mem_append.mp split with entries | outside
      · rcases List.mem_append.mp entries with old | new
        · exact none x (List.mem_append_left _ old)
        · rw [List.mem_singleton.mp new, id']
          exact differs
      · exact none x (List.mem_append_right _ (List.mem_filter.mp outside).1)
    · exact none
  · refine State.noEntry_of_lists (State.keeps_each (State.lists p) _ _ _ (fun t e => ?_)) h
    exact State.keeps_ite (State.lists p) (((State.lists_enter _ r e).2 p (Ne.symm same)).trans
      (State.lists_putPort_other t _ (Ne.symm same))) rfl

/-- The entries that are taken out of a port are gone from it. -/
theorem State.noEntry_removeEntries (p id : Nat) : State.noEntry p id (s.removeEntries p (fun x => x.id == id)) := by
  have put : State.noEntry p id (s.putPort p { s.port p with
      entries := (s.port p).entries.filter (fun e => !(e.id == id)), outside := (s.port p).outside.filter (fun e => !(e.id == id)) }) := by
    intro x mem
    rw [State.port_putPort_same] at mem
    rcases List.mem_append.mp mem with m | m <;> simpa using (List.mem_filter.mp m).2
  have admitted := State.noEntry_admitOutside _ p (State.noEntry_of_lists (State.lists_renewHeads _ p p) put)
  unfold State.removeEntries
  dsimp only
  split
  · exact State.each_preserves (State.noEntry p id) _ _ (fun t r _ h => State.noEntry_admitOutside t r h) _ admitted
  · exact admitted

/-! #### The grant -/

/-- What a grant changes in the scheduler. -/
def Footprint.granted : Footprint := Footprint.queued.plus [Reg.leafGranted] []

theorem State.frame_take (k b n : Nat) {f : Footprint} (h : Part.flow ∈ f.parts) : (s.take k b n).outside f = s.outside f :=
  State.outside_putBucket _ _ _ _ h

theorem State.frame_charge (k r b n : Nat) {f : Footprint} (h : Part.flow ∈ f.parts) : (s.charge k r b n).outside f = s.outside f :=
  State.outside_ite _ rfl (State.frame_take s _ _ _ h)

theorem State.frame_sampleGrant (p : Nat) (e : Entry) {f : Footprint} (h : Part.flow ∈ f.parts) :
    (s.sampleGrant p e).outside f = s.outside f :=
  State.outside_each _ _ _ _ (fun s j => State.outside_ite _ (by simp [State.outside, Footprint.keep, h]) rfl)

theorem State.frame_granted (p : Nat) (e : Entry) {f : Footprint} (h : Footprint.granted.le f = true) :
    (s.granted p e).outside f = s.outside f := by
  refine State.outside_le h ?_
  have port (x : State) (q : Port) : (x.putPort p q).outside .granted = x.outside .granted :=
    State.outside_putPort _ _ _ _ (by decide) (.inr (by decide))
  have charge (x : State) (k r b n : Nat) : (x.charge k r b n).outside .granted = x.outside .granted :=
    State.frame_charge x k r b n (by decide)
  unfold State.granted
  dsimp only
  rw [State.frame_removeEntries _ _ _ (by decide), State.frame_sampleGrant _ _ _ (by decide)]
  have noted (q : Port) (n r : Nat) : ((s.putPort p q).bump Reg.leafGranted r n).outside .granted = s.outside .granted :=
    (State.outside_bump _ _ _ _ _ (by decide)).trans (port s q)
  refine State.outside_ite _ (noted _ _ _) (State.outside_ite _ ((State.frame_take _ _ _ _ (by decide)).trans ?_) ?_)
  · rw [charge, charge, charge, State.refill, State.outside_putBucket _ _ _ _ (by decide), port, noted]
  · rw [charge, charge, charge, State.refill, State.outside_putBucket _ _ _ _ (by decide), port, noted]

end

end Sys2Proof.Machine

namespace Sys2Proof.Machine

section
variable {s : State} (awake : s.awake = true) (p : Fin 10) (cyc : Fin 128)
include awake

theorem exec_schedulerGrant_awake : exec (.schedulerGrant ⟨p, cyc⟩) s = .next (s.after
    ((s.atCycle (max s.clock.sub cyc.val)).grant p.val)) := by
  rw [exec_schedulerGrant, execSchedulerGrant]
  exact act_of_awake s _ awake

end

/-- The pick of a port: before the cut that of R227, from it that of R246. -/
def State.pick (u : State) (p : Nat) : Option Entry :=
  if u.cutPassed then (u.chooseAtCut p).filter (fun e => u.portTakes p e) else u.chooseGrant p (u.portTakes p)

theorem State.grant_none {u : State} {p : Nat} (h : u.pick p = none) : u.grant p = u := by
  unfold State.grant
  dsimp only
  rw [← State.pick, h]

theorem State.grant_some {u g : State} {p : Nat} {e : Entry} (h : u.pick p = some e)
    (hg : g = ((u.announceFirst e).granted p e).leave p e) :
    u.grant p = if g.cutPassed = true ∧ p < 8 then g.sendFinal p else g := by
  unfold State.grant
  dsimp only
  rw [← State.pick, h]
  dsimp only
  rw [← hg]
  exact if_congr (by simp) rfl rfl

/-- A durability word that is granted leaves as a write of the host's memory, and takes nothing else with it. -/
theorem State.dword_granted (s : State) {e : Entry} {n addr v : Nat} (work : e.work = .dword n addr v) :
    (((s.announceFirst e).granted 9 e).leave 9 e).outbox = s.outbox ++ [.hostWrite addr (le 8 v)] ∧
    State.noEntry 9 e.id (((s.announceFirst e).granted 9 e).leave 9 e) ∧
    (((s.announceFirst e).granted 9 e).leave 9 e).outside (Footprint.granted.plus [] [.outbox]) =
      s.outside (Footprint.granted.plus [] [.outbox]) := by
  have announced : s.announceFirst e = s := by
    rw [State.announceFirst, work]
    rfl
  have leaves (x : State) : x.leave 9 e = x.emit (.hostWrite addr (le 8 v)) := by rw [State.leave, work]
  have frame := State.frame_granted s 9 e (f := .granted) (by decide)
  have none : State.noEntry 9 e.id (s.granted 9 e) := by
    unfold State.granted
    exact State.noEntry_removeEntries _ 9 e.id
  rw [announced, leaves]
  generalize s.granted 9 e = g at frame none
  refine ⟨?_, none, ?_⟩
  · exact congrArg (· ++ [Emit.hostWrite addr (le 8 v)]) (State.outbox_of_outside frame (by decide))
  · rw [State.outside_emit _ _ _ (by decide)]
    exact State.outside_le (by decide) frame

/-- An eligible head: no earlier entry holds it back, and outside service 7 its leaf and its gate let it go. -/
theorem State.eligible_spec {s : State} {p : Nat} {e : Entry} {h : Head} (may : s.eligible p e h = true) : s.hazard p e = false ∧
    (e.svc ≠ 7 → s.leafFlows (leafRow p e.svc e.i) = true ∧ s.gateLets p e.svc (s.charged p e.payload) = true) := by
  unfold State.eligible at may
  obtain ⟨clear, flows⟩ := (Bool.and_eq_true _ _).mp may
  refine ⟨by simpa using clear, fun other => ?_⟩
  rw [beq_false_of_ne other, Bool.false_or] at flows
  simp only [Bool.and_eq_true] at flows
  exact ⟨flows.1.1.1.1, flows.1.1.2⟩

/-- Settles O34: the pick is an eligible head that can be taken (`State.chooseGrant_spec`, `State.eligible_spec`), from the cut
service 7 or a write (`State.chooseAtCut_spec`), and what is granted leaves its port. -/
theorem grantsAreEligible : Obligations.GrantsAreEligible := by
  unfold Obligations.GrantsAreEligible
  intro p cyc e s u g awake hu hg
  have same : u.cutPassed = s.cutPassed := by rw [hu]; rfl
  have before (uncut : s.cutPassed = false) : u.pick p = u.chooseGrant p (u.portTakes p) :=
    if_neg (by rw [same, uncut]; decide)
  have atCut (cut : s.cutPassed = true) : u.pick p = (u.chooseAtCut p).filter (fun e => u.portTakes p e) :=
    if_pos (same.trans cut)
  have idles (none : u.pick p = none) : exec (.schedulerGrant ⟨p, cyc⟩) s = .next (s.after u) := by
    rw [exec_schedulerGrant_awake awake, ← hu, State.grant_none none]
  have grants (chosen : u.pick p = some e) : exec (.schedulerGrant ⟨p, cyc⟩) s = .next (s.after
      (if g.cutPassed = true ∧ p.val < 8 then g.sendFinal p else g)) := by
    rw [exec_schedulerGrant_awake awake, ← hu, State.grant_some chosen hg]
  refine ⟨fun uncut none => idles ((before uncut).trans none), fun uncut chosen => ?_, fun cut host => ?_, fun cut none => ?_,
    fun cut chosen stays => ?_, fun cut chosen takes => ?_⟩
  · obtain ⟨x, mem, shaped⟩ := State.chooseGrant_spec u chosen
    obtain ⟨entry, takes, may⟩ := State.candidates_spec u mem
    obtain ⟨clear, flows⟩ := State.eligible_spec may
    have effect := grants ((before uncut).trans chosen)
    refine ⟨effect, entry, takes, clear, fun other => ⟨(flows other).1, (flows other).2, (shaped other).1, (shaped other).2⟩,
      fun n addr v host work => ?_⟩
    obtain ⟨out, gone, frame⟩ := State.dword_granted u work
    rw [host] at hg
    rw [if_neg (by rw [host]; exact fun h => absurd h.2 (by decide))] at effect
    refine ⟨_, effect, ?_, ?_, State.changesOnly_after _ _ ?_⟩
    · rw [hg]
      exact out.trans (by rw [hu]; rfl)
    · rw [hg]
      exact gone
    · rw [hg]
      have timed : u.outside ⟨[], [.clock]⟩ = s.outside ⟨[], [.clock]⟩ := by
        rw [hu, State.atCycle, State.outside_clock _ _ (by decide)]
      exact (State.outside_le (by decide) frame).trans (State.outside_le (by decide) timed)
  · refine idles ((atCut cut).trans ?_)
    rw [State.chooseAtCut, if_pos host]
    rfl
  · exact idles ((atCut cut).trans (by rw [none]; rfl))
  · exact idles ((atCut cut).trans (by rw [chosen, Option.filter_some, stays]; rfl))
  · exact ⟨State.chooseAtCut_spec u p.isLt chosen,
      grants ((atCut cut).trans (by rw [chosen, Option.filter_some, takes]; rfl))⟩

end Sys2Proof.Machine

namespace Sys2Proof.Machine

/-! ### The end of a seal (R68 to R73, R498) -/

/-- What the answer of a request may change, by whatever path it came. -/
def Footprint.answer : Footprint := Footprint.request.plus [] [.lexicon]

section
variable (s : State) {f : Footprint}

theorem State.frame_answer (who : Requester) (a : Abort) (k o : Nat) (b : List Byte) (h : Footprint.answer.le f = true) :
    (s.answer who a k o b).outside f = s.outside f := by
  refine State.outside_le h ?_
  have counted : (if a = .ok then s else s.bump Reg.lexAborts).outside .answer = s.outside .answer :=
    State.outside_ite _ rfl (State.outside_bump _ _ _ _ _ (by decide))
  have lexicon (x : State) (l : Lexicon → Lexicon) : (x.modLexicon l).outside .answer = x.outside .answer :=
    State.outside_modLexicon _ _ _ (by decide) (by decide)
  unfold State.answer
  dsimp only
  generalize (if a = .ok then s else s.bump Reg.lexAborts) = x at counted
  rw [← counted]
  cases who with
  | direct p => exact State.outside_emit _ _ _ (by decide)
  | port i n m =>
    refine State.outside_ite _ rfl ?_
    unfold State.portDone
    exact State.outside_ite _ ((State.frame_raise _ _ _ _ (by decide)).trans (lexicon x _)) (lexicon x _)
  | frame pr src seq o =>
    refine State.outside_ite _ ?_ (lexicon x _)
    rw [State.outside_bump _ _ _ _ _ (by decide), State.outside_emit _ _ _ (by decide)]
    exact lexicon x _
  | config p e => exact lexicon x _

theorem State.frame_finish (who : Requester) (r : Nat) (a : Abort) (h : Footprint.answer.le f = true) :
    (s.finish who r a).outside f = s.outside f :=
  (State.frame_answer _ who a _ _ _ h).trans (State.outside_le h (State.outside_modLexicon _ _ _ (by decide) (by decide)))

/-- The image is in the state that it is set to. -/
theorem State.image_setImage (v : ImageState) : (s.setImage v).image = v := by
  unfold State.setImage
  split
  · assumption
  · have raised : ((s.set Reg.imageState 0 v.code).raise 0 0x011 0).image = v := by
      rw [State.image_of_outside (State.event_raise _ _ _ _) (by decide), State.image, State.get_set_same]
      cases v <;> rfl
    split
    · exact (State.image_of_outside (State.event_pulse _ _) (by decide)).trans raised
    · exact raised

end

section
variable (s : State)

/-- The words that the write of a seal corrected and wrote again are counted, and the job is over. -/
def State.sealNoted (corrected rewrites : Nat) : State :=
  ((s.bump Reg.keepEccCorrected 0 corrected).bump Reg.keepRewrites 0 rewrites).modKeep (fun k => { k with job := none })

/-- The device is quiet after the seal of the Full Stop. -/
def State.stopQuiet : State := { s with stop := { s.stop with quiet := true } }

/-- A seal whose write failed (R73). -/
def State.sealFailed (p : SealFor) : State :=
  match p with
  | .commit who => (s.raise 0 0x023 0).finish who Reg.imageCommand .storeFail
  | .semicolon => (s.raise 0 0x023 0).keepFails
  | .extent _ _ who => ((s.raise 0 0x023 0).finish who Reg.extValid .storeFail).keepFails
  | .fullStop => (s.raise 0 0x023 0).stopQuiet

/-- The image as the seal of its COMMIT opens it, before the request is answered. -/
def State.opensImage : State :=
  ((((s.set Reg.epoch 0 1).modPersist (fun p => { p with dirty := [], closing := [], lastStart := s.clauseNow })).set
    Reg.windowOpen 0 1).setImage .opened).govUpdateAll

/-- A seal that is complete takes its effect (R68, R498). -/
def State.sealTaken (j : SealJob) : State :=
  match j.purpose with
  | .commit who => ((s.writeSeal j).opensImage.finish who Reg.imageCommand .ok).pairTry
  | .semicolon => (s.writeSeal j).semicolonDone j.intent.seq
  | .extent r b who => ((s.writeSeal j).modKeep (fun k => { k with extNext := k.extNext ++ [(r, b)] })).finish who Reg.extValid .ok
  | .fullStop => (s.writeSeal j).stopQuiet

theorem State.sealEnds_eq {j : SealJob} (job : s.keep.job = some j) (corrected rewrites : Nat) (failed : Bool) :
    s.sealEnds corrected rewrites failed = (if failed then (s.sealNoted corrected rewrites).sealFailed j.purpose
      else (s.sealNoted corrected rewrites).sealTaken j).nextWaitingSeal := by
  obtain ⟨p, b, i⟩ := j
  unfold State.sealEnds
  rw [job]
  dsimp only
  rw [← State.sealNoted]
  generalize s.sealNoted corrected rewrites = n
  cases failed
  · rw [if_neg Bool.false_ne_true, if_neg Bool.false_ne_true]
    cases p <;> rfl
  · rw [if_pos rfl, if_pos rfl]
    cases p <;> rfl

theorem State.config_stopQuiet : s.stopQuiet.lexicon.config = s.lexicon.config := rfl

theorem State.keep_stopQuiet : s.stopQuiet.keep = s.keep := rfl

theorem State.frame_stopQuiet {f : Footprint} (h : Part.stop ∈ f.parts) : s.stopQuiet.outside f = s.outside f :=
  State.outside_stop _ _ h

/-! #### What the two outcomes leave of the Keep store and of a SIGNED_CONFIG -/

/-- What a seal that fails may change. -/
def Footprint.sealFailed : Footprint := Footprint.answer.plus Footprint.fault.regs [.stop, .persist, .blobs]

theorem State.frame_keepFails {f : Footprint} (h : Footprint.fault.le f = true) : s.keepFails.outside f = s.outside f :=
  State.outside_ite _ (State.frame_faultImage s _ h) rfl

theorem State.frame_sealFailed (p : SealFor) {f : Footprint} (h : Footprint.sealFailed.le f = true) :
    (s.sealFailed p).outside f = s.outside f := by
  refine State.outside_le h ?_
  have raised : (s.raise 0 0x023 0).outside .sealFailed = s.outside .sealFailed := State.frame_raise _ _ _ _ (by decide)
  cases p with
  | commit who => exact (State.frame_finish _ _ _ _ (by decide)).trans raised
  | semicolon => exact (State.frame_keepFails _ (by decide)).trans raised
  | extent r b who => exact (State.frame_keepFails _ (by decide)).trans ((State.frame_finish _ _ _ _ (by decide)).trans raised)
  | fullStop => exact (State.frame_stopQuiet _ (by decide)).trans raised

theorem State.config_sealFailed (p : SealFor) : (s.sealFailed p).lexicon.config = s.lexicon.config := by
  have raised : (s.raise 0 0x023 0).lexicon.config = s.lexicon.config := State.config_raise _ _ _ _
  have fails (x : State) : x.keepFails.lexicon.config = x.lexicon.config :=
    State.config_of_outside (State.frame_keepFails x (f := .fault) (by decide)) (by decide)
  cases p with
  | commit who => rw [State.sealFailed, State.config_finish, raised]
  | semicolon => rw [State.sealFailed, fails, raised]
  | extent r b who => rw [State.sealFailed, fails, State.config_finish, raised]
  | fullStop => rw [State.sealFailed, State.config_stopQuiet, raised]

/-- What the opening of the image may change. -/
def Footprint.opens : Footprint := Footprint.event.plus
  [Reg.epoch, Reg.windowOpen, Reg.imageState, Reg.govDirty, Reg.govState] [.persist]

theorem State.frame_opensImage {f : Footprint} (h : Footprint.opens.le f = true) : s.opensImage.outside f = s.outside f := by
  refine State.outside_le h ?_
  rw [State.opensImage, State.frame_govUpdateAll _ (by decide), State.frame_setImage _ _ (by decide), State.outside_set _ _ _ _ _ (by decide),
    State.outside_modPersist _ _ _ (by decide), State.outside_set _ _ _ _ _ (by decide)]

/-- What the end of a Semicolon may change. -/
def Footprint.semicolonDone : Footprint := Footprint.event.plus
  [Reg.semicolonCount, Reg.ckptPersisted, Reg.semicolonState, Reg.govDirty, Reg.govState] [.persist]

theorem State.frame_semicolonDone (seq : Nat) {f : Footprint} (h : Footprint.semicolonDone.le f = true) :
    (s.semicolonDone seq).outside f = s.outside f := by
  refine State.outside_le h ?_
  have counted (b : List Byte) : (((s.bump Reg.semicolonCount).recordMgmt 0 0x22 0 0x027 b).pulse 0x58).outside .semicolonDone =
      s.outside .semicolonDone := by
    rw [State.frame_pulse _ _ (by decide), State.frame_recordMgmt _ _ _ _ _ _ (by decide), State.outside_bump _ _ _ _ _ (by decide)]
  unfold State.semicolonDone
  dsimp only
  rw [State.frame_govUpdateAll _ (by decide), State.frame_withdraw _ _ _ (by decide), State.outside_set _ _ _ _ _ (by decide),
    State.outside_each _ _ _ _ (fun s c => State.outside_set _ _ _ _ _ (by decide)), State.outside_modPersist _ _ _ (by decide)]
  exact counted _

/-- What a seal that is complete may change, the record that it writes apart. -/
def Footprint.sealTaken : Footprint := Footprint.mirrors.plus (Footprint.opens.regs ++ Footprint.semicolonDone.regs) [.lexicon, .persist, .stop]

/-- After the seal is written only an extent's adds to the Keep store. -/
theorem State.sealTaken_effect (j : SealJob) :
    (s.sealTaken j).keep = (match j.purpose with
      | .extent r b _ => { (s.writeSeal j).keep with extNext := (s.writeSeal j).keep.extNext ++ [(r, b)] }
      | _ => (s.writeSeal j).keep) ∧
    (s.sealTaken j).lexicon.config = (s.writeSeal j).lexicon.config ∧
    (s.sealTaken j).outside (Footprint.sealTaken.plus [] [.keep]) = (s.writeSeal j).outside (Footprint.sealTaken.plus [] [.keep]) := by
  obtain ⟨p, b, i⟩ := j
  generalize written : s.writeSeal ⟨p, b, i⟩ = w
  cases p with
  | commit who =>
    have taken : s.sealTaken ⟨.commit who, b, i⟩ = (w.opensImage.finish who Reg.imageCommand .ok).pairTry := by rw [← written]; rfl
    have frame : (s.sealTaken ⟨.commit who, b, i⟩).outside .sealTaken = w.outside .sealTaken := by
      rw [taken, State.frame_pairTry _ (by decide), State.frame_finish _ _ _ _ (by decide), State.frame_opensImage _ (by decide)]
    refine ⟨State.keep_of_outside frame (by decide), ?_, State.outside_le (by decide) frame⟩
    rw [taken, State.config_of_outside (State.frame_pairTry _ (f := .mirrors) (by decide)) (by decide), State.config_finish,
      State.config_of_outside (State.frame_opensImage _ (f := .opens) (by decide)) (by decide)]
  | semicolon =>
    have taken : s.sealTaken ⟨.semicolon, b, i⟩ = w.semicolonDone i.seq := by rw [← written]; rfl
    have frame : (s.sealTaken ⟨.semicolon, b, i⟩).outside .semicolonDone = w.outside .semicolonDone := by
      rw [taken, State.frame_semicolonDone _ _ (by decide)]
    exact ⟨State.keep_of_outside frame (by decide), State.config_of_outside frame (by decide), State.outside_le (by decide) frame⟩
  | extent r x who =>
    have taken : s.sealTaken ⟨.extent r x who, b, i⟩ =
      (w.modKeep (fun k => { k with extNext := k.extNext ++ [(r, x)] })).finish who Reg.extValid .ok := by rw [← written]; rfl
    have frame (y : State) : (y.finish who Reg.extValid .ok).outside .answer = y.outside .answer := State.frame_finish _ _ _ _ (by decide)
    rw [taken]
    refine ⟨State.keep_of_outside (frame _) (by decide), State.config_finish _ _ _ _, ?_⟩
    exact (State.outside_le (by decide) (frame _)).trans (State.outside_keep _ _ (by decide))
  | fullStop =>
    have taken : s.sealTaken ⟨.fullStop, b, i⟩ = w.stopQuiet := by rw [← written]; rfl
    rw [taken]
    exact ⟨State.keep_stopQuiet w, State.config_stopQuiet w, State.frame_stopQuiet w (by decide)⟩

end
end Sys2Proof.Machine

namespace Sys2Proof.Machine

/-! #### The record of a seal, and the seal that starts next -/

theorem Keep.bank_putBank (k : Keep) (b : Nat) (x : Bank) : (k.putBank b x).bank b = x := by
  unfold Keep.putBank Keep.bank
  split <;> rfl

theorem Keep.putBank_waiting (k : Keep) (b : Nat) (x : Bank) :
    (k.putBank b x).waiting = k.waiting ∧ (k.putBank b x).job = k.job ∧ (k.putBank b x).extNext = k.extNext := by
  unfold Keep.putBank
  split <;> exact ⟨rfl, rfl, rfl⟩

section
variable (s : State)

/-- The bank that a seal's write leaves. -/
def State.sealedBank (j : SealJob) : Bank :=
  let ack := if j.intent.kind = 4 then s.stop.saveAck else 0
  let ext := match j.purpose with | .extent r b _ => some (r, b) | _ => none
  let content := s.bankContent ext (j.intent.kind == 4)
  ⟨some j.intent, content, some ⟨j.intent.kind, j.intent.seq, j.intent.epoch, s.carrierCount, fromLe (s.blob Reg.imageId), s.segments,
    ack, s.sealHeader j content ack⟩, true⟩

theorem State.sealedBank_complete (j : SealJob) : ∃ r, (s.sealedBank j).complete = some r ∧ r.seq = j.intent.seq ∧
    r.kind = j.intent.kind ∧ r.epoch = j.intent.epoch ∧ r.carriers = s.get Reg.activeCarriers :=
  ⟨_, if_pos ⟨rfl, rfl⟩, rfl, rfl, rfl, rfl⟩

theorem State.writeSeal_eq (j : SealJob) : ∃ b, s.writeSeal j =
    ((((s.modKeep (fun k => k.putBank j.bank (s.sealedBank j))).set Reg.sealSequence 0 j.intent.seq).set Reg.keepBank 0 j.bank).setBlob
      Reg.sealRecord 0 b).bump Reg.signatures := by
  unfold State.writeSeal
  exact ⟨_, rfl⟩

/-- The write of a seal ends: its bank, the two registers that show it, and its record. -/
theorem State.writeSeal_effect (j : SealJob) : (s.writeSeal j).keep = s.keep.putBank j.bank (s.sealedBank j) ∧
    (s.writeSeal j).get Reg.sealSequence = j.intent.seq ∧ (s.writeSeal j).get Reg.keepBank = j.bank ∧
    (s.writeSeal j).outside ⟨[Reg.sealSequence, Reg.keepBank, Reg.signatures], [.keep, .blobs]⟩ =
      s.outside ⟨[Reg.sealSequence, Reg.keepBank, Reg.signatures], [.keep, .blobs]⟩ := by
  obtain ⟨b, eq⟩ := State.writeSeal_eq s j
  rw [eq]
  generalize kept : s.modKeep (fun k => k.putBank j.bank (s.sealedBank j)) = w
  have keep : w.keep = s.keep.putBank j.bank (s.sealedBank j) := by rw [← kept]; rfl
  have frame : w.outside ⟨[], [.keep]⟩ = s.outside ⟨[], [.keep]⟩ := by rw [← kept]; exact State.outside_modKeep _ _ _ (by decide)
  refine ⟨keep, ?_, ?_, ?_⟩
  · rw [State.bump, State.get_set_register _ _ _ _ (by decide)]
    refine (State.get_set_register _ _ _ _ (by decide)).trans ?_
    exact State.get_set_same _ _ _ _
  · rw [State.bump, State.get_set_register _ _ _ _ (by decide)]
    exact State.get_set_same _ _ _ _
  · rw [State.outside_bump _ _ _ _ _ (by decide), State.outside_setBlob _ _ _ _ _ (by decide), State.outside_set _ _ _ _ _ (by decide),
      State.outside_set _ _ _ _ _ (by decide)]
    exact State.outside_le (by decide) frame

theorem State.nextWaitingSeal_none (h : s.keep.waiting = []) : s.nextWaitingSeal = s := by
  rw [State.nextWaitingSeal, h]

theorem State.nextWaitingSeal_next {p : SealFor} {rest : List SealFor} (h : s.keep.waiting = p :: rest) :
    s.nextWaitingSeal.keep.waiting = rest ∧ (∃ k, s.nextWaitingSeal.keep.job = some k ∧ k.purpose = p) ∧
    s.nextWaitingSeal.lexicon.config = s.lexicon.config := by
  have next : s.nextWaitingSeal = (s.modKeep (fun k => { k with waiting := rest })).startSeal p := by rw [State.nextWaitingSeal, h]
  rw [next]
  generalize started : s.modKeep (fun k => { k with waiting := rest }) = x
  have waiting : x.keep.waiting = rest := by rw [← started]; rfl
  have config : x.lexicon.config = s.lexicon.config := by rw [← started]; rfl
  exact ⟨(Keep.putBank_waiting _ _ _).1.trans waiting, ⟨_, rfl, rfl⟩, config⟩

/-- An attestation that waited for the seal takes its body. -/
theorem State.frame_attestBegins : s.attestBegins.outside ⟨[], [.security]⟩ = s.outside ⟨[], [.security]⟩ := by
  unfold State.attestBegins
  split
  · exact State.outside_ite _ rfl (State.outside_modSecurity _ _ _ (by decide))
  · rfl

end
end Sys2Proof.Machine

namespace Sys2Proof.Machine

/-! #### The effects of each outcome -/

section
variable (s : State)

theorem State.opensImage_effect : s.opensImage.image = .opened ∧ s.opensImage.get Reg.epoch = 1 ∧ s.opensImage.get Reg.windowOpen = 1 ∧
    s.opensImage.persist.dirty = [] := by
  unfold State.opensImage
  generalize seen : (((s.set Reg.epoch 0 1).modPersist (fun p => { p with dirty := [], closing := [], lastStart := s.clauseNow })).set
    Reg.windowOpen 0 1) = x
  have epoch : x.get Reg.epoch = 1 := by
    rw [← seen, State.get_set_register _ _ _ _ (by decide)]
    exact State.get_set_same _ _ _ _
  have window : x.get Reg.windowOpen = 1 := by rw [← seen, State.get_set_same]
  have dirty : x.persist.dirty = [] := by rw [← seen]; rfl
  have moved : (x.setImage .opened).outside (Footprint.event.plus [Reg.imageState] []) = x.outside (Footprint.event.plus [Reg.imageState] []) :=
    State.frame_setImage _ _ (by decide)
  have governed : (x.setImage .opened).govUpdateAll.outside .governor = (x.setImage .opened).outside .governor :=
    State.frame_govUpdateAll _ (by decide)
  refine ⟨?_, ?_, ?_, ?_⟩
  · rw [State.image_of_outside governed (by decide), State.image_setImage]
  · rw [State.get_of_outside governed _ _ (by decide), State.get_of_outside moved _ _ (by decide), epoch]
  · rw [State.get_of_outside governed _ _ (by decide), State.get_of_outside moved _ _ (by decide), window]
  · rw [State.persist_of_outside governed (by decide), State.persist_of_outside moved (by decide), dirty]

/-- The Semicolon is over, after its record and its pulse. -/
def State.semicolonOver : State :=
  ((((s.modPersist (fun p => { p with running := false, count := 0, holdLeft := p.holdLeft - 1 })).each s.activeCarriers
    (fun s c => s.set Reg.ckptPersisted c 0)).set Reg.semicolonState 0 0).withdraw 0 0x022).govUpdateAll

theorem State.semicolonOver_effect : s.semicolonOver.persist =
      { s.persist with running := false, count := 0, holdLeft := s.persist.holdLeft - 1 } ∧
    s.semicolonOver.get Reg.semicolonState = 0 := by
  unfold State.semicolonOver
  generalize ended : ((s.modPersist (fun p => { p with running := false, count := 0, holdLeft := p.holdLeft - 1 })).each s.activeCarriers
    (fun s c => s.set Reg.ckptPersisted c 0)).set Reg.semicolonState 0 0 = y
  have persist : y.persist = { s.persist with running := false, count := 0, holdLeft := s.persist.holdLeft - 1 } := by
    rw [← ended]
    exact State.keeps_each (fun t => t.persist) _ _ _ (fun s c => rfl)
  have state : y.get Reg.semicolonState = 0 := by rw [← ended, State.get_set_same]
  have rest : ((y.withdraw 0 0x022).govUpdateAll).outside .governor = y.outside .governor := by
    rw [State.frame_govUpdateAll _ (by decide), State.frame_withdraw _ _ _ (by decide)]
  exact ⟨(State.persist_of_outside rest (by decide)).trans persist, (State.get_of_outside rest _ _ (by decide)).trans state⟩

theorem State.semicolonDone_eq (seq : Nat) : ∃ b, s.semicolonDone seq =
    (((s.bump Reg.semicolonCount).recordMgmt 0 0x22 0 0x027 b).pulse 0x58).semicolonOver := by
  unfold State.semicolonDone
  exact ⟨_, rfl⟩

/-- A Semicolon whose seal is complete is over. -/
theorem State.semicolonDone_effect (seq : Nat) : (s.semicolonDone seq).persist.running = false ∧ (s.semicolonDone seq).persist.count = 0 ∧
    (s.semicolonDone seq).get Reg.semicolonState = 0 ∧ (s.semicolonDone seq).persist.holdLeft = s.persist.holdLeft - 1 ∧
    (s.semicolonDone seq).image = s.image := by
  have whole := State.image_of_outside (State.frame_semicolonDone s seq (f := .semicolonDone) (by decide)) (by decide)
  obtain ⟨b, eq⟩ := State.semicolonDone_eq s seq
  have recorded : (((s.bump Reg.semicolonCount).recordMgmt 0 0x22 0 0x027 b).pulse 0x58).persist = s.persist := by
    rw [State.persist_of_outside (State.event_pulse _ _) (by decide), State.persist_of_outside (State.event_recordMgmt _ _ _ _ _ _) (by decide)]
    rfl
  rw [eq] at whole ⊢
  generalize ((s.bump Reg.semicolonCount).recordMgmt 0 0x22 0 0x027 b).pulse 0x58 = x at recorded whole
  obtain ⟨persist, state⟩ := State.semicolonOver_effect x
  rw [persist, recorded]
  exact ⟨rfl, rfl, state, rfl, whole⟩

theorem State.faultImage_effect (cause : Nat) : (s.faultImage cause).image = .fault ∧
    (s.faultImage cause).get Reg.faultCause = cause ∧ (s.faultImage cause).get Reg.windowOpen = 0 := by
  have told : (s.faultImage cause).outside ⟨[], [.blobs]⟩ = (State.modPersist ((((s.set Reg.faultCause 0 cause).setImage .fault).set
      Reg.windowOpen 0 0).set Reg.semicolonState 0 0) (fun p => { p with running := false, trigger := false, sealDue := false, beginDue := none })
      ).outside ⟨[], [.blobs]⟩ := by
    refine State.outside_ite _ ?_ rfl
    rw [State.outside_each _ _ _ _ (fun s _ => State.frame_report s _ _ _ (by decide)), State.frame_report _ _ _ _ (by decide)]
    rfl
  have moved : ((s.set Reg.faultCause 0 cause).setImage .fault).outside (Footprint.event.plus [Reg.imageState] []) =
      (s.set Reg.faultCause 0 cause).outside (Footprint.event.plus [Reg.imageState] []) := State.frame_setImage _ _ (by decide)
  have image := State.image_setImage (s.set Reg.faultCause 0 cause) .fault
  have noted : ((s.set Reg.faultCause 0 cause).setImage .fault).get Reg.faultCause = cause :=
    (State.get_of_outside moved _ _ (by decide)).trans (State.get_set_same _ _ _ _)
  rw [State.image_of_outside told (by decide), State.get_of_outside told _ _ (by decide), State.get_of_outside told _ _ (by decide)]
  generalize (s.set Reg.faultCause 0 cause).setImage .fault = x at image noted
  have closed : (x.set Reg.windowOpen 0 0).outside ⟨[Reg.windowOpen], []⟩ = x.outside ⟨[Reg.windowOpen], []⟩ :=
    State.outside_set _ _ _ _ _ (by decide)
  have shown : ((x.set Reg.windowOpen 0 0).set Reg.semicolonState 0 0).outside ⟨[Reg.windowOpen, Reg.semicolonState], []⟩ =
      x.outside ⟨[Reg.windowOpen, Reg.semicolonState], []⟩ :=
    (State.outside_set _ _ _ _ _ (by decide)).trans (State.outside_le (by decide) closed)
  refine ⟨(State.image_of_outside shown (by decide)).trans image, (State.get_of_outside shown Reg.faultCause 0 (by decide)).trans noted, ?_⟩
  exact (State.get_set_register _ _ _ _ (by decide)).trans (State.get_set_same _ _ _ _)

end

/-! #### The command -/

section
variable {s : State} {j : SealJob} (awake : s.awake = true) (job : s.keep.job = some j) (charged : s.keepLow = false)
  (alone : s.attestSigns = false) (idle : s.lexicon.config = none) (corr rew : Nat)

theorem State.sealNoted_effect (s : State) : (s.sealNoted corr rew).keep = { s.keep with job := none } ∧
    (s.sealNoted corr rew).outside ⟨[Reg.keepEccCorrected, Reg.keepRewrites], [.keep]⟩ =
      s.outside ⟨[Reg.keepEccCorrected, Reg.keepRewrites], [.keep]⟩ := by
  refine ⟨rfl, ?_⟩
  rw [State.sealNoted, State.outside_modKeep _ _ _ (by decide), State.outside_bump _ _ _ _ _ (by decide), State.outside_bump _ _ _ _ _ (by decide)]

include awake job charged alone in
/-- A seal ends, the next that waits starts, and an attestation that waited goes on. -/
theorem exec_sealComplete_ends (failed : Bool) {x : State}
    (hx : x = if failed then (s.sealNoted corr rew).sealFailed j.purpose else (s.sealNoted corr rew).sealTaken j) :
    exec (.sealComplete corr rew failed) s = .next (s.after (x.nextWaitingSeal.attestBegins.runConfig)) := by
  have ends : s.sealReady corr rew failed = x.nextWaitingSeal.attestBegins := by
    rw [State.sealReady, if_neg (by rw [job, charged]; nofun), if_neg (by rw [alone]; decide), State.sealEnds_eq s job, ← hx]
  rw [exec_sealComplete, execSealComplete, act_of_awake s _ awake, ends]

/-- What the attestation that goes on leaves, and a SIGNED_CONFIG that is not under way. -/
theorem State.attestBegins_settled (x : State) (idle : x.lexicon.config = none) :
    x.attestBegins.runConfig.outside ⟨[], [.security]⟩ = x.outside ⟨[], [.security]⟩ := by
  have frame := State.frame_attestBegins x
  rw [State.runConfig_none x.attestBegins ((State.config_of_outside frame (by decide)).trans idle), frame]

end

theorem State.quiet_stopQuiet (s : State) : s.stopQuiet.stop.quiet = true := rfl

section
variable (s : State) (j : SealJob) (corr rew : Nat)

/-- What a seal that is complete leaves of the Keep store and the registers that show it. -/
theorem State.sealTaken_keeps {x : State} (hx : x = (s.sealNoted corr rew).sealTaken j) :
    x.keep.job = none ∧ x.keep.waiting = s.keep.waiting ∧ x.keep.bank j.bank = (s.sealNoted corr rew).sealedBank j ∧
    x.lexicon.config = s.lexicon.config ∧ x.get Reg.sealSequence = j.intent.seq ∧ x.get Reg.keepBank = j.bank ∧
    x.keep.extNext = (match j.purpose with | .extent r b _ => s.keep.extNext ++ [(r, b)] | _ => s.keep.extNext) := by
  obtain ⟨written, seq, bank, stands⟩ := State.writeSeal_effect (s.sealNoted corr rew) j
  obtain ⟨keep, config, frame⟩ := State.sealTaken_effect (s.sealNoted corr rew) j
  obtain ⟨waiting, none, next⟩ := Keep.putBank_waiting (s.sealNoted corr rew).keep j.bank ((s.sealNoted corr rew).sealedBank j)
  have placed := Keep.bank_putBank (s.sealNoted corr rew).keep j.bank ((s.sealNoted corr rew).sealedBank j)
  rw [← written] at waiting none next placed
  obtain ⟨-, counted⟩ := State.sealNoted_effect corr rew s
  have idle : ((s.sealNoted corr rew).writeSeal j).lexicon.config = s.lexicon.config :=
    (State.config_of_outside stands (by decide)).trans (State.config_of_outside counted (by decide))
  rw [← hx] at keep config frame
  generalize (s.sealNoted corr rew).writeSeal j = w at *
  refine ⟨?_, ?_, ?_, config.trans idle, (State.get_of_outside frame _ _ (by decide)).trans seq,
    (State.get_of_outside frame _ _ (by decide)).trans bank, ?_⟩
  · rw [keep]
    cases j.purpose <;> exact none
  · rw [keep]
    cases j.purpose <;> exact waiting
  · rw [keep]
    cases j.purpose <;> exact placed
  · rw [keep]
    cases j.purpose <;> simp only [next] <;> rfl

/-- What a seal whose write failed leaves. -/
theorem State.sealFailed_keeps {x : State} (hx : x = (s.sealNoted corr rew).sealFailed j.purpose) :
    x.keep.job = none ∧ x.keep.waiting = s.keep.waiting ∧ x.lexicon.config = s.lexicon.config ∧
    x.get Reg.sealSequence = s.get Reg.sealSequence := by
  obtain ⟨noted, stands⟩ := State.sealNoted_effect corr rew s
  have config := State.config_sealFailed (s.sealNoted corr rew) j.purpose
  have frame := State.frame_sealFailed (s.sealNoted corr rew) j.purpose (f := .sealFailed) (by decide)
  rw [← hx] at config frame
  have keep : x.keep = { s.keep with job := none } := (State.keep_of_outside frame (by decide)).trans noted
  rw [keep]
  exact ⟨rfl, rfl, config.trans (State.config_of_outside stands (by decide)),
    (State.get_of_outside frame _ _ (by decide)).trans (State.get_of_outside stands _ _ (by decide))⟩

/-- What each purpose of a complete seal comes to. -/
theorem State.sealTaken_purpose {x : State} (hx : x = (s.sealNoted corr rew).sealTaken j) :
    (∀ who, j.purpose = .commit who → x.image = .opened ∧ x.get Reg.epoch = 1 ∧ x.get Reg.windowOpen = 1 ∧ x.persist.dirty = []) ∧
    (j.purpose = .semicolon → x.persist.running = false ∧ x.persist.count = 0 ∧ x.get Reg.semicolonState = 0 ∧
      x.persist.holdLeft = s.persist.holdLeft - 1 ∧ x.image = s.image) ∧
    (j.purpose = .fullStop → x.stop.quiet = true) := by
  obtain ⟨-, stands⟩ := State.sealNoted_effect corr rew s
  obtain ⟨-, -, -, wrote⟩ := State.writeSeal_effect (s.sealNoted corr rew) j
  have persist : ((s.sealNoted corr rew).writeSeal j).persist = s.persist :=
    (State.persist_of_outside wrote (by decide)).trans (State.persist_of_outside stands (by decide))
  have image : ((s.sealNoted corr rew).writeSeal j).image = s.image :=
    (State.image_of_outside wrote (by decide)).trans (State.image_of_outside stands (by decide))
  unfold State.sealTaken at hx
  generalize (s.sealNoted corr rew).writeSeal j = w at *
  refine ⟨fun who purpose => ?_, fun purpose => ?_, fun purpose => ?_⟩
  · rw [purpose] at hx
    obtain ⟨opened, epoch, window, dirty⟩ := State.opensImage_effect w
    have answered : (w.opensImage.finish who Reg.imageCommand .ok).outside .answer = w.opensImage.outside .answer :=
      State.frame_finish _ _ _ _ (by decide)
    have paired : x.outside .mirrors = (w.opensImage.finish who Reg.imageCommand .ok).outside .mirrors := by
      rw [hx]
      exact State.frame_pairTry _ (by decide)
    have frame : x.outside (Footprint.mirrors.plus [] [.lexicon]) = w.opensImage.outside (Footprint.mirrors.plus [] [.lexicon]) :=
      (State.outside_le (by decide) paired).trans (State.outside_le (by decide) answered)
    rw [State.image_of_outside frame (by decide), State.get_of_outside frame _ _ (by decide), State.get_of_outside frame _ _ (by decide),
      State.persist_of_outside frame (by decide)]
    exact ⟨opened, epoch, window, dirty⟩
  · rw [purpose] at hx
    have ended : x = w.semicolonDone j.intent.seq := hx
    rw [ended, ← persist, ← image]
    exact State.semicolonDone_effect w _
  · rw [purpose] at hx
    have stopped : x = w.stopQuiet := hx
    rw [stopped, State.quiet_stopQuiet]

/-- What each purpose of a failed seal comes to. -/
theorem State.sealFailed_purpose {x : State} (hx : x = (s.sealNoted corr rew).sealFailed j.purpose) :
    (∀ p, j.purpose = .commit (.direct p) → x.image = s.image ∧ x.outbox.getLast? = some (.lexAnswer p Abort.storeFail.code [])) ∧
    (j.purpose = .semicolon → s.image = .opened → x.image = .fault ∧ x.get Reg.faultCause = 0x0002 ∧ x.get Reg.windowOpen = 0) ∧
    (j.purpose = .fullStop → x.stop.quiet = true) := by
  obtain ⟨-, stands⟩ := State.sealNoted_effect corr rew s
  have image : ((s.sealNoted corr rew).raise 0 0x023 0).image = s.image :=
    (State.image_of_outside (State.event_raise _ _ _ _) (by decide)).trans (State.image_of_outside stands (by decide))
  unfold State.sealFailed at hx
  generalize (s.sealNoted corr rew).raise 0 0x023 0 = r at *
  refine ⟨fun p purpose => ?_, fun purpose opened => ?_, fun purpose => ?_⟩
  · rw [purpose] at hx
    have answered : x.outside .answer = r.outside .answer := by
      rw [hx]
      exact State.frame_finish _ _ _ _ (by decide)
    refine ⟨(State.image_of_outside answered (by decide)).trans image, ?_⟩
    rw [hx]
    exact List.getLast?_concat
  · rw [purpose] at hx
    have faults : x = r.faultImage 0x0002 := hx.trans (if_pos (.inl (image.trans opened)))
    rw [faults]
    exact State.faultImage_effect r _
  · rw [purpose] at hx
    rw [hx, State.quiet_stopQuiet]

end

/-- Settles O15: a seal that ends is complete in its bank and takes its effect (`State.sealTaken_purpose`), or fails with it
(`State.sealFailed_purpose`), and the next that waits starts. -/
theorem sealsComplete : Obligations.SealsComplete := by
  unfold Obligations.SealsComplete
  refine ⟨fun s j awake job charged alone idle => ⟨fun corr rew none => ?_, fun corr rew none => ?_, fun corr rew failed p rest waits => ?_⟩,
    fun corr rew failed s awake idle => ⟨fun stays => ?_, fun some charged signs => ?_⟩⟩
  · have effect := exec_sealComplete_ends awake job charged alone corr rew false (x := (s.sealNoted corr rew).sealTaken j) rfl
    generalize hx : (s.sealNoted corr rew).sealTaken j = x at effect
    obtain ⟨gone, waiting, bank, config, seq, place, exts⟩ := State.sealTaken_keeps s j corr rew hx.symm
    obtain ⟨commit, semicolon, stop⟩ := State.sealTaken_purpose s j corr rew hx.symm
    rw [State.nextWaitingSeal_none x (waiting.trans none)] at effect
    have frame := State.attestBegins_settled x (config.trans idle)
    obtain ⟨r, complete, rseq, kind, epoch, carriers⟩ := State.sealedBank_complete (s.sealNoted corr rew) j
    generalize x.attestBegins.runConfig = t at effect frame
    have keep : t.keep = x.keep := State.keep_of_outside frame (by decide)
    have persist : t.persist = x.persist := State.persist_of_outside frame (by decide)
    have image : t.image = x.image := State.image_of_outside frame (by decide)
    have get (r : Nat) : t.get r = x.get r := State.get_of_outside frame r 0 nofun
    have stopped : t.stop = x.stop := State.stop_of_outside frame (by decide)
    refine ⟨_, effect, (congrArg Keep.job keep).trans gone, ⟨r, ?_, rseq, kind, epoch, ?_⟩, (get _).trans seq, (get _).trans place,
      fun who purpose setup => ?_, fun purpose => ?_, fun r b who purpose => ?_, fun purpose => ?_⟩
    · exact (congrArg (fun k : Keep => (k.bank j.bank).complete) keep).trans ((congrArg Bank.complete bank).trans complete)
    · exact carriers.trans (State.get_of_outside (State.sealNoted_effect corr rew s).2 _ _ (by decide))
    · obtain ⟨opened, first, window, dirty⟩ := commit who purpose
      exact ⟨image.trans opened, (get _).trans first, (get _).trans window, (congrArg Persist.dirty persist).trans dirty⟩
    · obtain ⟨ended, count, state, left, same⟩ := semicolon purpose
      exact ⟨(congrArg Persist.running persist).trans ended, (congrArg Persist.count persist).trans count, (get _).trans state,
        (congrArg Persist.holdLeft persist).trans left, image.trans same⟩
    · rw [purpose] at exts
      exact (congrArg Keep.extNext keep).trans exts
    · exact (congrArg FullStop.quiet stopped).trans (stop purpose)
  · have effect := exec_sealComplete_ends awake job charged alone corr rew true (x := (s.sealNoted corr rew).sealFailed j.purpose) rfl
    generalize hx : (s.sealNoted corr rew).sealFailed j.purpose = x at effect
    obtain ⟨gone, waiting, config, seq⟩ := State.sealFailed_keeps s j corr rew hx.symm
    obtain ⟨commit, semicolon, stop⟩ := State.sealFailed_purpose s j corr rew hx.symm
    rw [State.nextWaitingSeal_none x (waiting.trans none)] at effect
    have frame := State.attestBegins_settled x (config.trans idle)
    generalize x.attestBegins.runConfig = t at effect frame
    have image : t.image = x.image := State.image_of_outside frame (by decide)
    have get (r : Nat) : t.get r = x.get r := State.get_of_outside frame r 0 nofun
    refine ⟨_, effect, (congrArg Keep.job (State.keep_of_outside frame (by decide))).trans gone, (get _).trans seq, fun p purpose => ?_,
      fun purpose opened => ?_, fun purpose => (congrArg FullStop.quiet (State.stop_of_outside frame (by decide))).trans (stop purpose)⟩
    · obtain ⟨same, answer⟩ := commit p purpose
      exact ⟨image.trans same, (congrArg List.getLast? (State.outbox_of_outside frame (by decide))).trans answer⟩
    · obtain ⟨fault, cause, window⟩ := semicolon purpose opened
      exact ⟨image.trans fault, (get _).trans cause, (get _).trans window⟩
  · have effect := exec_sealComplete_ends awake job charged alone corr rew failed
      (x := if failed then (s.sealNoted corr rew).sealFailed j.purpose else (s.sealNoted corr rew).sealTaken j) rfl
    generalize hx : (if failed then (s.sealNoted corr rew).sealFailed j.purpose else (s.sealNoted corr rew).sealTaken j) = x at effect
    have kept : x.keep.waiting = s.keep.waiting ∧ x.lexicon.config = s.lexicon.config := by
      cases failed with
      | false =>
        obtain ⟨-, waiting, -, config, -⟩ := State.sealTaken_keeps s j corr rew hx.symm
        exact ⟨waiting, config⟩
      | true =>
        obtain ⟨-, waiting, config, -⟩ := State.sealFailed_keeps s j corr rew hx.symm
        exact ⟨waiting, config⟩
    obtain ⟨waiting, config⟩ := kept
    obtain ⟨rest', next, config'⟩ := State.nextWaitingSeal_next x (waiting.trans waits)
    generalize x.nextWaitingSeal = y at effect rest' next config'
    have frame := State.attestBegins_settled y (config'.trans (config.trans idle))
    generalize y.attestBegins.runConfig = t at effect frame
    have keep : t.keep = y.keep := State.keep_of_outside frame (by decide)
    obtain ⟨k, started, purpose⟩ := next
    exact ⟨_, effect, (congrArg Keep.waiting keep).trans rest', k, (congrArg Keep.job keep).trans started, purpose⟩
  · have ready : s.sealReady corr rew failed = s := by
      refine if_pos ?_
      rcases stays with none | low
      · rw [none]
        rfl
      · rw [low, Bool.or_true]
    rw [exec_sealComplete, execSealComplete, act_of_awake s _ awake, ready, State.runConfig_none s idle]
  · have ready : s.sealReady corr rew failed = { s with security := { s.security with sealWaits := .some (corr, rew, failed) } } := by
      unfold State.sealReady
      rw [if_neg (by rw [charged, Bool.or_false]; simpa using some), if_pos signs]
      rfl
    rw [exec_sealComplete, execSealComplete, act_of_awake s _ awake, ready]
    exact congrArg (fun t => Host.Outcome.next (s.after t)) (State.runConfig_none _ idle)

end Sys2Proof.Machine

namespace Sys2Proof.Machine

/-! ### What FORMAT leaves of an image (R78) -/

/-- What FORMAT may change. -/
def Footprint.formats : Footprint := Footprint.request.plus [Reg.imageState, Reg.ctxDurable, Reg.ctxTail, Reg.ctxHead,
  Reg.ctxRingBase, Reg.ctxRingSize, Reg.ctxState, Reg.ctxPolicy, Reg.ctxNotify, Reg.ctxError, Reg.ctxCoalCount, Reg.ctxCoalTime,
  Reg.ctxQueue, Reg.ctxUserTag, Reg.appendContextsOpen, Reg.restoreHeldBytes, Reg.govDirty, Reg.ckptPersisted, Reg.instPending,
  Reg.appendPending] [.keep, .append, .persist, .restore]

/-- No row of a register that was dropped is found. -/
theorem Tbl.find_dropRegs {rs : List Nat} {k : Nat} (h : k / 4294967296 ∈ rs) (t : Tbl Nat) : Tbl.find (Tbl.dropRegs rs t) k = none := by
  induction t with
  | nil => rfl
  | cons x t ih =>
    rw [Tbl.dropRegs] at ih ⊢
    rw [List.filter_cons]
    split
    next keeps =>
      have other : x.1 ≠ k := by
        rintro rfl
        simp only [List.contains_iff_mem.mpr h, Bool.not_true, Bool.false_eq_true] at keeps
      rw [Tbl.find, if_neg other, ih]
    next => exact ih

section
variable (s : State)

/-- A register that was dropped reads as its default. -/
theorem State.get_clearRegs {rs : List Nat} {r : Nat} (h : r ∈ rs) (i : Nat) : (s.clearRegs rs).get r i = Reg.default r i := by
  have key : Reg.key r i / 4294967296 = r := by unfold Reg.key; omega
  rw [State.get, State.clearRegs, Tbl.getD, Tbl.find_dropRegs (key.symm ▸ h), Option.getD_none]

/-- Nothing is left of the contexts. -/
def State.contextsCleared : State :=
  let s := s.clearRegs [Reg.ctxDurable, Reg.ctxTail, Reg.ctxHead, Reg.ctxRingBase, Reg.ctxRingSize, Reg.ctxState,
    Reg.ctxPolicy, Reg.ctxNotify, Reg.ctxError, Reg.ctxCoalCount, Reg.ctxCoalTime, Reg.ctxQueue, Reg.ctxUserTag]
  (s.set Reg.appendContextsOpen 0 0).modAppend (fun a => { a with pubs := [], run := [], writes := [] })

theorem State.loadContexts_none : s.loadContexts [] =
    (s.contextsCleared.set Reg.appendPending 0 0).each (s.contextsCleared.rowsOf Reg.instPending) (fun s i => s.countPending i) := rfl

/-- The counts of pending publishes. -/
def Footprint.pendingCounts : Footprint := ⟨[Reg.appendPending, Reg.instPending], []⟩

theorem State.frame_contextsCounted : (s.loadContexts []).outside .pendingCounts = s.contextsCleared.outside .pendingCounts := by
  rw [State.loadContexts_none, State.outside_each _ _ _ _ (fun s i => State.frame_countPending s i (by decide) (by decide)),
    State.outside_set _ _ _ _ _ (by decide)]

theorem State.get_contextsCleared_ctxState (n : Nat) : s.contextsCleared.get Reg.ctxState n = 0 := by
  refine (State.get_set_register _ _ _ _ (by decide)).trans ?_
  exact State.get_clearRegs s (by decide) n

theorem State.loadContexts_none_effect : (∀ n, (s.loadContexts []).ctxState n = .closed) ∧
    (s.loadContexts []).get Reg.appendContextsOpen = 0 ∧ (s.loadContexts []).append.pubs = [] ∧
    (s.loadContexts []).outside .formats = s.outside .formats := by
  have counted := s.frame_contextsCounted
  refine ⟨fun n => ?_, ?_, ?_, ?_⟩
  · rw [State.ctxState, State.get_of_outside counted _ _ (by decide), State.get_contextsCleared_ctxState]
    rfl
  · rw [State.get_of_outside counted _ _ (by decide)]
    exact State.get_set_same _ _ _ _
  · rw [State.append_of_outside counted (by decide)]
    rfl
  · rw [State.outside_le (by decide) counted]
    unfold State.contextsCleared
    rw [State.outside_modAppend _ _ _ (by decide), State.outside_set _ _ _ _ _ (by decide), State.outside_clearRegs _ _ _ (by decide)]

/-- The counts of dirty segments and of persisted ones, as FORMAT leaves them. -/
def State.dirtyCountsCleared : State := s.each (List.range 8) (fun s c => (s.set Reg.govDirty c 0).set Reg.ckptPersisted c 0)

/-- What the counts leave as it was. -/
def Footprint.dirtyCounts : Footprint := ⟨[Reg.govDirty, Reg.ckptPersisted], []⟩

theorem State.frame_dirtyCountsCleared : s.dirtyCountsCleared.outside .dirtyCounts = s.outside .dirtyCounts :=
  State.outside_each _ _ _ _ (fun s c => by rw [State.outside_set _ _ _ _ _ (by decide), State.outside_set _ _ _ _ _ (by decide)])

theorem State.govDirty_dirtyCountsCleared (c : Nat) (h : c < 8) : s.dirtyCountsCleared.get Reg.govDirty c = 0 := by
  refine State.each_establishes (fun c s => s.get Reg.govDirty c = 0) _ (fun s a => ?_) (fun s a b hb => ?_) s (List.range 8) c
    (.inl (List.mem_range.mpr h))
  · rw [State.get_set_register _ _ _ _ (by decide), State.get_set_same]
  · rw [State.get_set_register _ _ _ _ (by decide)]
    by_cases e : Reg.key Reg.govDirty a = Reg.key Reg.govDirty b
    · rw [State.get, State.set, Tbl.getD, e, Tbl.find_put_same]; rfl
    · rw [State.get, State.set, Tbl.getD_put_other _ _ _ _ _ e]; exact hb

/-- Both banks are erased, no context is left, and nothing is held. -/
def State.contentsDiscarded : State :=
  let s := s.modKeep (fun k => { k with bank0 := k.bank0.erased, bank1 := k.bank1.erased })
  let s := (s.loadContexts []).modPersist (fun p => { Persist.reset with triggersHeld := p.triggersHeld })
  ({ s with restore := Restore.reset }).countHeld

theorem State.discardImage_eq : s.discardImage = s.contentsDiscarded.dirtyCountsCleared := rfl

theorem State.contentsDiscarded_effect :
    (∃ i, s.contentsDiscarded.keep.bank0.intent = some i ∧ i.kind = 0) ∧ (∃ i, s.contentsDiscarded.keep.bank1.intent = some i ∧ i.kind = 0) ∧
    (∀ n, s.contentsDiscarded.ctxState n = .closed) ∧ s.contentsDiscarded.get Reg.appendContextsOpen = 0 ∧
    s.contentsDiscarded.append.pubs = [] ∧ s.contentsDiscarded.persist.dirty = [] ∧ s.contentsDiscarded.persist.closing = [] ∧
    s.contentsDiscarded.persist.running = false ∧ s.contentsDiscarded.restore.held = [] ∧
    s.contentsDiscarded.outside .formats = s.outside .formats := by
  let k := s.modKeep (fun k => { k with bank0 := k.bank0.erased, bank1 := k.bank1.erased })
  obtain ⟨closed, opened, pubs, frame⟩ := k.loadContexts_none_effect
  have frameK : (k.loadContexts []).outside .pendingCounts = k.contextsCleared.outside .pendingCounts := k.frame_contextsCounted
  have keepK : (k.loadContexts []).keep = k.keep := (State.keep_of_outside frameK (by decide)).trans rfl
  generalize eq : k.loadContexts [] = l at closed opened pubs frame keepK
  let d : State := { l.modPersist (fun p => { Persist.reset with triggersHeld := p.triggersHeld }) with restore := Restore.reset }
  have is : s.contentsDiscarded = d.countHeld := by
    show ({ (k.loadContexts []).modPersist (fun p => { Persist.reset with triggersHeld := p.triggersHeld }) with restore := Restore.reset } : State).countHeld = _
    rw [eq]
  have held : d.countHeld.outside ⟨[Reg.restoreHeldBytes], []⟩ = d.outside ⟨[Reg.restoreHeldBytes], []⟩ := State.frame_countHeld _ (by decide)
  have keep : d.countHeld.keep = k.keep := (State.keep_of_outside held (by decide)).trans keepK
  have persist : d.countHeld.persist = d.persist := State.persist_of_outside held (by decide)
  rw [is]
  refine ⟨?_, ?_, fun n => ?_, ?_, ?_, ?_, ?_, ?_, ?_, ?_⟩
  · rw [keep]; exact ⟨_, rfl, rfl⟩
  · rw [keep]; exact ⟨_, rfl, rfl⟩
  · rw [State.ctxState_of_outside held (by decide)]; exact closed n
  · rw [State.get_of_outside held _ _ (by decide)]; exact opened
  · rw [State.append_of_outside held (by decide)]; exact pubs
  · rw [persist]; rfl
  · rw [persist]; rfl
  · rw [persist]; rfl
  · rw [State.restore_of_outside held (by decide)]; rfl
  · rw [State.frame_countHeld _ (by decide)]
    show (({ l.modPersist (fun p => { Persist.reset with triggersHeld := p.triggersHeld }) with restore := Restore.reset } : State)).outside .formats = _
    rw [State.outside_restore _ _ (by decide), State.outside_modPersist _ _ _ (by decide), frame]
    exact State.outside_modKeep _ _ _ (by decide)

/-- What FORMAT makes of the image. -/
def State.formatted : State := s.discardImage.setImage .setup

theorem State.formatted_effect : s.formatted.image = .setup ∧
    (∃ i, s.formatted.keep.bank0.intent = some i ∧ i.kind = 0) ∧ (∃ i, s.formatted.keep.bank1.intent = some i ∧ i.kind = 0) ∧
    (∀ n, n < 262144 → s.formatted.ctxState n = .closed) ∧ s.formatted.get Reg.appendContextsOpen = 0 ∧ s.formatted.append.pubs = [] ∧
    s.formatted.persist.dirty = [] ∧ s.formatted.persist.closing = [] ∧ s.formatted.persist.running = false ∧
    s.formatted.restore.held = [] ∧ (∀ c, c < 8 → s.formatted.get Reg.govDirty c = 0) ∧
    s.formatted.outside .formats = s.outside .formats := by
  obtain ⟨bank0, bank1, closed, opened, pubs, dirty, closing, running, held, frame⟩ := s.contentsDiscarded_effect
  have cleared := s.contentsDiscarded.govDirty_dirtyCountsCleared
  have counts := s.contentsDiscarded.frame_dirtyCountsCleared
  have image := State.image_setImage s.contentsDiscarded.dirtyCountsCleared .setup
  have set := State.frame_setImage (f := Footprint.event.plus [Reg.imageState] []) s.contentsDiscarded.dirtyCountsCleared .setup (by decide)
  rw [State.formatted, State.discardImage_eq]
  generalize s.contentsDiscarded = d at *
  generalize d.dirtyCountsCleared = e at *
  generalize e.setImage .setup = t at *
  have keep : t.keep = d.keep := (State.keep_of_outside set (by decide)).trans (State.keep_of_outside counts (by decide))
  have append : t.append = d.append := (State.append_of_outside set (by decide)).trans (State.append_of_outside counts (by decide))
  have persist : t.persist = d.persist := (State.persist_of_outside set (by decide)).trans (State.persist_of_outside counts (by decide))
  have restore : t.restore = d.restore := (State.restore_of_outside set (by decide)).trans (State.restore_of_outside counts (by decide))
  rw [keep, append, persist, restore]
  refine ⟨image, bank0, bank1, fun n _ => ?_, ?_, pubs, dirty, closing, running, held, fun c hc => ?_, ?_⟩
  · rw [State.ctxState_of_outside set (by decide), State.ctxState_of_outside counts (by decide), closed]
  · rw [State.get_of_outside set _ _ (by decide), State.get_of_outside counts _ _ (by decide), opened]
  · rw [State.get_of_outside set _ _ (by decide), cleared c hc]
  · rw [State.outside_le (by decide) set, State.outside_le (by decide) counts, frame]

end
end Sys2Proof.Machine

namespace Sys2Proof.Machine

/-! ### IMAGE_COMMAND where it is legal (Table 3.9) -/

/-- The commands that write v to IMAGE_COMMAND. -/
def imageAsks (p : Path) (c : Instr) (v : Nat) : Prop :=
  (c = .format p ∧ v = 1) ∨ (c = .commit p ∧ v = 2) ∨ (c = .retry p ∧ v = 3) ∨ (c = .abandon p ∧ v = 4)

section
variable {s : State} {p : Path} {v : Nat} {c : Instr}

theorem State.legalIn_imageCommand (s : State) (i v : Nat) :
    s.legalIn ⟨Reg.imageCommand, 0, 0, .u8, .wo, 0, (.between 1 5), 127, .none⟩ i v =
      (bit 127 s.image.code && bit (imageCommandStates v) s.image.code) := rfl

theorem exec_image_settles (hc : imageAsks p c v) (h : s.allows c = true) : bit (imageCommandStates v) s.image.code = true ∧
    exec c s = .next (s.after (State.settle ((s.taken p).imageCommand (.direct p) v) (.direct p)).runConfig) := by
  have state : (s.taken p).image = s.image := State.image_of_outside (State.request_taken s p) (by decide)
  have both {k : Byte} (asks : requestOf c = some (askOf p Reg.imageCommand 0 [k])) (acts : exec c s = actRom s (fun s => s.direct c)) :
      bit (imageCommandStates (fromLe [k])) s.image.code = true ∧
        exec c s = .next (s.after (State.settle ((s.taken p).imageCommand (.direct p) (fromLe [k])) (.direct p)).runConfig) := by
    rw [Reg.ask_imageCommand] at asks
    have legal := (State.allows_checked s asks h Reg.lookup_imageCommand (by decide)).1
    rw [State.legalIn_imageCommand, Bool.and_eq_true] at legal
    refine ⟨state ▸ legal.2, ?_⟩
    rw [acts, State.direct_settles s asks h Reg.lookup_imageCommand, State.apply_imageCommand]
    rfl
  obtain ⟨rfl, rfl⟩ | ⟨rfl, rfl⟩ | ⟨rfl, rfl⟩ | ⟨rfl, rfl⟩ := hc
  · exact both (k := 1) rfl (by rw [exec_format, execFormat])
  · exact both (k := 2) rfl (by rw [exec_commit, execCommit])
  · exact both (k := 3) rfl (by rw [exec_retry, execRetry])
  · exact both (k := 4) rfl (by rw [exec_abandon, execAbandon])

/-- A command that is answered OK at once. -/
theorem exec_image_ok (hc : imageAsks p c v) (h : s.allows c = true) {t : State} (result : (s.taken p).imageCommand (.direct p) v = (t, .ok))
    (idle : t.lexicon.config = (s.taken p).lexicon.config) :
    exec c s = .next (s.after (t.emit (.lexAnswer p 0 []))) := by
  rw [(exec_image_settles hc h).2, result, State.settle_ok_run _ _ (idle.trans (State.config_taken s p h))]

/-- A command that is refused counts its abort. -/
theorem exec_image_refused (hc : imageAsks p c v) (h : s.allows c = true) {a : Abort} (ok : a ≠ .ok) (later : a ≠ .later)
    (result : (s.taken p).imageCommand (.direct p) v = (s.taken p, a)) :
    exec c s = .next (s.after (((s.taken p).bump Reg.lexAborts).emit (.lexAnswer p a.code []))) := by
  rw [(exec_image_settles hc h).2, result, State.settle_refused_run _ _ ok later (State.config_taken s p h)]

theorem exec_format_legal (h : s.allows (.format p) = true) : s.image = .unformed ∨ s.image = .fault := by
  have legal := (exec_image_settles (.inl ⟨rfl, rfl⟩) h).1
  revert legal
  cases s.image <;> decide

theorem image_setup_of_bit (x : ImageState) (legal : bit 2 x.code = true) : x = .setup := by
  revert legal
  cases x <;> decide

theorem image_fault_of_bit (x : ImageState) (legal : bit 64 x.code = true) : x = .fault := by
  revert legal
  cases x <;> decide

/-! ### FORMAT and ABANDON -/

theorem State.formatCommand_locked (s : State) (locked : s.get Reg.debugState = 2) : s.formatCommand = (s, .locked) := if_pos locked

theorem State.formatCommand_busy (s : State) (free : s.get Reg.debugState ≠ 2) (job : s.keep.job ≠ none) : s.formatCommand = (s, .busy) := by
  rw [State.formatCommand, if_neg free, if_pos (Option.isSome_iff_ne_none.mpr job)]

theorem State.formatCommand_formats (s : State) (free : s.get Reg.debugState ≠ 2) (job : s.keep.job = none) :
    s.formatCommand = (s.formatted, .ok) := by
  rw [State.formatCommand, if_neg free, job]
  rfl

theorem State.debugState_taken (s : State) (p : Path) : (s.taken p).get Reg.debugState = s.get Reg.debugState :=
  State.get_of_outside (State.request_taken s p) _ _ (by decide)

theorem State.keep_taken (s : State) (p : Path) : (s.taken p).keep = s.keep := State.keep_of_outside (State.request_taken s p) (by decide)

/-! ### COMMIT (R16) -/

theorem State.geometryCheck_of_outside {s t : State} {f : Footprint} (h : t.outside f = s.outside f) (c : Part.carriers ∉ f.parts)
    (a : Reg.activeCarriers ∉ f.regs) (i : Reg.imageSegments ∉ f.regs) : t.geometryCheck = s.geometryCheck := by
  have count : t.carrierCount = s.carrierCount := State.get_of_outside h _ _ a
  have segments : t.segments = s.segments := State.get_of_outside h _ _ i
  have car (n : Nat) : t.car n = s.car n := by rw [State.car, State.carriers_of_outside h c, State.car]
  have caps (n : Nat) : t.reportedCaps n = s.reportedCaps n := by simp only [State.reportedCaps, car]
  have limit (n : Nat) : t.segmentLimit n = s.segmentLimit n := by rw [State.segmentLimit, caps, State.segmentLimit]
  unfold State.geometryCheck
  simp only [limit, caps, count, segments]

theorem State.geometryCheck_empty (s : State) (h : s.get Reg.activeCarriers = 0 ∨ s.get Reg.imageSegments = 0) : s.geometryCheck = .range := by
  unfold State.geometryCheck State.carrierCount State.segments
  rcases h with h | h
  · exact if_pos (.inl h)
  · exact if_pos (.inr (.inl h))

/-- The new identity is drawn. -/
def State.identityDrawn (s : State) : State := (s.setBlob Reg.imageId 0 (le 16 (Config.imageId s.draws))).drawn

/-- A carrier is told the new identity. -/
def State.assigns (s : State) (c : Nat) : State := (s.modCar c (fun k => { k with assigned := false })).assignIdent c

/-- The identity goes to every active carrier. -/
def State.assignsAll (s : State) : State := s.each s.activeCarriers State.assigns

theorem State.commitCommand_sound (s : State) (who : Requester) (sound : s.geometryCheck = .ok) :
    s.commitCommand who = (s.identityDrawn.assignsAll.waitFor who Reg.imageCommand, .later) := by
  rw [State.commitCommand, sound]
  rfl

theorem State.commitCommand_unsound (s : State) (who : Requester) (a : Abort) (check : s.geometryCheck = a) (bad : a ≠ .ok) :
    s.commitCommand who = (s, a) := by
  rw [State.commitCommand, check]
  split
  · exact absurd rfl bad
  · rfl

theorem State.frame_assignIdent {f : Footprint} (s : State) (c : Nat) (h : Footprint.message.le f = true) :
    (s.assignIdent c).outside f = s.outside f :=
  State.outside_each _ _ _ _ (fun s _ => State.frame_sendCarrier s _ _ _ _ h)

theorem State.frame_assigns {f : Footprint} (s : State) (c : Nat) (h : (Footprint.message.plus [] [.carriers]).le f = true) :
    (s.assigns c).outside f = s.outside f := by
  refine State.outside_le h ?_
  rw [State.assigns, State.frame_assignIdent _ _ (by decide), State.outside_modCar _ _ _ _ (by decide)]

theorem State.frame_assignsAll {f : Footprint} (s : State) (h : (Footprint.message.plus [] [.carriers]).le f = true) :
    s.assignsAll.outside f = s.outside f := State.outside_each _ _ _ _ (fun s c => State.frame_assigns s c h)

theorem State.car_assigns (s : State) (c k : Nat) : (s.assigns c).car k = (s.modCar c (fun k => { k with assigned := false })).car k := by
  rw [State.car, State.assigns, State.carriers_of_outside (State.frame_assignIdent _ _ (f := .message) (by decide)) (by decide), State.car]

theorem State.assigned_assignsAll (s : State) (c : Nat) (h : c ∈ s.activeCarriers) : (s.assignsAll.car c).assigned = false := by
  refine State.each_establishes (fun c s => (s.car c).assigned = false) _ (fun s a => ?_) (fun s a b hb => ?_) s s.activeCarriers c (.inl h)
  · rw [State.car_assigns, State.car_modCar_same]
  · rw [State.car_assigns]
    by_cases e : a = b
    · rw [e, State.car_modCar_same]
    · rw [State.car, State.modCar, Tbl.getD_put_other _ _ _ _ _ e]; exact hb

end
end Sys2Proof.Machine

namespace Sys2Proof.Machine

/-! ### What a restart of the image leaves (R78 to R82) -/

section
variable (s : State)

/-- The registers and tables that a restart sets after its bank is chosen. -/
def Footprint.restartClears : Footprint := ⟨[Reg.restartCarrierStatus, Reg.restoreHeldBytes], [.carriers]⟩

/-- What is chosen for the restart, before anything is told. -/
def State.restartChosen (warm : Bool) (startAt : Nat) : State :=
  let kept := s.restore.held.filter (fun h => h.work.imageRange.any (·.1))
  let s := { s with restore := { Restore.reset with
    bank := s.keep.latest, epoch := s.keep.cutEpoch, torn := s.keep.torn.map (fun (x : Nat × Option Nat) => x.2)
    warm := warm, startAt := startAt, prevIntent := s.keep.lastIntent, held := kept, heldReads := s.restore.heldReads
    sealMs := s.msSinceGood } }
  { s.keepRead with stop := FullStop.reset }

/-- The image is restoring, in its first phase, with an empty report. -/
def State.restartPhased : State := ((s.setImage .restoring).set Reg.restartPhase 0 1).setBlob Reg.restartReport 0 []

/-- The carriers' part of the restart is forgotten. -/
def State.restartForgets : State := (s.each (List.range 8) (fun s c => (s.set Reg.restartCarrierStatus c 0).modCar c (fun x => { x with
    ident0 := false, ident1 := false, ready := false, front := none }))).countHeld

theorem State.restartCleared_eq (warm : Bool) (startAt : Nat) :
    s.restartCleared warm startAt = (s.restartChosen warm startAt).restartPhased.restartForgets := rfl

theorem State.frame_restartForgets : s.restartForgets.outside .restartClears = s.outside .restartClears := by
  rw [State.restartForgets, State.frame_countHeld _ (by decide), State.outside_each _ _ _ _ (fun s c => by
    rw [State.outside_modCar _ _ _ _ (by decide), State.outside_set _ _ _ _ _ (by decide)])]

theorem State.frame_restartPhased : s.restartPhased.outside ((Footprint.event.plus [Reg.imageState, Reg.restartPhase] [.blobs])) =
    s.outside (Footprint.event.plus [Reg.imageState, Reg.restartPhase] [.blobs]) := by
  rw [State.restartPhased, State.outside_setBlob _ _ _ _ _ (by decide), State.outside_set _ _ _ _ _ (by decide),
    State.frame_setImage _ _ (by decide)]

theorem State.restartCleared_effect (warm : Bool) (startAt : Nat) :
    (s.restartCleared warm startAt).image = .restoring ∧ (s.restartCleared warm startAt).get Reg.restartPhase = 1 ∧
    (s.restartCleared warm startAt).restore.bank = s.keep.latest ∧ (s.restartCleared warm startAt).restore.epoch = s.keep.cutEpoch ∧
    (s.restartCleared warm startAt).stop = FullStop.reset ∧ (s.restartCleared warm startAt).keep = s.keep ∧
    (s.restartCleared warm startAt).lexicon.config = s.lexicon.config := by
  have forgets := (s.restartChosen warm startAt).restartPhased.frame_restartForgets
  have phased := (s.restartChosen warm startAt).frame_restartPhased
  have phase : (s.restartChosen warm startAt).restartPhased.get Reg.restartPhase = 1 := State.get_set_same _ _ _ _
  have image : (s.restartChosen warm startAt).restartPhased.image = .restoring :=
    (congrArg ImageState.ofCode (State.get_set_register _ _ _ _ (by decide))).trans (State.image_setImage _ _)
  rw [State.restartCleared_eq]
  generalize eq : (s.restartChosen warm startAt).restartPhased.restartForgets = t at *
  rw [State.restore_of_outside forgets (by decide), State.restore_of_outside phased (by decide),
    State.stop_of_outside forgets (by decide), State.stop_of_outside phased (by decide),
    State.keep_of_outside forgets (by decide), State.keep_of_outside phased (by decide),
    State.config_of_outside forgets (by decide), State.config_of_outside phased (by decide),
    State.get_of_outside forgets _ _ (by decide), State.image_of_outside forgets (by decide)]
  exact ⟨image, phase, rfl, rfl, rfl, rfl, rfl⟩

/-- A restart that fails before its sixth step leaves the image in Fault with the cause. -/
theorem State.restartFails_effect (cause : Nat) (early : s.get Reg.restartPhase < 3) : (s.restartFails cause).image = .fault ∧
    (s.restartFails cause).get Reg.faultCause = cause := by
  have fell := State.frame_sealFallback (f := .event) ((s.fillReport 0).faultImage cause) (by decide)
  rw [State.restartFails, if_pos early, State.image_of_outside fell (by decide), State.get_of_outside fell _ _ (by decide)]
  obtain ⟨image, noted, _⟩ := (s.fillReport 0).faultImage_effect cause
  exact ⟨image, noted⟩

theorem State.restartTakes_effect (b : Nat) (r : SealRec) :
    (s.restartTakes b r).get Reg.activeCarriers = r.carriers ∧ (s.restartTakes b r).get Reg.imageSegments = r.segments ∧
    (s.restartTakes b r).get Reg.sealSequence = r.seq ∧ (s.restartTakes b r).get Reg.keepBank = b ∧
    (s.restartTakes b r).blob Reg.imageId = le 16 r.imageId ∧
    (s.restartTakes b r).outside ⟨[Reg.activeCarriers, Reg.imageSegments, Reg.sealSequence, Reg.keepBank], [.blobs]⟩ =
      s.outside ⟨[Reg.activeCarriers, Reg.imageSegments, Reg.sealSequence, Reg.keepBank], [.blobs]⟩ := by
  unfold State.restartTakes
  refine ⟨?_, ?_, ?_, State.get_set_same _ _ _ _, ?_, ?_⟩
  · rw [State.get_set_register _ _ _ _ (by decide), State.get_set_register _ _ _ _ (by decide)]
    exact (State.get_set_register _ _ _ _ (by decide)).trans (State.get_set_same _ _ _ _)
  · rw [State.get_set_register _ _ _ _ (by decide), State.get_set_register _ _ _ _ (by decide)]
    exact State.get_set_same _ _ _ _
  · rw [State.get_set_register _ _ _ _ (by decide), State.get_set_same]
  · exact State.blob_setBlob_same _ _ _ _
  · rw [State.outside_set _ _ _ _ _ (by decide), State.outside_set _ _ _ _ _ (by decide),
      State.outside_setBlob _ _ _ _ _ (by decide), State.outside_set _ _ _ _ _ (by decide), State.outside_set _ _ _ _ _ (by decide)]

/-- A restart from a bank whose record can be read asks the carriers who they are. -/
theorem State.restartBegin_reads (warm : Bool) (startAt : Nat) {b : Nat} {r : SealRec} (latest : s.keep.latest = some b)
    (complete : (s.keep.bank b).complete = some r) (readable : (s.keep.bank b).readable = true) :
    let t := s.restartBegin warm startAt
    t.image = .restoring ∧ t.get Reg.restartPhase = 2 ∧ t.get Reg.activeCarriers = r.carriers ∧ t.get Reg.imageSegments = r.segments ∧
    t.get Reg.sealSequence = r.seq ∧ t.get Reg.keepBank = b ∧ t.blob Reg.imageId = le 16 r.imageId ∧ t.restore.bank = some b ∧
    t.restore.epoch = s.keep.cutEpoch ∧ t.stop = FullStop.reset ∧ t.keep = s.keep := by
  obtain ⟨image, _, bank, epoch, stop, keep, _⟩ := s.restartCleared_effect warm startAt
  rw [State.restartBegin_sealed s warm startAt latest complete, if_pos readable]
  generalize s.restartCleared warm startAt = c at *
  obtain ⟨active, segments, seq, kept, identity, taken⟩ := c.restartTakes_effect b r
  generalize c.restartTakes b r = u at *
  have asked := State.frame_asksIdents u (f := Footprint.message.plus [Reg.restartPhase] []) (by decide)
  have phase : u.asksIdents.get Reg.restartPhase = 2 := by
    have told : u.asksIdents.outside .message = (u.set Reg.restartPhase 0 2).outside .message :=
      State.outside_each _ _ _ _ (fun s c => State.frame_queryIdent s c (by decide))
    rw [State.get_of_outside told _ _ (by decide), State.get_set_same]
  generalize u.asksIdents = t at *
  refine ⟨?_, phase, ?_, ?_, ?_, ?_, ?_, ?_, ?_, ?_, ?_⟩
  · rw [State.image_of_outside asked (by decide), State.image_of_outside taken (by decide), image]
  · rw [State.get_of_outside asked _ _ (by decide), active]
  · rw [State.get_of_outside asked _ _ (by decide), segments]
  · rw [State.get_of_outside asked _ _ (by decide), seq]
  · rw [State.get_of_outside asked _ _ (by decide), kept]
  · rw [State.blob, State.blobs_of_outside asked (by decide)]; exact identity
  · rw [State.restore_of_outside asked (by decide), State.restore_of_outside taken (by decide), bank, latest]
  · rw [State.restore_of_outside asked (by decide), State.restore_of_outside taken (by decide), epoch]
  · rw [State.stop_of_outside asked (by decide), State.stop_of_outside taken (by decide), stop]
  · rw [State.keep_of_outside asked (by decide), State.keep_of_outside taken (by decide), keep]

/-- A restart from a bank that cannot be read ends in Fault (Table 4.2, check 1). -/
theorem State.restartBegin_unreadable (warm : Bool) (startAt : Nat) {b : Nat} {r : SealRec} (latest : s.keep.latest = some b)
    (complete : (s.keep.bank b).complete = some r) (bad : (s.keep.bank b).readable = false) :
    (s.restartBegin warm startAt).image = .fault ∧ (s.restartBegin warm startAt).get Reg.faultCause = 0x0109 := by
  obtain ⟨_, phase, _⟩ := s.restartCleared_effect warm startAt
  rw [State.restartBegin_sealed s warm startAt latest complete, if_neg (by rw [bad]; decide)]
  generalize s.restartCleared warm startAt = c at *
  obtain ⟨_, _, _, _, _, taken⟩ := c.restartTakes_effect b r
  exact State.restartFails_effect _ _ (by rw [State.get_of_outside taken _ _ (by decide), phase]; decide)

/-- A restart without a complete seal ends in Fault (Table 4.2, check 2). -/
theorem State.restartBegin_none (warm : Bool) (startAt : Nat) (latest : s.keep.latest = none) :
    (s.restartBegin warm startAt).image = .fault ∧ (s.restartBegin warm startAt).get Reg.faultCause = 0x0101 := by
  obtain ⟨_, phase, _⟩ := s.restartCleared_effect warm startAt
  rw [State.restartBegin_unsealed s warm startAt (by rw [latest]; rfl)]
  exact State.restartFails_effect _ _ (by rw [phase]; decide)

/-- RETRY in A0. -/
theorem State.retryCommand_begins (a0 : s.get Reg.powerState = 0) (still : s.power.trans = none) :
    s.retryCommand = (s.restartBegin s.restore.warm s.now, .ok) := if_pos ⟨a0, by rw [still]; rfl⟩

theorem State.retryCommand_refused (out : s.get Reg.powerState ≠ 0 ∨ s.power.trans ≠ none) : s.retryCommand = (s, .state) := by
  refine if_neg (fun h => ?_)
  rcases out with out | out
  · exact out h.1
  · exact out (Option.isNone_iff_eq_none.mp h.2)

end

/-! ### The commands -/

section
variable {s : State} {p : Path}

theorem formatCommands (s : State) (p : Path) (h : s.allows (.format p) = true) : (s.image = .unformed ∨ s.image = .fault) ∧
    (s.get Reg.debugState ≠ 2 → s.keep.job = none → ∃ t, exec (.format p) s = .next t ∧ t.answered p .ok ∧
      t.image = .setup ∧
      (∃ i, t.keep.bank0.intent = some i ∧ i.kind = 0) ∧ (∃ i, t.keep.bank1.intent = some i ∧ i.kind = 0) ∧
      (∀ n, n < 262144 → t.ctxState n = .closed) ∧ t.get Reg.appendContextsOpen = 0 ∧ t.append.pubs = [] ∧
      t.persist.dirty = [] ∧ t.persist.closing = [] ∧ t.persist.running = false ∧ t.restore.held = [] ∧
      (∀ c, c < 8 → t.get Reg.govDirty c = 0) ∧ s.changesOnly t .formats) ∧
    (s.get Reg.debugState = 2 → exec (.format p) s = .next (s.after
      (((s.taken p).bump Reg.lexAborts).emit (.lexAnswer p 13 [])))) ∧
    (s.get Reg.debugState ≠ 2 → s.keep.job ≠ none → exec (.format p) s = .next (s.after
      (((s.taken p).bump Reg.lexAborts).emit (.lexAnswer p 9 [])))) := by
  have asks : imageAsks p (.format p) 1 := .inl ⟨rfl, rfl⟩
  refine ⟨exec_format_legal h, fun free job => ?_, fun locked => ?_, fun free job => ?_⟩
  · have effect := exec_image_ok asks h (State.formatCommand_formats _ (by rwa [State.debugState_taken]) (by rwa [State.keep_taken]))
      (State.config_of_outside (State.formatted_effect _).2.2.2.2.2.2.2.2.2.2.2 (by decide))
    obtain ⟨image, bank0, bank1, closed, opened, pubs, dirty, closing, running, held, gov, frame⟩ := (s.taken p).formatted_effect
    generalize (s.taken p).formatted = t at *
    exact ⟨_, effect, State.answered_after _ _ p .ok, image, bank0, bank1, closed, opened, pubs, dirty, closing, running, held, gov,
      State.changesOnly_answer (a := .ok) frame (by decide)⟩
  · exact exec_image_refused asks h (by decide) (by decide) (State.formatCommand_locked _ (by rwa [State.debugState_taken]))
  · exact exec_image_refused asks h (by decide) (by decide)
      (State.formatCommand_busy _ (by rwa [State.debugState_taken]) (by rwa [State.keep_taken]))

theorem abandonCommands (s : State) (p : Path) (h : s.allows (.abandon p) = true) : s.image = .setup ∧
    ∃ t, exec (.abandon p) s = .next t ∧ t.answered p .ok ∧ t.image = .unformed ∧
      s.changesOnly t (Footprint.request.plus [Reg.imageState] []) := by
  have asks : imageAsks p (.abandon p) 4 := .inr (.inr (.inr ⟨rfl, rfl⟩))
  refine ⟨image_setup_of_bit _ (exec_image_settles asks h).1, ?_⟩
  have frame : ((s.taken p).setImage .unformed).outside (Footprint.event.plus [Reg.imageState] []) = _ :=
    State.frame_setImage _ _ (by decide)
  have effect := exec_image_ok asks h (t := (s.taken p).setImage .unformed) rfl (State.config_of_outside frame (by decide))
  have image := State.image_setImage (s.taken p) .unformed
  generalize (s.taken p).setImage .unformed = t at *
  exact ⟨_, effect, State.answered_after _ _ p .ok, image,
    State.changesOnly_answer (a := .ok) (State.outside_le (by decide) frame) (by decide)⟩

end
end Sys2Proof.Machine

namespace Sys2Proof.Machine

/-! ### COMMIT and RETRY (R16, R82) -/

theorem State.waiting_of_outside {s t : State} {f : Footprint} (h : t.outside f = s.outside f) (n : Part.lexicon ∉ f.parts) :
    t.lexicon.waiting = s.lexicon.waiting := by
  have e := congrArg (fun u => u.lexicon.waiting) h
  simpa [State.outside, Footprint.keep, n] using e

section
variable (s : State) (p : Path)

theorem State.geometryCheck_not_later : s.geometryCheck ≠ .later := by
  unfold State.geometryCheck
  dsimp only
  split_ifs <;> decide

/-- What COMMIT may change. -/
def Footprint.commits : Footprint := Footprint.message.plus [] [.blobs, .draws, .carriers, .lexicon]

/-- A COMMIT that waits for its seal. -/
def State.committed (who : Requester) : State := s.identityDrawn.assignsAll.waitFor who Reg.imageCommand

theorem State.committed_effect (who : Requester) : (s.committed who).blob Reg.imageId = le 16 (Config.imageId s.draws) ∧
    (s.committed who).draws = s.draws + 1 ∧
    (s.committed who).lexicon.waiting = s.lexicon.waiting ++ [⟨who, Reg.imageCommand⟩] ∧
    (s.committed who).lexicon.config = s.lexicon.config ∧
    (∀ c, c < s.get Reg.activeCarriers → ((s.committed who).car c).assigned = false) ∧
    (s.committed who).outside .commits = s.outside .commits := by
  have told := State.frame_assignsAll (f := Footprint.message.plus [] [.carriers]) s.identityDrawn (by decide)
  have assigned := State.assigned_assignsAll s.identityDrawn
  have active : s.identityDrawn.activeCarriers = List.range (s.get Reg.activeCarriers) := rfl
  have blob : s.identityDrawn.blob Reg.imageId = le 16 (Config.imageId s.draws) := State.blob_setBlob_same _ _ _ _
  have drawn : s.identityDrawn.outside .commits = s.outside .commits := by
    rw [State.identityDrawn, State.outside_drawn _ _ (by decide), State.outside_setBlob _ _ _ _ _ (by decide)]
  have draws : s.identityDrawn.draws = s.draws + 1 := rfl
  have lexicon : s.identityDrawn.lexicon = s.lexicon := rfl
  rw [active] at assigned
  unfold State.committed
  generalize s.identityDrawn = d at *
  generalize d.assignsAll = t at *
  refine ⟨?_, ?_, ?_, ?_, fun c hc => assigned c (List.mem_range.mpr hc), ?_⟩
  · rw [State.waitFor, State.modLexicon, State.blob, State.blobs_of_outside told (by decide)]; exact blob
  · rw [State.waitFor, State.modLexicon, State.draws_of_outside told (by decide), draws]
  · rw [State.waitFor, State.modLexicon, State.waiting_of_outside told (by decide), lexicon]
  · rw [State.waitFor, State.modLexicon]; exact (State.config_of_outside told (by decide)).trans (congrArg _ lexicon)
  · rw [State.waitFor, State.outside_modLexicon _ _ _ (by decide) (by decide), State.outside_le (by decide) told, drawn]

theorem commitCommands (h : s.allows (.commit p) = true) : s.image = .setup ∧
    (s.geometryCheck = .ok → ∃ t, exec (.commit p) s = .next t ∧
      t.image = .setup ∧ t.blob Reg.imageId = le 16 (Config.imageId s.draws) ∧ t.draws = s.draws + 1 ∧
      t.lexicon.waiting = s.lexicon.waiting ++ [⟨.direct p, Reg.imageCommand⟩] ∧
      (∀ c, c < s.get Reg.activeCarriers → (t.car c).assigned = false) ∧ s.changesOnly t .commits) ∧
    (s.get Reg.activeCarriers = 0 ∨ s.get Reg.imageSegments = 0 → exec (.commit p) s = .next (s.after
      (((s.taken p).bump Reg.lexAborts).emit (.lexAnswer p 7 [])))) ∧
    (∀ a, s.geometryCheck = a → a ≠ .ok → exec (.commit p) s = .next (s.after
      (((s.taken p).bump Reg.lexAborts).emit (.lexAnswer p a.code [])))) := by
  have asks : imageAsks p (.commit p) 2 := .inr (.inl ⟨rfl, rfl⟩)
  have taken := State.request_taken s p
  have setup := image_setup_of_bit _ (exec_image_settles asks h).1
  have check : (s.taken p).geometryCheck = s.geometryCheck := State.geometryCheck_of_outside taken (by decide) (by decide) (by decide)
  have refused (a : Abort) (is : s.geometryCheck = a) (bad : a ≠ .ok) (soon : a ≠ .later) : exec (.commit p) s = .next (s.after
      (((s.taken p).bump Reg.lexAborts).emit (.lexAnswer p a.code []))) :=
    exec_image_refused asks h bad soon (State.commitCommand_unsound _ _ a (check.trans is) bad)
  refine ⟨setup, fun sound => ?_, fun empty => refused .range (s.geometryCheck_empty empty) (by decide) (by decide), fun a is bad => ?_⟩
  · obtain ⟨blob, draws, waiting, config, assigned, frame⟩ := (s.taken p).committed_effect (.direct p)
    have effect := (exec_image_settles asks h).2
    rw [show (s.taken p).imageCommand (.direct p) 2 = ((s.taken p).committed (.direct p), .later) from
      State.commitCommand_sound _ _ (check.trans sound)] at effect
    have idle := config.trans (State.config_taken s p h)
    have run : (State.settle ((s.taken p).committed (.direct p), .later) (.direct p)).runConfig = (s.taken p).committed (.direct p) :=
      State.runConfig_none _ idle
    rw [run] at effect
    generalize (s.taken p).committed (.direct p) = t at *
    rw [State.draws_of_outside taken (by decide)] at blob draws
    have waitingTaken : (s.taken p).lexicon.waiting = s.lexicon.waiting := State.waiting_of_outside taken (by decide)
    rw [waitingTaken] at waiting
    have all : t.outside .commits = s.outside .commits := frame.trans (State.outside_le (by decide) taken)
    refine ⟨_, effect, ?_, blob, draws, waiting, fun c hc => assigned c ?_, State.changesOnly_after _ _ all⟩
    · exact (State.image_of_outside all (by decide)).trans setup
    · rwa [State.get_of_outside taken _ _ (by decide)]
  · exact refused a is bad (is ▸ s.geometryCheck_not_later)

theorem retryCommands (h : s.allows (.retry p) = true) : s.image = .fault ∧
    (s.get Reg.powerState = 0 → s.power.trans = none →
      (∀ b r, s.keep.latest = some b → (s.keep.bank b).complete = some r → (s.keep.bank b).readable = true →
        ∃ t, exec (.retry p) s = .next t ∧ t.answered p .ok ∧ t.image = .restoring ∧ t.get Reg.restartPhase = 2 ∧
          t.get Reg.activeCarriers = r.carriers ∧ t.get Reg.imageSegments = r.segments ∧
          t.get Reg.sealSequence = r.seq ∧ t.get Reg.keepBank = b ∧ t.blob Reg.imageId = le 16 r.imageId ∧
          t.restore.bank = some b ∧ t.restore.epoch = s.keep.cutEpoch ∧ t.stop = FullStop.reset ∧ t.keep = s.keep) ∧
      (∀ b r, s.keep.latest = some b → (s.keep.bank b).complete = some r → (s.keep.bank b).readable = false →
        ∃ t, exec (.retry p) s = .next t ∧ t.answered p .ok ∧ t.image = .fault ∧ t.get Reg.faultCause = 0x0109) ∧
      (s.keep.latest = none →
        ∃ t, exec (.retry p) s = .next t ∧ t.answered p .ok ∧ t.image = .fault ∧ t.get Reg.faultCause = 0x0101)) ∧
    (s.get Reg.powerState ≠ 0 ∨ s.power.trans ≠ none → exec (.retry p) s = .next (s.after
      (((s.taken p).bump Reg.lexAborts).emit (.lexAnswer p 8 [])))) := by
  have asks : imageAsks p (.retry p) 3 := .inr (.inr (.inl ⟨rfl, rfl⟩))
  have taken := State.request_taken s p
  have keep := State.keep_taken s p
  have state : (s.taken p).get Reg.powerState = s.get Reg.powerState := State.get_of_outside taken _ _ (by decide)
  have power : (s.taken p).power = s.power := State.power_of_outside taken (by decide)
  refine ⟨image_fault_of_bit _ (exec_image_settles asks h).1, fun a0 still => ?_, fun out => ?_⟩
  · have effect := exec_image_ok asks h (State.retryCommand_begins _ (state.trans a0) (power ▸ still))
      (State.config_of_outside (State.frame_restartBegin _ _ _ (f := .restart) (by decide)) (by decide))
    have reads (b : Nat) (r : SealRec) := (s.taken p).restartBegin_reads (b := b) (r := r) (s.taken p).restore.warm (s.taken p).now
    have unreadable (b : Nat) (r : SealRec) := (s.taken p).restartBegin_unreadable (b := b) (r := r) (s.taken p).restore.warm (s.taken p).now
    have without := (s.taken p).restartBegin_none (s.taken p).restore.warm (s.taken p).now
    rw [keep] at reads unreadable without
    generalize (s.taken p).restartBegin (s.taken p).restore.warm (s.taken p).now = t at *
    refine ⟨fun b r latest complete readable => ?_, fun b r latest complete bad => ?_, fun latest => ?_⟩
    · exact ⟨_, effect, State.answered_after _ _ p .ok, reads b r latest complete readable⟩
    · exact ⟨_, effect, State.answered_after _ _ p .ok, unreadable b r latest complete bad⟩
    · exact ⟨_, effect, State.answered_after _ _ p .ok, without latest⟩
  · exact exec_image_refused asks h (by decide) (by decide) (State.retryCommand_refused _ (by rwa [state, power]))

end

/-- Settles O12: IMAGE_COMMAND is legal as Table 3.9 says, and each command is then its own step of the image. -/
theorem imageCommands : Obligations.ImageCommands :=
  ⟨fun p s => ⟨formatCommands s p, abandonCommands s p⟩, fun p s => commitCommands s p, fun p s => retryCommands s p⟩

end Sys2Proof.Machine

namespace Sys2Proof.Machine

/-! ### Hold-up reports (R50 to R52, R420) -/

/-- What HEALTH_REPLAN may change. -/
def Footprint.replan : Footprint := Footprint.event.plus [Reg.replans] []

/-- What a hold-up report may change, its place in the link apart. -/
def Footprint.holdup : Footprint := Footprint.event.plus
  [Reg.holdupEnergy, Reg.holdupSaveRate, Reg.holdupSaveEnergy, Reg.holdupDerate, Reg.replans] [.gov]

section
variable (s : State) {f : Footprint}

theorem State.frame_replanRecord (a u x o n m : Nat) (slope : Int) (h : Footprint.replan.le f = true) :
    (s.replanRecord a u x o n m slope).outside f = s.outside f := by
  refine State.outside_le h ?_
  rw [State.replanRecord, State.frame_raise _ _ _ _ (by decide), State.frame_recordMgmt _ _ _ _ _ _ (by decide),
    State.outside_bump _ _ _ _ _ (by decide)]

/-- The three figures of a report. -/
def State.holdupFigures (c energy rate cost : Nat) : State :=
  ((s.set Reg.holdupEnergy c energy).set Reg.holdupSaveRate c rate).set Reg.holdupSaveEnergy c cost

/-- The reports of a carrier, the newest first. -/
def State.holdupReports (c energy : Nat) : List (Nat × Nat) := (s.now, energy) :: (s.govCar c).reports.take 7

/-- A report is kept with its time, and the budget is asked for. -/
def State.holdupKept (c energy rate cost : Nat) : State :=
  (s.holdupFigures c energy rate cost).putGov c { s.govCar c with reports := s.holdupReports c energy, stale := false, recompute := true }

theorem State.holdup_open (c energy rate cost : Nat) (uncut : s.cutPassed = false) :
    s.holdup c energy rate cost = ((s.holdupKept c energy rate cost).withdrawUnit 0 0x021 c).derate c := by
  rw [State.holdup, if_neg (by rw [uncut]; decide)]
  rfl

/-- The derate moves by 0.5 % or more. -/
def derateMoves (new old : Nat) : Prop := ¬ 1000 * (max new old - min new old) < 5 * 65536

theorem State.derate_stands (c : Nat) (same : 1000 * (max (derateOf (s.govCar c).reports (s.get Reg.holdupLookahead)) (s.get Reg.holdupDerate c) -
    min (derateOf (s.govCar c).reports (s.get Reg.holdupLookahead)) (s.get Reg.holdupDerate c)) < 5 * 65536) : s.derate c = s := if_pos same

/-- The derate that a report gives, with the budget asked for again. -/
def State.derateTaken (c d : Nat) : State := (s.set Reg.holdupDerate c d).govAsk c

theorem State.derate_moves (c : Nat) (moves : derateMoves (derateOf (s.govCar c).reports (s.get Reg.holdupLookahead)) (s.get Reg.holdupDerate c)) :
    (s.derate c).outside .replan = (s.derateTaken c (derateOf (s.govCar c).reports (s.get Reg.holdupLookahead))).outside .replan := by
  rw [State.derate, if_neg moves]
  exact State.outside_ite _ ((State.frame_wake _ _ (by decide)).trans (State.frame_replanRecord _ _ _ _ _ _ _ _ (by decide)))
    (State.frame_replanRecord _ _ _ _ _ _ _ _ (by decide))

/-- What follows from the reports of a carrier: its derate, with the reports as they were. -/
theorem State.derate_effect (c : Nat) : (s.derate c).get Reg.holdupDerate c =
      (if 1000 * (max (derateOf (s.govCar c).reports (s.get Reg.holdupLookahead)) (s.get Reg.holdupDerate c) -
        min (derateOf (s.govCar c).reports (s.get Reg.holdupLookahead)) (s.get Reg.holdupDerate c)) < 5 * 65536 then s.get Reg.holdupDerate c
        else derateOf (s.govCar c).reports (s.get Reg.holdupLookahead)) ∧
    ((s.derate c).govCar c).reports = (s.govCar c).reports ∧ ((s.derate c).govCar c).stale = (s.govCar c).stale ∧
    ((s.govCar c).recompute = true → ((s.derate c).govCar c).recompute = true) ∧
    (s.derate c).outside (Footprint.replan.plus [Reg.holdupDerate] [.gov]) = s.outside (Footprint.replan.plus [Reg.holdupDerate] [.gov]) := by
  split
  next same =>
    rw [State.derate_stands s c same]
    exact ⟨rfl, rfl, rfl, id, rfl⟩
  next moves =>
    have told := State.derate_moves s c moves
    generalize derateOf (s.govCar c).reports (s.get Reg.holdupLookahead) = d at told moves ⊢
    have gov : (s.derate c).govCar c = { s.govCar c with recompute := true } := by
      rw [State.govCar, State.gov_of_outside told (by decide)]
      exact Tbl.getD_put_same _ _ _ _
    refine ⟨?_, ?_, ?_, fun _ => ?_, ?_⟩
    · rw [State.get_of_outside told _ _ (by decide)]
      exact State.get_set_same _ _ _ _
    · rw [gov]
    · rw [gov]
    · rw [gov]
    · rw [State.outside_le (by decide) told]
      exact (State.outside_putGov _ _ _ _ (by decide)).trans (State.outside_set _ _ _ _ _ (by decide))

end

/-- A report before the cut. -/
theorem State.holdup_effect (s : State) (c energy rate cost : Nat) (uncut : s.cutPassed = false) :
    (s.holdup c energy rate cost).get Reg.holdupEnergy c = energy ∧ (s.holdup c energy rate cost).get Reg.holdupSaveRate c = rate ∧
    (s.holdup c energy rate cost).get Reg.holdupSaveEnergy c = cost ∧
    ((s.holdup c energy rate cost).govCar c).reports = s.holdupReports c energy ∧
    ((s.holdup c energy rate cost).govCar c).stale = false ∧ ((s.holdup c energy rate cost).govCar c).recompute = true ∧
    (s.holdup c energy rate cost).get Reg.holdupDerate c =
      (if 1000 * (max (derateOf (s.holdupReports c energy) (s.get Reg.holdupLookahead)) (s.get Reg.holdupDerate c) -
        min (derateOf (s.holdupReports c energy) (s.get Reg.holdupLookahead)) (s.get Reg.holdupDerate c)) < 5 * 65536 then
        s.get Reg.holdupDerate c else derateOf (s.holdupReports c energy) (s.get Reg.holdupLookahead)) ∧
    (s.holdup c energy rate cost).outside .holdup = s.outside .holdup := by
  have figures : (s.holdupKept c energy rate cost).get Reg.holdupEnergy c = energy ∧
      (s.holdupKept c energy rate cost).get Reg.holdupSaveRate c = rate ∧ (s.holdupKept c energy rate cost).get Reg.holdupSaveEnergy c = cost := by
    refine ⟨?_, ?_, State.get_set_same _ _ _ _⟩
    · exact (State.get_set_register _ _ _ _ (by decide)).trans ((State.get_set_register _ _ _ _ (by decide)).trans (State.get_set_same _ _ _ _))
    · exact (State.get_set_register _ _ _ _ (by decide)).trans (State.get_set_same _ _ _ _)
  have gov : (s.holdupKept c energy rate cost).govCar c =
      { s.govCar c with reports := s.holdupReports c energy, stale := false, recompute := true } := Tbl.getD_put_same _ _ _ _
  have kept : (s.holdupKept c energy rate cost).outside ⟨[Reg.holdupEnergy, Reg.holdupSaveRate, Reg.holdupSaveEnergy], [.gov]⟩ =
      s.outside ⟨[Reg.holdupEnergy, Reg.holdupSaveRate, Reg.holdupSaveEnergy], [.gov]⟩ := by
    refine (State.outside_putGov _ _ _ _ (by decide)).trans ?_
    rw [State.holdupFigures, State.outside_set _ _ _ _ _ (by decide), State.outside_set _ _ _ _ _ (by decide),
      State.outside_set _ _ _ _ _ (by decide)]
  have healthy := State.frame_withdrawUnit (f := .event) (s.holdupKept c energy rate cost) 0 0x021 c (by decide)
  rw [State.holdup_open s c energy rate cost uncut]
  generalize s.holdupKept c energy rate cost = k at *
  generalize k.withdrawUnit 0 0x021 c = w at *
  have govW : w.govCar c = k.govCar c := by rw [State.govCar, State.gov_of_outside healthy (by decide), State.govCar]
  have lookahead : w.get Reg.holdupLookahead = s.get Reg.holdupLookahead :=
    (State.get_of_outside healthy _ _ (by decide)).trans (State.get_of_outside kept _ _ (by decide))
  have old : w.get Reg.holdupDerate c = s.get Reg.holdupDerate c :=
    (State.get_of_outside healthy _ _ (by decide)).trans (State.get_of_outside kept _ _ (by decide))
  obtain ⟨derate, reports, stale, recompute, told⟩ := w.derate_effect c
  rw [govW, gov] at derate reports stale recompute
  rw [lookahead, old] at derate
  obtain ⟨e, r, x⟩ := figures
  refine ⟨?_, ?_, ?_, reports, stale, recompute rfl, derate, ?_⟩
  · rw [State.get_of_outside told _ _ (by decide), State.get_of_outside healthy _ _ (by decide), e]
  · rw [State.get_of_outside told _ _ (by decide), State.get_of_outside healthy _ _ (by decide), r]
  · rw [State.get_of_outside told _ _ (by decide), State.get_of_outside healthy _ _ (by decide), x]
  · rw [State.outside_le (by decide) told, State.outside_le (by decide) healthy, State.outside_le (by decide) kept]

section
variable {s : State} (c : Fin 8) (awake : s.awake = true)
include awake

theorem exec_holdupReport_cut (l : Fin 2) (e r k : Nat) (cut : s.cutPassed = true) :
    exec (.holdupReport c l e r k) s = .next (s.after (s.consume (2 * c.val + l.val) (fun m => m.op == 0x20))) := by
  have consumed := State.frame_consume (f := ⟨[], [.links]⟩) s (2 * c.val + l.val) (fun m => m.op == 0x20) (by decide)
  have passed : (s.consume (2 * c.val + l.val) (fun m => m.op == 0x20)).cutPassed = true := by
    rw [State.cutPassed_of_outside consumed (by decide) (by decide), cut]
  rw [exec_holdupReport, execHoldupReport, act_of_awake _ _ awake, State.holdup, if_pos passed]

theorem exec_holdupReport_open (l : Fin 2) (e r k : Nat) (uncut : s.cutPassed = false) :
    ∃ t, exec (.holdupReport c l e r k) s = .next t ∧
      t.get Reg.holdupEnergy c.val = e ∧ t.get Reg.holdupSaveRate c.val = r ∧ t.get Reg.holdupSaveEnergy c.val = k ∧
      (t.govCar c.val).reports = s.holdupReports c.val e ∧ (t.govCar c.val).stale = false ∧ (t.govCar c.val).recompute = true ∧
      t.get Reg.holdupDerate c.val =
        (if 1000 * (max (derateOf (s.holdupReports c.val e) (s.get Reg.holdupLookahead)) (s.get Reg.holdupDerate c.val) -
          min (derateOf (s.holdupReports c.val e) (s.get Reg.holdupLookahead)) (s.get Reg.holdupDerate c.val)) < 5 * 65536 then
          s.get Reg.holdupDerate c.val else derateOf (s.holdupReports c.val e) (s.get Reg.holdupLookahead)) ∧
      s.changesOnly t (Footprint.event.plus [Reg.holdupEnergy, Reg.holdupSaveRate, Reg.holdupSaveEnergy,
        Reg.holdupDerate, Reg.replans] [.gov, .links]) := by
  have effect : exec (.holdupReport c l e r k) s = .next (s.after
      ((s.consume (2 * c.val + l.val) (fun m => m.op == 0x20)).holdup c.val e r k)) := by
    rw [exec_holdupReport, execHoldupReport]; exact act_of_awake s _ awake
  have consumed := State.frame_consume (f := ⟨[], [.links]⟩) s (2 * c.val + l.val) (fun m => m.op == 0x20) (by decide)
  generalize s.consume (2 * c.val + l.val) (fun m => m.op == 0x20) = u at effect consumed
  obtain ⟨energy, rate, cost, reports, stale, recompute, derate, frame⟩ := u.holdup_effect c.val e r k
    (by rw [State.cutPassed_of_outside consumed (by decide) (by decide), uncut])
  have same : u.holdupReports c.val e = s.holdupReports c.val e := by
    rw [State.holdupReports, State.now_of_outside consumed (by decide), State.govCar, State.gov_of_outside consumed (by decide)]
    rfl
  rw [same] at reports derate
  rw [State.get_of_outside consumed _ _ (by decide), State.get_of_outside consumed _ _ (by decide)] at derate
  exact ⟨_, effect, energy, rate, cost, reports, stale, recompute, derate,
    State.changesOnly_after _ _ ((State.outside_le (by decide) frame).trans (State.outside_le (by decide) consumed))⟩

theorem exec_holdupStale_eq : exec (.holdupStale c) s = .next (s.after (s.holdupStale c.val)) := by
  rw [exec_holdupStale, execHoldupStale]; exact act_of_awake s _ awake

theorem exec_holdupStale_due (fresh : (s.govCar c.val).stale = false)
    (reached : (s.linkIsUp (2 * c.val) || s.linkIsUp (2 * c.val + 1)) = true)
    (late : s.due ((((s.govCar c.val).reports.head?.map (·.1)).getD 0) + 250000 * s.get Reg.govReportMaxAge) = true) :
    exec (.holdupStale c) s = .next (s.after (State.raise
      { s with gov := Tbl.put s.gov c.val { s.govCar c.val with stale := true, recompute := true } } 0 0x021 c.val)) := by
  rw [exec_holdupStale_eq c awake, State.holdupStale]
  exact congrArg (fun x => Host.Outcome.next (s.after x))
    (if_pos (by rw [fresh, State.carrierReachable, reached, msCycles, Nat.mul_comm, late]; rfl))

theorem exec_holdupStale_early (early : (s.govCar c.val).stale = true ∨ (s.linkIsUp (2 * c.val) || s.linkIsUp (2 * c.val + 1)) = false ∨
    s.due ((((s.govCar c.val).reports.head?.map (·.1)).getD 0) + 250000 * s.get Reg.govReportMaxAge) = false) :
    exec (.holdupStale c) s = .next (s.after s) := by
  rw [exec_holdupStale_eq c awake, State.holdupStale]
  refine congrArg (fun x => Host.Outcome.next (s.after x)) (if_neg ?_)
  rw [State.carrierReachable, msCycles, Nat.mul_comm (s.get Reg.govReportMaxAge)]
  rcases early with early | early | early <;> simp [early]

end
end Sys2Proof.Machine

namespace Sys2Proof.Machine

/-! ### The head of the posted path (R54, R113) -/

section
variable {s : State} {i : Fin 256} {off : Nat} {data : List (Option Byte)} {ep ecc : Bool} {rest : List Instr}

/-- Nothing waits on the posted path. -/
def State.unposted (s : State) : State := { s with host := { s.host with posted := [] } }

theorem State.runPosted_eq (s : State) : s.runPosted = s.unposted.postedGo s.host.posted := rfl

/-- An image write at the head that is accepted lets the rest go on. -/
theorem State.runPosted_write (posted : s.host.posted = .hostWrite i ⟨.bar2, off⟩ data ep ecc :: rest) {v : State}
    (taken : s.unposted.tryWrite i.val off data ecc = some v) : s.runPosted = v.postedGo rest := by
  rw [State.runPosted_eq, posted, State.postedGo, if_neg (by exact Bool.false_ne_true)]
  rw [show s.unposted.takeNow (.hostWrite i ⟨.bar2, off⟩ data ep ecc) = some v from taken]

/-- One that is still held keeps its place. -/
theorem State.runPosted_held (posted : s.host.posted = .hostWrite i ⟨.bar2, off⟩ data ep ecc :: rest)
    (held : s.unposted.tryWrite i.val off data ecc = none) : s.runPosted = s := by
  rw [State.runPosted_eq, posted, State.postedGo, if_neg (by exact Bool.false_ne_true)]
  rw [show s.unposted.takeNow (.hostWrite i ⟨.bar2, off⟩ data ep ecc) = none from held]
  show ({ s with host := { s.host with posted := _ } } : State) = s
  rw [← posted]

/-- A publish at the head that finds its entry moves the log. -/
theorem State.runPosted_publish {o n v : Nat} {a : Bool} (posted : s.host.posted = .appendPublish i o n a v :: rest)
    (accepted : s.resetting i.val = false) (room : s.unposted.doorbellWaits i.val o n a false v = false) :
    s.runPosted = (s.unposted.appendDoorbell i.val o n a false v).postedGo rest := by
  have vain : s.unposted.waitsInVain (.appendPublish i o n a v) = false := accepted
  have takes : s.unposted.takeNow (.appendPublish i o n a v) = some (s.unposted.appendDoorbell i.val o n a false v) :=
    if_neg (by rw [room]; exact Bool.false_ne_true)
  rw [State.runPosted_eq, posted, State.postedGo, if_neg (by rw [vain]; exact Bool.false_ne_true), takes]

end

section
variable {s : State} (awake : s.awake = true)
include awake

theorem exec_pendingEntryFree_eq : exec .pendingEntryFree s = .next (s.after (s.beforeCut State.runPosted)) := by
  rw [exec_pendingEntryFree, execPendingEntryFree]; exact act_of_awake s _ awake

theorem exec_governorAdmit_eq : exec .governorAdmit s =
    .next (s.after (s.beforeCut (fun s => ((s.runRxWait.pumpAllWrites).runPosted).runReadWait))) := by
  rw [exec_governorAdmit, execGovernorAdmit]; exact act_of_awake s _ awake

theorem exec_pendingEntryFree_open (uncut : s.cutPassed = false) : exec .pendingEntryFree s = .next (s.after s.runPosted) := by
  rw [exec_pendingEntryFree_eq awake, State.beforeCut_open _ _ uncut]

/-- Where no copy and no DMA channel waits, the governor admits the head of the posted path and then the reads. -/
theorem exec_governorAdmit_posted (uncut : s.cutPassed = false) (copies : s.mirror.rxWait = []) (chans : s.dma.chans = []) :
    exec .governorAdmit s = .next (s.after s.runPosted.runReadWait) := by
  have received : s.runRxWait = s := by
    rw [State.runRxWait, copies]
    show ({ s with mirror := { s.mirror with rxWait := _ } } : State) = s
    rw [← copies]
  have pumped : s.pumpAllWrites = s := by rw [State.pumpAllWrites, chans]; rfl
  rw [exec_governorAdmit_eq awake, State.beforeCut_open _ _ uncut, received, pumped]

end

/-- With no read that waits there is none to run. -/
theorem State.runReadWait_none {s : State} (reads : s.host.readWait = []) : s.runReadWait = s := by
  rw [State.runReadWait, reads]
  show ({ s with host := { s.host with readWait := _ } } : State) = s
  rw [← reads]

/-- Settles O16: what a report keeps and derates, and what the head of the posted path does once it is tried again. -/
theorem governorFollowsReports : Obligations.GovernorFollowsReports := by
  refine ⟨fun c l e r k d s u awake hu hd => ⟨fun cut => ?_, fun uncut => ?_, exec_holdupStale_due c awake, exec_holdupStale_early c awake⟩,
    fun i off data ep ecc rest s u awake (hu : u = s.unposted) => hu ▸ ⟨fun cut => ⟨?_, ?_⟩, fun v uncut posted taken => ⟨?_, fun copies chans => ?_⟩,
      fun uncut posted held => ⟨?_, fun copies chans reads => ?_⟩, fun o n a v uncut posted accepted room => ?_⟩⟩
  · rw [hu]
    exact exec_holdupReport_cut c awake l e r k cut
  · rw [hd]
    exact exec_holdupReport_open c awake l e r k uncut
  · rw [exec_governorAdmit_eq awake, State.beforeCut_cut _ _ cut]
  · rw [exec_pendingEntryFree_eq awake, State.beforeCut_cut _ _ cut]
  · rw [exec_pendingEntryFree_open awake uncut, State.runPosted_write posted taken]
  · rw [exec_governorAdmit_posted awake uncut copies chans, State.runPosted_write posted taken]
  · rw [exec_pendingEntryFree_open awake uncut, State.runPosted_held posted held]
  · rw [exec_governorAdmit_posted awake uncut copies chans, State.runPosted_held posted held, State.runReadWait_none reads]
  · rw [exec_pendingEntryFree_open awake uncut, State.runPosted_publish posted accepted room]

end Sys2Proof.Machine

namespace Sys2Proof.Machine

/-! ### What the host asks of a BAR (R164, R167, R171) -/

section
variable {s : State} {i : Nat} {b : Bar} {addr len off : Nat}

theorem State.barOffset_none (out : len = 0 ∨ addr < s.barBase i b ∨ s.barBase i b + s.barSize i b < addr + len) :
    s.barOffset i b addr len = none := if_neg (by omega)

theorem State.barOffset_some (nonzero : 0 < len) (at' : addr = s.barBase i b + off) (fits : off + len ≤ s.barSize i b) :
    s.barOffset i b addr len = some off := by
  rw [State.barOffset, if_pos (by omega), at', Nat.add_sub_cancel_left]

end

section
variable (s : State) (c : Instr)

/-- Behind what the host has posted, what it sends waits. -/
theorem State.takeOrWait_behind (behind : s.host.posted ≠ []) :
    s.takeOrWait c = { s with host := { s.host with posted := s.host.posted ++ [c] } } := by
  have waits : s.host.posted.isEmpty = false := by simpa using behind
  rw [State.takeOrWait, State.posted, if_neg (by rw [waits]; exact Bool.false_ne_true)]

theorem State.takeOrWait_takes {t : State} (first : s.host.posted = []) (takes : s.takeNow c = some t) : s.takeOrWait c = t := by
  rw [State.takeOrWait, State.posted, if_pos (by rw [first]; rfl), takes]

theorem State.takeOrWait_held (first : s.host.posted = []) (held : s.takeNow c = none) :
    s.takeOrWait c = { s with host := { s.host with posted := [c] } } := by
  rw [State.takeOrWait, State.posted, if_pos (by rw [first]; rfl), held]
  rfl

end

/-! ### A read of a BAR -/

section
variable {s : State} {i : Fin 256} {b : Bar} {addr len tag off : Nat}

/-- The wake that the arrival of a read latches. -/
def State.readWakes (s : State) (b : Bar) : State := if b = .bar2 then s.wakeOutsideA0 14 else s

theorem exec_hostRead_eq (powered : s.clock.powered = true) : exec (.hostRead i ⟨b, addr⟩ len tag) s = .next (s.after (s.beforeCut (fun s =>
    match s.barOffset i.val b addr len with
    | none => s
    | some off =>
      if 4096 < len then s.badTlp .malformed i.val tag false
      else if !((s.readWakes b).accepts i.val b off) || bar0Breaks b off len then (s.readWakes b).unsupported i.val tag len false
      else (s.readWakes b).takeOrWait (.hostRead i ⟨b, off⟩ len tag)))) := by
  rw [exec_hostRead, execHostRead]
  exact actRom_powered _ _ powered

variable (powered : s.clock.powered = true) (uncut : s.cutPassed = false)
include powered uncut

theorem exec_hostRead_outside (out : len = 0 ∨ addr < s.barBase i.val b ∨ s.barBase i.val b + s.barSize i.val b < addr + len) :
    exec (.hostRead i ⟨b, addr⟩ len tag) s = .next (s.after s) := by
  rw [exec_hostRead_eq powered, State.beforeCut_open _ _ uncut, State.barOffset_none out]

variable (nonzero : 0 < len) (at' : addr = s.barBase i.val b + off) (fits : off + len ≤ s.barSize i.val b)
include nonzero at' fits

theorem exec_hostRead_long (long : 4096 < len) :
    exec (.hostRead i ⟨b, addr⟩ len tag) s = .next (s.after ((s.aerUncor 0 18).raise 0 0x004 0)) := by
  rw [exec_hostRead_eq powered, State.beforeCut_open _ _ uncut, State.barOffset_some nonzero at' fits]
  exact congrArg (fun x => Host.Outcome.next (s.after x)) (if_pos long)

theorem exec_hostRead_unsupported (short : len ≤ 4096) (bad : (s.readWakes b).accepts i.val b off = false ∨ bar0Breaks b off len = true) :
    exec (.hostRead i ⟨b, addr⟩ len tag) s = .next (s.after
      ((((s.readWakes b).aerUncor i.val 20).aerCor i.val 13).answerRead i.val tag .ur len [])) := by
  rw [exec_hostRead_eq powered, State.beforeCut_open _ _ uncut, State.barOffset_some nonzero at' fits]
  dsimp only
  rw [if_neg (Nat.not_lt.mpr short), if_pos (by rcases bad with bad | bad <;> simp [bad])]
  rfl

theorem exec_hostRead_turn (short : len ≤ 4096) (good : (s.readWakes b).accepts i.val b off = true) (whole : bar0Breaks b off len = false) :
    exec (.hostRead i ⟨b, addr⟩ len tag) s = .next (s.after ((s.readWakes b).takeOrWait (.hostRead i ⟨b, off⟩ len tag))) := by
  rw [exec_hostRead_eq powered, State.beforeCut_open _ _ uncut, State.barOffset_some nonzero at' fits]
  dsimp only
  rw [if_neg (Nat.not_lt.mpr short), if_neg (by rw [good, whole]; exact Bool.false_ne_true)]

end

/-! #### Its turn -/

section
variable (u : State) (i off len tag : Nat)

theorem State.pageRead_word (page : pageAt i (off / 8 * 8) ≠ (.claim, 0)) :
    u.pageRead i off len tag = u.answerRead i tag .sc len (slice (le 8 (u.pageWord i (off / 8 * 8))) (off % 8) len) := if_neg page

theorem State.pageRead_claim (page : pageAt i (off / 8 * 8) = (.claim, 0)) :
    u.pageRead i off 8 tag = (u.claimNow i).answerRead i tag .sc 8 (le 8 (u.claimWord i)) := (if_pos page).trans (if_pos rfl)

theorem State.hostReadNow_waits (c : Instr) (no : u.host.readWait ≠ [] ∨ u.readRoom i off len = false) :
    u.hostReadNow c i off len tag = { u with host := { u.host with readWait := u.host.readWait ++ [c] } } := by
  refine if_neg (fun h => ?_)
  rw [Bool.and_eq_true, List.isEmpty_iff] at h
  obtain ⟨first, room⟩ := h
  rcases no with no | no
  · exact no first
  · exact Bool.false_ne_true (no.symm.trans room)

theorem State.hostReadNow_takes (c : Instr) (first : u.host.readWait = []) (room : u.readRoom i off len = true) :
    u.hostReadNow c i off len tag = u.takeRead i off len tag := if_pos (by rw [first, room]; rfl)

theorem State.takeRead_closed (closed : u.windowsOpen = false) :
    u.takeRead i off len tag = u.refuseAccess i tag len false off ⟨8, 1, u.get Reg.imageState⟩ none := if_pos (by rw [closed]; rfl)

theorem State.takeRead_fault {p : WPart} {f : PartFault} (opened : u.windowsOpen = true)
    (fault : u.decidingFault i false (u.partsOf i off len) = some (p, f)) :
    u.takeRead i off len tag = u.refuseAccess i tag len false p.w f p.row := by
  rw [State.takeRead, opened, if_neg (by exact Bool.false_ne_true)]
  dsimp only
  rw [fault]

theorem State.takeRead_starts (opened : u.windowsOpen = true) (fine : u.decidingFault i false (u.partsOf i off len) = none) :
    u.takeRead i off len tag = u.startRead i off len tag (u.partsOf i off len) := by
  rw [State.takeRead, opened, if_neg (by exact Bool.false_ne_true)]
  dsimp only
  rw [fine]

/-- A read that is started has its job, and its parts are on their way. -/
theorem State.startRead_effect (ps : List WPart) :
    (u.startRead i off len tag ps).host.reads =
      u.host.reads ++ [⟨u.host.nextRead, i, tag, off, len, u.now, ps.map (fun p => ⟨p.ia, p.len, none, 0, false⟩)⟩] ∧
    (u.startRead i off len tag ps).host.nextRead = u.host.nextRead + 1 ∧
    (u.startRead i off len tag ps).outside (Footprint.touch.plus [] [.host]) = u.outside (Footprint.touch.plus [] [.host]) := by
  have told (x : State) (id : Nat) : (x.each ps.zipIdx (fun s x => s.imageAccess 2 i false x.1.ia x.1.len [] false (.hostRead id x.2))).outside .touch =
      x.outside .touch := State.outside_each _ _ _ _ (fun s x => State.frame_imageAccess _ _ _ _ _ _ _ _ _ (by decide))
  unfold State.startRead
  dsimp only
  refine ⟨?_, ?_, ?_⟩
  · rw [State.host_of_outside (told _ _) (by decide)]
    rfl
  · rw [State.host_of_outside (told _ _) (by decide)]
    rfl
  · rw [State.outside_le (by decide) (told _ _)]
    exact State.outside_host _ _ (by decide)

end

/-- Settles O18: a read of the host is decoded as it arrives, and answered as Table 7.8 and its BAR say when its turn comes. -/
theorem hostReads : Obligations.HostReads := by
  intro i b addr len tag s u powered
  refine ⟨fun cut => ?_, fun uncut => ⟨exec_hostRead_outside powered uncut, fun off nonzero at' fits hu => ?_⟩⟩
  · rw [exec_hostRead_eq powered, State.beforeCut_cut _ _ cut]
  replace hu : u = s.readWakes b := hu
  subst hu
  refine ⟨exec_hostRead_long powered uncut nonzero at' fits, exec_hostRead_unsupported powered uncut nonzero at' fits,
    fun short good whole behind => ?_, fun short good whole first => ?_⟩
  · rw [exec_hostRead_turn powered uncut nonzero at' fits short good whole, State.takeOrWait_behind _ _ behind]
  have turn : exec (.hostRead i ⟨b, addr⟩ len tag) s = .next (s.after ((s.readWakes b).takeHostRead i b off len tag)) := by
    rw [exec_hostRead_turn powered uncut nonzero at' fits short good whole, State.takeOrWait_takes _ _ first rfl]
  refine ⟨fun hb => ?_, fun hb page => ?_, fun hb page hl => ?_, fun hb no => ?_, fun hb empty room => ⟨fun closed => ?_,
    fun p f opened fault => ?_, fun opened fine => ?_⟩⟩
  · subst hb
    exact turn
  · subst hb
    exact turn.trans (congrArg (fun x => Host.Outcome.next (s.after x)) (State.pageRead_word _ _ _ _ _ page))
  · subst hb
    subst hl
    exact turn.trans (congrArg (fun x => Host.Outcome.next (s.after x)) (State.pageRead_claim _ _ _ _ page))
  all_goals subst hb
  · exact turn.trans (congrArg (fun x => Host.Outcome.next (s.after x)) (State.hostReadNow_waits _ _ _ _ _ _ no))
  all_goals replace turn := turn.trans (congrArg (fun x => Host.Outcome.next (s.after x)) (State.hostReadNow_takes _ _ _ _ _ _ empty room))
  · rw [turn, State.takeRead_closed _ _ _ _ _ closed]
  · rw [turn, State.takeRead_fault _ _ _ _ _ opened fault]
  · rw [State.takeRead_starts _ _ _ _ _ opened fine] at turn
    have woken : (s.readWakes .bar2).outside .event = s.outside .event := State.frame_wakeOutsideA0 _ _ (by decide)
    generalize s.readWakes .bar2 = u at *
    obtain ⟨reads, next, frame⟩ := u.startRead_effect i.val off len tag (u.partsOf i.val off len)
    rw [State.host_of_outside woken (by decide)] at reads next
    rw [State.now_of_outside woken (by decide)] at reads
    generalize u.startRead i.val off len tag (u.partsOf i.val off len) = t at *
    exact ⟨_, turn, reads, next, State.changesOnly_after _ _
      ((State.outside_le (by decide) frame).trans (State.outside_le (by decide) woken))⟩

end Sys2Proof.Machine

namespace Sys2Proof.Machine

/-! ### An accepted write (R48, R111, R134) -/

/-- What the copies of a write may change. -/
def Footprint.copies : Footprint := Footprint.entries.plus Footprint.mirrorState.regs [.mirror]

/-- What an accepted write may change. -/
def Footprint.accepted : Footprint := Footprint.touch.plus ([Reg.govDirty, Reg.govState] ++ Footprint.mirrorState.regs) [.persist, .append, .mirror]

section
variable (s : State)

theorem State.copies_copyWrite (i n : Nat) (runs : List (Nat × List Byte)) : (s.copyWrite i n runs).outside .copies = s.outside .copies := by
  refine State.outside_ite _ (State.outside_each _ _ _ _ (fun s x => ?_)) (State.outside_ite _
    (State.outside_each _ _ _ _ (fun s x => State.frame_markSegment s _ (by decide))) rfl)
  dsimp only
  refine State.outside_ite _ ((State.outside_modMirror _ _ _ (by decide)).trans (State.outside_modMirror _ _ _ (by decide))) ?_
  rw [State.frame_queueCopy _ _ (by decide), State.outside_modMirror _ _ _ (by decide)]

/-- The write has its number. -/
def State.writeNumbered (i off : Nat) (data : List (Option Byte)) (ps : List WPart) : State :=
  let runs := s.copyRuns (ps.map (fun p => (p.ia, partData off data p)))
  let s := s.dirtySegments (ps.map (·.ia))
  s.numberWrite i ps.length (if s.sendsCopies then runs.length else 0)

/-- Its parts go to their ports. -/
def State.partsGoOut (i off : Nat) (data : List (Option Byte)) (poison : Bool) (ps : List WPart) (num : Nat) : State :=
  s.each ps (fun s p => s.imageAccess (s.partService p) i true p.ia p.len (partData off data p) poison (.hostWrite i num))

theorem State.acceptWrite_eq (i off : Nat) (data : List (Option Byte)) (poison : Bool) (ps : List WPart) :
    s.acceptWrite i off data poison ps =
      (((s.writeNumbered i off data ps).partsGoOut i off data poison ps ((s.writeNumbered i off data ps).lastWrite i)).copyWrite i
        ((s.writeNumbered i off data ps).lastWrite i) (s.copyRuns (ps.map (fun p => (p.ia, partData off data p))))).pruneWrites := rfl

theorem State.frame_partsGoOut (i off : Nat) (data : List (Option Byte)) (poison : Bool) (ps : List WPart) (num : Nat) :
    (s.partsGoOut i off data poison ps num).outside .touch = s.outside .touch :=
  State.outside_each _ _ _ _ (fun s p => State.frame_imageAccess _ _ _ _ _ _ _ _ _ (by decide))

/-- Every segment of the write is dirty, and it has the next number of its instance. -/
theorem State.writeNumbered_effect (i off : Nat) (data : List (Option Byte)) (ps : List WPart) :
    (s.writeNumbered i off data ps).lastWrite i = s.lastWrite i + 1 ∧
    (∀ p ∈ ps, (s.writeNumbered i off data ps).persist.dirty.mem (segmentOf p.ia) = true) ∧
    (s.writeNumbered i off data ps).outside .accepted = s.outside .accepted := by
  have dirty (p : WPart) (hp : p ∈ ps) := State.mem_dirtySegments s (List.mem_map_of_mem (f := WPart.ia) hp)
  have frame := State.frame_dirtySegments s (ps.map (·.ia)) (f := Footprint.touch.plus [Reg.govDirty, Reg.govState] [.persist]) (by decide) (by decide)
  have append : (s.dirtySegments (ps.map (·.ia))).append = s.append := State.append_of_outside frame (by decide)
  unfold State.writeNumbered
  dsimp only
  generalize s.dirtySegments (ps.map (·.ia)) = d at *
  refine ⟨?_, dirty, (State.frame_numberWrite _ _ _ _ (by decide)).trans (State.outside_le (by decide) frame)⟩
  rw [State.lastWrite, State.numberWrite]
  refine (Tbl.getD_put_same _ _ _ _).trans ?_
  rw [State.lastWrite, append, State.lastWrite]

theorem State.acceptWrite_effect (i off : Nat) (data : List (Option Byte)) (poison : Bool) (ps : List WPart) :
    (s.acceptWrite i off data poison ps).lastWrite i = s.lastWrite i + 1 ∧
    (∀ p ∈ ps, (s.acceptWrite i off data poison ps).persist.dirty.mem (segmentOf p.ia) = true) ∧
    (s.acceptWrite i off data poison ps).outside .accepted = s.outside .accepted := by
  obtain ⟨number, dirty, frame⟩ := s.writeNumbered_effect i off data ps
  rw [State.acceptWrite_eq]
  generalize s.writeNumbered i off data ps = w at *
  have out := State.frame_partsGoOut w i off data poison ps (w.lastWrite i)
  generalize w.partsGoOut i off data poison ps (w.lastWrite i) = g at *
  have copied := State.copies_copyWrite g i (w.lastWrite i) (s.copyRuns (ps.map (fun p => (p.ia, partData off data p))))
  generalize g.copyWrite i (w.lastWrite i) (s.copyRuns (ps.map (fun p => (p.ia, partData off data p)))) = t at *
  refine ⟨?_, fun p hp => ?_, ?_⟩
  · show t.lastWrite i = _
    rw [State.lastWrite, State.append_of_outside copied (by decide), State.append_of_outside out (by decide)]
    exact number
  · show t.persist.dirty.mem _ = _
    rw [State.persist_of_outside copied (by decide), State.persist_of_outside out (by decide)]
    exact dirty p hp
  · rw [State.frame_pruneWrites _ (by decide), State.outside_le (by decide) copied, State.outside_le (by decide) out, frame]

end
end Sys2Proof.Machine

namespace Sys2Proof.Machine

/-! ### A write of a BAR -/

section
variable {s : State} {i : Fin 256} {b : Bar} {addr off : Nat} {data : List (Option Byte)} {ep ecc : Bool}

theorem exec_hostWrite_eq (powered : s.clock.powered = true) : exec (.hostWrite i ⟨b, addr⟩ data ep ecc) s =
    .next (s.after (s.beforeCut (fun s => match s.barOffset i.val b addr data.length with
      | none => s
      | some off =>
        if 512 < data.length ∨ enablesFit off data = false then s.badTlp .malformed i.val 0 true
        else if !((s.writeWakes i.val b off).accepts i.val b off) then (s.writeWakes i.val b off).unsupported i.val 0 data.length true
        else if ep then (s.writeWakes i.val b off).aerUncor i.val 12
        else if bar0Breaks b off data.length then (s.writeWakes i.val b off).unsupported i.val 0 data.length true
        else (s.writeWakes i.val b off).takeOrWait (.hostWrite i ⟨b, off⟩ data ep ecc)))) := by
  rw [exec_hostWrite, execHostWrite]
  exact actRom_powered _ _ powered

variable (powered : s.clock.powered = true) (uncut : s.cutPassed = false)
include powered uncut

theorem exec_hostWrite_outside (out : data = [] ∨ addr < s.barBase i.val b ∨ s.barBase i.val b + s.barSize i.val b < addr + data.length) :
    exec (.hostWrite i ⟨b, addr⟩ data ep ecc) s = .next (s.after s) := by
  rw [exec_hostWrite_eq powered, State.beforeCut_open _ _ uncut,
    State.barOffset_none (out.imp_left (fun h => List.length_eq_zero_iff.mpr h))]

variable (nonzero : 0 < data.length) (at' : addr = s.barBase i.val b + off) (fits : off + data.length ≤ s.barSize i.val b)
include nonzero at' fits

theorem exec_hostWrite_malformed (bad : 512 < data.length ∨ enablesFit off data = false) :
    exec (.hostWrite i ⟨b, addr⟩ data ep ecc) s = .next (s.after ((s.aerUncor 0 18).raise 0 0x004 0)) := by
  rw [exec_hostWrite_eq powered, State.beforeCut_open _ _ uncut, State.barOffset_some nonzero at' fits]
  exact congrArg (fun x => Host.Outcome.next (s.after x)) (if_pos bad)

variable (short : data.length ≤ 512) (fit : enablesFit off data = true)
include short fit

/-- A write that is well formed is decoded before anything else of it is looked at. -/
theorem exec_hostWrite_decoded : exec (.hostWrite i ⟨b, addr⟩ data ep ecc) s = .next (s.after
    (if !((s.writeWakes i.val b off).accepts i.val b off) then (s.writeWakes i.val b off).unsupported i.val 0 data.length true
      else if ep then (s.writeWakes i.val b off).aerUncor i.val 12
      else if bar0Breaks b off data.length then (s.writeWakes i.val b off).unsupported i.val 0 data.length true
      else (s.writeWakes i.val b off).takeOrWait (.hostWrite i ⟨b, off⟩ data ep ecc))) := by
  have formed : ¬ (512 < data.length ∨ enablesFit off data = false) := by
    rintro (long | unfit)
    · omega
    · exact Bool.false_ne_true (unfit.symm.trans fit)
  rw [exec_hostWrite_eq powered, State.beforeCut_open _ _ uncut, State.barOffset_some nonzero at' fits]
  exact congrArg (fun x => Host.Outcome.next (s.after x)) (if_neg formed)

theorem exec_hostWrite_gone (gone : (s.writeWakes i.val b off).accepts i.val b off = false) :
    exec (.hostWrite i ⟨b, addr⟩ data ep ecc) s = .next (s.after ((s.writeWakes i.val b off).aerUncor i.val 20)) := by
  rw [exec_hostWrite_decoded powered uncut nonzero at' fits short fit, if_pos (by rw [gone]; rfl)]
  rfl

variable (there : (s.writeWakes i.val b off).accepts i.val b off = true)
include there

theorem exec_hostWrite_poisoned :
    exec (.hostWrite i ⟨b, addr⟩ data true ecc) s = .next (s.after ((s.writeWakes i.val b off).aerUncor i.val 12)) := by
  rw [exec_hostWrite_decoded powered uncut nonzero at' fits short fit, if_neg (by rw [there]; exact Bool.false_ne_true), if_pos rfl]

theorem exec_hostWrite_breaks (breaks : bar0Breaks b off data.length = true) :
    exec (.hostWrite i ⟨b, addr⟩ data false ecc) s = .next (s.after ((s.writeWakes i.val b off).aerUncor i.val 20)) := by
  rw [exec_hostWrite_decoded powered uncut nonzero at' fits short fit, if_neg (by rw [there]; exact Bool.false_ne_true),
    if_neg Bool.false_ne_true, if_pos breaks]
  rfl

theorem exec_hostWrite_turn (whole : bar0Breaks b off data.length = false) : exec (.hostWrite i ⟨b, addr⟩ data false ecc) s =
    .next (s.after ((s.writeWakes i.val b off).takeOrWait (.hostWrite i ⟨b, off⟩ data false ecc))) := by
  rw [exec_hostWrite_decoded powered uncut nonzero at' fits short fit, if_neg (by rw [there]; exact Bool.false_ne_true),
    if_neg Bool.false_ne_true, if_neg (by rw [whole]; exact Bool.false_ne_true)]

end

/-! #### Its turn -/

section
variable (u : State) (i : Nat) (off : Nat) (data : List (Option Byte)) (ecc : Bool)

theorem State.tryWrite_closed (closed : u.windowsOpen = false) : u.tryWrite i off data ecc =
    some (u.refuseAccess i 0 data.length true off ⟨8, 1, u.get Reg.imageState⟩ none) := if_pos (by rw [closed]; rfl)

variable {u} (opened : u.windowsOpen = true)
include opened

theorem State.tryWrite_stopped (stopped : u.persist.writesStopped = true) : u.tryWrite i off data ecc = none :=
  (if_neg (by rw [opened]; exact Bool.false_ne_true)).trans (if_pos stopped)

variable (goes : u.persist.writesStopped = false)
include goes

/-- While writes are not stopped, the parts of a write decide. -/
theorem State.tryWrite_parts : u.tryWrite i off data ecc =
    (match u.decidingFault i true (u.partsOf i off data.length) with
    | some (p, f) => some (u.refuseAccess i 0 data.length true p.w f p.row)
    | none =>
      if u.writeRoom (u.partsOf i off data.length)
          (u.copyRuns ((u.partsOf i off data.length).map (fun p => (p.ia, partData off data p)))) data.length then
        some ((if ecc then (u.aerUncor 0 22).raise 0 0x004 0 else u).acceptWrite i off data ecc (u.partsOf i off data.length))
      else none) :=
  (if_neg (by rw [opened]; exact Bool.false_ne_true)).trans (if_neg (by rw [goes]; exact Bool.false_ne_true))

theorem State.tryWrite_fault {p : WPart} {f : PartFault} (fault : u.decidingFault i true (u.partsOf i off data.length) = some (p, f)) :
    u.tryWrite i off data ecc = some (u.refuseAccess i 0 data.length true p.w f p.row) := by
  rw [State.tryWrite_parts i off data ecc opened goes, fault]

variable (fine : u.decidingFault i true (u.partsOf i off data.length) = none)
include fine

theorem State.tryWrite_full (full : u.writeRoom (u.partsOf i off data.length)
      (u.copyRuns ((u.partsOf i off data.length).map (fun p => (p.ia, partData off data p)))) data.length = false) :
    u.tryWrite i off data ecc = none := by
  rw [State.tryWrite_parts i off data ecc opened goes, fine]
  exact if_neg (by rw [full]; exact Bool.false_ne_true)

theorem State.tryWrite_accepts (room : u.writeRoom (u.partsOf i off data.length)
      (u.copyRuns ((u.partsOf i off data.length).map (fun p => (p.ia, partData off data p)))) data.length = true) :
    u.tryWrite i off data ecc =
      some ((if ecc then (u.aerUncor 0 22).raise 0 0x004 0 else u).acceptWrite i off data ecc (u.partsOf i off data.length)) := by
  rw [State.tryWrite_parts i off data ecc opened goes, fine]
  exact if_pos room

end

theorem State.frame_writeWakes {f : Footprint} (s : State) (i : Nat) (b : Bar) (off : Nat) (h : Footprint.event.le f = true) :
    (s.writeWakes i b off).outside f = s.outside f := by
  cases b with
  | bar0 => exact State.outside_ite _ (State.frame_wakeOutsideA0 _ _ h) rfl
  | bar2 => exact State.frame_wakeOutsideA0 _ _ h
  | bar4 => exact State.frame_wakeOutsideA0 _ _ h

/-- A write whose buffered payload has an uncorrectable error is discarded outside BAR2 (row 13). -/
theorem State.takeHostWrite_discards (u : State) (i : Fin 256) (b : Bar) (off : Nat) (data : List (Option Byte)) (other : b ≠ .bar2) :
    u.takeHostWrite i b off data true = some ((u.aerUncor 0 22).raise 0 0x004 0) := by
  cases b with
  | bar0 => rfl
  | bar2 => exact absurd rfl other
  | bar4 => rfl

theorem State.takeNow_hostWrite (u : State) (i : Fin 256) (b : Bar) (off : Nat) (data : List (Option Byte)) (ep ecc : Bool) :
    u.takeNow (.hostWrite i ⟨b, off⟩ data ep ecc) = u.takeHostWrite i b off data ecc := rfl

/-- Settles O19: a write of the host is decoded as it arrives, and refused, kept or taken as its BAR says when its turn comes. -/
theorem hostWrites : Obligations.HostWrites := by
  intro i b addr data ecc s u powered
  refine ⟨fun ep cut => ?_, fun ep uncut => exec_hostWrite_outside powered uncut, fun off uncut nonzero at' fits hu => ?_⟩
  · rw [exec_hostWrite_eq powered, State.beforeCut_cut _ _ cut]
  subst hu
  refine ⟨fun ep => exec_hostWrite_malformed powered uncut nonzero at' fits, fun short fit =>
    ⟨fun ep => exec_hostWrite_gone powered uncut nonzero at' fits short fit,
    exec_hostWrite_poisoned powered uncut nonzero at' fits short fit, exec_hostWrite_breaks powered uncut nonzero at' fits short fit,
    fun there whole behind => ?_, fun there whole first => ?_⟩⟩
  · rw [exec_hostWrite_turn powered uncut nonzero at' fits short fit there whole, State.takeOrWait_behind _ _ behind]
  have woken : (s.writeWakes i.val b off).outside .event = s.outside .event := State.frame_writeWakes _ _ _ _ (by decide)
  have turn (ecc : Bool) : exec (.hostWrite i ⟨b, addr⟩ data false ecc) s = .next (s.after
      ((s.writeWakes i.val b off).takeOrWait (.hostWrite i ⟨b, off⟩ data false ecc))) :=
    exec_hostWrite_turn powered uncut nonzero at' fits short fit there whole
  generalize s.writeWakes i.val b off = u at *
  have taken (ecc : Bool) {v : State} (takes : u.takeHostWrite i b off data ecc = some v) :
      exec (.hostWrite i ⟨b, addr⟩ data false ecc) s = .next (s.after v) := by
    rw [turn, State.takeOrWait_takes u _ first ((State.takeNow_hostWrite u i b off data false ecc).trans takes)]
  have held (ecc : Bool) (waits : u.takeHostWrite i b off data ecc = none) : exec (.hostWrite i ⟨b, addr⟩ data false ecc) s =
      .next (s.after { u with host := { u.host with posted := [.hostWrite i ⟨b, off⟩ data false ecc] } }) := by
    rw [turn, State.takeOrWait_held u _ first ((State.takeNow_hostWrite u i b off data false ecc).trans waits)]
  refine ⟨fun hb => taken false ?_, fun v hb takes => taken false ?_, fun hb waits => held false ?_,
    fun other => taken true (State.takeHostWrite_discards u i b off data other), fun hb => ?_⟩
  · subst hb; rfl
  · subst hb; exact takes
  · subst hb; exact waits
  subst hb
  refine ⟨fun closed => taken ecc (State.tryWrite_closed _ _ _ _ _ closed), fun opened stopped => held ecc (State.tryWrite_stopped _ _ _ _ opened stopped),
    fun p f opened goes fault => taken ecc (State.tryWrite_fault _ _ _ _ opened goes fault), fun ps opened goes hps fine => ?_⟩
  subst hps
  refine ⟨fun full => held ecc (State.tryWrite_full _ _ _ _ opened goes fine full), fun room => ⟨?_, ?_⟩⟩
  · have accepted := State.tryWrite_accepts i.val off data true opened goes fine room
    rw [if_pos rfl] at accepted
    exact taken true accepted
  have accepted := State.tryWrite_accepts i.val off data false opened goes fine room
  rw [if_neg Bool.false_ne_true] at accepted
  have effect := taken false accepted
  obtain ⟨number, dirty, frame⟩ := u.acceptWrite_effect i.val off data false (u.partsOf i.val off data.length)
  generalize u.acceptWrite i.val off data false (u.partsOf i.val off data.length) = t at *
  refine ⟨_, effect, number.trans ?_, dirty, ?_, ?_, ?_⟩
  · rw [State.lastWrite, State.append_of_outside woken (by decide), State.lastWrite]
  · exact (State.host_of_outside frame (by decide)).trans (State.host_of_outside woken (by decide))
  · exact (State.keep_of_outside frame (by decide)).trans (State.keep_of_outside woken (by decide))
  · exact (State.image_of_outside frame (by decide)).trans (State.image_of_outside woken (by decide))

end Sys2Proof.Machine

namespace Sys2Proof.Machine

/-! ### What a link may change as it sends (R337 to R354) -/

/-- The transmission of flow units on the Treyr links. -/
def Footprint.sends : Footprint := ⟨[Reg.fusSent, Reg.naksSent, Reg.replays, Reg.replayedFus], [.links, .line, .outbox]⟩

section
variable (s : State) (u : Nat) {f : Footprint}

theorem State.sends_modLink (g : Link → Link) : (s.modLink u g).outside .sends = s.outside .sends :=
  State.outside_modLink _ _ _ _ (by decide)

theorem State.sends_lineGap (l : List Nat) : (s.lineGap l).outside .sends = s.outside .sends :=
  State.outside_le (by decide) (State.line_lineGap s l)

theorem State.frame_sendFu (type vc : Nat) (p : List Byte) (seq : Nat) (h : Footprint.sends.le f = true) :
    (s.sendFu u type vc p seq).outside f = s.outside f := by
  refine State.outside_le h ?_
  rw [State.sendFu, State.outside_bump _ _ _ _ _ (by decide), State.sends_modLink, State.outside_le (by decide) (State.line_sendLine _ _ _)]

theorem State.frame_sendNew (x : Fu) (h : Footprint.sends.le f = true) : (s.sendNew u x).outside f = s.outside f := by
  refine State.outside_le h ?_
  rw [State.sendNew, State.sends_modLink, State.frame_sendFu _ _ _ _ _ _ (by decide)]

theorem State.frame_sendGroup (g : Group) (h : Footprint.sends.le f = true) : (s.sendGroup u g).outside f = s.outside f := by
  refine State.outside_le h ?_
  rw [State.sendGroup, State.outside_each _ _ _ _ (fun s x => State.frame_sendNew s u x (by decide)), State.sends_lineGap, State.sends_modLink]

theorem State.frame_sendMarker (m : Nat) (h : Footprint.sends.le f = true) : (s.sendMarker u m).outside f = s.outside f := by
  refine State.outside_le h ?_
  rw [State.sendMarker, State.outside_le (by decide) (State.line_transmit _ _ _), State.outside_emit _ _ _ (by decide), State.sends_lineGap]

/-- A kept flow unit leaves again; in new counts it takes its credit again. -/
def State.replayFu (again : Bool) (x : State × Nat) (f : Fu) : State × Nat :=
  let s := (x.1.lineGap (x.1.selectedLanes u)).sendFu u f.type f.vc f.payload x.2
  let s := if again then s.modLink u (fun l => l.charge f) else s
  (s.bump Reg.replayedFus u, (x.2 + 1) % 4096)

theorem State.frame_replayFu (again : Bool) (x : State × Nat) (y : Fu) :
    (State.replayFu u again x y).1.outside .sends = x.1.outside .sends := by
  have sent : ((x.1.lineGap (x.1.selectedLanes u)).sendFu u y.type y.vc y.payload x.2).outside .sends = x.1.outside .sends := by
    rw [State.frame_sendFu _ _ _ _ _ _ (by decide), State.sends_lineGap]
  unfold State.replayFu
  rw [State.outside_bump _ _ _ _ _ (by decide)]
  exact State.outside_ite _ ((State.sends_modLink _ _ _).trans sent) sent

theorem State.frame_replayFus (again : Bool) (l : List Fu) (x : State × Nat) :
    (l.foldl (State.replayFu u again) x).1.outside .sends = x.1.outside .sends := by
  induction l generalizing x with
  | nil => rfl
  | cons y l ih => rw [List.foldl_cons, ih, State.frame_replayFu]

theorem State.replayNow_eq (a : Nat) (again : Bool) : ∃ (g : Link → Link) (l : List Fu),
    s.replayNow u a again = (l.foldl (State.replayFu u again) (((s.sendMarker u a).bump Reg.replays u).modLink u g, a)).1 := by
  exact ⟨_, _, rfl⟩

theorem State.frame_replayNow (a : Nat) (again : Bool) (h : Footprint.sends.le f = true) :
    (s.replayNow u a again).outside f = s.outside f := by
  obtain ⟨g, l, eq⟩ := State.replayNow_eq s u a again
  refine State.outside_le h ?_
  rw [eq, State.frame_replayFus, State.sends_modLink, State.outside_bump _ _ _ _ _ (by decide), State.frame_sendMarker _ _ _ (by decide)]

theorem State.frame_replayWaiting (h : Footprint.sends.le f = true) : (s.replayWaiting u).outside f = s.outside f := by
  unfold State.replayWaiting
  dsimp only
  split
  · rfl
  · exact State.outside_ite _ (State.frame_replayNow s u _ true h) rfl

theorem State.frame_pumpGo (l : List Group) (blocked : List Nat) : (s.pumpGo u l blocked).1.outside .sends = s.outside .sends := by
  induction l generalizing s blocked with
  | nil => rfl
  | cons g r ih =>
    unfold State.pumpGo
    split
    · exact ih _ _
    split
    · exact ih _ _
    split
    · exact ih _ _
    split
    · exact ih _ _
    · rw [ih, State.frame_sendGroup _ _ _ (by decide)]

theorem State.frame_pumpOne (h : Footprint.sends.le f = true) : (s.pumpOne u).outside f = s.outside f := by
  refine State.outside_le h (State.outside_ite _ ?_ rfl)
  have waited := State.frame_replayWaiting (f := .sends) s u (by decide)
  refine State.outside_ite _ waited ?_
  dsimp only
  rw [State.sends_modLink, State.frame_pumpGo, waited]

theorem State.frame_pump (h : Footprint.sends.le f = true) : (s.pump u).outside f = s.outside f := by
  refine State.outside_le h ?_
  have one := State.frame_pumpOne (f := .sends) s u (by decide)
  refine State.outside_ite _ ?_ one
  rw [State.outside_each _ _ _ _ (fun s v => State.frame_pumpOne s v (by decide)), one]

theorem State.frame_linkSend (m : Msg) (h : Footprint.sends.le f = true) : (s.linkSend u m).outside f = s.outside f := by
  refine State.outside_le h ?_
  rw [State.linkSend, State.frame_pump _ _ (by decide)]
  exact State.sends_modLink _ _ _

theorem State.frame_linkSendAll (ms : List Msg) (h : Footprint.sends.le f = true) : (s.linkSendAll u ms).outside f = s.outside f := by
  refine State.outside_le h ?_
  rw [State.linkSendAll, State.frame_pump _ _ (by decide)]
  exact State.outside_each _ _ _ _ (fun s m => State.sends_modLink _ _ _)

/-! #### A pause that is abandoned -/

/-- What an abandoned pause may change. -/
def Footprint.abandons : Footprint := Footprint.sends.plus Footprint.linkState.regs [.persist, .carriers]

theorem State.frame_tagsStood (since : Nat) (h : Part.carriers ∈ f.parts) : (s.tagsStood u since).outside f = s.outside f :=
  State.outside_ite _ (State.outside_modCar _ _ _ _ h) rfl

theorem State.frame_abandonPause (h : Footprint.abandons.le f = true) : (s.abandonPause u).outside f = s.outside f := by
  refine State.outside_le h ?_
  unfold State.abandonPause
  split
  · refine State.outside_ite _ ?_ rfl
    dsimp only
    rw [State.frame_pump _ _ (by decide), State.frame_tagsStood _ _ _ (by decide), State.outside_modLink _ _ _ _ (by decide),
      State.frame_setLinkState _ _ _ (by decide)]
  · rfl

end
end Sys2Proof.Machine

namespace Sys2Proof.Machine

/-! ### What the cut freezes (R62, R63) -/

section
variable (s : State) {f : Footprint}

/-- What freezing the contexts may change. -/
def Footprint.freezes : Footprint :=
  ⟨[Reg.ctxDurable, Reg.ctxTail, Reg.ctxState, Reg.appendContextsOpen, Reg.appendPending, Reg.instPending], [.append]⟩

/-- A context is neither open nor closing. -/
def State.ctxStill (n : Nat) : Prop := s.ctxState n ≠ .opened ∧ s.ctxState n ≠ .closing

/-- Context n freezes. -/
def State.ctxFreezes (n : Nat) : State :=
  let d := s.restartDurable n
  let s := (s.set Reg.ctxDurable n d).set Reg.ctxTail n d
  if s.ctxState n = .opened then s.setCtx n .frozen else if s.ctxState n = .closing then s.setCtx n .closed else s

theorem State.freezeContexts_eq : s.freezeContexts =
    (((s.each (s.rowsOf Reg.ctxState) State.ctxFreezes).modAppend (fun a => { a with pubs := [], run := [] })).each
      (((s.each (s.rowsOf Reg.ctxState) State.ctxFreezes).modAppend (fun a => { a with pubs := [], run := [] })).rowsOf Reg.instPending)
      (fun s i => s.countPending i)) := rfl

theorem State.frame_ctxFreezes (n : Nat) : (s.ctxFreezes n).outside .freezes = s.outside .freezes := by
  have settled (d : Nat) : ((s.set Reg.ctxDurable n d).set Reg.ctxTail n d).outside .freezes = s.outside .freezes := by
    rw [State.outside_set _ _ _ _ _ (by decide), State.outside_set _ _ _ _ _ (by decide)]
  exact State.outside_ite _ ((State.frame_setCtx _ _ _ (by decide) (by decide)).trans (settled _))
    (State.outside_ite _ ((State.frame_setCtx _ _ _ (by decide) (by decide)).trans (settled _)) (settled _))

theorem State.frame_freezeContexts : s.freezeContexts.outside .freezes = s.outside .freezes := by
  rw [State.freezeContexts_eq, State.outside_each _ _ _ _ (fun s i => State.frame_countPending _ _ (by decide) (by decide)),
    State.outside_modAppend _ _ _ (by decide), State.outside_each _ _ _ _ (fun s n => State.frame_ctxFreezes s n)]

theorem State.get_set_place {r i k v : Nat} (other : Reg.key r i ≠ Reg.key r k) : (s.set r i v).get r k = s.get r k := by
  rw [State.get, State.set, Tbl.getD_put_other _ _ _ _ _ other, State.get]

theorem State.get_set_same_place {r i k v : Nat} (same : Reg.key r i = Reg.key r k) : (s.set r i v).get r k = v := by
  rw [State.get, State.set, ← same, Tbl.getD_put_same]

theorem State.ctxState_setCtx_place (n k : Nat) (st : CtxState) : (s.setCtx n st).ctxState k =
    if Reg.key Reg.ctxState n = Reg.key Reg.ctxState k then st else s.ctxState k := by
  have opened : (s.setCtx n st).get Reg.ctxState k = (s.set Reg.ctxState n st.code).get Reg.ctxState k :=
    State.get_set_register _ _ _ _ (by decide)
  rw [State.ctxState, opened]
  split
  next same =>
    rw [State.get_set_same_place s same]
    cases st <;> rfl
  next other => rw [State.get_set_place s other, State.ctxState]

theorem State.ctxState_ctxFreezes (n k : Nat) : (s.ctxFreezes n).ctxState k =
    if Reg.key Reg.ctxState n = Reg.key Reg.ctxState k then
      (match s.ctxState k with | .opened => .frozen | .closing => .closed | x => x) else s.ctxState k := by
  have settled (d k : Nat) : ((s.set Reg.ctxDurable n d).set Reg.ctxTail n d).ctxState k = s.ctxState k := by
    rw [State.ctxState, State.get_set_register _ _ _ _ (by decide), State.get_set_register _ _ _ _ (by decide), State.ctxState]
  unfold State.ctxFreezes
  dsimp only
  rw [settled]
  by_cases same : Reg.key Reg.ctxState n = Reg.key Reg.ctxState k
  · have place : s.ctxState n = s.ctxState k := by
      rw [State.ctxState, State.ctxState, State.get, State.get, same]
      rfl
    rw [if_pos same, ← place]
    cases state : s.ctxState n with
    | opened => rw [if_pos rfl, State.ctxState_setCtx_place, if_pos same]
    | closing => rw [if_neg (by decide), if_pos rfl, State.ctxState_setCtx_place, if_pos same]
    | closed => rw [if_neg (by decide), if_neg (by decide), settled, ← place, state]
    | error => rw [if_neg (by decide), if_neg (by decide), settled, ← place, state]
    | frozen => rw [if_neg (by decide), if_neg (by decide), settled, ← place, state]
  · rw [if_neg same]
    split
    · rw [State.ctxState_setCtx_place, if_neg same, settled]
    · split
      · rw [State.ctxState_setCtx_place, if_neg same, settled]
      · exact settled _ _

theorem State.ctxStill_ctxFreezes (n : Nat) : (s.ctxFreezes n).ctxStill n := by
  rw [State.ctxStill, State.ctxState_ctxFreezes, if_pos rfl]
  cases s.ctxState n <;> decide

theorem State.ctxStill_ctxFreezes_keeps (n k : Nat) (still : s.ctxStill k) : (s.ctxFreezes n).ctxStill k := by
  obtain ⟨opened, closing⟩ := still
  rw [State.ctxStill, State.ctxState_ctxFreezes]
  split
  · cases state : s.ctxState k with
    | opened => exact absurd state opened
    | closing => exact absurd state closing
    | closed => decide
    | error => decide
    | frozen => decide
  · exact ⟨opened, closing⟩

/-- A context that no row tells of is closed. -/
theorem State.ctxStill_or_row (n : Nat) (small : n < 4294967296) : n ∈ s.rowsOf Reg.ctxState ∨ s.ctxStill n := by
  cases row : Tbl.find s.regs (Reg.key Reg.ctxState n) with
  | some v => exact .inl (Tbl.mem_rowsOf row small)
  | none =>
    have zero : s.ctxState n = .closed := by
      rw [State.ctxState, State.get, Tbl.getD, row]
      rfl
    exact .inr ⟨by rw [zero]; decide, by rw [zero]; decide⟩

/-- The cut leaves no context open or closing, and no publish pending. -/
theorem State.freezeContexts_effect : (∀ n, n < 262144 → s.freezeContexts.ctxStill n) ∧ s.freezeContexts.append.pubs = [] := by
  have frozen (n : Nat) (h : n < 262144) : (s.each (s.rowsOf Reg.ctxState) State.ctxFreezes).ctxStill n :=
    State.each_establishes (fun n s => s.ctxStill n) State.ctxFreezes State.ctxStill_ctxFreezes State.ctxStill_ctxFreezes_keeps s _ n
      (s.ctxStill_or_row n (by omega))
  rw [State.freezeContexts_eq]
  generalize s.each (s.rowsOf Reg.ctxState) State.ctxFreezes = e at *
  have counted (l : List Nat) : ((e.modAppend (fun a => { a with pubs := [], run := [] })).each l (fun s i => s.countPending i)).outside .pendingCounts =
      (e.modAppend (fun a => { a with pubs := [], run := [] })).outside .pendingCounts :=
    State.outside_each _ _ _ _ (fun s i => State.frame_countPending _ _ (by decide) (by decide))
  refine ⟨fun n h => ?_, ?_⟩
  · rw [State.ctxStill, State.ctxState_of_outside (counted _) (by decide)]
    exact frozen n h
  · rw [State.append_of_outside (counted _) (by decide)]
    rfl

/-! #### Copies that are marked while nothing is pending -/

/-- What a copy that is marked may change where no publish is pending. -/
def Footprint.copyMarks : Footprint := Footprint.event.plus
  [Reg.appendPending, Reg.instPending, Reg.mirrorState] [.append, .mirror]

theorem State.testPublishes_none (i : Nat) (none : s.append.pubs = []) : s.testPublishes i = s := by
  rw [State.testPublishes, none]
  rfl

theorem State.failPublishes_none (i code : Nat) (sel : Pub → Bool) (none : s.append.pubs = []) :
    s.failPublishes i code sel = (s.modAppend (fun a => { a with pubs := [] })).countPending i := by
  unfold State.failPublishes
  rw [none]
  show ((s.modAppend (fun a => { a with pubs := a.pubs.filter (fun p => !(([] : List Pub).contains p)) })).countPending i) = _
  have same : s.modAppend (fun a => { a with pubs := a.pubs.filter (fun p => !(([] : List Pub).contains p)) }) =
      s.modAppend (fun a => { a with pubs := [] }) := by
    rw [State.modAppend, State.modAppend, none]
    rfl
  rw [same]

theorem State.copyMarked_none (i n : Nat) (none : s.append.pubs = []) :
    (s.copyMarked i n).append.pubs = [] ∧ (s.copyMarked i n).outside .copyMarks = s.outside .copyMarks := by
  have last (x : State) (hx : x.append.pubs = []) (frame : x.outside .copyMarks = s.outside .copyMarks) :
      ((((x.modWrite i n (fun w => { w with copies := 0 })).pruneWrites).testPublishes i).append.pubs = []) ∧
      (((x.modWrite i n (fun w => { w with copies := 0 })).pruneWrites).testPublishes i).outside .copyMarks = s.outside .copyMarks := by
    rw [State.testPublishes_none ((x.modWrite i n (fun w => { w with copies := 0 })).pruneWrites) i hx]
    refine ⟨hx, ?_⟩
    rw [State.frame_pruneWrites _ (by decide), State.frame_modWrite _ _ _ _ (by decide), frame]
  unfold State.copyMarked
  split
  · exact ⟨none, rfl⟩
  dsimp only
  split
  · rw [State.failPublishes_none _ _ _ _ none]
    refine last _ ?_ ((State.frame_countPending _ _ (by decide) (by decide)).trans (State.outside_modAppend _ _ _ (by decide)))
    rw [State.append_of_outside (State.frame_countPending _ i (f := .pendingCounts) (by decide) (by decide)) (by decide)]
    rfl
  · refine last _ ?_ (State.outside_modAppend _ _ _ (by decide))
    show List.map _ s.append.pubs = []
    rw [none, List.map_nil]

theorem State.markCopies_none (sel : Copy → Bool) (none : s.append.pubs = []) :
    (s.markCopies sel).append.pubs = [] ∧ (s.markCopies sel).outside .copyMarks = s.outside .copyMarks := by
  refine State.each_preserves (fun x => x.append.pubs = [] ∧ x.outside .copyMarks = s.outside .copyMarks) _ _ (fun x c _ hx => ?_) _
    ⟨none, State.outside_modMirror _ _ _ (by decide)⟩
  have marked := State.frame_markSegment (f := Footprint.mirrorState.plus [] [.mirror]) x c.seg (by decide)
  have pubs : (x.markSegment c.seg).append.pubs = [] := by rw [State.append_of_outside marked (by decide)]; exact hx.1
  obtain ⟨left, frame⟩ := (x.markSegment c.seg).copyMarked_none c.i c.num pubs
  exact ⟨left, frame.trans ((State.outside_le (by decide) marked).trans hx.2)⟩

/-- What marking every copy may change where no publish is pending. -/
def Footprint.cutMarks : Footprint := Footprint.copyMarks.plus Footprint.queued.regs [.ports, .flow]

theorem State.markAll_none (none : s.append.pubs = []) :
    s.markAll.append.pubs = [] ∧ s.markAll.outside .cutMarks = s.outside .cutMarks := by
  obtain ⟨pubs, frame⟩ := s.markCopies_none (fun _ => true) none
  unfold State.markAll
  dsimp only
  generalize s.markCopies (fun _ => true) = m at *
  have removed (x : State) := State.frame_removeEntries (f := .queued) x 8 (fun e => e.work.copySegment.isSome) (by decide)
  refine ⟨?_, ?_⟩
  · rw [State.append_of_outside (removed _) (by decide)]
    exact pubs
  · rw [State.outside_le (by decide) (removed _), State.outside_modMirror _ _ _ (by decide), State.outside_le (by decide) frame]

end
end Sys2Proof.Machine

namespace Sys2Proof.Machine

/-! ### What the cut ends whatever the image state (Tables 3.3 and 3.4) -/

section
variable (s : State) {f : Footprint}

/-- A running Semicolon, the writes of the Keep store, and what waits for them are abandoned. -/
def State.cutAbandons : State :=
  let s := s.modPersist (fun p => { p with running := false, trigger := false, sealDue := false, beginDue := none, holdLeft := 0 })
  let s := s.modKeep (fun k => { k with job := none, waiting := [], extNext := [] })
  let s := s.modLexicon (fun l => { l with waiting := [], config := none, configAnswer := none })
  s.set Reg.semicolonState 0 0

/-- The copies are marked, and the partner and the witness are told. -/
def State.cutTells : State :=
  let s := (s.handoverBack.markAll).dropCopyMessages
  let s := s.sendPartner { op := 0x57, p1 := s.get Reg.epoch }
  s.leaseRelease 1

/-- What the host has posted, its waiting reads and received copies are dropped. -/
def State.cutDrops : State :=
  let s : State := { s with host := { s.host with posted := [], readWait := [] }, mirror := { s.mirror with rxWait := [] } }
  s.removeEntries 9 (fun _ => true)

theorem State.cutStops_eq : s.cutStops = s.freezeContexts.cutAbandons.cutTells.cutDrops := by
  unfold State.cutStops State.cutDrops State.cutTells State.cutAbandons
  with_reducible rfl

/-- What telling the partner may change. -/
def Footprint.cutTells : Footprint := Footprint.message.plus (Reg.rangeState :: Footprint.cutMarks.regs) [.append, .mirror, .links, .flow]

theorem State.frame_handoverBack : s.handoverBack.outside ⟨[Reg.rangeState], [.mirror]⟩ = s.outside ⟨[Reg.rangeState], [.mirror]⟩ := by
  unfold State.handoverBack
  split
  · rfl
  · rw [State.outside_modMirror _ _ _ (by decide), State.outside_set _ _ _ _ _ (by decide)]

theorem State.frame_dropCopyMessages (h : (Footprint.queued.plus [] [.links]).le f = true) : s.dropCopyMessages.outside f = s.outside f := by
  refine State.outside_le h ?_
  unfold State.dropCopyMessages
  dsimp only
  rw [State.outside_each _ _ _ _ (fun s u => State.outside_modLink _ _ _ _ (by decide)), State.frame_removeEntries _ _ _ (by decide)]

theorem State.cutTells_none (none : s.append.pubs = []) :
    s.cutTells.append.pubs = [] ∧ s.cutTells.outside .cutTells = s.outside .cutTells := by
  have back := s.frame_handoverBack
  have pubs : s.handoverBack.append.pubs = [] := by rw [State.append_of_outside back (by decide)]; exact none
  obtain ⟨left, marked⟩ := s.handoverBack.markAll_none pubs
  unfold State.cutTells
  dsimp only
  generalize s.handoverBack.markAll = m at *
  have dropped := State.frame_dropCopyMessages (f := Footprint.queued.plus [] [.links]) m (by decide)
  generalize m.dropCopyMessages = d at *
  have told := State.frame_sendPartner (f := .message) d { op := 0x57, p1 := d.get Reg.epoch } (by decide)
  generalize d.sendPartner { op := 0x57, p1 := d.get Reg.epoch } = t at *
  have released : (t.leaseRelease 1).outside .message = t.outside .message := State.frame_sendLease _ _ _ _ _ _ _ (by decide)
  refine ⟨?_, ?_⟩
  · rw [State.append_of_outside released (by decide), State.append_of_outside told (by decide), State.append_of_outside dropped (by decide)]
    exact left
  · rw [State.outside_le (by decide) released, State.outside_le (by decide) told, State.outside_le (by decide) dropped,
      State.outside_le (by decide) marked, State.outside_le (by decide) back]

theorem State.frame_cutDrops (h : (Footprint.queued.plus [] [.host, .mirror]).le f = true) : s.cutDrops.outside f = s.outside f := by
  refine State.outside_le h ?_
  unfold State.cutDrops
  dsimp only
  rw [State.frame_removeEntries _ _ _ (by decide)]
  exact (State.outside_mirror _ _ (by decide)).trans (State.outside_host s _ (by decide))

theorem State.cutDrops_effect : s.cutDrops.host.posted = [] ∧ s.cutDrops.host.readWait = [] ∧ s.cutDrops.mirror.rxWait = [] := by
  have removed (x : State) := State.frame_removeEntries (f := .queued) x 9 (fun _ => true) (by decide)
  unfold State.cutDrops
  dsimp only
  rw [State.host_of_outside (removed _) (by decide), State.mirror_of_outside (removed _) (by decide)]
  exact ⟨rfl, rfl, rfl⟩

/-- What the cut leaves of all that was under way, its image apart. -/
def State.cutOver : Prop :=
  s.host.posted = [] ∧ s.host.readWait = [] ∧ s.mirror.rxWait = [] ∧ s.keep.waiting = [] ∧ s.persist.running = false ∧
  s.get Reg.semicolonState = 0 ∧ s.lexicon.waiting = [] ∧ (∀ n, n < 262144 → s.ctxStill n) ∧ s.append.pubs = []

/-- What the stops of the cut may change. -/
def Footprint.cutStops : Footprint := Footprint.cutTells.plus (Reg.semicolonState :: Footprint.freezes.regs) [.persist, .keep, .lexicon, .host]

theorem State.cutStops_effect : s.cutStops.cutOver ∧ s.cutStops.keep.job = none ∧ s.cutStops.outside .cutStops = s.outside .cutStops := by
  obtain ⟨still, pubs⟩ := s.freezeContexts_effect
  have frozen := s.frame_freezeContexts
  rw [State.cutStops_eq]
  generalize s.freezeContexts = z at *
  have keep : z.cutAbandons.keep = { z.keep with job := none, waiting := [], extNext := [] } := rfl
  have running : z.cutAbandons.persist.running = false := rfl
  have waiting : z.cutAbandons.lexicon.waiting = [] := rfl
  have state : z.cutAbandons.get Reg.semicolonState = 0 := State.get_set_same _ _ _ _
  have append : z.cutAbandons.append = z.append := rfl
  have abandoned : z.cutAbandons.outside ⟨[Reg.semicolonState], [.persist, .keep, .lexicon, .frames]⟩ =
      z.outside ⟨[Reg.semicolonState], [.persist, .keep, .lexicon, .frames]⟩ := by
    unfold State.cutAbandons
    dsimp only
    rw [State.outside_set _ _ _ _ _ (by decide), State.outside_modLexicon _ _ _ (by decide) (by decide),
      State.outside_modKeep _ _ _ (by decide), State.outside_modPersist _ _ _ (by decide)]
  generalize z.cutAbandons = a at *
  obtain ⟨left, told⟩ := a.cutTells_none (append.symm ▸ pubs)
  generalize a.cutTells = t at *
  have dropped := State.frame_cutDrops (f := Footprint.queued.plus [] [.host, .mirror]) t (by decide)
  obtain ⟨posted, reads, copies⟩ := t.cutDrops_effect
  generalize t.cutDrops = v at *
  have keepV : v.keep = a.keep := (State.keep_of_outside dropped (by decide)).trans (State.keep_of_outside told (by decide))
  refine ⟨⟨posted, reads, copies, ?_, ?_, ?_, ?_, fun n h => ?_, ?_⟩, ?_, ?_⟩
  · rw [keepV, keep]
  · rw [State.persist_of_outside dropped (by decide), State.persist_of_outside told (by decide), running]
  · rw [State.get_of_outside dropped _ _ (by decide), State.get_of_outside told _ _ (by decide), state]
  · rw [State.waiting_of_outside dropped (by decide), State.waiting_of_outside told (by decide), waiting]
  · rw [State.ctxStill, State.ctxState_of_outside dropped (by decide), State.ctxState_of_outside told (by decide),
      State.ctxState_of_outside abandoned (by decide)]
    exact still n h
  · rw [State.append_of_outside dropped (by decide), left]
  · rw [keepV, keep]
  · rw [State.outside_le (by decide) dropped, State.outside_le (by decide) told, State.outside_le (by decide) abandoned,
      State.outside_le (by decide) frozen]

/-! #### The Full Stop starts (R64) -/

theorem State.running_releasePart (h : HeldPart) : (s.releasePart h).persist.running = s.persist.running := by
  have queued (x : Nat) := State.frame_enqueue (f := .queued) s h.car x h.i h.work h.payload (by decide)
  have persist (x : Nat) : (s.enqueue h.car x h.i h.work h.payload).persist.running = s.persist.running := by
    rw [State.persist_of_outside (queued _) (by decide)]
  unfold State.releasePart
  dsimp only
  split_ifs <;> exact persist _

theorem State.frame_releasePart (h : HeldPart) (le : (Footprint.queued.plus [] [.persist]).le f = true) :
    (s.releasePart h).outside f = s.outside f := by
  refine State.outside_le le ?_
  have queued (x : Nat) := State.frame_enqueue (f := Footprint.queued.plus [] [.persist]) s h.car x h.i h.work h.payload (by decide)
  exact State.outside_ite _ ((State.outside_persist _ _ (by decide)).trans (queued _)) (queued _)

/-- What the queues of the carriers may change at the cut. -/
def Footprint.cutQueues : Footprint := Footprint.touch.plus [] [.persist]

theorem State.cutQueues_effect : s.cutQueues.persist.running = s.persist.running ∧ s.cutQueues.outside .cutQueues = s.outside .cutQueues := by
  have removed (l : List Nat) (g : Entry → Bool) : (s.each l (fun s c => s.removeEntries c g)).outside .touch = s.outside .touch :=
    State.outside_each _ _ _ _ (fun s c => State.frame_removeEntries _ _ _ (by decide))
  have held (x : State) : ((x.modRestore (fun r => { r with held := [] })).countHeld).outside .touch = x.outside .touch := by
    rw [State.frame_countHeld _ (by decide), State.outside_modRestore _ _ _ (by decide)]
  unfold State.cutQueues
  dsimp only
  refine State.each_preserves (fun x => x.persist.running = s.persist.running ∧ x.outside .cutQueues = s.outside .cutQueues) _ _ (fun x h _ hx => ?_) _
    ⟨?_, ?_⟩
  · have touched : (if (x.car h.car).touches.any (fun t => t.1 == h.seg) then x else x.sendTouch h.car h.seg).outside .touch = x.outside .touch :=
      State.outside_ite _ rfl (State.frame_sendTouch _ _ _ (by decide))
    generalize (if (x.car h.car).touches.any (fun t => t.1 == h.seg) then x else x.sendTouch h.car h.seg) = y at touched ⊢
    rw [State.running_releasePart, State.persist_of_outside touched (by decide), State.frame_releasePart _ _ (by decide),
      State.outside_le (by decide) touched]
    exact hx
  · rw [State.persist_of_outside (held _) (by decide), State.persist_of_outside (removed _ _) (by decide)]
  · rw [State.outside_le (by decide) (held _), State.outside_le (by decide) (removed _ _)]

/-- The facts of a Full Stop that its messages leave. -/
def State.stopFacts : Bool × Nat × Nat := (s.stop.active, s.stop.stateAtCut, s.stop.epoch)

/-- SAVE goes to carrier c, and FINAL behind its last write. -/
def State.savesCarrier (c : Nat) : State :=
  let mark := ((s.car c).nextTag + s.writesLeft c + 65535) % 65536
  let s := { s with stop := { s.stop with marks := Tbl.put s.stop.marks c mark, sentAt := Tbl.put s.stop.sentAt c s.now } }
  (s.sendSave c true 0 false).sendFinal c

theorem State.frame_sendSave (c : Nat) (b : Bool) (l : Nat) (last : Bool) (h : Footprint.message.le f = true) :
    (s.sendSave c b l last).outside f = s.outside f := State.frame_sendCarrier s _ _ _ _ h

theorem State.sendFinal_effect (c : Nat) : (s.sendFinal c).stopFacts = s.stopFacts ∧
    (s.sendFinal c).outside (Footprint.message.plus [] [.stop]) = s.outside (Footprint.message.plus [] [.stop]) := by
  unfold State.sendFinal
  split
  · have saved (x : State) := State.frame_sendSave (f := .message) x c true 0 true (by decide)
    refine ⟨?_, (State.outside_le (by decide) (saved _)).trans (State.outside_stop _ _ (by decide))⟩
    rw [State.stopFacts, State.stop_of_outside (saved _) (by decide)]
    rfl
  · exact ⟨rfl, rfl⟩

theorem State.savesCarrier_effect (c : Nat) : (s.savesCarrier c).stopFacts = s.stopFacts ∧
    (s.savesCarrier c).outside (Footprint.message.plus [] [.stop]) = s.outside (Footprint.message.plus [] [.stop]) := by
  have saved (x : State) := State.frame_sendSave (f := .message) x c true 0 false (by decide)
  unfold State.savesCarrier
  dsimp only
  obtain ⟨facts, final⟩ := State.sendFinal_effect (State.sendSave { s with stop := { s.stop with
    marks := Tbl.put s.stop.marks c (((s.car c).nextTag + s.writesLeft c + 65535) % 65536), sentAt := Tbl.put s.stop.sentAt c s.now } } c true 0 false) c
  refine ⟨facts.trans ?_, final.trans ((State.outside_le (by decide) (saved _)).trans (State.outside_stop _ _ (by decide)))⟩
  rw [State.stopFacts, State.stop_of_outside (saved _) (by decide)]
  rfl

/-- The Full Stop as it starts, before its seal. -/
def State.stopBegins (before : Nat) : State :=
  let s := State.cutQueues { s with stop := { FullStop.reset with
    active := true, epoch := s.get Reg.epoch, stateAtCut := before, clause := s.clauseNow, dirtyMax := s.dirtyMax } }
  s.each s.activeCarriers State.savesCarrier

/-- The seal of a Full Stop starts. -/
def State.stopSeals (before : Nat) : State :=
  (s.startSeal .fullStop).modIntent (fun i => { i with state := before, epoch := s.stop.epoch, dirtyMax := s.stop.dirtyMax })

theorem State.beginStop_eq (before : Nat) (seals : Bool) :
    s.beginStop before seals = if seals then (s.stopBegins before).stopSeals before else s.stopBegins before := rfl

/-- What the Full Stop may change as it starts, its seal apart. -/
def Footprint.stopBegins : Footprint := Footprint.cutQueues.plus [] [.stop]

theorem State.stopBegins_effect (before : Nat) : (s.stopBegins before).stopFacts = (true, before, s.get Reg.epoch) ∧
    (s.stopBegins before).persist.running = s.persist.running ∧ (s.stopBegins before).outside .stopBegins = s.outside .stopBegins := by
  let b : State := { s with stop := { FullStop.reset with
    active := true, epoch := s.get Reg.epoch, stateAtCut := before, clause := s.clauseNow, dirtyMax := s.dirtyMax } }
  obtain ⟨running, queues⟩ := b.cutQueues_effect
  have facts : b.cutQueues.stopFacts = (true, before, s.get Reg.epoch) := by
    rw [State.stopFacts, State.stop_of_outside queues (by decide)]
  refine State.each_preserves (fun x => x.stopFacts = (true, before, s.get Reg.epoch) ∧ x.persist.running = s.persist.running ∧
    x.outside .stopBegins = s.outside .stopBegins) _ _ (fun x c _ hx => ?_) _ ⟨facts, running, ?_⟩
  · obtain ⟨factsC, frame⟩ := x.savesCarrier_effect c
    rw [factsC, State.persist_of_outside frame (by decide), State.outside_le (by decide) frame]
    exact hx
  · exact (State.outside_le (by decide) queues).trans (State.outside_stop s _ (by decide))

/-- The seal of a Full Stop. -/
theorem State.stopSeals_effect (before : Nat) : (∃ j, (s.stopSeals before).keep.job = some j ∧ j.purpose = .fullStop ∧ j.intent.kind = 4 ∧
      j.intent.state = before) ∧ (s.stopSeals before).keep.waiting = s.keep.waiting ∧
    (s.stopSeals before).outside ⟨[], [.keep]⟩ = s.outside ⟨[], [.keep]⟩ := by
  refine ⟨⟨_, rfl, rfl, rfl, rfl⟩, ?_, ?_⟩
  · unfold State.stopSeals State.modIntent State.startSeal State.modKeep Keep.putBank
    dsimp only
    split <;> rfl
  · exact (State.outside_modKeep _ _ _ (by decide)).trans (State.outside_modKeep _ _ _ (by decide))

end
end Sys2Proof.Machine

namespace Sys2Proof.Machine

/-! ### The image at the cut (R62 to R64) -/

section
variable (s : State) {f : Footprint}

/-- The image is Sealed, and its windows close. -/
def State.imageSealed : State := (s.setImage .sealed).set Reg.windowOpen 0 0

/-- The Full Stop of a cut in a state that has one, with the largest count of the moment of the cut. -/
def State.stopFor (before : Nat) (seals : Bool) (most : Nat) : State :=
  let s := s.beginStop before seals
  { s with stop := { s.stop with dirtyMax := most } }

/-- The cut goes no further than its stops where there is no image to keep. -/
theorem State.cutNow_none (none : s.image = .unformed ∨ s.image = .setup ∨ s.image = .fault ∨ s.image = .sealed) : s.cutNow = s.cutStops := by
  unfold State.cutNow
  exact if_pos (by tauto)

/-- An image that is kept is Sealed, and unless it has not come far enough to keep, the Full Stop starts. -/
theorem State.cutNow_keeps (keeps : s.image = .opened ∨ s.image = .quiesced ∨ s.image = .restoring) : s.cutNow =
    if s.image = .restoring ∧ s.cutStops.get Reg.restartPhase ≤ 2 then s.cutStops.imageSealed
    else s.cutStops.imageSealed.stopFor s.image.code (s.image != .quiesced) s.dirtyMax := by
  have some : ¬ (s.image = .sealed ∨ s.image = .unformed ∨ s.image = .setup ∨ s.image = .fault) := by
    rcases keeps with h | h | h <;> rw [h] <;> decide
  have stops : (!(s.image != .restoring || decide (2 < s.cutStops.get Reg.restartPhase))) =
      decide (s.image = .restoring ∧ s.cutStops.get Reg.restartPhase ≤ 2) := by
    generalize s.cutStops.get Reg.restartPhase = phase
    rcases keeps with h | h | h <;> simp [h, ← decide_not]
  unfold State.cutNow State.stopFor State.imageSealed
  dsimp only
  rw [if_neg some]
  have seals : (!(s.image == .quiesced)) = (s.image != .quiesced) := rfl
  by_cases early : s.image = .restoring ∧ s.cutStops.get Reg.restartPhase ≤ 2
  · rw [if_pos early, if_pos (stops.trans (decide_eq_true early))]
  · rw [if_neg early, if_neg (by rw [stops.trans (decide_eq_false early)]; exact Bool.false_ne_true), seals]

theorem State.imageSealed_effect : s.imageSealed.image = .sealed ∧ s.imageSealed.get Reg.windowOpen = 0 ∧
    s.imageSealed.outside (Footprint.event.plus [Reg.imageState, Reg.windowOpen] []) = s.outside (Footprint.event.plus [Reg.imageState, Reg.windowOpen] []) := by
  refine ⟨?_, State.get_set_same _ _ _ _, ?_⟩
  · exact (congrArg ImageState.ofCode (State.get_set_register _ _ _ _ (by decide))).trans (State.image_setImage s .sealed)
  · rw [State.imageSealed, State.outside_set _ _ _ _ _ (by decide), State.frame_setImage _ _ (by decide)]

/-- What a Full Stop that starts leaves. -/
theorem State.stopFor_effect (before : Nat) (seals : Bool) (most : Nat) (idle : s.keep.job = none) :
    (s.stopFor before seals most).stopFacts = (true, before, s.get Reg.epoch) ∧
    (s.stopFor before seals most).persist.running = s.persist.running ∧
    (s.stopFor before seals most).keep.waiting = s.keep.waiting ∧
    (seals = false → (s.stopFor before seals most).keep.job = none) ∧
    (seals = true → ∃ j, (s.stopFor before seals most).keep.job = some j ∧ j.purpose = .fullStop ∧ j.intent.kind = 4 ∧ j.intent.state = before) ∧
    (s.stopFor before seals most).outside (Footprint.stopBegins.plus [] [.keep]) = s.outside (Footprint.stopBegins.plus [] [.keep]) := by
  obtain ⟨facts, running, frame⟩ := s.stopBegins_effect before
  have keep : (s.stopBegins before).keep = s.keep := State.keep_of_outside frame (by decide)
  have most' (x : State) : (({ x with stop := { x.stop with dirtyMax := most } } : State)).outside (Footprint.stopBegins.plus [] [.keep]) =
      x.outside (Footprint.stopBegins.plus [] [.keep]) := State.outside_stop _ _ (by decide)
  unfold State.stopFor
  rw [State.beginStop_eq]
  generalize s.stopBegins before = b at *
  cases seals with
  | false => exact ⟨facts, running, congrArg _ keep, fun _ => (congrArg _ keep).trans idle, fun h => Bool.noConfusion h,
      (most' b).trans (State.outside_le (by decide) frame)⟩
  | true =>
    obtain ⟨job, waiting, sealed⟩ := b.stopSeals_effect before
    have stop : (b.stopSeals before).stop = b.stop := State.stop_of_outside sealed (by decide)
    have persist : (b.stopSeals before).persist = b.persist := State.persist_of_outside sealed (by decide)
    refine ⟨?_, (congrArg _ persist).trans running, waiting.trans (congrArg _ keep), fun h => Bool.noConfusion h, fun _ => job,
      (most' _).trans ((State.outside_le (by decide) sealed).trans (State.outside_le (by decide) frame))⟩
    rw [← facts, State.stopFacts, State.stopFacts, ← stop]
    rfl

/-! #### What ends with the cut besides (R214, R390, R443) -/

theorem State.running_setLinkState (u : Nat) (st : LinkState) : (s.setLinkState u st).persist.running = s.persist.running := by
  have stands (x : State) (c : Nat) (was : Bool) : (x.ckptStands c was).persist.running = x.persist.running := by
    unfold State.ckptStands
    split
    · rfl
    · dsimp only
      split_ifs <;> rfl
  unfold State.setLinkState
  dsimp only
  split
  · exact stands _ _ _
  · rfl

theorem State.running_abandonPause (u : Nat) : (s.abandonPause u).persist.running = s.persist.running := by
  unfold State.abandonPause
  split
  · split
    · dsimp only
      rw [State.persist_of_outside (State.frame_pump _ u (f := .sends) (by decide)) (by decide),
        State.persist_of_outside (State.frame_tagsStood _ u _ (f := ⟨[], [.carriers]⟩) (by decide)) (by decide)]
      exact s.running_setLinkState u .up
    · rfl
  · rfl

/-- A reset ends without a record. -/
def State.resetEnds (j : ResetJob) : State :=
  let s := if s.resetting j.i then s.set Reg.instState j.i 1 else s
  s.modHost (fun h => { h with flr := h.flr.remove j.i })

/-- Pauses that are not yet acknowledged are abandoned. -/
def State.pausesEnd : State := s.each (s.links.map (·.1)) (fun s u => s.abandonPause u)

/-- Every reset ends. -/
def State.resetsEnd : State := { s.each s.resets State.resetEnds with resets := [] }

/-- PRBS tests stop. -/
def State.testsEnd : State := s.each ((s.training.filter (fun x => x.2.prbs)).map (·.1)) (fun s u => s.prbsEnd u)

theorem State.cutRest_eq : s.cutRest =
    s.pausesEnd.resetsEnd.testsEnd.modSecurity (fun x => { x with attest := none, sealWaits := none }) := by
  unfold State.cutRest State.testsEnd State.resetsEnd State.pausesEnd State.resetEnds
  with_reducible rfl

/-- What the rest of the cut may change. -/
def Footprint.cutRest : Footprint := Footprint.laneWork.plus (Reg.instState :: Footprint.abandons.regs)
  ([.host, .resets, .security] ++ Footprint.abandons.parts)

theorem State.frame_resetEnds (j : ResetJob) : (s.resetEnds j).outside .cutRest = s.outside .cutRest :=
  (State.outside_modHost _ _ _ (by decide)).trans (State.outside_ite _ (State.outside_set _ _ _ _ _ (by decide)) rfl)

theorem State.resetEnds_host (j : ResetJob) : (s.resetEnds j).host = { s.host with flr := s.host.flr.remove j.i } := by
  have host : (if s.resetting j.i then s.set Reg.instState j.i 1 else s).host = s.host := by split <;> rfl
  exact congrArg (fun h : HostPort => { h with flr := h.flr.remove j.i }) host

theorem State.resetEnds_persist (j : ResetJob) : (s.resetEnds j).persist = s.persist := by
  have persist : (if s.resetting j.i then s.set Reg.instState j.i 1 else s).persist = s.persist := by split <;> rfl
  exact persist

/-- What the rest of the cut leaves of the posted path and of the Semicolon. -/
def State.cutRestKeeps (t : State) : Prop := t.host.posted = s.host.posted ∧ t.host.readWait = s.host.readWait ∧
  t.persist.running = s.persist.running ∧ t.outside .cutRest = s.outside .cutRest

theorem State.cutRest_effect : s.cutRest.resets = [] ∧ s.cutRest.security.attest = none ∧ s.cutRestKeeps s.cutRest := by
  have paused : s.cutRestKeeps (s.each (s.links.map (·.1)) (fun s u => s.abandonPause u)) := by
    refine State.each_preserves s.cutRestKeeps _ _ (fun x u _ hx => ?_) _ ⟨rfl, rfl, rfl, rfl⟩
    obtain ⟨posted, reads, running, frame⟩ := hx
    have host : (x.abandonPause u).host = x.host := State.host_of_outside (State.frame_abandonPause x u (f := .abandons) (by decide)) (by decide)
    exact ⟨host ▸ posted, host ▸ reads, (x.running_abandonPause u).trans running, (State.frame_abandonPause x u (by decide)).trans frame⟩
  have ended (y : State) (hy : s.cutRestKeeps y) : s.cutRestKeeps (y.each y.resets State.resetEnds) := by
    refine State.each_preserves s.cutRestKeeps _ _ (fun x j _ hx => ?_) _ hy
    obtain ⟨posted, reads, running, frame⟩ := hx
    refine ⟨?_, ?_, ?_, (x.frame_resetEnds j).trans frame⟩
    · rw [State.resetEnds_host]; exact posted
    · rw [State.resetEnds_host]; exact reads
    · rw [State.resetEnds_persist]; exact running
  have tested (y : State) (hy : s.cutRestKeeps y) (l : List Nat) : s.cutRestKeeps (y.each l (fun s u => s.prbsEnd u)) := by
    refine State.each_preserves s.cutRestKeeps _ _ (fun x u _ hx => ?_) _ hy
    obtain ⟨posted, reads, running, frame⟩ := hx
    have work := State.frame_prbsEnd x u (f := .laneWork) (by decide)
    refine ⟨?_, ?_, ?_, (State.frame_prbsEnd x u (by decide)).trans frame⟩
    · rw [State.host_of_outside work (by decide)]; exact posted
    · rw [State.host_of_outside work (by decide)]; exact reads
    · rw [State.persist_of_outside work (by decide)]; exact running
  have resets (y : State) (l : List Nat) : (({ y with resets := [] } : State).each l (fun s u => s.prbsEnd u)).resets = [] :=
    State.resets_of_outside (State.outside_each _ _ _ _ (fun s u => State.frame_prbsEnd s u (f := .laneWork) (by decide))) (by decide)
  rw [State.cutRest_eq]
  have over' := ended _ paused
  unfold State.pausesEnd State.resetsEnd State.testsEnd
  dsimp only
  generalize (s.each (s.links.map (·.1)) (fun s u => s.abandonPause u)).each (s.each (s.links.map (·.1)) (fun s u => s.abandonPause u)).resets
      State.resetEnds = e at *
  obtain ⟨posted, reads, running, frame⟩ := over'
  obtain ⟨postedT, readsT, runningT, frameT⟩ := tested { e with resets := [] }
    ⟨posted, reads, running, (State.outside_resets e _ _ (by decide)).trans frame⟩ ((e.training.filter (fun x => x.2.prbs)).map (·.1))
  exact ⟨resets e _, rfl, postedT, readsT, runningT, (State.outside_modSecurity _ _ _ (by decide)).trans frameT⟩

end
end Sys2Proof.Machine

namespace Sys2Proof.Machine

/-! ### The boundary at which the cut falls (R62) -/

section
variable {s t : State}

/-- Where the cut's messages go, what it ended stays ended. -/
theorem State.cutOver_of_outside {f : Footprint} (frame : t.outside f = s.outside f) (ended : s.cutOver)
    (posted : t.host.posted = s.host.posted) (reads : t.host.readWait = s.host.readWait) (waiting : t.keep.waiting = s.keep.waiting)
    (running : t.persist.running = s.persist.running) (m : Part.mirror ∉ f.parts) (l : Part.lexicon ∉ f.parts)
    (a : Part.append ∉ f.parts) (c : Reg.ctxState ∉ f.regs) (k : Reg.semicolonState ∉ f.regs) : t.cutOver := by
  obtain ⟨postedS, readsS, copies, waitingS, runningS, state, requests, still, pubs⟩ := ended
  refine ⟨posted.trans postedS, reads.trans readsS, ?_, waiting.trans waitingS, running.trans runningS, ?_, ?_, fun n h => ?_, ?_⟩
  · rw [State.mirror_of_outside frame m, copies]
  · rw [State.get_of_outside frame _ _ k, state]
  · rw [State.waiting_of_outside frame l, requests]
  · rw [State.ctxStill, State.ctxState_of_outside frame c]
    exact still n h
  · rw [State.append_of_outside frame a, pubs]

end

section
variable (s : State)

/-- What the cut leaves of the image, by the state in which it found it. -/
def State.cutFound (w v : State) : Prop :=
  (w.image = .unformed ∨ w.image = .setup ∨ w.image = .fault → v.image = w.image ∧ v.stop = w.stop ∧ v.keep.job = none) ∧
  (w.image = .opened ∨ w.image = .quiesced ∨ w.image = .restoring → v.image = .sealed ∧ v.get Reg.windowOpen = 0) ∧
  (w.image = .opened ∨ w.image = .quiesced ∨ (w.image = .restoring ∧ 2 < w.get Reg.restartPhase) →
    v.stopFacts = (true, w.image.code, w.get Reg.epoch)) ∧
  (w.image = .quiesced ∨ (w.image = .restoring ∧ w.get Reg.restartPhase ≤ 2) → v.keep.job = none) ∧
  (w.image = .opened ∨ (w.image = .restoring ∧ 2 < w.get Reg.restartPhase) →
    ∃ j, v.keep.job = some j ∧ j.purpose = .fullStop ∧ j.intent.kind = 4 ∧ j.intent.state = w.image.code)

/-- What the cut may change before its resets end. -/
def Footprint.cutNow : Footprint := Footprint.stopBegins.plus (Reg.imageState :: Reg.windowOpen :: Footprint.cutStops.regs) (.keep :: Footprint.cutStops.parts)

theorem State.cutNow_effect : s.cutNow.cutOver ∧ State.cutFound s s.cutNow ∧ s.cutNow.outside .cutNow = s.outside .cutNow := by
  obtain ⟨ended, idle, frame⟩ := s.cutStops_effect
  have image : s.cutStops.image = s.image := State.image_of_outside frame (by decide)
  have phase : s.cutStops.get Reg.restartPhase = s.get Reg.restartPhase := State.get_of_outside frame _ _ (by decide)
  have epoch : s.cutStops.get Reg.epoch = s.get Reg.epoch := State.get_of_outside frame _ _ (by decide)
  have stop : s.cutStops.stop = s.stop := State.stop_of_outside frame (by decide)
  by_cases keeps : s.image = .opened ∨ s.image = .quiesced ∨ s.image = .restoring
  · rw [State.cutNow_keeps s keeps, phase]
    generalize s.cutStops = y at *
    obtain ⟨sealed, closed, shut⟩ := y.imageSealed_effect
    have keepY : y.imageSealed.keep = y.keep := State.keep_of_outside shut (by decide)
    have epochY : y.imageSealed.get Reg.epoch = s.get Reg.epoch := (State.get_of_outside shut _ _ (by decide)).trans epoch
    have host : y.imageSealed.host = y.host := State.host_of_outside shut (by decide)
    have persist : y.imageSealed.persist = y.persist := State.persist_of_outside shut (by decide)
    have over' : y.imageSealed.cutOver := State.cutOver_of_outside shut ended (congrArg _ host) (congrArg _ host) (congrArg _ keepY)
      (congrArg _ persist) (by decide) (by decide) (by decide) (by decide) (by decide)
    have wide : y.imageSealed.outside .cutNow = s.outside .cutNow :=
      (State.outside_le (by decide) shut).trans (State.outside_le (by decide) frame)
    have job : y.imageSealed.keep.job = none := (congrArg _ keepY).trans idle
    generalize y.imageSealed = z at *
    split
    next early =>
      obtain ⟨restoring, early⟩ := early
      refine ⟨over', ⟨fun none => ?_, fun _ => ⟨sealed, closed⟩, fun kept => ?_, fun _ => job, fun kept => ?_⟩, wide⟩
      · rcases none with h | h | h <;> rw [restoring] at h <;> cases h
      · rcases kept with h | h | h
        · rw [restoring] at h; cases h
        · rw [restoring] at h; cases h
        · omega
      · rcases kept with h | h
        · rw [restoring] at h; cases h
        · omega
    next late =>
      obtain ⟨facts, running, waiting, still, seals, began⟩ := z.stopFor_effect s.image.code (s.image != .quiesced) s.dirtyMax job
      generalize z.stopFor s.image.code (s.image != .quiesced) s.dirtyMax = v at *
      have hostV : v.host = z.host := State.host_of_outside began (by decide)
      refine ⟨State.cutOver_of_outside began over' (congrArg _ hostV) (congrArg _ hostV) waiting running (by decide) (by decide) (by decide)
        (by decide) (by decide), ⟨fun none => ?_, fun _ => ⟨?_, ?_⟩, fun _ => epochY ▸ facts, fun none => still ?_, fun kept => seals ?_⟩,
        (State.outside_le (by decide) began).trans wide⟩
      · rcases keeps with h | h | h <;> rw [h] at none <;> (rcases none with n | n | n <;> cases n)
      · exact (State.image_of_outside began (by decide)).trans sealed
      · exact (State.get_of_outside began _ _ (by decide)).trans closed
      · rcases none with h | h
        · rw [h]; rfl
        · exact absurd h late
      · rcases kept with h | h
        · rw [h]; rfl
        · rw [h.1]; rfl
  · rw [not_or, not_or] at keeps
    obtain ⟨opened, quiesced, restoring⟩ := keeps
    rw [State.cutNow_none s (by cases h : s.image <;> simp_all)]
    generalize s.cutStops = y at *
    exact ⟨ended, ⟨fun _ => ⟨image, stop, idle⟩, fun h => by tauto, fun h => by tauto, fun _ => idle, fun h => by tauto⟩,
      State.outside_le (by decide) frame⟩

/-- The power-fail detection is served. -/
def State.cutServed : State := s.modPower (fun p => { p with cutDone := true })

theorem State.cutHere_eq : s.cutHere = s.cutTakes.cutServed.cutNow.cutRest := rfl

theorem State.cutHere_effect : s.cutHere.power.cutDone = true ∧ s.cutHere.cutOver ∧ s.cutHere.resets = [] ∧ s.cutHere.security.attest = none ∧
    State.cutFound s.cutTakes s.cutHere := by
  rw [State.cutHere_eq]
  generalize s.cutTakes = w
  obtain ⟨ended, found, frame⟩ := w.cutServed.cutNow_effect
  have power : w.cutServed.cutNow.power.cutDone = true := congrArg Power.cutDone (State.power_of_outside frame (by decide))
  have found' : State.cutFound w w.cutServed.cutNow := found
  generalize w.cutServed.cutNow = n at *
  obtain ⟨resets, attest, posted, reads, running, rest⟩ := n.cutRest_effect
  generalize n.cutRest = v at *
  have keep : v.keep = n.keep := State.keep_of_outside rest (by decide)
  have image : v.image = n.image := State.image_of_outside rest (by decide)
  have stop : v.stop = n.stop := State.stop_of_outside rest (by decide)
  have window : v.get Reg.windowOpen = n.get Reg.windowOpen := State.get_of_outside rest _ _ (by decide)
  refine ⟨?_, State.cutOver_of_outside rest ended posted reads (congrArg _ keep) running (by decide) (by decide) (by decide) (by decide)
    (by decide), resets, attest, ?_⟩
  · rw [State.power_of_outside rest (by decide), power]
  · rw [State.cutFound, image, keep, window, State.stopFacts, stop]
    exact found'

/-- The boundary after a detection is the boundary of the cut. -/
theorem State.boundaryWork_cut (cycles : List Nat) (detected : s.power.detected = true) (first : s.power.cutDone = false) :
    s.boundaryWork cycles = s.cutHere.applyLate.workList cycles := by
  have passed : s.cutHere.cutPassed = true := by
    rw [State.cutPassed, s.cutHere_effect.1]
    rfl
  have falls : (if s.power.detected && !s.power.cutDone then s.cutHere else s) = s.cutHere := if_pos (by rw [detected, first]; rfl)
  unfold State.boundaryWork
  dsimp only
  rw [falls, if_pos passed]

end

section
variable {s : State} (awake : s.awake = true)
include awake

theorem exec_cut_none (none : s.power.detected = false ∨ s.power.cutDone = true) : exec .cut s = .next (s.after s) := by
  rw [exec_cut, execCut, act_of_awake _ _ awake, if_neg (by rcases none with h | h <;> simp [h])]

/-- The cut falls at CUT as at any clause boundary. -/
theorem exec_cut_falls (detected : s.power.detected = true) (first : s.power.cutDone = false) :
    exec .cut s = .next (s.after (s.advance.skipSets.cutHere.applyLate.workList [])) ∧
    ∀ cycles, exec (.clauseBoundary cycles) s = .next (s.after (s.advance.skipSets.cutHere.applyLate.workList cycles)) := by
  have runs := awake
  rw [State.awake, Bool.and_eq_true, Bool.not_eq_true'] at runs
  obtain ⟨powered, running⟩ := runs
  have power : s.advance.skipSets.power = s.power := State.power_of_outside (State.boundary_counts s).2 (by decide)
  have boundary (cycles : List Nat) : s.boundary cycles = s.advance.skipSets.cutHere.applyLate.workList cycles := by
    rw [State.boundary_runs s cycles running, State.boundaryWork_cut _ cycles (by rw [power, detected]) (by rw [power, first])]
  refine ⟨?_, fun cycles => ?_⟩
  · rw [exec_cut, execCut, act_of_awake _ _ awake, if_pos (by rw [detected, first]; rfl), boundary]
  · rw [exec_clauseBoundary, execClauseBoundary, actRom_powered _ _ powered, boundary, done]

/-! #### SAVE again (R66) -/

variable (c : Fin 8)

theorem exec_saveResend_eq : exec (.saveResend c) s = .next (s.after
    (if s.stop.active ∧ s.stop.quiet = false ∧ c.val < s.carrierCount ∧
        ([0, 1].filter (fun l => s.carLinkUp c.val l)).isEmpty = false ∧
        bit s.stop.saveAck (2 * c.val) = false ∧ bit s.stop.saveAck (2 * c.val + 1) = false ∧
        s.due (Tbl.getD s.stop.sentAt c.val 0 + usCycles 10) = true then
      let u := s.each ([0, 1].filter (fun l => s.carLinkUp c.val l)) (fun s l => s.sendSave c.val false l false)
      { u with stop := { u.stop with sentAt := Tbl.put u.stop.sentAt c.val u.now } }
    else s)) := by
  rw [exec_saveResend, execSaveResend]
  exact act_of_awake s _ awake

end

/-- Settles O11: at the cut what was under way ends, the image is Sealed where there is one, and SAVE goes until it is acknowledged. -/
theorem cutSealsTheImage : Obligations.CutSealsTheImage := by
  refine ⟨fun s w awake hw => ⟨exec_cut_none awake, fun detected first => ?_⟩, fun c s late awake hl => ⟨?_, fun quiet => ?_⟩⟩
  · subst hw
    obtain ⟨falls, boundaries⟩ := exec_cut_falls awake detected first
    obtain ⟨served, ended, resets, attest, found⟩ := s.advance.skipSets.cutHere_effect
    generalize s.advance.skipSets.cutHere = v at *
    generalize s.advance.skipSets.cutTakes = w at *
    obtain ⟨posted, reads, copies, waiting, running, state, requests, still, pubs⟩ := ended
    obtain ⟨nothing, sealed, stops, idle, job⟩ := found
    refine ⟨_, falls, boundaries, served, posted, reads, copies, resets, waiting, running, state, requests, attest, still, pubs, nothing,
      sealed, fun kept => ?_, idle, job⟩
    have facts := stops kept
    exact ⟨congrArg Prod.fst facts, congrArg (fun x => x.2.1) facts, congrArg (fun x => x.2.2) facts⟩
  · intro active quiet there some first second due
    subst hl
    rw [exec_saveResend_eq awake c, if_pos ⟨active, quiet, there, List.isEmpty_eq_false_iff.mpr some, first, second, due⟩]
    have sent : (s.each ([0, 1].filter (fun l => s.carLinkUp c.val l)) (fun s l => s.sendSave c.val false l false)).outside .message = s.outside .message :=
      State.outside_each _ _ _ _ (fun s l => State.frame_sendSave _ _ _ _ _ (by decide))
    dsimp only
    rw [State.now_of_outside sent (by decide)]
    rfl
  · subst hl
    rw [exec_saveResend_eq awake c, if_neg]
    rintro ⟨active, running, there, some, first, second, due⟩
    rcases quiet with h | h | h | h | h | h | h
    · exact Bool.false_ne_true (h.symm.trans active)
    · exact Bool.false_ne_true (running.symm.trans h)
    · exact absurd there (Nat.not_lt.mpr h)
    · rw [List.isEmpty_eq_false_iff] at some
      exact some h
    · exact Bool.false_ne_true (first.symm.trans h)
    · exact Bool.false_ne_true (second.symm.trans h)
    · exact Bool.false_ne_true (h.symm.trans due)

end Sys2Proof.Machine

namespace Sys2Proof.Machine

/-! ### The retry round of a slice (R312) -/

/-- A read of carrier 0 that waits for its retry round. -/
def nakedRead : TagReq := ⟨0, 0, readMsg 0 64 0, .hostRead 0 0, 0, 0, 64, 1, 1, 0, none⟩

/-- Link 0 is UP with credit on its channel 0, and the retry round of slice 0 of carrier 0 is due. -/
def roundDue : State :=
  ((({ State.reset with clock := { Clock.reset with powered := true, clause := 1 } }.set Reg.linkState 0 3).modLink 0
    (fun l => { l with granted := [(0, 8), (1, 8)] })).modCar 0
    (fun k => { k with rounds := [(0, 0)], reqs := [nakedRead] }))

theorem roundDue_due : roundDue.awake = true ∧ Tbl.find (roundDue.car 0).rounds 0 = some 0 ∧
    roundDue.requestLink 0 0 = some 0 ∧ 0 ≤ roundDue.clauseNow ∧ roundDue.line.units = 0 := by decide

set_option maxRecDepth 8000 in
/-- The request that goes again is a flow unit on the lanes of link 0, ahead of which their contents are not listed. -/
theorem roundDue_sends : (roundDue.retryRound 0 0).line.units = 1 := by decide

theorem exec_retryRound_awake {s : State} (awake : s.awake = true) (c : Fin 8) (seg : Nat) :
    exec (.retryRound c seg) s = .next (s.after (s.retryRound c.val seg)) := by
  rw [exec_retryRound, execRetryRound]
  exact act_of_awake s _ awake

/-- Refutes O42: a request that goes again leaves on its link as a flow unit (R337), and so moves what the lanes carry
(`State.line`), a part of the state that the statement's footprint of RETRY_ROUND does not hold. -/
theorem not_requestsAreRetried : ¬ Obligations.RequestsAreRetried := by
  unfold Obligations.RequestsAreRetried
  intro h
  obtain ⟨awake, round, link, due, idle⟩ := roundDue_due
  have sent := roundDue_sends
  generalize roundDue = s at awake round link due idle sent
  obtain ⟨-, retries, -⟩ := h 0 0 s awake
  obtain ⟨v, next, -, -, frame⟩ := (retries 0).1 0 0 round link due
  rw [exec_retryRound_awake awake] at next
  have units : (s.retryRound (0 : Fin 8).val 0).line.units = s.line.units := by
    have kept := State.line_of_outside frame (by decide)
    rw [← Host.Outcome.next.inj next] at kept
    exact congrArg (·.units) kept
  rw [idle, show ((0 : Fin 8).val) = 0 from rfl, sent] at units
  exact absurd units (by decide)

end Sys2Proof.Machine

namespace Sys2Proof.Machine

/-! ### The reports of a carrier (R325, R327) -/

section
variable (s : State) (c : Nat)

/-- What an IDENT body tells of its carrier, given the image that COMMIT has told of. -/
def Carrier.identified (k : Carrier) (l : Nat) (b image : List Byte) : Carrier :=
  { k with
    ident0 := k.ident0 || l == 0, ident1 := k.ident1 || l == 1, capacity := field b 25 1,
    assigned := k.assigned || (bit (field b 6 1) 3 && field b 8 16 == fromLe image) }

theorem State.imageId_setBlob_identBody (b : List Byte) : (s.setBlob Reg.identBody c b).blob Reg.imageId = s.blob Reg.imageId := by
  refine Tbl.getD_put_other _ _ _ _ _ ?_
  have apart : Reg.identBody < Reg.imageId ∨ Reg.imageId < Reg.identBody := by decide
  generalize Reg.identBody = i at apart
  generalize Reg.imageId = j at apart
  simp only [Reg.key]
  omega

theorem State.gotIdent_bad (l : Nat) {b : List Byte} (bad : identForm b = false) : s.gotIdent c l b = s.carrierProtocol c := by
  exact if_pos (by rw [bad]; rfl)

theorem State.gotIdent_good (l : Nat) {b : List Byte} (good : identForm b = true) : s.gotIdent c l b =
    ((((s.setBlob Reg.identBody c b).modCar c (fun k => k.identified l b (s.blob Reg.imageId))).renewCarrier
        c).checksIfPresent).commitPump := by
  rw [State.gotIdent, if_neg (by rw [good]; exact Bool.false_ne_true), ← State.imageId_setBlob_identBody s c b]
  unfold Carrier.identified
  with_reducible rfl

theorem length_of_identForm {b : List Byte} (good : identForm b = true) : b.length = 128 := by
  simp only [identForm, Bool.and_eq_true, beq_iff_eq] at good
  obtain ⟨⟨⟨⟨⟨⟨size, -⟩, -⟩, -⟩, -⟩, -⟩, -⟩ := good
  exact size

theorem State.gotHealth_bad (urgent : Bool) {b : List Byte} (bad : b.length ≠ 64 ∨ 16 ≤ field b 0 4) :
    s.gotHealth c urgent b = s.carrierProtocol c := if_pos bad

/-- A HEALTH body of a carrier, kept. -/
def State.healthKept (b : List Byte) : State :=
  (s.setBlob Reg.healthBody c b).modCar c (fun k => { k with healthAt := s.now, healthStale := false })

theorem State.gotHealth_good (urgent : Bool) {b : List Byte} (size : b.length = 64) (small : field b 0 4 < 16) :
    s.gotHealth c urgent b = (if field b 0 4 = 0
      then (if urgent then (s.healthKept c b).wake 12 else s.healthKept c b).withdrawUnit 0 0x084 c
      else (if urgent then (s.healthKept c b).wake 12 else s.healthKept c b).raise 0 0x084 c) := by
  rw [State.gotHealth, if_neg (by omega)]
  unfold State.healthKept
  with_reducible rfl

end

section
variable (s : State) (c : Fin 8) (l : Fin 2) (awake : s.awake = true)
include awake

theorem exec_ident_awake (b : List Byte) : exec (.ident c l b) s = .next (s.after
    (((s.consume (2 * c.val + l.val) (fun m => m.op == 0x22)).gotIdent c l b).runConfig)) := by
  rw [exec_ident, execIdent]
  exact act_of_awake s _ awake

theorem exec_health_awake (urgent : Bool) (b : List Byte) : exec (.health c l urgent b) s = .next (s.after
    ((s.consume (2 * c.val + l.val) (fun m => m.op == 0x21)).gotHealth c urgent b)) := by
  rw [exec_health, execHealth]
  exact act_of_awake s _ awake

theorem exec_healthStale_awake : exec (.healthStale c) s = .next (s.after (s.healthLate c)) := by
  rw [exec_healthStale, execHealthStale]
  exact act_of_awake s _ awake

theorem exec_tagTimeout_awake : exec (.tagTimeout c l) s = .next (s.after (if s.itemHeld 10 then s
    else if s.tagLate c l then (s.raise 0 0x082 c).declareDown (2 * c.val + l.val) 9 else s)) := by
  rw [exec_tagTimeout, execTagTimeout]
  exact actItem_of_awake s _ _ awake

theorem exec_wakeResend_awake : exec (.wakeResend c) s = .next (s.after (s.wakeLate c)) := by
  rw [exec_wakeResend, execWakeResend]
  exact act_of_awake s _ awake

theorem exec_wakeTimeout_awake : exec (.wakeTimeout c) s = .next (s.after (s.wakeLost c)) := by
  rw [exec_wakeTimeout, execWakeTimeout]
  exact act_of_awake s _ awake

end

/-! #### The clauses of O43 -/

section
variable {s : State} {c : Nat}

theorem State.tagLate_due {l : Nat} (up : s.linkState (2 * c + l) = .up)
    (late : ∃ r ∈ (s.car c).reqs, r.link = l ∧ s.due (r.sentAt + usCycles (s.get Reg.tagTimeout c)) = true) :
    s.tagLate c l = true := by
  obtain ⟨r, mem, link, due⟩ := late
  rw [State.tagLate, up, List.any_eq_true.mpr ⟨r, mem, by rw [link, due, beq_self_eq_true]; rfl⟩]
  rfl

theorem State.tagLate_idle {l : Nat} (idle : s.linkState (2 * c + l) ≠ .up ∨
    ∀ r ∈ (s.car c).reqs, r.link = l → s.due (r.sentAt + usCycles (s.get Reg.tagTimeout c)) = false) : s.tagLate c l = false := by
  rw [State.tagLate, Bool.and_eq_false_iff]
  refine idle.imp (fun h => beq_eq_false_iff_ne.mpr h) (fun h => List.any_eq_false.mpr (fun r mem late => ?_))
  obtain ⟨link, due⟩ := (Bool.and_eq_true _ _).mp late
  exact absurd ((h r mem (beq_iff_eq.mp link)).symm.trans due) Bool.false_ne_true

theorem State.healthLate_due (fresh : (s.car c).healthStale = false) (reach : s.carrierReachable c = true)
    (due : s.due ((s.car c).healthAt + msCycles 5000) = true) :
    s.healthLate c = (s.modCar c (fun k => { k with healthStale := true })).raise 0 0x084 c :=
  if_pos (by rw [fresh, reach, due]; rfl)

theorem State.healthLate_idle (idle : (s.car c).healthStale = true ∨ s.carrierReachable c = false ∨
    s.due ((s.car c).healthAt + msCycles 5000) = false) : s.healthLate c = s :=
  if_neg (by rcases idle with h | h | h <;> simp [h])

theorem State.wakeLate_due (asked : (s.car c).wakeFirst ≠ none) (due : s.due ((s.car c).wakeAt + msCycles 10) = true)
    (uncut : s.cutPassed = false) : s.wakeLate c = (s.raise 0 0x086 c).sendWake c :=
  if_pos (by rw [Option.isSome_iff_ne_none.mpr asked, due, uncut]; rfl)

theorem State.wakeLate_idle (idle : (s.car c).wakeFirst = none ∨ s.due ((s.car c).wakeAt + msCycles 10) = false ∨
    s.cutPassed = true) : s.wakeLate c = s :=
  if_neg (by rcases idle with h | h | h <;> simp [h])

theorem State.wakeLost_due {t : Nat} (asked : (s.car c).wakeFirst = some t) (due : s.due (t + msCycles 50) = true)
    (uncut : s.cutPassed = false) {u : State}
    (down : u = (((s.raise 0 0x086 c).modCar c (fun k => { k with wakeFirst := none })).declareDown (2 * c) 9).declareDown
      (2 * c + 1) 9) : s.wakeLost c = if u.get Reg.carrierState c = 5 then u else u.carrierLost c := by
  have now : (s.due (t + msCycles 50) && !s.cutPassed) = true := by rw [due, uncut]; rfl
  rw [State.wakeLost, asked, down]
  exact if_pos now

theorem State.wakeLost_idle (idle : (s.car c).wakeFirst = none ∨ s.cutPassed = true ∨
    ∃ t, (s.car c).wakeFirst = some t ∧ s.due (t + msCycles 50) = false) : s.wakeLost c = s := by
  unfold State.wakeLost
  split
  case h_1 t asked =>
    refine if_neg fun now => ?_
    obtain ⟨due, uncut⟩ := (Bool.and_eq_true _ _).mp now
    rcases idle with h | h | ⟨t', h, early⟩
    · exact absurd (asked.symm.trans h) (Option.some_ne_none t)
    · rw [h] at uncut
      exact absurd uncut Bool.false_ne_true
    · rw [Option.some.inj (asked.symm.trans h), early] at due
      exact absurd due Bool.false_ne_true
  case h_2 => rfl

end

/-- Settles O43: each report and each timer of a carrier is its own case of the model. -/
theorem carriersReport : Obligations.CarriersReport := by
  unfold Obligations.CarriersReport
  refine ⟨fun c l s awake => ⟨fun b u eq => ?_, fun urgent b u eq => ?_, fun fresh reach due => ?_, fun idle => ?_⟩,
    fun c l s awake => ⟨fun up free late => ?_, fun idle => ?_, fun asked due uncut => ?_, fun idle => ?_,
      fun t u asked due uncut down => ?_, fun idle => ?_⟩⟩
  · have taken := State.frame_consume (f := ⟨[], [.links]⟩) s (2 * c.val + l.val) (fun m => m.op == 0x22) (by decide)
    rw [exec_ident_awake s c l awake, ← eq]
    rw [← eq] at taken
    refine ⟨fun bad => by rw [State.gotIdent_bad _ _ _ bad]; rfl, fun good => ⟨length_of_identForm good, ?_⟩⟩
    rw [State.gotIdent_good _ _ _ good, show u.blob Reg.imageId = s.blob Reg.imageId by
      rw [State.blob, State.blobs_of_outside taken (by decide)]; rfl]
    rfl
  · have taken := State.frame_consume (f := ⟨[], [.links]⟩) s (2 * c.val + l.val) (fun m => m.op == 0x21) (by decide)
    rw [exec_health_awake s c l awake, ← eq]
    rw [← eq] at taken
    refine ⟨fun bad => by rw [State.gotHealth_bad _ _ _ bad]; rfl, fun w v keep wakes size => ?_⟩
    have kept : u.healthKept c b = w := by rw [keep, ← State.now_of_outside taken (by decide)]; rfl
    refine ⟨fun zero => ?_, fun pos small => ?_⟩
    · rw [State.gotHealth_good _ _ _ size (by omega), if_pos zero, kept, wakes]
    · rw [State.gotHealth_good _ _ _ size small, if_neg (by omega), kept, wakes]
  · rw [exec_healthStale_awake s c awake, State.healthLate_due fresh reach due]
  · rw [exec_healthStale_awake s c awake, State.healthLate_idle idle]
  · rw [exec_tagTimeout_awake s c l awake, free, if_neg Bool.false_ne_true, if_pos (State.tagLate_due up late)]
  · rw [exec_tagTimeout_awake s c l awake]
    rcases idle with down | held | early
    · rw [State.tagLate_idle (.inl down), if_neg Bool.false_ne_true, ite_self]
    · rw [if_pos held]
    · rw [State.tagLate_idle (.inr early), if_neg Bool.false_ne_true, ite_self]
  · rw [exec_wakeResend_awake s c awake, State.wakeLate_due asked due uncut]
  · rw [exec_wakeResend_awake s c awake, State.wakeLate_idle idle]
  · rw [exec_wakeTimeout_awake s c awake, State.wakeLost_due asked due uncut down]
  · rw [exec_wakeTimeout_awake s c awake, State.wakeLost_idle idle]

end Sys2Proof.Machine

namespace Sys2Proof.Machine

/-! ### The outstanding requests of a carrier (R310) -/

section
variable (s : State) (c tag : Nat) {f : Footprint}

theorem State.frame_renewCarrier (h : Footprint.le ⟨[Reg.carrierState, Reg.affinity], []⟩ f = true) :
    (s.renewCarrier c).outside f = s.outside f := by
  refine State.outside_le h ?_
  rw [State.renewCarrier, State.outside_set _ _ _ _ _ (by decide), State.outside_set _ _ _ _ _ (by decide)]

theorem State.frame_strayResponse (h : Footprint.le (Footprint.event.plus [Reg.protocolErrors] []) f = true) :
    (s.strayResponse c).outside f = s.outside f := by
  refine State.outside_le h (State.outside_ite _ rfl ?_)
  rw [State.carrierProtocol, State.frame_raise _ _ _ _ (by decide), State.outside_bump _ _ _ _ _ (by decide)]

theorem State.frame_retire (h : Footprint.le ⟨[Reg.tagsOutstanding, Reg.carrierState, Reg.affinity], [.carriers]⟩ f = true) :
    (s.retire c tag).outside f = s.outside f := by
  refine State.outside_le h ?_
  rw [State.retire, State.frame_renewCarrier _ _ (by decide), State.countTags, State.outside_set _ _ _ _ _ (by decide),
    State.outside_modCar _ _ _ _ (by decide)]

theorem State.frame_sendMack (h : Footprint.mirrors.le f = true) : s.sendMack.outside f = s.outside f := by
  refine State.outside_le h ?_
  have moved (g : Mirror → Mirror) : (s.modMirror g).outside .mirrors = s.outside .mirrors := State.outside_modMirror _ _ _ (by decide)
  unfold State.sendMack
  refine State.outside_ite _ rfl (State.outside_ite _ (moved _) ?_)
  exact (State.frame_sendPartner _ _ (by decide)).trans (moved _)

theorem State.frame_sendRack (h : Footprint.mirrors.le f = true) : s.sendRack.outside f = s.outside f := by
  refine State.outside_le h ?_
  unfold State.sendRack
  refine State.outside_ite _ rfl ?_
  dsimp only
  rw [State.frame_resyncPump _ (by decide), State.frame_sendPartner _ _ (by decide), State.outside_modMirror _ _ _ (by decide)]

theorem State.frame_rxPartDone (seq : Nat) (resync : Bool) (h : Footprint.mirrors.le f = true) :
    (s.rxPartDone seq resync).outside f = s.outside f := by
  refine State.outside_le h ?_
  have counted (g : Mirror → Mirror) : (s.modMirror g).outside .mirrors = s.outside .mirrors := State.outside_modMirror _ _ _ (by decide)
  unfold State.rxPartDone
  refine State.outside_ite _ (counted _) (State.outside_ite _ ?_ ?_)
  · exact (State.frame_sendRack _ (by decide)).trans (counted _)
  · exact (State.frame_sendMack _ (by decide)).trans (counted _)

/-- An acknowledged write moves the durability and the mirror engine, not the carrier's requests. -/
theorem State.frame_ownAcked (own : ReqOwner) (h : Footprint.mirrors.le f = true) : (s.ownAcked own).outside f = s.outside f := by
  refine State.outside_le h ?_
  cases own with
  | hostWrite i num => exact State.frame_partAcked _ _ _ (by decide)
  | dmaWrite k burst i num => exact State.frame_partAcked _ _ _ (by decide)
  | mirrorWrite seq => exact State.frame_rxPartDone _ _ _ (by decide)
  | resyncWrite seq => exact State.frame_rxPartDone _ _ _ (by decide)
  | hostRead id part => rfl
  | dmaRead k burst slot => rfl
  | resyncRead seg off => rfl

/-! #### A tag that retires -/

theorem State.car_of_outside {s t : State} {f : Footprint} (h : t.outside f = s.outside f) (n : Part.carriers ∉ f.parts) :
    t.car c = s.car c := by
  rw [State.car, State.carriers_of_outside h n]
  rfl

theorem State.reqs_retire : ((s.retire c tag).car c).reqs = (s.car c).reqs.filter (fun r => r.tag != tag) := by
  have same (a : State) : ((a.countTags c).renewCarrier c).car c = a.car c := rfl
  rw [State.retire, same, State.car_modCar_same]

theorem State.request_retire (x : Nat) : (s.retire c tag).request c x = if x = tag then none else s.request c x := by
  rw [State.request, State.reqs_retire, List.find?_filter]
  split
  case isTrue same =>
    rw [List.find?_eq_none]
    intro r _ hit
    simp [same] at hit
  case isFalse apart =>
    refine congrArg (fun p => (s.car c).reqs.find? p) (funext fun r => ?_)
    by_cases hit : r.tag = x
    · simp [hit, apart]
    · simp [hit]

theorem State.tagsOutstanding_retire : (s.retire c tag).get Reg.tagsOutstanding c = ((s.retire c tag).car c).reqs.length := by
  rw [State.retire, State.get_of_outside (State.frame_renewCarrier (f := ⟨[Reg.carrierState, Reg.affinity], []⟩) _ c (by decide)) _ _ (by decide)]
  exact State.get_set_same _ _ _ _

/-! #### CARRIER_ACK (R310) -/

/-- What bit k of an acknowledgement of `tag` does. -/
def State.ackOne (k : Nat) : State :=
  match s.request c ((tag + k) % 65536) with
  | some r => if r.reads then s.strayResponse c else (s.retire c ((tag + k) % 65536)).ownAcked r.own
  | none => s.strayResponse c

theorem State.gotAck_good {bitmap : Nat} (first : bit bitmap 0 = true) (small : bitmap < 65536) :
    s.gotAck c tag bitmap = s.each ((List.range 16).filter (fun k => bit bitmap k)) (fun s k => s.ackOne c tag k) := by
  have good : ¬ (bit bitmap 0 = false ∨ 65536 ≤ bitmap) := by simp [first]; omega
  exact if_neg good

/-- What an acknowledgement may change. -/
def Footprint.acked : Footprint := Footprint.mirrors.plus
  [Reg.protocolErrors, Reg.tagsOutstanding, Reg.carrierState, Reg.affinity] [.carriers, .links]

theorem State.frame_ackOne (k : Nat) : (s.ackOne c tag k).outside .acked = s.outside .acked := by
  unfold State.ackOne
  split
  · refine State.outside_ite _ (State.frame_strayResponse _ _ (by decide)) ?_
    rw [State.frame_ownAcked _ _ (by decide), State.frame_retire _ _ _ (by decide)]
  · exact State.frame_strayResponse _ _ (by decide)

theorem State.request_strayResponse (x : Nat) : (s.strayResponse c).request c x = s.request c x := by
  rw [State.request, State.car_of_outside c (State.frame_strayResponse s c (f := Footprint.event.plus [Reg.protocolErrors] []) (by decide))
    (by decide)]
  rfl

theorem State.request_ownAcked (own : ReqOwner) (x : Nat) : (s.ownAcked own).request c x = s.request c x := by
  rw [State.request, State.car_of_outside c (State.frame_ownAcked (f := .mirrors) s own (by decide)) (by decide)]
  rfl

/-- Bit k retires the tag it names where that is a write's, and no other. -/
theorem State.request_ackOne (k x : Nat) : (s.ackOne c tag k).request c x =
    if x = (tag + k) % 65536 ∧ (∀ r, s.request c x = some r → r.reads = false) then none else s.request c x := by
  unfold State.ackOne
  split
  case h_1 r found =>
    by_cases reads : r.reads = true
    · rw [if_pos reads, State.request_strayResponse, if_neg]
      rintro ⟨same, write⟩
      rw [same] at write
      exact absurd ((write r found).symm.trans reads) Bool.false_ne_true
    · rw [if_neg reads, State.request_ownAcked, State.request_retire]
      refine if_congr ⟨fun same => ⟨same, fun q hit => ?_⟩, And.left⟩ rfl rfl
      rw [same, found] at hit
      rw [← Option.some.inj hit]
      exact eq_false_of_ne_true reads
  case h_2 lost =>
    rw [State.request_strayResponse]
    split
    case isTrue named => rw [named.1, lost]
    case isFalse => rfl

/-- A tag that bits of an acknowledgement do not name, or that is a read's, stays. -/
theorem State.request_acks_kept (x : Nat) (l : List Nat)
    (kept : (∀ k ∈ l, x ≠ (tag + k) % 65536) ∨ ∃ r, s.request c x = some r ∧ r.reads = true) :
    (s.each l (fun s k => s.ackOne c tag k)).request c x = s.request c x := by
  refine State.each_preserves (fun t => t.request c x = s.request c x) _ l (fun t k mem same => ?_) s rfl
  rw [State.request_ackOne, same, if_neg]
  rintro ⟨named, write⟩
  rcases kept with apart | ⟨r, found, reads⟩
  · exact apart k mem named
  · exact absurd ((write r found).symm.trans reads) Bool.false_ne_true

/-- A write's tag that a bit of an acknowledgement names is gone with the last of them. -/
theorem State.request_acks_gone {k : Nat} (l : List Nat) (mem : k ∈ l)
    (write : ∀ r, s.request c ((tag + k) % 65536) = some r → r.reads = false) :
    (s.each l (fun s k => s.ackOne c tag k)).request c ((tag + k) % 65536) = none := by
  induction l generalizing s with
  | nil => exact absurd mem List.not_mem_nil
  | cons j l ih =>
    rw [State.each_cons]
    by_cases same : (tag + k) % 65536 = (tag + j) % 65536
    · have gone := (State.request_ackOne s c tag j _).trans (if_pos ⟨same, write⟩)
      refine State.each_preserves (fun t => t.request c ((tag + k) % 65536) = none) _ l (fun t i _ none => ?_) _ gone
      rw [State.request_ackOne, none, ite_self]
    · have other := (State.request_ackOne s c tag j ((tag + k) % 65536)).trans (if_neg fun h => same h.1)
      refine ih _ ((List.mem_cons.mp mem).resolve_left fun h => same (by rw [h])) fun r found => write r ?_
      rwa [other] at found

/-! #### CARRIER_CPL (R310) -/

section
variable {poison : Nat} {data : List Byte}

theorem State.gotCpl_stray (no : ∀ r, s.request c tag = some r → r.reads = false) :
    s.gotCpl c tag poison data = s.strayResponse c := by
  unfold State.gotCpl
  split
  · rfl
  case h_2 r found =>
    exact if_pos (by rw [no r found]; rfl)

variable {r : TagReq} (found : s.request c tag = some r) (reads : r.reads = true)
include found reads

theorem State.gotCpl_bad (bad : data.length ≠ 64 * (r.msg.p0 + 1) ∨ 2 ^ (r.msg.p0 + 1) ≤ poison) :
    s.gotCpl c tag poison data = s.carrierProtocol c := by
  rw [State.gotCpl, found]
  dsimp only
  rw [if_neg (by rw [reads]; decide), if_pos bad]

theorem State.gotCpl_good (size : data.length = 64 * (r.msg.p0 + 1)) (small : poison < 2 ^ (r.msg.p0 + 1)) :
    s.gotCpl c tag poison data = (s.retire c tag).ownData r.own (slice data (localOf s.carrierCount r.ia % 64) r.len)
      (((List.range (r.msg.p0 + 1)).find? (fun k => bit poison k)).map (fun k => 64 * k - localOf s.carrierCount r.ia % 64)) := by
  rw [State.gotCpl, found]
  dsimp only
  rw [if_neg (by rw [reads]; decide), if_neg (by omega)]

end
end

section
variable (s : State) (c : Fin 8) (l : Fin 2) (awake : s.awake = true)
include awake

theorem exec_carrierCpl_awake (tag poison : Nat) (data : List Byte) : exec (.carrierCpl c l tag poison data) s = .next (s.after
    ((s.consume (2 * c.val + l.val) (fun m => (m.op == 0x80 || m.op == 0x81) && m.tag == tag)).gotCpl c tag poison data)) := by
  rw [exec_carrierCpl, execCarrierCpl]
  exact act_of_awake s _ awake

theorem exec_carrierAck_awake (tag bitmap : Nat) : exec (.carrierAck c l tag bitmap) s = .next (s.after
    ((s.consume (2 * c.val + l.val) (fun m => m.op == 0x82 && m.tag == tag)).gotAck c tag bitmap)) := by
  rw [exec_carrierAck, execCarrierAck]
  exact act_of_awake s _ awake

end

/-- Settles O41: the model's cases of a completion, and an induction over the bits of an acknowledgement, each of which retires
the tag it names where that is a write's. -/
theorem requestsComplete : Obligations.RequestsComplete := by
  unfold Obligations.RequestsComplete
  intro c l tag s awake
  refine ⟨fun poison data u v retired taken => ⟨fun no => ?_, fun r n found reads count => ⟨fun bad => ?_, fun size small => ?_⟩,
    ?_, ?_, ?_⟩, fun bitmap u taken => ⟨fun bad => ?_, fun first small => ?_⟩⟩
  · rw [exec_carrierCpl_awake s c l awake, ← taken, State.gotCpl_stray _ _ _ no]
    rfl
  · rw [exec_carrierCpl_awake s c l awake, ← taken, State.gotCpl_bad _ _ _ found reads (count ▸ bad)]
    rfl
  · rw [exec_carrierCpl_awake s c l awake, ← taken, State.gotCpl_good _ _ _ found reads (count ▸ size) (count ▸ small), ← retired, count]
  · rw [retired, State.request_retire, if_pos rfl]
  · rw [retired, State.tagsOutstanding_retire]
  · rw [retired, State.reqs_retire]
  · rw [exec_carrierAck_awake s c l awake, ← taken, State.gotAck, if_pos bad]
    rfl
  · have effect := exec_carrierAck_awake s c l awake tag bitmap
    rw [← taken, State.gotAck_good _ _ _ first small] at effect
    refine ⟨_, effect, fun k lt named write => ?_, fun x kept => ?_, ?_⟩
    · exact State.request_acks_gone u c tag _ (List.mem_filter.mpr ⟨List.mem_range.mpr lt, named⟩) write
    · refine State.request_acks_kept u c tag x _ (kept.imp_left fun apart k mem => ?_)
      obtain ⟨lt, named⟩ := List.mem_filter.mp mem
      exact apart k (List.mem_range.mp lt) named
    · refine State.changesOnly_after _ _ ?_
      rw [taken]
      exact (State.outside_each _ _ _ _ (fun t k => State.frame_ackOne t c tag k)).trans (State.frame_consume _ _ _ (by decide))

end Sys2Proof.Machine

namespace Sys2Proof.Machine

/-! ### The carrier checks (R82, Table 4.2) -/

section
variable (s : State)

theorem State.blob_of_outside {t : State} {f : Footprint} (h : t.outside f = s.outside f) (n : Part.blobs ∉ f.parts) (r i : Nat) :
    t.blob r i = s.blob r i := by
  rw [State.blob, State.blobs_of_outside h n]
  rfl

theorem State.identified_of_outside {t : State} {f : Footprint} (h : t.outside f = s.outside f) (n : Part.carriers ∉ f.parts)
    (m : Reg.linkState ∉ f.regs) (c : Nat) : t.identified c = s.identified c := by
  simp only [State.identified, State.linkIsUp, State.linkState, State.car_of_outside c h n, State.get_of_outside h _ _ m]

/-- A check reads the carrier, what it has sent, its links and the geometry of the image. -/
theorem State.carrierCheck_of_outside {t : State} {f : Footprint} (h : t.outside f = s.outside f) (n : Part.carriers ∉ f.parts)
    (m : Part.blobs ∉ f.parts) (apart : Reg.linkState ∉ f.regs ∧ Reg.imageSegments ∉ f.regs ∧ Reg.activeCarriers ∉ f.regs)
    (e : Option Nat) (c : Nat) : t.carrierCheck e c = s.carrierCheck e c := by
  simp only [State.carrierCheck, State.savedEpoch, State.segments, State.carrierCount, State.identified_of_outside s h n apart.1,
    State.blob_of_outside s h m, State.get_of_outside h _ _ apart.2.1, State.get_of_outside h _ _ apart.2.2]
  rfl

theorem State.carrierCheck_silent {c : Nat} (silent : s.identified c = false) (e : Option Nat) :
    s.carrierCheck e c = some (3, 3, 0x0102) := by
  unfold State.carrierCheck
  exact if_pos (by rw [silent]; rfl)

/-- The expected cut epoch with which the checks run (R80, R81). -/
def State.expected : Option Nat := match s.restore.epoch with | some e => some e | none => s.agreedEpoch

/-- Carrier c takes the code of the first check that it fails, or 1 or 2. -/
def State.checked (expect : Option Nat) (t : State) (c : Nat) : State :=
  t.set Reg.restartCarrierStatus c (match t.carrierCheck expect c with
    | some f => f.2.1
    | none => if t.identifiedBoth c then 1 else 2)

theorem State.frame_checked (expect : Option Nat) (c : Nat) :
    (State.checked expect s c).outside ⟨[Reg.restartCarrierStatus], []⟩ = s.outside ⟨[Reg.restartCarrierStatus], []⟩ :=
  State.outside_set _ _ _ _ _ (by decide)

/-- Once a carrier fails a check the restart fails, and the codes stand. -/
theorem State.status_carrierChecks {c : Nat} (active : c < s.carrierCount) (fails : s.carrierCheck s.expected c ≠ none) (i : Nat) :
    s.carrierChecks.get Reg.restartCarrierStatus i =
      (s.each s.activeCarriers (State.checked s.expected)).get Reg.restartCarrierStatus i := by
  unfold State.carrierChecks
  dsimp only
  split
  · split
    · exact State.get_of_outside (State.frame_restartFails (f := .fault) _ _ (by decide)) _ _ (by decide)
    · rfl
  case h_2 none =>
    obtain ⟨x, found⟩ := Option.ne_none_iff_exists'.mp fails
    have mem := List.mem_reverse.mpr (List.mem_filterMap.mpr ⟨c, List.mem_range.mpr active, found⟩)
    obtain ⟨a, r, cons⟩ := List.exists_cons_of_ne_nil (List.ne_nil_of_mem mem)
    exact absurd none (cons ▸ bestOf_cons_ne _ a r)

end

/-- A restart at its carrier checks, of which carrier 0 has sent no IDENT. ACTIVE_CARRIERS is 2^32 + 1, and carrier 2^32, whose place of a
register is that of carrier 0, has sent one and fails check 5. -/
def checksPastPlaces : State :=
  ((((({ State.reset with
    clock := { Clock.reset with powered := true, clause := 1 }
    restore := { Restore.reset with epoch := some 0 } }.set Reg.imageState 0 2).set Reg.restartPhase 0 2).set
    Reg.linkState 0 3).set Reg.restartCarrierWait 0 0).set
    Reg.activeCarriers 0 4294967297).modCar 4294967296 (fun k => { k with ident0 := true })

theorem checksPastPlaces_due : checksPastPlaces.awake = true ∧ checksPastPlaces.image = .restoring ∧
    checksPastPlaces.get Reg.restartPhase = 2 ∧
    checksPastPlaces.due (checksPastPlaces.restore.startAt + 250000 * checksPastPlaces.get Reg.restartCarrierWait) = true ∧
    checksPastPlaces.get Reg.activeCarriers = 4294967297 ∧ checksPastPlaces.identified 0 = false ∧
    checksPastPlaces.expected = some 0 ∧ checksPastPlaces.carrierCheck (some 0) 4294967296 = some (5, 7, 0x0107) := by decide

/-- The code of the last carrier that is checked stands at its place. -/
theorem State.status_lastChecked {s : State} {n i : Nat} (count : s.carrierCount = n + 1)
    (place : Reg.key Reg.restartCarrierStatus n = Reg.key Reg.restartCarrierStatus i) {f : Nat × Nat × Nat} {e : Option Nat}
    (fails : s.carrierCheck e n = some f) : (s.each s.activeCarriers (State.checked e)).get Reg.restartCarrierStatus i = f.2.1 := by
  rw [State.activeCarriers, count, List.range_succ, State.each_append, State.each_cons, State.each_nil]
  have same := (State.carrierCheck_of_outside s (State.outside_each _ _ _ _ (fun t c => State.frame_checked t e c) :
    (s.each (List.range n) (State.checked e)).outside _ = _) (by decide) (by decide) (by decide) e n).trans fails
  rw [State.checked, same]
  exact State.get_set_same_place _ place

theorem exec_carrierWaitExpiry_due {s : State} (awake : s.awake = true) (restoring : s.image = .restoring)
    (phase : s.get Reg.restartPhase = 2)
    (due : s.due (s.restore.startAt + 250000 * s.get Reg.restartCarrierWait) = true) :
    exec .carrierWaitExpiry s = .next (s.after s.carrierChecks) := by
  rw [exec_carrierWaitExpiry, execCarrierWaitExpiry, act_of_awake s _ awake, msCycles, Nat.mul_comm _ 250000,
    if_pos ⟨restoring, phase, due⟩]

/-- Refutes O17: ACTIVE_CARRIERS ranges over all numbers and the places of a register are counted mod 2^32, so that the code of a carrier
2^32, which fails check 5, stands in place of that of carrier 0, which fails check 3. -/
theorem not_imageIsRestored : ¬ Obligations.ImageIsRestored := by
  unfold Obligations.ImageIsRestored
  intro h
  obtain ⟨awake, restoring, phase, due, count, silent, expected, last⟩ := checksPastPlaces_due
  generalize checksPastPlaces = s at awake restoring phase due count silent expected last
  obtain ⟨fails, -⟩ := (h.1 0 s awake).1 restoring phase due
  have active : 0 < s.carrierCount := lt_of_lt_of_eq (by decide : 0 < 4294967297) count.symm
  obtain ⟨t, next, -, -, status, -⟩ := fails active silent
  have first : s.carrierCheck s.expected 0 ≠ none := by
    rw [State.carrierCheck_silent s silent]
    exact Option.some_ne_none _
  have code : s.carrierChecks.get Reg.restartCarrierStatus 0 = 7 := by
    rw [State.status_carrierChecks s active first, expected]
    exact State.status_lastChecked count (by decide) last
  rw [exec_carrierWaitExpiry_due awake restoring phase due] at next
  rw [← Host.Outcome.next.inj next, State.after_get] at status
  exact absurd (code.symm.trans status) (by decide)

end Sys2Proof.Machine

namespace Sys2Proof.Machine

/-! ### What the loss of a carrier or of a link of it may change (R314, R317) -/

/-- The work that ends without an answer: reads and writes of the host, the DMA engine and the mirror engine. -/
def Footprint.ended : Footprint := Footprint.bursts.plus Footprint.mirrors.regs Footprint.mirrors.parts

/-- The hand-over of a link that has gone down: what its messages, its requests and its copies move. -/
def Footprint.handed : Footprint := (Footprint.ended.plus
  [Reg.tagsOutstanding, Reg.carrierState, Reg.affinity, Reg.failovers, Reg.failoverResent, Reg.mirrorCopies,
    Reg.restartCarrierStatus, Reg.restoreHeldBytes] [.gov, .restore]).plus
  (Footprint.sends.regs ++ Footprint.fault.regs ++ Footprint.granted.regs)
  (Footprint.sends.parts ++ Footprint.fault.parts ++ Footprint.granted.parts)

theorem Footprint.ended_holds : Footprint.durable.le .ended = true ∧ Footprint.bursts.le .ended = true ∧
    Footprint.mirrors.le .ended = true ∧ (Footprint.event.plus [] [.host]).le .ended = true := by decide +kernel

theorem Footprint.handed_holds : Footprint.ended.le .handed = true ∧ Footprint.fault.le .handed = true ∧
    Footprint.event.le .handed = true ∧ Footprint.sends.le .handed = true ∧ Footprint.granted.le .handed = true ∧
    Footprint.message.le .handed = true ∧ Footprint.mirrors.le .handed = true ∧
    (Footprint.fault.plus [Reg.restartCarrierStatus, Reg.restoreHeldBytes] [.restore]).le .handed = true := by decide +kernel

section
variable (s : State) {f : Footprint}

/-! #### Requests that end without an answer -/

theorem State.frame_putJob (j : ReadJob) (h : Part.host ∈ f.parts) : (s.putJob j).outside f = s.outside f :=
  State.outside_modHost _ _ _ h

theorem State.frame_poisonRead (i tag ia len cause c : Nat) (h : (Footprint.event.plus [] [.host]).le f = true) :
    (s.poisonRead i tag ia len cause c).outside f = s.outside f := by
  refine State.outside_le h ?_
  unfold State.poisonRead
  exact State.outside_ite _ ((State.frame_recordMgmt _ _ _ _ _ _ (by decide)).trans (State.outside_modHost _ _ _ (by decide)))
    (State.outside_modHost _ _ _ (by decide))

theorem State.frame_pushCompletions (id : Nat) (h : (Footprint.event.plus [] [.host]).le f = true) :
    (s.pushCompletions id).outside f = s.outside f := by
  refine State.outside_le h ?_
  unfold State.pushCompletions
  split
  · rfl
  · dsimp only
    rw [State.outside_each _ _ _ _ (fun s k => State.frame_enqueueNine s _ _ _ _ (by decide)), State.frame_putJob _ _ (by decide)]

theorem State.frame_readData (id k : Nat) (data : List Byte) (cause bad : Nat) (h : (Footprint.event.plus [] [.host]).le f = true) :
    (s.readData id k data cause bad).outside f = s.outside f := by
  refine State.outside_le h ?_
  unfold State.readData
  split
  · rfl
  split
  · rfl
  · dsimp only
    rw [State.frame_pushCompletions _ _ (by decide)]
    refine State.outside_ite _ (State.frame_putJob _ _ (by decide)) ?_
    exact (State.frame_poisonRead _ _ _ _ _ _ _ (by decide)).trans (State.frame_putJob _ _ (by decide))

theorem State.bursts_of_turn {s t : State} (h : t.turn = s.turn) : t.outside .bursts = s.outside .bursts := congrArg Prod.fst h

theorem State.bursts_dmaReadFails (k id slot cause : Nat) : (s.dmaReadFails k id slot cause).outside .bursts = s.outside .bursts := by
  unfold State.dmaReadFails
  refine State.outside_ite _ (State.outside_ite _ ?_ ?_) ?_
  · exact State.bursts_of_turn (State.turn_chanOff s k)
  · exact State.bursts_of_turn (State.turn_haltChan s k _)
  · split
    · exact State.bursts_of_turn (State.turn_burstFails s k _ _ _ _)
    · rfl

/-- A request that ends without an answer. -/
theorem State.frame_ownFailed (own : ReqOwner) (h : Footprint.ended.le f = true) : (s.ownFailed own).outside f = s.outside f := by
  refine State.outside_le h ?_
  obtain ⟨durable, bursts, mirrors, host⟩ := Footprint.ended_holds
  cases own with
  | hostWrite i num => exact State.frame_partFailed _ _ _ durable
  | dmaWrite k burst i num => exact State.frame_partFailed _ _ _ durable
  | hostRead id part => exact State.frame_readData _ _ _ _ _ _ host
  | dmaRead k burst slot => exact State.outside_le bursts (State.bursts_dmaReadFails s _ _ _ _)
  | resyncRead seg off => exact (State.frame_resyncPump _ mirrors).trans (State.outside_modMirror _ _ _ (by decide))
  | mirrorWrite seq => rfl
  | resyncWrite seq => rfl

/-! #### A carrier that is lost -/

theorem State.frame_lostInRestore (c : Nat) (h : (Footprint.fault.plus [Reg.restartCarrierStatus, Reg.restoreHeldBytes] [.restore]).le f = true) :
    (s.lostInRestore c).outside f = s.outside f := by
  refine State.outside_le h ?_
  unfold State.lostInRestore
  dsimp only
  rw [State.frame_restartFails _ _ (by decide), State.outside_set _ _ _ _ _ (by decide), State.outside_modRestore _ _ _ (by decide),
    State.dropHeldReads, State.outside_modRestore _ _ _ (by decide), State.outside_set _ _ _ _ _ (by decide)]

/-- The requests of a lost carrier end, and its reports are forgotten. -/
def State.requestsEnd (c : Nat) : State :=
  let reqs := (s.car c).reqs
  let s := (s.modCar c (fun k =>
    { k with reqs := [], rounds := [], returning := none, selfRefresh := false, srAsked := false, wakeFirst := none })).countTags c
  let s := (s.set Reg.carrierState c 5).raise 0 0x083 c
  let s := s.each reqs (fun s r => s.ownFailed r.own)
  s.putGov c { s.govCar c with reports := [], recompute := true }

theorem State.carrierLost_eq (c : Nat) : s.carrierLost c =
    if decide (c < (s.requestsEnd c).carrierCount) then
      (if (s.requestsEnd c).image = .opened then (s.requestsEnd c).faultImage 0x0001
       else if (s.requestsEnd c).image = .restoring then (s.requestsEnd c).lostInRestore c
       else s.requestsEnd c)
    else s.requestsEnd c := by
  unfold State.carrierLost State.requestsEnd
  with_reducible rfl

theorem State.frame_requestsEnd (c : Nat) (h : Footprint.handed.le f = true) : (s.requestsEnd c).outside f = s.outside f := by
  obtain ⟨ended, -, event, -⟩ := Footprint.handed_holds
  refine State.outside_le h ?_
  unfold State.requestsEnd
  dsimp only
  rw [State.outside_putGov _ _ _ _ (by decide), State.outside_each _ _ _ _ (fun s r => State.frame_ownFailed s _ ended),
    State.frame_raise _ _ _ _ event, State.outside_set _ _ _ _ _ (by decide), State.countTags,
    State.outside_set _ _ _ _ _ (by decide), State.outside_modCar _ _ _ _ (by decide)]

theorem State.frame_carrierLost (c : Nat) (h : Footprint.handed.le f = true) : (s.carrierLost c).outside f = s.outside f := by
  obtain ⟨-, fault, -, -, -, -, -, restore⟩ := Footprint.handed_holds
  refine State.outside_le h ?_
  have ended := State.frame_requestsEnd (f := .handed) s c (by decide +kernel)
  rw [State.carrierLost_eq]
  refine State.outside_ite _ (State.outside_ite _ ?_ (State.outside_ite _ ?_ ended)) ended
  · exact (State.frame_faultImage _ _ fault).trans ended
  · exact (State.frame_lostInRestore _ _ restore).trans ended

/-! #### A link that is lost -/

theorem State.frame_carrierMessage (c : Nat) (both : Bool) (l : Nat) (m : Msg) (h : Footprint.sends.le f = true) :
    (s.carrierMessage c both l m).outside f = s.outside f := by
  unfold State.carrierMessage
  refine State.outside_ite _ (State.outside_each _ _ _ _ (fun s l => State.frame_linkSend s _ _ h))
    (State.outside_ite _ ?_ (State.outside_ite _ ?_ rfl))
  · exact State.frame_linkSend _ _ _ h
  · exact State.frame_linkSend _ _ _ h

theorem State.frame_forceSeven (c : Nat) (last : Entry → Bool) (h : Footprint.handed.le f = true) :
    (s.forceSeven c last).outside f = s.outside f := by
  obtain ⟨-, -, -, sends, granted, -⟩ := Footprint.handed_holds
  refine State.outside_le h (State.outside_each _ _ _ _ (fun s e => ?_))
  split
  · exact (State.frame_carrierMessage _ _ _ _ _ sends).trans (State.frame_granted _ _ _ granted)
  · rfl

theorem State.frame_failoverRecord (u survivor cause fence unacked oldest requests control : Nat) (h : Footprint.event.le f = true) :
    (s.failoverRecord u survivor cause fence unacked oldest requests control).outside f = s.outside f := by
  rw [State.failoverRecord, State.frame_raise _ _ _ _ h, State.frame_recordMgmt _ _ _ _ _ _ h]

theorem State.frame_resendCopies (l : Nat) (sel : Copy → Bool) (h : Footprint.handed.le f = true) :
    (s.resendCopies l sel).outside f = s.outside f := by
  obtain ⟨-, -, -, sends, -⟩ := Footprint.handed_holds
  refine State.outside_le h ?_
  unfold State.resendCopies
  dsimp only
  rw [State.frame_linkSendAll _ _ _ sends, State.outside_each _ _ _ _ (fun s _ => State.outside_bump _ _ _ _ _ (by decide)),
    State.outside_modMirror _ _ _ (by decide)]

theorem State.frame_partnerDown (l : Nat) (lost : List Msg) (h : Footprint.handed.le f = true) :
    (s.partnerDown l lost).1.outside f = s.outside f := by
  obtain ⟨-, -, -, sends, -, -, mirrors, -⟩ := Footprint.handed_holds
  refine State.outside_le h ?_
  unfold State.partnerDown
  dsimp only
  split
  · exact (State.frame_linkSendAll _ _ _ sends).trans (State.frame_resendCopies _ _ _ (by decide +kernel))
  · have kept (g k : Mirror → Mirror) (b : Prop) [Decidable b] :
        (if b then s.modMirror g else (s.modMirror g).modMirror k).outside .handed = s.outside .handed := by
      have first (a : State) (g : Mirror → Mirror) : (a.modMirror g).outside .handed = a.outside .handed :=
        State.outside_modMirror _ _ _ (by decide)
      exact State.outside_ite _ (first s g) ((first _ k).trans (first s g))
    refine State.outside_ite _ ((State.frame_setMirror _ _ mirrors).trans ?_) ?_
    · exact kept _ _ _
    · exact kept _ _ _

end
end Sys2Proof.Machine

namespace Sys2Proof.Machine

/-! ### A link that is declared down (R363) -/

section
variable (s : State) (u : Nat) {f : Footprint}

/-- DOWN goes to the far end, where there is one that hears it, and the lanes fall silent. -/
def State.downSent (cause : Nat) : State :=
  let old := s.linkState u
  let s := if old = .down ∨ old = .disabled ∨ cause = 11 then s
    else s.each (List.replicate 8 ()) (fun s _ => s.sendCtrl u 0x46 cause 0 0 0)
  s.idleLanes (allLanes u)

/-- The registers of a link that goes down. -/
def State.downWritten (cause : Nat) : State :=
  let s := (s.setLinkState u .down).bump Reg.linkDowns u
  ((s.set Reg.lastDownCause u cause).set Reg.linkWidth u 0).set Reg.linkRate u 0

/-- What tells of a link that has gone down from state `old`, and its engine and lanes afresh. -/
def State.downTold (cause : Nat) (old : LinkState) (l : Link) : State :=
  let s := (s.raise 0 0x0A0 u).linkRecord u 1 old.code cause 0 0
  let s := if s.linkActive u && old.isUp then s.wake 15 else s
  let s := s.putLink u { Link.reset with inbox := l.inbox, crcSecond := l.crcSecond, crcCount := l.crcCount }
  let s := s.putTrain u (freshTrain (decide (cause = 8)) (s.get Reg.trainRateMax u))
  s.each (allLanes u) (fun s n => s.modLane n (fun l => { l with eqIter := 0, kept := none, low := 0 }))

/-- What was out on the link goes to its pair, or is lost. -/
def State.downHanded (cause : Nat) (old : LinkState) (l : Link) : State :=
  let lost := (l.sent ++ l.queue).flatMap Group.lost
  if !old.isUp then s
  else if u < 16 then
    s.carrierDown (u / 2) (u % 2) cause lost ((l.n + 4096 - l.o % 4096) % 4096) l.o
  else
    let x := s.partnerDown (u - 16) lost
    let survivor := if x.1.partnerUp (1 - (u - 16)) then otherLink u else 255
    x.1.failoverRecord u survivor cause 0 ((l.n + 4096 - l.o % 4096) % 4096) l.o x.2.1 x.2.2

theorem State.declareDown_eq (cause : Nat) : s.declareDown u cause =
    ((((((s.downSent u cause).downWritten u cause).downTold u cause (s.linkState u) (s.link u)).abandonPause
      (otherLink u)).downHanded u cause (s.linkState u) (s.link u)).pauseWanted (otherLink u)) := by
  unfold State.declareDown State.downSent State.downWritten State.downTold State.downHanded
  with_reducible rfl

/-! #### What each part moves -/

theorem State.outside_ite_keep {c : Prop} [Decidable c] {a b : State} (h : a.outside f = b.outside f) :
    (if c then a else b).outside f = b.outside f := State.outside_ite _ h rfl

theorem State.frame_carrierDown (c l cause : Nat) (lost : List Msg) (unacked oldest : Nat) (h : Footprint.handed.le f = true) :
    (s.carrierDown c l cause lost unacked oldest).outside f = s.outside f := by
  obtain ⟨-, -, event, sends, -, message, -⟩ := Footprint.handed_holds
  have forget : (s.modCar c (fun k => if l = 0 then { k with ident0 := false } else { k with ident1 := false })).outside .handed =
      s.outside .handed := State.outside_modCar _ _ _ _ (by decide)
  refine State.outside_le h ?_
  unfold State.carrierDown
  refine State.outside_ite _ ?_ ((State.frame_carrierLost _ _ (by decide +kernel)).trans forget)
  dsimp only
  rw [State.frame_failoverRecord _ _ _ _ _ _ _ _ _ event, State.frame_renewCarrier _ _ (by decide +kernel),
    State.outside_bump _ _ _ _ _ (by decide), State.outside_bump _ _ _ _ _ (by decide)]
  refine (State.outside_ite_keep (State.frame_linkSend _ _ _ sends)).trans ?_
  rw [State.frame_linkSendAll _ _ _ sends, State.frame_linkSendAll _ _ _ sends]
  refine (State.outside_ite_keep (State.frame_linkSend _ _ _ sends)).trans ?_
  rw [State.frame_forceSeven _ _ _ (by decide +kernel), State.frame_sendCarrier _ _ _ _ _ message, State.outside_modCar _ _ _ _ (by decide), forget]

theorem State.frame_downSent (cause : Nat) (h : Footprint.line.le f = true) : (s.downSent u cause).outside f = s.outside f := by
  rw [State.downSent, State.frame_idleLanes _ _ h]
  exact State.outside_ite _ rfl (State.outside_each _ _ _ _ (fun s _ => State.frame_sendCtrl s u _ _ _ _ _ h))

theorem State.frame_downTold (cause : Nat) (old : LinkState) (l : Link)
    (h : (Footprint.event.plus [] [.links, .training, .lanes]).le f = true) : (s.downTold u cause old l).outside f = s.outside f := by
  refine State.outside_le h ?_
  unfold State.downTold
  dsimp only
  rw [State.outside_each _ _ _ _ (fun s n => State.outside_modLane _ _ _ _ (by decide)), State.outside_putTrain _ _ _ _ (by decide),
    State.outside_putLink _ _ _ _ (by decide)]
  refine (State.outside_ite_keep (State.frame_wake _ _ (by decide))).trans ?_
  rw [State.frame_linkRecord _ _ _ _ _ _ _ (by decide), State.frame_raise _ _ _ _ (by decide)]

theorem State.frame_downHanded (cause : Nat) (old : LinkState) (l : Link) (h : Footprint.handed.le f = true) :
    (s.downHanded u cause old l).outside f = s.outside f := by
  obtain ⟨-, -, event, -⟩ := Footprint.handed_holds
  refine State.outside_le h ?_
  unfold State.downHanded
  dsimp only
  refine State.outside_ite _ rfl (State.outside_ite _ (State.frame_carrierDown _ _ _ _ _ _ _ (by decide +kernel)) ?_)
  rw [State.frame_failoverRecord _ _ _ _ _ _ _ _ _ event, State.frame_partnerDown _ _ _ (by decide +kernel)]

/-! #### The state of the other link -/

theorem State.linkState_setLinkState_other {k : Nat} (st : LinkState) (apart : Reg.key Reg.linkState u ≠ Reg.key Reg.linkState k) :
    (s.setLinkState u st).linkState k = s.linkState k := by
  have put : ((s.set Reg.linkState u st.code).putBit Reg.linksUp 0 u st.isUp).linkState k = s.linkState k := by
    rw [State.linkState_put, if_neg apart]
  refine State.keeps_ite (fun x => x.linkState k) ?_ put
  exact (State.linkState_of_outside (State.frame_ckptStands (f := ⟨[], [.persist]⟩) _ _ _ (by decide)) (by decide) k).trans put

theorem State.linkState_abandonPause_other {k : Nat} (apart : Reg.key Reg.linkState u ≠ Reg.key Reg.linkState k) :
    (s.abandonPause u).linkState k = s.linkState k := by
  unfold State.abandonPause
  split
  · refine State.keeps_ite (fun x => x.linkState k) ?_ rfl
    dsimp only
    rw [State.linkState_of_outside (State.frame_pump (f := .sends) _ _ (by decide)) (by decide) k,
      State.linkState_of_outside (State.frame_tagsStood (f := ⟨[], [.carriers]⟩) _ _ _ (by decide)) (by decide) k]
    exact State.linkState_setLinkState_other s u _ apart
  · rfl

theorem State.linkState_pauseTry (k : Nat) : (s.pauseTry u).linkState k = s.linkState k := by
  refine State.linkState_of_outside (f := Footprint.laneWork.plus [] [.links]) ?_ (by decide) k
  unfold State.pauseTry
  split
  · rfl
  · have sent (g : Link → Link) : (State.modLink (s.sendPause u 0x43 ‹Pause›) u g).outside (Footprint.laneWork.plus [] [.links]) =
        s.outside (Footprint.laneWork.plus [] [.links]) := by
      rw [State.outside_modLink _ _ _ _ (by decide), State.frame_sendPause _ _ _ _ (by decide)]
    exact State.outside_ite _ rfl (State.outside_ite _ ((State.frame_laneChange _ _ _ (by decide)).trans (sent _)) (sent _))

theorem State.linkState_pauseWanted_other {k : Nat} (apart : Reg.key Reg.linkState u ≠ Reg.key Reg.linkState k) :
    (s.pauseWanted u).linkState k = s.linkState k := by
  unfold State.pauseWanted
  split
  · rfl
  · refine State.keeps_ite (fun x => x.linkState k) ?_ rfl
    unfold State.pauseEnter
    dsimp only
    rw [State.linkState_pauseTry]
    have entered := State.linkState_setLinkState_other s u .paused apart
    refine State.keeps_ite (fun x => x.linkState k) ?_ entered
    exact (State.linkState_of_outside (State.frame_sendPause (f := .line) _ _ _ _ (by decide)) (by decide) k).trans entered

end
end Sys2Proof.Machine

namespace Sys2Proof.Machine

/-! ### What a link that goes down leaves (R363) -/

/-- What follows once a link is DOWN: what tells of it, its hand-over, and the pauses of its pair. -/
def Footprint.hands : Footprint := ((Footprint.handed.plus [] [.links, .training, .lanes]).plus Footprint.pause.regs Footprint.pause.parts).plus
  Footprint.abandons.regs Footprint.abandons.parts

/-- The registers of a link that tell how it went down. -/
def downRegs : List Nat := [Reg.linkWidth, Reg.linkRate, Reg.lastDownCause, Reg.linkDowns]

/-- A link that goes down. -/
def Footprint.goes : Footprint := Footprint.hands.plus downRegs []

theorem Footprint.hands_holds : Footprint.handed.le .hands = true ∧ Footprint.pause.le .hands = true ∧
    Footprint.abandons.le .hands = true ∧ (Footprint.event.plus [] [.links, .training, .lanes]).le .hands = true ∧
    (∀ r ∈ downRegs, r ∉ Footprint.hands.regs) ∧ Footprint.hands.le .goes = true ∧ Footprint.linkState.le .goes = true ∧
    Footprint.line.le .goes = true ∧ (∀ r ∈ downRegs, r ∈ Footprint.goes.regs) ∧ Part.lexicon ∉ Footprint.goes.parts := by decide +kernel

theorem otherLink_apart : ∀ u : Fin 18, Reg.key Reg.linkState (otherLink u) ≠ Reg.key Reg.linkState u := by decide

theorem Footprint.handed_linkState : Reg.linkState ∉ Footprint.handed.regs := by decide +kernel

section
variable (s : State) (u : Nat) {f : Footprint}

/-- What follows once the registers of the link are written. -/
def State.downFollows (cause : Nat) (old : LinkState) (l : Link) : State :=
  (((s.downTold u cause old l).abandonPause (otherLink u)).downHanded u cause old l).pauseWanted (otherLink u)

theorem State.frame_downFollows (cause : Nat) (old : LinkState) (l : Link) :
    (s.downFollows u cause old l).outside .hands = s.outside .hands := by
  obtain ⟨handed, pause, abandons, told, -⟩ := Footprint.hands_holds
  rw [State.downFollows, State.frame_pauseWanted _ _ pause, State.frame_downHanded _ _ _ _ _ handed,
    State.frame_abandonPause _ _ abandons, State.frame_downTold _ _ _ _ _ told]

theorem State.linkState_downFollows (cause : Nat) (old : LinkState) (l : Link)
    (apart : Reg.key Reg.linkState (otherLink u) ≠ Reg.key Reg.linkState u) :
    (s.downFollows u cause old l).linkState u = s.linkState u := by
  rw [State.downFollows, State.linkState_pauseWanted_other _ _ apart,
    State.linkState_of_outside (State.frame_downHanded (f := .handed) _ _ _ _ _ (by decide +kernel)) Footprint.handed_linkState,
    State.linkState_abandonPause_other _ _ apart,
    State.linkState_of_outside (State.frame_downTold (f := Footprint.event.plus [] [.links, .training, .lanes]) _ _ _ _ _ (by decide)) (by decide)]

theorem State.declareDown_follows (cause : Nat) : s.declareDown u cause =
    ((s.downSent u cause).downWritten u cause).downFollows u cause (s.linkState u) (s.link u) := State.declareDown_eq s u cause

theorem State.frame_downWritten (cause : Nat) (h : Footprint.linkState.le f = true) (r : ∀ r ∈ downRegs, r ∈ f.regs) :
    (s.downWritten u cause).outside f = s.outside f := by
  rw [State.downWritten, State.outside_set _ _ _ _ _ (r _ (by decide)), State.outside_set _ _ _ _ _ (r _ (by decide)),
    State.outside_set _ _ _ _ _ (r _ (by decide)), State.outside_bump _ _ _ _ _ (r _ (by decide)), State.frame_setLinkState _ _ _ h]

/-- A link that goes down does not move the Lexicon. -/
theorem State.config_declareDown (cause : Nat) : (s.declareDown u cause).lexicon.config = s.lexicon.config := by
  obtain ⟨-, -, -, -, -, hands, linkState, line, regs, apart⟩ := Footprint.hands_holds
  refine State.config_of_outside (f := .goes) ?_ apart
  rw [State.declareDown_follows, State.outside_le hands (State.frame_downFollows _ _ _ _ _), State.frame_downWritten _ _ _ linkState regs,
    State.frame_downSent _ _ _ line]

/-- The registers of a link that has gone down. -/
theorem State.get_declareDown (cause : Nat) {r : Nat} (own : r ∈ downRegs) (i : Nat) :
    (s.declareDown u cause).get r i = ((s.downSent u cause).downWritten u cause).get r i := by
  obtain ⟨-, -, -, -, apart, -⟩ := Footprint.hands_holds
  rw [State.declareDown_follows, State.get_of_outside (State.frame_downFollows _ _ _ _ _) _ _ (apart r own)]

theorem State.linkState_downWritten (cause : Nat) : (s.downWritten u cause).linkState u = .down := by
  rw [State.linkState_of_outside (f := ⟨downRegs, []⟩) (s := s.setLinkState u .down) ?_ (by decide), State.linkState_setLinkState_same]
  rw [State.downWritten, State.outside_set _ _ _ _ _ (by decide), State.outside_set _ _ _ _ _ (by decide),
    State.outside_set _ _ _ _ _ (by decide), State.outside_bump _ _ _ _ _ (by decide)]

theorem State.downWritten_regs (cause : Nat) : (s.downWritten u cause).get Reg.linkWidth u = 0 ∧ (s.downWritten u cause).get Reg.linkRate u = 0 ∧
    (s.downWritten u cause).get Reg.lastDownCause u = cause ∧
    (s.downWritten u cause).get Reg.linkDowns u = (s.bump Reg.linkDowns u).get Reg.linkDowns u := by
  have before : (s.setLinkState u .down).get Reg.linkDowns u = s.get Reg.linkDowns u :=
    State.get_of_outside (State.frame_setLinkState (f := .linkState) _ _ _ (by decide)) _ _ (by decide)
  rw [State.downWritten]
  refine ⟨?_, State.get_set_same _ _ _ _, ?_, ?_⟩
  · rw [State.get_set_register _ _ _ _ (by decide), State.get_set_same]
  · rw [State.get_set_register _ _ _ _ (by decide), State.get_set_register _ _ _ _ (by decide), State.get_set_same]
  · rw [State.get_set_register _ _ _ _ (by decide), State.get_set_register _ _ _ _ (by decide),
      State.get_set_register _ _ _ _ (by decide), State.bump_eq, State.get_set_same, before, State.bump_eq, State.get_set_same]

end

theorem State.declareDown_effect (s : State) (u : Fin 18) (cause : Nat) : (s.declareDown u cause).linkState u = .down ∧
    (s.declareDown u cause).get Reg.linkWidth u = 0 ∧ (s.declareDown u cause).get Reg.linkRate u = 0 ∧
    (s.declareDown u cause).get Reg.lastDownCause u = cause ∧
    (s.declareDown u cause).get Reg.linkDowns u = (s.bump Reg.linkDowns u).get Reg.linkDowns u := by
  obtain ⟨width, rate, told, downs⟩ := State.downWritten_regs (s.downSent u cause) u cause
  have before : (s.downSent u cause).get Reg.linkDowns u = s.get Reg.linkDowns u :=
    State.get_of_outside (State.frame_downSent (f := .line) _ _ _ (by decide)) _ _ (by decide)
  rw [State.get_declareDown _ _ _ (by decide), State.get_declareDown _ _ _ (by decide), State.get_declareDown _ _ _ (by decide),
    State.get_declareDown _ _ _ (by decide), width, rate, told, downs]
  refine ⟨?_, rfl, rfl, rfl, ?_⟩
  · rw [State.declareDown_follows, State.linkState_downFollows _ _ _ _ _ (otherLink_apart u), State.linkState_downWritten]
  · rw [State.bump_eq, State.get_set_same, before, State.bump_eq, State.get_set_same]

end Sys2Proof.Machine

namespace Sys2Proof.Machine

/-! ### The commands of a link (Table 14.17, R386) -/

section
variable (s : State) (u : Fin 18)

theorem exec_downSet_awake (awake : s.awake = true) (cause : Nat) : exec (.downSet u cause) s = .next (s.after
    (if s.linkIsUp u || s.linkState u == .init then s.declareDown u 7 else s)) := by
  rw [exec_downSet, execDownSet]
  exact act_of_awake s _ awake

theorem requestOf_linkCommandDown (p : Path) : requestOf (.linkCommandDown p u) =
    some ⟨⟨p, Reg.linkCommand + 65536 * u, 0xFFFFFFFF, false⟩, .plain, [2]⟩ := congrArg some (Reg.ask_linkCommand p u [2] .plain)

theorem requestOf_retrain (p : Path) : requestOf (.retrain p u) =
    some ⟨⟨p, Reg.linkCommand + 65536 * u, 0xFFFFFFFF, false⟩, .plain, [1]⟩ := congrArg some (Reg.ask_linkCommand p u [1] .plain)

theorem requestOf_linkEnableWrite (p : Path) (on : Bool) : requestOf (.linkEnableWrite p u on) =
    some ⟨⟨p, Reg.linkEnable + 65536 * u, 0xFFFFFFFF, false⟩, .plain, le 1 (b2n on)⟩ :=
  congrArg some (Reg.ask_linkEnable p u (le 1 (b2n on)) .plain)

variable {s u} {p : Path}

theorem exec_linkCommandDown_allowed (h : s.allows (.linkCommandDown p u) = true) : exec (.linkCommandDown p u) s = .next (s.after
    (((s.taken p).declareDown u 8).emit (.lexAnswer p 0 []))) := by
  have idle := (State.config_declareDown (s.taken p) u 8).trans (State.config_taken s p h)
  have applied : (s.taken p).applyWrite p (.direct p) .plain ⟨Reg.linkCommand, 18, 0, .u8, .wo, 0, (.between 1 2), 95, .none⟩ u [2]
      = ((s.taken p).declareDown u 8, .ok) := State.apply_linkCommand (s.taken p) p (.direct p) .plain u [2]
  generalize (s.taken p).declareDown u 8 = v at idle applied
  rw [exec_linkCommandDown, execLinkCommandDown]
  exact State.direct_ok s (requestOf_linkCommandDown u p) h (Reg.lookup_linkCommand u) applied idle

theorem State.config_linkRetrain (s : State) (u : Nat) : (s.linkRetrain u).lexicon.config = s.lexicon.config := by
  refine State.config_of_outside (f := .pause) (State.outside_ite _ ?_ rfl) (by decide)
  exact State.frame_askPause _ _ _ _ _ (by decide)

theorem exec_retrain_allowed (h : s.allows (.retrain p u) = true) : exec (.retrain p u) s = .next (s.after
    (((s.taken p).linkRetrain u).emit (.lexAnswer p 0 []))) := by
  have idle := (State.config_linkRetrain (s.taken p) u).trans (State.config_taken s p h)
  have applied : (s.taken p).applyWrite p (.direct p) .plain ⟨Reg.linkCommand, 18, 0, .u8, .wo, 0, (.between 1 2), 95, .none⟩ u [1]
      = ((s.taken p).linkRetrain u, .ok) := State.apply_linkCommand (s.taken p) p (.direct p) .plain u [1]
  generalize (s.taken p).linkRetrain u = v at idle applied
  rw [exec_retrain, execRetrain]
  exact State.direct_ok s (requestOf_retrain u p) h (Reg.lookup_linkCommand u) applied idle

theorem State.config_setLinkState (s : State) (u : Nat) (st : LinkState) : (s.setLinkState u st).lexicon.config = s.lexicon.config :=
  State.config_of_outside (f := .linkState) (State.frame_setLinkState _ _ _ (by decide)) (by decide)

theorem State.config_prbsEnd (s : State) (u : Nat) : (s.prbsEnd u).lexicon.config = s.lexicon.config :=
  State.config_of_outside (f := .laneWork) (State.frame_prbsEnd _ _ (by decide)) (by decide)

theorem State.config_linkEnable (s : State) (u : Nat) (on : Bool) : (s.linkEnable u on).lexicon.config = s.lexicon.config := by
  have set : (s.set Reg.linkEnable u (b2n on)).lexicon.config = s.lexicon.config := rfl
  unfold State.linkEnable
  refine State.keeps_ite (fun x => x.lexicon.config) (State.keeps_ite (fun x => x.lexicon.config) ?_ set)
    (State.keeps_ite (fun x => x.lexicon.config) set ?_)
  · exact ((State.config_setLinkState _ _ _).trans (State.config_prbsEnd _ _)).trans set
  · exact ((State.config_setLinkState _ _ _).trans (State.config_declareDown _ _ _)).trans set

theorem State.putLive_linkEnable (s : State) (i v : Nat) : s.putLive Reg.linkEnable i v = s.linkEnable i (v == 1) := rfl

theorem exec_linkEnableWrite_allowed {on : Bool} (h : s.allows (.linkEnableWrite p u on) = true) :
    exec (.linkEnableWrite p u on) s = .next (s.after (((s.taken p).linkEnable u on).emit (.lexAnswer p 0 []))) := by
  have idle := (State.config_linkEnable (s.taken p) u on).trans (State.config_taken s p h)
  have value : (fromLe ((le 1 (b2n on)).take 8) == 1) = on := by cases on <;> rfl
  have applied : (s.taken p).applyWrite p (.direct p) .plain ⟨Reg.linkEnable, 18, 0, .bool, .rw, 1, (.between 0 1), 95, .stored⟩ u (le 1 (b2n on))
      = ((s.taken p).linkEnable u on, .ok) := by
    rw [State.apply_linkEnable, State.putLive_linkEnable, value]
  generalize (s.taken p).linkEnable u on = v at idle applied
  rw [exec_linkEnableWrite, execLinkEnableWrite]
  exact State.direct_ok s (requestOf_linkEnableWrite u p on) h (Reg.lookup_linkEnable u) applied idle

theorem State.linkEnable_off (s : State) (u : Nat) : s.linkEnable u false = if (s.set Reg.linkEnable u 0).linkState u = .disabled
    then s.set Reg.linkEnable u 0 else ((s.set Reg.linkEnable u 0).declareDown u 8).setLinkState u .disabled := rfl

theorem State.linkEnable_on (s : State) (u : Nat) : s.linkEnable u true = if (s.set Reg.linkEnable u 1).linkState u = .disabled
    then (((s.set Reg.linkEnable u 1).prbsEnd u).setLinkState u .down).putTrain u (freshTrain false (s.get Reg.trainRateMax u))
    else s.set Reg.linkEnable u 1 := by
  have ceiling : (((s.set Reg.linkEnable u 1).prbsEnd u).setLinkState u .down).get Reg.trainRateMax u = s.get Reg.trainRateMax u := by
    rw [State.get_of_outside (State.frame_setLinkState (f := .linkState) _ _ _ (by decide)) _ _ (by decide),
      State.get_of_outside (State.frame_prbsEnd (f := .laneWork) _ _ (by decide)) _ _ (by decide),
      State.get_set_register _ _ _ _ (by decide)]
  rw [← ceiling]
  rfl

end
end Sys2Proof.Machine

namespace Sys2Proof.Machine

/-! ### A lane that loses lock (R362) -/

section
variable (s : State)

/-- A lane has lost lock: its own bits. -/
def State.lockNoted (n : Nat) (los lol : Bool) : State :=
  (s.modLane n (fun l => { l with losRaw := los, lolRaw := lol })).laneBits n [(0, !los), (1, !los && !lol), (2, false), (3, false)]

/-- A lane of a link that trains or changes its lanes is good no more. -/
def State.laneDropped (u x : Nat) : State :=
  s.modTrain u (fun t => { t with good := setBit t.good x false, readyLanes := setBit t.readyLanes x false })

theorem State.frame_lockNoted (n : Nat) (los lol : Bool) :
    (s.lockNoted n los lol).outside ⟨[Reg.laneStatus], [.lanes]⟩ = s.outside ⟨[Reg.laneStatus], [.lanes]⟩ := by
  rw [State.lockNoted, State.frame_laneBits _ _ _ (by decide), State.outside_modLane _ _ _ _ (by decide)]

variable (n : Nat) (los lol : Bool) {x : Nat} (number : x = s.laneNum (linkOf n) (n - firstLane (linkOf n)))
include number

theorem State.lockLost_eq : s.lockLost n los lol = match s.linkState (linkOf n) with
    | .up => if bit (s.get Reg.laneStatus n) 4 then (s.lockNoted n los lol).enterRecovering (linkOf n) (2 ^ x) else s.lockNoted n los lol
    | .paused => if (match (s.link (linkOf n)).pause with | some p => p.ackSent && p.ackSeen | none => false) = true
        then (s.lockNoted n los lol).laneDropped (linkOf n) x
        else if bit (s.get Reg.laneStatus n) 4 then (s.lockNoted n los lol).enterRecovering (linkOf n) (2 ^ x) else s.lockNoted n los lol
    | _ => (s.lockNoted n los lol).laneDropped (linkOf n) x := by
  rw [number, ← State.linkState_of_outside (State.frame_lockNoted s n los lol) (by decide),
    ← State.link_of_outside (State.frame_lockNoted s n los lol) (by decide)]
  unfold State.lockLost State.lockNoted State.laneDropped
  rfl

theorem State.lockLost_holds (state : s.linkState (linkOf n) = .up ∨ (s.linkState (linkOf n) = .paused ∧
    ∀ p, (s.link (linkOf n)).pause = some p → (p.ackSent && p.ackSeen) = false)) : s.lockLost n los lol =
      if bit (s.get Reg.laneStatus n) 4 then (s.lockNoted n los lol).enterRecovering (linkOf n) (2 ^ x) else s.lockNoted n los lol := by
  rw [State.lockLost_eq s n los lol number]
  rcases state with up | ⟨paused, early⟩
  · rw [up]
  · rw [paused]
    refine if_neg ?_
    split
    case h_1 p pause => rw [early p pause]; exact Bool.false_ne_true
    case h_2 => exact Bool.false_ne_true

theorem State.lockLost_drops (state :
    (s.linkState (linkOf n) = .paused ∧ ∃ p, (s.link (linkOf n)).pause = some p ∧ (p.ackSent && p.ackSeen) = true) ∨
    (s.linkState (linkOf n) ≠ .up ∧ s.linkState (linkOf n) ≠ .paused)) :
    s.lockLost n los lol = (s.lockNoted n los lol).laneDropped (linkOf n) x := by
  rw [State.lockLost_eq s n los lol number]
  rcases state with ⟨paused, p, pause, late⟩ | ⟨down, moving⟩
  · rw [paused, pause]
    exact if_pos late
  · split
    · exact absurd ‹_› down
    · exact absurd ‹_› moving
    · rfl

end

theorem State.lossAt_enterRecovering (s : State) (u lost : Nat) : ((s.enterRecovering u lost).link u).lossAt = s.now := by
  have stood (p : Option Pause) : (match p with
      | some q => if s.linkState u = .paused then s.tagsStood u q.startAt else s
      | none => s : State).now = s.now := by
    cases p with
    | none => rfl
    | some q =>
      refine State.keeps_ite State.now ?_ rfl
      exact State.now_of_outside (State.frame_tagsStood (f := ⟨[], [.carriers]⟩) s u _ (by decide)) (by decide)
  have moved (x : State) (g : Link → Link) (at' : ∀ l, (g l).lossAt = ((x.setLinkState u .recovering).bump Reg.recoveries u).now) :
      ((((x.setLinkState u .recovering).bump Reg.recoveries u).modLink u g).link u).lossAt = x.now := by
    have still : (x.setLinkState u .recovering).now = x.now :=
      State.now_of_outside (State.frame_setLinkState (f := .linkState) x u .recovering (by decide)) (by decide)
    rw [State.link_modLink_same, at']
    exact still
  unfold State.enterRecovering
  dsimp only
  rw [State.link_of_outside (State.frame_sendReady (f := .laneWork) _ _ _ (by decide) (by decide)) (by decide),
    State.link_of_outside (f := ⟨[], [.training]⟩) (State.outside_modTrain _ _ _ _ (by decide)) (by decide),
    State.link_of_outside (State.outside_each (f := .laneWork) _ _ _ (fun s n => State.frame_laneBits s _ _ (by decide))) (by decide)]
  refine Eq.trans ?_ (stood (s.link u).pause)
  refine (congrArg Link.lossAt (State.link_of_outside
    (State.outside_ite_keep (State.frame_wakeLanes (f := .laneWork) _ _ (by decide))) (by decide) u)).trans ?_
  exact moved _ _ (fun _ => rfl)

theorem exec_laneLockLoss_awake {s : State} (awake : s.awake = true) (n : Fin 80) (los lol : Bool) (cyc : Fin 128) :
    exec (.laneLockLoss n los lol cyc) s = .next (s.after ((s.atCycle cyc).lockLost n los lol)) := by
  rw [exec_laneLockLoss, execLaneLockLoss]
  exact act_of_awake s _ awake

/-- Settles O46: the registers of a link that is declared down stand from where they are written, the commands of a link leave the Lexicon
free to answer, and a lane's loss of lock is its cases. -/
theorem linksGoDown : Obligations.LinksGoDown := by
  unfold Obligations.LinksGoDown
  intro u s
  refine ⟨fun cause t eq => eq ▸ State.declareDown_effect s u cause, fun cause awake live => ?_, fun cause awake idle => ?_, fun p h => ?_,
    fun p v eq h => ?_, fun p v eq h => ?_, fun p v eq h => ⟨fun down => ?_, fun up => ?_⟩,
    fun n los lol cyc x v drop awake place number noted dropped => ⟨fun state => ?_, fun state => ?_, ?_, ?_⟩⟩
  · rw [exec_downSet_awake s u awake, if_pos]
    rcases live with up | init
    · rw [up]; rfl
    · rw [init]; exact Bool.or_true _
  · have dead : (s.linkIsUp u || s.linkState u == .init) = false := by
      rw [State.linkIsUp]
      rcases idle with down | off
      · rw [down]; rfl
      · rw [off]; rfl
    rw [exec_downSet_awake s u awake, dead]
    rfl
  · exact exec_linkCommandDown_allowed h
  · rw [exec_linkEnableWrite_allowed h, State.linkEnable_off, ← eq]
  · rw [exec_linkEnableWrite_allowed h, State.linkEnable_on, State.get_taken s p _ _ (by decide), ← eq]
  · rw [exec_retrain_allowed h, ← eq, State.linkRetrain, if_neg (by rw [down]; exact Bool.false_ne_true)]
  · rw [exec_retrain_allowed h, ← eq, State.linkRetrain, if_pos up]
  · rw [exec_laneLockLoss_awake awake, State.lockLost_holds (s.atCycle cyc) n los lol (x := x)
      (by rw [number, place]; rfl) (by rw [← place]; exact state),
      ← place, noted]
    rfl
  · rw [exec_laneLockLoss_awake awake, State.lockLost_drops (s.atCycle cyc) n los lol (x := x)
      (by rw [number, place]; rfl) (by rw [← place]; exact state),
      ← place, dropped, noted]
    rfl
  · exact State.linkState_enterRecovering _ _ _
  · rw [State.lossAt_enterRecovering, noted, ← State.now_atCycle]
    exact State.now_of_outside (State.frame_lockNoted (s.atCycle cyc) n los lol) (by decide)

end Sys2Proof.Machine

namespace Sys2Proof.Machine

/-! ### Writes of registers (R451, R453) -/

theorem Reg.seek_reg {r : Nat} {l : List Obj} {o : Obj} (h : Reg.seek r l = some o) : o.reg = r := by
  induction l with
  | nil => exact absurd h (Option.some_ne_none o).symm
  | cons x l ih =>
    rw [Reg.seek] at h
    split at h
    case isTrue same => rwa [← Option.some.inj h]
    case isFalse => exact ih h

theorem Reg.obj_of_obj {r : Nat} {o : Obj} (h : Reg.obj r = some o) : Reg.obj o.reg = some o := by
  rwa [Reg.seek_reg h]

/-- The entry that an index names is its register's, at the index or at that of unit 0. (`Reg.obj` is generalised: the kernel would
compute it.) -/
theorem Reg.obj_of_resolve {index : Nat} {x : Obj × Nat} (h : Reg.resolve index = some x) : Reg.obj x.1.reg = some x.1 := by
  have own : ∀ r o, Reg.obj r = some o → Reg.obj o.reg = some o := fun _ _ => Reg.obj_of_obj
  unfold Reg.resolve at h
  generalize Reg.obj = g at h own ⊢
  dsimp only at h
  generalize index / 256 % 65536 = n at h
  generalize (n - 4096) / 256 = u at h
  generalize index - 65536 * u = j at h
  cases found : g index with
  | some o =>
    rw [found] at h
    rw [← Option.some.inj h]
    exact own _ _ found
  | none =>
    rw [found] at h
    cases first : g j with
    | some o =>
      rw [first] at h
      obtain ⟨-, same⟩ := Option.ite_none_right_eq_some.mp h
      rw [← Option.some.inj same]
      exact own _ _ first
    | none =>
      rw [first] at h
      exact absurd h (Option.some_ne_none _).symm

theorem Reg.obj_of_lookup {index k : Nat} {o : Obj} (h : Reg.lookup index = .entry o k) : Reg.obj o.reg = some o := by
  cases found : Reg.resolve index with
  | some x =>
    simp only [Reg.lookup, found] at h
    obtain ⟨rfl, -⟩ := Found.entry.inj h
    exact Reg.obj_of_resolve found
  | none =>
    simp only [Reg.lookup, found] at h
    split at h
    · exact absurd h Found.noConfusion
    · split at h <;> exact absurd h Found.noConfusion

/-! #### What a write of a plain register does -/

/-- The registers whose write takes effect at once, and is nothing but the value. -/
def plainRegs : List Nat := [Reg.leaseTerm, Reg.leasePolicy, Reg.autoTakeover, Reg.takeoverRetry, Reg.tagTimeout, Reg.nakRetries,
  Reg.ackTimeout, Reg.creditTimeout, Reg.pauseLimit, Reg.linkDownTime, Reg.eyePeriod, Reg.trainRateMax, Reg.patrolPeriod,
  Reg.replanPeriod, Reg.holdupLookahead, Reg.fieldHeartbeat, Reg.semicolonInterval, Reg.wakePrio]

/-- The registers of the wake watcher that keep 22 bits. -/
def wakeRegs : List Nat := [Reg.wakeEnable, Reg.wakePin]

/-- The registers whose write takes effect at the next clause. -/
def lateRegs : List Nat := [Reg.restoreTouchLimit, Reg.restoreProgressStep, Reg.pfailFilter, Reg.porFilter, Reg.perstFilter]

/-- The registers below 0x9000000 whose write is a command. -/
def lowCommands : List Nat := [Reg.imageCommand, Reg.mirrorCommand, Reg.rangeCommand, Reg.pairId, Reg.pairSide, Reg.rangeBaseSeg,
  Reg.rangeSegments, Reg.rangeOwner, Reg.extValid, Reg.extRecord, Reg.ctxCommand, Reg.dwordEnable, Reg.instCommand, Reg.gateCommand,
  Reg.queueEnable, Reg.holdPf, Reg.wakeStatus, Reg.chCommand, Reg.chRingShadow, Reg.chCtrlShadow]

/-- The registers from 0x9000000 on whose write is a command. -/
def highCommands : List Nat := [Reg.linkCommand, Reg.laneCommand, Reg.prbsCommand, Reg.powerRequest, Reg.replanCommand, Reg.ownerKey,
  Reg.ownerStatement, Reg.configLock, Reg.fwPackage, Reg.fwCommand, Reg.attestNonce, Reg.debugState, Reg.lexCommand, Reg.fieldAccess]

/-- The registers whose value moves more than itself. -/
def liveRegs : List Nat := [Reg.linkEnable, Reg.leafWeight, Reg.svcWeight, Reg.sampleEnable, Reg.witnessNode, Reg.ctxDurable,
  Reg.extContext, Reg.extKind, Reg.fieldAccess, Reg.govMargin, Reg.govSaveTime]

section
variable (s : State) {r : Nat} (i v : Nat) (b : List Byte)

theorem State.applyLow_none (who : Requester) (other : r ∉ lowCommands) : s.applyLow who r i v b = none := by
  simp only [lowCommands, List.mem_cons, List.not_mem_nil, or_false, not_or] at other
  simp only [State.applyLow, other, or_self, if_false]

theorem State.applyHigh_none (p : Path) (who : Requester) (x : Extra) (other : r ∉ highCommands) : s.applyHigh p who r i v b x = none := by
  have ne {q : Nat} (h : q ∈ highCommands) : ¬ r = q := fun e => other (e ▸ h)
  unfold State.applyHigh
  rw [if_neg (ne (by decide)), if_neg (ne (by decide)), if_neg (ne (by decide)), if_neg (ne (by decide)), if_neg (ne (by decide)),
    if_neg (ne (by decide)), if_neg (ne (by decide)), if_neg (ne (by decide)), if_neg (ne (by decide)), if_neg (ne (by decide)),
    if_neg (ne (by decide)), if_neg (ne (by decide)), if_neg (ne (by decide)), if_neg (ne (by decide))]

theorem State.putLive_plain (other : r ∉ liveRegs) (now : takesLate r = false) : s.putLive r i v = s.set r i (keptBits r v) := by
  simp only [liveRegs, List.mem_cons, List.not_mem_nil, or_false, not_or] at other
  simp only [State.putLive, other, now, or_self, if_false, Bool.false_eq_true]

theorem State.putLive_late (other : r ∉ liveRegs) (late : takesLate r = true) :
    s.putLive r i v = (s.keepTokens r i).setLate r i (keptBits r v) := by
  simp only [liveRegs, List.mem_cons, List.not_mem_nil, or_false, not_or] at other
  simp only [State.putLive, other, late, if_false, if_true]

/-- A write of a plain register is no command: it goes to `putLive`. -/
theorem State.apply_plain (p : Path) (who : Requester) (x : Extra) {o : Obj} (found : Reg.obj o.reg = some o)
    (plain : o.reg ∈ plainRegs ++ wakeRegs ++ lateRegs) : s.applyWrite p who x o i b = (s.putLive o.reg i (fromLe (b.take 8)), .ok) := by
  have kinds : ∀ q ∈ plainRegs ++ wakeRegs ++ lateRegs, (Reg.obj q).map (fun o : Obj => o.acc) = some .rw ∧
      q ∉ lowCommands ∧ q ∉ highCommands := by
    decide
  obtain ⟨rw, low, high⟩ := kinds _ plain
  have writes : o.acc = .rw := by
    rw [found] at rw
    exact Option.some.inj rw
  rw [State.applyWrite, writes, State.applyLow_none _ _ _ _ _ low, State.applyHigh_none _ _ _ _ _ _ _ high, ite_self]

end

/-! #### REGISTER_WRITE -/

section
variable {s : State} {p : Path} {index row k : Nat} {b : List Byte} {o : Obj}
  (h : s.allows (.registerWrite p index row b) = true) (found : Reg.lookup index = .entry o k)
include h found

theorem exec_registerWrite_applied {v : State} (idle : v.lexicon.config = none)
    (applied : (s.taken p).applyWrite p (.direct p) .plain o (o.place k row) b = (v, .ok)) :
    exec (.registerWrite p index row b) s = .next (s.after (v.emit (.lexAnswer p 0 []))) := by
  have asked : requestOf (.registerWrite p index row b) = some ⟨⟨p, index, row, false⟩, .plain, b⟩ := rfl
  rw [exec_registerWrite, execRegisterWrite]
  exact State.direct_ok s asked h found applied idle

theorem exec_registerWrite_readOnly (acc : o.acc = .ro) (plain : ∀ n, o.ty ≠ .blob n) : exec (.registerWrite p index row b) s = .next (s.after
    (((s.taken p).set o.reg (o.place k row) (fromLe (b.take 8))).emit (.lexAnswer p 0 []))) := by
  refine exec_registerWrite_applied h found (State.config_taken s p h) ?_
  rw [State.applyWrite, acc]
  cases type : o.ty with
  | blob n => exact absurd type (plain n)
  | bool => rfl
  | u8 => rfl
  | u16 => rfl
  | u32 => rfl
  | u64 => rfl
  | i32 => rfl
  | q16 => rfl

theorem exec_registerWrite_plain (plain : o.reg ∈ plainRegs) : exec (.registerWrite p index row b) s = .next (s.after
    (((s.taken p).set o.reg (o.place k row) (fromLe (b.take 8))).emit (.lexAnswer p 0 []))) := by
  refine exec_registerWrite_applied h found (State.config_taken s p h) ?_
  have kinds : ∀ q ∈ plainRegs, q ∉ liveRegs ∧ takesLate q = false ∧ ¬ q = Reg.ioSlew ∧ ¬ (q = Reg.wakeEnable ∨ q = Reg.wakePin) ∧
      ¬ (Reg.routeMember0 ≤ q ∧ q < Reg.routeMember0 + 8) := by decide
  obtain ⟨other, now, slew, wake, route⟩ := kinds _ plain
  rw [State.apply_plain _ _ _ _ _ _ (Reg.obj_of_lookup found) (List.mem_append_left _ (List.mem_append_left _ plain)),
    State.putLive_plain _ _ _ other now, keptBits, if_neg slew, if_neg wake, if_neg route]

theorem exec_registerWrite_wake (wakes : o.reg ∈ wakeRegs) : exec (.registerWrite p index row b) s = .next (s.after
    (((s.taken p).set o.reg (o.place k row) (fromLe (b.take 8) % 2 ^ 22)).emit (.lexAnswer p 0 []))) := by
  refine exec_registerWrite_applied h found (State.config_taken s p h) ?_
  have kinds : ∀ q ∈ wakeRegs, q ∉ liveRegs ∧ takesLate q = false ∧ ¬ q = Reg.ioSlew ∧ (q = Reg.wakeEnable ∨ q = Reg.wakePin) := by
    decide
  obtain ⟨other, now, slew, wake⟩ := kinds _ wakes
  rw [State.apply_plain _ _ _ _ _ _ (Reg.obj_of_lookup found) (List.mem_append_left _ (List.mem_append_right _ wakes)),
    State.putLive_plain _ _ _ other now, keptBits, if_neg slew, if_pos wake, show (4194304 : Nat) = 2 ^ 22 by decide]

theorem exec_registerWrite_late (late : o.reg ∈ lateRegs) : exec (.registerWrite p index row b) s = .next (s.after
    (((s.taken p).setLate o.reg (o.place k row) (fromLe (b.take 8))).emit (.lexAnswer p 0 []))) := by
  refine exec_registerWrite_applied h found (State.config_taken s p h) ?_
  have kinds : ∀ q ∈ lateRegs, q ∉ liveRegs ∧ takesLate q = true ∧ ¬ q = Reg.ioSlew ∧ ¬ (q = Reg.wakeEnable ∨ q = Reg.wakePin) ∧
      ¬ (Reg.routeMember0 ≤ q ∧ q < Reg.routeMember0 + 8) ∧ ¬ (q = Reg.portRate ∨ q = Reg.portBurst) ∧
      ¬ (q = Reg.svcRate ∨ q = Reg.svcBurst) ∧ ¬ (q = Reg.leafRate ∨ q = Reg.leafBurst) := by decide
  obtain ⟨other, next, slew, wake, route, port, svc, leaf⟩ := kinds _ late
  rw [State.apply_plain _ _ _ _ _ _ (Reg.obj_of_lookup found) (List.mem_append_right _ late),
    State.putLive_late _ _ _ other next, keptBits, if_neg slew, if_neg wake, if_neg route, State.keepTokens, if_neg port, if_neg svc,
    if_neg leaf]

end
end Sys2Proof.Machine

namespace Sys2Proof.Machine

/-! ### The entries of a stored set do not move with what is not stored (R456, R457)

The register file as written is a table into which the values that wait for a boundary are put. A value that is not stored, put before
them, shows in no entry, whatever the order of the table. -/

/-- Table t' is table t but for what stands for key k, which `Tbl.put` has placed. -/
inductive Besides (k : Nat) : Tbl Nat → Tbl Nat → Prop
  | same (t : Tbl Nat) : Besides k t t
  | replaced (w v : Nat) (t : Tbl Nat) : Besides k ((k, w) :: t) ((k, v) :: t)
  | added (v : Nat) (t : Tbl Nat) (above : ∀ x ∈ t.head?, k < x.1) : Besides k t ((k, v) :: t)
  | behind (a v : Nat) (t t' : Tbl Nat) (low : a < k) (rest : Besides k t t') : Besides k ((a, v) :: t) ((a, v) :: t')

theorem besides_put (k v : Nat) (t : Tbl Nat) : Besides k t (Tbl.put t k v) := by
  induction t with
  | nil => exact .added v [] (by simp)
  | cons x t ih =>
    obtain ⟨a, w⟩ := x
    rw [Tbl.put]
    split
    case isTrue same =>
      subst same
      exact .replaced w v t
    case isFalse apart =>
      split
      case isTrue below => exact .added v _ (by simpa using below)
      case isFalse above => exact .behind a w t _ (by omega) ih

theorem Tbl.put_above {k j v : Nat} {t : Tbl Nat} (above : ∀ x ∈ t.head?, k < x.1) (lt : k < j) :
    ∀ x ∈ (Tbl.put t j v).head?, k < x.1 := by
  cases t with
  | nil => simpa [Tbl.put] using lt
  | cons x t =>
    have first : k < x.1 := above x rfl
    obtain ⟨a, w⟩ := x
    rw [Tbl.put]
    split
    · simpa using lt
    · split
      · simpa using lt
      · simpa using first

theorem Tbl.put_below {k j v : Nat} {t : Tbl Nat} (above : ∀ x ∈ t.head?, k < x.1) (le : j ≤ k) : Tbl.put t j v = (j, v) :: t := by
  cases t with
  | nil => rfl
  | cons x t =>
    have first : k < x.1 := above x rfl
    obtain ⟨a, w⟩ := x
    rw [Tbl.put, if_neg (by dsimp only at first; omega), if_pos (by dsimp only at first; omega)]

/-- What is put later keeps it so. -/
theorem Besides.put {k : Nat} {t t' : Tbl Nat} (h : Besides k t t') (j v : Nat) : Besides k (Tbl.put t j v) (Tbl.put t' j v) := by
  induction h with
  | same t => exact .same _
  | replaced w w' t =>
    by_cases eq : k = j
    · rw [Tbl.put, if_pos eq, Tbl.put, if_pos eq]
      exact .same _
    · by_cases lt : j < k
      · rw [Tbl.put, if_neg eq, if_pos lt, Tbl.put, if_neg eq, if_pos lt]
        exact .behind _ _ _ _ lt (.replaced w w' t)
      · rw [Tbl.put, if_neg eq, if_neg lt, Tbl.put, if_neg eq, if_neg lt]
        exact .replaced w w' _
  | added w t above =>
    by_cases eq : k = j
    · rw [Tbl.put, if_pos eq, Tbl.put_below above (by omega)]
      exact .same _
    · by_cases lt : j < k
      · rw [Tbl.put, if_neg eq, if_pos lt, Tbl.put_below above (by omega)]
        exact .behind _ _ _ _ lt (.added w t above)
      · rw [Tbl.put, if_neg eq, if_neg lt]
        exact .added w _ (Tbl.put_above above (by omega))
  | behind a w t t' low rest ih =>
    by_cases eq : a = j
    · rw [Tbl.put, if_pos eq, Tbl.put, if_pos eq]
      exact .behind _ _ _ _ (eq ▸ low) rest
    · by_cases lt : j < a
      · rw [Tbl.put, if_neg eq, if_pos lt, Tbl.put, if_neg eq, if_pos lt]
        exact .behind _ _ _ _ (by omega) (.behind _ _ _ _ low rest)
      · rw [Tbl.put, if_neg eq, if_neg lt, Tbl.put, if_neg eq, if_neg lt]
        exact .behind _ _ _ _ low ih

/-- The values of a table that waits are put into another. -/
def Tbl.overlaid (late t : Tbl Nat) : Tbl Nat := late.foldl (fun t x => Tbl.put t x.1 x.2) t

theorem Besides.overlaid {k : Nat} (late : Tbl Nat) {t t' : Tbl Nat} (h : Besides k t t') :
    Besides k (Tbl.overlaid late t) (Tbl.overlaid late t') := by
  induction late generalizing t t' with
  | nil => exact h
  | cons x late ih => exact ih (h.put x.1 x.2)

/-- A register of which nothing is stored. -/
def unstored (r : Nat) : Bool := (Reg.obj r).all (fun o => !o.isStored)

theorem storedOf_unstored {r i : Nat} (h : unstored r = true) (v : Nat) (t : Tbl Nat) :
    storedOf ((Reg.key r i, v) :: t) = storedOf t := by
  rw [storedOf, Reg.key_reg]
  rw [unstored] at h
  cases found : Reg.obj r with
  | none => rfl
  | some o =>
    rw [found] at h
    have off : o.isStored = false := by simpa using h
    simp only [off, Bool.false_and, Bool.false_eq_true, if_false]

theorem storedOf_besides {r i : Nat} (h : unstored r = true) {t t' : Tbl Nat} (b : Besides (Reg.key r i) t t') :
    storedOf t' = storedOf t := by
  induction b with
  | same t => rfl
  | replaced w v t => rw [storedOf_unstored h, storedOf_unstored h]
  | added v t above => rw [storedOf_unstored h]
  | behind a v t t' low rest ih =>
    rw [storedOf, storedOf, ih]

/-! #### The state -/

/-- State t stores what s does, whatever else waits for a boundary. -/
def State.storesAs (s t : State) : Prop := ∀ late, storedOf (Tbl.overlaid late t.regs) = storedOf (Tbl.overlaid late s.regs)

theorem State.storesAs_trans {a b c : State} (h : a.storesAs b) (g : b.storesAs c) : a.storesAs c := fun late => (g late).trans (h late)

theorem State.storesAs_of_regs {s t : State} (h : t.regs = s.regs) : s.storesAs t := fun late => by rw [h]

section
variable (s : State)

theorem State.storesAs_set {r : Nat} (i v : Nat) (h : unstored r = true) : s.storesAs (s.set r i v) :=
  fun late => storedOf_besides h ((besides_put _ _ _).overlaid late)

theorem State.storesAs_bump {r : Nat} (i n : Nat) (h : unstored r = true) : s.storesAs (s.bump r i n) := State.storesAs_set s i _ h

theorem State.regs_wakeSignal : s.wakeSignal.regs = s.regs :=
  State.keeps_ite State.regs rfl (State.keeps_ite State.regs rfl (State.keeps_ite State.regs (State.keeps_ite State.regs rfl rfl) rfl))

theorem State.storesAs_wake (b : Nat) : s.storesAs (s.wake b) := by
  unfold State.wake
  split
  · refine State.storesAs_trans (State.storesAs_trans ?_ (State.storesAs_bump _ 0 1 (by decide))) (State.storesAs_of_regs (State.regs_wakeSignal _))
    exact State.storesAs_set s _ _ (by decide)
  · exact State.storesAs_of_regs rfl

theorem State.storesAs_taken (p : Path) : s.storesAs (s.taken p) := by
  have counted (t : State) : t.storesAs t.countRequest := State.storesAs_bump t 0 1 (by decide)
  cases p with
  | field n => exact State.storesAs_trans (State.storesAs_wake s 8) (counted _)
  | hostPf => exact counted s
  | hostVf i => exact counted s
  | firmware => exact counted s

theorem State.storesAs_storeRead (n : Nat) : s.storesAs (s.storeRead n) :=
  State.storesAs_trans (State.storesAs_bump s 0 n (by decide))
    (State.storesAs_trans (State.storesAs_bump _ 0 _ (by decide)) (State.storesAs_of_regs rfl))

/-- What waits for a boundary, in the order in which it is put. -/
def State.waits (t : State) : Tbl Nat :=
  t.clock.late ++ (match t.mirror.witnessNext with | some v => [(Reg.key Reg.witnessNode 0, v)] | none => [])

theorem State.written_eq : s.written = Tbl.overlaid s.waits s.regs := by
  rw [State.written, State.waits, Tbl.overlaid, List.foldl_append]
  cases s.mirror.witnessNext <;> rfl

/-- The entries follow the stored values, and what the security engine keeps. -/
theorem State.setEntries_of_storesAs {t : State} (h : s.storesAs t) (clock : t.clock = s.clock) (mirror : t.mirror = s.mirror)
    (keep : t.keep = s.keep) : t.setEntries = s.setEntries := by
  have waits : t.waits = s.waits := by rw [State.waits, clock, mirror, State.waits]
  rw [State.setEntries, State.setEntries, State.written_eq, State.written_eq, waits, h, keep]

theorem State.setEntries_store (p : Path) (n : Nat) : ((s.taken p).storeRead n).setEntries = s.setEntries := by
  have taken := State.request_taken s p
  refine State.setEntries_of_storesAs s (State.storesAs_trans (State.storesAs_taken s p) (State.storesAs_storeRead _ n)) ?_ ?_ ?_
  · exact (State.clock_of_outside taken (by decide) : (s.taken p).clock = s.clock)
  · exact (State.mirror_of_outside taken (by decide) : (s.taken p).mirror = s.mirror)
  · exact State.keep_taken s p

theorem State.keepLow_taken (p : Path) : (s.taken p).keepLow = s.keepLow := by
  have regs := congrArg State.regs (State.request_taken s p)
  have same : Tbl.find (s.taken p).regs (Reg.key Reg.sensorValue 11) = Tbl.find s.regs (Reg.key Reg.sensorValue 11) := by
    rw [← Tbl.find_filter _ _ (fun k => !(Footprint.request.regs.contains (k / 4294967296))) (by decide),
      ← Tbl.find_filter s.regs _ (fun k => !(Footprint.request.regs.contains (k / 4294967296))) (by decide)]
    exact congrArg (fun t => Tbl.find t (Reg.key Reg.sensorValue 11)) regs
  rw [State.keepLow, same, State.keepLow]

end
end Sys2Proof.Machine

namespace Sys2Proof.Machine

/-! ### FORMAT and RELOAD (R459) -/

section
variable (s : State)

theorem State.config_keepTokens (r i : Nat) : (s.keepTokens r i).lexicon.config = s.lexicon.config :=
  State.keeps_ite (fun x => x.lexicon.config) rfl (State.keeps_ite (fun x => x.lexicon.config) rfl
    (State.keeps_ite (fun x => x.lexicon.config) rfl rfl))

theorem State.config_writeExtField (r i v : Nat) : (s.writeExtField r i v).lexicon.config = s.lexicon.config :=
  State.keeps_ite (fun x => x.lexicon.config) rfl (State.keeps_ite (fun x => x.lexicon.config) rfl rfl)

theorem State.config_writeFieldAccess (v : Nat) : (s.writeFieldAccess v).lexicon.config = s.lexicon.config :=
  State.keeps_ite (fun x => x.lexicon.config)
    (State.config_of_outside (s := (s.set Reg.fieldAccess 0 v).set Reg.canState 0 3) (State.event_withdrawUnit _ 0 0x0F9 1) (by decide))
    (State.keeps_ite (fun x => x.lexicon.config) rfl rfl)

/-- The write of a live value leaves the Lexicon free to answer. -/
theorem State.config_putLive (r i v : Nat) : (s.putLive r i v).lexicon.config = s.lexicon.config := by
  have keep {c : Prop} [Decidable c] {a b : State} (ha : a.lexicon.config = s.lexicon.config) (hb : b.lexicon.config = s.lexicon.config) :
      (if c then a else b).lexicon.config = s.lexicon.config := State.keeps_ite (fun x => x.lexicon.config) ha hb
  unfold State.putLive
  refine keep (State.config_linkEnable _ _ _) (keep ?weight (keep ?weight' (keep ?sample (keep rfl (keep ?late (keep rfl
    (keep (State.config_writeExtField s _ _ _) (keep (State.config_writeFieldAccess s _) (keep ?governor rfl)))))))))
  case weight => exact keep rfl rfl
  case weight' => exact keep rfl rfl
  case sample => exact keep rfl rfl
  case late => exact State.config_keepTokens s r i
  case governor => exact State.each_keeps (s.set r i (keptBits r v)) (fun x : State => x.lexicon.config) State.govAsk (fun _ _ => rfl) _

theorem State.config_applySet (l : List (Obj × Nat × Nat)) : (s.applySet l).lexicon.config = s.lexicon.config :=
  State.each_keeps s (fun t : State => t.lexicon.config) _
    (fun t _ => State.keeps_ite (fun y : State => y.lexicon.config) rfl (State.config_putLive t _ _ _)) _

end

section
variable {s : State} {p : Path}

theorem requestOf_store (p : Path) (n : Nat) (failed : Bool) : requestOf (.store p n failed) =
    some ⟨⟨p, Reg.lexCommand, 0xFFFFFFFF, false⟩, .store n failed, [1]⟩ := congrArg some (Reg.ask_lexCommand p 0 [1] (.store n failed))

theorem requestOf_lexFormat (p : Path) : requestOf (.lexFormat p) = some ⟨⟨p, Reg.lexCommand, 0xFFFFFFFF, false⟩, .plain, [2]⟩ :=
  congrArg some (Reg.ask_lexCommand p 0 [2] .plain)

theorem requestOf_reload (p : Path) : requestOf (.reload p) = some ⟨⟨p, Reg.lexCommand, 0xFFFFFFFF, false⟩, .plain, [3]⟩ :=
  congrArg some (Reg.ask_lexCommand p 0 [3] .plain)

theorem exec_lexFormat_allowed (h : s.allows (.lexFormat p) = true) : exec (.lexFormat p) s = .next (s.after
    (((s.taken p).applySet []).emit (.lexAnswer p 0 []))) := by
  have idle := (State.config_applySet (s.taken p) []).trans (State.config_taken s p h)
  have applied : (s.taken p).applyWrite p (.direct p) .plain ⟨Reg.lexCommand, 0, 0, .u8, .wo, 0, (.between 1 3), 127, .none⟩ 0 [2]
      = ((s.taken p).applySet [], .ok) := State.apply_lexCommand (s.taken p) p (.direct p) .plain 0 [2]
  generalize (s.taken p).applySet [] = v at idle applied
  rw [exec_lexFormat, execLexFormat]
  exact State.direct_ok s (requestOf_lexFormat p) h Reg.lookup_lexCommand applied idle

theorem State.config_reloadSet (s : State) : s.reloadSet.lexicon.config = s.lexicon.config := by
  have read : s.keepRead.lexicon.config = s.lexicon.config := rfl
  unfold State.reloadSet
  dsimp only
  split
  · exact (State.config_applySet _ _).trans read
  · exact (State.config_applySet _ _).trans read

theorem exec_reload_allowed (h : s.allows (.reload p) = true) : exec (.reload p) s = .next (s.after
    ((s.taken p).reloadSet.emit (.lexAnswer p 0 []))) := by
  have idle := (State.config_reloadSet (s.taken p)).trans (State.config_taken s p h)
  have applied : (s.taken p).applyWrite p (.direct p) .plain ⟨Reg.lexCommand, 0, 0, .u8, .wo, 0, (.between 1 3), 127, .none⟩ 0 [3]
      = ((s.taken p).reloadSet, .ok) := State.apply_lexCommand (s.taken p) p (.direct p) .plain 0 [3]
  generalize (s.taken p).reloadSet = v at idle applied
  rw [exec_reload, execReload]
  exact State.direct_ok s (requestOf_reload p) h Reg.lookup_lexCommand applied idle

theorem State.copyInUse_keepRead (s : State) : s.keepRead.copyInUse = s.copyInUse := by
  have copy : s.keepRead.get Reg.setCopy = s.get Reg.setCopy :=
    State.get_of_outside (State.outside_keepRead (f := ⟨[Reg.keepEccCorrected], [.draws]⟩) s (by decide) (by decide)) _ _ (by decide)
  rw [State.copyInUse, copy]
  rfl

theorem State.copyInUse_other {s : State} (a : s.get Reg.setCopy ≠ 0) (b : s.get Reg.setCopy ≠ 1) : s.copyInUse = none := by
  unfold State.copyInUse
  split
  · exact absurd ‹_› a
  · exact absurd ‹_› b
  · rfl

theorem State.reloadSet_none {s : State} (none : s.copyInUse = none) : s.reloadSet = s.keepRead.applySet [] := by
  rw [State.reloadSet, State.copyInUse_keepRead, none]

theorem State.reloadSet_copy {s : State} {copy : StoredCopy} (found : s.copyInUse = some copy) :
    s.reloadSet = (s.keepRead.set Reg.setSkipped 0 ((copy.entries.filter (fun e => !(ownEntry e))).filter
      (fun e => (entryTarget e).isNone)).length).applySet ((copy.entries.filter (fun e => !(ownEntry e))).filterMap entryTarget) := by
  rw [State.reloadSet, State.copyInUse_keepRead, found]

/-! ### STORE (R457) -/

/-- What a store may change. -/
def Footprint.stores : Footprint := Footprint.request.plus [Reg.keepRewrites, Reg.keepEccCorrected, Reg.setCopy, Reg.setGeneration] [.keep, .draws]

theorem State.frame_storeRead (s : State) (n : Nat) : (s.storeRead n).outside .stores = s.outside .stores := by
  rw [State.storeRead, State.outside_keepRead _ (by decide) (by decide), State.outside_bump _ _ _ _ _ (by decide)]

theorem State.storeGeneration_eq (s : State) : s.storeGeneration = (match s.get Reg.setCopy with
    | 0 => s.keep.copyA.generation + 1
    | 1 => s.keep.copyB.generation + 1
    | _ => max s.keep.copyA.generation s.keep.copyB.generation + 1) := by
  unfold State.storeGeneration State.copyInUse
  generalize s.get Reg.setCopy = n
  match n with
  | 0 => rfl
  | 1 => rfl
  | n + 2 => rfl

end
end Sys2Proof.Machine

namespace Sys2Proof.Machine

/-! ### The effect of a store (R457) -/

section
variable (s : State) (n : Nat)

/-- A store that ends: the copy not in use holds the set, and is in use. -/
def State.storeDone : State :=
  ((((((s.storeRead n).modKeep (fun k => k.stored (s.get Reg.setCopy == 0) ⟨true, s.storeGeneration, (s.storeRead n).setEntries⟩)).set
    Reg.setCopy 0 (b2n (s.get Reg.setCopy == 0))).set Reg.setGeneration 0 s.storeGeneration).withdraw 0 0x0FA).withdraw 0 0x0FB)

/-- A store that fails: the copy not in use is not correct. -/
def State.storeSpoiled : State := ((s.storeRead n).modKeep (fun k => k.spoiled (s.get Reg.setCopy == 0))).raise 0 0x0FB 0

theorem State.frame_storeDone : (s.storeDone n).outside .stores = s.outside .stores := by
  rw [State.storeDone, State.frame_withdraw _ _ _ (by decide), State.frame_withdraw _ _ _ (by decide), State.outside_set _ _ _ _ _ (by decide),
    State.outside_set _ _ _ _ _ (by decide), State.outside_modKeep _ _ _ (by decide), State.frame_storeRead]

theorem State.frame_storeSpoiled : (s.storeSpoiled n).outside .stores = s.outside .stores := by
  rw [State.storeSpoiled, State.frame_raise _ _ _ _ (by decide), State.outside_modKeep _ _ _ (by decide), State.frame_storeRead]

theorem State.storeDone_effect : (s.storeDone n).get Reg.setCopy = b2n (s.get Reg.setCopy == 0) ∧
    (s.storeDone n).get Reg.setGeneration = s.storeGeneration ∧
    (s.storeDone n).keep = s.keep.stored (s.get Reg.setCopy == 0) ⟨true, s.storeGeneration, (s.storeRead n).setEntries⟩ := by
  have quiet (a : State) : ((a.withdraw 0 0x0FA).withdraw 0 0x0FB).outside .event = a.outside .event :=
    (State.event_withdraw _ _ _).trans (State.event_withdraw _ _ _)
  rw [State.storeDone]
  refine ⟨?_, ?_, ?_⟩
  · rw [State.get_of_outside (quiet _) _ _ (by decide), State.get_set_register _ _ _ _ (by decide), State.get_set_same]
  · rw [State.get_of_outside (quiet _) _ _ (by decide), State.get_set_same]
  · rw [State.keep_of_outside (quiet _) (by decide)]
    rfl

theorem State.storeSpoiled_effect : (s.storeSpoiled n).get Reg.setCopy = s.get Reg.setCopy ∧
    (s.storeSpoiled n).keep = s.keep.spoiled (s.get Reg.setCopy == 0) := by
  rw [State.storeSpoiled]
  refine ⟨?_, ?_⟩
  · rw [State.get_of_outside (State.event_raise _ _ _ _) _ _ (by decide)]
    exact State.storeRead_get s n 0 (by decide) (by decide)
  · rw [State.keep_of_outside (State.event_raise _ _ _ _) (by decide)]
    rfl

end

section
variable {s : State} {p : Path} {n : Nat} {failed : Bool}

theorem State.apply_store {v : State} {a : Abort} (stored : (s.taken p).storeSet n failed = (v, a)) :
    (s.taken p).applyWrite p (.direct p) (.store n failed) ⟨Reg.lexCommand, 0, 0, .u8, .wo, 0, (.between 1 3), 127, .none⟩ 0 [1] = (v, a) :=
  (State.apply_lexCommand (s.taken p) p (.direct p) (.store n failed) 0 [1]).trans stored

variable (h : s.allows (.store p n failed) = true)
include h

theorem exec_store_done (whole : failed = false) (high : s.keepLow = false) : exec (.store p n failed) s = .next (s.after
    (((s.taken p).storeDone n).emit (.lexAnswer p 0 []))) := by
  have idle : ((s.taken p).storeDone n).lexicon.config = none :=
    (State.config_of_outside (State.frame_storeDone _ n) (by decide)).trans (State.config_taken s p h)
  have applied := State.apply_store (State.storeSet_writes (s.taken p) (n := n) whole ((State.keepLow_taken s p).trans high))
  rw [← State.storeDone] at applied
  generalize (s.taken p).storeDone n = v at idle applied
  rw [exec_store, execStore]
  exact State.direct_ok s (requestOf_store p n failed) h Reg.lookup_lexCommand applied idle

theorem exec_store_spoiled (bad : failed = true ∨ s.keepLow = true) : exec (.store p n failed) s = .next (s.after
    ((((s.taken p).storeSpoiled n).bump Reg.lexAborts).emit (.lexAnswer p Abort.storeFail.code []))) := by
  have idle : ((s.taken p).storeSpoiled n).lexicon.config = none :=
    (State.config_of_outside (State.frame_storeSpoiled _ n) (by decide)).trans (State.config_taken s p h)
  have applied := State.apply_store (State.storeSet_fails (s.taken p) (n := n) (bad.imp_right (State.keepLow_taken s p).trans))
  rw [← State.storeSpoiled] at applied
  generalize (s.taken p).storeSpoiled n = v at idle applied
  rw [exec_store, execStore]
  exact State.direct_refused s (requestOf_store p n failed) h Reg.lookup_lexCommand applied (by decide) (by decide) idle

end

theorem State.storeGeneration_taken (s : State) (p : Path) : (s.taken p).storeGeneration = s.storeGeneration := by
  rw [State.storeGeneration, State.copyInUse, State.get_taken s p _ _ (by decide), State.keep_taken]
  rfl

theorem Keep.stored_if (k : Keep) (v : Nat) (c : StoredCopy) :
    k.stored (v == 0) c = if v = 0 then { k with copyB := c } else { k with copyA := c } := by
  by_cases zero : v = 0
  · rw [if_pos zero, zero]; rfl
  · rw [if_neg zero, beq_eq_false_iff_ne.mpr zero]; rfl

theorem Keep.spoiled_if (k : Keep) (v : Nat) : k.spoiled (v == 0) =
    if v = 0 then { k with copyB := { k.copyB with correct := false } } else { k with copyA := { k.copyA with correct := false } } := by
  by_cases zero : v = 0
  · rw [if_pos zero, zero]; rfl
  · rw [if_neg zero, beq_eq_false_iff_ne.mpr zero]; rfl

theorem b2n_zero (v : Nat) : b2n (v == 0) = if v = 0 then 1 else 0 := by
  by_cases zero : v = 0
  · rw [if_pos zero, zero]; rfl
  · rw [if_neg zero, beq_eq_false_iff_ne.mpr zero]; rfl

/-- What a store that ends leaves. -/
theorem store_done {s : State} {p : Path} {n : Nat} : ∃ copy,
    copy = StoredCopy.mk true (((s.taken p).storeDone n).get Reg.setGeneration) s.setEntries ∧
    ((s.taken p).storeDone n).get Reg.setCopy = (if s.get Reg.setCopy = 0 then 1 else 0) ∧
    ((s.taken p).storeDone n).keep = (if s.get Reg.setCopy = 0 then { s.keep with copyB := copy } else { s.keep with copyA := copy }) ∧
    ((s.taken p).storeDone n).get Reg.setGeneration = s.storeGeneration := by
  obtain ⟨copy, generation, keep⟩ := State.storeDone_effect (s.taken p) n
  rw [State.get_taken s p _ _ (by decide), b2n_zero] at copy
  rw [State.storeGeneration_taken] at generation
  rw [State.setEntries_store, State.storeGeneration_taken, State.keep_taken, State.get_taken s p _ _ (by decide), Keep.stored_if] at keep
  exact ⟨⟨true, s.storeGeneration, s.setEntries⟩, by rw [generation], copy, keep, generation⟩

/-- Settles O57: a plain register is written as it is, a store is its two ends, whose entries what is not stored does not move
(`storedOf_besides`), and FORMAT and RELOAD leave the Lexicon free to answer. -/
theorem theSetIsKept : Obligations.TheSetIsKept := by
  unfold Obligations.TheSetIsKept
  intro p s u taken
  refine ⟨fun index row b o k h found => ⟨fun acc plain => ?_, fun plain => ?_, fun wakes => ?_, fun late => ?_⟩, fun n failed h => ?_,
    fun h => ?_, fun h first second => ?_, fun copy plain v h found kept set => ?_⟩
  · exact taken ▸ exec_registerWrite_readOnly h found acc plain
  · exact taken ▸ exec_registerWrite_plain h found plain
  · exact taken ▸ exec_registerWrite_wake h found wakes
  · exact taken ▸ exec_registerWrite_late h found late
  · have request := State.request_taken s p
    by_cases bad : failed = true ∨ s.keepLow = true
    · have effect := exec_store_spoiled h bad
      have frame := State.frame_storeSpoiled (s.taken p) n
      obtain ⟨copy, keep⟩ := State.storeSpoiled_effect (s.taken p) n
      rw [State.get_taken s p _ _ (by decide)] at copy
      rw [State.keep_taken, State.get_taken s p _ _ (by decide), Keep.spoiled_if] at keep
      generalize (s.taken p).storeSpoiled n = v at *
      refine ⟨_, effect, fun whole high => absurd bad (by simp [whole, high]), fun _ => ⟨?_, State.answered_after s _ p .storeFail, keep⟩, ?_⟩
      · exact (State.get_set_register v 0 _ 0 (by decide)).trans copy
      · refine State.changesOnly_after _ _ ?_
        have answered : ((v.bump Reg.lexAborts).emit (.lexAnswer p Abort.storeFail.code [])).outside .stores = v.outside .stores := by
          rw [State.outside_emit _ _ _ (by decide), State.outside_bump _ _ _ _ _ (by decide)]
        exact (answered.trans frame).trans (State.outside_le (by decide) request)
    · obtain ⟨whole, high⟩ := not_or.mp bad
      have effect := exec_store_done h (eq_false_of_ne_true whole) (eq_false_of_ne_true high)
      have frame := State.frame_storeDone (s.taken p) n
      obtain ⟨copy, entries, use, keep, generation⟩ := store_done (s := s) (p := p) (n := n)
      generalize (s.taken p).storeDone n = v at *
      refine ⟨_, effect, fun _ _ => ⟨copy, entries, use, keep, generation.trans (State.storeGeneration_eq s), State.answered_after s v p .ok⟩,
        fun fails => absurd fails bad, ?_⟩
      refine State.changesOnly_after _ _ ?_
      have answered : (v.emit (.lexAnswer p 0 [])).outside .stores = v.outside .stores := State.outside_emit _ _ _ (by decide)
      exact (answered.trans frame).trans (State.outside_le (by decide) request)
  · exact taken ▸ exec_lexFormat_allowed h
  · have none : u.copyInUse = none := by
      rw [taken]
      exact State.copyInUse_other (by rwa [State.get_taken s p _ _ (by decide)]) (by rwa [State.get_taken s p _ _ (by decide)])
    rw [exec_reload_allowed h, ← taken, State.reloadSet_none none]
  · rw [exec_reload_allowed h, ← taken, State.reloadSet_copy found, set, kept]

end Sys2Proof.Machine
